-- ==== Sys2Proof/Word.lean ====
section
/-! DEFINITION. The words of the part: bytes, 32-bit lane registers, 64-bit registers and instruction words. -/

namespace Sys2Proof

/-- A byte of any memory. -/
abbrev Byte := BitVec 8
/-- A 16-bit element (BF16, FP16). -/
abbrev Half := BitVec 16
/-- A lane register (R125), an FP32 value, an accumulator word. -/
abbrev Word := BitVec 32
/-- A register of region 0x8 (R520), an instruction word (R122), a register pair. -/
abbrev Dword := BitVec 64

end Sys2Proof
end

