-- ==== Sys2Proof/Syntax.lean ====
section
/-! DEFINITION. The commands of the part: one constructor per row of the table of operations and events. The operands of a
command are what its rule lets vary: the unit it happens at, what arrives there, and the physical causes (a failing check, a
sample, a training result) that the spec does not compute. -/

namespace Sys2Proof

/-- A stack of the part (R8). -/
abbrev StackNo := Fin 4
/-- A physical core id, or the id of a position or bay (R21). -/
abbrev PhysId := Fin 864

/-- The operand of a command that happens at a stack as a whole. -/
structure AtStack where
  stack : StackNo
  deriving DecidableEq, Repr

/-- A kernel instruction issued: the stack, the logical index whose core issues, the group slot (R86), and for a dual group the
lane whose two copies disagree, if one does (R119). The instruction word is the one at the group's program counter (R123). -/
structure KInstr where
  stack : StackNo
  core  : Fin 832
  slot  : Fin 48
  disagree : Option (Fin 32) := none
  deriving DecidableEq, Repr

/-- The operand of an event at a logical index of a stack. -/
structure AtCore where
  stack : StackNo
  core  : Fin 832
  deriving DecidableEq, Repr

/-- A row through the matrix array: the root values that a fault of the array alters, by index (0 to 63; imaginary parts 64 to 127)
with the bits that flip (R183). -/
structure RowPass where
  stack : StackNo
  core  : Fin 832
  flips : List (Fin 128 × Dword) := []
  deriving DecidableEq, Repr

/-- The operand of an event at a Cabinet: 0 west, 1 east. -/
structure AtCab where
  stack : StackNo
  cab   : Fin 2
  deriving DecidableEq, Repr

/-- The nth keyed operation on its way to a Cabinet. -/
structure CabNth where
  stack : StackNo
  cab   : Fin 2
  nth   : Nat
  deriving DecidableEq, Repr

/-- A token or credit that reaches its receiver: a core by logical index, or 0x3C0 + c for mover channel c (R401); the sender's SDID and
the word of Table EX-10. -/
structure WordAt where
  stack : StackNo
  core  : Fin 1024
  sdid  : Half
  word  : Dword
  deriving DecidableEq, Repr

/-- Signals that reach one sync object in one step: its handle, (n, f) of each, f zero for a plain one,
and the stack that they come from (R51, R63, R64). -/
structure SignalsAt where
  stack   : StackNo
  handle  : Word
  signals : List (Half × Half)
  source  : StackNo
  deriving DecidableEq, Repr

/-- The operand of an event at a sync object. -/
structure AtObject where
  stack  : StackNo
  object : Fin 8192
  deriving DecidableEq, Repr

/-- The operand of an event at the nth of something on a stack. -/
structure StackNth where
  stack : StackNo
  nth   : Nat
  deriving DecidableEq, Repr

/-- A barrier of a block slot of a core (R100). -/
structure AtBarrier where
  stack   : StackNo
  core    : Fin 832
  slot    : Fin 16
  barrier : Fin 4
  deriving DecidableEq, Repr

/-- The operand of an event at a group slot of a core. -/
structure AtGroup where
  stack : StackNo
  core  : Fin 832
  slot  : Fin 48
  deriving DecidableEq, Repr

/-- Who makes an access to memory (Table RG-2). -/
inductive Requester where
  | kernel (core : Fin 832) | mover (ch : Fin 64) | host | cabinet (c : Fin 2) | twin | bureau
  deriving DecidableEq, Repr

/-- An access on its way to the home of its bytes: a read of len bytes at a device address, or a write of data there. -/
structure MemAcc where
  unit : Requester
  addr : BitVec 52
  len  : Fin 4096
  data : Option (List Byte) := none
  deriving DecidableEq, Repr

/-- A request performed at the home of its bytes: the nth store on its way from a core, or an access of any unit. -/
inductive HomeReq where
  | store (stack : StackNo) (core : Fin 832) (nth : Nat)
  | access (a : MemAcc)
  deriving DecidableEq, Repr

/-- A line of 128 bytes of region 0x4 of a stack: its offset divided by 128. -/
structure LineAt where
  stack : StackNo
  line  : BitVec 39
  deriving DecidableEq, Repr

/-- The operand of an event at a shelf. -/
structure AtShelf where
  stack : StackNo
  shelf : Fin 64
  deriving DecidableEq, Repr

/-- The operand of an event at a core position. -/
structure AtPosition where
  stack    : StackNo
  position : PhysId
  deriving DecidableEq, Repr

/-- The operand of an event at a coupler group of a port (R282). -/
structure AtPortGroup where
  stack    : StackNo
  position : PhysId
  group    : Fin 32
  deriving DecidableEq, Repr

/-- A handshake that times out: its group, 0 to 31, or 32 and 33 for the read and write service groups of the position (R282, R296), and an address in
the row transfer that it leaves incomplete, if one is under way (R285, R288). -/
structure GroupTimeout where
  stack    : StackNo
  position : PhysId
  group    : Fin 34
  row      : Option (BitVec 52) := none
  deriving DecidableEq, Repr

/-- The end of a spare mapping, with the couplers that failed while it ran (R291, Table VC-4). -/
structure SpareMapEnd where
  stack    : StackNo
  position : PhysId
  group    : Fin 32
  more     : List (Fin 88) := []
  deriving DecidableEq, Repr

/-- A read-direction chunk that a core receives: an address in its granule, which gives its number in the row transfer and so its group (R283), the
flips of each byte and of its check bits on the port, or a handshake mismatch (R285, R287); or a chunk of the read service group (R296). -/
structure ChunkIn where
  stack    : StackNo
  position : PhysId
  addr     : BitVec 52
  flips    : List (Byte × BitVec 2) := []
  mismatch : Bool := false
  service  : Bool := false
  deriving DecidableEq, Repr

/-- A write transfer that the cache die receives: the address of its first byte, each byte with the difference of its check bits from those of R304
(R289, R290), the chunk whose handshake mismatches (R285), and whether the token and credit unit sends it; or a chunk of the write service group
(R296). -/
structure ChunkOut where
  stack     : StackNo
  position  : PhysId
  addr      : BitVec 52
  bytes     : List (Byte × BitVec 2)
  mismatch  : Option (Fin 32) := none
  tokenUnit : Bool := false
  service   : Bool := false
  deriving DecidableEq, Repr

/-- A port reset with the reads it meets on their way: position and device address of each (R301). -/
structure PortResetAt where
  stack : StackNo
  reads : List (PhysId × BitVec 52) := []
  deriving DecidableEq, Repr

/-- A device link of a stack, or a bridge link: port × 4 + its number within the port (R335, R362). -/
inductive LinkSel where
  | device (n : Fin 24) | bridge (b : Fin 8)
  deriving DecidableEq, Repr

/-- The result of one attempt to train or retrain (Table LK-2): whether the steps but qualification succeeded, the lanes that failed
qualification, and what the peer gave at step 7. -/
structure TrainResult where
  stack  : StackNo
  link   : LinkSel
  ok     : Bool
  failed : List (Fin 17) := []
  sdid   : Half
  peerStack : StackNo
  peerLink  : Fin 24
  serial : Word
  deriving DecidableEq, Repr

/-- The operand of an event at a device link or bridge link. -/
structure AtLink where
  stack : StackNo
  link  : LinkSel
  deriving DecidableEq, Repr

/-- A signal detect retried by a link in PEER_LOST: whether it sees a signal. -/
structure SignalRetry where
  stack : StackNo
  link  : Fin 24
  seen  : Bool
  deriving DecidableEq, Repr

/-- The end of a 1 ms window of a link: FEC symbol errors of lanes 0 to 8, uncorrectable codewords. -/
structure LaneWindow where
  stack : StackNo
  link  : Fin 24
  lanes : List Word
  lost  : Word := 0
  deriving DecidableEq, Repr

/-- What every received flit carries (Table LK-4), and whether its CRC passes. -/
structure FlitHead where
  stack : StackNo
  link  : Fin 24
  seq   : Fin 4096
  ack   : Fin 4096
  nak   : Bool := false
  crcOk : Bool := true
  deriving DecidableEq, Repr

/-- A received flit that no other command carries: an IDLE flit, TYPE 0, or one of a reserved type (Table LK-5). -/
structure IdleIn where
  head : FlitHead
  typ  : Fin 16 := 0
  deriving DecidableEq, Repr

/-- A received flit with a payload (Table LK-4). -/
structure FlitIn where
  head    : FlitHead
  first   : Bool := true
  last    : Bool := true
  packed  : Bool := false
  len     : Fin 513
  route   : Fin 16384
  addr    : BitVec 52
  payload : List Byte
  deriving DecidableEq, Repr

/-- A received CONTROL flit: the argument in its bytes 8 to 15 (Table LK-5). -/
structure ControlIn where
  head : FlitHead
  arg  : Dword
  deriving DecidableEq, Repr

/-- A received HEARTBEAT (R368, R369): the twin's SDID, the epoch that closes and the bytes of its log, the twin's state. -/
structure HeartbeatIn where
  head  : FlitHead
  sdid  : Half
  epoch : Word
  bytes : Word
  state : Fin 8
  deriving DecidableEq, Repr

/-- The end of a pattern test: bit errors of lanes 0 to 8. -/
structure PatternResult where
  stack : StackNo
  link  : Fin 24
  lanes : List Word
  deriving DecidableEq, Repr

/-- The end of a margin scan: error-free steps in each direction (R360). -/
structure MarginResult where
  stack : StackNo
  link  : Fin 24
  left  : Fin 64
  right : Fin 64
  up    : Fin 64
  down  : Fin 64
  deriving DecidableEq, Repr

/-- The operand of an event at a mover channel. -/
structure AtChannel where
  stack   : StackNo
  channel : Fin 64
  deriving DecidableEq, Repr

/-- How the host answers the reads that a descriptor makes of host memory: well; with the EP bit on the completion of a source row; or
with an error from a row on (R382, Table HM-3). -/
inductive HostReply where
  | ok
  | poisoned (row : Nat)
  | unsupported (row : Nat) | aborted (row : Nat) | timedOut (row : Nat)
  deriving DecidableEq, Repr

/-- A step of a mover channel that may move the data of its descriptor. -/
structure MoverRun where
  stack   : StackNo
  channel : Fin 64
  reply   : HostReply := .ok
  deriving DecidableEq, Repr

/-- A host read through the BAR4 window. -/
structure Bar4Read where
  offset : BitVec 36
  len    : Fin 4097
  deriving DecidableEq, Repr

/-- A host write through the BAR4 window, with the EP bit of its request (R382). -/
structure Bar4Write where
  offset : BitVec 36
  data   : List Byte
  ep     : Bool := false
  deriving DecidableEq, Repr

/-- An MSI-X vector. -/
structure AtVector where
  vector : Fin 2048
  deriving DecidableEq, Repr

/-- An interrupt source (Table EV-1). -/
structure AtSource where
  stack  : StackNo
  source : Fin 1024
  deriving DecidableEq, Repr

/-- A target of the interrupt controller. -/
structure AtTarget where
  stack  : StackNo
  target : Fin 4
  deriving DecidableEq, Repr

/-- A completion written by a target. -/
structure Completion where
  stack  : StackNo
  target : Fin 4
  source : Fin 1024
  deriving DecidableEq, Repr

/-- A crossing that resynchronises: the entries that its FIFO held, and the events that are sent again and merge (R445, R447). -/
structure CrossingReset where
  stack    : StackNo
  crossing : Fin 30
  entries  : Half
  repeats  : Half
  deriving DecidableEq, Repr

/-- A request of a real-time master served late: its class, its latency in units of 10 ns, the level its class then asserts (R441, R442). -/
structure LateRequest where
  stack   : StackNo
  cls     : Fin 4
  latency : Half
  level   : Fin 4
  deriving DecidableEq, Repr

/-- A Bureau timer. -/
structure AtTimer where
  stack : StackNo
  timer : Fin 8
  deriving DecidableEq, Repr

/-- A message to the Bureau of a stack from the Bureau of another (Table EV-1, source 9). -/
structure BureauMessage where
  stack  : StackNo
  sender : StackNo
  deriving DecidableEq, Repr

/-- A 1 µs average of a grid region's current, in units of 0.5 A (R477). -/
structure RegionDraw where
  stack  : StackNo
  region : Fin 16
  draw   : Fin 1024
  deriving DecidableEq, Repr

/-- The end of the wait of step 1 of a core wake, after so many µs (R478). -/
structure WakeWait where
  stack    : StackNo
  position : PhysId
  us       : Fin 201
  deriving DecidableEq, Repr

/-- PMBUS_ALERT_N with what the regulator of a rail then answers: STATUS_WORD, READ_IOUT in 0.1 A, and whether it reports a fault. -/
structure RailAlert where
  stack : StackNo
  rail  : Fin 10
  word  : Half
  iout  : Half
  fault : Bool
  deriving DecidableEq, Repr

/-- What a housekeeping sample of a channel gives (R492, R494): a temperature in 0.125 °C, or an open or short (a base-emitter voltage outside
0.3 V to 0.9 V). Of channel 56, whether the reference reads within 1%. -/
inductive Reading where
  | temp (t : Half) | bad | reference (ok : Bool)
  deriving DecidableEq, Repr

/-- What a housekeeping slot samples (R471, R492): a channel in the normal round or in a fast slot, or a rail, in mV. -/
inductive Sample where
  | channel (c : Fin 64) (fast : Bool) (r : Reading)
  | rail (i : Fin 10) (mv : Half)
  deriving DecidableEq, Repr

structure AdcSample where
  stack  : StackNo
  sample : Sample
  deriving DecidableEq, Repr

/-- The ratio check of the diode channels (R494): those that fail it. -/
structure DiodeCheck where
  stack  : StackNo
  failed : List (Fin 48)
  deriving DecidableEq, Repr

/-- A diode site whose comparator trips (R503). -/
structure DiodeSite where
  stack : StackNo
  site  : Fin 48
  deriving DecidableEq, Repr

/-- A refresh of an LPDDR5X channel that falls due, with the multiplier that the device's mode register 4 asks for (R393). -/
structure RefreshAt where
  stack   : StackNo
  channel : Fin 32
  mr4     : Fin 8
  deriving DecidableEq, Repr

/-- How a Skipper test ends (Table IN-5): every cell, coupler or unit passes; a row or unit fails, with the bytes of a row that failed beyond
those whose stored check fails; or couplers of a group fail. -/
inductive TestResult where
  | pass
  | fails (bytes : List (Fin 256))
  | couplers (l : List (Fin 88))
  deriving DecidableEq, Repr

/-- The end of the nth running Skipper test, after so many µs. -/
structure TestEnd where
  stack  : StackNo
  nth    : Fin 16
  result : TestResult
  us     : Half
  deriving DecidableEq, Repr

/-- A step of the Hawkmoth of a half: whether an unmapped spare row that it reads fails (R325). -/
structure HawkStep where
  stack : StackNo
  half  : Fin 2
  spareFails : Bool := false
  deriving DecidableEq, Repr

/-- A half of a cache die: 0 west, 1 east. -/
structure AtHalf where
  stack : StackNo
  half  : Fin 2
  deriving DecidableEq, Repr

/-- The saved items of Table PW-5. -/
inductive SavedItem where
  | intc | power | coreMap | spares | cache | logs | links | routes | licences | directory | shelves
  deriving DecidableEq, Repr

/-- What one stage of a start finds on one stack: its duration in µs; ports that do not train and couplers that fail (R298); whether the
fabric's self-test passes; rows that fail the march sample, by bay, slice and row, 512 to 519 the spare rows (R460); rate and capacity of the
board configuration, and the channel whose training fails three times (R392); cores that fail the self-check and rows of core memories that fail it,
by structure of Table IN-5 and INDEX (R461); whether a warm step ran in its cold form (R467). -/
structure StackStage where
  us       : Word := 0
  ports    : List PhysId := []
  couplers : List (PhysId × Fin 32 × List (Fin 88)) := []
  fabric   : Bool := true
  rows     : List (PhysId × Fin 16 × Fin 520) := []
  tierRate : Fin 3 := 0
  tierCap  : Fin 3 := 0
  tierFails : Option (Fin 32) := none
  cores    : List PhysId := []
  coreRows : List (Fin 16 × BitVec 28) := []
  fellBack : Bool := false
  deriving DecidableEq, Repr

/-- The end of the running stage on every stack, stack 0 first, and the start of the next (R455). -/
structure StageEnd where
  results : List StackStage := []
  deriving DecidableEq, Repr

/-- A block of 4 KiB of the firmware image that a subordinate stack receives, and whether its CRC-32 passes (R458). -/
structure ImageBlock where
  stack : StackNo
  index : Fin 256
  crcOk : Bool
  deriving DecidableEq, Repr

/-- A stage message over a boot-mode lane (R459): a report that a stack has ended its stage, or a release to it; whether its CRC-32 passes. -/
structure StageMessage where
  stack   : StackNo
  release : Bool
  crcOk   : Bool
  deriving DecidableEq, Repr

/-- The wake sources (R487). -/
inductive WakeSource where
  | rtc | pin | pcie
  deriving DecidableEq, Repr

/-- An edge of a wake source in Stop; one that arrived during the entry (R488). -/
structure WakeEdge where
  source  : WakeSource
  atEntry : Bool := false
  deriving DecidableEq, Repr

/-- The next step of a wake (Table PW-6): what the stage that ends found, and the saved items that fail their check, by stack (R486). -/
structure WakeStep where
  results : List StackStage := []
  failed  : List (List SavedItem) := []
  deriving DecidableEq, Repr

/-- Which half of its register an access of 4 bytes addresses, or the whole register (R524). -/
inductive RegHalf where
  | lo | hi | full
  deriving DecidableEq, Repr

/-- A host write to a register: the half it addresses and its data, in the low 32 bits for a half (R523, R524). -/
structure RegW where
  half  : RegHalf := .full
  value : Dword := 0
  deriving DecidableEq, Repr

/-- A doorbell (R412), through BAR0 or through BAR2 (Table BU-2). -/
structure Doorbell where
  mailbox : Fin 64
  w       : RegW
  bar2    : Bool := false
  deriving DecidableEq, Repr

/-- A write to MBX_EVT_TAIL, through BAR0 or BAR2 (R511). -/
structure TailWrite where
  w    : RegW
  bar2 : Bool := false
  deriving DecidableEq, Repr

/-- A host write to a register of sync object n of the stack that HOST_STACK_SEL selects. -/
structure ObjWrite where
  object : Fin 8192
  w      : RegW
  deriving DecidableEq, Repr

/-- A host write to a register of one half of the cache die, or of one Cabinet: 0 west, 1 east. -/
structure HalfWrite where
  half : Fin 2
  w    : RegW
  deriving DecidableEq, Repr

/-- A host write to a register of a device link. -/
structure LinkWrite where
  link : Fin 24
  w    : RegW
  deriving DecidableEq, Repr

/-- A host write to CORE_POWER of a physical core. -/
structure CoreWrite where
  core : PhysId
  w    : RegW
  deriving DecidableEq, Repr

/-- A host write to a register of a housekeeping channel. -/
structure ChannelWrite where
  channel : Fin 64
  w       : RegW
  deriving DecidableEq, Repr

/-- A host write of `size` bytes through BAR0 at an offset of region 0x8, or through BAR2 at a BAR2 offset (R411, R523, R526). -/
structure Bar0Write where
  offset : BitVec 27
  size   : Fin 9
  value  : Dword
  bar2   : Bool := false
  deriving DecidableEq, Repr

/-- A host read of `size` bytes through BAR0, or through BAR2 at a BAR2 offset (R17, R523, R524). -/
structure HostRead where
  offset : BitVec 27
  size   : Fin 4097
  bar2   : Bool := false
  deriving DecidableEq, Repr

/-- A host write of bytes into the request buffer of a mailbox, with the EP bit of the request (R382, R412). -/
structure RequestWrite where
  mailbox : Fin 64
  offset  : Fin 4096
  data    : List Byte
  ep      : Bool := false
  deriving DecidableEq, Repr

/-- An I3C private write of one byte to the target of a stack (R546). -/
structure I3cWrite where
  stack : StackNo
  value : Byte
  deriving DecidableEq, Repr

/-- An instruction loaded into the 8-bit instruction register of the TAP of a stack (R555). -/
structure TapInstr where
  stack : StackNo
  code  : Byte
  deriving DecidableEq, Repr

/-- Rate, width and FLIT mode that PCIe training ends with; rate 0 for a link that is down (HOST_LINK_STATUS). -/
structure PcieTrained where
  rate  : Fin 7
  width : Fin 17
  flit  : Bool
  deriving DecidableEq, Repr

/-- The commands of the part: one constructor per row of the table of operations and events (spec/opcode_table.json). -/
inductive Instr where
  /-- NOP (R144): Kernel instruction that does nothing for one step -/
  | nop (a : KInstr)
  /-- BRA (R95): Conditional branch with a reconvergence point; on disagreement the group pushes the divergence stack and runs the not-taken lanes first -/
  | bra (a : KInstr)
  /-- BRX (R96): Indirect branch whose per-lane targets form paths run in ascending target order after the fall-through path -/
  | brx (a : KInstr)
  /-- EXIT (R94): Guarded-true lanes leave the group for the rest of the launch -/
  | exit (a : KInstr)
  /-- TRAP (R144): Faults with TRAP when any lane is active with a true guard -/
  | trap (a : KInstr)
  /-- IADD (R129): Integer add, wrapping, 32 or 64 bits -/
  | iadd (a : KInstr)
  /-- ISUB (R129): Integer subtract, wrapping -/
  | isub (a : KInstr)
  /-- IMUL_LO (R129): Low half of an integer product -/
  | imulLo (a : KInstr)
  /-- IMUL_HI_U (R129): High half of the unsigned 32-bit product -/
  | imulHiU (a : KInstr)
  /-- IMUL_HI_S (R129): High half of the signed 32-bit product -/
  | imulHiS (a : KInstr)
  /-- IMAD (R129): Integer multiply-add, low 32 bits -/
  | imad (a : KInstr)
  /-- IDIV_U (R129): Unsigned division with defined result for a zero divisor -/
  | idivU (a : KInstr)
  /-- IDIV_S (R129): Signed division truncating toward zero with defined special cases -/
  | idivS (a : KInstr)
  /-- IREM_U (R129): Unsigned remainder -/
  | iremU (a : KInstr)
  /-- IREM_S (R129): Signed remainder -/
  | iremS (a : KInstr)
  /-- IMIN_S (R129): Signed integer minimum -/
  | iminS (a : KInstr)
  /-- IMIN_U (R129): Unsigned integer minimum -/
  | iminU (a : KInstr)
  /-- IMAX_S (R129): Signed integer maximum -/
  | imaxS (a : KInstr)
  /-- IMAX_U (R129): Unsigned integer maximum -/
  | imaxU (a : KInstr)
  /-- AND (R129): Bitwise AND -/
  | and (a : KInstr)
  /-- OR (R129): Bitwise OR -/
  | or (a : KInstr)
  /-- XOR (R129): Bitwise XOR -/
  | xor (a : KInstr)
  /-- NOT (R129): Bitwise complement -/
  | not (a : KInstr)
  /-- SHL (R129): Shift left, counts at or above the width give 0 -/
  | shl (a : KInstr)
  /-- SHR_U (R129): Logical shift right -/
  | shrU (a : KInstr)
  /-- SHR_S (R129): Arithmetic shift right with sign fill -/
  | shrS (a : KInstr)
  /-- POPC (R129): Population count -/
  | popc (a : KInstr)
  /-- CLZ (R129): Count of leading zeros -/
  | clz (a : KInstr)
  /-- BREV (R129): Bit reversal -/
  | brev (a : KInstr)
  /-- FADD (R130): binary32 add with selected rounding -/
  | fadd (a : KInstr)
  /-- FSUB (R130): binary32 subtract -/
  | fsub (a : KInstr)
  /-- FMUL (R130): binary32 multiply -/
  | fmul (a : KInstr)
  /-- FFMA (R130): binary32 fused multiply-add with one rounding -/
  | ffma (a : KInstr)
  /-- FMIN (R130): binary32 minimum with -0 below +0 -/
  | fmin (a : KInstr)
  /-- FMAX (R130): binary32 maximum with +0 above -0 -/
  | fmax (a : KInstr)
  /-- HADD2 (R131): Packed BF16 add on both elements -/
  | hadd2 (a : KInstr)
  /-- HMUL2 (R131): Packed BF16 multiply -/
  | hmul2 (a : KInstr)
  /-- HFMA2 (R131): Packed BF16 fused multiply-add -/
  | hfma2 (a : KInstr)
  /-- HMIN2 (R131): Packed BF16 minimum -/
  | hmin2 (a : KInstr)
  /-- HMAX2 (R131): Packed BF16 maximum -/
  | hmax2 (a : KInstr)
  /-- EX2 (R212): Bit-defined base-2 exponential -/
  | ex2 (a : KInstr)
  /-- LG2 (R558): Bit-defined base-2 logarithm -/
  | lg2 (a : KInstr)
  /-- RCP (R214): Bit-defined reciprocal -/
  | rcp (a : KInstr)
  /-- RSQ (R558): Bit-defined reciprocal square root -/
  | rsq (a : KInstr)
  /-- SIN (R558): Bit-defined sine -/
  | sin (a : KInstr)
  /-- COS (R558): Bit-defined cosine -/
  | cos (a : KInstr)
  /-- F32_S32 (R133): Convert signed 32-bit integer to FP32 -/
  | f32S32 (a : KInstr)
  /-- F32_U32 (R133): Convert unsigned 32-bit integer to FP32 -/
  | f32U32 (a : KInstr)
  /-- S32_F32 (R133): Convert FP32 to signed integer with saturation -/
  | s32F32 (a : KInstr)
  /-- U32_F32 (R133): Convert FP32 to unsigned integer with saturation -/
  | u32F32 (a : KInstr)
  /-- BF16_F32 (R133): Narrow FP32 to BF16 -/
  | bf16F32 (a : KInstr)
  /-- F32_BF16 (R133): Widen BF16 to FP32 exactly -/
  | f32Bf16 (a : KInstr)
  /-- F16_F32 (R133): Narrow FP32 to FP16 -/
  | f16F32 (a : KInstr)
  /-- F32_F16 (R133): Widen FP16 to FP32 exactly -/
  | f32F16 (a : KInstr)
  /-- E4M3_F32 (R133): Narrow FP32 to E4M3 with saturation to 448 -/
  | e4m3F32 (a : KInstr)
  /-- E4M3_BF16 (R133): Narrow BF16 to E4M3 -/
  | e4m3Bf16 (a : KInstr)
  /-- E4M3_F16 (R133): Narrow FP16 to E4M3 -/
  | e4m3F16 (a : KInstr)
  /-- E5M2_F32 (R133): Narrow FP32 to E5M2 with optional SAT -/
  | e5m2F32 (a : KInstr)
  /-- E5M2_BF16 (R133): Narrow BF16 to E5M2 with optional SAT -/
  | e5m2Bf16 (a : KInstr)
  /-- F32_E4M3 (R133): Widen E4M3 to FP32 exactly -/
  | f32E4m3 (a : KInstr)
  /-- F32_E5M2 (R133): Widen E5M2 to FP32 exactly -/
  | f32E5m2 (a : KInstr)
  /-- BF16_E4M3 (R133): Widen E4M3 to BF16 exactly -/
  | bf16E4m3 (a : KInstr)
  /-- BF16_E5M2 (R133): Widen E5M2 to BF16 exactly -/
  | bf16E5m2 (a : KInstr)
  /-- MOV (R134): Move a register or immediate -/
  | mov (a : KInstr)
  /-- SEL (R134): Select between two sources by a predicate -/
  | sel (a : KInstr)
  /-- PACK2 (R134): Pack two 16-bit halves -/
  | pack2 (a : KInstr)
  /-- PACK4 (R134): Pack four bytes -/
  | pack4 (a : KInstr)
  /-- S2R (R134): Read a special register; time values read zero unless READS_TIME -/
  | s2r (a : KInstr)
  /-- ISETP (R135): Integer compare into a predicate -/
  | isetp (a : KInstr)
  /-- FSETP (R135): Float compare into a predicate -/
  | fsetp (a : KInstr)
  /-- PLOP (R135): Predicate logic operation -/
  | plop (a : KInstr)
  /-- ELECT (R136): True in the lowest active lane with a true guard -/
  | elect (a : KInstr)
  /-- VOTE_ANY (R136): True if a predicate holds in any counted lane -/
  | voteAny (a : KInstr)
  /-- VOTE_ALL (R136): True if a predicate holds in every counted lane -/
  | voteAll (a : KInstr)
  /-- BALLOT (R136): Mask of counted lanes whose predicate is true -/
  | ballot (a : KInstr)
  /-- SHFL (R137): Read a register of another lane of the group -/
  | shfl (a : KInstr)
  /-- LD (R138): Load from local or device memory at its home -/
  | ld (a : KInstr)
  /-- ST (R139): Store to an allowed target, faulting outside its scope -/
  | st (a : KInstr)
  /-- ATOM_ADD (R140): Atomic integer add, combined per group and journalled -/
  | atomAdd (a : KInstr)
  /-- ATOM_MIN_S (R140): Atomic signed minimum -/
  | atomMinS (a : KInstr)
  /-- ATOM_MIN_U (R140): Atomic unsigned minimum -/
  | atomMinU (a : KInstr)
  /-- ATOM_MAX_S (R140): Atomic signed maximum -/
  | atomMaxS (a : KInstr)
  /-- ATOM_MAX_U (R140): Atomic unsigned maximum -/
  | atomMaxU (a : KInstr)
  /-- ATOM_AND (R140): Atomic AND -/
  | atomAnd (a : KInstr)
  /-- ATOM_OR (R140): Atomic OR -/
  | atomOr (a : KInstr)
  /-- ATOM_XOR (R140): Atomic XOR -/
  | atomXor (a : KInstr)
  /-- ATOM_XCH (R140): Atomic exchange -/
  | atomXch (a : KInstr)
  /-- ATOM_CAS (R140): Atomic compare-and-swap -/
  | atomCas (a : KInstr)
  /-- ATOM_FADD (R140): Atomic FP32 add, faulting NONDET_OP without UNORDERED_FP_ATOMICS -/
  | atomFadd (a : KInstr)
  /-- ATOM_ORD (R116): Ordered atomic: waits WAIT_EQ on a ticket, performs its requests and signals the object once -/
  | atomOrd (a : KInstr)
  /-- BAR_SYNC (R100): Arrive at a named block barrier -/
  | barSync (a : KInstr)
  /-- WAIT_GE (R63): Group waits until an own-stack sync count satisfies a threshold, then receives FAILED and FAIL_CODE -/
  | waitGe (a : KInstr)
  /-- WAIT_EQ (R63): Group waits until an own-stack sync count equals a value -/
  | waitEq (a : KInstr)
  /-- SIGNAL (R142): Stage a sync-object signal until commit -/
  | signal (a : KInstr)
  /-- SIGNAL_FAIL (R142): Stage a failing signal until commit -/
  | signalFail (a : KInstr)
  /-- CLEAR_FAIL (R142): Stage a clear of FAILED and FAIL_CODE on an own-stack object -/
  | clearFail (a : KInstr)
  /-- FENCE_CORE (R108): Order the thread's accesses for all threads of the core -/
  | fenceCore (a : KInstr)
  /-- FENCE_STACK (R108): Wait until earlier accesses are performed and acknowledged at their homes -/
  | fenceStack (a : KInstr)
  /-- FENCE_SYSTEM (R108): As FENCE_STACK plus acknowledgement of remote writes over links and bridges -/
  | fenceSystem (a : KInstr)
  /-- CACHE_DEAD (R143): Stage a dead-line declaration for a cache-partition line until commit -/
  | cacheDead (a : KInstr)
  /-- MX_LOADW (R153): Issue a weight tile load into the shadow bank -/
  | mxLoadw (a : KInstr)
  /-- MX_SWAP (R153): Issue an exchange of active and shadow weight banks -/
  | mxSwap (a : KInstr)
  /-- MX_STREAM (R152): Issue a stream of activation rows into accumulator rows -/
  | mxStream (a : KInstr)
  /-- MX_DRAIN (R174): Issue conversion of accumulator rows to local memory -/
  | mxDrain (a : KInstr)
  /-- MX_WAIT (R166): Hold the group until earlier MX and MXG operations complete -/
  | mxWait (a : KInstr)
  /-- MXG_LOADW (R175): Group-wide weight load from register fragments -/
  | mxgLoadw (a : KInstr)
  /-- MXG_STREAM (R176): Group-wide stream of up to 32 rows from register fragments -/
  | mxgStream (a : KInstr)
  /-- MXG_DRAIN (R176): Group-wide drain into register fragments -/
  | mxgDrain (a : KInstr)
  /-- ATT_BIAS (R207): Issue a load of a distance-bias table into a bias slot -/
  | attBias (a : KInstr)
  /-- ATT_SCORE (R210): Issue bias, mask and online softmax over score rows -/
  | attScore (a : KInstr)
  /-- ATT_NORM (R215): Issue final reciprocal scaling and log-sum-exp output -/
  | attNorm (a : KInstr)
  /-- ATT_PACK (R219): Issue packing of decode query rows and loading of the pack table -/
  | attPack (a : KInstr)
  /-- ATT_WAIT (R203): Hold the group until earlier ATT operations complete -/
  | attWait (a : KInstr)
  /-- KV_APPEND (R243): Quantise K and V rows into the stage and stage a keyed append until commit -/
  | kvAppend (a : KInstr)
  /-- KV_GATHER (R248): Ask the Cabinet to read and dequantise a position range at once -/
  | kvGather (a : KInstr)
  /-- KV_FORK (R238): Stage a keyed fork until commit -/
  | kvFork (a : KInstr)
  /-- KV_FREE (R238): Stage a keyed free until commit -/
  | kvFree (a : KInstr)
  /-- KV_TRUNC (R238): Stage a keyed truncation until commit -/
  | kvTrunc (a : KInstr)
  /-- KV_HINT (R238): Send a keyed prefetch hint to the Cabinet at issue -/
  | kvHint (a : KInstr)
  /-- KV_WAIT (R250): Hold the group until earlier gathers have written data and status -/
  | kvWait (a : KInstr)
  /-- SCRIPT_ENTRY_START (R52): A script entry starts when its predecessor finished, its tokens are present and its credits held -/
  | scriptEntryStart (a : AtCore)
  /-- BLOCK_DISPATCH (R92): Block b starts in slot b mod K once block b - K has exited -/
  | blockDispatch (a : AtCore)
  /-- SCRIPT_ENTRY_END (R165): An entry finishes when all its groups exited and its array operations completed -/
  | scriptEntryEnd (a : AtCore)
  /-- LOOP_END (R54): An end token on the loop's channel ends an unbounded loop and leads to commit -/
  | loopEnd (a : AtCore)
  /-- COMMIT (R71): Fence, STATE swap, control-record write, outbox and staged operations sent, commit count raised -/
  | commit (a : AtCore)
  /-- TOKEN_ARRIVAL (R58): A DATA or REDUCE token is checked against its route and sequence and accepted, held or dropped -/
  | tokenArrival (a : WordAt)
  /-- CREDIT_ARRIVAL (R58): A credit is checked against the producer's side and accepted, held or dropped -/
  | creditArrival (a : WordAt)
  /-- WORK_UNIT_REPLAY (R316): An aborted unit restarts, at once or after tests and restorations on its third abort -/
  | workUnitReplay (a : AtCore)
  /-- CORE_ABORT (R76): On abort each core stops at its next step boundary, finishing a commit past step 3 -/
  | coreAbort (a : AtCore)
  /-- PLAN_COMPLETE (R77): All cores ended, completion count met and bound channels stopped: the stack's plan completes -/
  | planComplete (a : AtStack)
  /-- KERNEL_FAULT (R148): The Bureau logs a core fault, aborts the plan on every stack and reports the event -/
  | kernelFault (a : AtCore)
  /-- SYNC_SIGNAL_ARRIVAL (R64): Signals reaching a sync object in one step are applied as one update -/
  | syncSignalArrival (a : SignalsAt)
  /-- SYNC_STALL (R67): Stall time reaching TIMEOUT_MS sets STALLED and raises SYNC_STALL -/
  | syncStall (a : AtObject)
  /-- NEAR_CACHE_INVALIDATE (R111): Pages turning writable are invalidated in every near cache and acknowledged -/
  | nearCacheInvalidate (a : AtStack)
  /-- RESHARD_START (R82): RELEASE reaching k + 1 starts the stack's reshard pulls on its movers -/
  | reshardStart (a : AtStack)
  /-- RESHARD_DESCRIPTOR_DONE (R83): A reshard pull with conversion completes and signals ENTRY -/
  | reshardDescriptorDone (a : StackNth)
  /-- BARRIER_STALL (R102): The barrier watchdog reaches 2^SHIFT steps without arrival and reports -/
  | barrierStall (a : AtBarrier)
  /-- HANDSHAKE_WATCHDOG (R329): A pipeline stage held 1 ms trips the watchdog, aborting the unit and testing core logic -/
  | handshakeWatchdog (a : AtCore)
  /-- ATOMIC_AT_HOME (R115): An atomic request is performed at its home in arrival order -/
  | atomicAtHome (a : AtGroup)
  /-- ACCESS_AT_HOME (R104): A load or store request is performed at the byte's home -/
  | accessAtHome (a : HomeReq)
  /-- ALLOCATING_ACCESS (R270): An allocating access to region 0x4 is looked up at its home set, filling a missing line -/
  | allocatingAccess (a : MemAcc)
  /-- STREAMING_ACCESS (R270): A streaming access is performed in a resident line or at backing memory without allocation -/
  | streamingAccess (a : MemAcc)
  /-- LINE_FILL_DONE (R270): A fill completes and held accesses to the line are performed in arrival order -/
  | lineFillDone (a : LineAt)
  /-- WRITEBACK_DONE (R272): A writeback completes and releases held accesses to the line -/
  | writebackDone (a : LineAt)
  /-- DEAD_DECLARATION (R276): A committed declaration removes the line without writeback and enters it in the dead table -/
  | deadDeclaration (a : LineAt)
  /-- THRASH_WINDOW (R275): Each 1 ms window closes and is classed quiet, low or other -/
  | thrashWindow (a : AtStack)
  /-- PARTITION_CHANGE_DONE (R281): Writeback, invalidation, new geometry and shelf refill end, BUSY clears and held accesses run -/
  | partitionChangeDone (a : AtStack)
  /-- SHELF_PIN_DONE (R273): The last line of a pinned range is resident and the pin completes -/
  | shelfPinDone (a : AtShelf)
  /-- MX_OP_START (R166): A queued array operation starts in issue order once its conditions hold -/
  | mxOpStart (a : AtCore)
  /-- LOADW_DONE (R153): The shadow bank and its checksum sums are full -/
  | loadwDone (a : AtCore)
  /-- ROW_ROOT (R180): A streamed row reaches the root, is rounded, checked against the checksum and accumulated -/
  | rowRoot (a : RowPass)
  /-- ROW_RECOMPUTE (R182): A mismatching floating row re-enters once and is classed numerical or fault -/
  | rowRecompute (a : RowPass)
  /-- STREAM_DONE (R166): Every row of a stream is in accumulator memory and rechecks ended -/
  | streamDone (a : AtCore)
  /-- DRAIN_DONE (R174): Every converted value of a drain is in local memory or fragment registers -/
  | drainDone (a : AtCore)
  /-- ATT_OP_START (R222): The softmax and bias unit starts its next queued operation -/
  | attOpStart (a : AtCore)
  /-- ATT_OP_DONE (R203): An ATT operation completes its writes -/
  | attOpDone (a : AtCore)
  /-- KEYED_OP_ARRIVAL (R237): A keyed operation reaches its Cabinet and is queued, dropped as duplicate or made to wait -/
  | keyedOpArrival (a : CabNth)
  /-- APPEND_PERFORM (R244): The Cabinet performs an append when its key is next -/
  | appendPerform (a : AtCab)
  /-- FORK_PERFORM (R252): The Cabinet shares the source's pages with the destination -/
  | forkPerform (a : AtCab)
  /-- FREE_PERFORM (R254): The Cabinet releases every page and map block of the sequence -/
  | freePerform (a : AtCab)
  /-- TRUNC_PERFORM (R253): The Cabinet releases pages beyond a new length -/
  | truncPerform (a : AtCab)
  /-- HINT_PERFORM (R255): The Cabinet touches stamps or brings spilled pages back -/
  | hintPerform (a : AtCab)
  /-- CHEST_WRITE_DONE (R258): The Chest copy of a spilled page completes -/
  | chestWriteDone (a : AtCab)
  /-- GATHER_DONE (R250): A gather's dequantised data and status word are written -/
  | gatherDone (a : AtCore)
  /-- CHUNK_RECEIVE (R287): The core receives and checks a read-direction chunk of a row transfer -/
  | chunkReceive (a : ChunkIn)
  /-- WRITE_CHUNK_RECEIVE (R289): The cache die checks a write chunk, writes it or returns a failure response -/
  | writeChunkReceive (a : ChunkOut)
  /-- HANDSHAKE_TIMEOUT (R285): No acknowledge arrives within TIMEOUT -/
  | handshakeTimeout (a : GroupTimeout)
  /-- SKIPPER_TEST_START (R323): A queued Skipper test starts when a slot of 16 frees -/
  | skipperTestStart (a : AtStack)
  /-- SKIPPER_TEST_END (R320): A test ends with its outcome and the repair it calls for -/
  | skipperTestEnd (a : TestEnd)
  /-- SPARE_MAP_DONE (R291): A spare mapping ends and the group returns to service -/
  | spareMapDone (a : SpareMapEnd)
  /-- RELOCATION_DONE (R31): The chrysalis core executes the index and held accesses complete -/
  | relocationDone (a : AtPosition)
  /-- PORT_RESET (R301): A Bureau port reset poisons in-flight reads and loses in-flight writes -/
  | portReset (a : PortResetAt)
  /-- RESYNC_DONE (R302): A group receives the core's acknowledge toggle and resumes -/
  | resyncDone (a : AtPortGroup)
  /-- RESYNC_TIMEOUT (R302): A group silent for 10 us after reset is tested -/
  | resyncTimeout (a : AtPortGroup)
  /-- RESTORATION (R317): The Bureau restores consumed granules from their sources -/
  | restoration (a : AtStack)
  /-- HAWKMOTH_STEP (R324): The scrubber reads its next row, testing and restoring failing rows -/
  | hawkmothStep (a : HawkStep)
  /-- SCRUB_RANGE_DONE (R327): A range scrub finishes and its summary is returned -/
  | scrubRangeDone (a : AtHalf)
  /-- BUREAU_WATCHDOG_MISS (R330): A missed watchdog write resets the Bureau cluster -/
  | bureauWatchdogMiss (a : AtStack)
  /-- BUREAU_RESTART_DONE (R330): The Bureau runs again from ROM and latched sources become pending -/
  | bureauRestartDone (a : AtStack)
  /-- LINK_TRAINING_DONE (R338): A link completes or fails training -/
  | linkTrainingDone (a : TrainResult)
  /-- PEER_SIGNAL_LOSS (R340): No signal from the peer puts the link in PEER_LOST -/
  | peerSignalLoss (a : AtLink)
  /-- SIGNAL_DETECT_RETRY (R338): A PEER_LOST link retries signal detect every 10 ms -/
  | signalDetectRetry (a : SignalRetry)
  /-- RETRAIN_DONE (R340): A retrain ends, returning to UP or after three failures to FAILED -/
  | retrainDone (a : TrainResult)
  /-- LANE_WINDOW_END (R347): After a CRC failure, lane symbol counts are judged at the window end -/
  | laneWindowEnd (a : LaneWindow)
  /-- IDLE (R345): An IDLE flit carries ACK and NAK -/
  | idle (a : IdleIn)
  /-- WRITE (R343): A WRITE flit is accepted in sequence and written or forwarded by its route label -/
  | write (a : FlitIn)
  /-- WRITE_ACK (R343): Acknowledgement of a performed remote write transfer -/
  | writeAck (a : FlitIn)
  /-- READ_REQ (R351): A remote read request is performed and answered on the return path -/
  | readReq (a : FlitIn)
  /-- READ_RSP (R343): Data answering a read request is delivered -/
  | readRsp (a : FlitIn)
  /-- MESSAGE (R342): Tokens, credits and signals carried in a flit are delivered in entry order -/
  | message (a : FlitIn)
  /-- POISON (R344): Marks granules of the next flit of the route as poisoned -/
  | poison (a : FlitIn)
  /-- JOURNAL (R368): Twin journal bytes are written into the journal area -/
  | journal (a : FlitIn)
  /-- HEARTBEAT (R369): A twin heartbeat closes an epoch, which the holder applies once complete -/
  | heartbeat (a : HeartbeatIn)
  /-- PLAN_ANNOUNCE (R352): The peer's announced PLAN_ID is recorded for the link -/
  | planAnnounce (a : ControlIn)
  /-- PAIR_HELLO (R365): Matching hellos complete a pairing -/
  | pairHello (a : ControlIn)
  /-- CONTROL_DETACH (R370): A twin's DETACH starts a takeover -/
  | controlDetach (a : ControlIn)
  /-- CONTROL_STOP (R370): A twin's STOP after its final epoch starts a takeover -/
  | controlStop (a : ControlIn)
  /-- CONTROL_CONFLICT (R374): A twin reports a takeover conflict -/
  | controlConflict (a : ControlIn)
  /-- CONTROL_REJOIN (R375): A twin control message of the hand-back -/
  | controlRejoin (a : ControlIn)
  /-- HEARTBEAT_SEND (R369): Every 1 ms a heartbeat is sent on each twin link that is UP -/
  | heartbeatSend (a : AtStack)
  /-- HEARTBEAT_LOSS (R369): No heartbeat for 2 ms raises TWIN_LOST and may start a takeover -/
  | heartbeatLoss (a : AtStack)
  /-- TWIN_INSTALL (R372): With no plan loaded, held sequences are installed as dropped pages -/
  | twinInstall (a : AtStack)
  /-- TWIN_INSTALLED (R372): Installation ends and the event is written -/
  | twinInstalled (a : AtStack)
  /-- PATTERN_TEST_DONE (R358): A link pattern test ends and releases the pattern unit -/
  | patternTestDone (a : PatternResult)
  /-- MARGIN_SCAN_DONE (R360): A margin scan ends with its error-free steps -/
  | marginScanDone (a : MarginResult)
  /-- BAR4_READ (R380): A host read through the BAR4 window -/
  | bar4Read (a : Bar4Read)
  /-- BAR4_WRITE (R380): A host write through the BAR4 window -/
  | bar4Write (a : Bar4Write)
  /-- FLR (R385): FLR, hot reset or link down aborts plans and runs a recovery reset -/
  | flr
  /-- MSIX_UNMASK (R384): Unmasking a vector with its pending bit set sends one message -/
  | msixUnmask (a : AtVector)
  /-- MOV_START (R398): START on a mover channel begins its chain, or is refused while BUSY -/
  | movStart (a : AtChannel)
  /-- MOV_STOP (R398): STOP ends the channel's current descriptor ABORTED -/
  | movStop (a : AtChannel)
  /-- MOVER_COPY (R400): A COPY descriptor is read, checked and run -/
  | moverCopy (a : MoverRun)
  /-- MOVER_TRANSPOSE (R402): A TRANSPOSE descriptor is read, checked and run -/
  | moverTranspose (a : MoverRun)
  /-- MOVER_ZERO (R400): A ZERO descriptor is read, checked and run -/
  | moverZero (a : MoverRun)
  /-- MOVER_WAIT_MET (R400): A descriptor's WAIT threshold is met and it proceeds -/
  | moverWaitMet (a : MoverRun)
  /-- MOVER_CREDIT_READY (R400): A credit for the descriptor's output channel is held and it proceeds -/
  | moverCreditReady (a : MoverRun)
  /-- MOVER_WRITES_DONE (R400): Writes are performed, the token is sent, the signal given and the chain advances -/
  | moverWritesDone (a : AtChannel)
  /-- REFRESH_DUE (R393): A channel refresh falls due at the interval set by band and MR4 -/
  | refreshDue (a : RefreshAt)
  /-- PERIODIC_RETRAIN (R392): LPDDR5X periodic retraining in service -/
  | periodicRetrain (a : AtStack)
  /-- INTC_SOURCE_EDGE (R434): A rising cause edge makes a source pending or merges -/
  | intcSourceEdge (a : AtSource)
  /-- INTC_CLAIM (R435): A target's read claims the lowest qualifying pending source -/
  | intcClaim (a : AtTarget)
  /-- INTC_COMPLETE (R436): A write ends a source's activity, or is counted invalid -/
  | intcComplete (a : Completion)
  /-- CROSSING_RESYNC (R447): After a reset of a side, a crossing discards entries and resynchronises -/
  | crossingResync (a : CrossingReset)
  /-- LATENCY_MISS (R442): A real-time request's latency reaches TARGET before service -/
  | latencyMiss (a : LateRequest)
  /-- MBX_DOORBELL (R412): Ringing a doorbell submits a mailbox command when not BUSY -/
  | mbxDoorbell (a : Doorbell)
  /-- MBX_EVT_TAIL (R511): The host advances the event ring tail, refused if past HEAD -/
  | mbxEvtTail (a : TailWrite)
  /-- SYNC_SIGNAL (R63): Host register write performing SIGNAL, SIGNAL_FAIL or a failure mark -/
  | syncSignal (a : ObjWrite)
  /-- SYNC_STATUS (R67): Host clear of STALLED restarts the stall time -/
  | syncStatus (a : ObjWrite)
  /-- HOST_STACK_SEL (R379): Selects the stack that BAR0 shows -/
  | hostStackSel (a : RegW)
  /-- CDIE_PART_CFG (R281): A cache-count write accepted starts a partition change, or is refused -/
  | cdiePartCfg (a : HalfWrite)
  /-- CAB_POOL_CFG (R232): Pool geometry write, accepted only when idle and safe -/
  | cabPoolCfg (a : HalfWrite)
  /-- CAB_POOL_BASE (R232): Pool base write under the same checks -/
  | cabPoolBase (a : HalfWrite)
  /-- CAB_LP_CFG (R232): Chest slot and enable write under the same checks -/
  | cabLpCfg (a : HalfWrite)
  /-- CAB_LP_BASE (R232): Tier area base write under the same checks -/
  | cabLpBase (a : HalfWrite)
  /-- CAB_CLASS_CFG (R232): Spill and drop class write under the same checks -/
  | cabClassCfg (a : HalfWrite)
  /-- LNK_SDID (R349): SDID write, ignored while a plan is loaded -/
  | lnkSdid (a : RegW)
  /-- LNK_CTRL_RETRAIN (R340): RETRAIN requests a retrain and leaves FAILED -/
  | lnkCtrlRetrain (a : LinkWrite)
  /-- LNK_CTRL_TEST (R358): TEST takes the link out of service for pattern tests, or is refused -/
  | lnkCtrlTest (a : LinkWrite)
  /-- LNK_PAT_CFG (R358): Starting the generator or checker claims the pattern unit -/
  | lnkPatCfg (a : LinkWrite)
  /-- LNK_MARGIN_START (R360): START begins a margin scan of a lane -/
  | lnkMarginStart (a : LinkWrite)
  /-- LDO_SET (R475): A core voltage request moves LDO_NOW and ramps the LDO -/
  | ldoSet (a : CoreWrite)
  /-- STOP_REQ (R482): Requests a core to Stop or Run when no plan is loaded -/
  | stopReq (a : CoreWrite)
  /-- THM_CH_CFG (R497): Limit write, refused when out of the allowed settings -/
  | thmChCfg (a : ChannelWrite)
  /-- THM_DIAG (R493): EN claims the fast slot at TEST class for one channel -/
  | thmDiag (a : RegW)
  /-- REG_GPIO (R448): Setting OE claims a GPIO pin -/
  | regGpio (a : RegW)
  /-- AON_RTC_ALARM (R532): Sets the RTC alarm second -/
  | aonRtcAlarm (a : RegW)
  /-- REGISTER_WRITE (R526): A write to a register without its own row sets fields by access code and is logged -/
  | registerWrite (a : Bar0Write)
  /-- READ_CLEAR (R17): A read of an RC field returns and clears it -/
  | readClear (a : HostRead)
  /-- VOUT_SETTLED (R473): READ_VOUT reaches the raised target and the waiting LDO may rise -/
  | voutSettled (a : AtStack)
  /-- AVS_TARGET_FALL (R473): After 1 ms with no LDO rise the VDD_CORE_IN target falls -/
  | avsTargetFall (a : AtStack)
  /-- REGION_AVERAGE (R477): Each 1 us a region's current average updates PEAK10 and hot state -/
  | regionAverage (a : RegionDraw)
  /-- CORE_WAKE (R478): A core wake begins by choosing its header table -/
  | coreWake (a : AtPosition)
  /-- WAKE_WAIT_END (R478): Neighbouring regions cool or 200 us pass, and the slow wake proceeds -/
  | wakeWaitEnd (a : WakeWait)
  /-- CORE_WAKE_DONE (R478): Headers closed, LDO ramped, memories zeroed: the core is in Run -/
  | coreWakeDone (a : AtPosition)
  /-- PMBUS_ALERT (R472): PMBUS_ALERT_N raises interrupt source 1 -/
  | pmbusAlert (a : RailAlert)
  /-- WAKE_EVENT (R487): An enabled wake source edge in Stop starts a wake -/
  | wakeEvent (a : WakeEdge)
  /-- WAKE_STEP (R488): A wake step starts at its offset from W' -/
  | wakeStep (a : WakeStep)
  /-- ADC_SAMPLE (R492): A housekeeping slot samples a channel or rail and updates band, limits and governors -/
  | adcSample (a : AdcSample)
  /-- DIODE_RATIO_CHECK (R494): Once a second each diode's two-current ratio is checked -/
  | diodeRatioCheck (a : DiodeCheck)
  /-- HARDWARE_TRIP (R503): A 125 C comparator asserts THERMTRIP_N and cuts the cores -/
  | hardwareTrip (a : DiodeSite)
  /-- RTC_ALARM_FIRE (R532): SECONDS reaches ALARM: FIRED set, source 2 raised, alarm cleared -/
  | rtcAlarmFire (a : AtStack)
  /-- PERST_N_ASSERT (R454): Assertion of PERST_N ends all activity -/
  | perstNAssert
  /-- PERST_N_DEASSERT (R454): Deassertion with PWR_GOOD high begins a cold start -/
  | perstNDeassert
  /-- PWR_GOOD_FALL (R552): PWR_GOOD falling acts as PERST_N assertion and releases outputs -/
  | pwrGoodFall
  /-- STAGE_START (R455): The next start stage begins on every stack once all ended the previous one -/
  | stageStart (a : StageEnd)
  /-- STAGE_LATE (R463): A stage running past its limit sets LATE and continues -/
  | stageLate (a : AtStack)
  /-- BOOT_IMAGE_BLOCK (R458): A boot-mode firmware block is received, checked and relayed -/
  | bootImageBlock (a : ImageBlock)
  /-- STAGE_MESSAGE (R459): A stage report or release frame is received over a boot-mode lane -/
  | stageMessage (a : StageMessage)
  /-- IDENTIFY (R421): Returns serials, IDs, versions and SDIDs -/
  | identify
  /-- GET_STATE (R421): Returns per-stack service, boot, plan and twin state -/
  | getState
  /-- GET_CORE_MAP (R421): Returns the core map of a stack -/
  | getCoreMap
  /-- SET_SDID (R349): Sets a stack's SDID while no plan is loaded -/
  | setSdid
  /-- GET_TIME (R421): Returns the timestamp and RTC -/
  | getTime
  /-- LIC_INSTALL (R431): Checks and stores a licence blob -/
  | licInstall
  /-- LIC_LIST (R432): Lists stored licences -/
  | licList
  /-- LIC_REMOVE (R432): Erases a feature's licence -/
  | licRemove
  /-- PLAN_LOAD (R50): Reads and checks a plan image and loads it -/
  | planLoad
  /-- PLAN_START (R45): Starts a loaded plan; cores fetch their text -/
  | planStart
  /-- PLAN_ABORT (R76): Host abort of a plan -/
  | planAbort
  /-- PLAN_STATUS (R421): Returns per-stack plan state -/
  | planStatus
  /-- ROUTE_LOAD (R350): Loads route table entries for a PLAN_ID -/
  | routeLoad
  /-- SEQ_CREATE (R227): Creates a sequence context -/
  | seqCreate
  /-- SEQ_FORK (R252): Host fork of a sequence -/
  | seqFork
  /-- SEQ_FREE (R254): Host free of a sequence -/
  | seqFree
  /-- SEQ_TRUNC (R253): Host truncation of a sequence -/
  | seqTrunc
  /-- SEQ_PRIORITY (R422): Sets a sequence's class and pin -/
  | seqPriority
  /-- SEQ_READ (R228): Returns a sequence descriptor -/
  | seqRead
  /-- KV_POOL_CFG (R232): Configures a Cabinet pool -/
  | kvPoolCfg
  /-- SHELF_PIN (R273): Creates a shelf and loads its lines -/
  | shelfPin
  /-- SHELF_UNPIN (R274): Removes a shelf -/
  | shelfUnpin
  /-- PART_SET (R281): Changes the cache counts of both halves -/
  | partSet
  /-- SCRUB_RANGE (R327): Queues a range scrub -/
  | scrubRange
  /-- TWIN_PAIR (R365): Pairs the stack with a twin -/
  | twinPair
  /-- TWIN_UNPAIR (R376): Ends a pair -/
  | twinUnpair
  /-- TWIN_DETACH (R373): Closes a final epoch, sends DETACH and enters DETACHED -/
  | twinDetach
  /-- TWIN_REJOIN (R375): Hands held sequences back to the returning twin -/
  | twinRejoin
  /-- TWIN_TAKEOVER (R370): Starts a takeover after heartbeat loss -/
  | twinTakeover
  /-- TWIN_JOURNAL_READ (R371): Returns sync points or commit markers of the mirror -/
  | twinJournalRead
  /-- POWER_STATE_DEVICE (R484): Puts the whole part into device Stop -/
  | powerStateDevice
  /-- POWER_STATE_CORES (R482): Puts masked cores into Stop or Run -/
  | powerStateCores
  /-- RTC_ALARM (R532): Sets or clears the RTC alarm on every stack -/
  | rtcAlarm
  /-- THERMAL_LIMITS (R497): Sets a channel's WARN and THROTTLE -/
  | thermalLimits
  /-- THERMAL_READ (R421): Returns every channel's temperature and band -/
  | thermalRead
  /-- LINK_TEST (R358): Runs a pattern test on link lanes -/
  | linkTest
  /-- LINK_MARGIN (R360): Runs a margin scan of one lane -/
  | linkMargin
  /-- LOG_READ (R512): Returns log entries from a serial -/
  | logRead
  /-- EVENT_BIND (R424): Binds an event code to a vector -/
  | eventBind
  /-- SYNC_BIND (R422): Binds a one-shot vector to a sync threshold -/
  | syncBind
  /-- RESOURCE_QUERY (R448): Returns a shared resource's owner and class -/
  | resourceQuery
  /-- FW_WRITE (R409): Writes part of a firmware slot -/
  | fwWrite
  /-- FW_ACTIVATE (R422): Verifies a slot and marks it preferred -/
  | fwActivate
  /-- PAIR_TIMEOUT (R421): A TWIN_PAIR whose twin's matching command does not arrive within 10 s completes with PAIR_TIMEOUT -/
  | pairTimeout
  /-- FLASH_WRITE_DONE (R431): The boot-flash write of the licence store or a firmware slot completes, and the waiting command completes -/
  | flashWriteDone
  /-- BUREAU_BRIDGE_MESSAGE (R40): A message from another stack's Bureau (forwarded command, response, event report or stage report) arrives over the bridges and raises source 9 -/
  | bureauBridgeMessage (a : BureauMessage)
  /-- PWR_GOOD_RISE (R552): PWR_GOOD rises, and a cold start begins if PERST_N is then deasserted -/
  | pwrGoodRise
  /-- VDD_AON_LOSS (R529): Loss of VDD_AON returns every field to reset, clears TRIPPED, THERMTRIP_N and the RTC, and discards saved items -/
  | vddAonLoss
  /-- VDD_AON_APPLY (R513): Application of VDD_AON starts the RTC from 0 and the boot counter at 0 -/
  | vddAonApply
  /-- I3C_PRIVATE_WRITE (R546): An I3C private write of one byte sets the read offset of the stack's status window -/
  | i3cPrivateWrite (a : I3cWrite)
  /-- BOUNDARY_SCAN_INSTRUCTION (R555): An instruction loaded into the TAP takes effect, or acts as BYPASS when PERST_N is deasserted -/
  | boundaryScanInstruction (a : TapInstr)
  /-- BUREAU_TIMER_EXPIRY (R433): An armed Bureau timer expires, raises its interrupt source and frees its owner record -/
  | bureauTimerExpiry (a : AtTimer)
  /-- PCIE_LINK_TRAINED (R464): The PCIe link completes hardware training or changes rate, updating HOST_LINK_STATUS and raising source 4 -/
  | pcieLinkTrained (a : PcieTrained)
  /-- REQUEST_BUFFER_WRITE (R412): A host write to a mailbox request buffer is dropped and counted in REFUSED while the accepted command is not yet copied -/
  | requestBufferWrite (a : RequestWrite)
  deriving DecidableEq, Repr

end Sys2Proof
end

