-- ==== Sys2Proof/Decode.lean ====
section
/-! DEFINITION. Words of commands: spec/opcode_table.json gives no row any bits, so no word spells a command (log entry 1). The instruction words
of kernels lie in core memory, and their fields are taken apart in Sys2Proof/Machine/Operands.lean. -/

namespace Sys2Proof

/-- The command that a word of nbits bits spells by the table: none. -/
def decodeTableWord (_nbits _w : Nat) : Option Instr := none

end Sys2Proof
end

