-- ==== Sys2Proof/Machine/Bits.lean ====
section
/-! DEFINITION. Bit-field, sign and byte-order helpers, and sparse maps: what every other file of the machine uses. -/

namespace Sys2Proof.Machine

/-- Bits [lo + w - 1 : lo] of a number. -/
def bits (n lo w : Nat) : Nat := n / 2 ^ lo % 2 ^ w

/-- Bit k of a number. -/
def bit (n k : Nat) : Bool := n / 2 ^ k % 2 == 1

/-- n with its bits [lo + w - 1 : lo] replaced by v. -/
def putBits (n lo w v : Nat) : Nat :=
  n % 2 ^ lo + (v % 2 ^ w) * 2 ^ lo + n / 2 ^ (lo + w) * 2 ^ (lo + w)

/-- n with bit k set to b. -/
def putBit (n k : Nat) (b : Bool) : Nat := putBits n k 1 b.toNat

/-- The two's complement value of the low w bits of n. -/
def toSigned (w n : Nat) : Int :=
  let m := n % 2 ^ w
  if 2 * m < 2 ^ w then (m : Int) else (m : Int) - (2 ^ w : Nat)

/-- The low w bits of an integer, two's complement. -/
def ofSigned (w : Nat) (z : Int) : Nat := (z % (2 ^ w : Nat)).toNat

/-- Saturating sum: the counters of region 0x8 that "saturate at" their largest value. -/
def satAdd (w v n : Nat) : Nat := min (2 ^ w - 1) (v + n)

/-- ceiling of a / b -/
def ceilDiv (a b : Nat) : Nat := (a + b - 1) / b

/-- A number as n bytes, least significant first (every structure of the spec is little-endian). -/
def leBytes : Nat → Nat → List Byte
  | 0, _ => []
  | n + 1, v => BitVec.ofNat 8 v :: leBytes n (v / 256)

/-- The number that bytes hold, least significant first. -/
def ofLeBytes : List Byte → Nat
  | [] => 0
  | b :: bs => b.toNat + 256 * ofLeBytes bs

/-- The field of `size` bytes at byte offset `off` of a structure held as bytes. -/
def fieldAt (bs : List Byte) (off size : Nat) : Nat := ofLeBytes ((bs.drop off).take size)

/-- The list of the set bits of n below w, ascending. -/
def setBits (n w : Nat) : List Nat := (List.range w).filter (bit n)

/-- The number whose set bits are the members of l. -/
def ofBits (l : List Nat) : Nat := l.foldl (fun n k => n ||| 2 ^ k) 0

/-- How many of the bits of n below w are set. -/
def popCount (n w : Nat) : Nat := (setBits n w).length

/-- The number of bits needed to write n: 0 for 0, else ⌊log2 n⌋ + 1. -/
def bitLen (n : Nat) : Nat := if n = 0 then 0 else Nat.log2 n + 1

/-- The lowest set bit of n below w. -/
def lowestBit (n w : Nat) : Option Nat := (setBits n w).head?

/-- A finite map as an ascending list of pairs; a key that is not listed has the map's default. -/
abbrev SMap (α : Type) := List (Nat × α)

namespace SMap
variable {α : Type}

/-- The entry of key k, if it is listed. -/
def find : SMap α → Nat → Option α
  | [], _ => none
  | (j, v) :: r, k => if j = k then some v else SMap.find r k

/-- The value at k, or the default d. -/
def getD (l : SMap α) (k : Nat) (d : α) : α := (SMap.find l k).getD d

/-- The map with v at k, ascending order kept. -/
def put : SMap α → Nat → α → SMap α
  | [], k, v => [(k, v)]
  | (j, w) :: r, k, v =>
    if j = k then (k, v) :: r
    else if k < j then (k, v) :: (j, w) :: r
    else (j, w) :: SMap.put r k v

/-- The map without an entry at k. -/
def erase (l : SMap α) (k : Nat) : SMap α := l.filter (fun e => e.1 ≠ k)

end SMap

/-- The list with its element at index k removed. -/
def listErase {α : Type} : List α → Nat → List α
  | [], _ => []
  | _ :: xs, 0 => xs
  | x :: xs, k + 1 => x :: listErase xs k

/-- Four things of one kind, by number: the stacks of a part. -/
structure Quad (α : Type) where
  q0 : α
  q1 : α
  q2 : α
  q3 : α
  deriving DecidableEq, Repr

/-- Number k of four; d for a number that there is not. -/
def Quad.get {α : Type} (x : Quad α) (d : α) : Nat → α
  | 0 => x.q0
  | 1 => x.q1
  | 2 => x.q2
  | 3 => x.q3
  | _ => d

/-- Number k of four replaced by f of it. -/
def Quad.modify {α : Type} (f : α → α) (x : Quad α) : Nat → Quad α
  | 0 => { x with q0 := f x.q0 }
  | 1 => { x with q1 := f x.q1 }
  | 2 => { x with q2 := f x.q2 }
  | 3 => { x with q3 := f x.q3 }
  | _ => x

/-- Each of four replaced by f of it. -/
def Quad.map {α : Type} (f : α → α) (x : Quad α) : Quad α := ⟨f x.q0, f x.q1, f x.q2, f x.q3⟩

/-- Two things of one kind: west is 0, east is 1. -/
structure Duo (α : Type) where
  west : α
  east : α
  deriving DecidableEq, Repr

/-- Number k of two; d for a number that there is not. -/
def Duo.get {α : Type} (x : Duo α) (d : α) : Nat → α
  | 0 => x.west
  | 1 => x.east
  | _ => d

/-- Number k of two replaced by f of it. -/
def Duo.modify {α : Type} (f : α → α) (x : Duo α) : Nat → Duo α
  | 0 => { x with west := f x.west }
  | 1 => { x with east := f x.east }
  | _ => x

/-- Both of two replaced by f of them. -/
def Duo.map {α : Type} (f : α → α) (x : Duo α) : Duo α := ⟨f x.west, f x.east⟩

/-- f applied n times. -/
def iter {α : Type} (f : α → α) : Nat → α → α
  | 0, x => x
  | n + 1, x => iter f n (f x)

end Sys2Proof.Machine
end

