-- ==== Sys2Proof/Machine/Float.lean ====
section
/-! DEFINITION. Floating-point formats: decoding to exact values, rounding an exact value once, and the arithmetic and conversions of
Tables KF-4, KF-5 and KF-7 (R130, R131, R133). -/

namespace Sys2Proof.Machine

/-- A floating-point format: mantissa bits, bias, exponent bits; `ieee`: its largest exponent encodes infinities and NaNs (E4M3 has
no infinity and the single magnitude 0x7F as NaN). -/
structure Fmt where
  man  : Nat
  expo : Nat
  bias : Nat
  ieee : Bool := true
  deriving DecidableEq, Repr

def Fmt.fp32 : Fmt := ⟨23, 8, 127, true⟩
def Fmt.bf16 : Fmt := ⟨7, 8, 127, true⟩
def Fmt.fp16 : Fmt := ⟨10, 5, 15, true⟩
def Fmt.e5m2 : Fmt := ⟨2, 5, 15, true⟩
def Fmt.e4m3 : Fmt := ⟨3, 4, 7, false⟩

/-- A value: NaN, an infinity, or the exact number (-1)^neg × m × 2^e. -/
inductive Fv where
  | nan
  | inf (neg : Bool)
  | fin (neg : Bool) (m : Nat) (e : Int)
  deriving DecidableEq, Repr

/-- The rounding directions of MOD bits [43:42] (R130): to nearest even, toward zero, toward −∞, toward +∞. -/
inductive Rnd where
  | near | zero | down | up
  deriving DecidableEq, Repr

/-- The rounding that MOD bits [43:42] select. -/
def Rnd.of (n : Nat) : Rnd := if n = 0 then .near else if n = 1 then .zero else if n = 2 then .down else .up

namespace Fmt

/-- The bit of the sign. -/
def signBit (f : Fmt) : Nat := 2 ^ (f.man + f.expo)
/-- The code of +∞ in an IEEE format: the largest exponent. -/
def infCode (f : Fmt) : Nat := (2 ^ f.expo - 1) * 2 ^ f.man
/-- The code of the largest finite magnitude. -/
def maxCode (f : Fmt) : Nat := if f.ieee then f.infCode - 1 else f.signBit - 2
/-- The exponent of the lowest bit of a subnormal. -/
def emin (f : Fmt) : Int := 1 - (f.bias : Int) - (f.man : Int)
/-- The canonical NaN: 0x7FC0_0000, 0x7FC0, 0x7E00, 0x7E and 0x7F. -/
def nan (f : Fmt) : Nat := if f.ieee then f.infCode + 2 ^ (f.man - 1) else f.signBit - 1

/-- The value a code stands for. -/
def decode (f : Fmt) (c : Nat) : Fv :=
  let neg := bit c (f.man + f.expo)
  let mag := c % f.signBit
  if mag > f.maxCode then (if f.ieee && mag == f.infCode then .inf neg else .nan)
  else
    let ex := mag / 2 ^ f.man
    let mn := mag % 2 ^ f.man
    if ex = 0 then .fin neg mn f.emin else .fin neg (2 ^ f.man + mn) (f.emin + ex - 1)

/-- A code with its sign. -/
def signed (f : Fmt) (neg : Bool) (mag : Nat) : Nat := if neg then f.signBit + mag else mag

/-- Whether a discarded part r of 2^sh, r nonzero, rounds the magnitude q up. -/
def roundsUp (rnd : Rnd) (neg : Bool) (q r sh : Nat) : Bool :=
  match rnd with
  | .near => decide (2 * r > 2 ^ sh) || (decide (2 * r = 2 ^ sh) && q % 2 == 1)
  | .zero => false
  | .down => neg && decide (r ≠ 0)
  | .up => !neg && decide (r ≠ 0)

/-- The code of the magnitude m × 2^e rounded once, before overflow is looked at. -/
def roundCode (f : Fmt) (rnd : Rnd) (neg : Bool) (m : Nat) (e : Int) : Nat :=
  if m = 0 then 0
  else
    let x := max (e + (bitLen m : Int) - 1 - (f.man : Int)) f.emin
    let q :=
      if x ≤ e then m * 2 ^ (e - x).toNat
      else
        let sh := (x - e).toNat
        let q0 := m / 2 ^ sh
        if roundsUp rnd neg q0 (m % 2 ^ sh) sh then q0 + 1 else q0
    (x - f.emin).toNat * 2 ^ f.man + q

/-- The code of the exact value (-1)^neg × m × 2^e rounded once; overflow gives the infinity or the largest finite magnitude, as the
direction says; E4M3 saturates (R133). -/
def round (f : Fmt) (rnd : Rnd) (neg : Bool) (m : Nat) (e : Int) : Nat :=
  let c := f.roundCode rnd neg m e
  if c ≤ f.maxCode then f.signed neg c
  else if !f.ieee then f.signed neg f.maxCode
  else
    match rnd, neg with
    | .zero, _ => f.signed neg f.maxCode
    | .down, false => f.maxCode
    | .up, true => f.signed true f.maxCode
    | _, _ => f.signed neg f.infCode

/-- A value rounded once to the format. -/
def encode (f : Fmt) (rnd : Rnd) (v : Fv) : Nat :=
  match v with
  | .nan => f.nan
  | .inf neg => if f.ieee then f.signed neg f.infCode else f.nan
  | .fin neg m e => f.round rnd neg m e

end Fmt

namespace Fv

/-- The value of a signed integer times a power of two; zero is +0. -/
def ofInt (z : Int) (e : Int) : Fv := .fin (decide (z < 0)) z.natAbs e

/-- A finite magnitude with its sign as an integer at exponent e0 ≤ e. -/
def scaled (neg : Bool) (m : Nat) (e e0 : Int) : Int :=
  let v : Int := ((m * 2 ^ (e - e0).toNat : Nat) : Int)
  if neg then -v else v

/-- The sum of two values; an exact zero of operands of different signs takes the sign that the direction gives (IEEE 754). -/
def add (rnd : Rnd) (a b : Fv) : Fv :=
  match a, b with
  | .nan, _ | _, .nan => .nan
  | .inf s, .inf t => if s = t then .inf s else .nan
  | .inf s, _ => .inf s
  | _, .inf t => .inf t
  | .fin s m e, .fin t k g =>
    let x := min e g
    let z := scaled s m e x + scaled t k g x
    if z = 0 then .fin (if m = 0 ∧ k = 0 ∧ s = t then s else decide (rnd = .down)) 0 0
    else ofInt z x

/-- The product of two values. -/
def mul (a b : Fv) : Fv :=
  match a, b with
  | .nan, _ | _, .nan => .nan
  | .inf s, .inf t => .inf (s != t)
  | .inf s, .fin t k _ => if k = 0 then .nan else .inf (s != t)
  | .fin s m _, .inf t => if m = 0 then .nan else .inf (s != t)
  | .fin s m e, .fin t k g => .fin (s != t) (m * k) (e + g)

/-- The value with its sign changed. -/
def neg : Fv → Fv
  | .nan => .nan
  | .inf s => .inf (!s)
  | .fin s m e => .fin (!s) m e

/-- The absolute value. -/
def abs : Fv → Fv
  | .nan => .nan
  | .inf _ => .inf false
  | .fin _ m e => .fin false m e

/-- Whether a is below b in value, neither being a NaN; zeros of both signs are equal. -/
def lt (a b : Fv) : Bool :=
  match a, b with
  | .nan, _ | _, .nan => false
  | .inf s, .inf t => s && !t
  | .inf s, _ => s
  | _, .inf t => !t
  | .fin s m e, .fin t k g => let x := min e g; decide (scaled s m e x < scaled t k g x)

/-- Whether a equals b in value, neither being a NaN. -/
def eq (a b : Fv) : Bool :=
  match a, b with
  | .nan, _ | _, .nan => false
  | .inf s, .inf t => s == t
  | .fin s m e, .fin t k g => let x := min e g; decide (scaled s m e x = scaled t k g x)
  | _, _ => false

/-- The sign of a value that is no NaN. -/
def isNeg : Fv → Bool
  | .nan => false
  | .inf s => s
  | .fin s _ _ => s

/-- The smaller value, −0 below +0; NaN when either is one. -/
def minV (a b : Fv) : Fv :=
  match a, b with
  | .nan, _ | _, .nan => .nan
  | _, _ => if lt a b || (eq a b && a.isNeg) then a else b

/-- The larger value, +0 above −0; NaN when either is one. -/
def maxV (a b : Fv) : Fv :=
  match a, b with
  | .nan, _ | _, .nan => .nan
  | _, _ => if lt b a || (eq a b && !a.isNeg) then a else b

/-- The value rounded to an integer in a direction, cut to [lo, hi]; NaN gives 0 (Table KF-7). -/
def toInt (rnd : Rnd) (lo hi : Int) (v : Fv) : Int :=
  match v with
  | .nan => 0
  | .inf s => if s then lo else hi
  | .fin s m e =>
    let q : Nat :=
      if 0 ≤ e then m * 2 ^ e.toNat
      else
        let sh := (-e).toNat
        let q0 := m / 2 ^ sh
        if Fmt.roundsUp rnd s q0 (m % 2 ^ sh) sh then q0 + 1 else q0
    let z : Int := if s then -(q : Int) else q
    max lo (min hi z)

end Fv

/-! ## binary32 with rounding (R130) -/

/-- a + b -/
def f32Add (rnd : Rnd) (a b : Nat) : Nat := Fmt.fp32.encode rnd (Fv.add rnd (Fmt.fp32.decode a) (Fmt.fp32.decode b))
/-- a − b -/
def f32Sub (rnd : Rnd) (a b : Nat) : Nat := Fmt.fp32.encode rnd (Fv.add rnd (Fmt.fp32.decode a) (Fmt.fp32.decode b).neg)
/-- a × b -/
def f32Mul (rnd : Rnd) (a b : Nat) : Nat := Fmt.fp32.encode rnd (Fv.mul (Fmt.fp32.decode a) (Fmt.fp32.decode b))
/-- a × b + c with one rounding -/
def f32Fma (rnd : Rnd) (a b c : Nat) : Nat :=
  Fmt.fp32.encode rnd (Fv.add rnd (Fv.mul (Fmt.fp32.decode a) (Fmt.fp32.decode b)) (Fmt.fp32.decode c))
/-- the smaller value -/
def f32Min (a b : Nat) : Nat := Fmt.fp32.encode .near (Fv.minV (Fmt.fp32.decode a) (Fmt.fp32.decode b))
/-- the larger value -/
def f32Max (a b : Nat) : Nat := Fmt.fp32.encode .near (Fv.maxV (Fmt.fp32.decode a) (Fmt.fp32.decode b))

/-- A conversion between formats, to nearest even (Table KF-7). -/
def convert (src dst : Fmt) (c : Nat) : Nat := dst.encode .near (src.decode c)

/-- A conversion to E5M2: SAT turns the overflow of a finite value into the largest magnitude (Table KF-7). -/
def convertE5M2 (src : Fmt) (sat : Bool) (c : Nat) : Nat :=
  let r := Fmt.e5m2.encode .near (src.decode c)
  match src.decode c with
  | .fin neg _ _ => if sat && decide (r % 0x80 = Fmt.e5m2.infCode) then Fmt.e5m2.signed neg Fmt.e5m2.maxCode else r
  | _ => r

/-- Absolute value, then negation, of an FP32 operand (R130). -/
def f32Mod (neg abs : Bool) (c : Nat) : Nat :=
  let m := if abs then c % 2 ^ 31 else c
  if neg then m ^^^ 2 ^ 31 else m

end Sys2Proof.Machine
end

