-- ==== Sys2Proof/Config.lean ====
section
/-! DEFINITION. What the spec leaves open: constants without a body, so that no proof can see their value. -/

namespace Sys2Proof.Config

/-- A free value: the n-th value that the machine takes where the spec states none (log entry 5). -/
opaque free : Nat → BitVec 64

/-- Whether a signature verifies under key `key` of the part's ROM (R408, R430): the keys are not published. Arguments: 0 for
firmware keys and 1 for licence keys, KEY_ID, the signed bytes, SIG_R and SIG_S, the public key given with the image. -/
opaque signatureVerifies : Nat → Nat → List Byte → List Byte → List Byte → Bool

end Sys2Proof.Config
end

