-- ==== Sys2Proof/Machine/RegTypes.lean ====
section
/-! DEFINITION. What a register of region 0x8 and a field of it are (R17, R18, R520, R521): the access codes of Table SC-5,
the reset column, the offset formula of Table RG-4. -/

namespace Sys2Proof.Machine

/-- The access codes of Table SC-5 (R17). Reserved bits (RZ) are the bits that no field names. -/
inductive Acc where
  | ro | rw | w1c | w1s | rc | wo
  deriving DecidableEq, Repr

/-- The reset column of a field table: a number, or the value that the column says in words. -/
inductive Rst where
  /-- a number -/
  | const (n : Nat)
  /-- "physical id": the instance index -/
  | physId
  /-- "stack number" -/
  | stackNo
  /-- "0x2D4 (W), 0x2E6 (E)" -/
  | cacheBay
  /-- "stack 0: 1" -/
  | primary
  /-- "Table EV-2" -/
  | target
  /-- "0x02D0 for diodes, 0x7FFF for thermistors" -/
  | warn
  /-- "0x0320 for diodes, 0x7FFF for thermistors" -/
  | throttle
  /-- 0x0D6B on thermistor channels, 0 (RZ) on diode channels -/
  | beta
  /-- "fused": the value lies in State.fuse, not here -/
  | fused
  deriving DecidableEq, Repr

/-- A register with its instances (R521, Table RG-4): instance k lies at
base + (k / inner) × outer + (k mod inner) × stride. -/
structure RegDef where
  name   : String
  base   : Nat
  outer  : Nat
  inner  : Nat
  stride : Nat
  count  : Nat
  deriving DecidableEq, Repr

/-- A field of a register: its lowest bit, width, access code and reset value. -/
structure Fld where
  reg   : RegDef
  lo    : Nat
  width : Nat
  acc   : Acc
  rst   : Rst
  deriving DecidableEq, Repr

end Sys2Proof.Machine
end

