-- ==== Sys2Proof/Machine/RegsA.lean ====
section
/-! DEFINITION. The register index, part 1: the CORE_ registers. Written from the field tables of the chapters and from Table RG-4
(spec/20_register_reference.md, R521, R522): one `RegDef` per register, one `Fld` per field, one list per register. -/

namespace Sys2Proof.Machine.Reg

/-- CORE_IDENT (spec/01_architecture.md, Table RG-4). -/
def CORE_IDENT : RegDef := ⟨"CORE_IDENT", 0x0, 0x0, 864, 0x10000, 864⟩
def CORE_IDENT_PHYS_ID : Fld := ⟨CORE_IDENT, 0, 10, .ro, .physId⟩
def CORE_IDENT_ROLE : Fld := ⟨CORE_IDENT, 10, 2, .ro, .const 0⟩
def CORE_IDENT_LOGICAL : Fld := ⟨CORE_IDENT, 16, 10, .ro, .const 1023⟩
def CORE_IDENT_HOME : Fld := ⟨CORE_IDENT, 32, 10, .ro, .const 1023⟩
def CORE_IDENT_STACK : Fld := ⟨CORE_IDENT, 48, 2, .ro, .stackNo⟩
def CORE_IDENT_MAP_VALID : Fld := ⟨CORE_IDENT, 63, 1, .ro, .const 0⟩
def CORE_IDENT_fields : List Fld := [CORE_IDENT_PHYS_ID, CORE_IDENT_ROLE, CORE_IDENT_LOGICAL, CORE_IDENT_HOME, CORE_IDENT_STACK, CORE_IDENT_MAP_VALID]

/-- CORE_SCRIPT_STATE (spec/02_execution_model.md, Table RG-4). -/
def CORE_SCRIPT_STATE : RegDef := ⟨"CORE_SCRIPT_STATE", 0x100, 0x0, 864, 0x10000, 864⟩
def CORE_SCRIPT_STATE_SCRIPT_INDEX : Fld := ⟨CORE_SCRIPT_STATE, 0, 13, .ro, .const 0⟩
def CORE_SCRIPT_STATE_REPLAYS : Fld := ⟨CORE_SCRIPT_STATE, 16, 8, .ro, .const 0⟩
def CORE_SCRIPT_STATE_DUPLICATES : Fld := ⟨CORE_SCRIPT_STATE, 24, 8, .ro, .const 0⟩
def CORE_SCRIPT_STATE_WAITING_TOKEN : Fld := ⟨CORE_SCRIPT_STATE, 32, 1, .ro, .const 0⟩
def CORE_SCRIPT_STATE_WAITING_CREDIT : Fld := ⟨CORE_SCRIPT_STATE, 33, 1, .ro, .const 0⟩
def CORE_SCRIPT_STATE_CHANNEL_FAULT : Fld := ⟨CORE_SCRIPT_STATE, 34, 1, .ro, .const 0⟩
def CORE_SCRIPT_STATE_fields : List Fld := [CORE_SCRIPT_STATE_SCRIPT_INDEX, CORE_SCRIPT_STATE_REPLAYS, CORE_SCRIPT_STATE_DUPLICATES, CORE_SCRIPT_STATE_WAITING_TOKEN, CORE_SCRIPT_STATE_WAITING_CREDIT, CORE_SCRIPT_STATE_CHANNEL_FAULT]

/-- CORE_COMMIT_COUNT (spec/02_execution_model.md, Table RG-4). -/
def CORE_COMMIT_COUNT : RegDef := ⟨"CORE_COMMIT_COUNT", 0x108, 0x0, 864, 0x10000, 864⟩
def CORE_COMMIT_COUNT_COMMITS : Fld := ⟨CORE_COMMIT_COUNT, 0, 64, .ro, .const 0⟩
def CORE_COMMIT_COUNT_fields : List Fld := [CORE_COMMIT_COUNT_COMMITS]

/-- CORE_LAUNCH (spec/03_thread_groups.md, Table RG-4). -/
def CORE_LAUNCH : RegDef := ⟨"CORE_LAUNCH", 0x200, 0x0, 864, 0x10000, 864⟩
def CORE_LAUNCH_BLOCK_NEXT : Fld := ⟨CORE_LAUNCH, 0, 16, .ro, .const 0⟩
def CORE_LAUNCH_BLOCKS_RESIDENT : Fld := ⟨CORE_LAUNCH, 16, 5, .ro, .const 0⟩
def CORE_LAUNCH_GROUPS_RESIDENT : Fld := ⟨CORE_LAUNCH, 24, 6, .ro, .const 0⟩
def CORE_LAUNCH_K : Fld := ⟨CORE_LAUNCH, 32, 5, .ro, .const 0⟩
def CORE_LAUNCH_ACTIVE : Fld := ⟨CORE_LAUNCH, 40, 1, .ro, .const 0⟩
def CORE_LAUNCH_DUAL : Fld := ⟨CORE_LAUNCH, 41, 1, .ro, .const 0⟩
def CORE_LAUNCH_fields : List Fld := [CORE_LAUNCH_BLOCK_NEXT, CORE_LAUNCH_BLOCKS_RESIDENT, CORE_LAUNCH_GROUPS_RESIDENT, CORE_LAUNCH_K, CORE_LAUNCH_ACTIVE, CORE_LAUNCH_DUAL]

/-- CORE_BAR_STATUS (spec/03_thread_groups.md, Table RG-4). -/
def CORE_BAR_STATUS : RegDef := ⟨"CORE_BAR_STATUS", 0x210, 0x0, 864, 0x10000, 864⟩
def CORE_BAR_STATUS_BLOCK_SLOT : Fld := ⟨CORE_BAR_STATUS, 0, 4, .ro, .const 0⟩
def CORE_BAR_STATUS_BARRIER : Fld := ⟨CORE_BAR_STATUS, 4, 2, .ro, .const 0⟩
def CORE_BAR_STATUS_ARRIVED : Fld := ⟨CORE_BAR_STATUS, 8, 6, .ro, .const 0⟩
def CORE_BAR_STATUS_STALL : Fld := ⟨CORE_BAR_STATUS, 16, 1, .w1c, .const 0⟩
def CORE_BAR_STATUS_STALL_COUNT : Fld := ⟨CORE_BAR_STATUS, 32, 16, .ro, .const 0⟩
def CORE_BAR_STATUS_fields : List Fld := [CORE_BAR_STATUS_BLOCK_SLOT, CORE_BAR_STATUS_BARRIER, CORE_BAR_STATUS_ARRIVED, CORE_BAR_STATUS_STALL, CORE_BAR_STATUS_STALL_COUNT]

/-- CORE_BAR_WATCHDOG (spec/03_thread_groups.md, Table RG-4). -/
def CORE_BAR_WATCHDOG : RegDef := ⟨"CORE_BAR_WATCHDOG", 0x218, 0x0, 864, 0x10000, 864⟩
def CORE_BAR_WATCHDOG_SHIFT : Fld := ⟨CORE_BAR_WATCHDOG, 0, 6, .rw, .const 28⟩
def CORE_BAR_WATCHDOG_fields : List Fld := [CORE_BAR_WATCHDOG_SHIFT]

/-- CORE_NC_STATUS (spec/03_thread_groups.md, Table RG-4). -/
def CORE_NC_STATUS : RegDef := ⟨"CORE_NC_STATUS", 0x220, 0x0, 864, 0x10000, 864⟩
def CORE_NC_STATUS_INVALIDATIONS : Fld := ⟨CORE_NC_STATUS, 0, 16, .rc, .const 0⟩
def CORE_NC_STATUS_ENABLE : Fld := ⟨CORE_NC_STATUS, 16, 1, .rw, .const 1⟩
def CORE_NC_STATUS_fields : List Fld := [CORE_NC_STATUS_INVALIDATIONS, CORE_NC_STATUS_ENABLE]

/-- CORE_ATOMIC_STATUS (spec/03_thread_groups.md, Table RG-4). -/
def CORE_ATOMIC_STATUS : RegDef := ⟨"CORE_ATOMIC_STATUS", 0x228, 0x0, 864, 0x10000, 864⟩
def CORE_ATOMIC_STATUS_JOURNAL_USED : Fld := ⟨CORE_ATOMIC_STATUS, 0, 10, .ro, .const 0⟩
def CORE_ATOMIC_STATUS_JOURNAL_PEAK : Fld := ⟨CORE_ATOMIC_STATUS, 16, 10, .ro, .const 0⟩
def CORE_ATOMIC_STATUS_fields : List Fld := [CORE_ATOMIC_STATUS_JOURNAL_USED, CORE_ATOMIC_STATUS_JOURNAL_PEAK]

/-- CORE_DUAL_STATUS (spec/03_thread_groups.md, Table RG-4). -/
def CORE_DUAL_STATUS : RegDef := ⟨"CORE_DUAL_STATUS", 0x230, 0x0, 864, 0x10000, 864⟩
def CORE_DUAL_STATUS_MISMATCHES : Fld := ⟨CORE_DUAL_STATUS, 0, 16, .rc, .const 0⟩
def CORE_DUAL_STATUS_LAST_PAIR : Fld := ⟨CORE_DUAL_STATUS, 16, 1, .ro, .const 0⟩
def CORE_DUAL_STATUS_LAST_LANE : Fld := ⟨CORE_DUAL_STATUS, 17, 5, .ro, .const 0⟩
def CORE_DUAL_STATUS_LAST_CLASS : Fld := ⟨CORE_DUAL_STATUS, 24, 6, .ro, .const 0⟩
def CORE_DUAL_STATUS_fields : List Fld := [CORE_DUAL_STATUS_MISMATCHES, CORE_DUAL_STATUS_LAST_PAIR, CORE_DUAL_STATUS_LAST_LANE, CORE_DUAL_STATUS_LAST_CLASS]

/-- CORE_FAULT_INFO (spec/04_kernel_form.md, Table RG-4). -/
def CORE_FAULT_INFO : RegDef := ⟨"CORE_FAULT_INFO", 0x300, 0x0, 864, 0x10000, 864⟩
def CORE_FAULT_INFO_CAUSE : Fld := ⟨CORE_FAULT_INFO, 0, 6, .ro, .const 0⟩
def CORE_FAULT_INFO_GROUP_SLOT : Fld := ⟨CORE_FAULT_INFO, 8, 6, .ro, .const 0⟩
def CORE_FAULT_INFO_BLOCK : Fld := ⟨CORE_FAULT_INFO, 16, 16, .ro, .const 0⟩
def CORE_FAULT_INFO_LANE : Fld := ⟨CORE_FAULT_INFO, 32, 5, .ro, .const 0⟩
def CORE_FAULT_INFO_VALID : Fld := ⟨CORE_FAULT_INFO, 40, 1, .ro, .const 0⟩
def CORE_FAULT_INFO_MULTIPLE : Fld := ⟨CORE_FAULT_INFO, 41, 1, .ro, .const 0⟩
def CORE_FAULT_INFO_CODE : Fld := ⟨CORE_FAULT_INFO, 52, 12, .ro, .const 0⟩
def CORE_FAULT_INFO_fields : List Fld := [CORE_FAULT_INFO_CAUSE, CORE_FAULT_INFO_GROUP_SLOT, CORE_FAULT_INFO_BLOCK, CORE_FAULT_INFO_LANE, CORE_FAULT_INFO_VALID, CORE_FAULT_INFO_MULTIPLE, CORE_FAULT_INFO_CODE]

/-- CORE_FAULT_PC (spec/04_kernel_form.md, Table RG-4). -/
def CORE_FAULT_PC : RegDef := ⟨"CORE_FAULT_PC", 0x308, 0x0, 864, 0x10000, 864⟩
def CORE_FAULT_PC_PC : Fld := ⟨CORE_FAULT_PC, 0, 19, .ro, .const 0⟩
def CORE_FAULT_PC_SCRIPT_INDEX : Fld := ⟨CORE_FAULT_PC, 32, 13, .ro, .const 0⟩
def CORE_FAULT_PC_fields : List Fld := [CORE_FAULT_PC_PC, CORE_FAULT_PC_SCRIPT_INDEX]

/-- CORE_FAULT_ADDR (spec/04_kernel_form.md, Table RG-4). -/
def CORE_FAULT_ADDR : RegDef := ⟨"CORE_FAULT_ADDR", 0x310, 0x0, 864, 0x10000, 864⟩
def CORE_FAULT_ADDR_ADDR : Fld := ⟨CORE_FAULT_ADDR, 0, 52, .ro, .const 0⟩
def CORE_FAULT_ADDR_fields : List Fld := [CORE_FAULT_ADDR_ADDR]

/-- CORE_FAULT_WORD (spec/04_kernel_form.md, Table RG-4). -/
def CORE_FAULT_WORD : RegDef := ⟨"CORE_FAULT_WORD", 0x318, 0x0, 864, 0x10000, 864⟩
def CORE_FAULT_WORD_WORD : Fld := ⟨CORE_FAULT_WORD, 0, 64, .ro, .const 0⟩
def CORE_FAULT_WORD_fields : List Fld := [CORE_FAULT_WORD_WORD]

/-- CORE_MX_STATUS (spec/05_matrix_array.md, Table RG-4). -/
def CORE_MX_STATUS : RegDef := ⟨"CORE_MX_STATUS", 0x400, 0x0, 864, 0x10000, 864⟩
def CORE_MX_STATUS_ACTIVE_FMT : Fld := ⟨CORE_MX_STATUS, 0, 4, .ro, .const 15⟩
def CORE_MX_STATUS_SHADOW_FMT : Fld := ⟨CORE_MX_STATUS, 4, 4, .ro, .const 15⟩
def CORE_MX_STATUS_LOADING : Fld := ⟨CORE_MX_STATUS, 8, 1, .ro, .const 0⟩
def CORE_MX_STATUS_STREAMING : Fld := ⟨CORE_MX_STATUS, 9, 1, .ro, .const 0⟩
def CORE_MX_STATUS_DRAINING : Fld := ⟨CORE_MX_STATUS, 10, 1, .ro, .const 0⟩
def CORE_MX_STATUS_RECHECK : Fld := ⟨CORE_MX_STATUS, 11, 1, .ro, .const 0⟩
def CORE_MX_STATUS_SKIPPER_WAIT : Fld := ⟨CORE_MX_STATUS, 12, 1, .ro, .const 0⟩
def CORE_MX_STATUS_QUEUED : Fld := ⟨CORE_MX_STATUS, 16, 5, .ro, .const 0⟩
def CORE_MX_STATUS_fields : List Fld := [CORE_MX_STATUS_ACTIVE_FMT, CORE_MX_STATUS_SHADOW_FMT, CORE_MX_STATUS_LOADING, CORE_MX_STATUS_STREAMING, CORE_MX_STATUS_DRAINING, CORE_MX_STATUS_RECHECK, CORE_MX_STATUS_SKIPPER_WAIT, CORE_MX_STATUS_QUEUED]

/-- CORE_MX_CHECK (spec/05_matrix_array.md, Table RG-4). -/
def CORE_MX_CHECK : RegDef := ⟨"CORE_MX_CHECK", 0x408, 0x0, 864, 0x10000, 864⟩
def CORE_MX_CHECK_NUMERICAL : Fld := ⟨CORE_MX_CHECK, 0, 16, .rc, .const 0⟩
def CORE_MX_CHECK_FAULTS : Fld := ⟨CORE_MX_CHECK, 16, 16, .rc, .const 0⟩
def CORE_MX_CHECK_SKIPPED : Fld := ⟨CORE_MX_CHECK, 32, 16, .rc, .const 0⟩
def CORE_MX_CHECK_fields : List Fld := [CORE_MX_CHECK_NUMERICAL, CORE_MX_CHECK_FAULTS, CORE_MX_CHECK_SKIPPED]

/-- CORE_MX_LAST (spec/05_matrix_array.md, Table RG-4). -/
def CORE_MX_LAST : RegDef := ⟨"CORE_MX_LAST", 0x410, 0x0, 864, 0x10000, 864⟩
def CORE_MX_LAST_ROW : Fld := ⟨CORE_MX_LAST, 0, 9, .ro, .const 0⟩
def CORE_MX_LAST_ACC_ROW : Fld := ⟨CORE_MX_LAST, 16, 9, .ro, .const 0⟩
def CORE_MX_LAST_KIND : Fld := ⟨CORE_MX_LAST, 25, 1, .ro, .const 0⟩
def CORE_MX_LAST_VALID : Fld := ⟨CORE_MX_LAST, 26, 1, .w1c, .const 0⟩
def CORE_MX_LAST_INTEGER : Fld := ⟨CORE_MX_LAST, 27, 1, .ro, .const 0⟩
def CORE_MX_LAST_RESIDUAL_EXP : Fld := ⟨CORE_MX_LAST, 32, 16, .ro, .const 0⟩
def CORE_MX_LAST_fields : List Fld := [CORE_MX_LAST_ROW, CORE_MX_LAST_ACC_ROW, CORE_MX_LAST_KIND, CORE_MX_LAST_VALID, CORE_MX_LAST_INTEGER, CORE_MX_LAST_RESIDUAL_EXP]

/-- CORE_MX_ROWS (spec/05_matrix_array.md, Table RG-4). -/
def CORE_MX_ROWS : RegDef := ⟨"CORE_MX_ROWS", 0x418, 0x0, 864, 0x10000, 864⟩
def CORE_MX_ROWS_ROWS : Fld := ⟨CORE_MX_ROWS, 0, 48, .ro, .const 0⟩
def CORE_MX_ROWS_OVF : Fld := ⟨CORE_MX_ROWS, 48, 1, .w1c, .const 0⟩
def CORE_MX_ROWS_fields : List Fld := [CORE_MX_ROWS_ROWS, CORE_MX_ROWS_OVF]

/-- CORE_ACC_STATUS (spec/06_accumulation.md, Table RG-4). -/
def CORE_ACC_STATUS : RegDef := ⟨"CORE_ACC_STATUS", 0x420, 0x0, 864, 0x10000, 864⟩
def CORE_ACC_STATUS_INT_WRAPS : Fld := ⟨CORE_ACC_STATUS, 0, 16, .rc, .const 0⟩
def CORE_ACC_STATUS_FP_OVERFLOWS : Fld := ⟨CORE_ACC_STATUS, 16, 16, .rc, .const 0⟩
def CORE_ACC_STATUS_ACC_REFUSED : Fld := ⟨CORE_ACC_STATUS, 32, 16, .rc, .const 0⟩
def CORE_ACC_STATUS_fields : List Fld := [CORE_ACC_STATUS_INT_WRAPS, CORE_ACC_STATUS_FP_OVERFLOWS, CORE_ACC_STATUS_ACC_REFUSED]

/-- CORE_ATT_STATUS (spec/07_attention.md, Table RG-4). -/
def CORE_ATT_STATUS : RegDef := ⟨"CORE_ATT_STATUS", 0x500, 0x0, 864, 0x10000, 864⟩
def CORE_ATT_STATUS_BIAS_LOADED : Fld := ⟨CORE_ATT_STATUS, 0, 8, .ro, .const 0⟩
def CORE_ATT_STATUS_PACK_VALID : Fld := ⟨CORE_ATT_STATUS, 8, 1, .ro, .const 0⟩
def CORE_ATT_STATUS_PACK_COUNT : Fld := ⟨CORE_ATT_STATUS, 9, 6, .ro, .const 0⟩
def CORE_ATT_STATUS_BUSY : Fld := ⟨CORE_ATT_STATUS, 15, 1, .ro, .const 0⟩
def CORE_ATT_STATUS_QUEUED : Fld := ⟨CORE_ATT_STATUS, 16, 4, .ro, .const 0⟩
def CORE_ATT_STATUS_EMPTY_ROW : Fld := ⟨CORE_ATT_STATUS, 20, 1, .w1c, .const 0⟩
def CORE_ATT_STATUS_NONFINITE : Fld := ⟨CORE_ATT_STATUS, 21, 1, .w1c, .const 0⟩
def CORE_ATT_STATUS_fields : List Fld := [CORE_ATT_STATUS_BIAS_LOADED, CORE_ATT_STATUS_PACK_VALID, CORE_ATT_STATUS_PACK_COUNT, CORE_ATT_STATUS_BUSY, CORE_ATT_STATUS_QUEUED, CORE_ATT_STATUS_EMPTY_ROW, CORE_ATT_STATUS_NONFINITE]

/-- CORE_ATT_COUNT (spec/07_attention.md, Table RG-4). -/
def CORE_ATT_COUNT : RegDef := ⟨"CORE_ATT_COUNT", 0x508, 0x0, 864, 0x10000, 864⟩
def CORE_ATT_COUNT_EMPTY_ROWS : Fld := ⟨CORE_ATT_COUNT, 0, 32, .rc, .const 0⟩
def CORE_ATT_COUNT_NONFINITE_ROWS : Fld := ⟨CORE_ATT_COUNT, 32, 32, .rc, .const 0⟩
def CORE_ATT_COUNT_fields : List Fld := [CORE_ATT_COUNT_EMPTY_ROWS, CORE_ATT_COUNT_NONFINITE_ROWS]

/-- CORE_INTEGRITY (spec/11_integrity.md, Table RG-4). -/
def CORE_INTEGRITY : RegDef := ⟨"CORE_INTEGRITY", 0x600, 0x0, 864, 0x10000, 864⟩
def CORE_INTEGRITY_CONSUMED : Fld := ⟨CORE_INTEGRITY, 0, 16, .rc, .const 0⟩
def CORE_INTEGRITY_WATCHDOG : Fld := ⟨CORE_INTEGRITY, 16, 16, .rc, .const 0⟩
def CORE_INTEGRITY_LAST_KIND : Fld := ⟨CORE_INTEGRITY, 32, 3, .ro, .const 0⟩
def CORE_INTEGRITY_STALLED : Fld := ⟨CORE_INTEGRITY, 35, 1, .ro, .const 0⟩
def CORE_INTEGRITY_fields : List Fld := [CORE_INTEGRITY_CONSUMED, CORE_INTEGRITY_WATCHDOG, CORE_INTEGRITY_LAST_KIND, CORE_INTEGRITY_STALLED]

/-- CORE_POWER (spec/17_power.md, Table RG-4). -/
def CORE_POWER : RegDef := ⟨"CORE_POWER", 0x700, 0x0, 864, 0x10000, 864⟩
def CORE_POWER_LDO_SET : Fld := ⟨CORE_POWER, 0, 6, .rw, .const 50⟩
def CORE_POWER_LDO_NOW : Fld := ⟨CORE_POWER, 8, 6, .ro, .const 0⟩
def CORE_POWER_STATE : Fld := ⟨CORE_POWER, 16, 2, .ro, .const 0⟩
def CORE_POWER_STOP_REQ : Fld := ⟨CORE_POWER, 18, 1, .rw, .const 0⟩
def CORE_POWER_LAST_SLOW : Fld := ⟨CORE_POWER, 19, 1, .ro, .const 0⟩
def CORE_POWER_LAST_EXPIRED : Fld := ⟨CORE_POWER, 20, 1, .ro, .const 0⟩
def CORE_POWER_LAST_WAIT_US : Fld := ⟨CORE_POWER, 32, 8, .ro, .const 0⟩
def CORE_POWER_WAKES : Fld := ⟨CORE_POWER, 48, 16, .rc, .const 0⟩
def CORE_POWER_fields : List Fld := [CORE_POWER_LDO_SET, CORE_POWER_LDO_NOW, CORE_POWER_STATE, CORE_POWER_STOP_REQ, CORE_POWER_LAST_SLOW, CORE_POWER_LAST_EXPIRED, CORE_POWER_LAST_WAIT_US, CORE_POWER_WAKES]

def index1_0 : List (RegDef × List Fld) :=
  [(CORE_IDENT, CORE_IDENT_fields),
   (CORE_SCRIPT_STATE, CORE_SCRIPT_STATE_fields),
   (CORE_COMMIT_COUNT, CORE_COMMIT_COUNT_fields),
   (CORE_LAUNCH, CORE_LAUNCH_fields),
   (CORE_BAR_STATUS, CORE_BAR_STATUS_fields),
   (CORE_BAR_WATCHDOG, CORE_BAR_WATCHDOG_fields),
   (CORE_NC_STATUS, CORE_NC_STATUS_fields),
   (CORE_ATOMIC_STATUS, CORE_ATOMIC_STATUS_fields),
   (CORE_DUAL_STATUS, CORE_DUAL_STATUS_fields),
   (CORE_FAULT_INFO, CORE_FAULT_INFO_fields),
   (CORE_FAULT_PC, CORE_FAULT_PC_fields),
   (CORE_FAULT_ADDR, CORE_FAULT_ADDR_fields),
   (CORE_FAULT_WORD, CORE_FAULT_WORD_fields),
   (CORE_MX_STATUS, CORE_MX_STATUS_fields),
   (CORE_MX_CHECK, CORE_MX_CHECK_fields),
   (CORE_MX_LAST, CORE_MX_LAST_fields)]

def index1_1 : List (RegDef × List Fld) :=
  [(CORE_MX_ROWS, CORE_MX_ROWS_fields),
   (CORE_ACC_STATUS, CORE_ACC_STATUS_fields),
   (CORE_ATT_STATUS, CORE_ATT_STATUS_fields),
   (CORE_ATT_COUNT, CORE_ATT_COUNT_fields),
   (CORE_INTEGRITY, CORE_INTEGRITY_fields),
   (CORE_POWER, CORE_POWER_fields)]

/-- The registers of this file with their fields. -/
def index1 : List (RegDef × List Fld) := index1_0 ++ index1_1

end Sys2Proof.Machine.Reg
end

