-- ==== Sys2Proof/Machine/RegsB.lean ====
section
/-! DEFINITION. The register index, part 2: the CDIE_, CAB_, SYNC_ and LNK_ registers. Written from the field tables of the chapters and from Table RG-4
(spec/20_register_reference.md, R521, R522): one `RegDef` per register, one `Fld` per field, one list per register. -/

namespace Sys2Proof.Machine.Reg

/-- SYNC_COUNT (spec/02_execution_model.md, Table RG-4). -/
def SYNC_COUNT : RegDef := ⟨"SYNC_COUNT", 0x4400000, 0x0, 8192, 0x40, 8192⟩
def SYNC_COUNT_COUNT : Fld := ⟨SYNC_COUNT, 0, 48, .ro, .const 0⟩
def SYNC_COUNT_fields : List Fld := [SYNC_COUNT_COUNT]

/-- SYNC_SIGNAL (spec/02_execution_model.md, Table RG-4). -/
def SYNC_SIGNAL : RegDef := ⟨"SYNC_SIGNAL", 0x4400008, 0x0, 8192, 0x40, 8192⟩
def SYNC_SIGNAL_N : Fld := ⟨SYNC_SIGNAL, 0, 16, .wo, .const 0⟩
def SYNC_SIGNAL_FAIL_CODE : Fld := ⟨SYNC_SIGNAL, 16, 16, .wo, .const 0⟩
def SYNC_SIGNAL_fields : List Fld := [SYNC_SIGNAL_N, SYNC_SIGNAL_FAIL_CODE]

/-- SYNC_STATUS (spec/02_execution_model.md, Table RG-4). -/
def SYNC_STATUS : RegDef := ⟨"SYNC_STATUS", 0x4400010, 0x0, 8192, 0x40, 8192⟩
def SYNC_STATUS_FAIL_CODE : Fld := ⟨SYNC_STATUS, 0, 16, .ro, .const 0⟩
def SYNC_STATUS_FAILED : Fld := ⟨SYNC_STATUS, 16, 1, .ro, .const 0⟩
def SYNC_STATUS_STALLED : Fld := ⟨SYNC_STATUS, 17, 1, .w1c, .const 0⟩
def SYNC_STATUS_WAITERS : Fld := ⟨SYNC_STATUS, 24, 8, .ro, .const 0⟩
def SYNC_STATUS_fields : List Fld := [SYNC_STATUS_FAIL_CODE, SYNC_STATUS_FAILED, SYNC_STATUS_STALLED, SYNC_STATUS_WAITERS]

/-- SYNC_FWD_STRIDE (spec/02_execution_model.md, Table RG-4). -/
def SYNC_FWD_STRIDE : RegDef := ⟨"SYNC_FWD_STRIDE", 0x4400018, 0x0, 8192, 0x40, 8192⟩
def SYNC_FWD_STRIDE_STRIDE : Fld := ⟨SYNC_FWD_STRIDE, 0, 48, .ro, .const 0⟩
def SYNC_FWD_STRIDE_TIMEOUT_MS : Fld := ⟨SYNC_FWD_STRIDE, 48, 16, .ro, .const 0⟩
def SYNC_FWD_STRIDE_fields : List Fld := [SYNC_FWD_STRIDE_STRIDE, SYNC_FWD_STRIDE_TIMEOUT_MS]

/-- SYNC_FWD_TARGET (spec/02_execution_model.md, Table RG-4). -/
def SYNC_FWD_TARGET : RegDef := ⟨"SYNC_FWD_TARGET", 0x4400020, 0x0, 8192, 0x40, 8192⟩
def SYNC_FWD_TARGET_TARGET0 : Fld := ⟨SYNC_FWD_TARGET, 0, 32, .ro, .const 4294967295⟩
def SYNC_FWD_TARGET_TARGET1 : Fld := ⟨SYNC_FWD_TARGET, 32, 32, .ro, .const 4294967295⟩
def SYNC_FWD_TARGET_fields : List Fld := [SYNC_FWD_TARGET_TARGET0, SYNC_FWD_TARGET_TARGET1]

/-- SYNC_FWD_N (spec/02_execution_model.md, Table RG-4). -/
def SYNC_FWD_N : RegDef := ⟨"SYNC_FWD_N", 0x4400028, 0x0, 8192, 0x40, 8192⟩
def SYNC_FWD_N_N0 : Fld := ⟨SYNC_FWD_N, 0, 16, .ro, .const 0⟩
def SYNC_FWD_N_N1 : Fld := ⟨SYNC_FWD_N, 16, 16, .ro, .const 0⟩
def SYNC_FWD_N_fields : List Fld := [SYNC_FWD_N_N0, SYNC_FWD_N_N1]

/-- SYNC_DROPPED (spec/02_execution_model.md, Table RG-4). -/
def SYNC_DROPPED : RegDef := ⟨"SYNC_DROPPED", 0x4480000, 0x0, 1, 0x0, 1⟩
def SYNC_DROPPED_DROPPED : Fld := ⟨SYNC_DROPPED, 0, 32, .rc, .const 0⟩
def SYNC_DROPPED_STALLED_OBJECTS : Fld := ⟨SYNC_DROPPED, 32, 16, .ro, .const 0⟩
def SYNC_DROPPED_fields : List Fld := [SYNC_DROPPED_DROPPED, SYNC_DROPPED_STALLED_OBJECTS]

/-- CAB_POOL_CFG (spec/08_kv_cache.md, Table RG-4). -/
def CAB_POOL_CFG : RegDef := ⟨"CAB_POOL_CFG", 0x4200000, 0x0, 2, 0x100000, 2⟩
def CAB_POOL_CFG_FRAMES : Fld := ⟨CAB_POOL_CFG, 0, 16, .rw, .const 0⟩
def CAB_POOL_CFG_MAP_BLOCKS : Fld := ⟨CAB_POOL_CFG, 16, 16, .rw, .const 0⟩
def CAB_POOL_CFG_INTAKE : Fld := ⟨CAB_POOL_CFG, 32, 6, .rw, .const 0⟩
def CAB_POOL_CFG_fields : List Fld := [CAB_POOL_CFG_FRAMES, CAB_POOL_CFG_MAP_BLOCKS, CAB_POOL_CFG_INTAKE]

/-- CAB_POOL_BASE (spec/08_kv_cache.md, Table RG-4). -/
def CAB_POOL_BASE : RegDef := ⟨"CAB_POOL_BASE", 0x4200008, 0x0, 2, 0x100000, 2⟩
def CAB_POOL_BASE_BASE : Fld := ⟨CAB_POOL_BASE, 0, 52, .rw, .const 0⟩
def CAB_POOL_BASE_fields : List Fld := [CAB_POOL_BASE_BASE]

/-- CAB_LP_CFG (spec/08_kv_cache.md, Table RG-4). -/
def CAB_LP_CFG : RegDef := ⟨"CAB_LP_CFG", 0x4200010, 0x0, 2, 0x100000, 2⟩
def CAB_LP_CFG_CHEST_SLOTS : Fld := ⟨CAB_LP_CFG, 0, 22, .rw, .const 0⟩
def CAB_LP_CFG_CHEST_EN : Fld := ⟨CAB_LP_CFG, 22, 1, .rw, .const 0⟩
def CAB_LP_CFG_fields : List Fld := [CAB_LP_CFG_CHEST_SLOTS, CAB_LP_CFG_CHEST_EN]

/-- CAB_LP_BASE (spec/08_kv_cache.md, Table RG-4). -/
def CAB_LP_BASE : RegDef := ⟨"CAB_LP_BASE", 0x4200018, 0x0, 2, 0x100000, 2⟩
def CAB_LP_BASE_BASE : Fld := ⟨CAB_LP_BASE, 0, 52, .rw, .const 0⟩
def CAB_LP_BASE_fields : List Fld := [CAB_LP_BASE_BASE]

/-- CAB_CLASS_CFG (spec/08_kv_cache.md, Table RG-4). -/
def CAB_CLASS_CFG : RegDef := ⟨"CAB_CLASS_CFG", 0x4200020, 0x0, 2, 0x100000, 2⟩
def CAB_CLASS_CFG_SPILL : Fld := ⟨CAB_CLASS_CFG, 0, 4, .rw, .const 15⟩
def CAB_CLASS_CFG_DROP : Fld := ⟨CAB_CLASS_CFG, 4, 4, .rw, .const 0⟩
def CAB_CLASS_CFG_fields : List Fld := [CAB_CLASS_CFG_SPILL, CAB_CLASS_CFG_DROP]

/-- CAB_STATUS (spec/08_kv_cache.md, Table RG-4). -/
def CAB_STATUS : RegDef := ⟨"CAB_STATUS", 0x4200028, 0x0, 2, 0x100000, 2⟩
def CAB_STATUS_FREE_FRAMES : Fld := ⟨CAB_STATUS, 0, 16, .ro, .const 0⟩
def CAB_STATUS_SPARES : Fld := ⟨CAB_STATUS, 16, 5, .ro, .const 0⟩
def CAB_STATUS_CHEST_FREE : Fld := ⟨CAB_STATUS, 22, 22, .ro, .const 0⟩
def CAB_STATUS_MAP_FREE : Fld := ⟨CAB_STATUS, 44, 16, .ro, .const 0⟩
def CAB_STATUS_fields : List Fld := [CAB_STATUS_FREE_FRAMES, CAB_STATUS_SPARES, CAB_STATUS_CHEST_FREE, CAB_STATUS_MAP_FREE]

/-- CAB_ORDER (spec/08_kv_cache.md, Table RG-4). -/
def CAB_ORDER : RegDef := ⟨"CAB_ORDER", 0x4200030, 0x0, 2, 0x100000, 2⟩
def CAB_ORDER_NEXT_KEY : Fld := ⟨CAB_ORDER, 0, 32, .ro, .const 0⟩
def CAB_ORDER_QUEUED : Fld := ⟨CAB_ORDER, 32, 13, .ro, .const 0⟩
def CAB_ORDER_INTAKE_WAIT : Fld := ⟨CAB_ORDER, 45, 1, .ro, .const 0⟩
def CAB_ORDER_fields : List Fld := [CAB_ORDER_NEXT_KEY, CAB_ORDER_QUEUED, CAB_ORDER_INTAKE_WAIT]

/-- CAB_STAMP (spec/08_kv_cache.md, Table RG-4). -/
def CAB_STAMP : RegDef := ⟨"CAB_STAMP", 0x4200038, 0x0, 2, 0x100000, 2⟩
def CAB_STAMP_STAMP : Fld := ⟨CAB_STAMP, 0, 32, .ro, .const 0⟩
def CAB_STAMP_APPENDS_LO : Fld := ⟨CAB_STAMP, 32, 10, .ro, .const 0⟩
def CAB_STAMP_fields : List Fld := [CAB_STAMP_STAMP, CAB_STAMP_APPENDS_LO]

/-- CAB_COUNT0 (spec/08_kv_cache.md, Table RG-4). -/
def CAB_COUNT0 : RegDef := ⟨"CAB_COUNT0", 0x4200040, 0x0, 2, 0x100000, 2⟩
def CAB_COUNT0_SPILLS : Fld := ⟨CAB_COUNT0, 0, 16, .rc, .const 0⟩
def CAB_COUNT0_DROPS : Fld := ⟨CAB_COUNT0, 16, 16, .rc, .const 0⟩
def CAB_COUNT0_PREFETCHES : Fld := ⟨CAB_COUNT0, 32, 16, .rc, .const 0⟩
def CAB_COUNT0_COPIES : Fld := ⟨CAB_COUNT0, 48, 16, .rc, .const 0⟩
def CAB_COUNT0_fields : List Fld := [CAB_COUNT0_SPILLS, CAB_COUNT0_DROPS, CAB_COUNT0_PREFETCHES, CAB_COUNT0_COPIES]

/-- CAB_COUNT1 (spec/08_kv_cache.md, Table RG-4). -/
def CAB_COUNT1 : RegDef := ⟨"CAB_COUNT1", 0x4200048, 0x0, 2, 0x100000, 2⟩
def CAB_COUNT1_EXHAUSTED : Fld := ⟨CAB_COUNT1, 0, 16, .rc, .const 0⟩
def CAB_COUNT1_ERROR_DROPS : Fld := ⟨CAB_COUNT1, 16, 16, .rc, .const 0⟩
def CAB_COUNT1_HINT_STOPPED : Fld := ⟨CAB_COUNT1, 32, 8, .rc, .const 0⟩
def CAB_COUNT1_DUPLICATES : Fld := ⟨CAB_COUNT1, 40, 8, .rc, .const 0⟩
def CAB_COUNT1_NONFINITE : Fld := ⟨CAB_COUNT1, 48, 16, .rc, .const 0⟩
def CAB_COUNT1_fields : List Fld := [CAB_COUNT1_EXHAUSTED, CAB_COUNT1_ERROR_DROPS, CAB_COUNT1_HINT_STOPPED, CAB_COUNT1_DUPLICATES, CAB_COUNT1_NONFINITE]

/-- CDIE_PART_CFG (spec/09_cache_die.md, Table RG-4). -/
def CDIE_PART_CFG : RegDef := ⟨"CDIE_PART_CFG", 0x4000000, 0x0, 2, 0x100000, 2⟩
def CDIE_PART_CFG_CACHE : Fld := ⟨CDIE_PART_CFG, 0, 4, .rw, .const 2⟩
def CDIE_PART_CFG_fields : List Fld := [CDIE_PART_CFG_CACHE]

/-- CDIE_PART_STATUS (spec/09_cache_die.md, Table RG-4). -/
def CDIE_PART_STATUS : RegDef := ⟨"CDIE_PART_STATUS", 0x4000008, 0x0, 2, 0x100000, 2⟩
def CDIE_PART_STATUS_CACHE_NOW : Fld := ⟨CDIE_PART_STATUS, 0, 4, .ro, .const 2⟩
def CDIE_PART_STATUS_BUSY : Fld := ⟨CDIE_PART_STATUS, 4, 1, .ro, .const 0⟩
def CDIE_PART_STATUS_REFUSED : Fld := ⟨CDIE_PART_STATUS, 5, 1, .w1c, .const 0⟩
def CDIE_PART_STATUS_CACHE_BAYS : Fld := ⟨CDIE_PART_STATUS, 8, 8, .ro, .const 52⟩
def CDIE_PART_STATUS_FIRST_CACHE_BAY : Fld := ⟨CDIE_PART_STATUS, 16, 10, .ro, .cacheBay⟩
def CDIE_PART_STATUS_PINNED_LINES : Fld := ⟨CDIE_PART_STATUS, 32, 21, .ro, .const 0⟩
def CDIE_PART_STATUS_fields : List Fld := [CDIE_PART_STATUS_CACHE_NOW, CDIE_PART_STATUS_BUSY, CDIE_PART_STATUS_REFUSED, CDIE_PART_STATUS_CACHE_BAYS, CDIE_PART_STATUS_FIRST_CACHE_BAY, CDIE_PART_STATUS_PINNED_LINES]

/-- CDIE_THRASH_CFG (spec/09_cache_die.md, Table RG-4). -/
def CDIE_THRASH_CFG : RegDef := ⟨"CDIE_THRASH_CFG", 0x4000010, 0x0, 2, 0x100000, 2⟩
def CDIE_THRASH_CFG_THRESHOLD : Fld := ⟨CDIE_THRASH_CFG, 0, 8, .rw, .const 64⟩
def CDIE_THRASH_CFG_RUN_LEN : Fld := ⟨CDIE_THRASH_CFG, 8, 4, .rw, .const 8⟩
def CDIE_THRASH_CFG_MIN_LOOKUPS : Fld := ⟨CDIE_THRASH_CFG, 16, 16, .rw, .const 4096⟩
def CDIE_THRASH_CFG_fields : List Fld := [CDIE_THRASH_CFG_THRESHOLD, CDIE_THRASH_CFG_RUN_LEN, CDIE_THRASH_CFG_MIN_LOOKUPS]

/-- CDIE_THRASH_STATUS (spec/09_cache_die.md, Table RG-4). -/
def CDIE_THRASH_STATUS : RegDef := ⟨"CDIE_THRASH_STATUS", 0x4000018, 0x0, 2, 0x100000, 2⟩
def CDIE_THRASH_STATUS_THRASH : Fld := ⟨CDIE_THRASH_STATUS, 0, 1, .w1c, .const 0⟩
def CDIE_THRASH_STATUS_RUN : Fld := ⟨CDIE_THRASH_STATUS, 4, 4, .ro, .const 0⟩
def CDIE_THRASH_STATUS_LAST_RATIO : Fld := ⟨CDIE_THRASH_STATUS, 8, 8, .ro, .const 0⟩
def CDIE_THRASH_STATUS_EVENTS : Fld := ⟨CDIE_THRASH_STATUS, 16, 16, .rc, .const 0⟩
def CDIE_THRASH_STATUS_fields : List Fld := [CDIE_THRASH_STATUS_THRASH, CDIE_THRASH_STATUS_RUN, CDIE_THRASH_STATUS_LAST_RATIO, CDIE_THRASH_STATUS_EVENTS]

/-- CDIE_LOOKUPS (spec/09_cache_die.md, Table RG-4). -/
def CDIE_LOOKUPS : RegDef := ⟨"CDIE_LOOKUPS", 0x4000020, 0x0, 2, 0x100000, 2⟩
def CDIE_LOOKUPS_LOOKUPS : Fld := ⟨CDIE_LOOKUPS, 0, 48, .ro, .const 0⟩
def CDIE_LOOKUPS_OVF : Fld := ⟨CDIE_LOOKUPS, 48, 1, .w1c, .const 0⟩
def CDIE_LOOKUPS_fields : List Fld := [CDIE_LOOKUPS_LOOKUPS, CDIE_LOOKUPS_OVF]

/-- CDIE_HITS (spec/09_cache_die.md, Table RG-4). -/
def CDIE_HITS : RegDef := ⟨"CDIE_HITS", 0x4000028, 0x0, 2, 0x100000, 2⟩
def CDIE_HITS_HITS : Fld := ⟨CDIE_HITS, 0, 48, .ro, .const 0⟩
def CDIE_HITS_OVF : Fld := ⟨CDIE_HITS, 48, 1, .w1c, .const 0⟩
def CDIE_HITS_fields : List Fld := [CDIE_HITS_HITS, CDIE_HITS_OVF]

/-- CDIE_DEAD_STATUS (spec/09_cache_die.md, Table RG-4). -/
def CDIE_DEAD_STATUS : RegDef := ⟨"CDIE_DEAD_STATUS", 0x4000030, 0x0, 2, 0x100000, 2⟩
def CDIE_DEAD_STATUS_ENTRIES : Fld := ⟨CDIE_DEAD_STATUS, 0, 16, .ro, .const 0⟩
def CDIE_DEAD_STATUS_DEAD_READS : Fld := ⟨CDIE_DEAD_STATUS, 16, 16, .rc, .const 0⟩
def CDIE_DEAD_STATUS_DECLARED : Fld := ⟨CDIE_DEAD_STATUS, 32, 16, .rc, .const 0⟩
def CDIE_DEAD_STATUS_FULL : Fld := ⟨CDIE_DEAD_STATUS, 48, 1, .w1c, .const 0⟩
def CDIE_DEAD_STATUS_fields : List Fld := [CDIE_DEAD_STATUS_ENTRIES, CDIE_DEAD_STATUS_DEAD_READS, CDIE_DEAD_STATUS_DECLARED, CDIE_DEAD_STATUS_FULL]

/-- CDIE_ACCESS_REFUSED (spec/09_cache_die.md, Table RG-4). -/
def CDIE_ACCESS_REFUSED : RegDef := ⟨"CDIE_ACCESS_REFUSED", 0x4000038, 0x0, 2, 0x100000, 2⟩
def CDIE_ACCESS_REFUSED_REFUSED : Fld := ⟨CDIE_ACCESS_REFUSED, 0, 32, .rc, .const 0⟩
def CDIE_ACCESS_REFUSED_fields : List Fld := [CDIE_ACCESS_REFUSED_REFUSED]

/-- CDIE_SCRUB_CFG (spec/11_integrity.md, Table RG-4). -/
def CDIE_SCRUB_CFG : RegDef := ⟨"CDIE_SCRUB_CFG", 0x4000040, 0x0, 2, 0x100000, 2⟩
def CDIE_SCRUB_CFG_RATE : Fld := ⟨CDIE_SCRUB_CFG, 0, 10, .rw, .const 86⟩
def CDIE_SCRUB_CFG_ENABLE : Fld := ⟨CDIE_SCRUB_CFG, 10, 1, .rw, .const 1⟩
def CDIE_SCRUB_CFG_SPARE_ROWS : Fld := ⟨CDIE_SCRUB_CFG, 11, 1, .rw, .const 1⟩
def CDIE_SCRUB_CFG_fields : List Fld := [CDIE_SCRUB_CFG_RATE, CDIE_SCRUB_CFG_ENABLE, CDIE_SCRUB_CFG_SPARE_ROWS]

/-- CDIE_SCRUB_STATUS (spec/11_integrity.md, Table RG-4). -/
def CDIE_SCRUB_STATUS : RegDef := ⟨"CDIE_SCRUB_STATUS", 0x4000048, 0x0, 2, 0x100000, 2⟩
def CDIE_SCRUB_STATUS_RANK : Fld := ⟨CDIE_SCRUB_STATUS, 0, 9, .ro, .const 0⟩
def CDIE_SCRUB_STATUS_SLICE : Fld := ⟨CDIE_SCRUB_STATUS, 9, 4, .ro, .const 0⟩
def CDIE_SCRUB_STATUS_ROW : Fld := ⟨CDIE_SCRUB_STATUS, 13, 10, .ro, .const 0⟩
def CDIE_SCRUB_STATUS_RANGE_ACTIVE : Fld := ⟨CDIE_SCRUB_STATUS, 23, 1, .ro, .const 0⟩
def CDIE_SCRUB_STATUS_WAITING : Fld := ⟨CDIE_SCRUB_STATUS, 24, 1, .ro, .const 0⟩
def CDIE_SCRUB_STATUS_PASSES : Fld := ⟨CDIE_SCRUB_STATUS, 32, 32, .ro, .const 0⟩
def CDIE_SCRUB_STATUS_fields : List Fld := [CDIE_SCRUB_STATUS_RANK, CDIE_SCRUB_STATUS_SLICE, CDIE_SCRUB_STATUS_ROW, CDIE_SCRUB_STATUS_RANGE_ACTIVE, CDIE_SCRUB_STATUS_WAITING, CDIE_SCRUB_STATUS_PASSES]

/-- CDIE_SCRUB_COUNT (spec/11_integrity.md, Table RG-4). -/
def CDIE_SCRUB_COUNT : RegDef := ⟨"CDIE_SCRUB_COUNT", 0x4000050, 0x0, 2, 0x100000, 2⟩
def CDIE_SCRUB_COUNT_ERRORS : Fld := ⟨CDIE_SCRUB_COUNT, 0, 16, .rc, .const 0⟩
def CDIE_SCRUB_COUNT_REFETCHED : Fld := ⟨CDIE_SCRUB_COUNT, 16, 16, .rc, .const 0⟩
def CDIE_SCRUB_COUNT_POISONED : Fld := ⟨CDIE_SCRUB_COUNT, 32, 16, .rc, .const 0⟩
def CDIE_SCRUB_COUNT_SPARE_FAILED : Fld := ⟨CDIE_SCRUB_COUNT, 48, 16, .rc, .const 0⟩
def CDIE_SCRUB_COUNT_fields : List Fld := [CDIE_SCRUB_COUNT_ERRORS, CDIE_SCRUB_COUNT_REFETCHED, CDIE_SCRUB_COUNT_POISONED, CDIE_SCRUB_COUNT_SPARE_FAILED]

/-- CDIE_ROW_SPARE (spec/11_integrity.md, Table RG-4). -/
def CDIE_ROW_SPARE : RegDef := ⟨"CDIE_ROW_SPARE", 0x4000058, 0x0, 2, 0x100000, 2⟩
def CDIE_ROW_SPARE_SPARES_USED : Fld := ⟨CDIE_ROW_SPARE, 0, 16, .ro, .const 0⟩
def CDIE_ROW_SPARE_BAYS_LOW : Fld := ⟨CDIE_ROW_SPARE, 16, 9, .ro, .const 0⟩
def CDIE_ROW_SPARE_FAILED_ROWS : Fld := ⟨CDIE_ROW_SPARE, 32, 16, .ro, .const 0⟩
def CDIE_ROW_SPARE_fields : List Fld := [CDIE_ROW_SPARE_SPARES_USED, CDIE_ROW_SPARE_BAYS_LOW, CDIE_ROW_SPARE_FAILED_ROWS]

/-- LNK_CTRL (spec/12_device_links.md, Table RG-4). -/
def LNK_CTRL : RegDef := ⟨"LNK_CTRL", 0x4800000, 0x0, 24, 0x10000, 24⟩
def LNK_CTRL_ENABLE : Fld := ⟨LNK_CTRL, 0, 1, .rw, .const 1⟩
def LNK_CTRL_SPARE_EN : Fld := ⟨LNK_CTRL, 1, 1, .rw, .const 1⟩
def LNK_CTRL_TEST : Fld := ⟨LNK_CTRL, 2, 1, .rw, .const 0⟩
def LNK_CTRL_RETRAIN : Fld := ⟨LNK_CTRL, 3, 1, .wo, .const 0⟩
def LNK_CTRL_MEDIA : Fld := ⟨LNK_CTRL, 4, 1, .rw, .const 0⟩
def LNK_CTRL_TX_PRESET : Fld := ⟨LNK_CTRL, 8, 4, .rw, .const 0⟩
def LNK_CTRL_LANE_LIMIT : Fld := ⟨LNK_CTRL, 16, 16, .rw, .const 10000⟩
def LNK_CTRL_fields : List Fld := [LNK_CTRL_ENABLE, LNK_CTRL_SPARE_EN, LNK_CTRL_TEST, LNK_CTRL_RETRAIN, LNK_CTRL_MEDIA, LNK_CTRL_TX_PRESET, LNK_CTRL_LANE_LIMIT]

/-- LNK_STATUS (spec/12_device_links.md, Table RG-4). -/
def LNK_STATUS : RegDef := ⟨"LNK_STATUS", 0x4800008, 0x0, 24, 0x10000, 24⟩
def LNK_STATUS_STATE : Fld := ⟨LNK_STATUS, 0, 3, .ro, .const 0⟩
def LNK_STATUS_SPARE_FOR : Fld := ⟨LNK_STATUS, 3, 4, .ro, .const 15⟩
def LNK_STATUS_SDID_CLASH : Fld := ⟨LNK_STATUS, 7, 1, .ro, .const 0⟩
def LNK_STATUS_DOWN_EVENT : Fld := ⟨LNK_STATUS, 8, 1, .w1c, .const 0⟩
def LNK_STATUS_RETRAINS : Fld := ⟨LNK_STATUS, 16, 8, .rc, .const 0⟩
def LNK_STATUS_REPLAYS : Fld := ⟨LNK_STATUS, 32, 32, .rc, .const 0⟩
def LNK_STATUS_fields : List Fld := [LNK_STATUS_STATE, LNK_STATUS_SPARE_FOR, LNK_STATUS_SDID_CLASH, LNK_STATUS_DOWN_EVENT, LNK_STATUS_RETRAINS, LNK_STATUS_REPLAYS]

/-- LNK_PEER (spec/12_device_links.md, Table RG-4). -/
def LNK_PEER : RegDef := ⟨"LNK_PEER", 0x4800010, 0x0, 24, 0x10000, 24⟩
def LNK_PEER_SDID : Fld := ⟨LNK_PEER, 0, 16, .ro, .const 65535⟩
def LNK_PEER_STACK : Fld := ⟨LNK_PEER, 16, 2, .ro, .const 0⟩
def LNK_PEER_LINK : Fld := ⟨LNK_PEER, 18, 5, .ro, .const 31⟩
def LNK_PEER_SERIAL_LO : Fld := ⟨LNK_PEER, 24, 32, .ro, .const 0⟩
def LNK_PEER_fields : List Fld := [LNK_PEER_SDID, LNK_PEER_STACK, LNK_PEER_LINK, LNK_PEER_SERIAL_LO]

/-- LNK_FEC (spec/12_device_links.md, Table RG-4). -/
def LNK_FEC : RegDef := ⟨"LNK_FEC", 0x4800018, 0x0, 24, 0x10000, 24⟩
def LNK_FEC_CORRECTED : Fld := ⟨LNK_FEC, 0, 32, .rc, .const 0⟩
def LNK_FEC_UNCORRECTABLE : Fld := ⟨LNK_FEC, 32, 32, .rc, .const 0⟩
def LNK_FEC_fields : List Fld := [LNK_FEC_CORRECTED, LNK_FEC_UNCORRECTABLE]

/-- LNK_PAT_CFG (spec/12_device_links.md, Table RG-4). -/
def LNK_PAT_CFG : RegDef := ⟨"LNK_PAT_CFG", 0x4800020, 0x0, 24, 0x10000, 24⟩
def LNK_PAT_CFG_PATTERN : Fld := ⟨LNK_PAT_CFG, 0, 3, .rw, .const 0⟩
def LNK_PAT_CFG_LANES : Fld := ⟨LNK_PAT_CFG, 3, 9, .rw, .const 0⟩
def LNK_PAT_CFG_GEN : Fld := ⟨LNK_PAT_CFG, 12, 1, .rw, .const 0⟩
def LNK_PAT_CFG_CHECK : Fld := ⟨LNK_PAT_CFG, 13, 1, .rw, .const 0⟩
def LNK_PAT_CFG_OWNER : Fld := ⟨LNK_PAT_CFG, 16, 8, .ro, .const 0⟩
def LNK_PAT_CFG_fields : List Fld := [LNK_PAT_CFG_PATTERN, LNK_PAT_CFG_LANES, LNK_PAT_CFG_GEN, LNK_PAT_CFG_CHECK, LNK_PAT_CFG_OWNER]

/-- LNK_PAT_USER (spec/12_device_links.md, Table RG-4). -/
def LNK_PAT_USER : RegDef := ⟨"LNK_PAT_USER", 0x4800028, 0x0, 24, 0x10000, 24⟩
def LNK_PAT_USER_PATTERN : Fld := ⟨LNK_PAT_USER, 0, 64, .rw, .const 0⟩
def LNK_PAT_USER_fields : List Fld := [LNK_PAT_USER_PATTERN]

/-- LNK_MARGIN (spec/12_device_links.md, Table RG-4). -/
def LNK_MARGIN : RegDef := ⟨"LNK_MARGIN", 0x4800030, 0x0, 24, 0x10000, 24⟩
def LNK_MARGIN_LANE : Fld := ⟨LNK_MARGIN, 0, 4, .rw, .const 0⟩
def LNK_MARGIN_START : Fld := ⟨LNK_MARGIN, 4, 1, .wo, .const 0⟩
def LNK_MARGIN_DONE : Fld := ⟨LNK_MARGIN, 5, 1, .ro, .const 0⟩
def LNK_MARGIN_ABORTED : Fld := ⟨LNK_MARGIN, 6, 1, .ro, .const 0⟩
def LNK_MARGIN_LEFT : Fld := ⟨LNK_MARGIN, 16, 8, .ro, .const 0⟩
def LNK_MARGIN_RIGHT : Fld := ⟨LNK_MARGIN, 24, 8, .ro, .const 0⟩
def LNK_MARGIN_UP : Fld := ⟨LNK_MARGIN, 32, 8, .ro, .const 0⟩
def LNK_MARGIN_DOWN : Fld := ⟨LNK_MARGIN, 40, 8, .ro, .const 0⟩
def LNK_MARGIN_fields : List Fld := [LNK_MARGIN_LANE, LNK_MARGIN_START, LNK_MARGIN_DONE, LNK_MARGIN_ABORTED, LNK_MARGIN_LEFT, LNK_MARGIN_RIGHT, LNK_MARGIN_UP, LNK_MARGIN_DOWN]

/-- LNK_LANE_ERR (spec/12_device_links.md, Table RG-4). -/
def LNK_LANE_ERR : RegDef := ⟨"LNK_LANE_ERR", 0x4800100, 0x10000, 9, 0x8, 216⟩
def LNK_LANE_ERR_BIT_ERRORS : Fld := ⟨LNK_LANE_ERR, 0, 32, .rc, .const 0⟩
def LNK_LANE_ERR_FEC_SYMBOLS : Fld := ⟨LNK_LANE_ERR, 32, 32, .rc, .const 0⟩
def LNK_LANE_ERR_fields : List Fld := [LNK_LANE_ERR_BIT_ERRORS, LNK_LANE_ERR_FEC_SYMBOLS]

/-- LNK_SDID (spec/12_device_links.md, Table RG-4). -/
def LNK_SDID : RegDef := ⟨"LNK_SDID", 0x4990000, 0x0, 1, 0x0, 1⟩
def LNK_SDID_SDID : Fld := ⟨LNK_SDID, 0, 16, .rw, .const 65535⟩
def LNK_SDID_LOCKED : Fld := ⟨LNK_SDID, 16, 1, .ro, .const 0⟩
def LNK_SDID_fields : List Fld := [LNK_SDID_SDID, LNK_SDID_LOCKED]

/-- LNK_ROUTE_STATUS (spec/12_device_links.md, Table RG-4). -/
def LNK_ROUTE_STATUS : RegDef := ⟨"LNK_ROUTE_STATUS", 0x4990008, 0x0, 1, 0x0, 1⟩
def LNK_ROUTE_STATUS_ENTRIES : Fld := ⟨LNK_ROUTE_STATUS, 0, 15, .ro, .const 0⟩
def LNK_ROUTE_STATUS_LOADED : Fld := ⟨LNK_ROUTE_STATUS, 15, 1, .ro, .const 0⟩
def LNK_ROUTE_STATUS_FAILED_ROUTES : Fld := ⟨LNK_ROUTE_STATUS, 16, 16, .ro, .const 0⟩
def LNK_ROUTE_STATUS_UNROUTED : Fld := ⟨LNK_ROUTE_STATUS, 32, 32, .rc, .const 0⟩
def LNK_ROUTE_STATUS_fields : List Fld := [LNK_ROUTE_STATUS_ENTRIES, LNK_ROUTE_STATUS_LOADED, LNK_ROUTE_STATUS_FAILED_ROUTES, LNK_ROUTE_STATUS_UNROUTED]

/-- LNK_ROUTE (spec/12_device_links.md, Table RG-4). -/
def LNK_ROUTE : RegDef := ⟨"LNK_ROUTE", 0x49C0000, 0x0, 16384, 0x8, 16384⟩
def LNK_ROUTE_HOP : Fld := ⟨LNK_ROUTE, 0, 5, .ro, .const 0⟩
def LNK_ROUTE_ALT : Fld := ⟨LNK_ROUTE, 5, 5, .ro, .const 0⟩
def LNK_ROUTE_LABEL : Fld := ⟨LNK_ROUTE, 16, 14, .ro, .const 0⟩
def LNK_ROUTE_DST_SDID : Fld := ⟨LNK_ROUTE, 32, 16, .ro, .const 0⟩
def LNK_ROUTE_CONVERT : Fld := ⟨LNK_ROUTE, 48, 4, .ro, .const 0⟩
def LNK_ROUTE_VALID : Fld := ⟨LNK_ROUTE, 63, 1, .ro, .const 0⟩
def LNK_ROUTE_fields : List Fld := [LNK_ROUTE_HOP, LNK_ROUTE_ALT, LNK_ROUTE_LABEL, LNK_ROUTE_DST_SDID, LNK_ROUTE_CONVERT, LNK_ROUTE_VALID]

/-- LNK_TWIN_CFG (spec/12_device_links.md, Table RG-4). -/
def LNK_TWIN_CFG : RegDef := ⟨"LNK_TWIN_CFG", 0x4990100, 0x0, 1, 0x0, 1⟩
def LNK_TWIN_CFG_TWIN_SDID : Fld := ⟨LNK_TWIN_CFG, 0, 16, .ro, .const 65535⟩
def LNK_TWIN_CFG_LINK_A : Fld := ⟨LNK_TWIN_CFG, 16, 5, .ro, .const 22⟩
def LNK_TWIN_CFG_LINK_B : Fld := ⟨LNK_TWIN_CFG, 21, 5, .ro, .const 23⟩
def LNK_TWIN_CFG_AUTO_TAKEOVER : Fld := ⟨LNK_TWIN_CFG, 26, 1, .rw, .const 0⟩
def LNK_TWIN_CFG_LOWER : Fld := ⟨LNK_TWIN_CFG, 27, 1, .ro, .const 0⟩
def LNK_TWIN_CFG_fields : List Fld := [LNK_TWIN_CFG_TWIN_SDID, LNK_TWIN_CFG_LINK_A, LNK_TWIN_CFG_LINK_B, LNK_TWIN_CFG_AUTO_TAKEOVER, LNK_TWIN_CFG_LOWER]

/-- LNK_TWIN_STATUS (spec/12_device_links.md, Table RG-4). -/
def LNK_TWIN_STATUS : RegDef := ⟨"LNK_TWIN_STATUS", 0x4990108, 0x0, 1, 0x0, 1⟩
def LNK_TWIN_STATUS_STATE : Fld := ⟨LNK_TWIN_STATUS, 0, 3, .ro, .const 0⟩
def LNK_TWIN_STATUS_EPOCH : Fld := ⟨LNK_TWIN_STATUS, 16, 32, .ro, .const 0⟩
def LNK_TWIN_STATUS_MISSED : Fld := ⟨LNK_TWIN_STATUS, 48, 16, .rc, .const 0⟩
def LNK_TWIN_STATUS_fields : List Fld := [LNK_TWIN_STATUS_STATE, LNK_TWIN_STATUS_EPOCH, LNK_TWIN_STATUS_MISSED]

/-- LNK_BRIDGE_STATUS (spec/12_device_links.md, Table RG-4). -/
def LNK_BRIDGE_STATUS : RegDef := ⟨"LNK_BRIDGE_STATUS", 0x49A0000, 0x0, 8, 0x100, 8⟩
def LNK_BRIDGE_STATUS_STATE : Fld := ⟨LNK_BRIDGE_STATUS, 0, 3, .ro, .const 0⟩
def LNK_BRIDGE_STATUS_SPARE_FOR : Fld := ⟨LNK_BRIDGE_STATUS, 3, 5, .ro, .const 31⟩
def LNK_BRIDGE_STATUS_RETRAINS : Fld := ⟨LNK_BRIDGE_STATUS, 16, 8, .rc, .const 0⟩
def LNK_BRIDGE_STATUS_REPLAYS : Fld := ⟨LNK_BRIDGE_STATUS, 32, 32, .rc, .const 0⟩
def LNK_BRIDGE_STATUS_fields : List Fld := [LNK_BRIDGE_STATUS_STATE, LNK_BRIDGE_STATUS_SPARE_FOR, LNK_BRIDGE_STATUS_RETRAINS, LNK_BRIDGE_STATUS_REPLAYS]

def index2_0 : List (RegDef × List Fld) :=
  [(SYNC_COUNT, SYNC_COUNT_fields),
   (SYNC_SIGNAL, SYNC_SIGNAL_fields),
   (SYNC_STATUS, SYNC_STATUS_fields),
   (SYNC_FWD_STRIDE, SYNC_FWD_STRIDE_fields),
   (SYNC_FWD_TARGET, SYNC_FWD_TARGET_fields),
   (SYNC_FWD_N, SYNC_FWD_N_fields),
   (SYNC_DROPPED, SYNC_DROPPED_fields),
   (CAB_POOL_CFG, CAB_POOL_CFG_fields),
   (CAB_POOL_BASE, CAB_POOL_BASE_fields),
   (CAB_LP_CFG, CAB_LP_CFG_fields),
   (CAB_LP_BASE, CAB_LP_BASE_fields),
   (CAB_CLASS_CFG, CAB_CLASS_CFG_fields),
   (CAB_STATUS, CAB_STATUS_fields),
   (CAB_ORDER, CAB_ORDER_fields),
   (CAB_STAMP, CAB_STAMP_fields),
   (CAB_COUNT0, CAB_COUNT0_fields)]

def index2_1 : List (RegDef × List Fld) :=
  [(CAB_COUNT1, CAB_COUNT1_fields),
   (CDIE_PART_CFG, CDIE_PART_CFG_fields),
   (CDIE_PART_STATUS, CDIE_PART_STATUS_fields),
   (CDIE_THRASH_CFG, CDIE_THRASH_CFG_fields),
   (CDIE_THRASH_STATUS, CDIE_THRASH_STATUS_fields),
   (CDIE_LOOKUPS, CDIE_LOOKUPS_fields),
   (CDIE_HITS, CDIE_HITS_fields),
   (CDIE_DEAD_STATUS, CDIE_DEAD_STATUS_fields),
   (CDIE_ACCESS_REFUSED, CDIE_ACCESS_REFUSED_fields),
   (CDIE_SCRUB_CFG, CDIE_SCRUB_CFG_fields),
   (CDIE_SCRUB_STATUS, CDIE_SCRUB_STATUS_fields),
   (CDIE_SCRUB_COUNT, CDIE_SCRUB_COUNT_fields),
   (CDIE_ROW_SPARE, CDIE_ROW_SPARE_fields),
   (LNK_CTRL, LNK_CTRL_fields),
   (LNK_STATUS, LNK_STATUS_fields),
   (LNK_PEER, LNK_PEER_fields)]

def index2_2 : List (RegDef × List Fld) :=
  [(LNK_FEC, LNK_FEC_fields),
   (LNK_PAT_CFG, LNK_PAT_CFG_fields),
   (LNK_PAT_USER, LNK_PAT_USER_fields),
   (LNK_MARGIN, LNK_MARGIN_fields),
   (LNK_LANE_ERR, LNK_LANE_ERR_fields),
   (LNK_SDID, LNK_SDID_fields),
   (LNK_ROUTE_STATUS, LNK_ROUTE_STATUS_fields),
   (LNK_ROUTE, LNK_ROUTE_fields),
   (LNK_TWIN_CFG, LNK_TWIN_CFG_fields),
   (LNK_TWIN_STATUS, LNK_TWIN_STATUS_fields),
   (LNK_BRIDGE_STATUS, LNK_BRIDGE_STATUS_fields)]

/-- The registers of this file with their fields. -/
def index2 : List (RegDef × List Fld) := index2_0 ++ index2_1 ++ index2_2

end Sys2Proof.Machine.Reg
end

