-- ==== Sys2Proof/Machine/RegsC.lean ====
section
/-! DEFINITION. The register index, part 3: the other registers. Written from the field tables of the chapters and from Table RG-4
(spec/20_register_reference.md, R521, R522): one `RegDef` per register, one `Fld` per field, one list per register. -/

namespace Sys2Proof.Machine.Reg

/-- BUR_CORE_SUMMARY (spec/01_architecture.md, Table RG-4). -/
def BUR_CORE_SUMMARY : RegDef := ⟨"BUR_CORE_SUMMARY", 0x5200100, 0x0, 1, 0x0, 1⟩
def BUR_CORE_SUMMARY_LOGICAL_COUNT : Fld := ⟨BUR_CORE_SUMMARY, 0, 10, .ro, .const 0⟩
def BUR_CORE_SUMMARY_CHRYS_FREE_W : Fld := ⟨BUR_CORE_SUMMARY, 16, 5, .ro, .const 0⟩
def BUR_CORE_SUMMARY_CHRYS_FREE_E : Fld := ⟨BUR_CORE_SUMMARY, 24, 5, .ro, .const 0⟩
def BUR_CORE_SUMMARY_DEGRADED : Fld := ⟨BUR_CORE_SUMMARY, 32, 1, .ro, .const 0⟩
def BUR_CORE_SUMMARY_MAP_VALID : Fld := ⟨BUR_CORE_SUMMARY, 33, 1, .ro, .const 0⟩
def BUR_CORE_SUMMARY_RELOCATING : Fld := ⟨BUR_CORE_SUMMARY, 34, 1, .ro, .const 0⟩
def BUR_CORE_SUMMARY_fields : List Fld := [BUR_CORE_SUMMARY_LOGICAL_COUNT, BUR_CORE_SUMMARY_CHRYS_FREE_W, BUR_CORE_SUMMARY_CHRYS_FREE_E, BUR_CORE_SUMMARY_DEGRADED, BUR_CORE_SUMMARY_MAP_VALID, BUR_CORE_SUMMARY_RELOCATING]

/-- BUR_LOGICAL_MAP (spec/01_architecture.md, Table RG-4). -/
def BUR_LOGICAL_MAP : RegDef := ⟨"BUR_LOGICAL_MAP", 0x5201000, 0x0, 832, 0x8, 832⟩
def BUR_LOGICAL_MAP_HOME : Fld := ⟨BUR_LOGICAL_MAP, 0, 10, .ro, .const 1023⟩
def BUR_LOGICAL_MAP_EXEC : Fld := ⟨BUR_LOGICAL_MAP, 16, 10, .ro, .const 1023⟩
def BUR_LOGICAL_MAP_SPARED : Fld := ⟨BUR_LOGICAL_MAP, 31, 1, .ro, .const 0⟩
def BUR_LOGICAL_MAP_fields : List Fld := [BUR_LOGICAL_MAP_HOME, BUR_LOGICAL_MAP_EXEC, BUR_LOGICAL_MAP_SPARED]

/-- BUR_PLAN_STATE (spec/02_execution_model.md, Table RG-4). -/
def BUR_PLAN_STATE : RegDef := ⟨"BUR_PLAN_STATE", 0x5200200, 0x0, 1, 0x0, 1⟩
def BUR_PLAN_STATE_STATE : Fld := ⟨BUR_PLAN_STATE, 0, 3, .ro, .const 0⟩
def BUR_PLAN_STATE_OUTSIDE_GUARANTEE : Fld := ⟨BUR_PLAN_STATE, 3, 1, .ro, .const 0⟩
def BUR_PLAN_STATE_PHASE : Fld := ⟨BUR_PLAN_STATE, 4, 4, .ro, .const 0⟩
def BUR_PLAN_STATE_PLAN_ID_LO : Fld := ⟨BUR_PLAN_STATE, 32, 32, .ro, .const 0⟩
def BUR_PLAN_STATE_fields : List Fld := [BUR_PLAN_STATE_STATE, BUR_PLAN_STATE_OUTSIDE_GUARANTEE, BUR_PLAN_STATE_PHASE, BUR_PLAN_STATE_PLAN_ID_LO]

/-- BUR_PLAN_ID (spec/02_execution_model.md, Table RG-4). -/
def BUR_PLAN_ID : RegDef := ⟨"BUR_PLAN_ID", 0x5200208, 0x0, 1, 0x0, 1⟩
def BUR_PLAN_ID_PLAN_ID : Fld := ⟨BUR_PLAN_ID, 0, 64, .ro, .const 0⟩
def BUR_PLAN_ID_fields : List Fld := [BUR_PLAN_ID_PLAN_ID]

/-- VCP_CTRL (spec/10_vertical_coupling.md, Table RG-4). -/
def VCP_CTRL : RegDef := ⟨"VCP_CTRL", 0x5300000, 0x0, 1, 0x0, 1⟩
def VCP_CTRL_TIMEOUT : Fld := ⟨VCP_CTRL, 0, 8, .rw, .const 100⟩
def VCP_CTRL_HOLD_PW : Fld := ⟨VCP_CTRL, 8, 1, .rw, .const 0⟩
def VCP_CTRL_PW_NOW : Fld := ⟨VCP_CTRL, 9, 3, .ro, .const 1⟩
def VCP_CTRL_fields : List Fld := [VCP_CTRL_TIMEOUT, VCP_CTRL_HOLD_PW, VCP_CTRL_PW_NOW]

/-- VCP_SUMMARY (spec/10_vertical_coupling.md, Table RG-4). -/
def VCP_SUMMARY : RegDef := ⟨"VCP_SUMMARY", 0x5300008, 0x0, 1, 0x0, 1⟩
def VCP_SUMMARY_SPARES_USED : Fld := ⟨VCP_SUMMARY, 0, 17, .ro, .const 0⟩
def VCP_SUMMARY_GROUPS_RETIRED : Fld := ⟨VCP_SUMMARY, 17, 13, .ro, .const 0⟩
def VCP_SUMMARY_PORTS_RETIRED : Fld := ⟨VCP_SUMMARY, 32, 10, .ro, .const 0⟩
def VCP_SUMMARY_TRAINED : Fld := ⟨VCP_SUMMARY, 48, 1, .ro, .const 0⟩
def VCP_SUMMARY_fields : List Fld := [VCP_SUMMARY_SPARES_USED, VCP_SUMMARY_GROUPS_RETIRED, VCP_SUMMARY_PORTS_RETIRED, VCP_SUMMARY_TRAINED]

/-- VCP_RESET_STATUS (spec/10_vertical_coupling.md, Table RG-4). -/
def VCP_RESET_STATUS : RegDef := ⟨"VCP_RESET_STATUS", 0x5300010, 0x0, 1, 0x0, 1⟩
def VCP_RESET_STATUS_RESETS : Fld := ⟨VCP_RESET_STATUS, 0, 16, .rc, .const 0⟩
def VCP_RESET_STATUS_WRITES_LOST : Fld := ⟨VCP_RESET_STATUS, 16, 16, .rc, .const 0⟩
def VCP_RESET_STATUS_LAST_US : Fld := ⟨VCP_RESET_STATUS, 32, 16, .ro, .const 0⟩
def VCP_RESET_STATUS_IN_RESET : Fld := ⟨VCP_RESET_STATUS, 48, 1, .ro, .const 0⟩
def VCP_RESET_STATUS_fields : List Fld := [VCP_RESET_STATUS_RESETS, VCP_RESET_STATUS_WRITES_LOST, VCP_RESET_STATUS_LAST_US, VCP_RESET_STATUS_IN_RESET]

/-- VCP_LAST_EVENT (spec/10_vertical_coupling.md, Table RG-4). -/
def VCP_LAST_EVENT : RegDef := ⟨"VCP_LAST_EVENT", 0x5300018, 0x0, 1, 0x0, 1⟩
def VCP_LAST_EVENT_POSITION : Fld := ⟨VCP_LAST_EVENT, 0, 10, .ro, .const 0⟩
def VCP_LAST_EVENT_GROUP : Fld := ⟨VCP_LAST_EVENT, 10, 5, .ro, .const 0⟩
def VCP_LAST_EVENT_COUPLER : Fld := ⟨VCP_LAST_EVENT, 15, 7, .ro, .const 127⟩
def VCP_LAST_EVENT_KIND : Fld := ⟨VCP_LAST_EVENT, 22, 4, .ro, .const 0⟩
def VCP_LAST_EVENT_VALID : Fld := ⟨VCP_LAST_EVENT, 26, 1, .w1c, .const 0⟩
def VCP_LAST_EVENT_EVENTS : Fld := ⟨VCP_LAST_EVENT, 32, 32, .rc, .const 0⟩
def VCP_LAST_EVENT_fields : List Fld := [VCP_LAST_EVENT_POSITION, VCP_LAST_EVENT_GROUP, VCP_LAST_EVENT_COUPLER, VCP_LAST_EVENT_KIND, VCP_LAST_EVENT_VALID, VCP_LAST_EVENT_EVENTS]

/-- VCP_PORT (spec/10_vertical_coupling.md, Table RG-4). -/
def VCP_PORT : RegDef := ⟨"VCP_PORT", 0x5310000, 0x0, 864, 0x200, 864⟩
def VCP_PORT_READ_ACTIVE : Fld := ⟨VCP_PORT, 0, 16, .ro, .const 0⟩
def VCP_PORT_WRITE_ACTIVE : Fld := ⟨VCP_PORT, 16, 16, .ro, .const 0⟩
def VCP_PORT_TRAINED : Fld := ⟨VCP_PORT, 32, 1, .ro, .const 0⟩
def VCP_PORT_RETIRED : Fld := ⟨VCP_PORT, 33, 1, .ro, .const 0⟩
def VCP_PORT_TESTING : Fld := ⟨VCP_PORT, 34, 1, .ro, .const 0⟩
def VCP_PORT_fields : List Fld := [VCP_PORT_READ_ACTIVE, VCP_PORT_WRITE_ACTIVE, VCP_PORT_TRAINED, VCP_PORT_RETIRED, VCP_PORT_TESTING]

/-- VCP_GROUP (spec/10_vertical_coupling.md, Table RG-4). -/
def VCP_GROUP : RegDef := ⟨"VCP_GROUP", 0x5310100, 0x200, 32, 0x8, 27648⟩
def VCP_GROUP_SPARES_USED : Fld := ⟨VCP_GROUP, 0, 3, .ro, .const 0⟩
def VCP_GROUP_RETIRED : Fld := ⟨VCP_GROUP, 3, 1, .ro, .const 0⟩
def VCP_GROUP_TESTING : Fld := ⟨VCP_GROUP, 4, 1, .ro, .const 0⟩
def VCP_GROUP_SPARE0 : Fld := ⟨VCP_GROUP, 8, 7, .ro, .const 127⟩
def VCP_GROUP_SPARE1 : Fld := ⟨VCP_GROUP, 15, 7, .ro, .const 127⟩
def VCP_GROUP_SPARE2 : Fld := ⟨VCP_GROUP, 22, 7, .ro, .const 127⟩
def VCP_GROUP_SPARE3 : Fld := ⟨VCP_GROUP, 29, 7, .ro, .const 127⟩
def VCP_GROUP_FUSED : Fld := ⟨VCP_GROUP, 36, 3, .ro, .const 0⟩
def VCP_GROUP_ERRORS : Fld := ⟨VCP_GROUP, 48, 16, .rc, .const 0⟩
def VCP_GROUP_fields : List Fld := [VCP_GROUP_SPARES_USED, VCP_GROUP_RETIRED, VCP_GROUP_TESTING, VCP_GROUP_SPARE0, VCP_GROUP_SPARE1, VCP_GROUP_SPARE2, VCP_GROUP_SPARE3, VCP_GROUP_FUSED, VCP_GROUP_ERRORS]

/-- BUR_SKIPPER_STATUS (spec/11_integrity.md, Table RG-4). -/
def BUR_SKIPPER_STATUS : RegDef := ⟨"BUR_SKIPPER_STATUS", 0x5200300, 0x0, 1, 0x0, 1⟩
def BUR_SKIPPER_STATUS_ACTIVE : Fld := ⟨BUR_SKIPPER_STATUS, 0, 5, .ro, .const 0⟩
def BUR_SKIPPER_STATUS_QUEUED : Fld := ⟨BUR_SKIPPER_STATUS, 5, 11, .ro, .const 0⟩
def BUR_SKIPPER_STATUS_DROPPED : Fld := ⟨BUR_SKIPPER_STATUS, 16, 16, .rc, .const 0⟩
def BUR_SKIPPER_STATUS_TESTS : Fld := ⟨BUR_SKIPPER_STATUS, 32, 32, .rc, .const 0⟩
def BUR_SKIPPER_STATUS_fields : List Fld := [BUR_SKIPPER_STATUS_ACTIVE, BUR_SKIPPER_STATUS_QUEUED, BUR_SKIPPER_STATUS_DROPPED, BUR_SKIPPER_STATUS_TESTS]

/-- BUR_SKIPPER_LAST (spec/11_integrity.md, Table RG-4). -/
def BUR_SKIPPER_LAST : RegDef := ⟨"BUR_SKIPPER_LAST", 0x5200308, 0x0, 1, 0x0, 1⟩
def BUR_SKIPPER_LAST_KIND : Fld := ⟨BUR_SKIPPER_LAST, 0, 4, .ro, .const 0⟩
def BUR_SKIPPER_LAST_INDEX : Fld := ⟨BUR_SKIPPER_LAST, 4, 28, .ro, .const 0⟩
def BUR_SKIPPER_LAST_OUTCOME : Fld := ⟨BUR_SKIPPER_LAST, 32, 3, .ro, .const 0⟩
def BUR_SKIPPER_LAST_VALID : Fld := ⟨BUR_SKIPPER_LAST, 35, 1, .w1c, .const 0⟩
def BUR_SKIPPER_LAST_DURATION : Fld := ⟨BUR_SKIPPER_LAST, 48, 16, .ro, .const 0⟩
def BUR_SKIPPER_LAST_fields : List Fld := [BUR_SKIPPER_LAST_KIND, BUR_SKIPPER_LAST_INDEX, BUR_SKIPPER_LAST_OUTCOME, BUR_SKIPPER_LAST_VALID, BUR_SKIPPER_LAST_DURATION]

/-- BUR_RECOVERY_COUNT (spec/11_integrity.md, Table RG-4). -/
def BUR_RECOVERY_COUNT : RegDef := ⟨"BUR_RECOVERY_COUNT", 0x5200310, 0x0, 1, 0x0, 1⟩
def BUR_RECOVERY_COUNT_REPLAYS : Fld := ⟨BUR_RECOVERY_COUNT, 0, 16, .rc, .const 0⟩
def BUR_RECOVERY_COUNT_RESTORED : Fld := ⟨BUR_RECOVERY_COUNT, 16, 16, .rc, .const 0⟩
def BUR_RECOVERY_COUNT_LASTING : Fld := ⟨BUR_RECOVERY_COUNT, 32, 16, .rc, .const 0⟩
def BUR_RECOVERY_COUNT_DATA_LOST : Fld := ⟨BUR_RECOVERY_COUNT, 48, 8, .rc, .const 0⟩
def BUR_RECOVERY_COUNT_REPLAY_LIMIT : Fld := ⟨BUR_RECOVERY_COUNT, 56, 8, .rc, .const 0⟩
def BUR_RECOVERY_COUNT_fields : List Fld := [BUR_RECOVERY_COUNT_REPLAYS, BUR_RECOVERY_COUNT_RESTORED, BUR_RECOVERY_COUNT_LASTING, BUR_RECOVERY_COUNT_DATA_LOST, BUR_RECOVERY_COUNT_REPLAY_LIMIT]

/-- HOST_STACK_SEL (spec/13_host_and_memory.md, Table RG-4). -/
def HOST_STACK_SEL : RegDef := ⟨"HOST_STACK_SEL", 0x4C00000, 0x0, 1, 0x0, 1⟩
def HOST_STACK_SEL_STACK : Fld := ⟨HOST_STACK_SEL, 0, 2, .rw, .const 0⟩
def HOST_STACK_SEL_fields : List Fld := [HOST_STACK_SEL_STACK]

/-- HOST_BAR4_BASE (spec/13_host_and_memory.md, Table RG-4). -/
def HOST_BAR4_BASE : RegDef := ⟨"HOST_BAR4_BASE", 0x4C00008, 0x0, 1, 0x0, 1⟩
def HOST_BAR4_BASE_BASE : Fld := ⟨HOST_BAR4_BASE, 30, 22, .rw, .const 0⟩
def HOST_BAR4_BASE_fields : List Fld := [HOST_BAR4_BASE_BASE]

/-- HOST_WIN_BASE (spec/13_host_and_memory.md, Table RG-4). -/
def HOST_WIN_BASE : RegDef := ⟨"HOST_WIN_BASE", 0x4C00010, 0x0, 1, 0x0, 1⟩
def HOST_WIN_BASE_BASE : Fld := ⟨HOST_WIN_BASE, 45, 19, .rw, .const 0⟩
def HOST_WIN_BASE_fields : List Fld := [HOST_WIN_BASE_BASE]

/-- HOST_LINK_STATUS (spec/13_host_and_memory.md, Table RG-4). -/
def HOST_LINK_STATUS : RegDef := ⟨"HOST_LINK_STATUS", 0x4C00018, 0x0, 1, 0x0, 1⟩
def HOST_LINK_STATUS_RATE : Fld := ⟨HOST_LINK_STATUS, 0, 3, .ro, .const 0⟩
def HOST_LINK_STATUS_WIDTH : Fld := ⟨HOST_LINK_STATUS, 3, 5, .ro, .const 0⟩
def HOST_LINK_STATUS_FLIT : Fld := ⟨HOST_LINK_STATUS, 8, 1, .ro, .const 0⟩
def HOST_LINK_STATUS_RECOVERING : Fld := ⟨HOST_LINK_STATUS, 9, 1, .ro, .const 0⟩
def HOST_LINK_STATUS_RESETS : Fld := ⟨HOST_LINK_STATUS, 32, 16, .rc, .const 0⟩
def HOST_LINK_STATUS_fields : List Fld := [HOST_LINK_STATUS_RATE, HOST_LINK_STATUS_WIDTH, HOST_LINK_STATUS_FLIT, HOST_LINK_STATUS_RECOVERING, HOST_LINK_STATUS_RESETS]

/-- HOST_ERR_COUNT (spec/13_host_and_memory.md, Table RG-4). -/
def HOST_ERR_COUNT : RegDef := ⟨"HOST_ERR_COUNT", 0x4C00020, 0x0, 1, 0x0, 1⟩
def HOST_ERR_COUNT_POISONED_IN : Fld := ⟨HOST_ERR_COUNT, 0, 16, .rc, .const 0⟩
def HOST_ERR_COUNT_CPL_ERRORS : Fld := ⟨HOST_ERR_COUNT, 16, 16, .rc, .const 0⟩
def HOST_ERR_COUNT_REFUSED : Fld := ⟨HOST_ERR_COUNT, 32, 16, .rc, .const 0⟩
def HOST_ERR_COUNT_fields : List Fld := [HOST_ERR_COUNT_POISONED_IN, HOST_ERR_COUNT_CPL_ERRORS, HOST_ERR_COUNT_REFUSED]

/-- LPD_CFG (spec/13_host_and_memory.md, Table RG-4). -/
def LPD_CFG : RegDef := ⟨"LPD_CFG", 0x4B00000, 0x0, 1, 0x0, 1⟩
def LPD_CFG_RATE : Fld := ⟨LPD_CFG, 0, 2, .ro, .const 0⟩
def LPD_CFG_CAPACITY : Fld := ⟨LPD_CFG, 2, 2, .ro, .const 0⟩
def LPD_CFG_fields : List Fld := [LPD_CFG_RATE, LPD_CFG_CAPACITY]

/-- LPD_STATUS (spec/13_host_and_memory.md, Table RG-4). -/
def LPD_STATUS : RegDef := ⟨"LPD_STATUS", 0x4B00008, 0x0, 1, 0x0, 1⟩
def LPD_STATUS_STATE : Fld := ⟨LPD_STATUS, 0, 2, .ro, .const 0⟩
def LPD_STATUS_FAILED_CH : Fld := ⟨LPD_STATUS, 2, 5, .ro, .const 31⟩
def LPD_STATUS_REFRESH_MULT : Fld := ⟨LPD_STATUS, 8, 3, .ro, .const 1⟩
def LPD_STATUS_fields : List Fld := [LPD_STATUS_STATE, LPD_STATUS_FAILED_CH, LPD_STATUS_REFRESH_MULT]

/-- LPD_ERR (spec/13_host_and_memory.md, Table RG-4). -/
def LPD_ERR : RegDef := ⟨"LPD_ERR", 0x4B00010, 0x0, 1, 0x0, 1⟩
def LPD_ERR_LINK_CORRECTED : Fld := ⟨LPD_ERR, 0, 32, .rc, .const 0⟩
def LPD_ERR_READ_UNCORRECTABLE : Fld := ⟨LPD_ERR, 32, 16, .rc, .const 0⟩
def LPD_ERR_fields : List Fld := [LPD_ERR_LINK_CORRECTED, LPD_ERR_READ_UNCORRECTABLE]

/-- LPD_POISON_DIR (spec/13_host_and_memory.md, Table RG-4). -/
def LPD_POISON_DIR : RegDef := ⟨"LPD_POISON_DIR", 0x4B00018, 0x0, 1, 0x0, 1⟩
def LPD_POISON_DIR_ENTRIES : Fld := ⟨LPD_POISON_DIR, 0, 17, .ro, .const 0⟩
def LPD_POISON_DIR_FULL : Fld := ⟨LPD_POISON_DIR, 17, 1, .w1c, .const 0⟩
def LPD_POISON_DIR_HELD : Fld := ⟨LPD_POISON_DIR, 32, 16, .ro, .const 0⟩
def LPD_POISON_DIR_fields : List Fld := [LPD_POISON_DIR_ENTRIES, LPD_POISON_DIR_FULL, LPD_POISON_DIR_HELD]

/-- MOV_CH_HEAD (spec/13_host_and_memory.md, Table RG-4). -/
def MOV_CH_HEAD : RegDef := ⟨"MOV_CH_HEAD", 0x4A00000, 0x0, 64, 0x40, 64⟩
def MOV_CH_HEAD_HEAD : Fld := ⟨MOV_CH_HEAD, 0, 52, .rw, .const 0⟩
def MOV_CH_HEAD_fields : List Fld := [MOV_CH_HEAD_HEAD]

/-- MOV_CH_CTRL (spec/13_host_and_memory.md, Table RG-4). -/
def MOV_CH_CTRL : RegDef := ⟨"MOV_CH_CTRL", 0x4A00008, 0x0, 64, 0x40, 64⟩
def MOV_CH_CTRL_START : Fld := ⟨MOV_CH_CTRL, 0, 1, .wo, .const 0⟩
def MOV_CH_CTRL_STOP : Fld := ⟨MOV_CH_CTRL, 1, 1, .wo, .const 0⟩
def MOV_CH_CTRL_BOUND : Fld := ⟨MOV_CH_CTRL, 2, 1, .ro, .const 0⟩
def MOV_CH_CTRL_BUSY : Fld := ⟨MOV_CH_CTRL, 3, 1, .ro, .const 0⟩
def MOV_CH_CTRL_ERROR : Fld := ⟨MOV_CH_CTRL, 4, 1, .w1c, .const 0⟩
def MOV_CH_CTRL_OWNER : Fld := ⟨MOV_CH_CTRL, 8, 8, .ro, .const 0⟩
def MOV_CH_CTRL_REFUSED : Fld := ⟨MOV_CH_CTRL, 16, 16, .rc, .const 0⟩
def MOV_CH_CTRL_fields : List Fld := [MOV_CH_CTRL_START, MOV_CH_CTRL_STOP, MOV_CH_CTRL_BOUND, MOV_CH_CTRL_BUSY, MOV_CH_CTRL_ERROR, MOV_CH_CTRL_OWNER, MOV_CH_CTRL_REFUSED]

/-- MOV_CH_STATUS (spec/13_host_and_memory.md, Table RG-4). -/
def MOV_CH_STATUS : RegDef := ⟨"MOV_CH_STATUS", 0x4A00010, 0x0, 64, 0x40, 64⟩
def MOV_CH_STATUS_STATUS : Fld := ⟨MOV_CH_STATUS, 0, 4, .ro, .const 0⟩
def MOV_CH_STATUS_DONE : Fld := ⟨MOV_CH_STATUS, 16, 32, .rc, .const 0⟩
def MOV_CH_STATUS_fields : List Fld := [MOV_CH_STATUS_STATUS, MOV_CH_STATUS_DONE]

/-- BUR_STATUS (spec/14_bureau_and_shoser.md, Table RG-4). -/
def BUR_STATUS : RegDef := ⟨"BUR_STATUS", 0x5200000, 0x0, 1, 0x0, 1⟩
def BUR_STATUS_SERVICE : Fld := ⟨BUR_STATUS, 0, 3, .ro, .const 0⟩
def BUR_STATUS_PRIMARY : Fld := ⟨BUR_STATUS, 3, 1, .ro, .primary⟩
def BUR_STATUS_ROM_MODE : Fld := ⟨BUR_STATUS, 4, 1, .ro, .const 0⟩
def BUR_STATUS_FW_SLOT : Fld := ⟨BUR_STATUS, 5, 1, .ro, .const 0⟩
def BUR_STATUS_HALTED : Fld := ⟨BUR_STATUS, 6, 1, .ro, .const 0⟩
def BUR_STATUS_RESTARTS : Fld := ⟨BUR_STATUS, 8, 8, .rc, .const 0⟩
def BUR_STATUS_fields : List Fld := [BUR_STATUS_SERVICE, BUR_STATUS_PRIMARY, BUR_STATUS_ROM_MODE, BUR_STATUS_FW_SLOT, BUR_STATUS_HALTED, BUR_STATUS_RESTARTS]

/-- BUR_FW (spec/14_bureau_and_shoser.md, Table RG-4). -/
def BUR_FW : RegDef := ⟨"BUR_FW", 0x5200008, 0x0, 1, 0x0, 1⟩
def BUR_FW_VERSION : Fld := ⟨BUR_FW, 0, 32, .ro, .const 0⟩
def BUR_FW_SECVER : Fld := ⟨BUR_FW, 32, 16, .ro, .const 0⟩
def BUR_FW_fields : List Fld := [BUR_FW_VERSION, BUR_FW_SECVER]

/-- MBX_DOORBELL (spec/14_bureau_and_shoser.md, Table RG-4). -/
def MBX_DOORBELL : RegDef := ⟨"MBX_DOORBELL", 0x5210000, 0x0, 64, 0x20, 64⟩
def MBX_DOORBELL_SEQ : Fld := ⟨MBX_DOORBELL, 0, 16, .wo, .const 0⟩
def MBX_DOORBELL_fields : List Fld := [MBX_DOORBELL_SEQ]

/-- MBX_STATUS (spec/14_bureau_and_shoser.md, Table RG-4). -/
def MBX_STATUS : RegDef := ⟨"MBX_STATUS", 0x5210008, 0x0, 64, 0x20, 64⟩
def MBX_STATUS_BUSY : Fld := ⟨MBX_STATUS, 0, 1, .ro, .const 0⟩
def MBX_STATUS_DONE : Fld := ⟨MBX_STATUS, 1, 1, .w1c, .const 0⟩
def MBX_STATUS_RESP_SEQ : Fld := ⟨MBX_STATUS, 16, 16, .ro, .const 0⟩
def MBX_STATUS_REFUSED : Fld := ⟨MBX_STATUS, 32, 16, .rc, .const 0⟩
def MBX_STATUS_fields : List Fld := [MBX_STATUS_BUSY, MBX_STATUS_DONE, MBX_STATUS_RESP_SEQ, MBX_STATUS_REFUSED]

/-- MBX_EVT_HEAD (spec/14_bureau_and_shoser.md, Table RG-4). -/
def MBX_EVT_HEAD : RegDef := ⟨"MBX_EVT_HEAD", 0x5211000, 0x0, 1, 0x0, 1⟩
def MBX_EVT_HEAD_HEAD : Fld := ⟨MBX_EVT_HEAD, 0, 32, .ro, .const 0⟩
def MBX_EVT_HEAD_fields : List Fld := [MBX_EVT_HEAD_HEAD]

/-- MBX_EVT_TAIL (spec/14_bureau_and_shoser.md, Table RG-4). -/
def MBX_EVT_TAIL : RegDef := ⟨"MBX_EVT_TAIL", 0x5211008, 0x0, 1, 0x0, 1⟩
def MBX_EVT_TAIL_TAIL : Fld := ⟨MBX_EVT_TAIL, 0, 32, .rw, .const 0⟩
def MBX_EVT_TAIL_fields : List Fld := [MBX_EVT_TAIL_TAIL]

/-- MBX_EVT_STATUS (spec/14_bureau_and_shoser.md, Table RG-4). -/
def MBX_EVT_STATUS : RegDef := ⟨"MBX_EVT_STATUS", 0x5211010, 0x0, 1, 0x0, 1⟩
def MBX_EVT_STATUS_QUEUED : Fld := ⟨MBX_EVT_STATUS, 0, 11, .ro, .const 0⟩
def MBX_EVT_STATUS_OVERFLOW : Fld := ⟨MBX_EVT_STATUS, 11, 1, .w1c, .const 0⟩
def MBX_EVT_STATUS_LOST : Fld := ⟨MBX_EVT_STATUS, 16, 32, .rc, .const 0⟩
def MBX_EVT_STATUS_fields : List Fld := [MBX_EVT_STATUS_QUEUED, MBX_EVT_STATUS_OVERFLOW, MBX_EVT_STATUS_LOST]

/-- LOG_NEXT (spec/14_bureau_and_shoser.md, Table RG-4). -/
def LOG_NEXT : RegDef := ⟨"LOG_NEXT", 0x5500000, 0x0, 2, 0x10, 2⟩
def LOG_NEXT_SERIAL : Fld := ⟨LOG_NEXT, 0, 48, .ro, .const 0⟩
def LOG_NEXT_fields : List Fld := [LOG_NEXT_SERIAL]

/-- LOG_LOST (spec/14_bureau_and_shoser.md, Table RG-4). -/
def LOG_LOST : RegDef := ⟨"LOG_LOST", 0x5500008, 0x0, 2, 0x10, 2⟩
def LOG_LOST_LOST : Fld := ⟨LOG_LOST, 0, 32, .rc, .const 0⟩
def LOG_LOST_fields : List Fld := [LOG_LOST_LOST]

/-- FUSE_SERIAL_LO (spec/14_bureau_and_shoser.md, Table RG-4). -/
def FUSE_SERIAL_LO : RegDef := ⟨"FUSE_SERIAL_LO", 0x5100000, 0x0, 1, 0x0, 1⟩
def FUSE_SERIAL_LO_LO : Fld := ⟨FUSE_SERIAL_LO, 0, 64, .ro, .fused⟩
def FUSE_SERIAL_LO_fields : List Fld := [FUSE_SERIAL_LO_LO]

/-- FUSE_SERIAL_HI (spec/14_bureau_and_shoser.md, Table RG-4). -/
def FUSE_SERIAL_HI : RegDef := ⟨"FUSE_SERIAL_HI", 0x5100008, 0x0, 1, 0x0, 1⟩
def FUSE_SERIAL_HI_HI : Fld := ⟨FUSE_SERIAL_HI, 0, 64, .ro, .fused⟩
def FUSE_SERIAL_HI_fields : List Fld := [FUSE_SERIAL_HI_HI]

/-- FUSE_DIE_SERIAL (spec/14_bureau_and_shoser.md, Table RG-4). -/
def FUSE_DIE_SERIAL : RegDef := ⟨"FUSE_DIE_SERIAL", 0x5100010, 0x0, 2, 0x8, 2⟩
def FUSE_DIE_SERIAL_SERIAL : Fld := ⟨FUSE_DIE_SERIAL, 0, 64, .ro, .fused⟩
def FUSE_DIE_SERIAL_fields : List Fld := [FUSE_DIE_SERIAL_SERIAL]

/-- FUSE_FW_POLICY (spec/14_bureau_and_shoser.md, Table RG-4). -/
def FUSE_FW_POLICY : RegDef := ⟨"FUSE_FW_POLICY", 0x5100020, 0x0, 1, 0x0, 1⟩
def FUSE_FW_POLICY_MIN_SECVER : Fld := ⟨FUSE_FW_POLICY, 0, 16, .ro, .fused⟩
def FUSE_FW_POLICY_KEYS_REVOKED : Fld := ⟨FUSE_FW_POLICY, 16, 4, .ro, .fused⟩
def FUSE_FW_POLICY_fields : List Fld := [FUSE_FW_POLICY_MIN_SECVER, FUSE_FW_POLICY_KEYS_REVOKED]

/-- LIC_STATUS (spec/14_bureau_and_shoser.md, Table RG-4). -/
def LIC_STATUS : RegDef := ⟨"LIC_STATUS", 0x5101000, 0x0, 1, 0x0, 1⟩
def LIC_STATUS_FEATURES : Fld := ⟨LIC_STATUS, 0, 5, .ro, .const 0⟩
def LIC_STATUS_COUNT : Fld := ⟨LIC_STATUS, 8, 5, .ro, .const 0⟩
def LIC_STATUS_REJECTED : Fld := ⟨LIC_STATUS, 16, 16, .rc, .const 0⟩
def LIC_STATUS_fields : List Fld := [LIC_STATUS_FEATURES, LIC_STATUS_COUNT, LIC_STATUS_REJECTED]

/-- INTC_SRC_CFG (spec/15_events_and_arbitration.md, Table RG-4). -/
def INTC_SRC_CFG : RegDef := ⟨"INTC_SRC_CFG", 0x4D00000, 0x0, 1024, 0x8, 1024⟩
def INTC_SRC_CFG_TARGETS : Fld := ⟨INTC_SRC_CFG, 0, 4, .rw, .const 15⟩
def INTC_SRC_CFG_ENABLE : Fld := ⟨INTC_SRC_CFG, 4, 1, .rw, .const 0⟩
def INTC_SRC_CFG_PENDING : Fld := ⟨INTC_SRC_CFG, 5, 1, .ro, .const 0⟩
def INTC_SRC_CFG_ACTIVE : Fld := ⟨INTC_SRC_CFG, 6, 1, .ro, .const 0⟩
def INTC_SRC_CFG_CLAIMED_BY : Fld := ⟨INTC_SRC_CFG, 7, 2, .ro, .const 0⟩
def INTC_SRC_CFG_MERGES : Fld := ⟨INTC_SRC_CFG, 16, 16, .rc, .const 0⟩
def INTC_SRC_CFG_fields : List Fld := [INTC_SRC_CFG_TARGETS, INTC_SRC_CFG_ENABLE, INTC_SRC_CFG_PENDING, INTC_SRC_CFG_ACTIVE, INTC_SRC_CFG_CLAIMED_BY, INTC_SRC_CFG_MERGES]

/-- INTC_CLAIM (spec/15_events_and_arbitration.md, Table RG-4). -/
def INTC_CLAIM : RegDef := ⟨"INTC_CLAIM", 0x4D02000, 0x0, 4, 0x10, 4⟩
def INTC_CLAIM_ID : Fld := ⟨INTC_CLAIM, 0, 10, .rc, .const 1023⟩
def INTC_CLAIM_fields : List Fld := [INTC_CLAIM_ID]

/-- INTC_COMPLETE (spec/15_events_and_arbitration.md, Table RG-4). -/
def INTC_COMPLETE : RegDef := ⟨"INTC_COMPLETE", 0x4D02008, 0x0, 4, 0x10, 4⟩
def INTC_COMPLETE_ID : Fld := ⟨INTC_COMPLETE, 0, 10, .wo, .const 0⟩
def INTC_COMPLETE_fields : List Fld := [INTC_COMPLETE_ID]

/-- INTC_STATUS (spec/15_events_and_arbitration.md, Table RG-4). -/
def INTC_STATUS : RegDef := ⟨"INTC_STATUS", 0x4D02100, 0x0, 1, 0x0, 1⟩
def INTC_STATUS_INVALID_COMPLETIONS : Fld := ⟨INTC_STATUS, 0, 16, .rc, .const 0⟩
def INTC_STATUS_LAST_INVALID : Fld := ⟨INTC_STATUS, 16, 10, .ro, .const 0⟩
def INTC_STATUS_LATCH_MERGES : Fld := ⟨INTC_STATUS, 32, 16, .rc, .const 0⟩
def INTC_STATUS_fields : List Fld := [INTC_STATUS_INVALID_COMPLETIONS, INTC_STATUS_LAST_INVALID, INTC_STATUS_LATCH_MERGES]

/-- INTC_CORE_PENDING (spec/15_events_and_arbitration.md, Table RG-4). -/
def INTC_CORE_PENDING : RegDef := ⟨"INTC_CORE_PENDING", 0x4D02200, 0x0, 48, 0x8, 48⟩
def INTC_CORE_PENDING_CORES : Fld := ⟨INTC_CORE_PENDING, 0, 18, .ro, .const 0⟩
def INTC_CORE_PENDING_fields : List Fld := [INTC_CORE_PENDING_CORES]

/-- REG_CLASS_CFG (spec/15_events_and_arbitration.md, Table RG-4). -/
def REG_CLASS_CFG : RegDef := ⟨"REG_CLASS_CFG", 0x5400000, 0x0, 4, 0x10, 4⟩
def REG_CLASS_CFG_TARGET : Fld := ⟨REG_CLASS_CFG, 0, 16, .rw, .target⟩
def REG_CLASS_CFG_BASE : Fld := ⟨REG_CLASS_CFG, 16, 3, .rw, .const 4⟩
def REG_CLASS_CFG_fields : List Fld := [REG_CLASS_CFG_TARGET, REG_CLASS_CFG_BASE]

/-- REG_CLASS_STATUS (spec/15_events_and_arbitration.md, Table RG-4). -/
def REG_CLASS_STATUS : RegDef := ⟨"REG_CLASS_STATUS", 0x5400008, 0x0, 4, 0x10, 4⟩
def REG_CLASS_STATUS_MISSES : Fld := ⟨REG_CLASS_STATUS, 0, 32, .rc, .const 0⟩
def REG_CLASS_STATUS_WORST : Fld := ⟨REG_CLASS_STATUS, 32, 16, .rc, .const 0⟩
def REG_CLASS_STATUS_LEVEL : Fld := ⟨REG_CLASS_STATUS, 48, 2, .ro, .const 0⟩
def REG_CLASS_STATUS_fields : List Fld := [REG_CLASS_STATUS_MISSES, REG_CLASS_STATUS_WORST, REG_CLASS_STATUS_LEVEL]

/-- REG_ORDINARY (spec/15_events_and_arbitration.md, Table RG-4). -/
def REG_ORDINARY : RegDef := ⟨"REG_ORDINARY", 0x5400100, 0x0, 1, 0x0, 1⟩
def REG_ORDINARY_CORE_PRI : Fld := ⟨REG_ORDINARY, 0, 3, .rw, .const 3⟩
def REG_ORDINARY_MOVER_PRI : Fld := ⟨REG_ORDINARY, 3, 3, .rw, .const 2⟩
def REG_ORDINARY_BUREAU_PRI : Fld := ⟨REG_ORDINARY, 6, 3, .rw, .const 4⟩
def REG_ORDINARY_SCRUB_PRI : Fld := ⟨REG_ORDINARY, 9, 3, .ro, .const 0⟩
def REG_ORDINARY_fields : List Fld := [REG_ORDINARY_CORE_PRI, REG_ORDINARY_MOVER_PRI, REG_ORDINARY_BUREAU_PRI, REG_ORDINARY_SCRUB_PRI]

/-- REG_GPIO (spec/15_events_and_arbitration.md, Table RG-4). -/
def REG_GPIO : RegDef := ⟨"REG_GPIO", 0x5400200, 0x0, 1, 0x0, 1⟩
def REG_GPIO_OE : Fld := ⟨REG_GPIO, 0, 8, .rw, .const 0⟩
def REG_GPIO_OUT : Fld := ⟨REG_GPIO, 8, 8, .rw, .const 0⟩
def REG_GPIO_IN : Fld := ⟨REG_GPIO, 16, 8, .ro, .const 0⟩
def REG_GPIO_EDGE : Fld := ⟨REG_GPIO, 24, 8, .rw, .const 0⟩
def REG_GPIO_fields : List Fld := [REG_GPIO_OE, REG_GPIO_OUT, REG_GPIO_IN, REG_GPIO_EDGE]

/-- REG_XING_STATUS (spec/15_events_and_arbitration.md, Table RG-4). -/
def REG_XING_STATUS : RegDef := ⟨"REG_XING_STATUS", 0x5400400, 0x0, 30, 0x8, 30⟩
def REG_XING_STATUS_MERGES : Fld := ⟨REG_XING_STATUS, 0, 16, .rc, .const 0⟩
def REG_XING_STATUS_RESYNCS : Fld := ⟨REG_XING_STATUS, 16, 16, .rc, .const 0⟩
def REG_XING_STATUS_DISCARDED : Fld := ⟨REG_XING_STATUS, 32, 16, .rc, .const 0⟩
def REG_XING_STATUS_RESYNCING : Fld := ⟨REG_XING_STATUS, 48, 1, .ro, .const 0⟩
def REG_XING_STATUS_fields : List Fld := [REG_XING_STATUS_MERGES, REG_XING_STATUS_RESYNCS, REG_XING_STATUS_DISCARDED, REG_XING_STATUS_RESYNCING]

/-- REG_OWNER (spec/15_events_and_arbitration.md, Table RG-4). -/
def REG_OWNER : RegDef := ⟨"REG_OWNER", 0x5401000, 0x0, 137, 0x8, 137⟩
def REG_OWNER_OWNER : Fld := ⟨REG_OWNER, 0, 8, .ro, .const 0⟩
def REG_OWNER_CLASS : Fld := ⟨REG_OWNER, 8, 2, .ro, .const 0⟩
def REG_OWNER_REFUSED : Fld := ⟨REG_OWNER, 16, 16, .rc, .const 0⟩
def REG_OWNER_PREEMPTED : Fld := ⟨REG_OWNER, 32, 16, .rc, .const 0⟩
def REG_OWNER_fields : List Fld := [REG_OWNER_OWNER, REG_OWNER_CLASS, REG_OWNER_REFUSED, REG_OWNER_PREEMPTED]

/-- BUR_BOOT_STATUS (spec/16_bring_up.md, Table RG-4). -/
def BUR_BOOT_STATUS : RegDef := ⟨"BUR_BOOT_STATUS", 0x5200400, 0x0, 1, 0x0, 1⟩
def BUR_BOOT_STATUS_STAGE : Fld := ⟨BUR_BOOT_STATUS, 0, 3, .ro, .const 0⟩
def BUR_BOOT_STATUS_WARM : Fld := ⟨BUR_BOOT_STATUS, 3, 1, .ro, .const 0⟩
def BUR_BOOT_STATUS_FELL_BACK : Fld := ⟨BUR_BOOT_STATUS, 4, 1, .ro, .const 0⟩
def BUR_BOOT_STATUS_SAMPLE : Fld := ⟨BUR_BOOT_STATUS, 6, 6, .ro, .const 0⟩
def BUR_BOOT_STATUS_LATE : Fld := ⟨BUR_BOOT_STATUS, 16, 6, .ro, .const 0⟩
def BUR_BOOT_STATUS_TOTAL_MS : Fld := ⟨BUR_BOOT_STATUS, 32, 32, .ro, .const 0⟩
def BUR_BOOT_STATUS_fields : List Fld := [BUR_BOOT_STATUS_STAGE, BUR_BOOT_STATUS_WARM, BUR_BOOT_STATUS_FELL_BACK, BUR_BOOT_STATUS_SAMPLE, BUR_BOOT_STATUS_LATE, BUR_BOOT_STATUS_TOTAL_MS]

/-- BUR_BOOT_TIME (spec/16_bring_up.md, Table RG-4). -/
def BUR_BOOT_TIME : RegDef := ⟨"BUR_BOOT_TIME", 0x5200410, 0x0, 6, 0x8, 6⟩
def BUR_BOOT_TIME_DURATION_US : Fld := ⟨BUR_BOOT_TIME, 0, 32, .ro, .const 0⟩
def BUR_BOOT_TIME_START_US : Fld := ⟨BUR_BOOT_TIME, 32, 32, .ro, .const 0⟩
def BUR_BOOT_TIME_fields : List Fld := [BUR_BOOT_TIME_DURATION_US, BUR_BOOT_TIME_START_US]

/-- PWR_STATUS (spec/17_power.md, Table RG-4). -/
def PWR_STATUS : RegDef := ⟨"PWR_STATUS", 0x4E00000, 0x0, 1, 0x0, 1⟩
def PWR_STATUS_CORES_RUN : Fld := ⟨PWR_STATUS, 0, 10, .ro, .const 0⟩
def PWR_STATUS_CORES_STOP : Fld := ⟨PWR_STATUS, 10, 10, .ro, .const 0⟩
def PWR_STATUS_RAIL_ON : Fld := ⟨PWR_STATUS, 32, 10, .ro, .const 0⟩
def PWR_STATUS_FAULT : Fld := ⟨PWR_STATUS, 42, 1, .w1c, .const 0⟩
def PWR_STATUS_FAULT_RAIL : Fld := ⟨PWR_STATUS, 48, 4, .ro, .const 15⟩
def PWR_STATUS_fields : List Fld := [PWR_STATUS_CORES_RUN, PWR_STATUS_CORES_STOP, PWR_STATUS_RAIL_ON, PWR_STATUS_FAULT, PWR_STATUS_FAULT_RAIL]

/-- PWR_REGION_CFG (spec/17_power.md, Table RG-4). -/
def PWR_REGION_CFG : RegDef := ⟨"PWR_REGION_CFG", 0x4E00008, 0x0, 1, 0x0, 1⟩
def PWR_REGION_CFG_LIMIT : Fld := ⟨PWR_REGION_CFG, 0, 10, .rw, .const 188⟩
def PWR_REGION_CFG_THRESHOLD : Fld := ⟨PWR_REGION_CFG, 10, 7, .rw, .const 85⟩
def PWR_REGION_CFG_MAX_WAIT_US : Fld := ⟨PWR_REGION_CFG, 24, 8, .ro, .const 200⟩
def PWR_REGION_CFG_fields : List Fld := [PWR_REGION_CFG_LIMIT, PWR_REGION_CFG_THRESHOLD, PWR_REGION_CFG_MAX_WAIT_US]

/-- PWR_REGION_STATUS (spec/17_power.md, Table RG-4). -/
def PWR_REGION_STATUS : RegDef := ⟨"PWR_REGION_STATUS", 0x4E00100, 0x0, 16, 0x8, 16⟩
def PWR_REGION_STATUS_DRAW : Fld := ⟨PWR_REGION_STATUS, 0, 10, .ro, .const 0⟩
def PWR_REGION_STATUS_PEAK10 : Fld := ⟨PWR_REGION_STATUS, 10, 10, .ro, .const 0⟩
def PWR_REGION_STATUS_HOT : Fld := ⟨PWR_REGION_STATUS, 20, 1, .ro, .const 0⟩
def PWR_REGION_STATUS_SLOW_WAKES : Fld := ⟨PWR_REGION_STATUS, 32, 16, .rc, .const 0⟩
def PWR_REGION_STATUS_EXPIRED : Fld := ⟨PWR_REGION_STATUS, 48, 16, .rc, .const 0⟩
def PWR_REGION_STATUS_fields : List Fld := [PWR_REGION_STATUS_DRAW, PWR_REGION_STATUS_PEAK10, PWR_REGION_STATUS_HOT, PWR_REGION_STATUS_SLOW_WAKES, PWR_REGION_STATUS_EXPIRED]

/-- PWR_RAIL (spec/17_power.md, Table RG-4). -/
def PWR_RAIL : RegDef := ⟨"PWR_RAIL", 0x4E00200, 0x0, 10, 0x8, 10⟩
def PWR_RAIL_VOUT : Fld := ⟨PWR_RAIL, 0, 16, .ro, .const 0⟩
def PWR_RAIL_IOUT : Fld := ⟨PWR_RAIL, 16, 16, .ro, .const 0⟩
def PWR_RAIL_ENABLED : Fld := ⟨PWR_RAIL, 32, 1, .ro, .const 0⟩
def PWR_RAIL_FAULT : Fld := ⟨PWR_RAIL, 33, 1, .w1c, .const 0⟩
def PWR_RAIL_STATUS_WORD : Fld := ⟨PWR_RAIL, 48, 16, .ro, .const 0⟩
def PWR_RAIL_fields : List Fld := [PWR_RAIL_VOUT, PWR_RAIL_IOUT, PWR_RAIL_ENABLED, PWR_RAIL_FAULT, PWR_RAIL_STATUS_WORD]

/-- PWR_AVS (spec/17_power.md, Table RG-4). -/
def PWR_AVS : RegDef := ⟨"PWR_AVS", 0x4E00300, 0x0, 1, 0x0, 1⟩
def PWR_AVS_TARGET : Fld := ⟨PWR_AVS, 0, 5, .ro, .const 10⟩
def PWR_AVS_SETTLED : Fld := ⟨PWR_AVS, 5, 1, .ro, .const 0⟩
def PWR_AVS_ERRORS : Fld := ⟨PWR_AVS, 16, 16, .rc, .const 0⟩
def PWR_AVS_fields : List Fld := [PWR_AVS_TARGET, PWR_AVS_SETTLED, PWR_AVS_ERRORS]

/-- AON_WAKE_CFG (spec/17_power.md, Table RG-4). -/
def AON_WAKE_CFG : RegDef := ⟨"AON_WAKE_CFG", 0x5001000, 0x0, 1, 0x0, 1⟩
def AON_WAKE_CFG_RTC_EN : Fld := ⟨AON_WAKE_CFG, 0, 1, .rw, .const 1⟩
def AON_WAKE_CFG_PIN_EN : Fld := ⟨AON_WAKE_CFG, 1, 1, .rw, .const 1⟩
def AON_WAKE_CFG_PCIE_EN : Fld := ⟨AON_WAKE_CFG, 2, 1, .rw, .const 1⟩
def AON_WAKE_CFG_DELAY_MS : Fld := ⟨AON_WAKE_CFG, 16, 10, .rw, .const 0⟩
def AON_WAKE_CFG_fields : List Fld := [AON_WAKE_CFG_RTC_EN, AON_WAKE_CFG_PIN_EN, AON_WAKE_CFG_PCIE_EN, AON_WAKE_CFG_DELAY_MS]

/-- AON_WAKE_STATUS (spec/17_power.md, Table RG-4). -/
def AON_WAKE_STATUS : RegDef := ⟨"AON_WAKE_STATUS", 0x5001008, 0x0, 1, 0x0, 1⟩
def AON_WAKE_STATUS_STATE : Fld := ⟨AON_WAKE_STATUS, 0, 2, .ro, .const 0⟩
def AON_WAKE_STATUS_LAST_SOURCE : Fld := ⟨AON_WAKE_STATUS, 2, 3, .ro, .const 0⟩
def AON_WAKE_STATUS_EDGE_AT_ENTRY : Fld := ⟨AON_WAKE_STATUS, 5, 1, .ro, .const 0⟩
def AON_WAKE_STATUS_SAVE_FAILED : Fld := ⟨AON_WAKE_STATUS, 6, 1, .ro, .const 0⟩
def AON_WAKE_STATUS_WAKES : Fld := ⟨AON_WAKE_STATUS, 16, 16, .rc, .const 0⟩
def AON_WAKE_STATUS_ENTRIES : Fld := ⟨AON_WAKE_STATUS, 32, 16, .rc, .const 0⟩
def AON_WAKE_STATUS_fields : List Fld := [AON_WAKE_STATUS_STATE, AON_WAKE_STATUS_LAST_SOURCE, AON_WAKE_STATUS_EDGE_AT_ENTRY, AON_WAKE_STATUS_SAVE_FAILED, AON_WAKE_STATUS_WAKES, AON_WAKE_STATUS_ENTRIES]

/-- THM_CH_CFG (spec/18_thermal.md, Table RG-4). -/
def THM_CH_CFG : RegDef := ⟨"THM_CH_CFG", 0x4F00000, 0x0, 64, 0x10, 64⟩
def THM_CH_CFG_WARN : Fld := ⟨THM_CH_CFG, 0, 16, .rw, .warn⟩
def THM_CH_CFG_THROTTLE : Fld := ⟨THM_CH_CFG, 16, 16, .rw, .throttle⟩
def THM_CH_CFG_BETA : Fld := ⟨THM_CH_CFG, 32, 16, .rw, .beta⟩
def THM_CH_CFG_fields : List Fld := [THM_CH_CFG_WARN, THM_CH_CFG_THROTTLE, THM_CH_CFG_BETA]

/-- THM_CH_STATUS (spec/18_thermal.md, Table RG-4). -/
def THM_CH_STATUS : RegDef := ⟨"THM_CH_STATUS", 0x4F00008, 0x0, 64, 0x10, 64⟩
def THM_CH_STATUS_TEMP : Fld := ⟨THM_CH_STATUS, 0, 16, .ro, .const 32768⟩
def THM_CH_STATUS_BAND : Fld := ⟨THM_CH_STATUS, 16, 3, .ro, .const 7⟩
def THM_CH_STATUS_FAST : Fld := ⟨THM_CH_STATUS, 19, 1, .ro, .const 0⟩
def THM_CH_STATUS_FAULT : Fld := ⟨THM_CH_STATUS, 20, 1, .ro, .const 0⟩
def THM_CH_STATUS_EVENT : Fld := ⟨THM_CH_STATUS, 21, 1, .w1c, .const 0⟩
def THM_CH_STATUS_MAX : Fld := ⟨THM_CH_STATUS, 32, 16, .rc, .const 32768⟩
def THM_CH_STATUS_fields : List Fld := [THM_CH_STATUS_TEMP, THM_CH_STATUS_BAND, THM_CH_STATUS_FAST, THM_CH_STATUS_FAULT, THM_CH_STATUS_EVENT, THM_CH_STATUS_MAX]

/-- THM_STATUS (spec/18_thermal.md, Table RG-4). -/
def THM_STATUS : RegDef := ⟨"THM_STATUS", 0x4F00400, 0x0, 1, 0x0, 1⟩
def THM_STATUS_STACK_BAND : Fld := ⟨THM_STATUS, 0, 3, .ro, .const 7⟩
def THM_STATUS_HOTTEST : Fld := ⟨THM_STATUS, 3, 6, .ro, .const 0⟩
def THM_STATUS_FAST_COUNT : Fld := ⟨THM_STATUS, 9, 4, .ro, .const 0⟩
def THM_STATUS_STOP_HOLD : Fld := ⟨THM_STATUS, 13, 1, .ro, .const 0⟩
def THM_STATUS_TRIPPED : Fld := ⟨THM_STATUS, 14, 1, .ro, .const 0⟩
def THM_STATUS_TRIP_SITE : Fld := ⟨THM_STATUS, 15, 6, .ro, .const 0⟩
def THM_STATUS_ASSIST : Fld := ⟨THM_STATUS, 21, 2, .ro, .const 0⟩
def THM_STATUS_FAULTS : Fld := ⟨THM_STATUS, 23, 6, .ro, .const 0⟩
def THM_STATUS_STOPS : Fld := ⟨THM_STATUS, 32, 16, .rc, .const 0⟩
def THM_STATUS_fields : List Fld := [THM_STATUS_STACK_BAND, THM_STATUS_HOTTEST, THM_STATUS_FAST_COUNT, THM_STATUS_STOP_HOLD, THM_STATUS_TRIPPED, THM_STATUS_TRIP_SITE, THM_STATUS_ASSIST, THM_STATUS_FAULTS, THM_STATUS_STOPS]

/-- THM_DIAG (spec/18_thermal.md, Table RG-4). -/
def THM_DIAG : RegDef := ⟨"THM_DIAG", 0x4F00410, 0x0, 1, 0x0, 1⟩
def THM_DIAG_CHANNEL : Fld := ⟨THM_DIAG, 0, 6, .rw, .const 0⟩
def THM_DIAG_EN : Fld := ⟨THM_DIAG, 6, 1, .rw, .const 0⟩
def THM_DIAG_fields : List Fld := [THM_DIAG_CHANNEL, THM_DIAG_EN]

/-- THM_THROTTLE (spec/18_thermal.md, Table RG-4). -/
def THM_THROTTLE : RegDef := ⟨"THM_THROTTLE", 0x4F00500, 0x0, 17, 0x8, 17⟩
def THM_THROTTLE_LEVEL : Fld := ⟨THM_THROTTLE, 0, 3, .ro, .const 0⟩
def THM_THROTTLE_LIMIT_CODE : Fld := ⟨THM_THROTTLE, 3, 6, .ro, .const 60⟩
def THM_THROTTLE_RAISES : Fld := ⟨THM_THROTTLE, 32, 16, .rc, .const 0⟩
def THM_THROTTLE_fields : List Fld := [THM_THROTTLE_LEVEL, THM_THROTTLE_LIMIT_CODE, THM_THROTTLE_RAISES]

/-- AON_RTC (spec/20_register_reference.md, Table RG-4). -/
def AON_RTC : RegDef := ⟨"AON_RTC", 0x5000000, 0x0, 1, 0x0, 1⟩
def AON_RTC_SECONDS : Fld := ⟨AON_RTC, 0, 48, .ro, .const 0⟩
def AON_RTC_fields : List Fld := [AON_RTC_SECONDS]

/-- AON_RTC_ALARM (spec/20_register_reference.md, Table RG-4). -/
def AON_RTC_ALARM : RegDef := ⟨"AON_RTC_ALARM", 0x5000008, 0x0, 1, 0x0, 1⟩
def AON_RTC_ALARM_ALARM : Fld := ⟨AON_RTC_ALARM, 0, 48, .rw, .const 0⟩
def AON_RTC_ALARM_FIRED : Fld := ⟨AON_RTC_ALARM, 48, 1, .w1c, .const 0⟩
def AON_RTC_ALARM_fields : List Fld := [AON_RTC_ALARM_ALARM, AON_RTC_ALARM_FIRED]

/-- AON_TIMESTAMP (spec/20_register_reference.md, Table RG-4). -/
def AON_TIMESTAMP : RegDef := ⟨"AON_TIMESTAMP", 0x5000010, 0x0, 1, 0x0, 1⟩
def AON_TIMESTAMP_NS : Fld := ⟨AON_TIMESTAMP, 0, 64, .ro, .const 0⟩
def AON_TIMESTAMP_fields : List Fld := [AON_TIMESTAMP_NS]

def index3_0 : List (RegDef × List Fld) :=
  [(BUR_CORE_SUMMARY, BUR_CORE_SUMMARY_fields),
   (BUR_LOGICAL_MAP, BUR_LOGICAL_MAP_fields),
   (BUR_PLAN_STATE, BUR_PLAN_STATE_fields),
   (BUR_PLAN_ID, BUR_PLAN_ID_fields),
   (VCP_CTRL, VCP_CTRL_fields),
   (VCP_SUMMARY, VCP_SUMMARY_fields),
   (VCP_RESET_STATUS, VCP_RESET_STATUS_fields),
   (VCP_LAST_EVENT, VCP_LAST_EVENT_fields),
   (VCP_PORT, VCP_PORT_fields),
   (VCP_GROUP, VCP_GROUP_fields),
   (BUR_SKIPPER_STATUS, BUR_SKIPPER_STATUS_fields),
   (BUR_SKIPPER_LAST, BUR_SKIPPER_LAST_fields),
   (BUR_RECOVERY_COUNT, BUR_RECOVERY_COUNT_fields),
   (HOST_STACK_SEL, HOST_STACK_SEL_fields),
   (HOST_BAR4_BASE, HOST_BAR4_BASE_fields),
   (HOST_WIN_BASE, HOST_WIN_BASE_fields)]

def index3_1 : List (RegDef × List Fld) :=
  [(HOST_LINK_STATUS, HOST_LINK_STATUS_fields),
   (HOST_ERR_COUNT, HOST_ERR_COUNT_fields),
   (LPD_CFG, LPD_CFG_fields),
   (LPD_STATUS, LPD_STATUS_fields),
   (LPD_ERR, LPD_ERR_fields),
   (LPD_POISON_DIR, LPD_POISON_DIR_fields),
   (MOV_CH_HEAD, MOV_CH_HEAD_fields),
   (MOV_CH_CTRL, MOV_CH_CTRL_fields),
   (MOV_CH_STATUS, MOV_CH_STATUS_fields),
   (BUR_STATUS, BUR_STATUS_fields),
   (BUR_FW, BUR_FW_fields),
   (MBX_DOORBELL, MBX_DOORBELL_fields),
   (MBX_STATUS, MBX_STATUS_fields),
   (MBX_EVT_HEAD, MBX_EVT_HEAD_fields),
   (MBX_EVT_TAIL, MBX_EVT_TAIL_fields),
   (MBX_EVT_STATUS, MBX_EVT_STATUS_fields)]

def index3_2 : List (RegDef × List Fld) :=
  [(LOG_NEXT, LOG_NEXT_fields),
   (LOG_LOST, LOG_LOST_fields),
   (FUSE_SERIAL_LO, FUSE_SERIAL_LO_fields),
   (FUSE_SERIAL_HI, FUSE_SERIAL_HI_fields),
   (FUSE_DIE_SERIAL, FUSE_DIE_SERIAL_fields),
   (FUSE_FW_POLICY, FUSE_FW_POLICY_fields),
   (LIC_STATUS, LIC_STATUS_fields),
   (INTC_SRC_CFG, INTC_SRC_CFG_fields),
   (INTC_CLAIM, INTC_CLAIM_fields),
   (INTC_COMPLETE, INTC_COMPLETE_fields),
   (INTC_STATUS, INTC_STATUS_fields),
   (INTC_CORE_PENDING, INTC_CORE_PENDING_fields),
   (REG_CLASS_CFG, REG_CLASS_CFG_fields),
   (REG_CLASS_STATUS, REG_CLASS_STATUS_fields),
   (REG_ORDINARY, REG_ORDINARY_fields),
   (REG_GPIO, REG_GPIO_fields)]

def index3_3 : List (RegDef × List Fld) :=
  [(REG_XING_STATUS, REG_XING_STATUS_fields),
   (REG_OWNER, REG_OWNER_fields),
   (BUR_BOOT_STATUS, BUR_BOOT_STATUS_fields),
   (BUR_BOOT_TIME, BUR_BOOT_TIME_fields),
   (PWR_STATUS, PWR_STATUS_fields),
   (PWR_REGION_CFG, PWR_REGION_CFG_fields),
   (PWR_REGION_STATUS, PWR_REGION_STATUS_fields),
   (PWR_RAIL, PWR_RAIL_fields),
   (PWR_AVS, PWR_AVS_fields),
   (AON_WAKE_CFG, AON_WAKE_CFG_fields),
   (AON_WAKE_STATUS, AON_WAKE_STATUS_fields),
   (THM_CH_CFG, THM_CH_CFG_fields),
   (THM_CH_STATUS, THM_CH_STATUS_fields),
   (THM_STATUS, THM_STATUS_fields),
   (THM_DIAG, THM_DIAG_fields),
   (THM_THROTTLE, THM_THROTTLE_fields)]

def index3_4 : List (RegDef × List Fld) :=
  [(AON_RTC, AON_RTC_fields),
   (AON_RTC_ALARM, AON_RTC_ALARM_fields),
   (AON_TIMESTAMP, AON_TIMESTAMP_fields)]

/-- The registers of this file with their fields. -/
def index3 : List (RegDef × List Fld) := index3_0 ++ index3_1 ++ index3_2 ++ index3_3 ++ index3_4

end Sys2Proof.Machine.Reg
end

