-- ==== Sys2Proof/Machine/MemTypes.lean ====
section
/-! DEFINITION. How bytes are held: lists of cells in one canonical form, and bytes that carry poison (R303 to R308). -/

namespace Sys2Proof.Machine

/-- A memory of bytes with check bits (R303). Both lists have strictly rising addresses and no zero byte: an unlisted address
reads as the byte 0, and an unlisted syndrome is 0. The syndrome of a byte is its two stored check bits XOR the check bits
that R304 computes for its data and address: 0 is a byte that passes, 3 has both check bits inverted. -/
structure Mem where
  data : List Host.Cell := []
  syn  : List Host.Cell := []
  deriving DecidableEq, Repr

/-- A byte on its way: its value and the kind of poison it carries (Table IN-2), 0 for none. A poisoned byte's value is 0
wherever it is visible (R308). -/
structure PByte where
  val    : Byte
  poison : Nat := 0
  deriving DecidableEq, Repr

/-- A disturbance of one stored byte, as a command reports it: the data cells and the check cells that flipped (R305, R306). -/
structure Upset where
  addr  : Nat
  data  : Byte
  check : BitVec 2
  deriving DecidableEq, Repr

end Sys2Proof.Machine
end

