-- ==== Sys2Proof/Machine/State.lean ====
section
/-! DEFINITION. The state of the part as plain data, the reasons a step can stop, and the state after reset. The default of a
field is its value in `State.reset`; INVENTORY.md lists every field with the rule that names it. -/

namespace Sys2Proof.Machine

/-! ## What is fixed at manufacture -/

/-- The part letter (R5, Table SC-1). -/
inductive Part where
  | S | D | Q
  deriving DecidableEq, Repr

/-- What is fused at manufacture (R5, R6, R22, R291, R332, R429). DESIGN CHOICE (log entry 4): the fused values of State.reset. -/
structure Fuse where
  part        : Part := .S
  /-- stepping: bits [7:4] the letter, [3:0] the digit (R6); A0 is 0x00 -/
  revision    : Nat := 0
  serial      : BitVec 128 := 0
  /-- stack s: compute die at 2s, cache die at 2s + 1 -/
  dieSerials  : List Dword := [0, 0, 0, 0, 0, 0, 0, 0]
  /-- FUSE_FW_POLICY of each stack -/
  minSecver   : List Nat := [0, 0, 0, 0]
  keysRevoked : List Nat := [0, 0, 0, 0]
  /-- coupler spares mapped at manufacture: (stack, VCP_GROUP index, coupler index) -/
  couplers    : List (Nat × Nat × Nat) := []
  /-- row spares mapped at manufacture: (stack, bay, slice, row, spare slice, spare row) -/
  rows        : List (Nat × Nat × Nat × Nat × Nat × Nat) := []
  deriving DecidableEq, Repr

/-! ## The cache partition (spec/09_cache_die.md) -/

/-- Who makes an access (Table RG-2). -/
inductive Agent where
  | kernel (core : Nat) | mover (ch : Nat) | host | cabinet (c : Nat) | twin | bureau
  deriving DecidableEq, Repr

/-- An access on its way to the home of its bytes (R104, R270): a read of len bytes, or a write of wr. -/
structure Access where
  agent : Agent
  addr  : Nat
  len   : Nat
  wr    : Option (List PByte) := none
  alloc : Bool := true
  deriving DecidableEq, Repr

/-- A resident line of the cache partition (R270, R272): line number (region 0x4 offset / 128), its way in its set. -/
structure CLine where
  line   : Nat
  way    : Nat
  dirty  : Bool := false
  pinned : Bool := false
  /-- held unevictable: its poisoned writeback found the directory full (R396) -/
  held   : Bool := false
  deriving DecidableEq, Repr

/-- What is outstanding on a line (R270). -/
inductive OutKind where
  | fill | writeback | stream
  deriving DecidableEq, Repr

/-- A line with an outstanding operation, and the accesses that the home holds in arrival order (R270). -/
structure Outst where
  line : Nat
  kind : OutKind
  held : List Access := []
  deriving DecidableEq, Repr

/-- A shelf (R273): a pinned range of region 0x4, in bytes. -/
structure Shelf where
  id    : Nat
  start : Nat
  len   : Nat
  deriving DecidableEq, Repr

structure CacheSt where
  /-- resident lines, most recently used first -/
  lines    : List CLine := []
  /-- line numbers in the dead tables of both halves (R276) -/
  dead     : List Nat := []
  outst    : List Outst := []
  shelves  : List Shelf := []
  /-- shelf ids whose pin has lines still to load (R273) -/
  pinning  : List Nat := []
  /-- lookups and hits of the window now open, west and east (R275) -/
  winLook  : Duo Nat := ⟨0, 0⟩
  winHits  : Duo Nat := ⟨0, 0⟩
  /-- a partition change under way: the new cache counts (R281) -/
  change   : Option (Nat × Nat) := none
  /-- accesses to region 0x4 held during a partition change (R281 step 1), oldest first -/
  heldAll  : List Access := []
  /-- set-ways taken by failed rows of cache slices (R333): (bay, set, way) -/
  lostWays : List (Nat × Nat × Nat) := []
  deriving DecidableEq, Repr

/-! ## Integrity (spec/11_integrity.md) -/

/-- A Skipper test, waiting or running (R320): structure value of Table IN-5 and INDEX of BUR_SKIPPER_LAST. -/
structure SkTest where
  kind   : Nat
  index  : Nat
  /-- detections on the structure while its test is queued or running (R315) -/
  counted : Nat := 0
  deriving DecidableEq, Repr

/-- An outcome kept for R322: structure, and the device timestamp. -/
structure SkHist where
  kind  : Nat
  index : Nat
  time  : Nat
  deriving DecidableEq, Repr

/-- A row spare mapped in service (R332). unit: 1 bay, 7 local memory, 8 accumulator, 9 register file (Table IN-5 values). -/
structure RowSpare where
  unit  : Nat
  /-- bay or physical core id -/
  owner : Nat
  bank  : Nat
  row   : Nat
  spareBank : Nat
  spareRow  : Nat
  deriving DecidableEq, Repr

/-- A range scrub waiting or running (R327), with the summary of Table IN-6 so far. -/
structure Scrub where
  mbox  : Option Nat
  start : Nat
  len   : Nat
  /-- bytes already scrubbed -/
  pos      : Nat := 0
  checked  : Nat := 0
  errors   : Nat := 0
  refetched : Nat := 0
  poisoned : Nat := 0
  spared   : Nat := 0
  first    : Option Nat := none
  last     : Option Nat := none
  /-- halves whose rows of the range have been read, and those that are done with it -/
  scanned  : List Nat := []
  done     : List Nat := []
  deriving DecidableEq, Repr

/-- A granule that a core reported as consumed and that awaits restoration (R317). -/
structure Consumed where
  core  : Nat
  addr  : Nat
  kind  : Nat
  /-- its reshard descriptor has been asked of another part for it again (R84) -/
  asked : Bool := false
  deriving DecidableEq, Repr

structure Integ where
  /-- accesses held for a row under test (R320), oldest first -/
  held     : List Access := []
  running  : List SkTest := []
  queue    : List SkTest := []
  history  : List SkHist := []
  spares   : List RowSpare := []
  /-- unmapped spare rows marked unusable (R325): (bay, slice, spare row) -/
  unusable : List (Nat × Nat × Nat) := []
  /-- failed rows (R333): (bay, slice, row) -/
  failed   : List (Nat × Nat × Nat) := []
  /-- near-cache rows whose ways are disabled (Table IN-5, 0xA): (physical id, row) -/
  ncRows   : List (Nat × Nat) := []
  consumed : List Consumed := []
  /-- ranges waiting, west then east half; the first of each is the one served -/
  scrubs   : List Scrub := []
  /-- device timestamps of Bureau resets (R330) -/
  resets   : List Nat := []
  deriving DecidableEq, Repr

/-! ## The Bureau (spec/14_bureau_and_shoser.md) -/

/-- An entry of the change log (Table BU-8). -/
structure ChangeEntry where
  time    : Nat
  serial  : Nat
  source  : Nat
  flags   : Nat
  mailbox : Nat
  stack   : Nat
  seq     : Nat
  addr    : Nat
  old     : Nat
  new     : Nat
  deriving DecidableEq, Repr

/-- An entry of the error log (R428); DETAIL as up to four 8-byte words. -/
structure ErrEntry where
  time   : Nat
  serial : Nat
  code   : Nat
  stack  : Nat
  unit   : Nat
  index  : Nat
  addr   : Nat
  detail : List Nat := []
  deriving DecidableEq, Repr

/-- An event of Table BU-7 with its header fields (R423). -/
structure Event where
  code   : Nat
  status : Nat := 0
  stack  : Nat
  args   : List Nat := []
  time   : Nat := 0
  deriving DecidableEq, Repr

/-- A Shoser command as the Bureau copied it (R412, R414, R415): the header and payload, and the status of the checks made at once. -/
structure MbxReq where
  mbox    : Nat
  seq     : Nat
  opcode  : Nat
  stack   : Nat
  cookie  : Nat
  payload : List Byte
  /-- 0, or the status with which R415 completes it -/
  status  : Nat := 0
  deriving DecidableEq, Repr

/-- Bindings of sync objects to vectors (R422). -/
structure SyncBind where
  handle    : Nat
  vector    : Nat
  threshold : Nat
  deriving DecidableEq, Repr

/-- A stored licence (Table BU-9), as its 144 bytes. -/
abbrev LicBlob := List Byte

/-- The Bureau of one stack. -/
structure Bureau where
  changeLog : List ChangeEntry := []
  errLog    : List ErrEntry := []
  /-- highest SERIAL that LOG_READ has returned plus 1, change and error log (R428) -/
  logRead   : Duo Nat := ⟨0, 0⟩
  binds     : List SyncBind := []
  /-- asynchronous latches of the always-on island that hold an edge (R438) -/
  latches   : List Nat := []
  /-- a Bureau restart is under way (R330), and the Shoser commands that it interrupted -/
  restarting : Bool := false
  interrupted : List MbxReq := []
  deriving DecidableEq, Repr

/-- A BAR4 request that the endpoint has received (R380): the device address of its first byte, the length of a read or the data of a write, the EP
bit of a write (R382). -/
structure BarReq where
  addr : Nat
  len  : Nat := 0
  data : Option (List Byte) := none
  ep   : Bool := false
  deriving DecidableEq, Repr

/-- A BAR0 request that the endpoint has received (R379, R523): its offset and size, and the data of a write. -/
structure Bar0Req where
  offset : Nat
  size   : Nat
  data   : Option Dword := none
  deriving DecidableEq, Repr

/-- The host side of the part: mailboxes, event ring, MSI-X, BARs (stack 0; spec/13, spec/14). -/
structure HostSt where
  /-- the 768 KiB SRAM of BAR2 (R411): request and response buffers, event ring -/
  bar2      : Mem := {}
  /-- commands accepted and not yet copied and performed, in doorbell order (R412, R416): mailbox and SEQ -/
  mbxQueue  : List (Nat × Nat) := []
  /-- deferred commands still completing (R416) -/
  deferred  : List MbxReq := []
  /-- events waiting in the Bureau's queue of 1,024 (R424) -/
  evQueue   : List Event := []
  /-- events dropped since the last EVENT_LOST (R424) -/
  evLost    : Nat := 0
  /-- the event serial (R414) -/
  evSerial  : Nat := 0
  /-- vector of an event code; absent: 64 (R424) -/
  evBind    : SMap Nat := []
  /-- MSI-X vectors that are masked: absent reads as masked at reset (R384) -/
  msixOpen  : List Nat := []
  /-- MSI-X pending bits -/
  msixPend  : List Nat := []
  /-- MSI-X messages sent, newest first -/
  msixSent  : List Nat := []
  /-- AER conditions reported (R383), newest first -/
  aer       : List Nat := []
  /-- the boot flash (Table BU-1) -/
  flash     : Mem := {}
  /-- firmware slot marked preferred by FW_ACTIVATE: 0 A, 1 B (R408) -/
  preferred : Nat := 0
  /-- stored licences of the licence store, in order of installation -/
  licences  : List LicBlob := []
  /-- BAR4 requests received and not yet performed, because one before them is held (R31, R270, R281, R380), oldest first -/
  bar4      : List BarReq := []
  /-- BAR0 requests received and not yet performed, because the first of them is held (R297, R525), oldest first -/
  bar0      : List Bar0Req := []
  /-- data of the last BAR read or of the last access performed: what the requester receives -/
  response  : List PByte := []
  /-- whether the last host read completed with the EP bit (R313) -/
  ep        : Bool := false
  deriving DecidableEq, Repr

/-! ## Cores (spec/02_execution_model.md, spec/03_thread_groups.md, spec/04_kernel_form.md) -/

/-- A lane register: a granule of the register file (R125, R308). A poisoned register has value 0. -/
structure RegV where
  val    : Word := 0
  poison : Nat := 0
  /-- the syndromes of its four bytes, two bits each (R303): 0 passes the check -/
  syn    : Nat := 0
  /-- device address of the poisoned granule it was loaded from (R317) -/
  origin : Nat := 0
  deriving DecidableEq, Repr

/-- An entry of the divergence stack (R95, R96): the reconvergence point, the paths still to run with their masks and targets,
and the lanes that have reached the point. -/
structure DivE where
  reconv : Nat
  paths  : List (Nat × Nat)
  done   : Nat
  deriving DecidableEq, Repr

/-- What a group waits for. -/
inductive GWait where
  | none
  /-- BAR.SYNC n (R100) -/
  | barrier (n : Nat)
  /-- WAIT_GE or WAIT_EQ on an object of its own stack (R63): FAILED goes to predicate pd, FAIL_CODE to register rd -/
  | obj (o t : Nat) (eq : Bool) (pd rd mask : Nat)
  /-- MX.WAIT, ATT.WAIT, KV.WAIT: until every operation issued before the n-th has completed (R145) -/
  | mx (n : Nat) | att (n : Nat) | kv (n : Nat)
  /-- a solo form some of whose lanes wait at issue for room in the queue of the array or of the softmax and bias unit: until its operation n has
  been taken (R145, R167, R222) -/
  | mxLanes (n : Nat) | attLanes (n : Nat)
  /-- an atomic instruction whose requests are on their way (R113) -/
  | atomic
  deriving DecidableEq, Repr

/-- A resident group (R86, R94, R126). Masks are numbers with bit i for lane i. -/
structure Group where
  block  : Nat
  index  : Nat
  pc     : Nat
  active : Nat := 0xFFFF_FFFF
  exited : Nat := 0
  div    : List DivE := []
  /-- p0 to p6, one mask over lanes each; one that is not listed is false in every lane -/
  preds  : SMap Nat := []
  wait   : GWait := .none
  /-- journalled atomics of this group in the unit (R70) -/
  atomN  : Nat := 0
  /-- an ATOM.ORD whose ticket has come (R116) -/
  ordered : Bool := false
  deriving DecidableEq, Repr

/-- A launch (R89 to R92) and its barriers. -/
structure Launch where
  active : Bool := false
  code   : Nat := 0
  blocks : Nat := 0
  groups : Nat := 1
  /-- REGS rounded up to a multiple of 8 (R125) -/
  regs   : Nat := 8
  areaBase : Nat := 0
  lmem   : Nat := 0
  args   : Nat := 0
  dual   : Bool := false
  k      : Nat := 1
  next   : Nat := 0
  /-- block resident in each block slot -/
  slots  : SMap Nat := []
  /-- groups arrived at barrier n of block slot j: key j × 4 + n, mask of groups in block -/
  arrived : SMap Nat := []
  /-- barriers reported stalled since their last arrival (R102) -/
  stalled : List Nat := []
  deriving DecidableEq, Repr

/-- A store issued and not yet performed at its home (R108, R139). -/
structure PStore where
  slot : Nat
  addr : Nat
  data : List Byte
  deriving DecidableEq, Repr

/-- The atomic operations (R140). -/
inductive AOp where
  | add | minS | minU | maxS | maxU | and | or | xor | xch | cas | fadd
  deriving DecidableEq, Repr

/-- One request of an atomic instruction: one location, the lanes that address it with their operands and, for CAS, new values
(R114); its journal number n, if it is journalled (R70). -/
structure AReq where
  addr  : Nat
  lanes : List (Nat × Nat × Nat)
  n     : Option Nat
  deriving DecidableEq, Repr

/-- An atomic instruction in flight for a group. -/
structure AInstr where
  op    : AOp
  wide  : Bool
  /-- the lanes the instruction acts on, and its destination register -/
  mask  : Nat
  dst   : Nat
  /-- bytes of the instruction: 8 or 16 -/
  size  : Nat
  reqs  : List AReq
  /-- values received: (lane, value) -/
  got   : List (Nat × Nat) := []
  /-- lanes whose returned value carries DEAD_READ poison, with the granule (R277) -/
  dead  : List (Nat × Nat) := []
  /-- ATOM.ORD: the object, and its ticket (R116) -/
  ord   : Option (Nat × Nat) := none
  deriving DecidableEq, Repr

/-- A record of the atomic journal (R70): key and returned value. -/
structure JEntry where
  block : Nat
  group : Nat
  n     : Nat
  value : Nat
  deriving DecidableEq, Repr

/-- A keyed operation of a Cabinet (R236, Tables KV-4 to KV-6): KIND and ORDER, the sequence, DST_SEQ or STREAM, POS or LENGTH or POS0,
N or COUNT, NEW_LENGTH, FLAGS, FORMAT, HEAD_DIM, STREAMS; of an append the stage with its length, and the data that it brings. -/
structure KOp where
  kind    : Nat
  key     : Nat
  seq     : Nat
  seq2    : Nat := 0
  pos     : Nat := 0
  n       : Nat := 0
  newLen  : Nat := 0
  flags   : Nat := 0
  fmt     : Nat := 0
  hd      : Nat := 0
  streams : Nat := 0
  /-- device address and bytes of the append stage (R243) -/
  stage    : Nat := 0
  stageLen : Nat := 0
  data     : List PByte := []
  deriving DecidableEq, Repr

/-- A KV.GATHER on its way (R248): its descriptor, and the unit's own staged append that covers its stream (R249): POS, N, the stage. -/
structure KGather where
  id   : Nat
  desc : List Byte
  own  : Option (Nat × Nat × Nat)
  deriving DecidableEq, Repr

structure KvSt where
  gathers : List KGather := []
  /-- gathers issued by the core -/
  nextId  : Nat := 0
  deriving DecidableEq, Repr

/-- A sequence context (R227, Table KV-1) with its map (R235): page ids by logical page, the level-1 block, the level-2 blocks by
g / 256. A context that is not LIVE has no entry. -/
structure Seq where
  pinned    : Bool := false
  exhausted : Bool := false
  cls       : Nat := 0
  fmt       : Nat := 0
  hd        : Nat := 0
  streams   : Nat := 1
  length    : Nat := 0
  sync      : Nat := 0
  lastFail  : Nat := 0
  tag       : Nat := 0
  planId    : Nat := 0
  map       : SMap Nat := []
  l1        : Option Nat := none
  l2        : SMap Nat := []
  /-- HAS_DROPPED set by an installation that left the sequence no page (R372) -/
  flagged   : Bool := false
  deriving DecidableEq, Repr

/-- A page record (Table KV-3) that is not FREE. loc: 1 RESIDENT, 2 SPILLED, 3 DROPPED. -/
structure KPage where
  loc   : Nat
  error : Bool := false
  /-- DROPPED with ERROR without a frame: a gather found the error in the Chest (R257) -/
  bare  : Bool := false
  cls   : Nat := 0
  whr   : Nat := 0
  refs  : Nat := 0
  pins  : Nat := 0
  stamp : Nat := 0
  deriving DecidableEq, Repr

/-- A Cabinet (R226, R231 to R238, R257). -/
structure Cab where
  pages  : SMap KPage := []
  /-- map blocks in use -/
  blocks : List Nat := []
  /-- frames retired until the next cold start -/
  retired : List Nat := []
  /-- frames of error pages whose Skipper test failed -/
  bad    : List Nat := []
  /-- the reorder queue -/
  queue  : List KOp := []
  /-- Chest copies on their way: page id and Chest slot (R258) -/
  copying : List (Nat × Nat) := []
  deriving DecidableEq, Repr

/-- An operation staged until commit (R69). -/
inductive Staged where
  | signal (h n f : Nat)
  | clearFail (h : Nat)
  /-- the device address of a line -/
  | dead (addr : Nat)
  | keyed (cab : Nat) (op : KOp)
  deriving DecidableEq, Repr

/-- A token or credit in the outbox (R71): output channel order, and the word of Table EX-10. -/
structure OutTok where
  credit  : Bool
  channel : Nat
  count   : Nat
  word    : Nat
  deriving DecidableEq, Repr

/-- An input channel (R53, R57, R58, R72). -/
structure InChan where
  /-- count of the next token to consume at the last commit -/
  base     : Nat := 0
  /-- tokens accepted beyond base -/
  accepted : Nat := 0
  /-- tokens consumed in the running unit -/
  cur      : Nat := 0
  /-- counts of accepted end tokens not yet committed past -/
  ends     : List Nat := []
  /-- counts of tokens held unacknowledged until their predecessor is accepted, with 1 for an end token -/
  waiting  : List (Nat × Nat) := []
  faulted  : Bool := false
  deriving DecidableEq, Repr

/-- An output channel (R57, R58, R60). -/
structure OutChan where
  /-- tokens sent by commits -/
  sent    : Nat := 0
  /-- tokens of the running unit: credits reserved -/
  cur     : Nat := 0
  /-- count of the oldest token whose credit has not been accepted -/
  oldest  : Nat := 0
  /-- credits held unacknowledged until their predecessor is accepted -/
  waiting : List Nat := []
  faulted : Bool := false
  deriving DecidableEq, Repr

/-- The control record of a logical index (R71, R72), less the inbox, which InChan holds. -/
structure CtrlRec where
  script : Nat := 0
  /-- phases that the index has ended (R82 step 1) -/
  phase  : Nat := 0
  loops  : SMap Nat := []
  ended  : Bool := false
  outbox : List OutTok := []
  staged : List Staged := []
  /-- the commit marker: COMMIT_ID and unit count -/
  marker : Option (Nat × Nat) := none
  deriving DecidableEq, Repr

/-! ### The matrix array (spec/05_matrix_array.md) -/

/-- The fields of a MX descriptor (Tables MX-6 to MX-8) under one set of names. -/
structure MxDesc where
  /-- FMT_B, FMT_A or OUT_FMT -/
  fmt     : Nat := 0
  /-- K_ROWS, M or ROWS -/
  rows    : Nat := 0
  cols    : Nat := 0
  /-- SRC or DST -/
  addr    : Nat := 0
  stride  : Nat := 0
  scale   : Nat := 0
  accRow  : Nat := 0
  accFmt  : Nat := 0
  /-- ACC_MODE or FLAGS -/
  mode    : Nat := 0
  kblock  : Nat := 0
  shift   : Nat := 0
  deriving DecidableEq, Repr

inductive MxKind where
  | loadw | swap | stream | drain
  deriving DecidableEq, Repr

/-- An issued array operation (R166): its place in issue order, its descriptor, the fragments of a group-wide form by lane, and for
MXG.DRAIN the group slot with its first fragment register and register count (R176). -/
structure MxOp where
  id   : Nat
  kind : MxKind
  desc : MxDesc := {}
  frag : Option (List (List Byte)) := none
  out  : Option (Nat × Nat × Nat) := none
  deriving DecidableEq, Repr

/-- A bank of weight registers with its format tag (0xF empty), scales and checksum cells (R151, R159, R177). -/
structure Bank where
  fmt    : Nat := 15
  kRows  : Nat := 0
  nCols  : Nat := 0
  /-- weights as element codes, by k then n -/
  rows   : List (List Nat) := []
  /-- E8M0 scales: column 0 to 63 of block 0, then of block 1 -/
  scales : List Nat := []
  /-- signed and absolute row sums of integer formats -/
  sigmaI : List Int := []
  alphaI : List Int := []
  /-- row sums of floating formats as W48 codes: real, imaginary, absolute -/
  sigmaF : List (Nat × Nat × Nat) := []
  deriving DecidableEq, Repr

/-- A row held for its recomputation (R182): its activation codes and scales, and the root values and C of its first computation. -/
structure RowHold where
  acts   : List Nat
  scales : List Nat
  root   : List Nat
  c      : List Nat
  deriving DecidableEq, Repr

/-- An operation in progress: rows that have left the array, and a row held for its recomputation. -/
structure MxRun where
  op   : MxOp
  row  : Nat := 0
  hold : Option RowHold := none
  deriving DecidableEq, Repr

structure MxSt where
  active : Bank := {}
  shadow : Bank := {}
  /-- operations in issue order: the first 16 are the array's queue, those behind them are of lanes that wait at issue (R167) -/
  queue  : List MxOp := []
  run    : List MxRun := []
  /-- operations issued by the core -/
  nextId : Nat := 0
  /-- the tags that the banks will hold, in issue order (R172) -/
  trackA : Nat := 15
  trackS : Nat := 15
  /-- the unit has a mismatch classed numerical; its test has passed (R184) -/
  numerical : Bool := false
  tested    : Bool := false
  deriving DecidableEq, Repr

/-! ### The softmax and bias unit (spec/07_attention.md) -/

/-- A loaded bias slot (R202, R207): its parameters, and its 2,048 bytes with their poison, read from device address src. -/
structure BiasSlot where
  log   : Bool
  split : Bool
  base  : Int
  e     : Nat
  s     : Nat
  src   : Nat
  bytes : List PByte
  deriving DecidableEq, Repr

/-- A row of the pack table (R219, Table AT-6). -/
structure PackRow where
  qsrc   : Nat
  qpos   : Nat
  kstart : Nat
  klen   : Nat
  kpos0  : Nat
  window : Nat
  mask   : Nat
  bias   : Nat
  deriving DecidableEq, Repr

/-- An issued ATT operation: its place in issue order, its descriptor, and for ATT.PACK the list read at issue. -/
structure AttOp where
  id   : Nat
  desc : List Byte
  list : List PackRow := []
  deriving DecidableEq, Repr

structure AttSt where
  bias   : SMap BiasSlot := []
  pack   : Option (List PackRow) := none
  /-- operations in issue order: the first 8 are the unit's queue, those behind them are of lanes that wait at issue (R222) -/
  queue  : List AttOp := []
  run    : Option AttOp := none
  /-- operations issued by the core -/
  nextId : Nat := 0
  /-- in issue order: the slots that will be loaded, as a mask, and the rows that the pack table will hold (R206) -/
  trackBias : Nat := 0
  trackPack : Option Nat := none
  deriving DecidableEq, Repr

/-- A script entry (Table EX-4). -/
structure SEntry where
  inMask   : Nat := 0
  outMask  : Nat := 0
  entry    : Nat := 0
  flags    : Nat := 0
  target   : Nat := 0
  count    : Nat := 0
  commitId : Nat := 0
  deriving DecidableEq, Repr

/-- What stops a core from issuing. -/
inductive CoreHalt where
  | none
  /-- a fault has been recorded and its plan is ending (R148) -/
  | fault
  /-- the unit has been aborted and waits for its replay (R73, R316) -/
  | aborted
  /-- the watchdog's core logic test runs (R329) -/
  | watchdog
  /-- the plan has been aborted on this core (R76) -/
  | stopped
  /-- the index moves to another core (R31, R75) -/
  | moving
  deriving DecidableEq, Repr

/-- A line of a near cache (R110): line number (device address / 128) and its way in its set. -/
structure NearLine where
  line : Nat
  way  : Nat
  deriving DecidableEq, Repr

/-- The near cache of a core: its lines, most recently used first, and their cells by device address (R110, R303). -/
structure NearSt where
  lines : List NearLine := []
  cells : Mem := {}
  deriving DecidableEq, Repr

/-- What a core held when an instruction of it faulted: groups of the other issue slots may still issue the instruction of that step (R86,
R150). -/
structure Late where
  /-- issue slots that have not issued in the step of the fault -/
  slots  : List Nat
  groups : SMap Group
  launch : Launch
  atoms  : SMap AInstr
  mx     : MxSt
  att    : AttSt
  kv     : KvSt
  deriving DecidableEq, Repr

/-- The core that executes a logical index, with its control record and channels. Registers of the register file by
slot × 8192 + lane × 256 + register (R125, R137). -/
structure Core where
  script   : Nat := 0
  /-- an entry's launch or its end is under way -/
  running  : Bool := false
  ended    : Bool := false
  /-- the running entry has finished and its commit is due (R71) -/
  committing : Option Nat := none
  /-- the commit due ends a loop on an end token: the output channels that take an end token, as a mask (R54, R55) -/
  loopEnd  : Option Nat := none
  /-- the entry that runs, as it was read when it started -/
  entry    : SEntry := {}
  /-- the poisoned input slots of the aborted unit have been asked for again (R73) -/
  refetched : Bool := false
  halt     : CoreHalt := .none
  loops    : SMap Nat := []
  ins      : SMap InChan := []
  outs     : SMap OutChan := []
  rcd      : CtrlRec := {}
  staged   : List Staged := []
  /-- phases that the index has ended (R82 step 1) -/
  phase    : Nat := 0
  journal  : List JEntry := []
  unit     : Nat := 0
  aborts   : Nat := 0
  /-- kind of the poison that aborted the unit (Table IN-2) -/
  lastKind : Nat := 0
  groups   : SMap Group := []
  regs     : SMap RegV := []
  launch   : Launch := {}
  stores   : List PStore := []
  atoms    : SMap AInstr := []
  /-- journalled atomics of each group in the unit, by block × 32 + group (R70) -/
  atomNs   : SMap Nat := []
  /-- the last committed bytes of SCRATCH that the unit has overwritten, by device address (R69, Table TG-5) -/
  shadow   : SMap PByte := []
  near     : NearSt := {}
  late     : Option Late := none
  /-- the core's step counter (R134) -/
  steps    : Nat := 0
  mx       : MxSt := {}
  att      : AttSt := {}
  kv       : KvSt := {}
  deriving DecidableEq, Repr

/-! ## Plans (spec/02_execution_model.md) -/

structure CoreDir where
  stack : Nat
  index : Nat
  entries : Nat
  textOff : Nat
  textSize : Nat
  bayOff : Nat
  loadAddr : Nat
  scriptAddr : Nat
  deriving DecidableEq, Repr

structure Route where
  dstStack : Nat
  dst : Nat
  dstCh : Nat
  depth : Nat
  srcSdid : Nat
  srcStack : Nat
  src : Nat
  srcCh : Nat
  flags : Nat
  buffer : Nat
  stage : Nat
  route : Nat
  deriving DecidableEq, Repr

structure SyncEnt where
  obj : Nat
  timeout : Nat
  init : Nat
  stride : Nat
  target0 : Nat
  n0 : Nat
  n1 : Nat
  deriving DecidableEq, Repr

structure BufEnt where
  id : Nat
  kind : Nat
  slots : Nat
  slotSize : Nat
  addr : Nat
  phases : Nat
  /-- OWNER as held: [11:10] stack, [9:0] logical index, 0xFFFF none -/
  owner : Nat
  backing : Nat
  deriving DecidableEq, Repr

structure PhaseEnt where
  phase : Nat
  gather : Nat
  release : Nat
  entry : Nat
  reshardIndex : Nat
  reshardCount : Nat
  target1 : Nat
  deriving DecidableEq, Repr

structure Reshard where
  srcSdid : Nat
  convert : Nat
  src : Nat
  dst : Nat
  len : Nat
  deriving DecidableEq, Repr

/-- The tables of a loaded plan (R42 to R49, R81), as one stack holds them. -/
structure Plan where
  id : Nat := 0
  /-- the bytes of sections 2 to 7, as the reserved area holds them (R280) -/
  tables : List Byte := []
  /-- SDID[0..3] of the header -/
  sdids : List Nat := []
  minCores : List Nat := []
  features : Nat := 0
  determinism : Nat := 0
  completeObj : Nat := 0
  completeCount : Nat := 0
  cores : List CoreDir := []
  routes : List Route := []
  syncs : List SyncEnt := []
  bufs : List BufEnt := []
  phases : List PhaseEnt := []
  reshards : List Reshard := []
  /-- commit-point table: core word, script index, commit id -/
  commits : List (Nat × Nat × Nat) := []
  /-- the image text (section 1), kept by the Bureau in its tier area (Table IN-4) -/
  text : List Byte := []
  deriving DecidableEq, Repr

/-- A mover descriptor (Table HM-5). -/
structure MDesc where
  kind : Nat := 0
  flags : Nat := 0
  elem : Nat := 0
  outCh : Nat := 0
  route : Nat := 0
  rows : Nat := 0
  src : Nat := 0
  dst : Nat := 0
  rowBytes : Nat := 0
  srcStride : Nat := 0
  dstStride : Nat := 0
  sigHandle : Nat := 0
  waitHandle : Nat := 0
  sigN : Nat := 0
  waitT : Nat := 0
  next : Nat := 0
  deriving DecidableEq, Repr

/-- A mover descriptor that has filled an IN buffer from host memory or region 0x4, with its destination (R317, R405). -/
structure MFill where
  desc : MDesc
  dst  : Nat
  deriving DecidableEq, Repr

/-- What a stack holds of its plan beyond the tables. -/
structure PlanSt where
  plan      : Plan := {}
  /-- status with which the last plan ended (PLAN_STATUS) -/
  endStatus : Nat := 0
  /-- active copy, slot 0 or 1, of each STATE buffer -/
  active    : SMap Nat := []
  /-- the pulls of a phase switch have started and the next placement has not taken effect (R82 steps 3 and 4) -/
  switching : Bool := false
  /-- reshard descriptors of the switch under way that have not completed (R82) -/
  pulling   : List Nat := []
  /-- descriptors whose ENTRY has been counted, over all switches: the cumulative count of R82 -/
  entryNeed : Nat := 0
  /-- objects whose stall has been reported in the current run (R67) -/
  stallDone : List Nat := []
  /-- pages to be invalidated in every near cache before they turn writable (R111) -/
  turning   : List Nat := []
  /-- mover descriptors that have filled IN buffers (Table IN-4) -/
  fills     : List MFill := []
  /-- LIC_STATUS.FEATURES when the plan was loaded: the limits that it keeps (R13, R14) -/
  features  : Nat := 0
  deriving DecidableEq, Repr

/-- A message on its way between units: sent and not yet arrived. -/
inductive Msg where
  /-- a token or credit: the PLAN_ID that it carries (R51), the sender's SDID, the receiving stack and core (logical index, or 0x3C0 + c for mover
  channel c), the word of Table EX-10 -/
  | token (plan : Option Nat) (sdid stack core word : Nat)
  /-- a signal or failing signal (f nonzero) from stack src to a handle, with the PLAN_ID that it carries -/
  | signal (plan : Option Nat) (src h n f : Nat)
  | keyed (stack cab : Nat) (op : KOp)
  /-- a dead-line declaration for the line at a device address -/
  | dead (addr : Nat)
  deriving DecidableEq, Repr

/-! ## Device links (spec/12_device_links.md) -/

/-- A flit without its sequence number and acknowledgement (Table LK-4). -/
structure Flit where
  typ     : Nat
  first   : Bool := false
  last    : Bool := false
  packed  : Bool := false
  /-- LEN: payload bytes, or source bytes covered by a packed flit -/
  len     : Nat := 0
  /-- label in the receiving stack's route table -/
  route   : Nat := 0
  addr    : Nat := 0
  payload : List Byte := []
  deriving DecidableEq, Repr

/-- A flit to send, with the route of the sender's table that issued it (16,384 for twin and control traffic). -/
structure OutFlit where
  src  : Nat
  flit : Flit
  /-- of a flit that is forwarded: the link that brought it -/
  via  : Option Nat := none
  deriving DecidableEq, Repr

/-- A transfer whose FIRST flit has been delivered and whose LAST has not (R355): its label, the link that brought its last flit, the
address of its first flit, the source bytes received so far. -/
structure OpenXfer where
  label : Nat
  link  : Nat
  addr  : Nat
  got   : Nat
  deriving DecidableEq, Repr

/-- A POISON flit received, for the next flit of its route (R344): label, granule map, kind nibbles. -/
structure PoisonMark where
  label : Nat
  map   : Nat
  kinds : Nat
  deriving DecidableEq, Repr

/-- A link of a stack (R345, R346). -/
structure Link where
  /-- SEQ of the next numbered flit -/
  sendSeq : Nat := 0
  /-- the replay buffer: SEQ and flit, oldest first -/
  unacked : List (Nat × OutFlit) := []
  /-- flits that wait for room in the replay buffer or for the link -/
  queue   : List OutFlit := []
  /-- next expected SEQ -/
  recvSeq : Nat := 0
  nak     : Bool := false
  /-- replays of the oldest flit in succession -/
  replays : Nat := 0
  /-- failed training attempts in a row -/
  fails   : Nat := 0
  /-- the retrain under way was requested through RETRAIN (R348) -/
  asked   : Bool := false
  /-- the lane that the retrain under way tests (R347) -/
  testLane : Option Nat := none
  /-- PLAN_ID last announced by the peer (R352) -/
  announced : Option Nat := none
  /-- the route whose transfer the link has begun to send and not ended, with the link that brings it when it is forwarded; the route served last
  (R353) -/
  opened  : Option (Nat × Option Nat) := none
  served  : Nat := 0
  /-- POISON flits that the peer has acknowledged and whose data flit it has not, by route (R344, R354) -/
  marks   : SMap OutFlit := []
  /-- a lane window is open after a CRC failure (R347) -/
  window  : Bool := false
  /-- the lane of the margin scan under way (R360) -/
  scan    : Option Nat := none
  deriving DecidableEq, Repr

/-- Who waits for a transfer over a link. -/
inductive XferFor where
  /-- a push of a channel slot -/
  | push
  /-- mover channel c -/
  | mover (c : Nat)
  /-- reshard descriptor i of the stack's table, into its destination -/
  | reshard (i : Nat)
  /-- a refetch of an input slot for index L (R73) -/
  | refetch (L : Nat)
  deriving DecidableEq, Repr

/-- An outstanding transfer: a WRITE until its WRITE_ACK (tag: ADDR[15:0] of the first flit), or a READ_REQ until its data. -/
structure Xfer where
  read  : Bool
  route : Nat
  tag   : Nat
  /-- destination of read data on this stack, its length, and bytes still to come -/
  dst   : Nat := 0
  len   : Nat := 0
  left  : Nat := 0
  /-- its route has failed (R355) -/
  failed : Bool := false
  owner : XferFor
  deriving DecidableEq, Repr

/-- The twin of a stack (R365 to R376), beyond LNK_TWIN_CFG and LNK_TWIN_STATUS. -/
structure TwinSt where
  /-- region 0x4 offset of the journal area held for the twin (R367) -/
  base     : Nat := 0
  /-- the argument of the last PAIR_HELLO received (R365) -/
  hello    : Option Nat := none
  /-- number of the epoch that this stack's own journal is in, and the bytes of its log sent so far (R368) -/
  epoch    : Nat := 1
  logSent  : Nat := 0
  /-- sync points and commit markers as last sent: by object and by logical index -/
  syncSent : SMap (Nat × Nat × Nat) := []
  markSent : SMap (Nat × Nat) := []
  /-- pieces received of the log of the twin's open epoch, offset and length; the number and length of its closing heartbeat -/
  logGot   : List (Nat × Nat) := []
  close    : Option (Nat × Nat) := none
  /-- a takeover has made this stack serve its twin (R371), until the hand-back -/
  serving  : Bool := false
  /-- the takeover was not announced by DETACH or STOP (R374) -/
  surprise : Bool := false
  /-- ids held for the twin and not installed; ids installed for it (R371, R372) -/
  held      : List Nat := []
  installed : List Nat := []
  /-- sequences installed since TWIN_INSTALLED was last written -/
  fresh     : Nat := 0
  installing : Bool := false
  /-- hand-back (R375): this stack has had its TWIN_REJOIN; the twin's REJOIN has come -/
  rejoinMe  : Bool := false
  rejoinYou : Bool := false
  /-- the stack has entered DETACHED, and no hand-back has followed (R373) -/
  detached  : Bool := false
  /-- the twin state in the last heartbeat received (R369) -/
  theirs    : Nat := 0
  /-- state, TWIN_SDID, links, AUTO_TAKEOVER, LOWER and base before a TWIN_PAIR that has not completed (R365) -/
  before : List Nat := []
  deriving DecidableEq, Repr

structure LinkSt where
  links   : SMap Link := []
  xfers   : List Xfer := []
  openX   : List OpenXfer := []
  /-- POISON flits received, for the next flit of their label (R344) -/
  poison  : List PoisonMark := []
  nextTag : Nat := 0
  /-- routes that have moved to ALT (R354) -/
  onAlt   : List Nat := []
  /-- routes that have failed (R355) -/
  failed  : List Nat := []
  /-- PLAN_ID that the route table serves (R350) -/
  tablePlan : Option Nat := none
  twin    : TwinSt := {}
  deriving DecidableEq, Repr

/-! ## Movers (spec/13_host_and_memory.md) -/

/-- Where a channel stands in the steps of R400. -/
inductive MovPhase where
  | idle
  /-- the descriptor at `cur` is to be read (step 1) -/
  | fetch
  /-- steps 2 and 3 -/
  | waitObj | waitCredit
  /-- step 5: the data has been moved and its writes are to be performed -/
  | writes
  deriving DecidableEq, Repr

structure MovCh where
  phase : MovPhase := .idle
  cur   : Nat := 0
  desc  : MDesc := {}
  /-- the chain's last stop followed a descriptor with LAST (R77) -/
  lastDone : Bool := false
  /-- output channels of the producer 0x3C0 + c (R401) -/
  outs  : SMap OutChan := []
  deriving DecidableEq, Repr

/-! ## One stack -/

/-- The core map beyond its registers (R26, R31). -/
structure CoreMap where
  /-- home positions whose index was removed (R26) -/
  removed    : List Nat := []
  /-- relocations under way: home position, chrysalis core that takes its index, 864 for a degradation (R26, R31) -/
  relocating : List (Nat × Nat) := []
  /-- accesses held for a slot under relocation (R31), oldest first -/
  held       : List Access := []
  deriving DecidableEq, Repr

/-- The vertical ports beyond their registers (spec/10_vertical_coupling.md). -/
structure Vcp where
  /-- granules that crossed a port otherwise than their home holds them, and that no read has delivered yet (R287, R288, R301, R314): position,
  device address, and the bytes that arrived -/
  crossed : List (Nat × Nat × List PByte) := []
  /-- groups whose spares are being mapped (R291): VCP_GROUP index and failed couplers -/
  mapping : List (Nat × List Nat) := []
  /-- spare plates that failed a test (R292): VCP_GROUP index and number of the spare -/
  bad     : List (Nat × Nat) := []
  /-- detected errors of the service groups, which have counters of their own (R296): by position × 2 + direction -/
  service : SMap Nat := []
  /-- positions whose token and credit unit has a write that is not acknowledged and that it repeats (R289) -/
  unwritten : List Nat := []
  /-- groups that have not answered since the port reset (R302) -/
  resync  : List Nat := []
  /-- device timestamp of the last port reset -/
  resetAt : Nat := 0
  /-- bytes of the last chunk that a core received -/
  chunk   : List PByte := []
  deriving DecidableEq, Repr

/-! ## Power and temperature (spec/17_power.md, spec/18_thermal.md) -/

/-- A core wake under way (R478): the core, and whether it is in the wait of step 1. -/
structure CoreWake where
  core    : Nat
  waiting : Bool := false
  deriving DecidableEq, Repr

structure PowerSt where
  /-- the last ten 1 µs averages of each region, newest first (R477) -/
  averages : SMap (List Nat) := []
  /-- cores that are to wake and have not begun (R479) -/
  toWake   : List Nat := []
  waking   : List CoreWake := []
  /-- cores whose LDO waits for VDD_CORE_IN to settle (R473) -/
  rising   : List Nat := []
  /-- the target that VDD_CORE_IN last settled at, as PWR_AVS.TARGET counts it -/
  settled  : Nat := 10
  /-- rails out of tolerance in their last housekeeping sample (R474) -/
  railOut  : List Nat := []
  deriving DecidableEq, Repr

/-- What has caused an orderly stop (R501, R502). -/
inductive StopCause where
  | hot | channels | rail | bureau
  deriving DecidableEq, Repr

structure ThermSt where
  /-- channels in the fast set, with their consecutive fast samples below the level (R493) -/
  fast   : SMap Nat := []
  /-- good consecutive samples of faulted channels (R494) -/
  good   : SMap Nat := []
  /-- diode channels whose last sample read 115 °C or more (R501) -/
  stopAt : List Nat := []
  /-- TEMP and BAND of each channel before the normal round now sampled (R492) -/
  before : SMap (Nat × Nat) := []
  /-- causes of the orderly stop that have not ended; triggers that hold a start (R468, R501) -/
  causes : List StopCause := []
  holds  : List StopCause := []
  /-- device timestamp since which every valid diode channel has read below 100 °C (R502) -/
  coolSince : Option Nat := none
  deriving DecidableEq, Repr

structure Stack where
  /-- fields of the registers of region 0x8 by offset × 64 + lowest bit; an absent field has its reset value -/
  csr    : SMap Nat := []
  cache  : CacheSt := {}
  integ  : Integ := {}
  bureau : Bureau := {}
  map    : CoreMap := {}
  vcp    : Vcp := {}
  /-- the read-only page map (R110): device address / 64 KiB -/
  roPages : List Nat := []
  /-- by logical index -/
  cores  : SMap Core := []
  plan   : PlanSt := {}
  movers : SMap MovCh := []
  link   : LinkSt := {}
  /-- live sequence contexts by id (R226, R227) -/
  seqs   : SMap Seq := []
  /-- Cabinet W and Cabinet E -/
  cabs   : Duo Cab := ⟨{}, {}⟩
  power  : PowerSt := {}
  therm  : ThermSt := {}
  deriving DecidableEq, Repr

/-! ## The machine -/

/-- The forms of a start (Table RG-5). -/
inductive StartForm where
  | cold | warm | wake
  deriving DecidableEq, Repr

/-- Pins, and the start under way (spec/16_bring_up.md, spec/17_power.md, R552). -/
structure BootSt where
  /-- PERST_N is asserted -/
  perst    : Bool := false
  pwrGood  : Bool := true
  /-- VDD_AON is applied -/
  aon      : Bool := true
  /-- the start under way, if one is -/
  start    : Option StartForm := some .cold
  /-- start of the running stage, in µs from t = 0 -/
  stageUs  : Nat := 0
  /-- subordinate stacks whose report of the end of the running stage has reached the primary (R457, R459) -/
  reports  : List Nat := []
  /-- blocks of the firmware image received, by stack (R458) -/
  blocks   : SMap Nat := []
  /-- stacks that have left the start (R457) -/
  left     : List Nat := []
  /-- boot counter B, which the cold start of State.reset has raised once (R460) -/
  bootCount : Nat := 1
  /-- ns of the RTC since VDD_AON was applied, and at step 7 of the entry to Stop (R490, R513) -/
  rtc      : Nat := 0
  rtcStop  : Nat := 0
  /-- the next step of Table PW-6 -/
  wakeStep : Nat := 0
  /-- stacks whose saved spare maps failed their check: stages 2 and 3 of the wake build them as a cold start does (R486) -/
  remake   : List Nat := []
  /-- read offset of the I3C status window of each stack (R546) -/
  i3c      : Quad Nat := ⟨0, 0, 0, 0⟩
  /-- instruction in effect in the TAP of each stack (R555) -/
  taps     : Quad Nat := ⟨0xFF, 0xFF, 0xFF, 0xFF⟩
  deriving DecidableEq, Repr

structure Mach where
  stackSet : Quad Stack := ⟨{}, {}, {}, {}⟩
  /-- SRAM by device address: region 0x0 cells (placed, cache and reserved slices), 0x1 local memories, 0x2 accumulators -/
  mem    : Mem := {}
  /-- the LPDDR5X tiers by device address of region 0x4; poison forms here are the poison directory (R395) -/
  tier   : Mem := {}
  /-- host memory by host bus address -/
  hostMem : Mem := {}
  host   : HostSt := {}
  boot   : BootSt := {}
  /-- messages sent and not yet arrived, oldest first -/
  wire   : List Msg := []
  /-- how many free values have been taken: the model's own field, log entry 5 -/
  freeIx : Nat := 0
  deriving DecidableEq, Repr

/-- Why a step stops with a fault. -/
inductive Fault where
  /-- Raised by every command that names a stack the part does not have (R8, R516). Safe: the part has no such unit. -/
  | noSuchStack (stack : Nat)
  deriving DecidableEq, Repr

/-- Why a step is refused. -/
inductive Refusal where
  /-- Raised by an arm of the dispatch whose command has no meaning yet. Safe. -/
  | notModelled (mnemonic : String)
  deriving DecidableEq, Repr

/-- The state: what is fused, the machine, and the commands that wait, first in first out. -/
structure State where
  fuse    : Fuse := {}
  m       : Mach := {}
  pending : List Instr := []
  deriving DecidableEq, Repr

/-- The part right after reset, no command waiting. -/
def State.reset : State := {}

end Sys2Proof.Machine
end

