-- ==== Sys2Proof/Machine/Csr.lean ====
section
/-! DEFINITION. Reading and writing the fields of the registers of region 0x8 (R17, R18, R520 to R522). -/

namespace Sys2Proof.Machine

/-- How many stacks a part has (Table SC-1). -/
def Part.stackCount : Part → Nat
  | .S => 1
  | .D => 2
  | .Q => 4

/-- The offset of instance i of a register in region 0x8 (R521). -/
def RegDef.off (r : RegDef) (i : Nat) : Nat := r.base + i / r.inner * r.outer + i % r.inner * r.stride

/-- Where instance i of a field is held. -/
def Fld.key (f : Fld) (i : Nat) : Nat := f.reg.off i * 64 + f.lo

/-- The reset value of a field (R18): of instance i on stack s. -/
def Fld.resetAt (f : Fld) (s i : Nat) : Nat :=
  match f.rst with
  | .const n => n
  | .physId => i
  | .stackNo => s
  | .cacheBay => if i = 0 then 0x2D4 else 0x2E6
  | .primary => if s = 0 then 1 else 0
  | .target => [200, 400, 300, 2000].getD i 0
  | .warn => if i < 48 then 0x02D0 else if i < 56 then 0x7FFF else 0
  | .throttle => if i < 48 then 0x0320 else if i < 56 then 0x7FFF else 0
  | .beta => if 48 ≤ i ∧ i < 56 then 0x0D6B else 0
  | .fused => 0

/-- Stack s of the machine. -/
def Mach.stk (m : Mach) (s : Nat) : Stack := m.stackSet.get {} s

/-- The machine with stack s changed. -/
def Mach.updStk (m : Mach) (s : Nat) (f : Stack → Stack) : Mach := { m with stackSet := m.stackSet.modify f s }

/-- The value of a field: instance i on stack s. -/
def Mach.getF (m : Mach) (s : Nat) (f : Fld) (i : Nat := 0) : Nat :=
  SMap.getD (m.stk s).csr (f.key i) (f.resetAt s i)

/-- The machine with a field set, its value cut to the field's width. -/
def Mach.setF (m : Mach) (s : Nat) (f : Fld) (v : Nat) (i : Nat := 0) : Mach :=
  m.updStk s (fun k => { k with csr := SMap.put k.csr (f.key i) (v % 2 ^ f.width) })

/-- A one-bit field as a truth value. -/
def Mach.getB (m : Mach) (s : Nat) (f : Fld) (i : Nat := 0) : Bool := m.getF s f i ≠ 0

/-- A counter field increased by n, saturating at its largest value. -/
def Mach.bumpF (m : Mach) (s : Nat) (f : Fld) (i : Nat := 0) (n : Nat := 1) : Mach :=
  m.setF s f (satAdd f.width (m.getF s f i) n) i

/-- A field returned to its reset value. -/
def Mach.resetF (m : Mach) (s : Nat) (f : Fld) (i : Nat := 0) : Mach :=
  m.updStk s (fun k => { k with csr := SMap.erase k.csr (f.key i) })

/-- Every field whose register offset lies in [lo, hi) returned to its reset value (Table RG-6 "Reset"), but for those that
`keep` names by offset × 64 + lowest bit. -/
def Mach.resetRange (m : Mach) (s lo hi : Nat) (keep : Nat → Bool := fun _ => false) : Mach :=
  m.updStk s (fun k => { k with csr := k.csr.filter (fun e => e.1 < lo * 64 || hi * 64 ≤ e.1 || keep e.1) })

/-- Every register of region 0x8 with its fields. -/
def Reg.index : List (RegDef × List Fld) := Reg.index1 ++ Reg.index2 ++ Reg.index3

/-- The instance of register r that lies at offset o, if one does. -/
def RegDef.instanceAt (r : RegDef) (o : Nat) : Option Nat :=
  if o < r.base then none
  else
    let d := o - r.base
    let i := (if r.outer = 0 then 0 else d / r.outer * r.inner) +
      (if r.stride = 0 then 0 else (if r.outer = 0 then d else d % r.outer) / r.stride)
    if r.off i = o ∧ i < r.count then some i else none

/-- The register that lies at offset o of region 0x8, its fields and its instance (R520). -/
def Reg.find (o : Nat) : Option (RegDef × List Fld × Nat) :=
  Reg.index.findSome? (fun e => (e.1.instanceAt o).map (fun i => (e.1, e.2, i)))

end Sys2Proof.Machine
end

