-- ==== Sys2Proof/Machine/Mem.lean ====
section
/-! DEFINITION. The storage code and poison (spec/11_integrity.md, R303 to R314): reads and writes of a memory. -/

namespace Sys2Proof.Machine

/-- The canonical form of a list of cells: addresses strictly rising, no cell equal to the unlisted byte 0. -/
def Cells.wf : List Host.Cell → Bool
  | [] => true
  | [c] => c.2 != 0
  | c :: d :: r => c.2 != 0 && decide (c.1 < d.1) && Cells.wf (d :: r)

/-- The byte at an address; an unlisted address reads as 0. -/
def Cells.get : List Host.Cell → Nat → Byte
  | [], _ => 0
  | c :: r, a => if c.1 = a then c.2 else Cells.get r a

/-- A cell put in front, unless its byte is the unlisted one. -/
def Cells.cons (a : Nat) (b : Byte) (r : List Host.Cell) : List Host.Cell := if b = 0 then r else (a, b) :: r

/-- The cells with byte b at address a, in canonical form. -/
def Cells.set : List Host.Cell → Nat → Byte → List Host.Cell
  | [], a, b => Cells.cons a b []
  | c :: r, a, b =>
    if c.1 = a then Cells.cons a b r
    else if a < c.1 then Cells.cons a b (c :: r)
    else c :: Cells.set r a b

/-- The cells without those at addresses lo to hi - 1. -/
def Cells.clear (l : List Host.Cell) (lo hi : Nat) : List Host.Cell := l.filter (fun c => c.1 < lo || hi ≤ c.1)

/-- The canonical form of a memory: of its data and of its syndromes. -/
def Mem.wf (m : Mem) : Bool := Cells.wf m.data && Cells.wf m.syn

/-- XOR of the even-numbered bits of a number (bits 0, 2, ... 62). -/
def xorEven (n : Nat) : Bool := (List.range 32).foldl (fun p i => p ^^ bit n (2 * i)) false

/-- XOR of the odd-numbered bits of a number (bits 1, 3, ... 63). -/
def xorOdd (n : Nat) : Bool := (List.range 32).foldl (fun p i => p ^^ bit n (2 * i + 1)) false

/-- The two check bits, c1 c0, of a byte at check address A (R304). -/
def checkBits (A : Nat) (d : Byte) : BitVec 2 :=
  BitVec.ofNat 2 ((xorEven d.toNat ^^ xorEven A).toNat + 2 * (xorOdd d.toNat ^^ xorOdd A).toNat)

/-- What a flip of data cells does to the computed check bits: they are linear in the data (R304). -/
def dataParity (d : Byte) : BitVec 2 := BitVec.ofNat 2 ((xorEven d.toNat).toNat + 2 * (xorOdd d.toNat).toNat)

namespace Mem

/-- The data cells of the byte at a. -/
def byte (m : Mem) (a : Nat) : Byte := Cells.get m.data a

/-- The syndrome of the byte at a: 0 passes the check. -/
def syndrome (m : Mem) (a : Nat) : Nat := (Cells.get m.syn a).toNat % 4

/-- The byte at a with data d and syndrome y. -/
def put (m : Mem) (a : Nat) (d : Byte) (y : Nat) : Mem :=
  { data := Cells.set m.data a d, syn := Cells.set m.syn a (BitVec.ofNat 8 (y % 4)) }

/-- An ordinary write of one byte: data with correct check bits. -/
def putByte (m : Mem) (a : Nat) (d : Byte) : Mem := m.put a d 0

/-- One byte in poison form of kind k (R308): data 0xB0 + k, both check bits inverted. -/
def putPoison (m : Mem) (a k : Nat) : Mem := m.put a (BitVec.ofNat 8 (0xB0 + k)) 3

/-- A disturbance of the cells of one byte (R306). -/
def disturb (m : Mem) (u : Upset) : Mem :=
  m.put u.addr (m.byte u.addr ^^^ u.data)
    ((BitVec.ofNat 2 (m.syndrome u.addr) ^^^ u.check ^^^ dataParity u.data).toNat)

/-- The memory as a misaddressed read sees it (R306): the byte at a is delivered from address b, with the check bits that are stored there. No command of
the table brings such a read about, so it is one of the states that a read meets, as an upset is. -/
def misread (m : Mem) (a b : Nat) : Mem :=
  m.put a (m.byte b) ((checkBits a (m.byte b) ^^^ checkBits b (m.byte b) ^^^ BitVec.ofNat 2 (m.syndrome b)).toNat)

/-- The kind of a byte in poison form, or none (R308, Table IN-2: kinds 1 to 5). -/
def poisonForm (m : Mem) (a : Nat) : Option Nat :=
  let d := (m.byte a).toNat
  if m.syndrome a = 3 ∧ 0xB1 ≤ d ∧ d ≤ 0xB5 then some (d - 0xB0) else none

/-- Every address of the granule of 8 bytes that holds a (R308). -/
def granule (a : Nat) : List Nat := (List.range 8).map (fun i => a / 8 * 8 + i)

/-- Whether some byte of the granule fails its check and is not in poison form (R309, third case). -/
def detects (m : Mem) (a : Nat) : Bool :=
  (granule a).any (fun b => m.syndrome b ≠ 0 && (m.poisonForm b).isNone)

/-- The poison kind of the granule that holds a, 0 when it is clean (R309). -/
def kindAt (m : Mem) (a : Nat) : Nat :=
  let forms := (granule a).filterMap (fun b => m.poisonForm b)
  match forms with
  | [] => if m.detects a then 1 else 0
  | k :: _ => if forms.length = 8 ∧ forms.all (· = k) then k else 1

/-- The class of the chunk at a as a core receives it (R309 with the change of R314): its poison kind, and whether it is a detected error of its group.
A chunk in which bytes in poison form stand beside others is one: such a byte fails its check there (DEDUCED, log entry 122). -/
def portClass (m : Mem) (a : Nat) : Nat × Bool :=
  let forms := (granule a).filterMap (fun b => m.poisonForm b)
  match [1, 2, 3, 4, 5].find? (fun k => decide (5 ≤ forms.count k)) with
  | some k => (k, decide (forms.count k < 8))
  | none => if forms ≠ [] ∨ m.detects a then (2, true) else (0, false)

/-- The byte at a as a read delivers it: its granule's poison with it, and a poisoned byte's value zero (R308, R309). -/
def readByte (m : Mem) (a : Nat) : PByte :=
  let k := m.kindAt a
  if k = 0 then ⟨m.byte a, 0⟩ else ⟨0, k⟩

/-- n bytes from a. -/
def read (m : Mem) (a n : Nat) : List PByte := (List.range n).map (fun i => m.readByte (a + i))

/-- Whether a read of n bytes from a raises a detection. -/
def readDetects (m : Mem) (a n : Nat) : Bool := (List.range n).any (fun i => m.detects (a + i))

/-- A whole granule in poison form. -/
def poisonGranule (m : Mem) (a k : Nat) : Mem := (granule a).foldl (fun m b => m.putPoison b k) m

/-- Memory with the addresses lo to hi - 1 zeroed. -/
def clear (m : Mem) (lo hi : Nat) : Mem := { data := Cells.clear m.data lo hi, syn := Cells.clear m.syn lo hi }

end Mem

/-- The rank of a poison kind (Table IN-2): the granule takes the kind of lowest rank. -/
def poisonRank (k : Nat) : Nat := if k = 4 then 1 else if k = 5 then 2 else if k = 1 then 3 else if k = 2 then 4 else if k = 3 then 5 else 9

/-- The kind that two kinds written into one granule leave (R307); 0 is none. -/
def poisonJoin (k l : Nat) : Nat :=
  if k = 0 then l else if l = 0 then k else if poisonRank k ≤ poisonRank l then k else l

/-- The kind that bytes joined together carry. -/
def PByte.joined (bs : List PByte) : Nat := bs.foldl (fun k b => poisonJoin k b.poison) 0

/-- Unpoisoned bytes. -/
def PByte.clean (bs : List Byte) : List PByte := bs.map (fun b => ⟨b, 0⟩)

/-- The values of bytes. -/
def PByte.vals (bs : List PByte) : List Byte := bs.map PByte.val

/-- The number that bytes hold, least significant first. -/
def PByte.num (bs : List PByte) : Nat := ofLeBytes (PByte.vals bs)

/-- The kind written into granule g by bytes bs stored from a. -/
def granuleKind (a : Nat) (bs : List PByte) (g : Nat) : Nat :=
  (bs.zipIdx).foldl (fun k e => if (a + e.2) / 8 = g then poisonJoin k e.1.poison else k) 0

namespace Mem

/-- The bytes bs written from a (R310): clean bytes as ordinary bytes, then every granule that a poisoned byte touches whole in
poison form. -/
def write (m : Mem) (a : Nat) (bs : List PByte) : Mem :=
  let m1 := (bs.zipIdx).foldl (fun m e => if e.1.poison = 0 then m.putByte (a + e.2) e.1.val else m) m
  if bs.all (·.poison = 0) then m1
  else
    (List.range ((a + bs.length - 1) / 8 - a / 8 + 1)).foldl
      (fun m i =>
        let g := a / 8 + i
        let k := granuleKind a bs g
        if k = 0 then m else m.poisonGranule (8 * g) k) m1

/-- Clean bytes written from a. -/
def writeBytes (m : Mem) (a : Nat) (bs : List Byte) : Mem :=
  (bs.zipIdx).foldl (fun m e => m.putByte (a + e.2) e.1) m

/-- The n bytes from a as values (a poisoned byte's value is zero). -/
def vals (m : Mem) (a n : Nat) : List Byte := PByte.vals (m.read a n)

end Mem

end Sys2Proof.Machine
end

