-- ==== Sys2Proof/Machine/Ops.lean ====
section
/-! DEFINITION. The operations every family shares: how a meaning is run, free values, time, interrupt sources, logs, events,
MSI-X messages and claims (spec/13, spec/14, spec/15). -/

namespace Sys2Proof.Machine

/-- What a meaning answers. -/
abbrev Out := Host.Outcome State Fault Refusal

/-- A meaning that works on the machine alone: the queue and what is fused stay as they are. -/
def onMach (s : State) (f : Fuse → Mach → Mach) : Out := .next { s with m := f s.fuse s.m }

/-- A meaning at a stack of the part; a stack the part does not have stops with a fault (R8). -/
def onStack (s : State) (k : Nat) (f : Fuse → Mach → Mach) : Out :=
  if k < s.fuse.part.stackCount then onMach s f else .fault (.noSuchStack k)

/-! ## Positions (R21, R22, R262) -/

/-- Row of a position. -/
def posRow (p : Nat) : Nat := p / 36
/-- Column of a position. -/
def posCol (p : Nat) : Nat := p % 36
/-- The half of a position or bay: 0 west, 1 east. -/
def posHalf (p : Nat) : Nat := if p % 36 < 18 then 0 else 1
/-- The rank of a bay within its half (R262). -/
def bayRank (b : Nat) : Nat := b / 36 * 18 + b % 36 % 18
/-- The bay of a rank of a half (R262). -/
def rankBay (half r : Nat) : Nat := r / 18 * 36 + half * 18 + r % 18

/-! ## Free values -/

/-- A fresh value of w bits that nothing constrains, and the machine with the counter advanced (log entry 5). -/
def Mach.fresh (m : Mach) (w : Nat) : Nat × Mach := ((Config.free m.freeIx).toNat % 2 ^ w, { m with freeIx := m.freeIx + 1 })

/-! ## Time (R533) -/

/-- The device timestamp of stack s, in ns. -/
def Mach.now (m : Mach) (s : Nat) : Nat := m.getF s Reg.AON_TIMESTAMP_NS

/-! ## Bureau and plan states read everywhere -/

/-- A plan is LOADED or RUNNING on stack s (BUR_PLAN_STATE). -/
def Mach.planOn (m : Mach) (s : Nat) : Bool :=
  let st := m.getF s Reg.BUR_PLAN_STATE_STATE
  st = 1 || st = 2

/-- A plan is RUNNING on stack s. -/
def Mach.planRunning (m : Mach) (s : Nat) : Bool := m.getF s Reg.BUR_PLAN_STATE_STATE = 2

/-- The part is in device Stop or wakes and its Bureau is still in reset, or the Bureau restarts: the Bureau island's clock is stopped
(R438, R488). -/
def Mach.bureauClockStopped (m : Mach) (s : Nat) : Bool :=
  m.getF 0 Reg.AON_WAKE_STATUS_STATE = 2 || (m.getF 0 Reg.AON_WAKE_STATUS_STATE = 3 && m.getF s Reg.BUR_STATUS_SERVICE = 5) || (m.stk s).bureau.restarting || m.getB s Reg.BUR_STATUS_HALTED

/-! ## Interrupt sources (R434, R437, R438) -/

/-- A rising edge that reaches the interrupt controller (R434). -/
def Mach.srcEdgeNow (m : Mach) (s src : Nat) : Mach :=
  if m.getB s Reg.INTC_SRC_CFG_PENDING src then m.bumpF s Reg.INTC_SRC_CFG_MERGES src
  else m.setF s Reg.INTC_SRC_CFG_PENDING 1 src

/-- A rising edge of the cause of source src on stack s: pending, merged, or caught by its latch (R434, R438). Source 1,023 is
tied inactive (R433). -/
def Mach.srcEdge (m : Mach) (s src : Nat) : Mach :=
  if src ≥ 1023 then m
  else if m.bureauClockStopped s then
    if src ∈ (m.stk s).bureau.latches then m.bumpF s Reg.INTC_STATUS_LATCH_MERGES
    else m.updStk s (fun k => { k with bureau := { k.bureau with latches := k.bureau.latches ++ [src] } })
  else m.srcEdgeNow s src

/-- The source of the row-half that core p belongs to (Table EV-1). -/
def coreSource (p : Nat) : Nat := 32 + 2 * posRow p + posHalf p

/-- Core p raises a cause: its bit in INTC_CORE_PENDING and an edge of its row-half's source (R437). -/
def Mach.coreCause (m : Mach) (s p : Nat) : Mach :=
  let i := 2 * posRow p + posHalf p
  let v := m.getF s Reg.INTC_CORE_PENDING_CORES i
  (m.setF s Reg.INTC_CORE_PENDING_CORES (putBit v (posCol p % 18) true) i).srcEdge s (coreSource p)

/-- Whether a cause flag of core p is set: a recorded fault, a stalled barrier, an array fault, a wrapped counter, a watchdog's
test (Table EV-1, R437). -/
def Mach.coreCauseSet (m : Mach) (s p : Nat) : Bool :=
  m.getB s Reg.CORE_FAULT_INFO_VALID p || m.getB s Reg.CORE_BAR_STATUS_STALL p ||
  (m.getB s Reg.CORE_MX_LAST_VALID p && m.getB s Reg.CORE_MX_LAST_KIND p) || m.getB s Reg.CORE_MX_ROWS_OVF p ||
  m.getB s Reg.CORE_INTEGRITY_STALLED p || m.getF s Reg.CORE_DUAL_STATUS_MISMATCHES p ≠ 0

/-- A core bit clears when every cause flag of that core is clear (R437). -/
def Mach.coreCauseSettle (m : Mach) (s p : Nat) : Mach :=
  let i := 2 * posRow p + posHalf p
  if m.coreCauseSet s p then m
  else m.setF s Reg.INTC_CORE_PENDING_CORES (putBit (m.getF s Reg.INTC_CORE_PENDING_CORES i) (posCol p % 18) false) i

/-! ## Logs (R427, R428) -/

/-- An entry added at the front of a ring of n entries, the oldest overwritten. -/
def ringPush {α : Type} (n : Nat) (l : List α) (x : α) : List α := (x :: l).take n

/-- An entry entered in the change log of stack s (R427); serial and time are filled in here. -/
def Mach.logChange (m : Mach) (s : Nat) (e : ChangeEntry) : Mach :=
  let n := m.getF s Reg.LOG_NEXT_SERIAL 0
  let lost := 16384 ≤ (m.stk s).bureau.changeLog.length ∧ (m.stk s).bureau.logRead.west + 16384 ≤ n
  let m1 := m.updStk s (fun k => { k with bureau := { k.bureau with
    changeLog := ringPush 16384 k.bureau.changeLog { e with time := m.now s, serial := n } } })
  let m2 := if lost then m1.bumpF s Reg.LOG_LOST_LOST 0 else m1
  m2.setF s Reg.LOG_NEXT_SERIAL (n + 1) 0

/-- An entry entered in the error log of stack s (R428). Units: 0 Bureau, 1 core, 2 half, 3 link, 4 mover channel, 5 Cabinet,
6 LPDDR5X, 7 PCIe. -/
def Mach.logError (m : Mach) (s code unit index addr : Nat) (detail : List Nat := []) : Mach :=
  let n := m.getF s Reg.LOG_NEXT_SERIAL 1
  let lost := 4096 ≤ (m.stk s).bureau.errLog.length ∧ (m.stk s).bureau.logRead.east + 4096 ≤ n
  let m1 := m.updStk s (fun k => { k with bureau := { k.bureau with
    errLog := ringPush 4096 k.bureau.errLog ⟨m.now s, n, code, s, unit, index, addr, detail⟩ } })
  let m2 := if lost then m1.bumpF s Reg.LOG_LOST_LOST 1 else m1
  m2.setF s Reg.LOG_NEXT_SERIAL (n + 1) 1

/-- A configuration change that the Bureau makes itself (R427): SOURCE BUREAU. -/
def Mach.logBureau (m : Mach) (s addr old new : Nat) : Mach :=
  m.logChange s ⟨0, 0, 3, 0, 0xFF, s, 0, addr, old, new⟩

/-- The fields of an instance of a register as the number that the register reads. -/
def Mach.regNow (m : Mach) (s : Nat) (l : List Fld) (i : Nat) : Nat := l.foldl (fun v x => v + m.getF s x i * 2 ^ x.lo) 0

/-- The Bureau has changed an instance of a register, from what machine m0 holds to what m holds (R427): its offset, the values before and after. -/
def Mach.bureauChange (m m0 : Mach) (s : Nat) (l : List Fld) (i : Nat := 0) : Mach :=
  m.logBureau s (((l.head?).map (fun f => f.reg.off i)).getD 0) (m0.regNow s l i) (m.regNow s l i)

/-- A host write to region 0x8 (R427): SOURCE HOST_BAR0, with REFUSED set when nothing changed by rule. -/
def Mach.logHost (m : Mach) (s addr old new : Nat) (refused : Bool := false) : Mach :=
  m.logChange s ⟨0, 0, 1, refused.toNat, 0xFF, s, 0, addr, old, new⟩

/-! ## Messages and events (R384, R423, R424) -/

/-- Vector v sends a message, or sets its pending bit while it is masked (R384). -/
def Mach.sendVector (m : Mach) (v : Nat) : Mach :=
  { m with host :=
    if v ∈ m.host.msixOpen then { m.host with msixSent := v :: m.host.msixSent }
    else if v ∈ m.host.msixPend then m.host
    else { m.host with msixPend := m.host.msixPend ++ [v] } }

/-- The vector of an event code (R424): 64 until EVENT_BIND binds another. -/
def Mach.eventVector (m : Mach) (code : Nat) : Nat := SMap.getD m.host.evBind code 64

/-- A ring entry as its 64 bytes (R414, R423). -/
def eventBytes (e : Event) (serial : Nat) : List Byte :=
  leBytes 1 2 ++ leBytes 1 3 ++ leBytes 2 e.code ++ leBytes 2 serial ++ leBytes 2 e.status ++ leBytes 4 32 ++
  leBytes 1 e.stack ++ leBytes 3 0 ++ leBytes 8 0 ++ leBytes 8 e.time ++
  leBytes 8 (e.args.getD 0 0) ++ leBytes 8 (e.args.getD 1 0) ++ leBytes 8 (e.args.getD 2 0) ++ leBytes 8 (e.args.getD 3 0)

/-- Entries of the event ring that the host has not consumed. -/
def Mach.ringUsed (m : Mach) : Nat :=
  (m.getF 0 Reg.MBX_EVT_HEAD_HEAD + 2 ^ 32 - m.getF 0 Reg.MBX_EVT_TAIL_TAIL) % 2 ^ 32

/-- An event written into the ring: entry n at index n mod 4,096, then HEAD, then the vector (R423). -/
def Mach.ringWrite (m : Mach) (e : Event) : Mach :=
  let n := m.getF 0 Reg.MBX_EVT_HEAD_HEAD
  let m1 := { m with host := { m.host with
    bar2 := m.host.bar2.writeBytes (0x8_0000 + n % 4096 * 64) (eventBytes e m.host.evSerial)
    evSerial := m.host.evSerial + 1 } }
  (m1.setF 0 Reg.MBX_EVT_HEAD_HEAD (n + 1)).sendVector (m.eventVector e.code)

/-- Free ring room takes one EVENT_LOST when events were dropped, an event in the error log too, then the queued events in order (R424). -/
def Mach.drainEvents : Nat → Mach → Mach
  | 0, m => m
  | fuel + 1, m =>
    if m.ringUsed ≥ 4096 then m
    else if m.host.evLost > 0 then
      Mach.drainEvents fuel
        (({ m with host := { m.host with evLost := 0 } }.logError 0 0 0 0 0 [0x13, m.host.evLost]).ringWrite ⟨0x13, 0, 0, [m.host.evLost], m.now 0⟩)
    else
      match m.host.evQueue with
      | [] => m
      | e :: r =>
        let m1 := { m with host := { m.host with evQueue := r } }
        Mach.drainEvents fuel ((m1.ringWrite e).setF 0 Reg.MBX_EVT_STATUS_QUEUED r.length)

/-- The Bureau of stack s reports an event with a STACK byte (R423, R424): the error log, and the ring, the queue of 1,024 or the count of
lost events. -/
def Mach.eventAs (m : Mach) (s tag code : Nat) (args : List Nat) (status : Nat) : Mach :=
  let e : Event := ⟨code, status, tag, args, m.now s⟩
  let m := m.logError s status 0 0 0 (code :: args)
  if m.ringUsed < 4096 ∧ m.host.evQueue = [] ∧ m.host.evLost = 0 then m.ringWrite e
  else if m.host.evQueue.length < 1024 then
    ({ m with host := { m.host with evQueue := m.host.evQueue ++ [e] } }).setF 0 Reg.MBX_EVT_STATUS_QUEUED
      (m.host.evQueue.length + 1)
  else
    (({ m with host := { m.host with evLost := m.host.evLost + 1 } }).bumpF 0 Reg.MBX_EVT_STATUS_LOST).setF 0
      Reg.MBX_EVT_STATUS_OVERFLOW 1

/-- An event of stack s. -/
def Mach.event (m : Mach) (s code : Nat) (args : List Nat := []) (status : Nat := 0) : Mach := m.eventAs s s code args status

/-- An event of the whole part, STACK 0xFF (R465). -/
def Mach.partEvent (m : Mach) (code : Nat) (args : List Nat) : Mach := m.eventAs 0 0xFF code args 0

/-- An AER condition reported by the endpoint (R383): 1 Poisoned TLP Received, 2 Received UR, 3 Received CA, 4 Completion
Timeout. -/
def Mach.aer (m : Mach) (c : Nat) : Mach := { m with host := { m.host with aer := c :: m.host.aer } }

/-- The counter `ovf` of a register wrapped: its flag, the event COUNTER_OVERFLOW with the register's offset, and source src. -/
def Mach.counterWrapped (m : Mach) (s : Nat) (ovf : Fld) (i src : Nat) : Mach :=
  ((m.setF s ovf 1 i).srcEdge s src).event s 0x11 [ovf.reg.off i]

/-! ## Owner records (R448 to R451) -/

/-- What a claim answers. -/
inductive Claim where
  /-- the record was free, or the claim continues the owner's use -/
  | taken
  /-- the claim preempted a use of weaker class, which ends as Table EV-8 states -/
  | preempted
  | refused
  deriving DecidableEq, Repr

/-- How a claim of class c by owner o on record r of stack s ends (R450). -/
def Mach.claimKind (m : Mach) (s r o c : Nat) : Claim :=
  let ow := m.getF s Reg.REG_OWNER_OWNER r
  let cl := m.getF s Reg.REG_OWNER_CLASS r
  if ow = 0 then .taken
  else if ow = o ∧ cl = c then .taken
  else if c < cl then .preempted
  else .refused

/-- The machine after the claim: the record with the new owner and class, or its count of refusals (R448, R450). -/
def Mach.claim (m : Mach) (s r o c : Nat) : Mach :=
  match m.claimKind s r o c with
  | .taken => (m.setF s Reg.REG_OWNER_OWNER o r).setF s Reg.REG_OWNER_CLASS c r
  | .preempted =>
    ((m.bumpF s Reg.REG_OWNER_PREEMPTED r).setF s Reg.REG_OWNER_OWNER o r).setF s Reg.REG_OWNER_CLASS c r
  | .refused => m.bumpF s Reg.REG_OWNER_REFUSED r

/-- The record is freed when the use ends (R448). -/
def Mach.release (m : Mach) (s r : Nat) : Mach :=
  (m.setF s Reg.REG_OWNER_OWNER 0 r).setF s Reg.REG_OWNER_CLASS 0 r

/-! ## Doing something on each stack -/

/-- f applied on stacks 0 to n - 1 in ascending order. -/
def Mach.onStacks (m : Mach) (n : Nat) (f : Mach → Nat → Mach) : Mach := (List.range n).foldl f m

/-- The priority of a real-time master's requests (R441): BASE at level 0, then max(BASE, 5), 6 and 7. -/
def classPriority (base level : Nat) : Nat :=
  let b := if base = 0 then 1 else base
  if level = 0 then b else if level = 1 then max b 5 else if level = 2 then 6 else 7

/-- How many of the thresholds 50%, 75% and 90% of `cap` the level v has reached (R441). -/
def levelOf (v cap : Nat) : Nat :=
  (if 2 * v ≥ cap then 1 else 0) + (if 4 * v ≥ 3 * cap then 1 else 0) + (if 10 * v ≥ 9 * cap then 1 else 0)

/-- n bytes that the spec does not state, as a read of an address that holds none returns them. -/
def Mach.openBytes (m : Mach) : Nat → Mach × List PByte
  | 0 => (m, [])
  | n + 1 =>
    let r := m.openBytes n
    let f := r.1.fresh 8
    (f.2, r.2 ++ [⟨BitVec.ofNat 8 f.1, 0⟩])

end Sys2Proof.Machine
end

