-- ==== Sys2Proof/Machine/Access.lean ====
section
/-! DEFINITION. The device address (R515 to R519), what lies at it, and accesses at the home of their bytes through the cache
partition (spec/09_cache_die.md, R104, R268 to R277, R386 to R396). -/

namespace Sys2Proof.Machine

/-! ## Addresses -/

/-- The stack field of a device address. -/
def daStack (a : Nat) : Nat := a / 2 ^ 50 % 4
/-- The region field. -/
def daRegion (a : Nat) : Nat := a / 2 ^ 46 % 16
/-- The offset field. -/
def daOff (a : Nat) : Nat := a % 2 ^ 46
/-- The device address of an offset of a region of a stack (R515). -/
def devAddr (s r o : Nat) : Nat := s * 2 ^ 50 + r * 2 ^ 46 + o

/-- The bridge port of stack s that joins stack t in a part with n stacks (Table AR-6). -/
def bridgePort (n s t : Nat) : Option Nat :=
  match n, s, t with
  | 2, 0, 1 => some 0
  | 2, 1, 0 => some 0
  | 4, 0, 1 => some 0
  | 4, 0, 2 => some 1
  | 4, 1, 3 => some 0
  | 4, 1, 0 => some 1
  | 4, 2, 0 => some 0
  | 4, 2, 3 => some 1
  | 4, 3, 2 => some 0
  | 4, 3, 1 => some 1
  | _, _, _ => none

/-- The stacks that traffic from a to b passes, a and b among them (R38): stacks 0 and 3 through 1, stacks 1 and 2 through 0. -/
def bridgeStacks (a b : Nat) : List Nat :=
  if a = b then [a]
  else if a + b = 3 then (if a = 0 ∨ a = 3 then [a, 1, b] else [a, 0, b])
  else [a, b]

/-- The bridge ports on the path from stack a to stack b, as (stack, port): both ends of each crossing (R38, R363). -/
def bridgePath (n a b : Nat) : List (Nat × Nat) :=
  let l := bridgeStacks a b
  (l.zip (l.drop 1)).flatMap (fun e =>
    ((bridgePort n e.1 e.2).map (fun p => (e.1, p))).toList ++ ((bridgePort n e.2 e.1).map (fun p => (e.2, p))).toList)

/-- The bridge link of a port that traffic of bridge link index i crosses: link i, or the next in ascending index modulo 4 that has not failed (R363,
R364); none when all four have failed. A transfer of the router with physical id p has index p mod 4, and a stack that forwards it keeps the index. -/
def Mach.bridgeUsed (m : Mach) (s port i : Nat) : Option Nat :=
  ((List.range 4).map (fun k => (i + k) % 4)).find? (fun b => m.getF s Reg.LNK_BRIDGE_STATUS_STATE (4 * port + b) ≠ 5)

/-- All four bridge links of a port have failed (R364). -/
def Mach.portFailed (m : Mach) (s port : Nat) : Bool := (m.bridgeUsed s port 0).isNone

/-- Traffic from stack a to stack b of a part with n stacks has no path: a port of the fixed route has failed (R38, R364). -/
def Mach.cut (m : Mach) (n a b : Nat) : Bool := (bridgePath n a b).any (fun e => m.portFailed e.1 e.2)

/-- Whether position p is a chrysalis position (Table AR-2). -/
def isChrysalis (p : Nat) : Bool := posRow p % 3 = 1 && (posCol p = 4 || posCol p = 13 || posCol p = 22 || posCol p = 31)

/-- Local memory of the slot of home position p, offset o. -/
def localAddr (s p o : Nat) : Nat := devAddr s 1 (p * 0x10_0000 + o)
/-- Accumulator memory of the slot of home position p, offset o. -/
def accAddr (s p o : Nat) : Nat := devAddr s 2 (p * 0x4_0000 + o)

/-- What lies at a device address. -/
inductive Place where
  | placed | cacheSlice | reserved | beyond
  | localMem (slot : Nat) | accMem (slot : Nat)
  | tier | fwArea | window
  | reg | bureau | unmapped
  deriving DecidableEq, Repr

/-- The cache count in effect in a half (R266). -/
def Mach.cacheCount (m : Mach) (s half : Nat) : Nat := m.getF s Reg.CDIE_PART_STATUS_CACHE_NOW half

/-- What kind of slice an offset of region 0x0 lies in (R265, R266, R268), cache counts given. -/
def sliceKind (cw ce off : Nat) : Place :=
  if off ≥ 0x6C00_0000 then .beyond
  else
    let b := off / 0x20_0000
    let sl := off % 0x20_0000 / 0x2_0000
    let r := bayRank b
    let c := if posHalf b = 0 then cw else ce
    if r ≥ 416 then (if sl ≥ 8 then .reserved else .placed)
    else if r ≥ 26 * (16 - c) then (if sl ≥ 4 then .cacheSlice else .placed)
    else .placed

/-- Installed tier capacity of a stack in bytes (Table HM-4): 32 channels of 1, 2 or 4 GiB. -/
def Mach.tierBytes (m : Mach) (s : Nat) : Nat := 2 ^ 35 * 2 ^ (m.getF s Reg.LPD_CFG_CAPACITY)

/-- The slot of a home position is mapped (R30). -/
def Mach.slotMapped (m : Mach) (s p : Nat) : Bool := p < 864 && !isChrysalis p && !((m.stk s).map.removed.contains p)

/-- What lies at a device address of a part with n stacks (Table RG-1, R516). -/
def Mach.place (m : Mach) (n a : Nat) : Place :=
  let s := daStack a
  let o := daOff a
  if a ≥ 2 ^ 52 ∨ s ≥ n then .unmapped
  else
    match daRegion a with
    | 0 => sliceKind (m.cacheCount s 0) (m.cacheCount s 1) o
    | 1 => if o % 0x10_0000 < 0x8_0000 ∧ m.slotMapped s (o / 0x10_0000) then .localMem (o / 0x10_0000) else .unmapped
    | 2 => if o % 0x4_0000 < 0x2_0000 ∧ m.slotMapped s (o / 0x4_0000) then .accMem (o / 0x4_0000) else .unmapped
    | 4 =>
      if o ≥ 2 ^ 45 then .window
      else if m.getF s Reg.LPD_STATUS_STATE = 3 then .unmapped
      else if o < m.tierBytes s - 0x2000_0000 then .tier
      else if o < m.tierBytes s then .fwArea
      else .unmapped
    | 8 => if o < 0x0800_0000 then .reg else .unmapped
    | 15 => if o < 0x4_0000 ∨ (0x10_0000 ≤ o ∧ o < 0x20_0000) ∨ (0x20_0000 ≤ o ∧ o < 0x21_0000) then .bureau else .unmapped
    | _ => .unmapped

/-! ## The home of a line (R271) -/

/-- Where the home of a line lies: half, bay and set. -/
structure Home where
  half : Nat
  bay  : Nat
  set  : Nat
  deriving DecidableEq, Repr

/-- The home of the line with number L, cache counts given (R271). -/
def homeOf (cw ce L : Nat) : Home :=
  let x := (L ^^^ (L >>> 11) ^^^ (L >>> 23) ^^^ (L >>> 37)) % 2 ^ 32
  let n := 26 * (cw + ce)
  let j := x % n
  let set := x / n % 768
  if j < 26 * cw then ⟨0, rankBay 0 (26 * (16 - cw) + j), set⟩
  else ⟨1, rankBay 1 (26 * (16 - ce) + (j - 26 * cw)), set⟩

/-- The home of a line on stack s. -/
def Mach.home (m : Mach) (s L : Nat) : Home := homeOf (m.cacheCount s 0) (m.cacheCount s 1) L

/-- The device address of the cells of way w of a set of a bay: sets of 16 ways of 128 bytes in slices 4 to 15, ascending (R266,
R267; the order of ways within a set is the model's, log entry 6). -/
def cellAddr (s : Nat) (h : Home) (w : Nat) : Nat := devAddr s 0 (h.bay * 0x20_0000 + 0x8_0000 + h.set * 0x800 + w * 128)

/-- The resident line with number L. -/
def Mach.cline (m : Mach) (s L : Nat) : Option CLine := (m.stk s).cache.lines.find? (fun c => c.line = L)

/-- Whether the line has a dead-table entry (R277). -/
def Mach.isDead (m : Mach) (s L : Nat) : Bool := (m.stk s).cache.dead.contains L

/-- The cache state of stack s changed. -/
def Mach.updCache (m : Mach) (s : Nat) (f : CacheSt → CacheSt) : Mach := m.updStk s (fun k => { k with cache := f k.cache })

/-- The host address of a window offset (R386). -/
def Mach.windowAddr (m : Mach) (o : Nat) : Nat := m.getF 0 Reg.HOST_WIN_BASE_BASE * 2 ^ 45 + (o - 2 ^ 45)

/-- The backing bytes of line L of stack s: the tier, or host memory through the window (R270). -/
def Mach.backing (m : Mach) (s L : Nat) : List PByte :=
  if L * 128 ≥ 2 ^ 45 then PByte.clean ((List.range 128).map (fun i => m.hostMem.byte (m.windowAddr (L * 128) + i)))
  else m.tier.read (devAddr s 4 (L * 128)) 128

/-- The row of 256 bytes of SRAM that a region 0x0 offset lies in, as the INDEX of BUR_SKIPPER_LAST names it: bay, slice, row. -/
def rowIndex (off : Nat) : Nat := off / 0x20_0000 + off % 0x20_0000 / 0x2_0000 * 2 ^ 10 + off % 0x2_0000 / 256 * 2 ^ 14

/-- Two ranges share a byte. -/
def rangesMeet (a b : Nat × Nat) : Bool := decide (a.1 < b.1 + b.2) && decide (b.1 < a.1 + a.2)

/-- The device address of the first byte of a bay row. -/
def rowStart (s index : Nat) : Nat := devAddr s 0 (index % 2 ^ 10 * 0x20_0000 + index / 2 ^ 10 % 16 * 0x2_0000 + index / 2 ^ 14 * 256)

/-- The row of a core memory: physical core id, bank of 128 KiB, row. -/
def coreRowIndex (phys off : Nat) : Nat := phys + off / 0x2_0000 * 2 ^ 10 + off % 0x2_0000 / 256 * 2 ^ 14

/-! ## Detections (R315, R323) -/

/-- The integrity state of stack s changed, with BUR_SKIPPER_STATUS kept in step. -/
def Mach.updInteg (m : Mach) (s : Nat) (f : Integ → Integ) : Mach :=
  let m := m.updStk s (fun k => { k with integ := f k.integ })
  (m.setF s Reg.BUR_SKIPPER_STATUS_ACTIVE (m.stk s).integ.running.length).setF s Reg.BUR_SKIPPER_STATUS_QUEUED
    (m.stk s).integ.queue.length

/-- A detected error of a structure: its test is queued, counted when one is queued or running, or lost to a full queue. -/
def Mach.detect (m : Mach) (s kind index : Nat) : Mach :=
  let g := (m.stk s).integ
  let is (t : SkTest) : Bool := t.kind = kind && t.index = index
  let up (t : SkTest) : SkTest := if is t then { t with counted := t.counted + 1 } else t
  if g.running.any is ∨ g.queue.any is then m.updInteg s (fun g => { g with running := g.running.map up, queue := g.queue.map up })
  else if g.queue.length ≥ 1024 then m.bumpF s Reg.BUR_SKIPPER_STATUS_DROPPED
  else m.updInteg s (fun g => { g with queue := g.queue ++ [⟨kind, index, 0⟩] })

/-- The core that executes the index of home position p: the map register whose HOME is p, else the position itself. -/
def Mach.execCore (m : Mach) (s p : Nat) : Nat :=
  match (List.range 832).find? (fun L => m.getF s Reg.BUR_LOGICAL_MAP_HOME L = p) with
  | some L => m.getF s Reg.BUR_LOGICAL_MAP_EXEC L
  | none => p

/-- The structure of Table IN-5 whose row holds the SRAM cell at device address a, and its INDEX. -/
def Mach.rowOf (m : Mach) (a : Nat) : Nat × Nat :=
  match daRegion a with
  | 1 => (7, coreRowIndex (m.execCore (daStack a) (daOff a / 0x10_0000)) (daOff a % 0x10_0000))
  | 2 => (8, coreRowIndex (m.execCore (daStack a) (daOff a / 0x4_0000)) (daOff a % 0x4_0000))
  | _ => (1, rowIndex (daOff a))

/-- A detection put among others in ascending order of structure value and then INDEX (R323). -/
def detOrder (d : Nat × Nat) : List (Nat × Nat) → List (Nat × Nat)
  | [] => [d]
  | e :: r => if d.1 < e.1 ∨ (d.1 = e.1 ∧ d.2 ≤ e.2) then d :: e :: r else e :: detOrder d r

/-- Simultaneous detections on stack s, raised in the order of R323. -/
def Mach.detectSorted (m : Mach) (s : Nat) (l : List (Nat × Nat)) : Mach := (l.foldr detOrder []).foldl (fun m d => m.detect s d.1 d.2) m

/-- The granules of a read of n cells from a that fail, as the rows that they lie in (R309). -/
def Mach.failsIn (m : Mach) (a n : Nat) : List (Nat × Nat) :=
  ((List.range n).filter (fun i => ((a + i) % 8 = 0 || i = 0) && m.mem.detects (a + i))).map (fun i => m.rowOf (a + i))

/-- A read of n cells from a raises the detections of the rows that fail (R309, R315). -/
def Mach.detectRead (m : Mach) (a n : Nat) : Mach := m.detectSorted (daStack a) (m.failsIn a n)

/-- Whether the row of SRAM cell a is a failed row (R333). -/
def Mach.rowFailed (m : Mach) (a : Nat) : Bool :=
  daRegion a = 0 &&
    (m.stk (daStack a)).integ.failed.contains (daOff a / 0x20_0000, daOff a % 0x20_0000 / 0x2_0000, daOff a % 0x2_0000 / 256)

/-- Whether the row of SRAM cell a is under a running test (R320). -/
def Mach.rowTesting (m : Mach) (a : Nat) : Bool :=
  let r := m.rowOf a
  (m.stk (daStack a)).integ.running.any (fun t => t.kind = r.1 && t.index = r.2)

/-- A byte of SRAM as a read delivers it; a failed row reads as STORAGE poison (R333). -/
def Mach.sramByte (m : Mach) (a : Nat) : PByte := if m.rowFailed a then ⟨0, 1⟩ else m.mem.readByte a

/-- Bytes written to SRAM; a failed row drops writes (R333). -/
def Mach.sramWrite (m : Mach) (a : Nat) (bs : List PByte) : Mach :=
  if m.rowFailed a then m else { m with mem := m.mem.write a bs }

/-! ## Evicting, filling and writing back (R270, R272, R387, R394 to R396) -/

/-- The lines of stack s that the poison directory has an entry for (R395). -/
def Mach.poisonLines (m : Mach) (s : Nat) : List Nat :=
  ((m.tier.syn.filter (fun c => daStack c.1 = s)).map (fun c => daOff c.1 / 128)).eraseDups

/-- LPD_POISON_DIR kept in step: entries in use and lines held unevictable. -/
def Mach.syncPoisonDir (m : Mach) (s : Nat) : Mach :=
  (m.setF s Reg.LPD_POISON_DIR_ENTRIES (m.poisonLines s).length).setF s Reg.LPD_POISON_DIR_HELD
    ((m.stk s).cache.lines.filter (·.held)).length

/-- Whether a poisoned write of line L finds the directory full (R396). -/
def Mach.dirBlocks (m : Mach) (s L : Nat) (bs : List PByte) : Bool :=
  bs.any (·.poison ≠ 0) && !((m.poisonLines s).contains L) && decide (65536 ≤ (m.poisonLines s).length)

/-- The directory was found full: FULL, source 6 and POISON_DIR_FULL to the host (R396). -/
def Mach.dirFull (m : Mach) (s : Nat) : Mach := ((m.setF s Reg.LPD_POISON_DIR_FULL 1).srcEdge s 6).event s 0x0D

/-- The bytes of a resident line. -/
def Mach.lineBytes (m : Mach) (s : Nat) (c : CLine) : List PByte :=
  let a := cellAddr s (m.home s c.line) c.way
  (List.range 128).map (fun i => m.sramByte (a + i))

/-- A resident line changed. -/
def Mach.updLine (m : Mach) (s L : Nat) (f : CLine → CLine) : Mach :=
  m.updCache s (fun k => { k with lines := k.lines.map (fun c => if c.line = L then f c else c) })

/-- A dirty line copied to the tier: clean after it, or held when the poison directory is full (R272, R395, R396). Its cells are read, so an error
in them is detected (R315). -/
def Mach.writeback (m : Mach) (s : Nat) (c : CLine) : Mach :=
  if !c.dirty then m
  else
    let bs := m.lineBytes s c
    let m := m.detectRead (cellAddr s (m.home s c.line) c.way) 128
    if m.dirBlocks s c.line bs then
      ((m.updLine s c.line (fun c => { c with held := true })).dirFull s).syncPoisonDir s
    else
      let m1 := { m with tier := m.tier.write (devAddr s 4 (c.line * 128)) bs }
      (m1.updLine s c.line (fun c => { c with dirty := false, held := false })).syncPoisonDir s

/-- The resident lines of a set, most recently used first. -/
def Mach.setLines (m : Mach) (s : Nat) (h : Home) : List CLine := (m.stk s).cache.lines.filter (fun c => m.home s c.line = h)

/-- The lowest way of a set that holds no line and lies in no failed row. -/
def Mach.freeWay (m : Mach) (s : Nat) (h : Home) : Option Nat :=
  let used := (m.setLines s h).map (·.way)
  (List.range 16).find? (fun w => !used.contains w && !((m.stk s).cache.lostWays.contains (h.bay, h.set, w)))

/-- An operation is outstanding on line L (R270). -/
def Mach.lineBusy (m : Mach) (s L : Nat) : Bool := (m.stk s).cache.outst.any (fun o => o.line = L)

/-- The least recently used line of a set that is not pinned (R272, R274); one that a full directory holds cannot be evicted (R396). -/
def Mach.victim (m : Mach) (s : Nat) (h : Home) : Option CLine :=
  ((m.setLines s h).reverse).find? (fun c => !c.pinned && !c.held)

/-- The set of line L has no way for it now: the row of its free way is under test (R320), or every way is taken and the line that it would replace
is outstanding or under test, or none can be evicted (R396). -/
def Mach.noWay (m : Mach) (s L : Nat) : Bool :=
  let h := m.home s L
  match m.freeWay s h with
  | some w => m.rowTesting (cellAddr s h w)
  | none =>
    match m.victim s h with
    | some v => m.lineBusy s v.line || m.rowTesting (cellAddr s h v.way)
    | none => true

/-- Line L has no resident copy any more. -/
def Mach.dropLine (m : Mach) (s L : Nat) : Mach :=
  m.updCache s (fun k => { k with lines := k.lines.filter (fun c => c.line ≠ L) })

/-- Room made in a set: dirty victims written back, the least recently used first; one that its full directory holds is passed
over, and one whose writeback is outstanding is waited for. -/
def Mach.makeRoom : Nat → Mach → Nat → Home → Mach
  | 0, m, _, _ => m
  | fuel + 1, m, s, h =>
    match m.freeWay s h with
    | some _ => m
    | none =>
      match m.victim s h with
      | none => m
      | some c =>
        if m.lineBusy s c.line then m
        else
        let m1 := m.writeback s c
        match m1.cline s c.line with
        | some c' => if c'.held then Mach.makeRoom fuel m1 s h else m1.dropLine s c.line
        | none => m1

/-- Line L put into its set with the given bytes, most recently used; unchanged when no way frees (R396: the miss waits). -/
def Mach.install (m : Mach) (s L : Nat) (bs : List PByte) (dirty pinned : Bool) : Mach :=
  let h := m.home s L
  let m1 := m.makeRoom 17 s h
  match m1.freeWay s h with
  | none => m1
  | some w =>
    let m2 := m1.sramWrite (cellAddr s h w) bs
    m2.updCache s (fun k => { k with lines := ⟨L, w, dirty, pinned, false⟩ :: k.lines })

/-- Line L filled from its backing memory (R270). -/
def Mach.fill (m : Mach) (s L : Nat) : Mach := m.install s L (m.backing s L) false false

/-- Line L becomes the most recently used. -/
def Mach.touch (m : Mach) (s L : Nat) : Mach :=
  m.updCache s (fun k => { k with lines := k.lines.filter (fun c => c.line = L) ++ k.lines.filter (fun c => c.line ≠ L) })

/-- A counter of 48 bits that wraps modulo 2^48, with its OVF flag, event and source (R506). -/
def Mach.count48 (m : Mach) (s : Nat) (f ovf : Fld) (i src : Nat) (n : Nat := 1) : Mach :=
  let v := m.getF s f i + n
  let m1 := m.setF s f v i
  if v ≥ 2 ^ 48 then m1.counterWrapped s ovf i src else m1

/-- The thrash monitor counts an ordinary lookup of line L, and its hit (R275). -/
def Mach.countLookup (m : Mach) (s L : Nat) (hit : Bool) : Mach :=
  let h := (m.home s L).half
  let m1 := m.count48 s Reg.CDIE_LOOKUPS_LOOKUPS Reg.CDIE_LOOKUPS_OVF h (10 + h)
  let m2 := if hit then m1.count48 s Reg.CDIE_HITS_HITS Reg.CDIE_HITS_OVF h (10 + h) else m1
  m2.updCache s (fun k => { k with
    winLook := k.winLook.modify (· + 1) h
    winHits := if hit then k.winHits.modify (· + 1) h else k.winHits })

/-- An allocating access to line L is counted, unless the line is pinned (R275). -/
def Mach.countAccess (m : Mach) (s L : Nat) (hit : Bool) : Mach :=
  match m.cline s L with
  | some c => if c.pinned then m else m.countLookup s L hit
  | none => m.countLookup s L false

/-- An allocating access looks line L up and fills it when it is missing (R270, R275). -/
def Mach.lookup (m : Mach) (s L : Nat) : Mach :=
  match m.cline s L with
  | some _ => (m.countAccess s L true).touch s L
  | none => (m.countAccess s L true).fill s L

/-! ## Accesses at the home -/

/-- The byte at a mapped device address as a read at its home delivers it (R104, R270, R277). -/
def Mach.homeByte (m : Mach) (a : Nat) : PByte :=
  if daRegion a = 4 then
    let s := daStack a
    let o := daOff a
    let L := o / 128
    if m.isDead s L then ⟨0, 4⟩
    else
      match m.cline s L with
      | some c => m.sramByte (cellAddr s (m.home s L) c.way + o % 128)
      | none => if o ≥ 2 ^ 45 then ⟨m.hostMem.byte (m.windowAddr o), 0⟩ else m.tier.readByte a
  else m.sramByte a

/-- n bytes from a, each at its own home. -/
def Mach.homeBytes (m : Mach) (a n : Nat) : List PByte := (List.range n).map (fun i => m.homeByte ((a + i) % 2 ^ 52))

/-- The lines of region 0x4 that n bytes from a touch, as line addresses. -/
def linesOf (a n : Nat) : List Nat :=
  (List.range ((a % 128 + n + 127) / 128)).map (fun i => a / 128 * 128 + 128 * i)

/-- What a read of one line of region 0x4 does to its home: a dead read is counted and allocates nothing; an allocating access
looks the line up (R270, R277). -/
def Mach.readLine (m : Mach) (alloc : Bool) (la : Nat) : Mach :=
  let s := daStack la
  let L := daOff la / 128
  if m.isDead s L then (if alloc then m.countAccess s L false else m).bumpF s Reg.CDIE_DEAD_STATUS_DEAD_READS (m.home s L).half
  else if alloc then m.lookup s L
  else m

/-- The part of n bytes from a that lies in the line at line address la: where it starts, and its length. -/
def linePart (a n la : Nat) : Nat × Nat := (max a la, min (a + n) (la + 128) - max a la)

/-- The failing granules of a read of a byte range at its cells: of region 0x4, in each line that is resident and not dead. -/
def Mach.failsAt (m : Mach) (a n : Nat) : List (Nat × Nat) :=
  if daRegion a = 4 then
    let s := daStack a
    (linesOf a n).flatMap (fun la =>
      match m.cline s (daOff la / 128) with
      | some c =>
        if m.isDead s c.line then []
        else
          let p := linePart a n la
          m.failsIn (cellAddr s (m.home s c.line) c.way + p.1 % 128) p.2
      | none => [])
  else m.failsIn a n

/-- The detections of a read of one byte range at its cells. -/
def Mach.detectHome (m : Mach) (a n : Nat) : Mach := m.detectSorted (daStack a) (m.failsAt a n)

/-- A read of n bytes from a performed at its homes: what it does, and the bytes. -/
def Mach.performRead (m : Mach) (alloc : Bool) (a n : Nat) : Mach × List PByte :=
  let m1 := if daRegion a = 4 then (linesOf a n).foldl (fun m la => m.readLine alloc la) m else m
  (m1.detectHome a n, m1.homeBytes a n)

/-- Bytes written at offset o of region 0x4 go on to host memory where o lies in the window (R386, R387). -/
def Mach.through (m : Mach) (o : Nat) (bs : List PByte) : Mach :=
  if o ≥ 2 ^ 45 then { m with hostMem := m.hostMem.writeBytes (m.windowAddr o) (PByte.vals bs) } else m

/-- Bytes written into the line of region 0x4 that holds them all (R270, R277, R387, R395). -/
def Mach.writeLine (m : Mach) (alloc : Bool) (a : Nat) (bs : List PByte) : Mach :=
  let s := daStack a
  let o := daOff a
  let L := o / 128
  let win := decide (o ≥ 2 ^ 45)
  if m.isDead s L then
    let m1 := (if alloc then m.countAccess s L false else m).updCache s (fun k => { k with dead := k.dead.filter (· ≠ L) })
    let m2 := m1.setF s Reg.CDIE_DEAD_STATUS_ENTRIES
      ((m1.stk s).cache.dead.filter (fun d => (m1.home s d).half = (m1.home s L).half)).length (m1.home s L).half
    let zeros := (List.range 128).map (fun _ => (⟨0, 0⟩ : PByte))
    let m3 :=
      match m2.cline s L with
      | some c => m2.sramWrite (cellAddr s (m2.home s L) c.way) zeros
      | none => m2.install s L zeros false false
    match m3.cline s L with
    | some c =>
      ((m3.sramWrite (cellAddr s (m3.home s L) c.way + o % 128) bs).updLine s L (fun c => { c with dirty := !win })).through o bs
    | none => m
  else
    let m1 := if alloc then m.lookup s L else m
    match m1.cline s L with
    | some c =>
      ((m1.sramWrite (cellAddr s (m1.home s L) c.way + o % 128) bs).updLine s L (fun c => { c with dirty := c.dirty || !win })).through o bs
    | none =>
      if win then m1.through o bs
      else ({ m1 with tier := m1.tier.write a bs }).syncPoisonDir s

/-- Bytes cut at the line boundaries of region 0x4: (address, bytes) of each piece. -/
def cutLines : Nat → Nat → List PByte → List (Nat × List PByte)
  | 0, _, _ => []
  | fuel + 1, a, bs =>
    if bs = [] then []
    else
      let n := 128 - a % 128
      (a, bs.take n) :: cutLines fuel (a + n) (bs.drop n)

/-- Bytes written from a at their homes (R104, R310). -/
def Mach.performWrite (m : Mach) (alloc : Bool) (a : Nat) (bs : List PByte) : Mach :=
  if daRegion a = 4 then
    (cutLines (bs.length / 128 + 2) a bs).foldl (fun m p => m.writeLine alloc p.1 p.2) m
  else (cutLines (bs.length / 128 + 2) a bs).foldl (fun m p => m.sramWrite p.1 p.2) m

/-! ## Who may do what (Table RG-2) -/

/-- Why an access is refused. -/
inductive Deny where
  | addrUnmapped | writeReadOnly | accPrivate | storeScope | hostRefused
  deriving DecidableEq, Repr

/-- Whether an agent's read at a place is refused (Table RG-2, R268, R380, R391). -/
def readDeny (ag : Agent) (p : Place) : Option Deny :=
  let fw := match ag with
    | .mover c => decide (c < 4)
    | .bureau | .cabinet _ | .twin => true
    | _ => false
  match p with
  | .placed | .localMem _ | .accMem _ | .tier => none
  | .fwArea => if fw then none else some .addrUnmapped
  | .window => if ag = .host then some .hostRefused else none
  | .reserved => (match ag with | .bureau => none | .cabinet _ => none | _ => some .addrUnmapped)
  | .reg | .bureau => (match ag with | .bureau => none | .host => some .hostRefused | _ => some .addrUnmapped)
  | _ => some .addrUnmapped

/-- Whether the page of device address a is read-only (R110). -/
def Mach.readOnly (m : Mach) (a : Nat) : Bool := (m.stk (daStack a)).roPages.contains (a / 0x1_0000)

/-- Whether an agent's write at device address a is refused (Table RG-2, R112, R193). -/
def Mach.writeDeny (m : Mach) (ag : Agent) (p : Place) (a : Nat) : Option Deny :=
  match readDeny ag p with
  | some d => some d
  | none =>
    if m.readOnly a ∧ ag ≠ .bureau then some .writeReadOnly
    else
      match p, ag with
      | .accMem _, .mover _ | .accMem _, .host => if m.planRunning (daStack a) then some .accPrivate else none
      | .accMem p, .kernel c =>
        if m.planRunning (daStack a) && decide (p ≠ m.getF (daStack a) Reg.BUR_LOGICAL_MAP_HOME c) then some .storeScope else none
      | _, _ => none

/-- The 64 KiB pages that n bytes from a touch, by the first address in each: what an address may do does not change inside one. -/
def pageStarts (a n : Nat) : List Nat :=
  a :: ((List.range ((a % 0x1_0000 + n - 1) / 0x1_0000)).map (fun i => (a / 0x1_0000 + 1 + i) * 0x1_0000))

/-- A refused access: the error log, and the count of the half or of the executing core (R30, R112, R193, R268, R391). -/
def Mach.refuse (m : Mach) (n : Nat) (a : Nat) (d : Deny) : Mach :=
  let s := if daStack a < n then daStack a else 0
  let half := if daOff a ≥ 0x6C00_0000 then 0 else posHalf (daOff a / 0x20_0000)
  let m1 :=
    match d, m.place n a with
    | .addrUnmapped, .cacheSlice | .addrUnmapped, .reserved | .addrUnmapped, .beyond =>
      m.bumpF s Reg.CDIE_ACCESS_REFUSED_REFUSED half
    | .addrUnmapped, .fwArea => m.bumpF s Reg.CDIE_ACCESS_REFUSED_REFUSED (m.home s (daOff a / 128)).half
    | .accPrivate, .accMem p => m.bumpF s Reg.CORE_ACC_STATUS_ACC_REFUSED (m.execCore s p)
    | .storeScope, .accMem p => m.bumpF s Reg.CORE_ACC_STATUS_ACC_REFUSED (m.execCore s p)
    | _, _ => m
  m1.logError s 0x0106 0 0 a

/-- Whether an access to n bytes from a is held: its slot is being relocated (R31), a row is under test (R320), the partitions
change (R281), a fill or writeback of the line is outstanding (R270), or an allocating miss, or a write (wr) to a dead line, finds no evictable way
(R277, R396). -/
def Mach.accessHeld (m : Mach) (alloc : Bool) (a n : Nat) (wr : Bool := false) : Bool :=
  let s := daStack a
  let reset := m.getB s Reg.VCP_RESET_STATUS_IN_RESET
  match daRegion a with
  | 0 => reset || (List.range n).any (fun i => m.rowTesting (a + i))
  | 1 => (m.stk s).map.relocating.any (fun r => r.1 = daOff a / 0x10_0000) || (List.range n).any (fun i => m.rowTesting (a + i))
  | 2 => (m.stk s).map.relocating.any (fun r => r.1 = daOff a / 0x4_0000) || (List.range n).any (fun i => m.rowTesting (a + i))
  | 4 =>
    reset || (m.stk s).cache.change.isSome ||
    (linesOf a n).any (fun la =>
      let L := daOff la / 128
      m.lineBusy s L ||
      match m.cline s L with
      | some c => m.rowTesting (cellAddr s (m.home s L) c.way)
      | none => (if m.isDead s L then wr else alloc) && m.noWay s L)
  | _ => false

end Sys2Proof.Machine
end

