-- ==== Sys2Proof/Machine/Abort.lean ====
section
/-! DEFINITION. Access to cores, and how units and plans end: the abort of a work unit (R73, R316, R278), a kernel fault (R148,
R150), the end of a plan (R76, R279, R398, R111, R260). -/

namespace Sys2Proof.Machine

/-! ## Cores -/

/-- The core of logical index L on stack s. -/
def Mach.core (m : Mach) (s L : Nat) : Core := SMap.getD (m.stk s).cores L {}

/-- The core of logical index L changed. -/
def Mach.updCore (m : Mach) (s L : Nat) (f : Core → Core) : Mach :=
  m.updStk s (fun k => { k with cores := SMap.put k.cores L (f (SMap.getD k.cores L {})) })

/-- The physical core that executes L (BUR_LOGICAL_MAP). -/
def Mach.physOf (m : Mach) (s L : Nat) : Nat := m.getF s Reg.BUR_LOGICAL_MAP_EXEC L

/-- The home position of L. -/
def Mach.homeOfIndex (m : Mach) (s L : Nat) : Nat := m.getF s Reg.BUR_LOGICAL_MAP_HOME L

/-- The plan state of stack s changed. -/
def Mach.updPlan (m : Mach) (s : Nat) (f : PlanSt → PlanSt) : Mach := m.updStk s (fun k => { k with plan := f k.plan })

/-- The loaded plan of stack s. -/
def Mach.plan (m : Mach) (s : Nat) : Plan := (m.stk s).plan.plan

/-- A message put on its way. -/
def Mach.send (m : Mach) (x : Msg) : Mach := { m with wire := m.wire ++ [x] }

/-- A message taken from those on their way, if it is there. -/
def Mach.receive (m : Mach) (x : Msg) : Mach := { m with wire := m.wire.erase x }

/-! ## Mover channels stopping (R398, R404) -/

/-- Mover channel c of stack s. -/
def Mach.mov (m : Mach) (s c : Nat) : MovCh := SMap.getD (m.stk s).movers c {}

/-- Mover channel c changed. -/
def Mach.updMov (m : Mach) (s c : Nat) (f : MovCh → MovCh) : Mach :=
  m.updStk s (fun k => { k with movers := SMap.put k.movers c (f (SMap.getD k.movers c {})) })

/-- A chain stops with a status: BUSY clears, the owner record is freed, the channel's source is raised (Table EV-1, R448). -/
def Mach.stopChain (m : Mach) (s c status : Nat) (last : Bool) : Mach :=
  let m1 := (m.setF s Reg.MOV_CH_STATUS_STATUS status c).setF s Reg.MOV_CH_CTRL_BUSY 0 c
  let m2 := (m1.updMov s c (fun k => { k with phase := .idle, lastDone := last })).release s (72 + c)
  (m2.setF s Reg.MOV_CH_CTRL_OWNER 0 c).srcEdge s (192 + c)

/-- A chain that ends with its plan or a reset: the descriptor in progress is ABORTED, with no token and no signal (R385, R398, R404). -/
def Mach.abortChain (m : Mach) (s c : Nat) : Mach :=
  if m.getB s Reg.MOV_CH_CTRL_BUSY c then
    ((m.setF s Reg.MOV_CH_CTRL_ERROR 1 c).logError s 0x0104 4 c (m.mov s c).cur [8]).stopChain s c 8 false
  else m

/-! ## Licensed limits (R10, R12 to R14) -/

/-- The features whose limits hold on stack s, as a mask: those that its plan was loaded under, else those installed (R13, R14). -/
def Mach.features (m : Mach) (s : Nat) : Nat := if m.planOn s then (m.stk s).plan.features else m.getF s Reg.LIC_STATUS_FEATURES

/-- A new use of a feature may begin: its licence is installed (R12), and no plan is LOADED or RUNNING that was loaded without it (R13). -/
def Mach.licensed (m : Mach) (s feature : Nat) : Bool :=
  bit (m.getF s Reg.LIC_STATUS_FEATURES) (feature - 1) && bit (m.features s) (feature - 1)

/-- Link n is held in reset under features l (R10); a twin link goes on until its pair is unpaired (R14). -/
def Mach.heldUnder (m : Mach) (s n l : Nat) : Bool :=
  decide (8 ≤ n) && !bit l 0 &&
    !(m.getF s Reg.LNK_TWIN_STATUS_STATE ≠ 0 && (n = m.getF s Reg.LNK_TWIN_CFG_LINK_A || n = m.getF s Reg.LNK_TWIN_CFG_LINK_B))

/-- Link n is held in reset by licence. -/
def Mach.linkHeld (m : Mach) (s n : Nat) : Bool := m.heldUnder s n (m.features s)

/-- Link n of stack s begins to train when it is enabled and not held in reset by licence. -/
def Mach.linkBegin (m : Mach) (s n : Nat) : Mach :=
  if m.getB s Reg.LNK_CTRL_ENABLE n && !m.linkHeld s n then m.setF s Reg.LNK_STATUS_STATE 1 n else m

/-- Link n is put into reset: DISABLED, its flits lost; one that was UP reports LINK_DOWN (Table LK-3). -/
def Mach.linkDisable (m : Mach) (s n : Nat) : Mach :=
  let up := m.getF s Reg.LNK_STATUS_STATE n = 2
  let a := (m.setF s Reg.LNK_STATUS_STATE 0 n).updStk s (fun k => { k with link := { k.link with links := k.link.links.filter (fun e => e.1 ≠ n) } })
  if up then ((a.setF s Reg.LNK_STATUS_DOWN_EVENT 1 n).srcEdge s (80 + n)).event s 0x000E [n, 0] else a

/-- Links whose hold by licence differs from that under features l: they begin to train, or are put into reset. -/
def Mach.linksSettle (m : Mach) (s l : Nat) : Mach :=
  ((List.range 24).drop 8).foldl (fun m n =>
    if m.heldUnder s n l && !m.linkHeld s n then m.linkBegin s n
    else if m.linkHeld s n && m.getF s Reg.LNK_STATUS_STATE n ≠ 0 then m.linkDisable s n
    else m) m

/-- What the licences in effect leave of a use that has ended, features l before (R13, R14): links 8 to 23 that wait begin to train, those without a
licence are held in reset; CHEST_SLOTS of a Cabinet whose pool is not in use returns to 0. -/
def Mach.licencesSettle (m : Mach) (s l : Nat) : Mach :=
  let m1 := m.linksSettle s l
  if bit (m1.features s) 2 then m1
  else m1.onStacks 2 (fun m c =>
    let k := (m.stk s).cabs.get {} c
    if k.pages = [] ∧ k.blocks = [] then (m.setF s Reg.CAB_LP_CFG_CHEST_SLOTS 0 c).setF s Reg.CAB_LP_CFG_CHEST_EN 0 c else m)

/-! ## The end of a plan -/

/-- The dead tables of stack s are emptied (R279): a line that was dead reads its backing memory, also one that kept its way for a shelf (R276). -/
def Mach.clearDead (m : Mach) (s : Nat) : Mach :=
  let m1 := (m.stk s).cache.dead.foldl (fun m L =>
    match m.cline s L with
    | some c => (m.sramWrite (cellAddr s (m.home s L) c.way) (m.backing s L)).updLine s L (fun c => { c with dirty := false })
    | none => m) m
  let m2 := m1.updCache s (fun k => { k with dead := [] })
  (m2.setF s Reg.CDIE_DEAD_STATUS_ENTRIES 0 0).setF s Reg.CDIE_DEAD_STATUS_ENTRIES 0 1

/-- What ends with the plan on stack s: bound mover channels stop (R398) and are unbound (R77), both dead tables are emptied
(R279), read-only pages are to be invalidated before they turn writable (R111), uses of removed licences end (R14) and installed ones take effect
(R13). -/
def Mach.planEnded (m : Mach) (s : Nat) : Mach :=
  let m1 := (List.range 64).foldl (fun m c =>
    if m.getB s Reg.MOV_CH_CTRL_BOUND c then
      (m.abortChain s c).setF s Reg.MOV_CH_CTRL_BOUND 0 c
    else m) m
  let m3 := m1.clearDead s
  let m4 := m3.updStk s (fun k => { k with plan := { k.plan with turning := k.plan.turning ++ k.roPages.filter (fun p => !k.plan.turning.contains p) } })
  (m4.setF s Reg.LNK_SDID_LOCKED 0).licencesSettle s (m.stk s).plan.features

/-- Keyed operations that the Cabinets of stack s have not performed are discarded (R260). -/
def Mach.dropKeyed (m : Mach) (s : Nat) : Mach :=
  let onWay (x : Msg) : Bool := match x with
    | .keyed k _ _ => k = s
    | _ => false
  let m := { m with wire := m.wire.filter (fun x => !onWay x) }
  (m.updStk s (fun k => { k with cabs := k.cabs.map (fun c => { c with queue := [] }) })).onStacks 2 (fun m c =>
    (m.setF s Reg.CAB_ORDER_QUEUED 0 c).setF s Reg.CAB_ORDER_INTAKE_WAIT 0 c)

/-- The plan is aborted on every stack of the part with an ending code, as a host abort does (R76, R148, R318). Cores stop at
their next step boundary (CORE_ABORT). One PLAN_ABORTED event is written, from stack s (log entry 7). Nothing happens when no plan
is LOADED or RUNNING: the abort is done once (R150). -/
def Mach.endPlan (m : Mach) (s code : Nat) : Mach :=
  if (List.range 4).any m.planOn then
    let id := m.getF s Reg.BUR_PLAN_ID_PLAN_ID
    let m1 := m.onStacks 4 (fun m k =>
      if m.planOn k then
        (((m.setF k Reg.BUR_PLAN_STATE_STATE 4).updPlan k (fun p => { p with endStatus := code })).planEnded k).dropKeyed k
      else m)
    m1.event s 0x0002 [id] code
  else m

/-! ## Who waits on a sync object (R63, R64, R67, R116) -/

/-- Whether a group of a core waits on object o: a WAIT, or an ordered atomic whose ticket has not come. -/
def Core.waitsOn (c : Core) (o slot : Nat) (g : Group) : Bool :=
  match g.wait with
  | .obj o' _ _ _ _ _ => o' = o
  | .atomic =>
    match SMap.find c.atoms slot with
    | some a => !g.ordered && (match a.ord with | some (o', _) => o' = o | none => false)
    | none => false
  | _ => false

/-- The groups of stack s that wait on object o: logical index, slot and group. -/
def Mach.waitersOf (m : Mach) (s o : Nat) : List (Nat × Nat × Group) :=
  (m.stk s).cores.flatMap (fun e => e.2.groups.filterMap (fun g => if e.2.waitsOn o g.1 g.2 then some (e.1, g.1, g.2) else none))

/-- The cores of stack s that have committed at their PHASE_END and wait with WAIT_GE on RELEASE, when that is object o (R82 step 2). Each counts as one
waiter of the object (DEDUCED, log entry 116). -/
def Mach.coresWaiting (m : Mach) (s o : Nat) : Nat :=
  let k := m.getF s Reg.BUR_PLAN_STATE_PHASE
  let on := m.planRunning s && (m.plan s).phases.any (fun e => e.phase = k && e.release % 2 ^ 13 = o) &&
    decide ((m.getF s Reg.SYNC_COUNT_COUNT o + 2 ^ 48 - (k + 1)) % 2 ^ 48 ≥ 2 ^ 47)
  if on then ((m.stk s).cores.filter (fun e => decide (k < e.2.phase) && !e.2.ended && e.2.halt = .none)).length else 0

/-- The RELEASE object of the phase that runs on stack s, if the plan has an entry for it. -/
def Mach.releaseObj (m : Mach) (s : Nat) : Option Nat :=
  ((m.plan s).phases.find? (fun e => e.phase = m.getF s Reg.BUR_PLAN_STATE_PHASE)).map (fun e => e.release % 2 ^ 13)

/-- WAITERS of object o kept in step; a fall to zero ends the run of its stall time (R67). -/
def Mach.syncWaiters (m : Mach) (s o : Nat) : Mach :=
  let n := (m.waitersOf s o).length + m.coresWaiting s o
  let m1 := m.setF s Reg.SYNC_STATUS_WAITERS (min n 255) o
  if n = 0 then m1.updPlan s (fun p => { p with stallDone := p.stallDone.filter (· ≠ o) }) else m1

/-- The objects that groups of L wait on. -/
def Mach.waitedBy (m : Mach) (s L : Nat) : List Nat :=
  let c := m.core s L
  (c.groups.filterMap (fun e =>
    match e.2.wait with
    | .obj o _ _ _ _ _ => some o
    | .atomic => ((SMap.find c.atoms e.1).bind (fun a => a.ord)).map (·.1)
    | _ => none)).eraseDups

/-! ## A work unit aborts (R73) -/

/-- The core of L discards its uncommitted unit: outbox, staged operations, stores, groups, launch and units; channel pointers and
script position return to the control record (R73, R103). SCRATCH and local memory keep the bytes that the unit has written: the spec calls their
contents discarded and gives no value (DESIGN CHOICE, log entry 105). -/
def Mach.discardUnit (m : Mach) (s L : Nat) (h : CoreHalt) : Mach :=
  let objs := m.waitedBy s L
  let m1 := m.updCore s L (fun c => { c with
    script := c.rcd.script, phase := c.rcd.phase, running := false, committing := none, loopEnd := none, halt := h, loops := c.rcd.loops
    ins := c.ins.map (fun e => (e.1, { e.2 with cur := 0 }))
    outs := c.outs.map (fun e => (e.1, { e.2 with cur := 0 }))
    staged := [], groups := [], launch := {}, entry := {}, refetched := false, stores := [], atoms := [], atomNs := [], late := none
    ended := c.rcd.ended
    mx := { nextId := c.mx.nextId }, att := { nextId := c.att.nextId }, kv := { nextId := c.kv.nextId } })
  (objs ++ (m.releaseObj s).toList).foldl (fun m o => m.syncWaiters s o) m1

/-- The launch and array registers of a core whose launch has gone. -/
def Mach.clearLaunchRegs (m : Mach) (s L : Nat) : Mach :=
  let p := m.physOf s L
  let m1 := ((m.setF s Reg.CORE_LAUNCH_ACTIVE 0 p).setF s Reg.CORE_LAUNCH_BLOCKS_RESIDENT 0 p).setF s Reg.CORE_LAUNCH_GROUPS_RESIDENT 0 p
  (Reg.CORE_MX_STATUS_fields ++ Reg.CORE_ATT_STATUS_fields.take 5).foldl (fun m f => m.resetF s f p) m1

/-- A plan ends because a unit cannot go on (R278, R316, R318): the error log, the count of its kind, the abort. -/
def Mach.endPlanLogged (m : Mach) (s L code addr kind : Nat) : Mach :=
  (m.logError s code 1 (m.physOf s L) addr [kind]).endPlan s code

/-- The work unit of L consumes poison of a kind at granules `addrs` (R73, R278, R312, R316, R317): it aborts, and its core waits
for the replay; DEAD_READ poison ends the plan, and so does the eighth abort. -/
def Mach.consume (m : Mach) (s L kind : Nat) (addrs : List Nat) : Mach :=
  let p := m.physOf s L
  let m1 := (m.bumpF s Reg.CORE_INTEGRITY_CONSUMED p).setF s Reg.CORE_INTEGRITY_LAST_KIND kind p
  let m2 := (m1.discardUnit s L .aborted).clearLaunchRegs s L
  let m3 := m2.updCore s L (fun c => { c with aborts := c.aborts + 1, lastKind := kind })
  if kind = 4 then (m3.updCore s L (fun c => { c with halt := .stopped })).endPlanLogged s L 0x0024 (addrs.headD 0) kind
  else
    let m4 := m3.updInteg s (fun g => { g with consumed := g.consumed ++
      (addrs.filter (fun a => decide (a < 2 ^ 52) && !(g.consumed.any (fun c => c.addr = a && c.core = L)))).map (fun a => ⟨L, a, kind, false⟩) })
    if (m4.core s L).aborts ≥ 8 then
      ((m4.bumpF s Reg.BUR_RECOVERY_COUNT_REPLAY_LIMIT).updCore s L (fun c => { c with halt := .stopped })).endPlanLogged s L 0x0023
        (addrs.headD 0) kind
    else m4

/-- The unit of L aborts for a cause that is no poison: an array fault, a dual mismatch, a watchdog trip (R119, R183, R329). -/
def Mach.abortUnit (m : Mach) (s L : Nat) (h : CoreHalt := .aborted) : Mach :=
  let m1 := (m.discardUnit s L h).clearLaunchRegs s L
  let m2 := m1.updCore s L (fun c => { c with aborts := c.aborts + 1, lastKind := 0 })
  if (m2.core s L).aborts ≥ 8 then
    ((m2.bumpF s Reg.BUR_RECOVERY_COUNT_REPLAY_LIMIT).updCore s L (fun c => { c with halt := .stopped })).endPlanLogged s L 0x0023 0 0
  else m2

/-! ## Stores on their way (R104, R108, R139) -/

/-- The core of L holds a new transfer to a while the ports of its stack are in reset, unless a is in its own local memory (R301). -/
def Mach.portHeld (m : Mach) (s L a : Nat) : Bool :=
  m.getB s Reg.VCP_RESET_STATUS_IN_RESET && !(daRegion a = 1 && daStack a = s && daOff a / 0x10_0000 = m.getF s Reg.BUR_LOGICAL_MAP_HOME L)

/-- Whether a pending store of L is held at its home or by a port reset. -/
def Mach.storeHeld (m : Mach) (s L : Nat) (p : PStore) : Bool := m.portHeld s L p.addr || m.accessHeld true p.addr p.data.length true

/-- The word of Table EX-6 that names a logical index of a stack. -/
def coreWord (s L : Nat) : Nat := s * 1024 + L

/-- Whether n bytes at a lie wholly in [base, base + len). -/
def inside (a n base len : Nat) : Bool := decide (base ≤ a) && decide (a + n ≤ base + len)

/-- The phase that runs on stack s. -/
def Mach.phaseNow (m : Mach) (s : Nat) : Nat := m.getF s Reg.BUR_PLAN_STATE_PHASE

/-- Whether n bytes at a lie in a buffer of a kind in the running phase, owned by `owner` when one is given. -/
def Mach.inBuf (m : Mach) (s kind a n : Nat) (owner : Option Nat) : Bool :=
  (m.plan s).bufs.any (fun b =>
    b.kind = kind && bit b.phases (m.phaseNow s) && (match owner with | some w => b.owner = w | none => true) &&
      inside a n b.addr (b.slots * b.slotSize))

/-- The committed bytes that a write of the unit of L to its SCRATCH overwrites are kept: no other core sees the write before the commit (R69, Table
TG-5). -/
def Mach.keepCommitted (m : Mach) (s L a n : Nat) : Mach :=
  if m.inBuf s 3 a n (some (coreWord s L)) then
    m.updCore s L (fun c => { c with shadow := (List.range n).foldl (fun l i =>
      if (SMap.find l (a + i)).isSome then l else SMap.put l (a + i) (m.homeByte (a + i))) c.shadow })
  else m

/-- A pending store of L performed at its home (R104). -/
def Mach.performStore (m : Mach) (s L : Nat) (p : PStore) : Mach :=
  (m.keepCommitted s L p.addr p.data.length).performWrite true p.addr (PByte.clean p.data)

/-- The pending stores of a group performed in order, up to the first that is held; the flag says that none remains. -/
def Mach.drain : Nat → Mach → Nat → Nat → Nat → Mach × Bool
  | 0, m, _, _, _ => (m, true)
  | fuel + 1, m, s, L, slot =>
    let c := m.core s L
    match c.stores.find? (fun p => p.slot = slot) with
    | none => (m, true)
    | some p =>
      if m.storeHeld s L p then (m, false)
      else Mach.drain fuel ((m.performStore s L p).updCore s L (fun c => { c with stores := c.stores.erase p })) s L slot

/-! ## A kernel fault (R147, R148, R150) -/

/-- A fault of the core of L (R147, R148, R150): the faulting instruction writes nothing, the unit is discarded, the fault is recorded and
KERNEL_FAULT is raised to the Bureau. The first fault is recorded; of the faults of one step, that of the lowest issue slot; every further one sets
MULTIPLE. The groups of the other issue slots are kept for the instruction that they still issue in the step. -/
def Mach.recordFault (m : Mach) (s L slot block lane cause pc addr word code : Nat) : Mach :=
  let p := m.physOf s L
  let c := m.core s L
  let again := m.getB s Reg.CORE_FAULT_INFO_VALID p
  let m1 :=
    if again && !(c.late.isSome && decide (slot % 4 < m.getF s Reg.CORE_FAULT_INFO_GROUP_SLOT p % 4)) then m
    else
      let a := (m.setF s Reg.CORE_FAULT_INFO_CAUSE cause p).setF s Reg.CORE_FAULT_INFO_GROUP_SLOT slot p
      let b := (a.setF s Reg.CORE_FAULT_INFO_BLOCK block p).setF s Reg.CORE_FAULT_INFO_LANE lane p
      let c' := (b.setF s Reg.CORE_FAULT_INFO_VALID 1 p).setF s Reg.CORE_FAULT_INFO_CODE code p
      let d := (c'.setF s Reg.CORE_FAULT_PC_PC pc p).setF s Reg.CORE_FAULT_PC_SCRIPT_INDEX c.script p
      (d.setF s Reg.CORE_FAULT_ADDR_ADDR addr p).setF s Reg.CORE_FAULT_WORD_WORD word p
  let m2 := if again then m1.setF s Reg.CORE_FAULT_INFO_MULTIPLE 1 p else m1
  let late := c.late.getD { slots := (List.range 4).filter (· ≠ slot % 4), groups := c.groups, launch := c.launch, atoms := c.atoms, mx := c.mx, att := c.att, kv := c.kv }
  (((m2.discardUnit s L .fault).clearLaunchRegs s L).updCore s L (fun k => { k with late := some late })).coreCause s p

end Sys2Proof.Machine
end

