-- ==== Sys2Proof/Machine/Operands.lean ====
section
/-! DEFINITION. Kernel form (spec/04_kernel_form.md): the instruction word and its legal encodings, fetch, registers, predicates,
operands, and how an instruction issues: faults in the order of Table KF-15, poison, the dual comparison, the next program counter. -/

namespace Sys2Proof.Machine

/-! ## The instruction word (R122, Table KF-1) -/

namespace Iw
/-- CLASS -/
def cls (w : Nat) : Nat := bits w 0 6
/-- OP -/
def op (w : Nat) : Nat := bits w 6 8
/-- DST -/
def dst (w : Nat) : Nat := bits w 14 8
/-- SRCA -/
def srcA (w : Nat) : Nat := bits w 22 8
/-- SRCB -/
def srcB (w : Nat) : Nat := bits w 30 8
/-- PRED -/
def pred (w : Nat) : Nat := bits w 38 4
/-- IMMB -/
def immB (w : Nat) : Bool := bit w 50
/-- EXT -/
def ext (w : Nat) : Bool := bit w 51
/-- IMM12 -/
def imm12 (w : Nat) : Nat := bits w 52 12
/-- the third source register, IMM12[7:0] -/
def srcC (w : Nat) : Nat := bits w 52 8
/-- IMM12 sign-extended to n bits -/
def simm (w n : Nat) : Nat := ofSigned n (toSigned 12 (imm12 w))
/-- the destination predicate, DST bits [16:14] -/
def pd (w : Nat) : Nat := bits w 14 3
/-- the source predicate, SRCA bits [24:22] -/
def pa (w : Nat) : Nat := bits w 22 3
/-- the second source predicate, SRCB bits [32:30] -/
def pb (w : Nat) : Nat := bits w 30 3
end Iw

/-- Bits hi to lo set. -/
def maskOf (hi lo : Nat) : Nat := 2 ^ (hi + 1) - 2 ^ lo

/-- Field masks: OP and CLASS with PRED, which every instruction uses; DST; SRCA; SRCB; IMM12; EXT; IMMB. -/
def fBase : Nat := maskOf 13 0 ||| maskOf 41 38
def fD : Nat := maskOf 21 14
def fPd : Nat := maskOf 16 14
def fA : Nat := maskOf 29 22
def fPa : Nat := maskOf 24 22
def fB : Nat := maskOf 37 30
def fPb : Nat := maskOf 32 30
def fI : Nat := maskOf 63 52
def fC : Nat := maskOf 59 52
def fX : Nat := maskOf 51 51
def fM : Nat := maskOf 50 50

/-- What an encoding is: whether R124, R127 and the rules of its class allow it; the registers it reads and writes, each with
the number of 32-bit registers of the operand. -/
structure Enc where
  ok   : Bool
  srcs : List (Nat × Nat) := []
  dsts : List (Nat × Nat) := []

/-- Whether w has bits outside the fields that `mask` allows it. -/
def only (w mask : Nat) : Bool := w &&& (2 ^ 64 - 1 - (mask ||| fBase)) = 0

/-- The second source: SRCB, or an immediate (R127). n registers; c: whether the operation uses IMM12 as a third register.
Answers the mask of the fields used, whether the extension word is legal, and the register read. -/
def secondSource (w x n : Nat) (c : Bool) : Nat × Bool × List (Nat × Nat) :=
  if Iw.immB w then
    if Iw.ext w then (fM ||| fX ||| (if c then fC else 0), decide (n = 2) || decide (x < 2 ^ 32), [])
    else (fM ||| fI, !c, [])
  else (fB ||| (if c then fC else 0), true, [(Iw.srcB w, n)])

/-- INT (Table KF-3). -/
def encInt (w x : Nat) : Enc :=
  let o := Iw.op w
  let can64 := o ≤ 1 || o = 2 || (0x0A ≤ o && o ≤ 0x14)
  let n := if can64 && bit w 42 then 2 else 1
  let m42 := if can64 then maskOf 42 42 else 0
  if o = 0x11 ∨ (0x15 ≤ o ∧ o ≤ 0x17) then ⟨only w (fD ||| fA ||| m42), [(Iw.srcA w, n)], [(Iw.dst w, n)]⟩
  else if o ≤ 0x14 then
    let c := decide (o = 5)
    -- a shift count is the low 8 bits of its operand; its operand has the operation's width
    let sb := secondSource w x n c
    ⟨only w (fD ||| fA ||| m42 ||| sb.1) && sb.2.1, [(Iw.srcA w, n)] ++ sb.2.2 ++ (if c then [(Iw.srcC w, 1)] else []), [(Iw.dst w, n)]⟩
  else ⟨false, [], []⟩

/-- FP32 (Table KF-4). FMIN and FMAX do not round, so bits [43:42] are unused fields of theirs (DESIGN CHOICE, log entry 110). -/
def encFp (w x : Nat) : Enc :=
  let o := Iw.op w
  let c := decide (o = 3)
  let sb := secondSource w x 1 c
  let md := (if o ≤ 3 then maskOf 43 42 else 0) ||| maskOf 44 44 ||| maskOf 47 46 ||| (if c then maskOf 45 45 else 0)
  ⟨decide (o ≤ 5) && only w (fD ||| fA ||| md ||| sb.1) && sb.2.1,
    [(Iw.srcA w, 1)] ++ sb.2.2 ++ (if c then [(Iw.srcC w, 1)] else []), [(Iw.dst w, 1)]⟩

/-- BF16X2 (Table KF-5). -/
def encBf (w x : Nat) : Enc :=
  let o := Iw.op w
  let c := decide (o = 2)
  let sb := secondSource w x 1 c
  ⟨decide (o ≤ 4) && only w (fD ||| fA ||| sb.1) && sb.2.1,
    [(Iw.srcA w, 1)] ++ sb.2.2 ++ (if c then [(Iw.srcC w, 1)] else []), [(Iw.dst w, 1)]⟩

/-- XCEN (Table KF-6). -/
def encXcen (w : Nat) : Enc := ⟨decide (Iw.op w ≤ 5) && only w (fD ||| fA), [(Iw.srcA w, 1)], [(Iw.dst w, 1)]⟩

/-- CVT (Table KF-7). -/
def encCvt (w : Nat) : Enc :=
  let o := Iw.op w
  let md := if o ≤ 3 then maskOf 43 42 else if o = 0x0B ∨ o = 0x0C then maskOf 44 44 else 0
  ⟨decide (o ≤ 0x10) && only w (fD ||| fA ||| md), [(Iw.srcA w, 1)], [(Iw.dst w, 1)]⟩

/-- MOVE (Table KF-8). MOV takes a register in SRCA or an immediate. -/
def encMove (w x : Nat) : Enc :=
  let o := Iw.op w
  if o = 0 then
    let n := if bit w 42 then 2 else 1
    if Iw.immB w then
      let sb := secondSource w x n false
      ⟨only w (fD ||| maskOf 42 42 ||| sb.1) && sb.2.1, [], [(Iw.dst w, n)]⟩
    else ⟨only w (fD ||| fA ||| maskOf 42 42), [(Iw.srcA w, n)], [(Iw.dst w, n)]⟩
  else if o ≤ 3 then
    let sb := secondSource w x 1 false
    ⟨only w (fD ||| fA ||| (if o = 1 then maskOf 45 43 else 0) ||| sb.1) && sb.2.1, [(Iw.srcA w, 1)] ++ sb.2.2, [(Iw.dst w, 1)]⟩
  else if o = 4 then ⟨only w (fD ||| fI) && decide (Iw.imm12 w ≤ 12), [], [(Iw.dst w, 1)]⟩
  else ⟨false, [], []⟩

/-- PRED (Table KF-9, R135). -/
def encPred (w x : Nat) : Enc :=
  let o := Iw.op w
  if o ≤ 1 then
    let sb := secondSource w x 1 false
    ⟨only w (fPd ||| fA ||| maskOf 44 42 ||| (if o = 0 then maskOf 45 45 else 0) ||| sb.1) && sb.2.1 && decide (bits w 42 3 ≤ 5),
      [(Iw.srcA w, 1)] ++ sb.2.2, []⟩
  else if o = 2 then ⟨only w (fPd ||| fPa ||| fPb ||| maskOf 45 42) && decide (bits w 42 2 ≤ 2), [], []⟩
  else ⟨false, [], []⟩

/-- GROUP (Table KF-10). -/
def encGroup (w x : Nat) : Enc :=
  let o := Iw.op w
  if o = 0 then ⟨only w fPd, [], []⟩
  else if o ≤ 2 then ⟨only w (fPd ||| fPa), [], []⟩
  else if o = 3 then ⟨only w (fD ||| fPa), [], [(Iw.dst w, 1)]⟩
  else if o = 4 then
    let sb := secondSource w x 1 false
    ⟨only w (fD ||| fA ||| sb.1) && sb.2.1, [(Iw.srcA w, 1)] ++ sb.2.2, [(Iw.dst w, 1)]⟩
  else ⟨false, [], []⟩

/-- Bits [63:32] of an offset extension word are zero; without EXT the offset is IMM12, with EXT IMM12 is unused (R138). -/
def offsetOk (w x : Nat) : Bool := if Iw.ext w then decide (x < 2 ^ 32) else true

/-- Fields of the offset. -/
def fOff (w : Nat) : Nat := if Iw.ext w then fX else fI

/-- The address register: a pair in generic form, one register in local form (R138). -/
def addrReg (w : Nat) : Nat × Nat := (Iw.srcA w, if bit w 46 then 1 else 2)

/-- Registers of a width code: 8 to 32 bits one, 64 two, 128 four. -/
def widthRegs (c : Nat) : Nat := if c ≤ 2 then 1 else if c = 3 then 2 else 4

/-- MEM (Table KF-11, R138). -/
def encMem (w x : Nat) : Enc :=
  let o := Iw.op w
  let c := bits w 42 3
  let base := fA ||| maskOf 44 42 ||| maskOf 46 46 ||| fOff w
  if o = 0 then
    ⟨only w (fD ||| base ||| (if c ≤ 1 then maskOf 45 45 else 0)) && decide (c ≤ 4) && offsetOk w x, [addrReg w], [(Iw.dst w, widthRegs c)]⟩
  else if o = 1 then ⟨only w (fB ||| base) && decide (c ≤ 4) && offsetOk w x, [addrReg w, (Iw.srcB w, widthRegs c)], []⟩
  else ⟨false, [], []⟩

/-- ATOM (R140). -/
def encAtom (w x : Nat) : Enc :=
  let o := Iw.op w
  let c := bits w 42 3
  let n := widthRegs c
  let cas := decide (o = 9)
  let ord := bit w 47
  let base := fD ||| fA ||| fB ||| maskOf 44 42 ||| maskOf 47 46
  let immf := if cas then fC else if ord || !Iw.ext w then fI else 0
  let xok := if ord then Iw.ext w && decide (x < 2 ^ 56) else offsetOk w x
  ⟨decide (o ≤ 10) && (c = 2 || c = 3) && !(o = 10 && c = 3) && only w (base ||| immf ||| fX) && xok,
    [addrReg w, (Iw.srcB w, n)] ++ (if cas then [(Iw.srcC w, n)] else []) ++ (if ord then [(bits x 48 8, 1)] else []),
    [(Iw.dst w, n)]⟩

/-- SYNC (Table KF-12). -/
def encSync (w : Nat) : Enc :=
  let o := Iw.op w
  if o = 0 then ⟨only w fI && decide (Iw.imm12 w ≤ 3), [], []⟩
  else if o ≤ 2 then ⟨only w (fD ||| fA ||| fB), [(Iw.srcA w, 1), (Iw.srcB w, 2)], [(bits w 17 5, 1)]⟩
  else if o = 3 then ⟨only w (fA ||| fB), [(Iw.srcA w, 1), (Iw.srcB w, 1)], []⟩
  else if o = 4 then ⟨only w (fA ||| fB ||| fC), [(Iw.srcA w, 1), (Iw.srcB w, 1), (Iw.srcC w, 1)], []⟩
  else if o = 5 then ⟨only w fA, [(Iw.srcA w, 1)], []⟩
  else if o ≤ 8 then ⟨only w 0, [], []⟩
  else ⟨false, [], []⟩

/-- CACHE (R143). -/
def encCache (w x : Nat) : Enc := ⟨decide (Iw.op w = 0) && only w (fA ||| fOff w) && offsetOk w x, [(Iw.srcA w, 2)], []⟩

/-- CTRL (Table KF-13, R144). -/
def encCtrl (w x : Nat) : Enc :=
  let o := Iw.op w
  if o = 0 ∨ o = 3 then ⟨only w 0, [], []⟩
  else if o = 1 then
    if Iw.ext w then ⟨only w fX && decide (1 ≤ x / 2 ^ 32) && decide (x / 2 ^ 32 ≤ 65535), [], []⟩
    else ⟨only w (fI ||| maskOf 37 22) && decide (bits w 22 16 ≠ 0), [], []⟩
  else if o = 2 then
    ⟨Iw.ext w && only w (fA ||| fX) && decide (x % 2 ^ 32 = 0) && decide (1 ≤ x / 2 ^ 32) && decide (x / 2 ^ 32 ≤ 65535),
      [(Iw.srcA w, 1)], []⟩
  else if o = 4 then ⟨only w fI, [], []⟩
  else ⟨false, [], []⟩

/-- MX, ATT, KV: solo forms whose SRCA holds the descriptor's address (R145); MX.SWAP and the waits use no field (R172). `last` is
the OP of the wait. -/
def encSolo (w last : Nat) : Enc :=
  let o := Iw.op w
  if o = last ∨ (Iw.cls w = 0x10 ∧ o = 1) then ⟨only w 0, [], []⟩
  else if o < last then ⟨only w (fA ||| maskOf 46 46), [addrReg w], []⟩
  else ⟨false, [], []⟩

/-- MXG (R146, R175): SRCA as in MX; SRCB names the first fragment register. The fragment's registers depend on the descriptor, so they
are checked where it is read. -/
def encMxg (w : Nat) : Enc := ⟨decide (Iw.op w ≤ 2) && only w (fA ||| fB ||| maskOf 46 46), [addrReg w], []⟩

/-- The encoding of a word with its extension word (Table KF-2). -/
def encOf (w x : Nat) : Enc :=
  match Iw.cls w with
  | 0x00 => encCtrl w x
  | 0x01 => encInt w x
  | 0x02 => encFp w x
  | 0x03 => encBf w x
  | 0x04 => encXcen w
  | 0x05 => encCvt w
  | 0x06 => encMove w x
  | 0x07 => encPred w x
  | 0x08 => encGroup w x
  | 0x09 => encMem w x
  | 0x0A => encAtom w x
  | 0x0B => encSync w
  | 0x0C => encCache w x
  | 0x10 => encSolo w 4
  | 0x11 => encMxg w
  | 0x12 => encSolo w 4
  | 0x13 => encSolo w 6
  | _ => ⟨false, [], []⟩

/-- How many operations a class has; 0 for a reserved class (Tables KF-2 to KF-14). -/
def opsOf (c : Nat) : Nat :=
  match c with
  | 0x00 => 5 | 0x01 => 0x18 | 0x02 => 6 | 0x03 => 5 | 0x04 => 6 | 0x05 => 0x11 | 0x06 => 5 | 0x07 => 3 | 0x08 => 5
  | 0x09 => 2 | 0x0A => 11 | 0x0B => 9 | 0x0C => 1 | 0x10 => 5 | 0x11 => 3 | 0x12 => 5 | 0x13 => 7 | _ => 0

/-- Whether CLASS or OP is reserved (R124). -/
def reservedOp (w : Nat) : Bool := decide (opsOf (Iw.cls w) ≤ Iw.op w)

/-! ## An instruction at issue -/

/-- What an issuing instruction sees: stack, logical index, slot, group, word, extension word, its size in bytes, and the lanes
that are active with a true guard (R126). -/
structure KCtx where
  s    : Nat
  L    : Nat
  slot : Nat
  g    : Group
  w    : Nat
  x    : Nat
  size : Nat
  mask : Nat
  deriving DecidableEq, Repr

/-- Predicate p of a group as a mask over lanes; p7 reads true (R126). -/
def Group.predMask (g : Group) (p : Nat) : Nat := if p = 7 then 0xFFFF_FFFF else SMap.getD g.preds p 0

/-- The lanes whose guard is true. -/
def Group.guardMask (g : Group) (w : Nat) : Nat :=
  let m := g.predMask (bits w 38 3)
  if bit w 41 then 0xFFFF_FFFF - m else m

/-- The lanes that act, ascending. -/
def KCtx.lanes (k : KCtx) : List Nat := setBits k.mask 32

/-- The lowest lane that is active with a true guard. -/
def KCtx.lowest (k : KCtx) : Option Nat := lowestBit k.mask 32

/-! ## Registers (R125, R137) -/

/-- Where a register of a lane is held. -/
def regKey (slot lane r : Nat) : Nat := slot * 8192 + lane * 256 + r

/-- Register r of a lane of a slot; v255 reads zero. -/
def Core.reg (c : Core) (slot lane r : Nat) : RegV := if r = 255 then {} else SMap.getD c.regs (regKey slot lane r) {}

/-- The value of an operand of n registers from r, the low word first. -/
def Core.operand (c : Core) (slot lane r n : Nat) : Nat :=
  (List.range n).foldl (fun v i => v + (c.reg slot lane (r + i)).val.toNat * 2 ^ (32 * i)) 0

/-- A register written; writes to v255 are discarded. In a dual launch the second group slot of the pair takes the same value (R118). -/
def Core.setReg (c : Core) (slot lane r : Nat) (v : RegV) : Core :=
  if r = 255 then c
  else
    let one := SMap.put c.regs (regKey slot lane r) v
    { c with regs := if c.launch.dual then SMap.put one (regKey (slot + 1) lane r) v else one }

/-- An operand of n registers written from r. -/
def Core.setOperand (c : Core) (slot lane r n v : Nat) : Core :=
  (List.range n).foldl (fun c i => c.setReg slot lane (r + i) { val := BitVec.ofNat 32 (v / 2 ^ (32 * i)) }) c

/-- The value of an operand of a lane. -/
def KCtx.get (k : KCtx) (m : Mach) (lane r n : Nat) : Nat := (m.core k.s k.L).operand k.slot lane r n

/-- Operand a of a lane. -/
def KCtx.a (k : KCtx) (m : Mach) (lane : Nat) (n : Nat := 1) : Nat := k.get m lane (Iw.srcA k.w) n

/-- Operand b of a lane: SRCB, or the immediate (R127). -/
def KCtx.b (k : KCtx) (m : Mach) (lane : Nat) (n : Nat := 1) : Nat :=
  if Iw.immB k.w then (if Iw.ext k.w then k.x % 2 ^ (32 * n) else Iw.simm k.w (32 * n))
  else k.get m lane (Iw.srcB k.w) n

/-- Operand c of a lane: the register in IMM12[7:0]. -/
def KCtx.c (k : KCtx) (m : Mach) (lane : Nat) (n : Nat := 1) : Nat := k.get m lane (Iw.srcC k.w) n

/-! ## The next instruction (R95, R96, R123) -/

/-- Reaching reconvergence points: when the active lanes stand at the top entry's point, or have all exited, the next path runs,
or the entry is popped and the lanes go on together (R95 to R97). -/
def Group.settle : Nat → Group → Group
  | 0, g => g
  | fuel + 1, g =>
    match g.div with
    | [] => g
    | e :: r =>
      if g.pc = e.reconv ∨ g.active = 0 then
        let done := e.done ||| g.active
        match e.paths with
        | [] => Group.settle fuel { g with active := done, pc := e.reconv, div := r }
        | p :: ps => Group.settle fuel { g with active := p.1, pc := p.2, div := { e with paths := ps, done := done } :: r }
      else g

/-- How many paths and entries a group can still go through. -/
def Group.settleFuel (g : Group) : Nat := g.div.foldl (fun n e => n + e.paths.length + 1) 1

/-- The group at a new program counter. -/
def Group.goto (g : Group) (pc : Nat) : Group :=
  let g1 := { g with pc := pc }
  g1.settle g1.settleFuel

/-- A group of a core changed. -/
def Mach.updGroup (m : Mach) (s L slot : Nat) (f : Group → Group) : Mach :=
  m.updCore s L (fun c =>
    match SMap.find c.groups slot with
    | some g => { c with groups := SMap.put c.groups slot (f g) }
    | none => c)

/-- The group goes on after its instruction. -/
def KCtx.next (k : KCtx) (m : Mach) : Mach := m.updGroup k.s k.L k.slot (fun g => g.goto (g.pc + k.size))

/-- Each acting lane's result written to DST (n registers), and the group goes on. -/
def KCtx.writeD (k : KCtx) (m : Mach) (n : Nat) (f : Nat → Nat) : Mach :=
  k.next (m.updCore k.s k.L (fun c => k.lanes.foldl (fun c l => c.setOperand k.slot l (Iw.dst k.w) n (f l)) c))

/-- Predicate p of the acting lanes written from f; p7 is not written (R126). -/
def Group.setPred (g : Group) (p mask : Nat) (f : Nat → Bool) : Group :=
  if p = 7 then g
  else { g with preds := SMap.put g.preds p ((setBits mask 32).foldl (fun v l => putBit v l (f l)) (SMap.getD g.preds p 0)) }

/-- Each acting lane's truth value written to the predicate in DST bits [16:14], and the group goes on. -/
def KCtx.writeP (k : KCtx) (m : Mach) (f : Nat → Bool) : Mach :=
  k.next (m.updGroup k.s k.L k.slot (fun g => g.setPred (Iw.pd k.w) k.mask f))

/-! ## Fences -/

/-- What a FENCE, a barrier, an issue to a unit or a fault does first: the group's earlier stores are performed; the instruction waits while
one is held (R103, R108, R147). -/
def KCtx.fenced (k : KCtx) (m : Mach) (f : Mach → Mach) : Mach :=
  let d := m.drain ((m.core k.s k.L).stores.length + 1) k.s k.L k.slot
  if d.2 then f d.1 else d.1

/-! ## Faults and poison -/

/-- The instruction's fault with a cause at a lane is recorded (R148). -/
def KCtx.record (k : KCtx) (m : Mach) (cause lane addr code : Nat) : Mach :=
  m.recordFault k.s k.L k.slot k.g.block lane cause k.g.pc addr (if cause = 1 then 0 else k.w) code

/-- The instruction faults with a cause at a lane, once the group's earlier stores have been performed (R147, R148). -/
def KCtx.fault (k : KCtx) (m : Mach) (cause lane addr : Nat) (code : Nat := 0) : Mach :=
  k.fenced m (fun m => k.record m cause lane addr code)

/-- The faults that lanes meet, as (cause, lane, CORE_FAULT_ADDR): the first cause of Table KF-15 at its lowest lane (R147). -/
def firstFault (l : List (Nat × Nat × Nat)) : Option (Nat × Nat × Nat) :=
  l.foldl (fun b e =>
    match b with
    | none => some e
    | some f => if e.1 < f.1 ∨ (e.1 = f.1 ∧ e.2.1 < f.2.1) then some e else b) none

/-- The INDEX of the register-file row that holds register r of a lane of a slot: register f = slot × A + r of the file lies in bank f mod 8 (R87,
R88), as word f / 8 of the lane's 192 words there (DESIGN CHOICE, log entry 104: the spec names no row). -/
def regRow (p A slot lane r : Nat) : Nat :=
  let f := slot * A + r
  p + f % 8 * 2 ^ 10 + (lane * 192 + f / 8) / 64 * 2 ^ 14

/-- How a consumed granule of a register-file row is named among device addresses: 2^52 plus the INDEX of the row. -/
def regGranule (index : Nat) : Nat := 2 ^ 52 + index

/-- The poisoned granules among registers of lanes that lie below the allocation: (kind, granule). A register that fails its check is one of kind
STORAGE (R303, R309). -/
def KCtx.poisonOf (k : KCtx) (m : Mach) (lanes : List Nat) (srcs : List (Nat × Nat)) : List (Nat × Nat) :=
  let c := m.core k.s k.L
  let A := c.launch.regs
  lanes.flatMap (fun l => srcs.flatMap (fun r => (List.range r.2).filterMap (fun i =>
    let v := c.reg k.slot l (r.1 + i)
    if A ≤ r.1 + i then none
    else if v.poison ≠ 0 then some (v.poison, v.origin)
    else if v.syn ≠ 0 then some (1, regGranule (regRow (m.physOf k.s k.L) A k.slot l (r.1 + i)))
    else none)))

/-- The unit consumes the poison of registers (R312); errors of the register file start tests of their rows (R315). -/
def KCtx.consume (k : KCtx) (m : Mach) (p : List (Nat × Nat)) : Mach :=
  let rows := (p.filterMap (fun e => if e.2 < 2 ^ 52 then none else some (9, e.2 - 2 ^ 52))).eraseDups
  (m.detectSorted k.s rows).consume k.s k.L (p.foldl (fun j e => poisonJoin j e.1) 0) (p.map (·.2)).eraseDups

/-- Whether an instruction reads its register operands in the lowest acting lane only: SYNC, and MXG, whose descriptor address is lane 0's
(R141, R175). -/
def oneLane (w : Nat) : Bool := Iw.cls w = 0x0B || Iw.cls w = 0x11

/-- The lanes whose operands the instruction reads. -/
def KCtx.readLanes (k : KCtx) : List Nat := if oneLane k.w then k.lowest.toList else k.lanes

/-- The poison that an instruction reads (R312). SHFL reads register a of the lane that b names, not of its own lane (R137). -/
def KCtx.poisonIn (k : KCtx) (m : Mach) (e : Enc) : List (Nat × Nat) :=
  if Iw.cls k.w = 8 ∧ Iw.op k.w = 4 then
    k.poisonOf m k.lanes (e.srcs.drop 1) ++ k.lanes.flatMap (fun l => k.poisonOf m [k.b m l % 32] [(Iw.srcA k.w, 1)])
  else k.poisonOf m k.readLanes e.srcs

/-- A register number at or above the allocation A (R125): the first register of an operand is tested; a misaligned one that starts below A and reaches
it is OPERAND_ALIGN (DESIGN CHOICE, log entry 106). -/
def regRange (A : Nat) (l : List (Nat × Nat)) : Bool := l.any (fun r => r.1 ≠ 255 && decide (A ≤ r.1))

/-- A pair or quad whose first register breaks the alignment rule (R125). -/
def regAlign (l : List (Nat × Nat)) : Bool := l.any (fun r => decide (r.1 % r.2 ≠ 0))

/-- Whether the word at the group's program counter is the command's instruction: class, operation and, for atomics, the ATOM.ORD
bit; a reserved operation is any command's. -/
def isInstr (w cls op : Nat) (ord : Option Bool) : Bool :=
  reservedOp w ||
    (Iw.cls w = cls &&
      (match ord with
      | none => Iw.op w = op
      | some true => bit w 47
      | some false => Iw.op w = op && !bit w 47))

/-- A lane pair disagrees (R119): nothing is written, the unit aborts, the mismatch is counted and logged, and a test of the lane
pair starts. -/
def KCtx.mismatch (k : KCtx) (m : Mach) (lane : Nat) : Mach :=
  let p := m.physOf k.s k.L
  let pair := k.slot % 4 / 2
  let m1 := (m.bumpF k.s Reg.CORE_DUAL_STATUS_MISMATCHES p).setF k.s Reg.CORE_DUAL_STATUS_LAST_PAIR pair p
  let m2 := (m1.setF k.s Reg.CORE_DUAL_STATUS_LAST_LANE lane p).setF k.s Reg.CORE_DUAL_STATUS_LAST_CLASS (Iw.cls k.w) p
  ((((m2.logError k.s 0x0108 1 p 0 [lane]).coreCause k.s p).abortUnit k.s k.L).detect k.s 5 (p + pair * 2 ^ 10))

/-- The registers that array drains of a group are still to write (R176): (first, count). -/
def Core.fragPending (c : Core) (slot : Nat) : List (Nat × Nat) :=
  (c.mx.queue ++ c.mx.run.map (·.op)).filterMap (fun o =>
    match o.out with
    | some (sl, f, n) => if sl = slot then some (f, n) else none
    | none => none)

/-- Whether an instruction reads or writes a register that an array drain is still to write: it is held (R176). -/
def KCtx.fragHeld (k : KCtx) (m : Mach) (e : Enc) : Bool :=
  (e.srcs ++ e.dsts).any (fun r => ((m.core k.s k.L).fragPending k.slot).any (fun f =>
    decide (r.1 < f.1 + f.2) && decide (f.1 < r.1 + r.2)))

/-- The instruction with the checks made: poison first (R149), then encoding, registers and the dual comparison; then its own effect. Encoding and
register faults are reported at the lowest lane that acts, else at the lowest active one (DESIGN CHOICE, log entry 107). -/
def KCtx.run (k : KCtx) (m : Mach) (disagree : Option (Fin 32)) (body : KCtx → Mach → Mach) : Mach :=
  let e := encOf k.w k.x
  let lane := k.lowest.getD ((lowestBit k.g.active 32).getD 0)
  let A := (m.core k.s k.L).launch.regs
  if k.fragHeld m e then m
  else
    let p := k.poisonIn m e
    if p ≠ [] then k.consume m p
    else if reservedOp k.w ∨ !e.ok then k.fault m 2 lane 0
    else if regRange A (e.srcs ++ e.dsts) then k.fault m 3 lane 0
    else if regAlign (e.srcs ++ e.dsts) then k.fault m 4 lane 0
    else
      match disagree with
      | some l => if (m.core k.s k.L).launch.dual && bit k.g.active l.val then k.mismatch m l.val else body k m
      | none => body k m

/-- The text of a core: local-memory offsets [lo, hi) (R123). -/
def Mach.textOf (m : Mach) (s L : Nat) : Nat × Nat :=
  match (m.plan s).cores.find? (fun c => c.stack = s && c.index = L) with
  | some d => (d.loadAddr, d.loadAddr + d.textSize)
  | none => (0, 0)

/-- A group may issue: its core is not stopped and it waits for nothing (R148). -/
def Mach.canIssue (m : Mach) (s L slot : Nat) : Option Group :=
  let c := m.core s L
  if c.halt = .none ∧ c.running then
    match SMap.find c.groups slot with
    | some g => if g.wait = .none then some g else none
    | none => none
  else none

/-- Whether 8 bytes at local-memory offset o lie in the core's text (R123). -/
def Mach.inText (m : Mach) (s L o : Nat) : Bool := decide ((m.textOf s L).1 ≤ o) && decide (o + 8 ≤ (m.textOf s L).2)

/-- The 8 bytes of text at local-memory offset o. -/
def Mach.textAt (m : Mach) (s L o : Nat) : List PByte := m.mem.read (localAddr s (m.homeOfIndex s L) 0 + o) 8

/-- What the instruction of a group sees when it issues: the word at its program counter, the extension word if there is one, its size, the lanes
that act (R123, R126). -/
def Mach.ctx (m : Mach) (s L slot : Nat) (g : Group) : KCtx :=
  let w := PByte.num (m.textAt s L g.pc)
  ⟨s, L, slot, g, w, if Iw.ext w then PByte.num (m.textAt s L (g.pc + 8)) else 0, if Iw.ext w then 16 else 8, g.active &&& g.guardMask w⟩

/-- The step counter of a core advances by a free amount of at least 1 (R134). -/
def Mach.stepped (m : Mach) (s L : Nat) : Mach :=
  let f := m.fresh 16
  f.2.updCore s L (fun c => { c with steps := c.steps + 1 + f.1 })

/-- Whether a granule of text at an address is under test, or the core or a lane pair of an issue slot is (R320). -/
def Mach.issueTested (m : Mach) (s L slot o : Nat) : Bool :=
  let p := m.physOf s L
  m.rowTesting (localAddr s (m.homeOfIndex s L) 0 + o) ||
    (m.stk s).integ.running.any (fun t => (t.kind = 6 && t.index % 2 ^ 10 = p) || (t.kind = 5 && t.index = p + slot % 4 / 2 * 2 ^ 10))

/-- A group g issues a kernel instruction (R123, R124): the word at its program counter is fetched from the core's own local memory;
when it is the instruction of the command, it is checked and has its effect. A command whose group stands at another instruction changes nothing; text
whose row is under test is waited for, and so is the core or lane pair under test (R320). -/
def Mach.issueOn (m : Mach) (a : KInstr) (cls op : Nat) (ord : Option Bool) (body : KCtx → Mach → Mach) (g : Group) : Mach :=
  let s := a.stack.val
  let L := a.core.val
  let base := localAddr s (m.homeOfIndex s L) 0
  let lane := (lowestBit g.active 32).getD 0
  let k := m.ctx s L a.slot.val g
  let poisoned (o : Nat) : Nat := PByte.joined (m.textAt s L o)
  let abort (o : Nat) : Mach := (m.detectRead (base + o) 8).consume s L (poisoned o) [base + o]
  if g.pc % 8 ≠ 0 ∨ !m.inText s L g.pc then { k with w := 0 }.fault m 1 lane g.pc
  else if m.issueTested s L a.slot.val g.pc then m
  else if poisoned g.pc ≠ 0 then abort g.pc
  else if !isInstr k.w cls op ord then m
  else if Iw.ext k.w ∧ !m.inText s L (g.pc + 8) then { k with w := 0 }.fault m 1 lane (g.pc + 8)
  else if Iw.ext k.w ∧ m.rowTesting (base + (g.pc + 8)) then m
  else if Iw.ext k.w ∧ poisoned (g.pc + 8) ≠ 0 then abort (g.pc + 8)
  else (k.run m a.disagree body).stepped s L

/-- The core as it stood at the fault of another issue slot in this step (R150). -/
def Core.beforeFault (c : Core) (t : Late) : Core :=
  { c with halt := .none, running := true, groups := t.groups, launch := t.launch, atoms := t.atoms, mx := t.mx, att := t.att, kv := t.kv }

/-- A group of another issue slot issues the instruction of the step in which its core has faulted: a fault of its own is recorded (R150); nothing else
of it remains, for the unit is discarded (R148). -/
def Mach.issueLate (m : Mach) (a : KInstr) (cls op : Nat) (ord : Option Bool) (body : KCtx → Mach → Mach) : Mach :=
  let s := a.stack.val
  let L := a.core.val
  match (m.core s L).late with
  | none => m
  | some t =>
    if (m.core s L).halt ≠ .fault ∨ !t.slots.contains (a.slot.val % 4) then m
    else
      let m1 := m.updCore s L (fun c => c.beforeFault t)
      match m1.canIssue s L a.slot.val with
      | none => m
      | some g =>
        let r := m1.issueOn a cls op ord body g
        (if (r.core s L).halt = .fault then r else m).updCore s L (fun c => { c with late := some { t with slots := t.slots.filter (· ≠ a.slot.val % 4) } })

/-- A kernel instruction issues; a command whose slot holds no group that may issue changes nothing. -/
def Mach.issue (m : Mach) (a : KInstr) (cls op : Nat) (ord : Option Bool) (body : KCtx → Mach → Mach) : Mach :=
  match m.canIssue a.stack.val a.core.val a.slot.val with
  | some g => m.issueOn a cls op ord body g
  | none => m.issueLate a cls op ord body

/-- A kernel instruction as a meaning. -/
def kernel (a : KInstr) (s : State) (cls op : Nat) (body : KCtx → Mach → Mach) (ord : Option Bool := none) : Out :=
  onStack s a.stack.val (fun _ m => m.issue a cls op ord body)

end Sys2Proof.Machine
end

