-- ==== Sys2Proof/Machine/Ctrl.lean ====
section
/-! DEFINITION. Blocks, groups and barriers of a launch, and the CTRL instructions (R92, R94 to R97, R100, R144, Table KF-13). -/

namespace Sys2Proof.Machine

/-! ## Blocks and barriers -/

/-- Group slots of a group: 2 in dual mode (R118). -/
def Launch.d (l : Launch) : Nat := if l.dual then 2 else 1

/-- The group slot of group gi of the block in block slot j (R92). -/
def Launch.slotOf (l : Launch) (j gi : Nat) : Nat := l.d * (l.groups * j + gi)

/-- The block slot of a block (R92). -/
def Launch.blockSlot (l : Launch) (block : Nat) : Nat := if l.k = 0 then 0 else block % l.k

/-- The groups of the block in slot j that have not exited. -/
def Core.liveGroups (c : Core) (j : Nat) : List Nat :=
  (List.range c.launch.groups).filter (fun gi => (SMap.find c.groups (c.launch.slotOf j gi)).isSome)

/-- The groups that have arrived at barrier n of block slot j. -/
def Launch.arrivedAt (l : Launch) (j n : Nat) : Nat := SMap.getD l.arrived (j * 4 + n) 0

/-- Every group of block slot j that has not exited has arrived at barrier n, and at least one has (R100). -/
def Core.barrierDone (c : Core) (j n : Nat) : Bool :=
  c.launch.arrivedAt j n ≠ 0 && (c.liveGroups j).all (fun gi => bit (c.launch.arrivedAt j n) gi)

/-- A complete barrier releases its groups and empties (R100, R102). -/
def Core.barrierRelease (c : Core) (j n : Nat) : Core :=
  { c with
    groups := c.groups.map (fun e =>
      if c.launch.blockSlot e.2.block = j ∧ e.2.wait = .barrier n then (e.1, { e.2 with wait := .none }) else e)
    launch := { c.launch with arrived := SMap.erase c.launch.arrived (j * 4 + n), stalled := c.launch.stalled.filter (· ≠ j * 4 + n) } }

/-- Every barrier of block slot j that is now complete is released. -/
def Core.barriersSettle (c : Core) (j : Nat) : Core :=
  (List.range 4).foldl (fun c n => if c.barrierDone j n then c.barrierRelease j n else c) c

/-- CORE_LAUNCH of the core of L kept in step with its launch. -/
def Mach.syncLaunch (m : Mach) (s L : Nat) : Mach :=
  let c := m.core s L
  let p := m.physOf s L
  let a := (m.setF s Reg.CORE_LAUNCH_BLOCK_NEXT c.launch.next p).setF s Reg.CORE_LAUNCH_BLOCKS_RESIDENT c.launch.slots.length p
  let b := (a.setF s Reg.CORE_LAUNCH_GROUPS_RESIDENT c.groups.length p).setF s Reg.CORE_LAUNCH_K c.launch.k p
  (b.setF s Reg.CORE_LAUNCH_ACTIVE c.launch.active.toNat p).setF s Reg.CORE_LAUNCH_DUAL c.launch.dual.toNat p

/-- The group of a slot exits (R94): it counts as arrived at every barrier (R100); a block whose last group exits leaves its block
slot. An exit starts no new report of a stall (R102): only a BAR.SYNC does (DESIGN CHOICE, log entry 55). -/
def Core.groupExit (c : Core) (slot : Nat) (g : Group) : Core :=
  let j := c.launch.blockSlot g.block
  let c1 := { c with groups := SMap.erase c.groups slot }
  if c1.liveGroups j = [] then
    { c1 with launch := { c1.launch with
      slots := SMap.erase c1.launch.slots j
      arrived := c1.launch.arrived.filter (fun e => e.1 / 4 ≠ j)
      stalled := c1.launch.stalled.filter (fun e => e / 4 ≠ j) } }
  else c1.barriersSettle j

/-! ## Instructions -/

/-- NOP (R144). -/
def execNop (a : KInstr) (s : State) : Out := kernel a s 0 0x00 (fun k m => k.next m)

/-- A push of a divergence entry: paths with their targets in the order they run after the first one (R95 to R97). -/
def KCtx.diverge (k : KCtx) (m : Mach) (first : Nat) (reconv : Nat) (rest : List (Nat × Nat)) : Mach :=
  if k.g.div.length ≥ 32 then k.fault m 6 (k.lowest.getD ((lowestBit k.g.active 32).getD 0)) 0
  else
    m.updGroup k.s k.L k.slot (fun g =>
      { g with active := first, div := ⟨reconv, rest, 0⟩ :: g.div }.goto (g.pc + k.size))

/-- pc + 8 × a signed number of words of w bits, as an address of 52 bits. -/
def branchTarget (pc w n : Nat) : Nat := ofSigned 52 ((pc : Int) + 8 * toSigned w n)

/-- BRA: the lanes with a true guard take the branch (R95, R144). -/
def execBra (a : KInstr) (s : State) : Out :=
  kernel a s 0 0x01 (fun k m =>
    let target := if Iw.ext k.w then branchTarget k.g.pc 32 (k.x % 2 ^ 32) else branchTarget k.g.pc 12 (Iw.imm12 k.w)
    let reconv := k.g.pc + 8 * (if Iw.ext k.w then k.x / 2 ^ 32 else bits k.w 22 16)
    let fall := k.g.active - k.mask
    if k.mask = 0 then k.next m
    else if fall = 0 then m.updGroup k.s k.L k.slot (fun g => g.goto target)
    else k.diverge m fall reconv [(k.mask, target)])

/-- Lanes gathered by target in ascending order (R96). -/
def pathsOf (l : List (Nat × Nat)) : List (Nat × Nat) :=
  (l.foldl (fun t e => SMap.put t e.2 (SMap.getD t e.2 0 ||| 2 ^ e.1)) ([] : SMap Nat)).map (fun e => (e.2, e.1))

/-- BRX: one path per target, in ascending order after the fall-through path (R96). -/
def execBrx (a : KInstr) (s : State) : Out :=
  kernel a s 0 0x02 (fun k m =>
    let ft := k.g.pc + k.size
    let reconv := k.g.pc + 8 * (k.x / 2 ^ 32)
    let all := k.lanes.map (fun l => (l, k.a m l))
    let jump := all.filter (fun e => e.2 ≠ ft)
    let paths := pathsOf jump
    let fall := k.g.active - ofBits (jump.map (·.1))
    match paths with
    | [] => k.next m
    | p :: ps =>
      if fall ≠ 0 then k.diverge m fall reconv paths
      else if ps = [] then m.updGroup k.s k.L k.slot (fun g => g.goto p.2)
      else if k.g.div.length ≥ 32 then k.fault m 6 (k.lowest.getD 0) 0
      else m.updGroup k.s k.L k.slot (fun g => { g with active := p.1, div := ⟨reconv, ps, 0⟩ :: g.div }.goto p.2))

/-- Lanes removed from every mask of the divergence stack (R97). -/
def DivE.without (e : DivE) (mask : Nat) : DivE :=
  { e with paths := e.paths.map (fun p => (p.1 - (p.1 &&& mask), p.2)), done := e.done - (e.done &&& mask) }

/-- EXIT: the lanes with a true guard leave the group (R94, R97). -/
def execExit (a : KInstr) (s : State) : Out :=
  kernel a s 0 0x03 (fun k m =>
    let g := { k.g with active := k.g.active - k.mask, exited := k.g.exited ||| k.mask, div := k.g.div.map (·.without k.mask) }
    if g.exited = 0xFFFF_FFFF then
      (m.updCore k.s k.L (fun c => c.groupExit k.slot g)).syncLaunch k.s k.L
    else m.updGroup k.s k.L k.slot (fun _ => g.goto (k.g.pc + k.size)))

/-- TRAP: a fault when any lane is active with a true guard (R144). -/
def execTrap (a : KInstr) (s : State) : Out :=
  kernel a s 0 0x04 (fun k m =>
    match k.lowest with
    | some l => k.fault m 0x12 l 0 (Iw.imm12 k.w)
    | none => k.next m)

end Sys2Proof.Machine
end

