-- ==== Sys2Proof/Machine/Link.lean ====
section
/-! DEFINITION. Sending over device links: conversions (R83, R311, R357), packing (R356), poison flits (R344), the replay buffer (R345),
routes (R351, R354), and messages between stacks of the part and to other parts (R342, R363). -/

namespace Sys2Proof.Machine

/-! ## Handles (R62) -/

/-- The object id of a handle. -/
def handleObj (h : Nat) : Nat := bits h 0 13
/-- The SDID of a handle. -/
def handleSdid (h : Nat) : Nat := bits h 16 16
/-- Bits [15:13] of a handle, which must be zero (R62). -/
def handleBad (h : Nat) : Bool := bits h 13 3 ≠ 0

/-- The SDID of a stack. -/
def Mach.sdid (m : Mach) (s : Nat) : Nat := m.getF s Reg.LNK_SDID_SDID

/-- The handle of object o of stack s. -/
def Mach.handle (m : Mach) (s o : Nat) : Nat := m.sdid s * 2 ^ 16 + o

/-- The stack of the part whose SDID is d. -/
def Mach.stackOf (m : Mach) (d : Nat) : Option Nat := (List.range 4).find? (fun s => m.sdid s = d)

/-! ## Conversions of data that is moved (Table EX-15) -/

/-- The source and destination formats of a CONVERT code with their sizes in bytes. -/
def convFormats (c : Nat) : Option (Fmt × Fmt × Nat × Nat) :=
  match c with
  | 1 => some (.bf16, .e4m3, 2, 1)
  | 2 => some (.bf16, .e5m2, 2, 1)
  | 3 => some (.fp32, .bf16, 4, 2)
  | 4 => some (.fp16, .e4m3, 2, 1)
  | _ => none

/-- The length of n bytes after a conversion. -/
def convLen (c n : Nat) : Nat :=
  match convFormats c with
  | none => n
  | some (_, _, i, o) => n / i * o

/-- Bytes converted under a CONVERT code, with SAT clear; a poisoned granule is not converted and its outputs are poisoned (R311). -/
def convertBytes (c : Nat) (bs : List PByte) : List PByte :=
  match convFormats c with
  | none => bs
  | some (f, g, n, k) =>
    (List.range (bs.length / n)).flatMap (fun i =>
      let e := (bs.drop (i * n)).take n
      let kd := PByte.joined ((bs.drop (i * n / 8 * 8)).take 8)
      if kd ≠ 0 then (List.range k).map (fun _ => ⟨0, kd⟩)
      else PByte.clean (leBytes k (convert f g (PByte.num e))))

/-! ## Links -/

/-- Link n of stack s. -/
def Mach.lnk (m : Mach) (s n : Nat) : Link := SMap.getD (m.stk s).link.links n {}

/-- The link state of stack s changed. -/
def Mach.updLinks (m : Mach) (s : Nat) (f : LinkSt → LinkSt) : Mach := m.updStk s (fun k => { k with link := f k.link })

/-- Link n of stack s changed. -/
def Mach.updLnk (m : Mach) (s n : Nat) (f : Link → Link) : Mach :=
  m.updLinks s (fun k => { k with links := SMap.put k.links n (f (SMap.getD k.links n {})) })

/-- A link is UP (Table LK-3). -/
def Mach.linkUp (m : Mach) (s n : Nat) : Bool := m.getF s Reg.LNK_STATUS_STATE n = 2

/-- The twin state of stack s. -/
def Mach.twin (m : Mach) (s : Nat) : TwinSt := (m.stk s).link.twin

def Mach.updTwin (m : Mach) (s : Nat) (f : TwinSt → TwinSt) : Mach := m.updLinks s (fun k => { k with twin := f k.twin })

/-- STATE of LNK_TWIN_STATUS: 0 UNPAIRED, 1 PAIRING, 2 PAIRED, 3 TWIN_LOST, 4 SERVING_TWIN, 5 DETACHED, 6 REJOINING. -/
def Mach.twinState (m : Mach) (s : Nat) : Nat := m.getF s Reg.LNK_TWIN_STATUS_STATE

/-- The twin links, the lower-numbered first. -/
def Mach.twinLinks (m : Mach) (s : Nat) : List Nat := [m.getF s Reg.LNK_TWIN_CFG_LINK_A, m.getF s Reg.LNK_TWIN_CFG_LINK_B]

/-- The route number of twin and control traffic. -/
def noRoute : Nat := 16384

/-- The route that a link serves next (R353): the one whose transfer it has begun, else the next in turn of those that have a flit waiting. -/
def Link.nextRoute (l : Link) : Option Nat :=
  match l.opened with
  | some e => some e.1
  | none =>
    let rs := l.queue.map (·.src)
    let low (a : List Nat) : Option Nat := a.find? (fun r => a.all (fun x => decide (r ≤ x)))
    (low (rs.filter (fun r => decide (l.served < r)))).or (low rs)

/-- The next flit to number: twin and control traffic first, then the routes in turn, one transfer at a time (R353); only the former while the peer has no
SDID (R339). -/
def Link.take (l : Link) (twinOnly : Bool) : Option (OutFlit × List OutFlit) :=
  match l.queue.find? (fun f => f.src = noRoute) with
  | some f => some (f, l.queue.erase f)
  | none =>
    if twinOnly then none
    else
    match l.nextRoute with
    | none => none
    | some r => (l.queue.find? (fun f => f.src = r)).map (fun f => (f, l.queue.erase f))

/-- What a flit that is sent leaves of the turn: its transfer is open until its LAST flit. -/
def Link.afterSend (l : Link) (f : OutFlit) : Link :=
  if f.src = noRoute then l else { l with opened := if f.flit.last then none else some (f.src, f.via), served := f.src }

/-- Flits are numbered and sent while the replay buffer has room (R345). -/
def Link.pump (twinOnly : Bool) : Nat → Link → Link
  | 0, l => l
  | fuel + 1, l =>
    if l.unacked.length ≥ 64 then l
    else
      match l.take twinOnly with
      | none => l
      | some (f, r) =>
        Link.pump twinOnly fuel ({ l with queue := r, unacked := l.unacked ++ [(l.sendSeq, f)], sendSeq := (l.sendSeq + 1) % 4096 }.afterSend f)

/-- A transfer that link n has begun to forward and whose flits can come no more, since the link that brought them has gone down, gives up its turn. -/
def Mach.closeDead (m : Mach) (s n : Nat) : Mach :=
  match (m.lnk s n).opened with
  | some (_, some v) =>
    if m.linkUp s v ∨ m.getF s Reg.LNK_STATUS_STATE v = 3 then m else m.updLnk s n (fun l => { l with opened := none })
  | _ => m

/-- The link sends what it can while it is UP. -/
def Mach.pump (m : Mach) (s n : Nat) : Mach :=
  if m.linkUp s n then (m.closeDead s n).updLnk s n (fun l => l.pump (m.getF s Reg.LNK_PEER_SDID n = 0xFFFF) 64) else m

/-- Flits put on a link. -/
def Mach.linkPush (m : Mach) (s n : Nat) (fs : List OutFlit) : Mach :=
  (m.updLnk s n (fun l => { l with queue := l.queue ++ fs })).pump s n

/-- The link that a route of the table uses now (R354). -/
def Mach.routeLink (m : Mach) (s r : Nat) : Nat :=
  if (m.stk s).link.onAlt.contains r then m.getF s Reg.LNK_ROUTE_ALT r else m.getF s Reg.LNK_ROUTE_HOP r

/-- Flits sent on a route of the table: on its link, with its label (R351); `via` is the link that brought them when they are forwarded. -/
def Mach.routeSend (m : Mach) (s r : Nat) (fs : List Flit) (via : Option Nat := none) : Mach :=
  m.linkPush s (m.routeLink s r) (fs.map (fun f => ⟨r, { f with route := m.getF s Reg.LNK_ROUTE_LABEL r }, via⟩))

/-! ## WRITE transfers -/

/-- The poison map and kinds of up to 32 granules of a payload (Table LK-5). -/
def poisonPayload (bs : List PByte) : List Byte :=
  let ks := (List.range ((bs.length + 7) / 8)).map (fun g => PByte.joined ((bs.drop (8 * g)).take 8))
  leBytes 4 (ofBits ((ks.zipIdx).filterMap (fun e => if e.1 ≠ 0 then some e.2 else none))) ++
    leBytes 16 ((ks.zipIdx).foldl (fun v e => v + e.1 * 16 ^ e.2) 0)

/-- A plain data flit, after a POISON flit when a granule of it is poisoned (R344). -/
def dataFlits (typ addr : Nat) (bs : List PByte) (first last : Bool) : List Flit :=
  let d : Flit := { typ := typ, first := first, last := last, len := bs.length, addr := addr, payload := PByte.vals bs }
  if bs.all (·.poison = 0) then [d] else [{ typ := 6, len := 20, payload := poisonPayload bs }, d]

/-- Data as flits of at most 256 bytes; `last` closes the transfer. -/
def plainFlits : Nat → Nat → Nat → List PByte → Bool → Bool → List Flit
  | 0, _, _, _, _, _ => []
  | fuel + 1, typ, addr, bs, first, last =>
    if bs.length ≤ 256 then dataFlits typ addr bs first last
    else dataFlits typ addr (bs.take 256) first false ++ plainFlits fuel typ (addr + 256) (bs.drop 256) false last

/-- A source block as one PACKED flit when at most 31 of its granules are nonzero and none is poisoned (R356). -/
def blockFlits (addr : Nat) (bs : List PByte) (first last : Bool) : List Flit :=
  let gs := (List.range ((bs.length + 7) / 8)).map (fun g => (g, PByte.vals ((bs.drop (8 * g)).take 8)))
  let nz := gs.filter (fun g => g.2.any (· ≠ 0))
  if bs.all (·.poison = 0) ∧ nz.length ≤ 31 then
    let pay := leBytes 8 (ofBits (nz.map (·.1))) ++ nz.flatMap (·.2)
    [{ typ := 1, first := first, last := last, packed := true, len := bs.length, addr := addr, payload := pay }]
  else plainFlits (bs.length / 256 + 1) 1 addr bs first last

/-- A compressed transfer in source blocks of 512 bytes (R356). -/
def packedFlits : Nat → Nat → List PByte → Bool → List Flit
  | 0, _, _, _ => []
  | fuel + 1, addr, bs, first =>
    if bs.length ≤ 512 then blockFlits addr bs first true
    else blockFlits addr (bs.take 512) first false ++ packedFlits fuel (addr + 512) (bs.drop 512) false

/-- A WRITE transfer sent on a route, narrowed as its entry says (R356, R357), and outstanding until its WRITE_ACK. -/
def Mach.sendWrite (m : Mach) (s r addr : Nat) (bs : List PByte) (compress : Bool) (owner : XferFor) : Mach :=
  let data := convertBytes (m.getF s Reg.LNK_ROUTE_CONVERT r) bs
  let fs := if compress then packedFlits (data.length / 512 + 1) addr data true else plainFlits (data.length / 256 + 1) 1 addr data true true
  (m.updLinks s (fun k => { k with xfers := k.xfers ++ [{ read := false, route := r, tag := addr % 2 ^ 16, owner := owner }] })).routeSend
    s r fs

/-- A READ_REQ sent on a route (Table LK-5): source address, length, tag; `back` bytes are to come, to dst. -/
def Mach.sendRead (m : Mach) (s r addr len dst back : Nat) (owner : XferFor) : Mach :=
  let t := (m.stk s).link.nextTag
  (m.updLinks s (fun k => { k with
    nextTag := (t + 1) % 2 ^ 32
    xfers := k.xfers ++ [{ read := true, route := r, tag := t, dst := dst, len := back, left := back, owner := owner }] })).routeSend s r
    [{ typ := 3, first := true, last := true, len := 16, addr := addr, payload := leBytes 8 addr ++ leBytes 4 len ++ leBytes 4 t }]

/-- A read of any length as READ_REQs of at most 65,536 bytes (Table LK-5), of data that its source converts under code c before it leaves (R83). -/
def Mach.sendReads (m : Mach) (s r addr len dst c : Nat) (owner : XferFor) : Mach :=
  (List.range ((len + 65535) / 65536)).foldl (fun m i =>
    let n := min 65536 (len - i * 65536)
    m.sendRead s r (addr + i * 65536) n (dst + convLen c (i * 65536)) (convLen c n) owner) m

/-- One MESSAGE entry sent on a route (R342): a word, its kind, the sender's SDID. -/
def Mach.sendEntry (m : Mach) (s r word kind : Nat) : Mach :=
  m.routeSend s r [{ typ := 5, first := true, last := true, len := 16,
                     payload := leBytes 8 word ++ leBytes 1 kind ++ leBytes 2 (m.sdid s) ++ leBytes 5 0 }]

/-! ## Messages -/

/-- The PLAN_ID that traffic of stack s carries: that of its plan LOADED or RUNNING, if there is one (R51). -/
def Mach.planTag (m : Mach) (s : Nat) : Option Nat := if m.planOn s then some (m.getF s Reg.BUR_PLAN_ID_PLAN_ID) else none

/-- The route of the table whose end is SDID d, for signals to another part (R62: the static route): the lowest valid one. -/
def Mach.routeTo (m : Mach) (s d : Nat) : Option Nat :=
  (List.range 16384).find? (fun r => m.getB s Reg.LNK_ROUTE_VALID r && m.getF s Reg.LNK_ROUTE_DST_SDID r = d && m.getF s Reg.LNK_ROUTE_HOP r ≠ 0x1F)

/-- A signal sent from stack s toward a handle (R62): to a stack of the part, or over the static route. -/
def Mach.sendSignal (m : Mach) (s h n f : Nat) : Mach :=
  match m.stackOf (handleSdid h) with
  | some _ => m.send (.signal (m.planTag s) s h n f)
  | none =>
    match m.routeTo s (handleSdid h) with
    | some r => m.sendEntry s r (h + n * 2 ^ 32 + f * 2 ^ 48) (if f = 0 then 2 else 3)
    | none => m

/-- A token or credit word sent from stack s to a stack of the part, or on a route of its table (R47, R363). -/
def Mach.sendWord (m : Mach) (s route dstStack core word : Nat) : Mach :=
  if route ≥ 0xFFFE then m.send (.token (m.planTag s) (m.sdid s) dstStack core word) else m.sendEntry s route word 1

end Sys2Proof.Machine
end

