-- ==== Sys2Proof/Machine/SyncObj.lean ====
section
/-! DEFINITION. Sync objects (spec/02_execution_model.md, R62 to R67): updates, forwarding, the release of waiters, and what else hangs
on a count: bindings (R422) and the pages that turn writable at a phase switch (R82, R111). -/

namespace Sys2Proof.Machine

/-- A count c satisfies a threshold t (R63). -/
def satisfies (c t : Nat) : Bool := decide ((c + 2 ^ 48 - t % 2 ^ 48) % 2 ^ 48 < 2 ^ 47)

/-- The count of object o. -/
def Mach.count (m : Mach) (s o : Nat) : Nat := m.getF s Reg.SYNC_COUNT_COUNT o

/-- Signals sent from stack s toward a handle, as a run of at most 65,535 each (R66): a failing run when f is not 0. -/
def Mach.signalRun : Nat → Mach → Nat → Nat → Nat → Nat → Mach
  | 0, m, _, _, _, _ => m
  | fuel + 1, m, s, h, n, f => if n = 0 then m else Mach.signalRun fuel (m.sendSignal s h (min n 65535) f) s h (n - 65535) f

/-- How many multiples of d lie among c + 1 to c + n (R66). -/
def multiples (d c n : Nat) : Nat := if d = 0 then 0 else (c + n) / d - c / d

/-- Forwarding of an update of object o from count c by n (R66). -/
def Mach.forward (m : Mach) (s o c n : Nat) : Mach :=
  let k := multiples (m.getF s Reg.SYNC_FWD_STRIDE_STRIDE o) c n
  let f := if m.getB s Reg.SYNC_STATUS_FAILED o then m.getF s Reg.SYNC_STATUS_FAIL_CODE o else 0
  let goes (m : Mach) (t a : Nat) : Mach := if t = 0xFFFF_FFFF then m else Mach.signalRun (a / 65535 + 1) m s t a f
  goes (goes m (m.getF s Reg.SYNC_FWD_TARGET_TARGET0 o) (k * m.getF s Reg.SYNC_FWD_N_N0 o))
    (m.getF s Reg.SYNC_FWD_TARGET_TARGET1 o) (k * m.getF s Reg.SYNC_FWD_N_N1 o)

/-- FAILED and FAIL_CODE of object o written into a waiting group's predicate and register, in the lanes of its mask; the group goes
on (R63, R141). -/
def Mach.releaseWait (m : Mach) (s L slot o pd rd mask : Nat) : Mach :=
  let failed := m.getB s Reg.SYNC_STATUS_FAILED o
  let code := m.getF s Reg.SYNC_STATUS_FAIL_CODE o
  let m1 := m.updCore s L (fun c => (setBits mask 32).foldl (fun c l => c.setReg slot l rd { val := BitVec.ofNat 32 code }) c)
  m1.updGroup s L slot (fun g => ({ g with wait := .none }.setPred pd mask (fun _ => failed)).goto (g.pc + 8))

/-- A waiter of object o looked at after an update (R64): a satisfied wait ends; a ticket that has come lets its atomic go (R116). -/
def Mach.releaseOne (m : Mach) (s o : Nat) (e : Nat × Nat × Group) : Mach :=
  match e.2.2.wait with
  | .obj _ t eq pd rd mask =>
    if (if eq then m.count s o = t % 2 ^ 48 else satisfies (m.count s o) t) then m.releaseWait s e.1 e.2.1 o pd rd mask else m
  | .atomic =>
    match ((SMap.find (m.core s e.1).atoms e.2.1).bind (fun a => a.ord)) with
    | some (_, t) => if m.count s o = t then m.updGroup s e.1 e.2.1 (fun g => { g with ordered := true }) else m
    | none => m
  | _ => m

/-- The waiters of object o whose threshold the count now satisfies are released (R64). -/
def Mach.releaseWaiters (m : Mach) (s o : Nat) : Mach :=
  ((m.waitersOf s o).foldl (fun m e => m.releaseOne s o e) m).syncWaiters s o

/-- Bindings of object o that its count satisfies fire once: source 7, the vector, and the binding goes (R422, Table EV-1). -/
def Mach.fireBinds (m : Mach) (s o : Nat) : Mach :=
  let hit (b : SyncBind) : Bool := handleObj b.handle = o && satisfies (m.count s o) b.threshold
  let l := (m.stk s).bureau.binds.filter hit
  let m1 := m.updStk s (fun k => { k with bureau := { k.bureau with binds := k.bureau.binds.filter (fun b => !hit b) } })
  l.foldl (fun m b => (m.srcEdge s 7).sendVector b.vector) m1

/-- Whether page p of 64 KiB lies wholly inside a WEIGHT buffer of phase k (R110). -/
def BufEnt.roPage (b : BufEnt) (k p : Nat) : Bool :=
  b.kind = 5 && bit b.phases k && decide (b.addr ≤ p * 0x1_0000) && decide ((p + 1) * 0x1_0000 ≤ b.addr + b.slots * b.slotSize)

/-- The pages of regions 0x0 and 0x4 of stack s that are read-only in phase k (R110). -/
def Plan.roPages (pl : Plan) (s k : Nat) : List Nat :=
  (pl.bufs.filter (fun b => b.kind = 5 && bit b.phases k && daStack b.addr = s && (daRegion b.addr = 0 || daRegion b.addr = 4))).flatMap
    (fun b =>
      let p0 := (b.addr + 0xFFFF) / 0x1_0000
      let p1 := (b.addr + b.slots * b.slotSize) / 0x1_0000
      (List.range (p1 - p0)).map (fun i => p0 + i))

/-- The phase entry of a stack: the k-th of the table (R81). -/
def Plan.phase (pl : Plan) (k : Nat) : Option PhaseEnt := pl.phases.find? (fun e => e.phase = k)

/-- A RELEASE object reaches k + 1 (R82, R111): the pages that are read-only in phase k and not in phase k + 1 are to be invalidated. -/
def Mach.releaseReached (m : Mach) (s o : Nat) : Mach :=
  let k := m.getF s Reg.BUR_PLAN_STATE_PHASE
  match (m.plan s).phase k with
  | some e =>
    if handleObj e.release = o ∧ satisfies (m.count s o) (k + 1) then
      let keep := (m.plan s).roPages s (k + 1)
      let out := (m.stk s).roPages.filter (fun p => !keep.contains p && !(m.stk s).plan.turning.contains p)
      m.updPlan s (fun p => { p with turning := p.turning ++ out })
    else m
  | none => m

/-- Phase k + 1 of stack s takes effect when ENTRY has reached the cumulative count of descriptors (R82 step 4). -/
def Mach.phaseSettle (m : Mach) (s : Nat) : Mach :=
  let k := m.getF s Reg.BUR_PLAN_STATE_PHASE
  match (m.plan s).phase k with
  | some e =>
    let p := (m.stk s).plan
    if p.switching ∧ p.pulling = [] ∧ (e.reshardCount = 0 ∨ satisfies (m.count s (handleObj e.entry)) p.entryNeed) then
      (((m.setF s Reg.BUR_PLAN_STATE_PHASE (k + 1)).updPlan s (fun p => { p with switching := false }))).updStk s (fun st =>
        { st with roPages := (m.plan s).roPages s (k + 1) })
    else m
  | none => m

/-- One update of object o of stack s: signals (n, f) that arrive in one step, f = 0 for a plain one (R64). An object below 64 belongs
to firmware: signals to it are dropped and counted (R142). -/
def Mach.applySignals (m : Mach) (s o : Nat) (l : List (Nat × Nat)) : Mach :=
  if o < 64 then m.bumpF s Reg.SYNC_DROPPED_DROPPED 0 l.length
  else
    let c := m.count s o
    let n := l.foldl (fun t e => t + e.1) 0
    let fs := (l.map (·.2)).filter (· ≠ 0)
    let m1 := m.setF s Reg.SYNC_COUNT_COUNT ((c + n) % 2 ^ 48) o
    let old := m.getF s Reg.SYNC_STATUS_FAIL_CODE o
    let code := fs.foldl (fun x f => if x = 0 then f else min x f) old
    let m2 := if fs = [] then m1 else (m1.setF s Reg.SYNC_STATUS_FAILED 1 o).setF s Reg.SYNC_STATUS_FAIL_CODE code o
    if n = 0 then m2
    else
      let m3 := m2.updPlan s (fun p => { p with stallDone := p.stallDone.filter (· ≠ o) })
      ((((m3.forward s o c n).releaseWaiters s o).fireBinds s o).releaseReached s o).phaseSettle s

end Sys2Proof.Machine
end

