-- ==== Sys2Proof/Machine/MemOps.lean ====
section
/-! DEFINITION. Addresses of kernel accesses, what a store may target, stores on their way, and the MEM and CACHE instructions and
fences (R69, R104 to R112, R138, R139, R143, Tables KF-11, KF-12, TG-4). -/

namespace Sys2Proof.Machine

/-! ## Buffers and channels of a plan (R47, R48, R57, R69) -/

/-- Buffer id of stack s. -/
def Plan.buf (pl : Plan) (s id : Nat) : Option BufEnt := pl.bufs.find? (fun b => b.id = id && daStack b.addr = s)

/-- The route of output channel c of index L on stack s. -/
def Mach.outRoute (m : Mach) (s L c : Nat) : Option Route :=
  (m.plan s).routes.find? (fun r => r.srcSdid = m.sdid s && r.srcStack = s && r.src = L && r.srcCh = c)

/-- The route of input channel c of index L on stack s. -/
def Mach.inRoute (m : Mach) (s L c : Nat) : Option Route :=
  (m.plan s).routes.find? (fun r => r.dstStack = s && r.dst = L && r.dstCh = c)

/-- The buffer that a producer writes: the consumer's ring on one stack, else its staging ring (Table EX-5). -/
def Mach.outBuf (m : Mach) (s : Nat) (r : Route) : Option BufEnt :=
  if r.stage = 0x3FFF then (m.plan s).buf r.dstStack r.buffer else (m.plan s).buf s r.stage

/-- The device address of slot n mod DEPTH of a ring (R57). -/
def BufEnt.slotAddr (b : BufEnt) (depth n : Nat) : Nat := b.addr + n % depth * b.slotSize

/-- Output channel c of index L. -/
def Mach.outChan (m : Mach) (s L c : Nat) : OutChan := SMap.getD (m.core s L).outs c {}

/-- Credits that the producer holds beyond those reserved by the running unit. -/
def OutChan.credits (o : OutChan) (depth : Nat) : Nat := depth - (o.sent + o.cur - o.oldest)

/-- Whether n bytes at a lie in a slot of an output ring for which L holds a credit (R69): counts sent to oldest + DEPTH − 1. -/
def Mach.inOutSlot (m : Mach) (s L a n : Nat) : Bool :=
  (m.plan s).routes.any (fun r =>
    r.srcSdid = m.sdid s && r.srcStack = s && r.src = L &&
      (match m.outBuf s r with
      | some b =>
        let o := m.outChan s L r.srcCh
        (List.range (o.oldest + r.depth - o.sent)).any (fun i => inside a n (b.slotAddr r.depth (o.sent + i)) b.slotSize)
      | none => false))

/-- Whether n bytes at a lie in the inactive copy of a STATE buffer of L (R69). -/
def Mach.inState (m : Mach) (s L a n : Nat) : Bool :=
  (m.plan s).bufs.any (fun b =>
    b.kind = 4 && bit b.phases (m.phaseNow s) && b.owner = coreWord s L &&
      inside a n (b.addr + (1 - SMap.getD (m.stk s).plan.active b.id 0) * b.slotSize) b.slotSize)

/-- Whether L may store n bytes at a (R69, R139), or perform an atomic there (R140). -/
def Mach.mayStore (m : Mach) (s L a n : Nat) (atomic : Bool) : Bool :=
  inside a n (localAddr s (m.homeOfIndex s L) 0) 0x8_0000 || inside a n (accAddr s (m.homeOfIndex s L) 0) 0x2_0000 ||
  m.inBuf s 3 a n (some (coreWord s L)) || m.inBuf s 2 a n (some (coreWord s L)) || m.inState s L a n || m.inOutSlot s L a n ||
  (atomic && m.inBuf s 6 a n none)

/-! ## Addresses (R138) -/

/-- The signed offset of a memory instruction; an ATOM.ORD takes IMM12, a CAS without an offset word none (R138, R140). -/
def memOffset (w x : Nat) (cas ord : Bool) : Int :=
  if ord then (if cas then 0 else toSigned 12 (Iw.imm12 w))
  else if Iw.ext w then toSigned 32 x
  else if cas then 0
  else toSigned 12 (Iw.imm12 w)

/-- An address formed by a lane: the device address, or the malformed address that is reported. -/
inductive Formed where
  | ok (a : Nat)
  | bad (a : Nat)

/-- The address that an instruction forms in a lane (R138). In local form the register's offset and its sum with the offset lie in local memory.
What CORE_FAULT_ADDR reports of one that does not is the sum modulo 2^32; of a misaligned one, the device address (DESIGN CHOICE, log entry 102). -/
def KCtx.form (k : KCtx) (m : Mach) (lane : Nat) (off : Int) : Formed :=
  if bit k.w 46 then
    let base := k.a m lane 1
    let o := (base : Int) + off
    if base ≥ 0x8_0000 ∨ o < 0 ∨ o ≥ 0x8_0000 then .bad (ofSigned 32 o) else .ok (localAddr k.s (m.homeOfIndex k.s k.L) o.toNat)
  else
    let base := k.a m lane 2
    let a := (base : Int) + off
    if base ≥ 2 ^ 52 ∨ a < 0 ∨ a ≥ 2 ^ 52 then .bad (ofSigned 64 a % 2 ^ 52) else .ok a.toNat

def Formed.addr : Formed → Nat
  | .ok a | .bad a => a

/-- Faults of one lane's access of `size` bytes (Table KF-15): alignment with cause `al`, mapping, and for a write its target. -/
def KCtx.accessFaults (k : KCtx) (m : Mach) (n al size : Nat) (wr : Option Bool) (lane : Nat) (f : Formed) :
    List (Nat × Nat × Nat) :=
  (if f.addr % size ≠ 0 then [(al, lane, f.addr)] else []) ++
  match f with
  | .bad a => [(0x0A, lane, a)]
  | .ok a =>
    if readDeny (.kernel k.L) (m.place n a) ≠ none then [(0x0A, lane, a)]
    else
      match wr with
      | none => []
      | some atomic =>
        (if m.mayStore k.s k.L a size atomic then [] else [(0x0B, lane, a)]) ++ (if m.readOnly a then [(0x0C, lane, a)] else [])

/-- What a refused target of a memory instruction logs and counts (R112, R193, R268). -/
def Mach.refusedTarget (m : Mach) (n cause a : Nat) : Mach :=
  if cause = 0x0A then m.refuse n a .addrUnmapped
  else if cause = 0x0B then m.refuse n a .storeScope
  else if cause = 0x0C then m.refuse n a .writeReadOnly
  else m

/-- A fault of a memory instruction (R147): a refused target is also logged and counted where its rule says so. -/
def KCtx.memFault (k : KCtx) (m : Mach) (n : Nat) (f : Nat × Nat × Nat) : Mach :=
  k.fenced m (fun m => k.record (m.refusedTarget n f.1 f.2.2) f.1 f.2.1 f.2.2 0)

/-! ## Loads and stores -/

/-- Bytes of a width code (R138). -/
def widthBytes (c : Nat) : Nat := 2 ^ c

/-- The byte that the stores of a group on their way leave at a, if one covers it. -/
def Core.storedAt (c : Core) (slot a : Nat) : Option Byte :=
  (c.stores.filter (fun p => p.slot = slot)).foldl (fun b p =>
    if p.addr ≤ a ∧ a < p.addr + p.data.length then some (p.data.getD (a - p.addr) 0) else b) none

/-- The byte at a as a group's load sees it: its own stores on their way lie over the home (R107). A poisoned granule that they cover in part
only stays poisoned (R310, R311). -/
def Mach.overlay (m : Mach) (s L slot a : Nat) (b : PByte) : PByte :=
  match (m.core s L).storedAt slot a with
  | none => b
  | some v =>
    if b.poison = 0 ∨ (Mem.granule a).all (fun g => ((m.core s L).storedAt slot g).isSome) then ⟨v, 0⟩ else b

/-- The byte at a as another core than the one that has overwritten it in its running unit sees it: a byte of a SCRATCH buffer reads as last
committed (R69, Table TG-5). -/
def Mach.committedByte (m : Mach) (s L a : Nat) (b : PByte) : PByte :=
  ((List.range 4).findSome? (fun t => (m.stk t).cores.findSome? (fun e =>
    if t = s ∧ e.1 = L then none else SMap.find e.2.shadow a))).getD b

/-- A register loaded from bytes: poisoned when one of them is (R311). -/
def regOfBytes (a : Nat) (bs : List PByte) (v : Nat) : RegV :=
  let kd := PByte.joined bs
  if kd = 0 then { val := BitVec.ofNat 32 v } else { val := 0, poison := kd, origin := a / 8 * 8 }

/-- Bytes read at a as they reach the core of L: a granule that crossed its port otherwise than its home holds it, or that a port reset met on a port or
on the mesh, is delivered as it arrived (R287, R288, R301, R314). -/
def Mach.throughPort (m : Mach) (s L a : Nat) (bs : List PByte) : Mach × List PByte :=
  let p := m.physOf s L
  let mine (e : Nat × Nat × List PByte) : Bool := e.1 = p && decide (e.2.1 + 8 > a) && decide (e.2.1 < a + bs.length)
  let l := (m.stk s).vcp.crossed
  if l.any mine then
    (m.updStk s (fun k => { k with vcp := { k.vcp with crossed := k.vcp.crossed.filter (fun e => !mine e) } }),
      (bs.zipIdx).map (fun e =>
        match l.find? (fun x => x.1 = p && x.2.1 = (a + e.2) / 8 * 8) with
        | some x => x.2.2.getD ((a + e.2) % 8) e.1
        | none => e.1))
  else (m, bs)

/-! ## Near caches (R110, Table IN-4) -/

/-- A read of L at a may use its near cache: it is enabled, and the page is a read-only one of the core's own stack (R110, CORE_NC_STATUS). -/
def Mach.nearOn (m : Mach) (s L a : Nat) : Bool :=
  m.getB s Reg.CORE_NC_STATUS_ENABLE (m.physOf s L) && daStack a = s && (daRegion a = 0 || daRegion a = 4) && m.readOnly a

/-- The set of a line: 64 sets of 8 ways. The line number modulo 64 chooses it (DESIGN CHOICE, log entry 104: the spec names none). -/
def nearSet (line : Nat) : Nat := line % 64

/-- The row of 256 bytes that way w of a set lies in, of the 256 rows of the cache (DESIGN CHOICE, log entry 104). -/
def nearRow (set w : Nat) : Nat := (set * 8 + w) / 2

/-- The line of a near cache with a number. -/
def NearSt.find (n : NearSt) (line : Nat) : Option NearLine := n.lines.find? (fun e => e.line = line)

/-- A line leaves a near cache. -/
def NearSt.drop (n : NearSt) (line : Nat) : NearSt :=
  { lines := n.lines.filter (fun e => e.line ≠ line), cells := n.cells.clear (line * 128) (line * 128 + 128) }

/-- A line becomes the most recently used of a near cache. -/
def NearSt.touch (n : NearSt) (line : Nat) : NearSt :=
  { n with lines := n.lines.filter (fun e => e.line = line) ++ n.lines.filter (fun e => e.line ≠ line) }

/-- The way that a line takes in a near cache whose `lost` rows are disabled (Table IN-5): the lowest free one of its set, else that of the least
recently used line of the set, with that line. -/
def NearSt.place (n : NearSt) (lost : List Nat) (line : Nat) : Option (Nat × Option Nat) :=
  let own := n.lines.filter (fun e => nearSet e.line = nearSet line)
  let free := (List.range 8).find? (fun w => !lost.contains (nearRow (nearSet line) w) && !own.any (fun e => e.way = w))
  match free with
  | some w => some (w, none)
  | none => (own.getLast?).map (fun e => (e.way, some e.line))

/-- A line put into a near cache with its bytes. -/
def NearSt.keep (n : NearSt) (lost : List Nat) (line : Nat) (bs : List PByte) : NearSt :=
  match n.place lost line with
  | none => n
  | some (w, old) =>
    let n1 := match old with | some l => n.drop l | none => n
    { lines := ⟨line, w⟩ :: n1.lines, cells := n1.cells.write (line * 128) bs }

/-- The near cache of L changed. -/
def Mach.updNear (m : Mach) (s L : Nat) (f : NearSt → NearSt) : Mach := m.updCore s L (fun c => { c with near := f c.near })

/-- The rows of the near cache of a physical core that are disabled. -/
def Mach.nearLost (m : Mach) (s p : Nat) : List Nat := ((m.stk s).integ.ncRows.filter (fun e => e.1 = p)).map (·.2)

/-- The INDEX of the test of the row that holds a line of the near cache of L. -/
def Mach.nearIndex (m : Mach) (s L : Nat) (e : NearLine) : Nat := m.physOf s L + nearRow (nearSet e.line) e.way * 2 ^ 14

/-- A read of n bytes at a by the core of L, within one line: from its near cache, or at the home through its port. A miss on a read-only page brings
the line into the near cache when no byte of it is poisoned; a copy that fails its check is discarded and tested, and the home is read (R110,
R269, R287, R315, Table IN-4). -/
def Mach.coreRead (m : Mach) (s L a n : Nat) : Mach × List PByte :=
  let line := a / 128
  if !m.nearOn s L a then
    let r := m.performRead true a n
    r.1.throughPort s L a r.2
  else
    let home (m : Mach) : Mach × List PByte :=
      let r0 := m.performRead true (line * 128) 128
      let r := r0.1.throughPort s L (line * 128) r0.2
      (if r.2.all (·.poison = 0) then r.1.updNear s L (fun c => c.keep (m.nearLost s (m.physOf s L)) line r.2) else r.1, (r.2.drop (a % 128)).take n)
    let c := (m.core s L).near
    match c.find line with
    | none => home m
    | some e =>
      if c.cells.readDetects a n then home ((m.updNear s L (fun c => c.drop line)).detect s 10 (m.nearIndex s L e))
      else (m.updNear s L (fun c => c.touch line), c.cells.read a n)

/-- A read of n bytes at a by the core of L is held: its near-cache row is under test, or, when the home is read, the access is held there or by a port
reset. -/
def Mach.coreReadHeld (m : Mach) (s L a n : Nat) : Bool :=
  if m.nearOn s L a then
    match (m.core s L).near.find (a / 128) with
    | some e => (m.stk s).integ.running.any (fun t => t.kind = 10 && t.index = m.nearIndex s L e)
    | none => m.portHeld s L a || m.accessHeld true (a / 128 * 128) 128
  else m.portHeld s L a || m.accessHeld true a n

/-- The bytes at a that a load of L receives: its own stores over the home, committed bytes of other cores' SCRATCH. -/
def KCtx.loadBytes (k : KCtx) (m : Mach) (a n : Nat) : Mach × List PByte :=
  let r := m.coreRead k.s k.L a n
  (r.1, (r.2.zipIdx).map (fun e => m.overlay k.s k.L k.slot (a + e.2) (m.committedByte k.s k.L (a + e.2) e.1)))

/-- One lane's load performed, into DST. -/
def KCtx.loadLane (k : KCtx) (m : Mach) (size : Nat) (lane a : Nat) : Mach :=
  let r := k.loadBytes m a size
  let bs := r.2
  let v := PByte.num bs
  r.1.updCore k.s k.L (fun c =>
    if size < 4 then
      let x := if bit k.w 45 then ofSigned 32 (toSigned (8 * size) v) else v
      c.setReg k.slot lane (Iw.dst k.w) (regOfBytes a bs x)
    else
      (List.range (size / 4)).foldl (fun c i =>
        c.setReg k.slot lane (Iw.dst k.w + i) (regOfBytes (a + 4 * i) ((bs.drop (4 * i)).take 4) (bits v (32 * i) 32))) c)

/-- One lane's load from a stack of the part that no route reaches any more: LINK poison (R355, R364). -/
def KCtx.loadLost (k : KCtx) (m : Mach) (size : Nat) (lane a : Nat) : Mach :=
  m.updCore k.s k.L (fun c => (List.range (max 1 (size / 4))).foldl (fun c i =>
    c.setReg k.slot lane (Iw.dst k.w + i) (regOfBytes (a + 4 * i) [⟨0, 3⟩] 0)) c)

/-- The loads of the lanes in order, on a part of n stacks. -/
def KCtx.loadLanes (k : KCtx) (m : Mach) (n size : Nat) (fs : List (Nat × Nat)) : Mach :=
  fs.foldl (fun m e => if m.cut n k.s (daStack e.2) then k.loadLost m size e.1 e.2 else k.loadLane m size e.1 e.2) m

/-- LD: each lane reads at the home of its bytes (R104, R138, R311). It waits while one of the accesses is held. -/
def execLd (a : KInstr) (s : State) : Out :=
  let n := s.fuse.part.stackCount
  kernel a s 9 0x00 (fun k m =>
    let size := widthBytes (bits k.w 42 3)
    let fs := k.lanes.map (fun l => (l, k.form m l (memOffset k.w k.x false false)))
    match firstFault (fs.flatMap (fun e => k.accessFaults m n 8 size none e.1 e.2)) with
    | some f => k.memFault m n f
    | none =>
      if fs.any (fun e => m.coreReadHeld k.s k.L e.2.addr size) then m
      else k.next (k.loadLanes m n size (fs.map (fun e => (e.1, e.2.addr)))))

/-- ST: each lane's store is on its way to its home (R105, R139); one to a stack that no route reaches any more is lost with its route (R364). -/
def execSt (a : KInstr) (s : State) : Out :=
  let n := s.fuse.part.stackCount
  kernel a s 9 0x01 (fun k m =>
    let c := bits k.w 42 3
    let size := widthBytes c
    let fs := k.lanes.map (fun l => (l, k.form m l (memOffset k.w k.x false false)))
    match firstFault (fs.flatMap (fun e => k.accessFaults m n 8 size (some false) e.1 e.2)) with
    | some f => k.memFault m n f
    | none =>
      let new := (fs.filter (fun e => !m.cut n k.s (daStack e.2.addr))).map (fun e =>
        (⟨k.slot, e.2.addr, leBytes size (k.get m e.1 (Iw.srcB k.w) (widthRegs c))⟩ : PStore))
      k.next (m.updCore k.s k.L (fun c => { c with stores := c.stores ++ new })))

/-! ## CACHE.DEAD and the fences -/

/-- CACHE.DEAD: declarations staged until commit, one per distinct line in ascending order of its lowest lane (R143). -/
def execCacheDead (a : KInstr) (s : State) : Out :=
  let n := s.fuse.part.stackCount
  kernel a s 12 0x00 (fun k m =>
    let fs := k.lanes.map (fun l => (l, k.form m l (memOffset k.w k.x false false)))
    let faults := fs.flatMap (fun e =>
      (if e.2.addr % 128 ≠ 0 then [(0x08, e.1, e.2.addr)] else []) ++
      match e.2 with
      | .bad a => [(0x0A, e.1, a)]
      | .ok a =>
        if readDeny (.kernel k.L) (m.place n a) ≠ none then [(0x0A, e.1, a)]
        else (if m.readOnly a then [(0x0C, e.1, a)] else []) ++ (if daRegion a ≠ 4 then [(0x0D, e.1, a)] else []))
    match firstFault faults with
    | some f => if f.1 = 0x0D then k.fault m f.1 f.2.1 f.2.2 else k.memFault m n f
    | none =>
      k.next (m.updCore k.s k.L (fun c => { c with staged := c.staged ++ (fs.map (fun e => e.2.addr)).eraseDups.map Staged.dead })))

/-- FENCE.CORE: the group's earlier accesses are performed for all threads of the core (R108). -/
def execFenceCore (a : KInstr) (s : State) : Out := kernel a s 11 0x06 (fun k m => k.fenced m k.next)

/-- FENCE.STACK: the group's earlier accesses are performed at their homes (R108). -/
def execFenceStack (a : KInstr) (s : State) : Out := kernel a s 11 0x07 (fun k m => k.fenced m k.next)

/-- FENCE.SYSTEM: as FENCE.STACK; the acknowledgements of remote homes are theirs too (R108). -/
def execFenceSystem (a : KInstr) (s : State) : Out := kernel a s 11 0x08 (fun k m => k.fenced m k.next)

end Sys2Proof.Machine
end

