-- ==== Sys2Proof/Machine/Atom.lean ====
section
/-! DEFINITION. Atomic instructions: combining, the journal, requests on their way, ordered atomics (R70, R113 to R116, R140). -/

namespace Sys2Proof.Machine

/-- The operation of an OP value of the ATOM class (R140). -/
def AOp.ofOp (o : Nat) : AOp :=
  match o with
  | 0 => .add | 1 => .minS | 2 => .minU | 3 => .maxS | 4 => .maxU | 5 => .and | 6 => .or | 7 => .xor | 8 => .xch | 9 => .cas
  | _ => .fadd

/-- What one lane leaves in the location: W bits, the value there, its operand, and CAS's new value (Table TG-6). -/
def AOp.apply (op : AOp) (W cur x new : Nat) : Nat :=
  match op with
  | .add => (cur + x) % 2 ^ W
  | .minS => if toSigned W x < toSigned W cur then x else cur
  | .minU => min cur x
  | .maxS => if toSigned W cur < toSigned W x then x else cur
  | .maxU => max cur x
  | .and => cur &&& x
  | .or => cur ||| x
  | .xor => cur ^^^ x
  | .xch => x
  | .cas => if cur = x then new else cur
  | .fadd => f32Add .near cur x

/-- The pairwise tree of FADD over leaves lo to lo + 2^lvl − 1, a leaf without a lane skipped (R114). -/
def faddTree (leaf : Nat → Option Nat) : Nat → Nat → Option Nat
  | 0, lo => leaf lo
  | lvl + 1, lo =>
    match faddTree leaf lvl lo, faddTree leaf lvl (lo + 2 ^ lvl) with
    | some a, some b => some (f32Add .near a b)
    | some a, none => some a
    | none, b => b

/-- The operand of a lane of a request. -/
def leafOf (lanes : List (Nat × Nat × Nat)) (l : Nat) : Option Nat := (lanes.find? (fun e => e.1 = l)).map (fun e => e.2.1)

/-- old + T for a partial sum T of the tree; old when no lane is in it (R114). -/
def faddWith (old : Nat) (t : Option Nat) : Nat :=
  match t with
  | some x => f32Add .near old x
  | none => old

/-- The value a request leaves, and what each of its lanes receives (R114). -/
def combine (op : AOp) (W old : Nat) (lanes : List (Nat × Nat × Nat)) : Nat × List (Nat × Nat) :=
  match op with
  | .fadd =>
    (faddWith old (faddTree (leafOf lanes) 5 0),
      lanes.map (fun e => (e.1, faddWith old (faddTree (fun l => if l < e.1 then leafOf lanes l else none) 5 0))))
  | _ => lanes.foldl (fun t e => (op.apply W t.1 e.2.1 e.2.2, t.2 ++ [(e.1, t.1)])) (old, [])

/-- Requests, one per distinct location in ascending order of the lowest lane that addresses it (R114): lanes with their address,
operand and new value. -/
def requestsOf : Nat → List (Nat × Nat × Nat × Nat) → List (Nat × List (Nat × Nat × Nat))
  | 0, _ => []
  | fuel + 1, l =>
    match l with
    | [] => []
    | e :: _ =>
      (e.2.1, (l.filter (fun f => f.2.1 = e.2.1)).map (fun f => (f.1, f.2.2.1, f.2.2.2))) ::
        requestsOf fuel (l.filter (fun f => f.2.1 ≠ e.2.1))

/-- The journal's record of a key (R70). -/
def Core.recorded (c : Core) (block group n : Nat) : Option Nat :=
  (c.journal.find? (fun e => e.block = block && e.group = group && e.n = n)).map (·.value)

/-- CORE_ATOMIC_STATUS kept in step with the journal. -/
def Mach.syncJournal (m : Mach) (s L : Nat) : Mach :=
  let p := m.physOf s L
  let n := (m.core s L).journal.length
  (m.setF s Reg.CORE_ATOMIC_STATUS_JOURNAL_USED n p).setF s Reg.CORE_ATOMIC_STATUS_JOURNAL_PEAK
    (max n (m.getF s Reg.CORE_ATOMIC_STATUS_JOURNAL_PEAK p)) p

/-- The values received written to DST, and the group goes on. -/
def Mach.atomFinish (m : Mach) (s L slot : Nat) (a : AInstr) : Mach :=
  let n := if a.wide then 2 else 1
  let m1 := m.updCore s L (fun c =>
    let c1 := a.got.foldl (fun c e => c.setOperand slot e.1 a.dst n e.2) { c with atoms := SMap.erase c.atoms slot }
    a.dead.foldl (fun c e => (List.range n).foldl (fun c i => c.setReg slot e.1 (a.dst + i) { val := 0, poison := 4, origin := e.2 }) c) c1)
  m1.updGroup s L slot (fun g => { g with wait := .none, ordered := false }.goto (g.pc + a.size))

/-- The next request of an atomic instruction performed at its home (R115): the group's earlier stores first (R106, R107), then its journal record
and the lanes' values; after the last one the ordered form signals its object at once, and the instruction ends. Poison at the location aborts the
unit (R312); a dead line gives the old value 0 with DEAD_READ poison and takes the result as a write does (R277). -/
def Mach.atomPerform (m : Mach) (s L slot : Nat) : Mach :=
  match SMap.find (m.core s L).atoms slot, SMap.find (m.core s L).groups slot with
  | some a, some g =>
    match a.reqs with
    | [] => m
    | r :: rest =>
      let W := if a.wide then 64 else 32
      let size := W / 8
      let d := m.drain ((m.core s L).stores.length + 1) s L slot
      if (a.ord.isSome && !g.ordered) then m
      else if !d.2 ∨ d.1.portHeld s L r.addr ∨ d.1.accessHeld true r.addr size true then d.1
      else
        let dead := decide (daRegion r.addr = 4) && d.1.isDead (daStack r.addr) (daOff r.addr / 128)
        let rd := d.1.performRead true r.addr size
        let kd := PByte.joined rd.2
        if kd ≠ 0 ∧ !dead then rd.1.consume s L kd [r.addr / 8 * 8]
        else
          let old := PByte.num rd.2
          let res := combine a.op W old r.lanes
          let m0 := if r.n.isNone then rd.1.keepCommitted s L r.addr size else rd.1
          let m1 := m0.performWrite false r.addr (PByte.clean (leBytes size res.1))
          let m2 :=
            match r.n with
            | some n => (m1.updCore s L (fun c => { c with journal := c.journal ++ [(⟨g.block, g.index, n, old⟩ : JEntry)] })).syncJournal s L
            | none => m1
          let a' := { a with
            reqs := rest, got := a.got ++ res.2
            dead := if dead then a.dead ++ r.lanes.map (fun e => (e.1, r.addr / 8 * 8)) else a.dead }
          if rest = [] then
            let m3 := m2.atomFinish s L slot a'
            match a.ord with
            | some (o, _) => (m3.syncWaiters s o).applySignals s o [(1, 0)]
            | none => m3
          else m2.updCore s L (fun c => { c with atoms := SMap.put c.atoms slot a' })
  | _, _ => m

/-- The operation of an atomic instruction, whether it is of 64 bits, its registers per operand, and its bytes. -/
def KCtx.atomOp (k : KCtx) : AOp := AOp.ofOp (Iw.op k.w)
def KCtx.atomWide (k : KCtx) : Bool := decide (bits k.w 42 3 = 3)
def KCtx.atomRegs (k : KCtx) : Nat := if k.atomWide then 2 else 1

/-- The address of each acting lane. -/
def KCtx.atomForms (k : KCtx) (m : Mach) (ord : Bool) : List (Nat × Formed) :=
  k.lanes.map (fun l => (l, k.form m l (memOffset k.w k.x (decide (k.atomOp = .cas)) ord)))

/-- The requests that it sends, one per location (R114), and the group's count of journalled ones after it: those to a buffer of the core's own
have no number (R70). -/
def KCtx.atomReqs (k : KCtx) (m : Mach) (ord : Bool) : Nat × List AReq :=
  let ops := (k.atomForms m ord).map (fun e =>
    (e.1, e.2.addr, k.get m e.1 (Iw.srcB k.w) k.atomRegs, if k.atomOp = .cas then k.get m e.1 (Iw.srcC k.w) k.atomRegs else 0))
  (requestsOf 33 ops).foldl (fun (t : Nat × List AReq) e =>
    if m.inBuf k.s 3 e.1 (4 * k.atomRegs) (some (coreWord k.s k.L)) then (t.1, t.2 ++ [⟨e.1, e.2, none⟩])
    else (t.1 + 1, t.2 ++ [⟨e.1, e.2, some t.1⟩])) (k.g.atomN, [])

/-- The value that the journal holds for a request of a replayed unit (R70). -/
def KCtx.atomKnown (k : KCtx) (m : Mach) (r : AReq) : Option Nat := r.n.bind (fun n => (m.core k.s k.L).recorded k.g.block k.g.index n)

/-- The handle of the sync object of an ordered atomic, in the lowest acting lane (R140). -/
def KCtx.atomHandle (k : KCtx) (m : Mach) : Nat := k.get m (k.lowest.getD 0) (bits k.x 48 8) 1

/-- The fault that an atomic instruction meets, if it meets one (Table KF-15); a part of n stacks. -/
def KCtx.atomFault (k : KCtx) (m : Mach) (n : Nat) (ord : Bool) : Option (Nat × Nat × Nat) :=
  let c := m.core k.s k.L
  let fs := k.atomForms m ord
  let low := k.lowest.getD 0
  let fresh := ((k.atomReqs m ord).2.filter (fun r => r.n.isSome && (k.atomKnown m r).isNone)).length
  let flying := c.atoms.foldl (fun (t : Nat) (e : Nat × AInstr) => t + (e.2.reqs.filter (fun r => r.n.isSome)).length) 0
  firstFault (fs.flatMap (fun e => k.accessFaults m n 9 (4 * k.atomRegs) (some true) e.1 e.2 ++
      (if k.atomOp = .fadd ∧ !ord ∧ !bit (m.plan k.s).determinism 0 then [(0x0E, e.1, e.2.addr)] else [])) ++
    (if c.journal.length + flying + fresh > 512 then [(0x0F, low, ((fs.head?).map (fun e => e.2.addr)).getD 0)] else []) ++
    (if ord ∧ k.lanes ≠ [] ∧ handleObj (k.atomHandle m) < 64 then [(0x10, low, k.atomHandle m)] else []))

/-- The instruction as it waits for its requests: those that the journal does not hold, and the values received already (R70). -/
def KCtx.atomInstr (k : KCtx) (m : Mach) (ord : Bool) : AInstr :=
  let reqs := (k.atomReqs m ord).2
  { op := k.atomOp, wide := k.atomWide, mask := k.mask, dst := Iw.dst k.w, size := k.size
    reqs := reqs.filter (fun r => (k.atomKnown m r).isNone)
    got := reqs.flatMap (fun r =>
      match k.atomKnown m r with
      | some old => (combine k.atomOp (32 * k.atomRegs) old r.lanes).2
      | none => [])
    ord := if ord then some (handleObj (k.atomHandle m), k.x % 2 ^ 48) else none }

/-- An atomic instruction issues (R70, R114, R116, R140): its requests are formed and counted; recorded ones return their values; the
others go to their homes, an ordered one's after its ticket has come. One that no lane takes part in sends nothing, so it neither waits nor signals
(DESIGN CHOICE, log entry 108). -/
def KCtx.atomic (k : KCtx) (m : Mach) (n : Nat) (ord : Bool) : Mach :=
  match k.atomFault m n ord with
  | some f => if f.1 ≤ 0x0C then k.memFault m n f else k.fault m f.1 f.2.1 f.2.2
  | none =>
    let a := k.atomInstr m ord
    let o := handleObj (k.atomHandle m)
    let count := (k.atomReqs m ord).1
    let m1 := (m.updCore k.s k.L (fun c => { c with atomNs := SMap.put c.atomNs (k.g.block * 32 + k.g.index) count })).updGroup k.s k.L k.slot
      (fun g => { g with atomN := count })
    if a.reqs = [] then m1.atomFinish k.s k.L k.slot a
    else
      let m2 := (m1.updCore k.s k.L (fun c => { c with atoms := SMap.put c.atoms k.slot a })).updGroup k.s k.L k.slot
        (fun g => { g with wait := .atomic, ordered := ord && decide (m.count k.s o = k.x % 2 ^ 48) })
      if ord then m2.syncWaiters k.s o else m2

/-- ATOM.ADD (R113, R114, R140). -/
def execAtomAdd (a : KInstr) (s : State) : Out :=
  kernel a s 10 0x00 (fun k m => k.atomic m s.fuse.part.stackCount false) (some false)

/-- ATOM.MIN.S (R113, R114, R140). -/
def execAtomMinS (a : KInstr) (s : State) : Out :=
  kernel a s 10 0x01 (fun k m => k.atomic m s.fuse.part.stackCount false) (some false)

/-- ATOM.MIN.U (R113, R114, R140). -/
def execAtomMinU (a : KInstr) (s : State) : Out :=
  kernel a s 10 0x02 (fun k m => k.atomic m s.fuse.part.stackCount false) (some false)

/-- ATOM.MAX.S (R113, R114, R140). -/
def execAtomMaxS (a : KInstr) (s : State) : Out :=
  kernel a s 10 0x03 (fun k m => k.atomic m s.fuse.part.stackCount false) (some false)

/-- ATOM.MAX.U (R113, R114, R140). -/
def execAtomMaxU (a : KInstr) (s : State) : Out :=
  kernel a s 10 0x04 (fun k m => k.atomic m s.fuse.part.stackCount false) (some false)

/-- ATOM.AND (R113, R114, R140). -/
def execAtomAnd (a : KInstr) (s : State) : Out :=
  kernel a s 10 0x05 (fun k m => k.atomic m s.fuse.part.stackCount false) (some false)

/-- ATOM.OR (R113, R114, R140). -/
def execAtomOr (a : KInstr) (s : State) : Out :=
  kernel a s 10 0x06 (fun k m => k.atomic m s.fuse.part.stackCount false) (some false)

/-- ATOM.XOR (R113, R114, R140). -/
def execAtomXor (a : KInstr) (s : State) : Out :=
  kernel a s 10 0x07 (fun k m => k.atomic m s.fuse.part.stackCount false) (some false)

/-- ATOM.XCH (R113, R114, R140). -/
def execAtomXch (a : KInstr) (s : State) : Out :=
  kernel a s 10 0x08 (fun k m => k.atomic m s.fuse.part.stackCount false) (some false)

/-- ATOM.CAS (R113, R114, R140). -/
def execAtomCas (a : KInstr) (s : State) : Out :=
  kernel a s 10 0x09 (fun k m => k.atomic m s.fuse.part.stackCount false) (some false)

/-- ATOM.FADD (R113, R114, R140). -/
def execAtomFadd (a : KInstr) (s : State) : Out :=
  kernel a s 10 0x0A (fun k m => k.atomic m s.fuse.part.stackCount false) (some false)

/-- ATOM.ORD: any atomic operation, after its ticket has come (R116, R140). -/
def execAtomOrd (a : KInstr) (s : State) : Out :=
  kernel a s 10 0x00 (fun k m => k.atomic m s.fuse.part.stackCount true) (some true)

end Sys2Proof.Machine
end

