-- ==== Sys2Proof/Machine/Desc.lean ====
section
/-! DEFINITION. Solo forms (R145): the descriptors of all issuing lanes are read and checked before the first lane issues. -/

namespace Sys2Proof.Machine

/-- The address of a lane's descriptor: a device address, or a local-memory offset when MOD bit 46 is set (R145). -/
def KCtx.descForm (k : KCtx) (m : Mach) (lane : Nat) : Formed :=
  if bit k.w 46 then
    let o := k.a m lane 1
    if o ≥ 0x8_0000 then .bad o else .ok (localAddr k.s (m.homeOfIndex k.s k.L) o)
  else
    let a := k.a m lane 2
    if a ≥ 2 ^ 52 then .bad (a % 2 ^ 52) else .ok a

/-- A descriptor read in a lane: the lane, its address, whether the address is populated, and its 64 bytes. -/
structure DescRead where
  lane : Nat
  addr : Nat
  ok   : Bool
  bytes : List PByte

/-- The descriptors of lanes read in ascending lane order; a part with n stacks. -/
def KCtx.readDescs (k : KCtx) (m : Mach) (n : Nat) (lanes : List Nat) : Mach × List DescRead :=
  lanes.foldl (fun t l =>
    match k.descForm t.1 l with
    | .bad a => (t.1, t.2 ++ [⟨l, a, false, []⟩])
    | .ok a =>
      if readDeny (.kernel k.L) (t.1.place n a) ≠ none then (t.1, t.2 ++ [⟨l, a, false, []⟩])
      else
        let r := k.loadBytes t.1 a 64
        (r.1, t.2 ++ [⟨l, a, true, r.2⟩])) (m, [])

/-- Whether the read of a lane's descriptor is held at its home. -/
def KCtx.descsHeld (k : KCtx) (m : Mach) (lanes : List Nat) : Bool := lanes.any (fun l => m.coreReadHeld k.s k.L (k.descForm m l).addr 64)

/-- The poison that descriptors carry: kind and granule address. -/
def descPoison (l : List DescRead) : List (Nat × Nat) :=
  l.flatMap (fun d => (d.bytes.zipIdx).filterMap (fun e => if e.1.poison ≠ 0 then some (e.1.poison, (d.addr + e.2) / 8 * 8) else none))

/-- The lowest lane whose descriptor fails its check, each lane's check taking account of the lanes before it (R145). -/
def descFault {σ : Type} (chk : σ → List Byte → Option σ) : σ → List DescRead → List (Nat × Nat × Nat)
  | _, [] => []
  | st, d :: r =>
    if !d.ok then descFault chk st r
    else if d.addr % 64 ≠ 0 then [(0x11, d.lane, d.addr)]
    else
      match chk st (PByte.vals d.bytes) with
      | none => [(0x11, d.lane, d.addr)]
      | some st' => descFault chk st' r

/-- The detections of the granules of a list (kind, address) (R315). -/
def Mach.detectAll (m : Mach) (l : List (Nat × Nat)) : Mach := (l.map (·.2)).eraseDups.foldl (fun m a => m.detectHome a 8) m

/-- A solo form: descriptors read, poison consumed, checks made, then each lane issues once in ascending order (R145). The group's
earlier stores are performed first (R147). `go` says how the group goes on after its lanes; `more` is poison that a descriptor's lists carry. -/
def KCtx.solo {σ : Type} (k : KCtx) (m : Mach) (n : Nat) (st : σ) (chk : Mach → σ → List Byte → Option σ) (iss : Mach → List Byte → Mach)
    (go : Mach → Mach := k.next) (more : Mach → List Byte → List (Nat × Nat) := fun _ _ => []) : Mach :=
  k.fenced m (fun m =>
    if k.descsHeld m k.lanes then m
    else
      let r := k.readDescs m n k.lanes
      let q := r.2.flatMap (fun d => more r.1 (PByte.vals d.bytes))
      let p := descPoison r.2 ++ q
      if p ≠ [] then k.consume (r.1.detectAll q) p
      else
        let bad := (r.2.filter (fun d => !d.ok)).map (fun d => (0x0A, d.lane, d.addr))
        match firstFault (bad ++ descFault (chk r.1) st r.2) with
        | some f => if f.1 = 0x0A then k.memFault r.1 n f else k.fault r.1 f.1 f.2.1 f.2.2
        | none => go (r.2.foldl (fun m d => iss m (PByte.vals d.bytes)) r.1))

/-- Whether bytes lo to 63 of a descriptor are all zero. -/
def zeroFrom (bs : List Byte) (lo : Nat) : Bool := (bs.drop lo).all (· = 0)

/-- Whether `count` rows of `size` bytes at stride from `base` end below the top of local memory. -/
def localFits (base count stride size : Nat) : Bool := decide (base + (count - 1) * stride + size ≤ 0x8_0000)

end Sys2Proof.Machine
end

