-- ==== Sys2Proof/Machine/MxArith.lean ====
section
/-! DEFINITION. The arithmetic of the matrix array and of accumulator memory: elements and scales (R157, R159), the trees and the root
(R160 to R164), the checksum column (R177 to R180), accumulation and drains (R187, R190, R194, R196, R174). -/

namespace Sys2Proof.Machine

/-! ## Formats (Table MX-3, Table MX-4) -/

/-- W48 (R187). -/
def Fmt.w48 : Fmt := ⟨39, 8, 127, true⟩

/-- Element width in bits (Table MX-3). -/
def mxWidth (f : Nat) : Nat :=
  match f with
  | 0 | 1 | 2 | 3 | 6 => 8
  | 4 | 5 => 6
  | 8 | 9 => 4
  | 7 | 10 | 11 => 16
  | _ => 32

/-- The row of Table MX-4 that a format belongs to. -/
def mxClass (f : Nat) : Nat :=
  match f with
  | 0 | 1 | 7 => 0
  | 2 | 3 | 4 | 5 => 1
  | 6 => 2
  | 8 => 3
  | 9 => 4
  | 10 => 5
  | 11 => 6
  | 12 => 7
  | 13 => 8
  | _ => 9

/-- Formats with E8M0 scales. -/
def mxScaled (f : Nat) : Bool := (2 ≤ f && f ≤ 5) || f == 8
/-- The 4-bit class. -/
def mxFour (f : Nat) : Bool := f == 8 || f == 9
/-- Integer formats. -/
def mxInt (f : Nat) : Bool := f == 6 || f == 9 || f == 11
/-- Complex BF16. -/
def mxComplex (f : Nat) : Bool := f == 13
/-- Tile K (Table MX-1). -/
def mxK (f : Nat) : Nat := if mxFour f then 64 else 32

/-- An element of a format without infinities and NaNs: FP6 and FP4. -/
def plainElem (man expo bias c : Nat) : Fv :=
  let neg := bit c (man + expo)
  let ex := bits c man expo
  let mn := bits c 0 man
  let emin : Int := 1 - (bias : Int) - (man : Int)
  if ex = 0 then .fin neg mn emin else .fin neg (2 ^ man + mn) (emin + ex - 1)

/-- The value of an element code of a floating format; of one part of a complex element. -/
def mxElem (f c : Nat) : Fv :=
  match f with
  | 0 | 2 => Fmt.e4m3.decode c
  | 1 | 3 => Fmt.e5m2.decode c
  | 4 => plainElem 2 3 3 c
  | 5 => plainElem 3 2 1 c
  | 7 | 13 => Fmt.bf16.decode c
  | 8 => plainElem 1 2 1 c
  | 10 => Fmt.fp16.decode c
  | _ => Fmt.fp32.decode c

/-- The value of an element code of an integer format. -/
def mxIntElem (f c : Nat) : Int := toSigned (mxWidth f) c

/-- Elements of a packed row (R155): n elements of w bits of a little-endian bit string. -/
def unpackRow (w n : Nat) (bs : List Byte) : List Nat :=
  let v := ofLeBytes bs
  (List.range n).map (fun j => bits v (w * j) w)

/-- Bytes of a row of n elements of w bits. -/
def rowBytes (w n : Nat) : Nat := (n * w + 7) / 8

/-- Multiplication by 2^(s − 127) for a scale byte s; 0xFF stands for NaN (R159). -/
def scaleBy (s : Nat) (v : Fv) : Fv :=
  if s = 255 then .nan
  else
    match v with
    | .fin n m e => .fin n m (e + (s : Int) - 127)
    | x => x

/-! ## T36 and the trees (R161) -/

/-- A value rounded to p significant bits, exponent unbounded. -/
def roundSig (p : Nat) (rnd : Rnd) (v : Fv) : Fv :=
  match v with
  | .fin neg m e =>
    let k := bitLen m
    if k ≤ p then v
    else
      let sh := k - p
      let q := m / 2 ^ sh
      .fin neg (if Fmt.roundsUp rnd neg q (m % 2 ^ sh) sh then q + 1 else q) (e + sh)
  | x => x

/-- One level of a pairwise tree. -/
def pairUp {α : Type} (f : α → α → α) : List α → List α
  | a :: b :: r => f a b :: pairUp f r
  | l => l

/-- A pairwise tree of five levels over 32 values (R161). -/
def tree32 {α : Type} (f : α → α → α) (l : List α) : List α := iter (pairUp f) 5 l

/-- The sum of 32 cell values: rounded to p bits on entry and at every node. -/
def treeSum (p : Nat) (rnd : Rnd) (l : List Fv) : Fv :=
  (tree32 (fun a b => roundSig p rnd (Fv.add .near a b)) (l.map (roundSig p rnd))).headD (.fin false 0 0)

/-- The exact sum of values. -/
def exactSum (l : List Fv) : Fv := l.foldl (Fv.add .near) (.fin true 0 0)

/-! ## The row of a stream (R152, R160 to R164) -/

/-- The weight codes of column n, k rows 0 to K − 1; zero outside K_ROWS and N_COLS (R164). -/
def Bank.weight (b : Bank) (k n : Nat) : Nat := (b.rows.getD k []).getD n 0

/-- The B scale of a column in a block of 32 k. -/
def Bank.scale (b : Bank) (n blk : Nat) : Nat := b.scales.getD (blk * 64 + n) 0

/-- The products of a slot: k rows 32 blk to 32 blk + 31 against weights w. -/
def slotProducts (f g : Nat) (a : List Nat) (w : Nat → Nat) (blk : Nat) : List Fv :=
  (List.range 32).map (fun i => Fv.mul (mxElem f (a.getD (32 * blk + i) 0)) (mxElem g (w (32 * blk + i))))

/-- One column of a floating pair: the tree of each slot, scaled, slots added in T36 (R161, R163). sa are the A scales of the row. -/
def fpColumn (b : Bank) (f : Nat) (a : List Nat) (sa : List Nat) (n : Nat) : Fv :=
  let slot (blk : Nat) : Fv :=
    let t := treeSum 36 .near (slotProducts f b.fmt a (fun k => b.weight k n) blk)
    if mxScaled f then scaleBy (b.scale n blk) (scaleBy (sa.getD blk 0) t) else t
  if mxFour f then roundSig 36 .near (Fv.add .near (slot 0) (slot 1)) else slot 0

/-- One column of an integer pair: the exact sum. -/
def intColumn (b : Bank) (f : Nat) (a : List Nat) (n : Nat) : Int :=
  (List.range (mxK f)).foldl (fun t k => t + mxIntElem f (a.getD k 0) * mxIntElem b.fmt (b.weight k n)) 0

/-- Real and imaginary part of a complex code. -/
def cRe (c : Nat) : Nat := bits c 0 16
def cIm (c : Nat) : Nat := bits c 16 16

/-- The exact parts of a complex product (R160). -/
def cMul (ar ai br bi : Fv) : Fv × Fv :=
  (Fv.add .near (Fv.mul ar br) (Fv.mul ai bi).neg, Fv.add .near (Fv.mul ar bi) (Fv.mul ai br))

/-- One column of a complex pair: the trees of both parts. -/
def cColumn (b : Bank) (a : List Nat) (n : Nat) : Fv × Fv :=
  let ps := (List.range 32).map (fun k =>
    let x := a.getD k 0
    let y := b.weight k n
    cMul (mxElem 13 (cRe x)) (mxElem 13 (cIm x)) (mxElem 13 (cRe y)) (mxElem 13 (cIm y)))
  (treeSum 36 .near (ps.map (·.1)), treeSum 36 .near (ps.map (·.2)))

/-- The accumulator format of an ACC_FMT code: 0 FP32, 2 W48 (1 is INT32). -/
def accFmtOf (c : Nat) : Fmt := if c = 2 then .w48 else .fp32

/-- What the root delivers for a row: 64 values, or 64 real and then 64 imaginary parts; before the last rounding, and the codes. An
integer value's code is the value itself. -/
structure Root where
  ints  : List Int := []
  exact : List Fv := []
  codes : List Nat := []

/-- The row of activation codes `a` with A scales `sa` through the array (R152, R163); codes at or above K_ROWS count as zero (R164),
columns at or above N_COLS deliver +0. -/
def Bank.row (b : Bank) (f accFmt : Nat) (a sa : List Nat) : Root :=
  let a := a.take b.kRows
  if mxInt f then
    { ints := (List.range 64).map (fun n => if n < b.nCols then intColumn b f a n else 0) }
  else if mxComplex f then
    let l := (List.range 64).map (fun n => if n < b.nCols then cColumn b a n else (.fin false 0 0, .fin false 0 0))
    let e := l.map (·.1) ++ l.map (·.2)
    { exact := e, codes := e.map ((accFmtOf accFmt).encode .near) }
  else
    let e := (List.range 64).map (fun n => if n < b.nCols then fpColumn b f a sa n else .fin false 0 0)
    { exact := e, codes := e.map ((accFmtOf accFmt).encode .near) }

/-! ## The checksum column (R177 to R180) -/

/-- The signed and absolute sums of k row k of a floating tile as W48 codes (R177). -/
def Bank.sumsF (b : Bank) (k : Nat) : Nat × Nat × Nat :=
  let cols := List.range b.nCols
  let sc (n : Nat) (v : Fv) : Fv := if mxScaled b.fmt then scaleBy (b.scale n (k / 32)) v else v
  if mxComplex b.fmt then
    let re := cols.map (fun n => mxElem 13 (cRe (b.weight k n)))
    let im := cols.map (fun n => mxElem 13 (cIm (b.weight k n)))
    (Fmt.w48.encode .near (exactSum re), Fmt.w48.encode .near (exactSum im),
      Fmt.w48.encode .up (exactSum (re.map Fv.abs ++ im.map Fv.abs)))
  else
    let v := cols.map (fun n => sc n (mxElem b.fmt (b.weight k n)))
    (Fmt.w48.encode .near (exactSum v), 0, Fmt.w48.encode .up (exactSum (v.map Fv.abs)))

/-- The bank with its checksum cells filled (R177). -/
def Bank.withSums (b : Bank) : Bank :=
  if mxInt b.fmt then
    let sum (v : Int → Int) (k : Nat) : Int := (b.rows.getD k []).foldl (fun t c => t + v (mxIntElem b.fmt c)) 0
    { b with sigmaI := (List.range b.kRows).map (sum id), alphaI := (List.range b.kRows).map (sum (fun x => x.natAbs)) }
  else { b with sigmaF := (List.range b.kRows).map b.sumsF }

/-- The sums of k row k as values. -/
def Bank.sigma (b : Bank) (k : Nat) : Fv × Fv × Fv :=
  match b.sigmaF[k]? with
  | some s => (Fmt.w48.decode s.1, Fmt.w48.decode s.2.1, Fmt.w48.decode s.2.2)
  | none => (.fin false 0 0, .fin false 0 0, .fin false 0 0)

/-- What the checksum column computes for a row of a floating pair: C of the real part, C of the imaginary part, A_abs (R178). -/
def Bank.check (b : Bank) (f : Nat) (a sa : List Nat) : Fv × Fv × Fv :=
  let a := a.take b.kRows
  let zero : Fv := .fin false 0 0
  if mxComplex f then
    let el (k : Nat) : Fv × Fv := (mxElem 13 (cRe (a.getD k 0)), mxElem 13 (cIm (a.getD k 0)))
    let ps := (List.range 32).map (fun k => cMul (el k).1 (el k).2 (b.sigma k).1 (b.sigma k).2.1)
    let ab := (List.range 32).map (fun k => Fv.mul (Fv.add .near (el k).1.abs (el k).2.abs) (b.sigma k).2.2)
    (treeSum 48 .near (ps.map (·.1)), treeSum 48 .near (ps.map (·.2)), treeSum 48 .up ab)
  else
    let el (k : Nat) : Fv := mxElem f (a.getD k 0)
    let slot (rnd : Rnd) (v : Nat → Fv) (blk : Nat) : Fv :=
      let t := treeSum 48 rnd ((List.range 32).map (fun i => v (32 * blk + i)))
      if mxScaled f then scaleBy (sa.getD blk 0) t else t
    let c := fun k => Fv.mul (el k) (b.sigma k).1
    let ab := fun k => Fv.mul (el k).abs (b.sigma k).2.2
    if mxFour f then
      (roundSig 48 .near (Fv.add .near (slot .near c 0) (slot .near c 1)), zero,
        roundSig 48 .up (Fv.add .near (slot .up ab 0) (slot .up ab 1)))
    else (slot .near c 0, zero, slot .up ab 0)

/-- What the checksum column computes for a row of an integer pair: C and A_abs, both exact (R178). -/
def Bank.checkInt (b : Bank) (f : Nat) (a : List Nat) : Int × Int :=
  (List.range b.kRows).foldl (fun t k =>
    let x := mxIntElem f (a.getD k 0)
    (t.1 + x * b.sigmaI.getD k 0, t.2 + x.natAbs * b.alphaI.getD k 0)) (0, 0)

/-- A value that is a number. -/
def Fv.finite : Fv → Bool
  | .fin _ _ _ => true
  | _ => false

def Fv.isNaN : Fv → Bool
  | .nan => true
  | _ => false

/-- ulp of the largest magnitude among values of a format (R180). -/
def ulpOf (fm : Fmt) (l : List Fv) : Fv :=
  let x := l.foldl (fun (b : Option Int) v =>
    match v with
    | .fin _ m e => if m = 0 then b else
        let k := e + (bitLen m : Int) - 1
        some (match b with | none => k | some y => max y k)
    | _ => b) none
  let eminN : Int := 1 - (fm.bias : Int)
  .fin false 1 ((match x with | none => eminN | some k => max k eminN) - fm.man)

/-- Whether one part of a row matches: |C − Y| ≤ 2^-30 × A_abs + 64 × ulp(y_max) (R180). -/
def partMatches (fm : Fmt) (c aabs : Fv) (vals : List Fv) : Bool :=
  let r := (Fv.add .near c (exactSum vals).neg).abs
  let bound := Fv.add .near (Fv.mul (.fin false 1 (-30)) aabs) (Fv.mul (.fin false 64 0) (ulpOf fm vals))
  !(Fv.lt bound r) && !r.isNaN

/-! ## Accumulation (R190, R194, R196) -/

/-- A value added into an accumulator value (R190): the code, and whether INT_WRAPS or FP_OVERFLOWS counts it. -/
def accAdd (accFmt h v : Nat) : Nat × Bool :=
  if accFmt = 1 then
    let s := toSigned 32 h + toSigned 32 v
    (ofSigned 32 s, decide (s < -2 ^ 31) || decide (2 ^ 31 ≤ s))
  else
    let fm := accFmtOf accFmt
    let a := fm.decode h
    let b := fm.decode v
    let r := fm.encode .near (Fv.add .near a b)
    (r, a.finite && b.finite && decide (r % fm.signBit = fm.infCode))

/-- An exact integer root value added into an INT32 value (R190). -/
def accAddInt (h : Nat) (v : Int) : Nat × Bool :=
  let s := toSigned 32 h + v
  (ofSigned 32 s, decide (s < -2 ^ 31) || decide (2 ^ 31 ≤ s))

/-- A value on its way into a slot, of INT32 exact and else its code, as stored. -/
def accCode (accFmt : Nat) (x : Int) : Nat := if accFmt = 1 then ofSigned 32 x else x.toNat

/-- A stored code as a value on its way. -/
def accVal (accFmt c : Nat) : Int := if accFmt = 1 then toSigned 32 c else c

/-- An addition of a value on its way (R190). -/
def accAddVal (accFmt h : Nat) (x : Int) : Nat × Bool := if accFmt = 1 then accAddInt h x else accAdd accFmt h x.toNat

/-- The carries of block j through slots l to d − 1 (R194): the slots, the value carried, the slot reached, and how many additions
were counted. -/
def treeCarry (accFmt : Nat) (j d : Nat) : Nat → Nat → List Nat → Int → Nat → List Nat × Int × Nat × Nat
  | 0, l, s, x, n => (s, x, l, n)
  | fuel + 1, l, s, x, n =>
    if l < d ∧ bit j l then
      let r := accAddVal accFmt (s.getD l 0) x
      treeCarry accFmt j d fuel (l + 1) (s.set l 0) (accVal accFmt r.1) (n + r.2.toNat)
    else (s, x, l, n)

/-- Tree-mode accumulation of block j with root value v into slots s[0..d] (R194). -/
def treeAccumulate (accFmt j d : Nat) (s : List Nat) (v : Int) : List Nat × Nat :=
  if j = 0 then (accCode accFmt v :: (List.range d).map (fun _ => 0), 0)
  else
    let r := treeCarry accFmt j d (d + 1) 0 s v 0
    if r.2.2.1 < d then (r.1.set r.2.2.1 (accCode accFmt r.2.1), r.2.2.2)
    else
      let t := accAddVal accFmt (r.1.getD d 0) r.2.1
      (r.1.set d t.1, r.2.2.2 + t.2.toNat)

/-- What a drain combines from the slots of a value (R196), and how many additions were counted. -/
def treeCombine (accFmt : Nat) (s : List Nat) : Nat × Nat :=
  match s with
  | [] => (0, 0)
  | y :: r => r.foldl (fun t x => let a := accAdd accFmt x t.1; (a.1, t.2 + a.2.toNat)) (y, 0)

/-- The width in bytes of an OUT_FMT code (Table MX-8). -/
def outWidth (o : Nat) : Nat := if o = 0 ∨ o = 5 then 4 else if o = 1 ∨ o = 2 then 2 else 1

/-- INT8 output: a right shift rounding to nearest even, saturated (R174). -/
def shiftRound (z : Int) (sh : Nat) : Int :=
  let q := z / (2 ^ sh : Nat)
  let r := (z % (2 ^ sh : Nat)).toNat
  let up := decide (2 * r > 2 ^ sh) || (decide (2 * r = 2 ^ sh) && decide (sh ≠ 0) && decide (q % 2 = 1))
  max (-128) (min 127 (if up then q + 1 else q))

/-- A drained value converted once to OUT_FMT (R174). -/
def drainConvert (accFmt out : Nat) (sat : Bool) (shift v : Nat) : Nat :=
  match out with
  | 0 => if accFmt = 2 then convert .w48 .fp32 v else v
  | 1 => convert (accFmtOf accFmt) .bf16 v
  | 2 => convert (accFmtOf accFmt) .fp16 v
  | 3 => convert (accFmtOf accFmt) .e4m3 v
  | 4 => convertE5M2 (accFmtOf accFmt) sat v
  | 5 => v
  | _ => ofSigned 8 (shiftRound (toSigned 32 v) shift)

end Sys2Proof.Machine
end

