-- ==== Sys2Proof/Machine/MxIssue.lean ====
section
/-! DEFINITION. Issue of matrix operations: the descriptors of Tables MX-6 to MX-8 with the checks of Table MX-9, and the MX and MXG
instructions (R145, R146, R166, R167, R172, R175, R176). -/

namespace Sys2Proof.Machine

/-- A LOADW descriptor's fields (Table MX-6). -/
def descLoadw (b : List Byte) : MxDesc :=
  { fmt := fieldAt b 1 1, rows := fieldAt b 2 1, cols := fieldAt b 3 1, addr := fieldAt b 4 4, stride := fieldAt b 8 4, scale := fieldAt b 12 4 }

/-- A STREAM descriptor's fields (Table MX-7). -/
def descStream (b : List Byte) : MxDesc :=
  { fmt := fieldAt b 1 1, rows := fieldAt b 2 2, addr := fieldAt b 4 4, stride := fieldAt b 8 4, scale := fieldAt b 12 4,
    accRow := fieldAt b 16 2, accFmt := fieldAt b 18 1, mode := fieldAt b 19 1, kblock := fieldAt b 20 2 }

/-- A DRAIN descriptor's fields (Table MX-8). -/
def descDrain (b : List Byte) : MxDesc :=
  { fmt := fieldAt b 1 1, rows := fieldAt b 2 2, addr := fieldAt b 4 4, stride := fieldAt b 8 4, accRow := fieldAt b 12 2,
    accFmt := fieldAt b 14 1, mode := fieldAt b 15 1, shift := fieldAt b 16 1, cols := fieldAt b 17 1 }

namespace MxDesc
/-- FIRST and TREE of ACC_MODE; CLEAR, SAT, COMPLEX and TREE of FLAGS. -/
def first (d : MxDesc) : Bool := bit d.mode 0
def streamTree (d : MxDesc) : Bool := bit d.mode 1
def streamDepth (d : MxDesc) : Nat := bits d.mode 2 3
def clear (d : MxDesc) : Bool := bit d.mode 0
def sat (d : MxDesc) : Bool := bit d.mode 1
def complex (d : MxDesc) : Bool := bit d.mode 2
def drainTree (d : MxDesc) : Bool := bit d.mode 3
def drainDepth (d : MxDesc) : Nat := bits d.mode 4 3
/-- Slots per output row (R186). -/
def streamSlots (d : MxDesc) : Nat := if d.streamTree then d.streamDepth + 1 else 1
def drainSlots (d : MxDesc) : Nat := if d.drainTree then d.drainDepth + 1 else 1
end MxDesc

/-- Memory rows of n output rows with c slots (R173). -/
def accRows (accFmt n c : Nat) (complex : Bool) : Nat :=
  let v := if accFmt = 2 then (3 * n * c + 1) / 2 else n * c
  if complex then 2 * v else v

/-- The rules that a layout's ACC_ROW keeps (R188, R197, Table MX-9). -/
def accLayoutOk (accFmt accRow n c : Nat) (complex : Bool) : Bool :=
  decide (accFmt ≤ 2) && decide (accRow ≤ 511) && decide (accRow + accRows accFmt n c complex ≤ 512) &&
    (accFmt ≠ 2 || (accRow % 3 = 0 && (!complex || n * c % 2 = 0)))

/-- Bytes of scales: of a tile, and of a stream of rows (R159). -/
def tileScales (f : Nat) : Nat := if mxFour f then 128 else 64
def rowScales (f : Nat) : Nat := if mxFour f then 2 else 1

/-- SCALE_SRC is zero for formats without scales, and its range lies in local memory (Tables MX-6, MX-7, MX-9). -/
def scaleOk (f src n : Nat) : Bool := if mxScaled f then decide (src + n ≤ 0x8_0000) else src = 0

/-- The checks of Table MX-9 for LOADW: the tags (active, shadow) that the banks will hold, and those after it. -/
def chkLoadw (solo : Bool) (t : Nat × Nat) (b : List Byte) : Option (Nat × Nat) :=
  let d := descLoadw b
  let size := rowBytes (mxWidth d.fmt) d.cols
  let ok := fieldAt b 0 1 = 1 && zeroFrom b 0x10 && decide (d.fmt ≤ 13) && decide (1 ≤ d.rows) && decide (d.rows ≤ mxK d.fmt) &&
    decide (1 ≤ d.cols) && decide (d.cols ≤ 64) && scaleOk d.fmt d.scale (tileScales d.fmt) &&
    (if solo then d.addr % 8 = 0 && d.stride % 8 = 0 && decide (size ≤ d.stride) && localFits d.addr d.rows d.stride size
     else d.addr = 0 && d.stride = 0)
  if ok then some (t.1, d.fmt) else none

/-- The checks of Table MX-9 for STREAM. -/
def chkStream (solo : Bool) (t : Nat × Nat) (b : List Byte) : Option (Nat × Nat) :=
  let d := descStream b
  let size := rowBytes (mxWidth d.fmt) (mxK d.fmt)
  let ok := fieldAt b 0 1 = 2 && zeroFrom b 0x16 && decide (d.fmt ≤ 13) && decide (1 ≤ d.rows) && decide (d.rows ≤ (if solo then 512 else 32)) &&
    scaleOk d.fmt d.scale (d.rows * rowScales d.fmt) &&
    (if solo then d.addr % 8 = 0 && d.stride % 8 = 0 && decide (size ≤ d.stride) && localFits d.addr d.rows d.stride size
     else d.addr = 0 && d.stride = 0) &&
    decide (d.mode < 32) && (if d.streamTree then decide (1 ≤ d.streamDepth) else d.streamDepth = 0 && d.kblock = 0) &&
    (!d.streamTree || d.first = decide (d.kblock = 0)) &&
    decide (t.1 ≠ 15) && decide (mxClass t.1 = mxClass d.fmt) && (if mxInt d.fmt then d.accFmt = 1 else d.accFmt = 0 || d.accFmt = 2) &&
    accLayoutOk d.accFmt d.accRow d.rows d.streamSlots (mxComplex d.fmt)
  if ok then some t else none

/-- Bytes of an output row of a drain (R174). -/
def MxDesc.outBytes (d : MxDesc) : Nat := d.cols * outWidth d.fmt * (if d.complex then 2 else 1)

/-- The checks of Table MX-9 for DRAIN. -/
def chkDrain (solo : Bool) (t : Nat × Nat) (b : List Byte) : Option (Nat × Nat) :=
  let d := descDrain b
  let ok := fieldAt b 0 1 = 3 && zeroFrom b 0x12 && decide (d.fmt ≤ 6) && decide (1 ≤ d.rows) && decide (d.rows ≤ (if solo then 512 else 32)) &&
    decide (1 ≤ d.cols) && decide (d.cols ≤ 64) &&
    (if solo then d.addr % 8 = 0 && d.stride % 8 = 0 && decide (d.outBytes ≤ d.stride) && localFits d.addr d.rows d.stride d.outBytes
     else d.addr = 0 && d.stride = 0) &&
    decide (d.mode < 128) && (if d.drainTree then decide (1 ≤ d.drainDepth) else d.drainDepth = 0) &&
    decide (d.shift ≤ 31) && (d.fmt = 6 || d.shift = 0) && (!d.complex || decide (d.fmt ≤ 2)) &&
    (if d.accFmt = 1 then decide (5 ≤ d.fmt) else decide (d.fmt ≤ 4)) &&
    accLayoutOk d.accFmt d.accRow d.rows d.drainSlots d.complex
  if ok then some t else none

/-! ## Issue -/

/-- The array state of a core changed. -/
def Mach.updMx (m : Mach) (s L : Nat) (f : MxSt → MxSt) : Mach := m.updCore s L (fun c => { c with mx := f c.mx })

/-- CORE_MX_STATUS kept in step. -/
def Mach.syncMx (m : Mach) (s L : Nat) : Mach :=
  let x := (m.core s L).mx
  let p := m.physOf s L
  let has (k : MxKind) : Nat := (x.run.any (fun r => r.op.kind = k)).toNat
  let a := (m.setF s Reg.CORE_MX_STATUS_ACTIVE_FMT x.active.fmt p).setF s Reg.CORE_MX_STATUS_SHADOW_FMT x.shadow.fmt p
  let b := (a.setF s Reg.CORE_MX_STATUS_LOADING (has .loadw) p).setF s Reg.CORE_MX_STATUS_STREAMING (has .stream) p
  let c := (b.setF s Reg.CORE_MX_STATUS_DRAINING (has .drain) p).setF s Reg.CORE_MX_STATUS_RECHECK (x.run.any (fun r => r.hold.isSome)).toNat p
  c.setF s Reg.CORE_MX_STATUS_QUEUED (min 16 x.queue.length) p

/-- An operation issued to the array (R166). -/
def Mach.mxIssue (m : Mach) (s L : Nat) (kind : MxKind) (d : MxDesc) (frag : Option (List (List Byte))) (out : Option (Nat × Nat × Nat)) : Mach :=
  (m.updMx s L (fun x => { x with
    queue := x.queue ++ [{ id := x.nextId, kind := kind, desc := d, frag := frag, out := out }]
    nextId := x.nextId + 1
    trackA := if kind = .swap then x.trackS else x.trackA
    trackS := if kind = .swap then x.trackA else if kind = .loadw then d.fmt else x.trackS })).syncMx s L

/-- An MX or MXG instruction that finds the array full waits at issue (R167). -/
def KCtx.mxFull (k : KCtx) (m : Mach) : Bool := decide (16 ≤ (m.core k.s k.L).mx.queue.length)

/-- The group goes on after its lanes have issued: while the last of them still waits for room, the group waits at issue (R145, R167). -/
def KCtx.mxNext (k : KCtx) (m : Mach) : Mach :=
  let x := (m.core k.s k.L).mx
  if x.queue.length ≤ 16 then k.next m else m.updGroup k.s k.L k.slot (fun g => { g with wait := .mxLanes (x.nextId - 1) })

/-- The tags that the banks will hold. -/
def KCtx.mxTags (k : KCtx) (m : Mach) : Nat × Nat := ((m.core k.s k.L).mx.trackA, (m.core k.s k.L).mx.trackS)

/-- MX.LOADW (R153, R172). -/
def execMxLoadw (a : KInstr) (s : State) : Out :=
  kernel a s 0x10 0x00 (fun k m => if k.mxFull m then m else
    k.solo m s.fuse.part.stackCount (k.mxTags m) (fun _ => chkLoadw true) (fun m b => m.mxIssue k.s k.L .loadw (descLoadw b) none none) k.mxNext)

/-- MX.SWAP: each acting lane issues once (R145, R153). -/
def execMxSwap (a : KInstr) (s : State) : Out :=
  kernel a s 0x10 0x01 (fun k m => if k.mxFull m then m else
    k.mxNext (k.lanes.foldl (fun m _ => m.mxIssue k.s k.L .swap {} none none) m))

/-- MX.STREAM (R152, R172). -/
def execMxStream (a : KInstr) (s : State) : Out :=
  kernel a s 0x10 0x02 (fun k m => if k.mxFull m then m else
    k.solo m s.fuse.part.stackCount (k.mxTags m) (fun _ => chkStream true) (fun m b => m.mxIssue k.s k.L .stream (descStream b) none none) k.mxNext)

/-- MX.DRAIN (R172, R174). -/
def execMxDrain (a : KInstr) (s : State) : Out :=
  kernel a s 0x10 0x03 (fun k m => if k.mxFull m then m else
    k.solo m s.fuse.part.stackCount (k.mxTags m) (fun _ => chkDrain true) (fun m b => m.mxIssue k.s k.L .drain (descDrain b) none none) k.mxNext)

/-- MX.WAIT: the group goes on when every earlier array operation of the core has completed (R145). -/
def execMxWait (a : KInstr) (s : State) : Out :=
  kernel a s 0x10 0x04 (fun k m =>
    let x := (m.core k.s k.L).mx
    if x.queue = [] ∧ x.run = [] then k.next m
    else m.updGroup k.s k.L k.slot (fun g => { g with wait := .mx ((x.queue[16]?.map (·.id)).getD x.nextId) }))

/-! ## Group-wide forms (R146, R175, R176) -/

/-- Registers of a fragment (Table MX-10): 0 LOADW, 1 STREAM, 2 DRAIN. -/
def fragRegs (op : Nat) (b : List Byte) : Nat :=
  let f := fieldAt b 1 1
  if op = 0 then (if mxFour f then 16 else 2 * mxWidth f)
  else if op = 1 then (if mxFour f then 8 else mxWidth f)
  else 16 * outWidth f * (if (descDrain b).complex then 2 else 1)

/-- The bytes of registers F to F + R − 1 of a lane. -/
def Core.fragBytes (c : Core) (slot lane F R : Nat) : List Byte :=
  (List.range R).flatMap (fun i => leBytes 4 (c.reg slot lane (F + i)).val.toNat)

/-- Lanes whose fragment a LOADW (K_ROWS, 4-bit rows l and 32 + l in lane l) or a STREAM (M) reads. -/
def fragLanes (op : Nat) (b : List Byte) : Nat :=
  if op = 0 then min 32 (descLoadw b).rows else (descStream b).rows

/-- A group-wide form (R175): the descriptor of lane 0 read and checked, the fragment registers checked, then one issue. -/
def KCtx.mxg (k : KCtx) (m : Mach) (n op : Nat) (chk : Nat × Nat → List Byte → Option (Nat × Nat)) (iss : Mach → List Byte → Nat → Nat → Mach) : Mach :=
  if k.mxFull m then m
  else
    k.fenced m (fun m =>
      if k.descsHeld m [0] then m
      else
        let r := k.readDescs m n [0]
        let d := r.2.headD ⟨0, 0, false, []⟩
        let b := PByte.vals d.bytes
        let F := Iw.srcB k.w
        let R := if d.ok ∧ fieldAt b 1 1 ≤ 13 then fragRegs op b else 0
        let c := m.core k.s k.L
        let low := (lowestBit (0xFFFF_FFFF - k.mask) 32)
        let faults :=
          (if F + R > c.launch.regs ∨ F + R > 255 then [(0x03, 0, 0)] else []) ++ (if F % 4 ≠ 0 then [(0x04, 0, 0)] else []) ++
          (match low with
            | some l => [(0x05, l, 0)]
            | none => []) ++
          (if d.ok then [] else [(0x0A, 0, d.addr)]) ++ descFault chk (k.mxTags m) r.2
        let regs := if op = 2 ∨ faults ≠ [] then [] else k.poisonOf m (List.range (fragLanes op b)) [(F, R)]
        let p := descPoison r.2 ++ regs
        if p ≠ [] then k.consume r.1 p
        else
          match firstFault faults with
          | some f => if f.1 = 0x0A then k.memFault r.1 n f else k.fault r.1 f.1 f.2.1 f.2.2
          | none => if c.fragPending k.slot |>.any (fun f => decide (F < f.1 + f.2) && decide (f.1 < F + R)) then r.1
                    else k.next (iss r.1 b F R))

/-- MXG.LOADW: the tile from register fragments (R175, R176). -/
def execMxgLoadw (a : KInstr) (s : State) : Out :=
  kernel a s 0x11 0x00 (fun k m => k.mxg m s.fuse.part.stackCount 0 (chkLoadw false) (fun m b F R =>
    m.mxIssue k.s k.L .loadw (descLoadw b) (some ((List.range 32).map (fun l => (m.core k.s k.L).fragBytes k.slot l F R))) none))

/-- MXG.STREAM: rows from register fragments (R175, R176). -/
def execMxgStream (a : KInstr) (s : State) : Out :=
  kernel a s 0x11 0x01 (fun k m => k.mxg m s.fuse.part.stackCount 1 (chkStream false) (fun m b F R =>
    m.mxIssue k.s k.L .stream (descStream b) (some ((List.range 32).map (fun l => (m.core k.s k.L).fragBytes k.slot l F R))) none))

/-- MXG.DRAIN: rows into register fragments when the drain completes (R175, R176). -/
def execMxgDrain (a : KInstr) (s : State) : Out :=
  kernel a s 0x11 0x02 (fun k m => k.mxg m s.fuse.part.stackCount 2 (chkDrain false) (fun m b F R =>
    m.mxIssue k.s k.L .drain (descDrain b) none (some (k.slot, F, R))))

end Sys2Proof.Machine
end

