-- ==== Sys2Proof/Machine/MxArray.lean ====
section
/-! DEFINITION. The matrix array at work: when operations start and complete, one row through the array with its check and its
accumulation, recomputation, drains (spec/05_matrix_array.md, R151 to R184; spec/06_accumulation.md). -/

namespace Sys2Proof.Machine

/-! ## Bytes that an operation reads and writes -/

/-- Local-memory ranges (offset, length) that an operation reads. -/
def MxOp.reads (o : MxOp) : List (Nat × Nat) :=
  let d := o.desc
  match o.kind with
  | .loadw =>
    (if o.frag.isSome then [] else (List.range d.rows).map (fun i => (d.addr + i * d.stride, rowBytes (mxWidth d.fmt) d.cols))) ++
      (if mxScaled d.fmt then [(d.scale, tileScales d.fmt)] else [])
  | .stream =>
    (if o.frag.isSome then [] else (List.range d.rows).map (fun i => (d.addr + i * d.stride, rowBytes (mxWidth d.fmt) (mxK d.fmt)))) ++
      (if mxScaled d.fmt then [(d.scale, d.rows * rowScales d.fmt)] else [])
  | _ => []

/-- Local-memory ranges that a drain writes. -/
def MxOp.writes (o : MxOp) : List (Nat × Nat) :=
  match o.kind, o.out with
  | .drain, none => (List.range o.desc.rows).map (fun i => (o.desc.addr + i * o.desc.stride, o.desc.outBytes))
  | _, _ => []

/-- Some range of one list meets one of the other. -/
def anyMeet (l r : List (Nat × Nat)) : Bool := l.any (fun a => r.any (rangesMeet a))

/-- The accumulator memory rows that a stream writes or a drain reads, as (first, count). -/
def MxOp.accRange (o : MxOp) (complex : Bool) : Nat × Nat :=
  let c := if o.kind = .stream then o.desc.streamSlots else o.desc.drainSlots
  (o.desc.accRow, accRows o.desc.accFmt o.desc.rows c complex)

/-- Accumulator rows of an operation. -/
def MxOp.accRowsOf (o : MxOp) : Nat × Nat := o.accRange (if o.kind = .stream then mxComplex o.desc.fmt else o.desc.complex)

/-- The last row of a stream has entered, been checked and been accumulated. -/
def MxRun.rowsDone (r : MxRun) : Bool := decide (r.op.desc.rows ≤ r.row) && r.hold.isNone

/-- The conditions of Table MX-5 for the operation at the head of the queue. -/
def MxSt.mayStart (x : MxSt) (o : MxOp) : Bool :=
  let drains := x.run.filter (fun r => r.op.kind = .drain)
  let streams := x.run.filter (fun r => r.op.kind = .stream)
  match o.kind with
  | .loadw => !(x.run.any (fun r => r.op.kind = .loadw)) && !(drains.any (fun r => anyMeet r.op.writes o.reads))
  | .swap => !(x.run.any (fun r => r.op.kind = .loadw)) && streams.all (·.rowsDone)
  | .stream =>
    streams.all (·.rowsDone) && !(drains.any (fun r => rangesMeet r.op.accRowsOf o.accRowsOf || anyMeet r.op.writes o.reads))
  | .drain =>
    !(streams.any (fun r => !r.rowsDone && rangesMeet r.op.accRowsOf o.accRowsOf)) && !(drains.any (fun r => anyMeet r.op.writes o.writes))

/-- Groups whose MX.WAIT covers no operation that is still to complete go on (R145), and those whose lanes have all found room (R167). -/
def Mach.mxRelease (m : Mach) (s L : Nat) : Mach :=
  let x := (m.core s L).mx
  let ids := x.queue.map (·.id) ++ x.run.map (·.op.id)
  let m := (m.core s L).groups.foldl (fun m e =>
    match e.2.wait with
    | .mx n => if ids.all (fun i => n ≤ i) then m.updGroup s L e.1 (fun g => ({ g with wait := .none }).goto (g.pc + 8)) else m
    | .mxLanes n => if (x.queue.drop 16).all (fun o => n < o.id) then m.updGroup s L e.1 (fun g => ({ g with wait := .none }).goto (g.pc + 8)) else m
    | _ => m) m
  m.syncMx s L

/-- An operation has completed and leaves the array. -/
def Mach.mxComplete (m : Mach) (s L id : Nat) : Mach :=
  (m.updMx s L (fun x => { x with run := x.run.filter (fun r => r.op.id ≠ id) })).mxRelease s L

/-- The core of L works: its plan runs, its unit goes on. -/
def Mach.coreGoes (m : Mach) (s L : Nat) : Bool := (m.core s L).halt = .none && (m.core s L).running

/-- The array of L works: its core does, and the array is not under test (R320). -/
def Mach.arrayGoes (m : Mach) (s L : Nat) : Bool :=
  m.coreGoes s L && !(m.stk s).integ.running.any (fun t => t.kind = 4 && t.index % 2 ^ 10 = m.physOf s L)

/-- MX_OP_START: the operation at the head of the queue starts when its row of Table MX-5 lets it; a swap takes effect at once
(R153, R166). -/
def Mach.mxStart (m : Mach) (s L : Nat) : Mach :=
  let x := (m.core s L).mx
  match x.queue with
  | [] => m
  | o :: q =>
    if !m.arrayGoes s L ∨ !x.mayStart o then m
    else if o.kind = .swap then (m.updMx s L (fun x => { x with queue := q, active := x.shadow, shadow := x.active })).mxRelease s L
    else (m.updMx s L (fun x => { x with queue := q, run := x.run ++ [{ op := o }] })).mxRelease s L

/-- Local memory of L read through the array: what it does, the bytes, and the poison (kind, granule) that it consumes (R170). -/
def Mach.mxRead (m : Mach) (a n : Nat) : Mach × List Byte × List (Nat × Nat) :=
  let r := m.performRead true a n
  (r.1, PByte.vals r.2, (r.2.zipIdx).filterMap (fun e => if e.1.poison ≠ 0 then some (e.1.poison, (a + e.2) / 8 * 8) else none))

/-- Several ranges read in order. -/
def Mach.mxReads (m : Mach) (l : List (Nat × Nat)) : Mach × List (List Byte) × List (Nat × Nat) :=
  l.foldl (fun t e =>
    let r := t.1.mxRead e.1 e.2
    (r.1, t.2.1 ++ [r.2.1], t.2.2 ++ r.2.2)) (m, [], [])

/-- The unit of L consumes the poison that a unit of its core read. -/
def Mach.consumeAll (m : Mach) (s L : Nat) (p : List (Nat × Nat)) : Mach :=
  m.consume s L (p.foldl (fun j e => poisonJoin j e.1) 0) (p.map (·.2)).eraseDups

/-- Whether one of several ranges is held at its home. -/
def Mach.anyHeld (m : Mach) (l : List (Nat × Nat)) : Bool := l.any (fun e => m.accessHeld true e.1 e.2)

/-! ## LOADW (R153, R177) -/

/-- The k rows of a tile as element codes, columns at or above N_COLS cut off. -/
def tileRows (d : MxDesc) (rows : List (List Byte)) : List (List Nat) := rows.map (unpackRow (mxWidth d.fmt) d.cols)

/-- The k rows of a tile from register fragments: lane l holds row l, and in the 4-bit class rows l and 32 + l (R175). -/
def fragRows (d : MxDesc) (frag : List (List Byte)) : List (List Nat) :=
  let w := mxWidth d.fmt
  (List.range d.rows).map (fun k =>
    let v := unpackRow w (if mxFour d.fmt then 128 else 64) (frag.getD (k % 32) [])
    (v.drop (64 * (k / 32))).take d.cols)

/-- LOADW_DONE: the tile is read, its sums are formed, the shadow bank is full (R153, R177). -/
def Mach.mxLoad (m : Mach) (s L : Nat) : Mach :=
  match (m.core s L).mx.run.find? (fun r => r.op.kind = .loadw) with
  | none => m
  | some r =>
    let d := r.op.desc
    let base := localAddr s (m.homeOfIndex s L) 0
    let tile := if r.op.frag.isSome then [] else (List.range d.rows).map (fun i => (base + d.addr + i * d.stride, rowBytes (mxWidth d.fmt) d.cols))
    let scl := if mxScaled d.fmt then [(base + d.scale, tileScales d.fmt)] else []
    if !m.arrayGoes s L ∨ m.anyHeld (tile ++ scl) then m
    else
      let t := m.mxReads (tile ++ scl)
      if t.2.2 ≠ [] then t.1.consumeAll s L t.2.2
      else
        let bank : Bank :=
          { fmt := d.fmt, kRows := d.rows, nCols := d.cols
            rows := match r.op.frag with
              | some f => fragRows d f
              | none => tileRows d (t.2.1.take d.rows)
            scales := (t.2.1.drop tile.length).flatMap (fun b => b.map (fun x => x.toNat)) }
        (t.1.updMx s L (fun x => { x with shadow := bank.withSums })).mxComplete s L r.op.id

/-! ## Rows of a stream -/

/-- The address of the first byte of value index v of an operation (R186). -/
def accValueAddr (base accFmt accRow v : Nat) : Nat := base + 256 * accRow + (if accFmt = 2 then 384 else 256) * v

/-- Bytes of a value of an accumulator format, and of its 64 columns. -/
def accWidth (accFmt : Nat) : Nat := if accFmt = 2 then 6 else 4

/-- The 64 values held in bytes. -/
def accValues (accFmt : Nat) (bs : List Byte) : List Nat :=
  (List.range 64).map (fun n => fieldAt bs (accWidth accFmt * n) (accWidth accFmt))

/-- Flips of root values: (index, XOR mask) pairs that a fault of the array causes. -/
def flipCodes (fl : List (Nat × Nat)) (l : List Nat) : List Nat :=
  (l.zipIdx).map (fun e => fl.foldl (fun v f => if f.1 = e.2 then v ^^^ f.2 else v) e.1)

/-- As flipCodes, for the exact integers of an integer pair. -/
def flipInts (fl : List (Nat × Nat)) (l : List Int) : List Int :=
  (l.zipIdx).map (fun e => fl.foldl (fun v f => if f.1 = e.2 then toSigned 64 (ofSigned 64 v ^^^ f.2 % 2 ^ 64) else v) e.1)

/-- The activation codes and A scales of a stream row from its bytes; codes at or above K_ROWS are not read (R155, R159, R164). -/
structure RowIn where
  codes  : List Nat
  scales : List Nat

/-- The ranges that row i of a solo stream reads, with those of its scales. -/
def rowRanges (base : Nat) (o : MxOp) (kRows i : Nat) : List (Nat × Nat) :=
  let d := o.desc
  (if o.frag.isSome then [] else [(base + d.addr + i * d.stride, rowBytes (mxWidth d.fmt) kRows)]) ++
    (if mxScaled d.fmt then [(base + d.scale + i * rowScales d.fmt, rowScales d.fmt)] else [])

/-- The row from the bytes read, or from its register fragment. -/
def rowInput (o : MxOp) (kRows i : Nat) (bs : List (List Byte)) : RowIn :=
  let w := mxWidth o.desc.fmt
  match o.frag with
  | some f => ⟨unpackRow w kRows (f.getD i []), (bs.headD []).map (·.toNat)⟩
  | none => ⟨unpackRow w kRows (bs.headD []), (bs.getD 1 []).map (·.toNat)⟩

/-- How the check of a row came out (R179, R180): skipped, matching, or mismatching with a RESIDUAL_EXP. -/
inductive RowCheck where
  | skipped | ok | bad (residual : Nat)
  deriving DecidableEq, Repr

/-- ⌊log2 |C − Y|⌋ + 32,768, or 0xFFFF for an infinite residual (CORE_MX_LAST). -/
def residualExp (c : Fv) (vals : List Fv) : Nat :=
  match (Fv.add .near c (exactSum vals).neg).abs with
  | .fin _ m e => (e + (bitLen m : Int) - 1 + 32768).toNat
  | _ => 0xFFFF

/-- A value that is a NaN or an infinity among the parts of an activation element. -/
def badElem (f c : Nat) : Bool :=
  if mxInt f then false
  else if mxComplex f then !(mxElem 13 (cRe c)).finite || !(mxElem 13 (cIm c)).finite
  else !(mxElem f c).finite

/-- The check of a row with root values `codes` (64, or 64 and 64) or `ints` (R178 to R181). -/
def Bank.judge (b : Bank) (f accFmt : Nat) (r : RowIn) (codes : List Nat) (ints : List Int) : RowCheck :=
  if mxInt f then
    if ints.foldl (· + ·) 0 = (b.checkInt f r.codes).1 then .ok else .bad 0
  else
    let fm := accFmtOf accFmt
    let v := codes.map fm.decode
    let c := b.check f r.codes r.scales
    let sums := (List.range b.kRows).map b.sigma
    let nanSum := sums.any (fun s => s.1.isNaN || s.2.1.isNaN || s.2.2.isNaN)
    if r.codes.any (badElem f) || v.any (fun x => !x.finite) || nanSum || c.1.isNaN || c.2.1.isNaN || c.2.2.isNaN then .skipped
    else if !partMatches fm c.1 c.2.2 (v.take 64) then .bad (residualExp c.1 (v.take 64))
    else if mxComplex f && !partMatches fm c.2.1 c.2.2 (v.drop 64) then .bad (residualExp c.2.1 (v.drop 64))
    else .ok

/-- C of a row as bits, for the comparison of a recomputation (R182). -/
def fvBits (v : Fv) : List Nat :=
  match v with
  | .fin n m e => [0, n.toNat, m, ofSigned 64 e]
  | .inf n => [1, n.toNat]
  | .nan => [2]

/-- C of a row as bits. -/
def Bank.checkBits (b : Bank) (f : Nat) (r : RowIn) : List Nat :=
  if mxInt f then [] else let c := b.check f r.codes r.scales; fvBits c.1 ++ fvBits c.2.1

/-- How many low slots of a tree-mode row block j carries through: the trailing ones of j, at most d. -/
def carries (j d : Nat) : Nat := (List.range d).foldl (fun t l => if t = l ∧ bit j l then l + 1 else t) 0

/-- The slots that a stream row adds into, and those it writes (R191, R194). -/
def slotsRead (d : MxDesc) : List Nat :=
  if d.streamTree then
    if d.kblock = 0 then [] else
      let t := carries d.kblock d.streamDepth
      List.range t ++ (if t = d.streamDepth then [t] else [])
  else if d.first then [] else [0]

def slotsWritten (d : MxDesc) : List Nat :=
  if d.streamTree then
    if d.kblock = 0 then List.range (d.streamDepth + 1) else List.range (carries d.kblock d.streamDepth + 1)
  else [0]

/-- One value accumulated: the slots after it and the additions counted (R190, R191, R194). -/
def accumulateOne (d : MxDesc) (slots : List Nat) (v : Int) : List Nat × Nat :=
  if d.streamTree then treeAccumulate d.accFmt d.kblock d.streamDepth slots v
  else if d.first then ([accCode d.accFmt v], 0)
  else
    let r := accAddVal d.accFmt (slots.getD 0 0) v
    ([r.1], r.2.toNat)

/-- Additions are counted in INT_WRAPS or FP_OVERFLOWS of the core (R190). -/
def Mach.countAcc (m : Mach) (s p accFmt n : Nat) : Mach :=
  if n = 0 then m
  else if accFmt = 1 then m.bumpF s Reg.CORE_ACC_STATUS_INT_WRAPS p n
  else m.bumpF s Reg.CORE_ACC_STATUS_FP_OVERFLOWS p n

/-- The first-write overflows of a row (R190, CORE_ACC_STATUS): integers out of range; infinities of finite root sums. -/
def firstOverflows (d : MxDesc) (vals : List Int) (exact : List Fv) : Nat :=
  if !(d.first || (d.streamTree && d.kblock = 0)) then 0
  else if d.accFmt = 1 then (vals.filter (fun v => decide (v < -2 ^ 31) || decide (2 ^ 31 ≤ v))).length
  else
    let fm := accFmtOf d.accFmt
    ((vals.zip exact).filter (fun e => e.2.finite && decide (e.1.toNat % fm.signBit = fm.infCode))).length

/-- The slots of one part of a row: the value index of slot l (R186, R197). -/
def slotIndex (d : MxDesc) (part i l : Nat) : Nat := part * d.rows * d.streamSlots + i * d.streamSlots + l

/-- The 64 values of one part added into accumulator memory; the old slots come as lists of 64 values by slot. -/
def Mach.accumulatePart (m : Mach) (s L : Nat) (d : MxDesc) (part i : Nat) (vals : List Int) (old : List (Nat × List Nat)) : Mach :=
  let base := accAddr s (m.homeOfIndex s L) 0
  let res := (vals.zipIdx).map (fun e =>
    accumulateOne d ((List.range d.streamSlots).map (fun l => ((SMap.find old l).getD []).getD e.2 0)) e.1)
  let m1 := (slotsWritten d).foldl (fun m l =>
    m.sramWrite (accValueAddr base d.accFmt d.accRow (slotIndex d part i l))
      (PByte.clean (res.flatMap (fun r => leBytes (accWidth d.accFmt) (r.1.getD l 0))))) m
  m1.countAcc s (m.physOf s L) d.accFmt (res.foldl (fun t r => t + r.2) 0)

/-- The values of a row delivered into accumulator memory (R190, R191, R194); poison in a value it adds into is consumed (R170). The
flag says that the row was delivered. -/
def Mach.accumulateRow (m : Mach) (s L : Nat) (d : MxDesc) (i : Nat) (vals : List Int) (exact : List Fv) : Mach × Bool :=
  let base := accAddr s (m.homeOfIndex s L) 0
  let parts := if mxComplex d.fmt then [0, 1] else [0]
  let rd := parts.flatMap (fun q => (slotsRead d).map (fun l => (q, l)))
  let t := m.mxReads (rd.map (fun e => (accValueAddr base d.accFmt d.accRow (slotIndex d e.1 i e.2), 64 * accWidth d.accFmt)))
  if t.2.2 ≠ [] then (t.1.consumeAll s L t.2.2, false)
  else
    let held := rd.zip (t.2.1.map (accValues d.accFmt))
    let m1 := parts.foldl (fun m q =>
      m.accumulatePart s L d q i ((vals.drop (64 * q)).take 64) ((held.filter (fun e => e.1.1 = q)).map (fun e => (e.1.2, e.2)))) t.1
    (m1.countAcc s (m.physOf s L) d.accFmt (firstOverflows d vals exact), true)

/-- A mismatch recorded in CORE_MX_LAST. kind: 0 numerical, 1 fault. -/
def Mach.mxMismatch (m : Mach) (s L : Nat) (d : MxDesc) (i kind residual : Nat) : Mach :=
  let p := m.physOf s L
  let row := d.accRow + (if d.accFmt = 2 then i * d.streamSlots * 3 / 2 else i * d.streamSlots)
  let a := (m.setF s Reg.CORE_MX_LAST_ROW i p).setF s Reg.CORE_MX_LAST_ACC_ROW row p
  let b := (a.setF s Reg.CORE_MX_LAST_KIND kind p).setF s Reg.CORE_MX_LAST_VALID 1 p
  (b.setF s Reg.CORE_MX_LAST_INTEGER (mxInt d.fmt).toNat p).setF s Reg.CORE_MX_LAST_RESIDUAL_EXP residual p

/-- An array fault (R183): CHECKSUM poison in every row of the stream, the record, the count, ARRAY_CHECK, the abort, the test. -/
def Mach.mxFault (m : Mach) (s L : Nat) (o : MxOp) (i residual : Nat) : Mach :=
  let p := m.physOf s L
  let base := accAddr s (m.homeOfIndex s L) 0
  let rg := o.accRowsOf
  let m1 := { m with mem := (List.range (rg.2 * 32)).foldl (fun mm g => mm.poisonGranule (base + 256 * rg.1 + 8 * g) 5) m.mem }
  let m2 := (m1.mxMismatch s L o.desc i 1 residual).bumpF s Reg.CORE_MX_CHECK_FAULTS p
  ((((m2.logError s 0x0103 1 p 0 [i]).coreCause s p).abortUnit s L).detect s 4 p)

/-- A row entered the array (CORE_MX_ROWS). -/
def Mach.mxCountRow (m : Mach) (s L : Nat) : Mach :=
  let p := m.physOf s L
  let v := m.getF s Reg.CORE_MX_ROWS_ROWS p + 1
  let m1 := m.setF s Reg.CORE_MX_ROWS_ROWS v p
  if v ≥ 2 ^ 48 then ((m1.setF s Reg.CORE_MX_ROWS_OVF 1 p).event s 0x11 [Reg.CORE_MX_ROWS.off p]).coreCause s p else m1

/-- The stream with its state of rows changed. -/
def Mach.updMxRun (m : Mach) (s L id : Nat) (f : MxRun → MxRun) : Mach :=
  m.updMx s L (fun x => { x with run := x.run.map (fun r => if r.op.id = id then f r else r) })

/-- What the root delivers for a row, with the flips of a fault: codes, integers, and the exact values before rounding. -/
structure RowOut where
  codes : List Nat
  ints  : List Int
  exact : List Fv

/-- Row i of a stream through the array. -/
def MxSt.rowOut (x : MxSt) (d : MxDesc) (r : RowIn) (fl : List (Nat × Nat)) : RowOut :=
  let root := x.active.row d.fmt d.accFmt r.codes r.scales
  ⟨flipCodes fl root.codes, flipInts fl root.ints, root.exact⟩

/-- The values of a row on their way into accumulator memory. -/
def RowOut.vals (o : RowOut) (d : MxDesc) : List Int := if d.accFmt = 1 then o.ints else o.codes.map Int.ofNat

/-- A row is written: the stream goes on with the next one. -/
def Mach.mxDeliver (m : Mach) (s L : Nat) (o : MxOp) (i : Nat) (vals : List Int) (exact : List Fv) : Mach :=
  let t := m.accumulateRow s L o.desc i vals exact
  if t.2 then t.1.updMxRun s L o.id (fun r => { r with row := i + 1, hold := none }) else t.1

/-- ROW_ROOT: the next row of the stream in progress reaches the root, is checked and accumulated (R152, R160 to R164, R178 to R183). -/
def Mach.mxRow (m : Mach) (s L : Nat) (fl : List (Nat × Nat)) : Mach :=
  let x := (m.core s L).mx
  match x.run.find? (fun r => r.op.kind = .stream && decide (r.row < r.op.desc.rows)) with
  | none => m
  | some r =>
    let d := r.op.desc
    let base := localAddr s (m.homeOfIndex s L) 0
    let rg := rowRanges base r.op x.active.kRows r.row
    if r.hold.isSome ∨ !m.arrayGoes s L ∨ m.anyHeld rg then m
    else
      let t := (m.mxCountRow s L).mxReads rg
      if t.2.2 ≠ [] then t.1.consumeAll s L t.2.2
      else
        let inp := rowInput r.op x.active.kRows r.row t.2.1
        let out := x.rowOut d inp fl
        match x.active.judge d.fmt d.accFmt inp out.codes out.ints with
        | .ok => t.1.mxDeliver s L r.op r.row (out.vals d) out.exact
        | .skipped => (t.1.bumpF s Reg.CORE_MX_CHECK_SKIPPED (m.physOf s L)).mxDeliver s L r.op r.row (out.vals d) out.exact
        | .bad e =>
          if mxInt d.fmt then t.1.mxFault s L r.op r.row 0
          else
            (((t.1.mxMismatch s L d r.row 0 e)).updMxRun s L r.op.id (fun q => { q with
              hold := some ⟨inp.codes, inp.scales, out.codes, x.active.checkBits d.fmt inp⟩ })).syncMx s L

/-- ROW_RECOMPUTE: the held row enters again with the same activations (R182, R183). -/
def Mach.mxRecompute (m : Mach) (s L : Nat) (fl : List (Nat × Nat)) : Mach :=
  let x := (m.core s L).mx
  match x.run.find? (fun r => r.op.kind = .stream && r.hold.isSome) with
  | none => m
  | some r =>
    let d := r.op.desc
    match r.hold with
    | none => m
    | some h =>
      if !m.arrayGoes s L then m
      else
        let m0 := m.mxCountRow s L
        let inp : RowIn := ⟨h.acts, h.scales⟩
        let out := x.rowOut d inp fl
        if h.root = out.codes ∧ h.c = x.active.checkBits d.fmt inp then
          let m1 := (m0.bumpF s Reg.CORE_MX_CHECK_NUMERICAL (m.physOf s L)).updMx s L (fun x => { x with numerical := true })
          (m1.mxDeliver s L r.op r.row (out.vals d) out.exact).syncMx s L
        else
          match x.active.judge d.fmt d.accFmt inp out.codes out.ints with
          | .bad e => m0.mxFault s L r.op r.row e
          | _ => m0.mxFault s L r.op r.row (m.getF s Reg.CORE_MX_LAST_RESIDUAL_EXP (m.physOf s L))

/-- STREAM_DONE: every row is in accumulator memory and every recheck has ended (R166). -/
def Mach.mxStreamDone (m : Mach) (s L : Nat) : Mach :=
  match (m.core s L).mx.run.find? (fun r => r.op.kind = .stream) with
  | some r => if m.arrayGoes s L ∧ r.rowsDone then m.mxComplete s L r.op.id else m
  | none => m

/-! ## DRAIN (R174, R196) -/

/-- The value index of slot l of output row i of a drain (R186, R197). -/
def drainIndex (d : MxDesc) (part i l : Nat) : Nat := part * d.rows * d.drainSlots + i * d.drainSlots + l

/-- The slots (part, row, slot) that a drain reads. -/
def drainSlotsOf (d : MxDesc) : List (Nat × Nat × Nat) :=
  (if d.complex then [0, 1] else [0]).flatMap (fun q => (List.range d.rows).flatMap (fun i => (List.range d.drainSlots).map (fun l => (q, i, l))))

/-- Bits of a fragment register that bytes cover: the register with byte j replaced. -/
def putByteIn (v : Word) (j : Nat) (b : Byte) : Word := BitVec.ofNat 32 (putBits v.toNat (8 * j) 8 b.toNat)

/-- The bytes of an output row written into a lane's fragment registers, other bits kept (R176, R310). -/
def Core.writeFragment (c : Core) (slot lane F : Nat) (bs : List Byte) : Core :=
  (List.range ((bs.length + 3) / 4)).foldl (fun c i =>
    let w := (bs.drop (4 * i)).take 4
    let old := c.reg slot lane (F + i)
    let v := (w.zipIdx).foldl (fun v e => putByteIn v e.2 e.1) old.val
    c.setReg slot lane (F + i) (if w.length < 4 ∧ old.poison ≠ 0 then { val := 0, poison := 1, origin := old.origin } else { val := v })) c

/-- DRAIN_DONE: the oldest drain in progress reads its rows, combines, converts and writes them; CLEAR zeroes what it read (R172, R174,
R196). -/
def Mach.mxDrain (m : Mach) (s L : Nat) : Mach :=
  match (m.core s L).mx.run.find? (fun r => r.op.kind = .drain) with
  | none => m
  | some r =>
    let d := r.op.desc
    let p := m.physOf s L
    let base := accAddr s (m.homeOfIndex s L) 0
    let loc := localAddr s (m.homeOfIndex s L) 0
    let sl := drainSlotsOf d
    let addrs := sl.map (fun e => (accValueAddr base d.accFmt d.accRow (drainIndex d e.1 e.2.1 e.2.2), 64 * accWidth d.accFmt))
    if !m.arrayGoes s L ∨ m.anyHeld addrs ∨ m.anyHeld (r.op.writes.map (fun w => (loc + w.1, w.2))) then m
    else
      let t := m.mxReads addrs
      if t.2.2 ≠ [] then t.1.consumeAll s L t.2.2
      else
        let held := sl.zip (t.2.1.map (accValues d.accFmt))
        let slots (q i n : Nat) : List Nat := (held.filter (fun e => e.1.1 = q && e.1.2.1 = i)).map (fun e => e.2.getD n 0)
        let value (q i n : Nat) : Nat × Nat := treeCombine d.accFmt (slots q i n)
        let conv (v : Nat) : List Byte := leBytes (outWidth d.fmt) (drainConvert d.accFmt d.fmt d.sat d.shift v)
        let row (i : Nat) : List Byte := (List.range d.cols).flatMap (fun n =>
          conv (value 0 i n).1 ++ (if d.complex then conv (value 1 i n).1 else []))
        let cnt := ((if d.complex then [0, 1] else [0]).flatMap (fun q => (List.range d.rows).flatMap (fun i =>
          (List.range d.cols).map (fun n => (value q i n).2)))).foldl (· + ·) 0
        let m1 := (List.range d.rows).foldl (fun m i =>
          match r.op.out with
          | none => m.performWrite true (loc + d.addr + i * d.stride) (PByte.clean (row i))
          | some (slot, F, _) => m.updCore s L (fun c => c.writeFragment slot i F (row i))) t.1
        let m2 := if d.clear then addrs.foldl (fun m a => m.sramWrite a.1 ((List.range a.2).map (fun _ => ⟨0, 0⟩))) m1 else m1
        (m2.countAcc s p d.accFmt cnt).mxComplete s L r.op.id

/-! ## Commands -/

/-- MX_OP_START (R166). -/
def execMxOpStart (a : AtCore) (s : State) : Out := onStack s a.stack (fun _ m => m.mxStart a.stack a.core)

/-- LOADW_DONE (R153, R177). -/
def execLoadwDone (a : AtCore) (s : State) : Out := onStack s a.stack (fun _ m => m.mxLoad a.stack a.core)

/-- ROW_ROOT (R152, R178 to R183). -/
def execRowRoot (a : RowPass) (s : State) : Out := onStack s a.stack (fun _ m => m.mxRow a.stack a.core (a.flips.map (fun e => (e.1.val, e.2.toNat))))

/-- ROW_RECOMPUTE (R182). -/
def execRowRecompute (a : RowPass) (s : State) : Out := onStack s a.stack (fun _ m => m.mxRecompute a.stack a.core (a.flips.map (fun e => (e.1.val, e.2.toNat))))

/-- STREAM_DONE (R166). -/
def execStreamDone (a : AtCore) (s : State) : Out := onStack s a.stack (fun _ m => m.mxStreamDone a.stack a.core)

/-- DRAIN_DONE (R174). -/
def execDrainDone (a : AtCore) (s : State) : Out := onStack s a.stack (fun _ m => m.mxDrain a.stack a.core)

end Sys2Proof.Machine
end

