-- ==== Sys2Proof/Machine/Xcen.lean ====
section
/-! DEFINITION. The transcendental operations to the bit: ex2 (R212), rcp (R214), LG2, RSQ, SIN and COS (R558, R132). The tables
whose entries need a logarithm or a power are written out; the others are computed. -/

namespace Sys2Proof.Machine

/-- G(j) = round(2^62 × log2(1 + j / 256)) (R558), entries 0 to 31. -/
def xcenG0 : List Nat :=
  [0, 25938654877364701, 51776576860734092, 77514545317785797,
   103153330606121625, 128693694211618918, 154136388884136542, 179482158770635972,
   204731739545776358, 229885858540040844, 254945234865449951, 279910579538916340,
   304782595603293869, 329561978246172450, 354249414916468918, 378845585438862773,
   403351162126124447, 427766809889382479, 452093186346374828, 476330941927728379,
   500480719981309593, 524543156874688147, 548518882095754375, 572408518351530276,
   596212681665212875, 619931981471487744, 643567020710149551, 667118395918065607,
   690586697319517456, 713972508914954744, 737276408568194713, 760498968092099876]

/-- G(j) = round(2^62 × log2(1 + j / 256)) (R558), entries 32 to 63. -/
def xcenG1 : List Nat :=
  [783640753332765648, 806702324252248894, 829684235009867669, 852587034042101625,
   875411264141121919, 898157462531978715, 920826160948473729, 943417885707744613,
   965933157783587320, 988372492878542006, 1010736401494767392, 1033025389003727947,
   1055239955714717668, 1077380596942243697, 1099447803072292452, 1121442059627500452,
   1143363847331251474, 1165213642170721211, 1186991915458890095, 1208699133895544485,
   1230335759627285963, 1251902250306568025, 1273399059149779027, 1294826634994389804,
   1316185422355184002, 1337475861479588707, 1358698388402122607, 1379853434997978523,
   1400941429035756762, 1421962794229365398, 1442917950289103222, 1463807312971940757]

/-- G(j) = round(2^62 × log2(1 + j / 256)) (R558), entries 64 to 95. -/
def xcenG2 : List Nat :=
  [1484631294131014398, 1505390301764348412, 1526084740062819198, 1546715009457375921,
   1567281506665531296, 1587784624737136023, 1608224753099450085, 1628602277601523817,
   1648917580557901400, 1669171040791659156, 1689363033676790756, 1709493931179951191,
   1729564101901571123, 1749573911116352968, 1769523720813159845, 1789413889734308267,
   1809244773414275253, 1829016724217830285, 1848730091377602357, 1868385221031092105,
   1887982456257138845, 1907522137111852115, 1927004600664017122, 1946430181029983334,
   1965799209408045220, 1985112014112323991, 2004368920606159019, 2023570251535017408,
   2042716326758930046, 2061807463384462291, 2080843975796227273, 2099826175687949650]

/-- G(j) = round(2^62 × log2(1 + j / 256)) (R558), entries 96 to 127. -/
def xcenG3 : List Nat :=
  [2118754372093087486, 2137628871415019777, 2156449977456806991, 2175217991450531854,
   2193933212086227468, 2212595935540399700, 2231206455504150653, 2249765063210909905,
   2268272047463780046, 2286727694662502948, 2305132288830053050, 2323486111638863844,
   2341789442436693607, 2360042558272136317, 2378245733919783589, 2396399241905043328,
   2414503352528620721, 2432558333890667047, 2450564451914601718, 2468521970370612827,
   2486431150898841404, 2504292253032254479, 2522105534219211933, 2539871249845732067,
   2557589653257460679, 2575260995781348401, 2592885526747040901, 2610463493507986531,
   2627995141462265872, 2645480714073147565, 2662920452889374731, 2680314597565186212]

/-- G(j) = round(2^62 × log2(1 + j / 256)) (R558), entries 128 to 159. -/
def xcenG4 : List Nat :=
  [2697663385880076776, 2714967053758300361, 2732225835288120360, 2749439962740810868,
   2766609666589412753, 2783735175527248337, 2800816716486198401, 2817854514654745168,
   2834848793495784858, 2851799774764213318, 2868707678524288214, 2885572723166771160,
   2902395125425853134, 2919175100395866459, 2935912861547786570, 2952608620745526727,
   2969262588262028797, 2985874972795153145, 3002445981483370645, 3018975819921259759,
   3035464692174811580, 3051912800796545694, 3068320346840439651, 3084687529876674806,
   3101014548006201223, 3117301597875124312, 3133548874688915798, 3149756572226451604,
   3165924882853879154, 3182053997538316596, 3198144105861386369, 3214195396032585521]

/-- G(j) = round(2^62 × log2(1 + j / 256)) (R558), entries 160 to 191. -/
def xcenG5 : List Nat :=
  [3230208054902495130, 3246182267975831151, 3262118219424338960, 3278016092099533847,
   3293876067545289651, 3309698326010277709, 3325483046460258250, 3341230406590226327,
   3356940582836414350, 3372613750388153244, 3388250083199594232, 3403849754001293194,
   3419412934311659540, 3434939794448271489, 3450430503539059618, 3465885229533360530,
   3481304139212842424, 3496687398202304368, 3512035170980351009, 3527347620889944445,
   3542624910148834945, 3557867199859872195, 3573074650021198695, 3588247419536326928,
   3603385666224101885, 3618489546828550505, 3633559217028619578, 3648594831447803599,
   3663596543663664096, 3678564506217241867, 3693498870622363581, 3708399787374844168]

/-- G(j) = round(2^62 × log2(1 + j / 256)) (R558), entries 192 to 223. -/
def xcenG6 : List Nat :=
  [3723267405961586381, 3738101874869578916, 3752903341594794444, 3767671952650988886,
   3782407853578403233, 3797111188952369228, 3811782102391820155, 3826420736567708005,
   3841027233211328250, 3855601733122553424, 3870144376177976739, 3884655301338966871,
   3899134646659635119, 3913582549294716046, 3927999145507362739, 3942384570676857805,
   3956738959306241175, 3971062445029855802, 3985355160620812318, 3999617237998373668,
   4013848808235260778, 4028050001564880250, 4042220947388475078, 4056361774282199383,
   4070472610004118119, 4084553581501132706, 4098604814915833537, 4112626435593280270,
   4126618568087710828, 4140581336169179998, 4154514862830128517, 4168419270291883515]

/-- G(j) = round(2^62 × log2(1 + j / 256)) (R558), entries 224 to 255. -/
def xcenG7 : List Nat :=
  [4182294680011091174, 4196141212686082450, 4209958988263172691, 4223748125942895974,
   4237508744186174972, 4251240960720427151, 4264944892545608072, 4278620655940192591,
   4292268366467094717, 4305888138979526861, 4319480087626799256, 4333044325860060244,
   4346580966437978175, 4360090121432365622, 4373571902233746604, 4387026419556867532,
   4400453783446152532, 4413854103281103836, 4427227487781647899, 4440574045013427886,
   4453893882393043195, 4467187106693236621, 4480453824048029814, 4493694139957807638,
   4506908159294352029, 4520095986305825978, 4533257724621708207, 4546393477257679133,
   4559503346620458693, 4572587434512596607, 4585645842137215621, 4598678670102708300]

/-- G(j) = round(2^62 × log2(1 + j / 256)) (R558). -/
def xcenG : List Nat := xcenG0 ++ xcenG1 ++ xcenG2 ++ xcenG3 ++ xcenG4 ++ xcenG5 ++ xcenG6 ++ xcenG7

/-- T(i) = round(2^31 × 2^(i/256)) (R212), entries 0 to 31. -/
def xcenT0 : List Nat :=
  [2147483648, 2153306067, 2159144272, 2164998306, 2170868212, 2176754033, 2182655811, 2188573592,
   2194507417, 2200457330, 2206423375, 2212405596, 2218404036, 2224418739, 2230449750, 2236497113,
   2242560872, 2248641071, 2254737756, 2260850970, 2266980759, 2273127167, 2279290240, 2285470023,
   2291666561, 2297879899, 2304110083, 2310357160, 2316621173, 2322902170, 2329200197, 2335515300]

/-- T(i) = round(2^31 × 2^(i/256)) (R212), entries 32 to 63. -/
def xcenT1 : List Nat :=
  [2341847524, 2348196917, 2354563524, 2360947394, 2367348571, 2373767105, 2380203040, 2386656425,
   2393127307, 2399615734, 2406121752, 2412645410, 2419186755, 2425745836, 2432322700, 2438917396,
   2445529972, 2452160476, 2458808958, 2465475465, 2472160047, 2478862753, 2485583632, 2492322733,
   2499080105, 2505855799, 2512649863, 2519462348, 2526293303, 2533142779, 2540010826, 2546897494]

/-- T(i) = round(2^31 × 2^(i/256)) (R212), entries 64 to 95. -/
def xcenT2 : List Nat :=
  [2553802834, 2560726895, 2567669730, 2574631389, 2581611923, 2588611383, 2595629821, 2602667287,
   2609723834, 2616799513, 2623894376, 2631008476, 2638141863, 2645294591, 2652466713, 2659658279,
   2666869345, 2674099961, 2681350181, 2688620059, 2695909648, 2703219000, 2710548171, 2717897212,
   2725266179, 2732655125, 2740064105, 2747493172, 2754942382, 2762411789, 2769901447, 2777411411]

/-- T(i) = round(2^31 × 2^(i/256)) (R212), entries 96 to 127. -/
def xcenT3 : List Nat :=
  [2784941738, 2792492481, 2800063696, 2807655439, 2815267765, 2822900730, 2830554390, 2838228802,
   2845924021, 2853640104, 2861377107, 2869135087, 2876914102, 2884714207, 2892535461, 2900377920,
   2908241642, 2916126685, 2924033107, 2931960965, 2939910317, 2947881223, 2955873740, 2963887926,
   2971923842, 2979981545, 2988061094, 2996162550, 3004285971, 3012431416, 3020598946, 3028788621]

/-- T(i) = round(2^31 × 2^(i/256)) (R212), entries 128 to 159. -/
def xcenT4 : List Nat :=
  [3037000500, 3045234644, 3053491112, 3061769967, 3070071267, 3078395075, 3086741451, 3095110456,
   3103502151, 3111916599, 3120353861, 3128813999, 3137297074, 3145803149, 3154332287, 3162884549,
   3171459999, 3180058700, 3188680714, 3197326104, 3205994934, 3214687269, 3223403170, 3232142703,
   3240905930, 3249692918, 3258503729, 3267338429, 3276197082, 3285079754, 3293986508, 3302917412]

/-- T(i) = round(2^31 × 2^(i/256)) (R212), entries 160 to 191. -/
def xcenT5 : List Nat :=
  [3311872529, 3320851927, 3329855670, 3338883824, 3347936457, 3357013633, 3366115421, 3375241885,
   3384393094, 3393569115, 3402770014, 3411995860, 3421246719, 3430522660, 3439823750, 3449150059,
   3458501653, 3467878602, 3477280975, 3486708840, 3496162267, 3505641324, 3515146082, 3524676610,
   3534232978, 3543815256, 3553423514, 3563057822, 3572718252, 3582404874, 3592117759, 3601856978]

/-- T(i) = round(2^31 × 2^(i/256)) (R212), entries 192 to 223. -/
def xcenT6 : List Nat :=
  [3611622603, 3621414705, 3631233356, 3641078629, 3650950594, 3660849326, 3670774895, 3680727376,
   3690706840, 3700713361, 3710747013, 3720807869, 3730896002, 3741011488, 3751154399, 3761324810,
   3771522796, 3781748432, 3792001792, 3802282952, 3812591987, 3822928972, 3833293984, 3843687099,
   3854108391, 3864557939, 3875035819, 3885542107, 3896076880, 3906640216, 3917232192, 3927852886]

/-- T(i) = round(2^31 × 2^(i/256)) (R212), entries 224 to 255. -/
def xcenT7 : List Nat :=
  [3938502376, 3949180739, 3959888054, 3970624400, 3981389855, 3992184498, 4003008408, 4013861665,
   4024744348, 4035656537, 4046598312, 4057569753, 4068570940, 4079601955, 4090662878, 4101753790,
   4112874773, 4124025908, 4135207276, 4146418961, 4157661043, 4168933606, 4180236731, 4191570503,
   4202935003, 4214330316, 4225756525, 4237213713, 4248701965, 4260221365, 4271771996, 4283353945]

/-- T(i) = round(2^31 × 2^(i/256)) (R212). -/
def xcenT : List Nat := xcenT0 ++ xcenT1 ++ xcenT2 ++ xcenT3 ++ xcenT4 ++ xcenT5 ++ xcenT6 ++ xcenT7

/-- The floor of the square root of n < 2^(2 k), bit by bit. -/
def isqrt (n : Nat) : Nat → Nat → Nat
  | 0, r => r
  | k + 1, r => isqrt n k (if (r + 2 ^ k) * (r + 2 ^ k) ≤ n then r + 2 ^ k else r)

/-- Z(j) = round(2^32 / √((2j + 1) / 128)) (R558): the floor of twice the value, plus 1, halved. -/
def xcenZ (j : Nat) : Nat := (isqrt (2 ^ 73 / (2 * j + 1)) 40 0 + 1) / 2

/-- R(j) = round(2^39 / (256 + j)) (R214). -/
def xcenR (j : Nat) : Nat := (2 ^ 40 / (256 + j) + 1) / 2

/-- KLN = round(2^62 / ln 2) (R558). -/
def xcenKLN : Nat := 6653256548922161246
/-- TPI = round(2^96 × 2 / π) (R558). -/
def xcenTPI : Nat := 50438214784932703732933023698
/-- S5 down to S0 (R558). -/
def xcenS : List Int := [(-16596735030340), 739904368663792, (-21590780087563799), 367517370231208053, (-2978983596875621757), 7244019458077122842]
/-- C6 down to C0 (R558). -/
def xcenC : List Int := [2172507535204, (-116223906447658), 4239339756772701, (-96215822532083616), 1169844122888618931, (-5689439577989151081), 4611686018427387904]

/-- The canonical NaN, the infinities and 1.0 of binary32. -/
def f32NaN : Nat := 0x7FC0_0000
def f32Inf : Nat := 0x7F80_0000
def f32NegInf : Nat := 0xFF80_0000
def f32One : Nat := 0x3F80_0000

/-- round_fp32 of z × 2^e: one rounding to nearest even, an exact zero to +0 (R558). -/
def roundFp32 (z : Int) (e : Int) : Nat := Fmt.fp32.encode .near (Fv.ofInt z e)

/-- A nonzero m × 2^e written as 2^E × Mi × 2^-23 with 2^23 ≤ Mi < 2^24, for m < 2^24: (E, Mi). -/
def normalise (m : Nat) (e : Int) : Int × Nat :=
  let sh := 24 - bitLen m
  (e + 23 - sh, m * 2 ^ sh)

/-- ex2 (R212). -/
def ex2 (a : Nat) : Nat :=
  match Fmt.fp32.decode a with
  | .nan => f32NaN
  | .inf neg => if neg then 0 else f32Inf
  | .fin neg m e =>
    -- floor(x × 2^32); a magnitude of 2^8 or more is out of range on either side
    let k := e + 32
    let mag : Nat := if 0 ≤ k then m * 2 ^ k.toNat else m / 2 ^ (-k).toNat
    let up := decide (k < 0) && m % 2 ^ (-k).toNat != 0
    let u : Int := if neg then -((mag + up.toNat : Nat) : Int) else mag
    if !neg && decide ((mag : Int) ≥ 128 * 2 ^ 32) then f32Inf
    else if neg && (decide ((mag : Int) > 149 * 2 ^ 32) || (decide ((mag : Int) = 149 * 2 ^ 32) && up)) then 0
    else
      let n := u / 2 ^ 32
      let F := (u - n * 2 ^ 32).toNat
      let i := F / 2 ^ 24
      let r := F % 2 ^ 24
      let Q : Nat := 2 ^ 31 + 0xB172_17F8 * r / 2 ^ 33 + 1031764991 * (r * r / 2 ^ 24) / 2 ^ 41
      let Mv : Nat := xcenT.getD i 0 * Q / 2 ^ 31
      roundFp32 Mv (n - 31)

/-- rcp (R214). -/
def rcp (a : Nat) : Nat :=
  match Fmt.fp32.decode a with
  | .nan => f32NaN
  | .inf neg => Fmt.fp32.signed neg 0
  | .fin neg m e =>
    if m = 0 then Fmt.fp32.signed neg f32Inf
    else
      let n := normalise m e
      let j := n.2 / 2 ^ 15 % 256
      let tt := n.2 % 2 ^ 15
      let Y := xcenR j - xcenR j * xcenR j * tt / 2 ^ 54
      let D := 2 ^ 55 - n.2 * Y
      let y1 := Y * D / 2 ^ 54
      Fmt.fp32.round .near neg y1 (-n.1 - 31)

/-- LG2 (R558, Table KF-6). -/
def lg2 (a : Nat) : Nat :=
  match Fmt.fp32.decode a with
  | .nan => f32NaN
  | .inf neg => if neg then f32NaN else f32Inf
  | .fin neg m e =>
    if m = 0 then f32NegInf
    else if neg then f32NaN
    else
      let n := normalise m e
      let j := n.2 / 2 ^ 15 % 256
      let tt := n.2 % 2 ^ 15
      let s : Nat := tt * 2 ^ 47 / (256 + j)
      let P : Nat := s - s * s / 2 ^ 63 + s * s * s / (3 * 2 ^ 124)
      let frac : Nat := xcenG.getD j 0 + P * xcenKLN / 2 ^ 62
      roundFp32 (n.1 * 2 ^ 62 + Int.ofNat frac) (-62)

/-- One Newton step of RSQ (R558); the factor stays positive. -/
def rsqStep (W Y : Nat) : Nat := Y * (3 * 2 ^ 87 - W * Y * Y) / 2 ^ 88

/-- RSQ (R558, Table KF-6). -/
def rsq (a : Nat) : Nat :=
  match Fmt.fp32.decode a with
  | .nan => f32NaN
  | .inf neg => if neg then f32NaN else 0
  | .fin neg m e =>
    if m = 0 then Fmt.fp32.signed neg f32Inf
    else if neg then f32NaN
    else
      let n := normalise m e
      let odd := decide (n.1 % 2 = 1)
      let E2 := if odd then n.1 - 1 else n.1
      let W := if odd then 2 * n.2 else n.2
      let Y : Nat := rsqStep W (rsqStep W (xcenZ (W / 2 ^ 17)))
      roundFp32 Y (-(E2 / 2) - 32)

/-- Horner's rule of R558 with w = r² / 2^64: the coefficients from the highest down. -/
def horner (w : Int) : List Int → Int
  | [] => 0
  | c :: cs => cs.foldl (fun p k => k + p * w / 2 ^ 64) c

/-- The quadrant and the values sn and cs of SIN and COS (R558) for |a| = m × 2^e. -/
def sincos (m : Nat) (e : Int) : Nat × Int × Int :=
  -- floor(|a| × TPI / 2^32)
  let k := e - 32
  let U : Int := ((if 0 ≤ k then m * xcenTPI * 2 ^ k.toNat else m * xcenTPI / 2 ^ (-k).toNat : Nat) : Int)
  let n := (U + 2 ^ 63) / 2 ^ 64
  let r := U - n * 2 ^ 64
  let w := r * r / 2 ^ 64
  ((n % 4).toNat, horner w xcenS * r / 2 ^ 64, horner w xcenC)

/-- Whether the finite magnitude m × 2^e is above 1,024π: no binary32 lies between 1,024π and its nearest neighbours, so the largest
binary32 not above 1,024π, 0x4549_0FDA, decides. -/
def beyond1024pi (a : Nat) : Bool := decide (a % 2 ^ 31 > 0x4549_0FDA)

/-- SIN (R558, Table KF-6). -/
def sinF (a : Nat) : Nat :=
  match Fmt.fp32.decode a with
  | .nan => f32NaN
  | .inf _ => f32NaN
  | .fin neg m e =>
    if m = 0 then Fmt.fp32.signed neg 0
    else if beyond1024pi a then f32NaN
    else
      let q := sincos m e
      let v := [q.2.1, q.2.2, -q.2.1, -q.2.2].getD q.1 0
      let x := roundFp32 v (-62)
      if neg then x ^^^ 2 ^ 31 else x

/-- COS (R558, Table KF-6). -/
def cosF (a : Nat) : Nat :=
  match Fmt.fp32.decode a with
  | .nan => f32NaN
  | .inf _ => f32NaN
  | .fin _ m e =>
    if m = 0 then f32One
    else if beyond1024pi a then f32NaN
    else
      let q := sincos m e
      roundFp32 ([q.2.2, -q.2.1, -q.2.2, q.2.1].getD q.1 0) (-62)

end Sys2Proof.Machine
end

