-- ==== Sys2Proof/Machine/Att.lean ====
section
/-! DEFINITION. The softmax and bias unit (spec/07_attention.md): descriptors with the checks of Table AT-8, issue, distance bias,
masks, online softmax, normalisation and packing. -/

namespace Sys2Proof.Machine

/-! ## Descriptors (Tables AT-2 to AT-6) -/

/-- An ATT.SCORE descriptor's fields (Table AT-3). -/
structure ScoreD where
  first  : Bool
  packed : Bool
  m      : Nat
  score  : Nat
  oRow   : Nat
  blocks : Nat
  e4m3   : Bool
  mask   : Nat
  bias   : Nat
  scale  : Nat
  pDst   : Nat
  pStride : Nat
  state  : Nat
  qpos0  : Nat
  kpos0  : Nat
  kend   : Nat
  window : Nat
  bitmap : Nat
  bmStride : Nat

def ScoreD.of (b : List Byte) : ScoreD :=
  { first := bit (fieldAt b 1 1) 0, packed := bit (fieldAt b 1 1) 1, m := fieldAt b 2 2, score := fieldAt b 4 2, oRow := fieldAt b 6 2
    blocks := fieldAt b 8 1, e4m3 := fieldAt b 9 1 = 1, mask := fieldAt b 10 1, bias := fieldAt b 11 1, scale := fieldAt b 12 4
    pDst := fieldAt b 16 4, pStride := fieldAt b 20 4, state := fieldAt b 24 4, qpos0 := fieldAt b 28 4, kpos0 := fieldAt b 32 4
    kend := fieldAt b 36 4, window := fieldAt b 40 4, bitmap := fieldAt b 44 4, bmStride := fieldAt b 48 2 }

/-- An ATT.NORM descriptor's fields (Table AT-4). -/
structure NormD where
  fmt    : Nat
  m      : Nat
  oRow   : Nat
  blocks : Nat
  lse    : Bool
  count  : Bool
  dst    : Nat
  stride : Nat
  state  : Nat
  lseDst : Nat
  cntDst : Nat

def NormD.of (b : List Byte) : NormD :=
  { fmt := fieldAt b 1 1, m := fieldAt b 2 2, oRow := fieldAt b 4 2, blocks := fieldAt b 6 1, lse := bit (fieldAt b 7 1) 0
    count := bit (fieldAt b 7 1) 1, dst := fieldAt b 8 4, stride := fieldAt b 12 4, state := fieldAt b 16 4, lseDst := fieldAt b 20 4
    cntDst := fieldAt b 24 4 }

/-- An ATT.PACK descriptor's fields (Table AT-6). -/
structure PackD where
  count  : Nat
  bytes  : Nat
  list   : Nat
  dst    : Nat
  stride : Nat

def PackD.of (b : List Byte) : PackD :=
  { count := fieldAt b 1 1, bytes := fieldAt b 2 2, list := fieldAt b 4 4, dst := fieldAt b 8 4, stride := fieldAt b 12 4 }

/-- A pack list entry of 32 bytes (Table AT-6). -/
def PackRow.of (b : List Byte) : PackRow :=
  { qsrc := fieldAt b 0 4, qpos := fieldAt b 4 4, kstart := fieldAt b 8 4, klen := fieldAt b 12 4, kpos0 := fieldAt b 16 4
    window := fieldAt b 20 4, mask := fieldAt b 24 1, bias := fieldAt b 25 1 }

/-- The device address of a local-memory offset of L. -/
def Mach.loc (m : Mach) (s L o : Nat) : Nat := localAddr s (m.homeOfIndex s L) o

/-- The bytes of the pack list that a descriptor names. -/
def Mach.packList (m : Mach) (s L : Nat) (d : PackD) : List PByte :=
  if d.list + 32 * d.count ≤ 0x8_0000 then m.homeBytes (m.loc s L d.list) (32 * d.count) else []

/-- The entries of a pack list. -/
def packRows (n : Nat) (b : List Byte) : List PackRow := (List.range n).map (fun i => PackRow.of ((b.drop (32 * i)).take 32))

/-! ## Checks at issue (Table AT-8) -/

/-- What the core tracks in issue order (R206): the bias slots that will be loaded, and the rows of the pack table. -/
abbrev AttTrack := Nat × Option Nat

/-- Bytes [a, a + n) lie in local memory. -/
def inLocal (a n : Nat) : Bool := decide (a + n ≤ 0x8_0000)

def chkBias (t : AttTrack) (b : List Byte) : Option AttTrack :=
  let slot := fieldAt b 1 1
  let mode := fieldAt b 2 1
  let split := fieldAt b 3 1
  let e := fieldAt b 12 1
  let sl := fieldAt b 13 1
  let ok := fieldAt b 0 1 = 0x11 && zeroFrom b 14 && decide (slot ≤ 7) && decide (mode ≤ 1) && fieldAt b 4 4 % 8 = 0 && inLocal (fieldAt b 4 4) 2048 &&
    (if mode = 0 then split = 0 && e = 0 && sl = 0
     else decide (split ≤ 1) && fieldAt b 8 4 = 0 && decide (e ≤ (if split = 1 then 8 else 9)) && decide (sl ≤ e))
  if ok then some (t.1 ||| 2 ^ slot, t.2) else none

/-- A bias slot that an operation names is absent (0xFF) or will be loaded. -/
def biasNamed (loaded slot : Nat) : Bool := slot = 0xFF || (decide (slot ≤ 7) && bit loaded slot)

/-- The last bitmap byte that an operation can reach lies in local memory (R209). -/
def bitmapFits (d : ScoreD) : Bool :=
  let k := min (d.kpos0 + 63) (d.kend - 1)
  if d.kend ≤ d.kpos0 then true else inLocal (d.bitmap + (d.qpos0 + d.m - 1) / 64 * d.bmStride + k / 64 / 8) 1

def chkScore (t : AttTrack) (b : List Byte) : Option AttTrack :=
  let d := ScoreD.of b
  let mode := d.mask % 4
  let o0 := d.oRow
  let o1 := d.oRow + d.blocks * d.m
  let ok := fieldAt b 0 1 = 0x12 && zeroFrom b 0x32 && decide (fieldAt b 1 1 ≤ 3) && decide (1 ≤ d.m) && decide (d.m ≤ 512) &&
    decide (d.score ≤ 511) && decide (d.oRow ≤ 511) && decide (1 ≤ d.blocks) && decide (d.blocks ≤ 4) && decide (fieldAt b 9 1 ≤ 1) &&
    decide (d.mask < 8) && d.pDst % 8 = 0 && d.pStride % 8 = 0 && decide ((if d.e4m3 then 64 else 128) ≤ d.pStride) &&
    localFits d.pDst d.m d.pStride (if d.e4m3 then 64 else 128) && d.state % 8 = 0 && inLocal d.state (8 * d.m) &&
    decide (d.score + d.m ≤ 512) && decide (o1 ≤ 512) && !(rangesMeet (d.score, d.m) (o0, o1 - o0)) &&
    (if d.packed then d.mask = 0 && d.bias = 0xFF && d.qpos0 = 0 && d.kend = 0 && d.window = 0 && d.bitmap = 0 && d.bmStride = 0 && t.2 = some d.m
     else
      biasNamed t.1 d.bias && decide (d.qpos0 + d.m - 1 < 2 ^ 31) && decide (d.kpos0 + 63 < 2 ^ 31) &&
      (if mode = 2 then decide (1 ≤ d.window) && decide (d.window < 2 ^ 31) else d.window = 0) &&
      (if mode = 3 then decide (1 ≤ d.bmStride) && decide (d.bmStride ≤ 4096) && bitmapFits d else d.bitmap = 0 && d.bmStride = 0))
  if ok then some t else none

/-- Bytes of an output value of ATT.NORM. -/
def normWidth (f : Nat) : Nat := if f = 0 then 4 else if f = 3 then 1 else 2

def chkNorm (t : AttTrack) (b : List Byte) : Option AttTrack :=
  let d := NormD.of b
  let size := 64 * d.blocks * normWidth d.fmt
  let ok := fieldAt b 0 1 = 0x13 && zeroFrom b 0x1C && decide (d.fmt ≤ 3) && decide (1 ≤ d.m) && decide (d.m ≤ 512) && decide (1 ≤ d.blocks) &&
    decide (d.blocks ≤ 4) && decide (fieldAt b 7 1 ≤ 3) && decide (d.oRow + d.blocks * d.m ≤ 512) && d.dst % 8 = 0 && d.stride % 8 = 0 &&
    decide (size ≤ d.stride) && localFits d.dst d.m d.stride size && d.state % 8 = 0 && inLocal d.state (8 * d.m) &&
    (if d.lse then d.lseDst % 4 = 0 && inLocal d.lseDst (4 * d.m) else d.lseDst = 0) &&
    (if d.count then d.cntDst % 4 = 0 && inLocal d.cntDst 4 else d.cntDst = 0)
  if ok then some t else none

/-- Two key ranges are identical or disjoint (R219). -/
def keyRangesOk (a b : PackRow) : Bool :=
  (a.kstart = b.kstart && a.klen = b.klen) || !(rangesMeet (a.kstart, a.klen) (b.kstart, b.klen)) || a.klen = 0 || b.klen = 0

/-- One list entry (Tables AT-6, AT-8). -/
def packEntryOk (loaded : Nat) (d : PackD) (raw : List Byte) (r : PackRow) : Bool :=
  r.qsrc % 8 = 0 && inLocal r.qsrc d.bytes && decide (r.qpos < 2 ^ 31) && decide (r.kstart + r.klen ≤ 65536) && decide (r.mask ≤ 2) &&
    (if r.mask = 2 then decide (1 ≤ r.window) && decide (r.window < 2 ^ 31) else r.window = 0) && biasNamed loaded r.bias && zeroFrom raw 0x1A

def chkPack (m : Mach) (s L : Nat) (t : AttTrack) (b : List Byte) : Option AttTrack :=
  let d := PackD.of b
  let ok1 := fieldAt b 0 1 = 0x14 && zeroFrom b 0x10 && decide (1 ≤ d.count) && decide (d.count ≤ 32) && decide (8 ≤ d.bytes) && decide (d.bytes ≤ 512) &&
    d.bytes % 8 = 0 && d.list % 32 = 0 && inLocal d.list (32 * d.count) && d.dst % 8 = 0 && d.stride % 8 = 0 && decide (d.bytes ≤ d.stride) &&
    localFits d.dst d.count d.stride d.bytes
  let raw := PByte.vals (m.packList s L d)
  let rows := packRows d.count raw
  let ok2 := (rows.zipIdx).all (fun e => packEntryOk t.1 d ((raw.drop (32 * e.2)).take 32) e.1) &&
    rows.all (fun a => rows.all (fun b => keyRangesOk a b))
  if ok1 && ok2 then some (t.1, some d.count) else none

/-- The poison of a pack list, which is read at issue. -/
def packPoison (m : Mach) (s L : Nat) (b : List Byte) : List (Nat × Nat) :=
  let d := PackD.of b
  ((m.packList s L d).zipIdx).filterMap (fun e =>
    if e.1.poison ≠ 0 then some (e.1.poison, m.loc s L ((d.list + e.2) / 8 * 8)) else none)

/-! ## Issue (R206, R222) -/

/-- The unit's state changed. -/
def Mach.updAtt (m : Mach) (s L : Nat) (f : AttSt → AttSt) : Mach := m.updCore s L (fun c => { c with att := f c.att })

/-- CORE_ATT_STATUS kept in step. -/
def Mach.syncAtt (m : Mach) (s L : Nat) : Mach :=
  let x := (m.core s L).att
  let p := m.physOf s L
  let a := (m.setF s Reg.CORE_ATT_STATUS_BIAS_LOADED (ofBits (x.bias.map (·.1))) p).setF s Reg.CORE_ATT_STATUS_PACK_VALID x.pack.isSome.toNat p
  let b := (a.setF s Reg.CORE_ATT_STATUS_PACK_COUNT (x.pack.getD []).length p).setF s Reg.CORE_ATT_STATUS_BUSY x.run.isSome.toNat p
  b.setF s Reg.CORE_ATT_STATUS_QUEUED (min 8 x.queue.length) p

/-- An operation issued, with what the core tracks after it. -/
def Mach.attIssue (m : Mach) (s L : Nat) (b : List Byte) (list : List PackRow) (t : AttTrack) : Mach :=
  (m.updAtt s L (fun x => { x with
    queue := x.queue ++ [{ id := x.nextId, desc := b, list := list }], nextId := x.nextId + 1, trackBias := t.1, trackPack := t.2 })).syncAtt s L

/-- The core's track. -/
def Mach.attTrack (m : Mach) (s L : Nat) : AttTrack := ((m.core s L).att.trackBias, (m.core s L).att.trackPack)

/-- An ATT instruction that finds the queue full waits at issue (R222). -/
def KCtx.attFull (k : KCtx) (m : Mach) : Bool := decide (8 ≤ (m.core k.s k.L).att.queue.length)

/-- The group goes on after its lanes have issued: while the last of them still waits for room, the group waits at issue (R145, R222). -/
def KCtx.attNext (k : KCtx) (m : Mach) : Mach :=
  let x := (m.core k.s k.L).att
  if x.queue.length ≤ 8 then k.next m else m.updGroup k.s k.L k.slot (fun g => { g with wait := .attLanes (x.nextId - 1) })

/-- A solo ATT form. -/
def KCtx.att (k : KCtx) (m : Mach) (n : Nat) (chk : Mach → AttTrack → List Byte → Option AttTrack)
    (more : Mach → List Byte → List (Nat × Nat)) : Mach :=
  if k.attFull m then m
  else
    k.solo m n (m.attTrack k.s k.L) chk
      (fun m b =>
        let list := if fieldAt b 0 1 = 0x14 then packRows (PackD.of b).count (PByte.vals (m.packList k.s k.L (PackD.of b))) else []
        match chk m (m.attTrack k.s k.L) b with
        | some t => m.attIssue k.s k.L b list t
        | none => m) k.attNext more

/-- ATT.BIAS (R206, R207). -/
def execAttBias (a : KInstr) (s : State) : Out :=
  kernel a s 0x12 0x00 (fun k m => k.att m s.fuse.part.stackCount (fun _ => chkBias) (fun _ _ => []))

/-- ATT.SCORE (R206, R210). -/
def execAttScore (a : KInstr) (s : State) : Out :=
  kernel a s 0x12 0x01 (fun k m => k.att m s.fuse.part.stackCount (fun _ => chkScore) (fun _ _ => []))

/-- ATT.NORM (R206, R215). -/
def execAttNorm (a : KInstr) (s : State) : Out :=
  kernel a s 0x12 0x02 (fun k m => k.att m s.fuse.part.stackCount (fun _ => chkNorm) (fun _ _ => []))

/-- ATT.PACK (R206, R219): the list is read and checked at issue. -/
def execAttPack (a : KInstr) (s : State) : Out :=
  kernel a s 0x12 0x03 (fun k m => k.att m s.fuse.part.stackCount (fun m => chkPack m k.s k.L) (fun m => packPoison m k.s k.L))

/-- ATT.WAIT: the group goes on when every earlier ATT operation of the core has completed (R145). -/
def execAttWait (a : KInstr) (s : State) : Out :=
  kernel a s 0x12 0x04 (fun k m =>
    let x := (m.core k.s k.L).att
    if x.queue = [] ∧ x.run = none then k.next m
    else m.updGroup k.s k.L k.slot (fun g => { g with wait := .att ((x.queue[8]?.map (·.id)).getD x.nextId) }))

/-! ## Distance bias (R207) and masks (R209, R220) -/

/-- The table index for a signed distance (R207). -/
def BiasSlot.index (b : BiasSlot) (delta : Int) : Nat :=
  if !b.log then (min (max (delta + b.base) 0) 1023).toNat
  else
    let H := if b.split then 512 else 1024
    let a := delta.natAbs
    let x :=
      if a < 2 ^ b.e then a
      else
        let t := Nat.log2 a
        2 ^ b.e + (t - b.e) * 2 ^ b.s + (a / 2 ^ (t - b.s) - 2 ^ b.s)
    let x := min x (H - 1)
    if b.split ∧ delta < 0 then 512 + x else x

/-- What a row of a score operation takes its parameters from (R209, R220). -/
structure RowParam where
  q      : Nat
  mask   : Nat
  bias   : Nat
  window : Nat

/-- The parameters of row i. -/
def ScoreD.row (d : ScoreD) (pack : List PackRow) (i : Nat) : RowParam :=
  if d.packed then
    match pack[i]? with
    | some r => ⟨r.qpos, r.mask, r.bias, r.window⟩
    | none => ⟨0, 0, 0xFF, 0⟩
  else ⟨d.qpos0 + i, d.mask, d.bias, d.window⟩

/-- The key position of column j of row i, if it lies in the key range (R209, R220). -/
def ScoreD.key (d : ScoreD) (pack : List PackRow) (i j : Nat) : Option Nat :=
  let x := d.kpos0 + j
  if d.packed then
    match pack[i]? with
    | some r => if r.kstart ≤ x ∧ x < r.kstart + r.klen then some (r.kpos0 + (x - r.kstart)) else none
    | none => none
  else if x < d.kend then some x else none

/-- The local-memory offset of the bitmap byte of a pair of positions (Table AT-7). -/
def ScoreD.bitmapAt (d : ScoreD) (q k : Nat) : Nat := d.bitmap + q / 64 * d.bmStride + k / 64 / 8

/-- Whether the mask mode admits query q and key k; bm is the bitmap byte (Table AT-7). -/
def maskAdmits (mask window q k bm : Nat) : Bool :=
  match mask % 4 with
  | 0 => true
  | 1 => decide (k ≤ q)
  | 2 => decide (k ≤ q) && decide (q - k < window)
  | _ => bit bm (k / 64 % 8) && (!bit mask 2 || decide (k ≤ q))

/-! ## ATT.SCORE (R208 to R211) -/

/-- A read with its poison. -/
def Mach.attRead (m : Mach) (a n : Nat) : Nat × List (Nat × Nat) :=
  let b := m.homeBytes a n
  (PByte.num b, (b.zipIdx).filterMap (fun e => if e.1.poison ≠ 0 then some (e.1.poison, (a + e.2) / 8 * 8) else none))

def attNaN : Nat := 0x7FC0_0000
def attNegInf : Nat := 0xFF80_0000
def isNaN32 (x : Nat) : Bool := (Fmt.fp32.decode x).isNaN

/-- The balanced pairwise sum of 64 values (R210). -/
def pairsum (l : List Nat) : Nat := (iter (pairUp (f32Add .near)) 6 l).headD 0

/-- The poison-carrying lookups of a row: the bias of a column as FP32. -/
def biasOf (slots : SMap BiasSlot) (slot : Nat) (delta : Int) : Nat × List (Nat × Nat) :=
  match SMap.find slots slot with
  | none => (0, [])
  | some b =>
    let x := b.index delta
    let e := (b.bytes.drop (2 * x)).take 2
    let kd := PByte.joined e
    (convert .bf16 .fp32 (PByte.num e), if kd ≠ 0 then [(kd, (b.src + 2 * x) / 8 * 8)] else [])

/-- What ATT.SCORE computes for a row: the weights P, the new state, alpha when the output row is rescaled, and the poison read. -/
structure ScoreRow where
  p      : List Nat
  state  : Option (Nat × Nat)
  alpha  : Option Nat
  poison : List (Nat × Nat)

/-- The row state of row i, with the poison of its read (R210). -/
def Mach.attState (m : Mach) (a : Nat) : Nat × Nat × List (Nat × Nat) :=
  let x := m.attRead a 4
  let y := m.attRead (a + 4) 4
  (x.1, y.1, x.2 ++ y.2)

/-- Column j of row i: none when it is masked, else z; with the poison read (R208, R209, R223). -/
def Mach.attColumn (m : Mach) (s L : Nat) (d : ScoreD) (slots : SMap BiasSlot) (pack : List PackRow) (i j : Nat) :
    Option Nat × List (Nat × Nat) :=
  let r := d.row pack i
  match d.key pack i j with
  | none => (none, [])
  | some k =>
    let bm := if r.mask % 4 = 3 then m.attRead (m.loc s L (d.bitmapAt r.q k)) 1 else (0, [])
    if !maskAdmits r.mask r.window r.q k bm.1 then (none, bm.2)
    else
      let sc := m.attRead (accAddr s (m.homeOfIndex s L) (256 * (d.score + i) + 4 * j)) 4
      let b := if r.bias = 0xFF then (0, []) else biasOf slots r.bias ((r.q : Int) - k)
      (some (f32Fma .near sc.1 d.scale b.1), bm.2 ++ sc.2 ++ b.2)

/-- One query row of ATT.SCORE (R210). -/
def Mach.scoreRow (m : Mach) (s L : Nat) (d : ScoreD) (slots : SMap BiasSlot) (pack : List PackRow) (i : Nat) : ScoreRow :=
  let zeros := (List.range 64).map (fun _ => 0)
  let st := if d.first then (attNegInf, 0, []) else m.attState (m.loc s L (d.state + 8 * i))
  let mx := st.1
  let l := st.2.1
  if isNaN32 mx then ⟨zeros, none, none, st.2.2⟩
  else
    let cols := (List.range 64).map (m.attColumn s L d slots pack i)
    let po := st.2.2 ++ cols.flatMap (·.2)
    let z := cols.map (·.1)
    let some' := z.filterMap id
    if some'.any (fun x => isNaN32 x || x = 0x7F80_0000) then ⟨zeros, some (attNaN, l), none, po⟩
    else
      let t := some'.foldl f32Max attNegInf
      let mn := f32Max mx t
      let cv (x : Nat) : Nat := if d.e4m3 then convert .fp32 .e4m3 x else convert .fp32 .bf16 x
      let back (x : Nat) : Nat := if d.e4m3 then convert .e4m3 .fp32 x else convert .bf16 .fp32 x
      let p := z.map (fun x =>
        match x with
        | some x => if mn ≠ attNegInf then cv (ex2 (f32Sub .near x mn)) else 0
        | none => 0)
      let S := pairsum (p.map back)
      let alpha := if mn = attNegInf then 0x3F80_0000 else ex2 (f32Sub .near mx mn)
      ⟨p, some (mn, f32Fma .near alpha l S), if d.first then none else some alpha, po⟩

/-- The output rows of query row i multiplied by alpha (R205, R210): the words with their addresses, and the poison read. -/
def Mach.rescaled (m : Mach) (s L oRow blocks M i alpha : Nat) : List (Nat × Nat) × List (Nat × Nat) :=
  (List.range blocks).foldl (fun t b =>
    (List.range 64).foldl (fun t c =>
      let a := accAddr s (m.homeOfIndex s L) (256 * (oRow + b * M + i) + 4 * c)
      let r := m.attRead a 4
      (t.1 ++ [(a, f32Mul .near r.1 alpha)], t.2 ++ r.2)) t) ([], [])

/-- Row i of ATT.SCORE performed; nothing more is written once poison has been read. -/
def Mach.scoreStep (s L : Nat) (d : ScoreD) (slots : SMap BiasSlot) (pack : List PackRow) (t : Mach × List (Nat × Nat)) (i : Nat) :
    Mach × List (Nat × Nat) :=
  if t.2 ≠ [] then t
  else
    let m := t.1
    let r := m.scoreRow s L d slots pack i
    let o := match r.alpha with
      | some al => m.rescaled s L d.oRow d.blocks d.m i al
      | none => ([], [])
    let po := r.poison ++ o.2
    if po ≠ [] then (m, po)
    else
      let m1 := o.1.foldl (fun m e => m.sramWrite e.1 (PByte.clean (leBytes 4 e.2))) m
      let m2 := match r.state with
        | some st => m1.sramWrite (m1.loc s L (d.state + 8 * i)) (PByte.clean (leBytes 4 st.1 ++ leBytes 4 st.2))
        | none => m1
      (m2.sramWrite (m2.loc s L (d.pDst + i * d.pStride)) (PByte.clean (r.p.flatMap (leBytes (if d.e4m3 then 1 else 2)))), [])

/-! ## ATT.NORM (R215) -/

/-- One query row of ATT.NORM: outputs, log-sum-exp, whether the row is empty, whether it is not finite, and the poison read. -/
structure NormRow where
  out    : List Nat
  lse    : Nat
  empty  : Bool
  bad    : Bool
  poison : List (Nat × Nat)

/-- A value converted to OUT_FMT of ATT.NORM. -/
def normCvt (f x : Nat) : Nat :=
  if f = 0 then x else convert .fp32 (if f = 1 then .bf16 else if f = 2 then .fp16 else .e4m3) x

/-- The NaN of OUT_FMT (R215). -/
def normNaN (f : Nat) : Nat := if f = 0 then 0x7FC0_0000 else if f = 1 then 0x7FC0 else if f = 2 then 0x7E00 else 0x7F

def Mach.normRow (m : Mach) (s L : Nat) (d : NormD) (i : Nat) : NormRow :=
  let st := m.attState (m.loc s L (d.state + 8 * i))
  let n := 64 * d.blocks
  if st.1 = attNegInf then ⟨(List.range n).map (fun _ => 0), attNegInf, true, false, st.2.2⟩
  else if isNaN32 st.1 then ⟨(List.range n).map (fun _ => normNaN d.fmt), attNaN, false, true, st.2.2⟩
  else
    let r := rcp st.2.1
    let cols := (List.range n).map (fun c =>
      m.attRead (accAddr s (m.homeOfIndex s L) (256 * (d.oRow + c / 64 * d.m + i) + 4 * (c % 64))) 4)
    ⟨cols.map (fun x => normCvt d.fmt (f32Mul .near x.1 r)), f32Add .near st.1 (lg2 st.2.1), false, false, st.2.2 ++ cols.flatMap (·.2)⟩

/-- Row i of ATT.NORM performed: the machine, the poison, and the empty and non-finite rows so far. -/
def Mach.normStep (s L : Nat) (d : NormD) (t : Mach × List (Nat × Nat) × Nat × Nat) (i : Nat) : Mach × List (Nat × Nat) × Nat × Nat :=
  if t.2.1 ≠ [] then t
  else
    let m := t.1
    let r := m.normRow s L d i
    if r.poison ≠ [] then (m, r.poison, t.2.2)
    else
      let m1 := m.sramWrite (m.loc s L (d.dst + i * d.stride)) (PByte.clean (r.out.flatMap (leBytes (normWidth d.fmt))))
      let m2 := if d.lse then m1.sramWrite (m.loc s L (d.lseDst + 4 * i)) (PByte.clean (leBytes 4 r.lse)) else m1
      (m2, [], t.2.2.1 + r.empty.toNat, t.2.2.2 + r.bad.toNat)

/-! ## Events of the unit -/

/-- Groups whose ATT.WAIT covers no operation that is still to complete go on, and those whose lanes have all found room (R222). -/
def Mach.attRelease (m : Mach) (s L : Nat) : Mach :=
  let x := (m.core s L).att
  let ids := x.queue.map (·.id) ++ x.run.toList.map (·.id)
  let m := (m.core s L).groups.foldl (fun m e =>
    match e.2.wait with
    | .att n => if ids.all (fun i => n ≤ i) then m.updGroup s L e.1 (fun g => ({ g with wait := .none }).goto (g.pc + 8)) else m
    | .attLanes n => if (x.queue.drop 8).all (fun o => n < o.id) then m.updGroup s L e.1 (fun g => ({ g with wait := .none }).goto (g.pc + 8)) else m
    | _ => m) m
  m.syncAtt s L

/-- ATT_OP_START: the next queued operation starts when none runs (R202, R222). -/
def Mach.attStart (m : Mach) (s L : Nat) : Mach :=
  let x := (m.core s L).att
  match x.run, x.queue with
  | none, o :: q => if m.coreGoes s L then (m.updAtt s L (fun x => { x with queue := q, run := some o })).attRelease s L else m
  | _, _ => m

/-- ATT.BIAS performed: the table, its mode and its parameters replace those of the slot (R207). -/
def Mach.attLoadBias (m : Mach) (s L : Nat) (b : List Byte) : Mach :=
  let src := m.loc s L (fieldAt b 4 4)
  let slot : BiasSlot :=
    { log := fieldAt b 2 1 = 1, split := fieldAt b 3 1 = 1, base := toSigned 32 (fieldAt b 8 4), e := fieldAt b 12 1, s := fieldAt b 13 1
      src := src, bytes := m.homeBytes src 2048 }
  (m.detectHome src 2048).updAtt s L (fun x => { x with bias := SMap.put x.bias (fieldAt b 1 1) slot })

/-- ATT.PACK performed: rows copied with their poison, the pack table replaced (R219). -/
def Mach.attPack (m : Mach) (s L : Nat) (o : AttOp) : Mach :=
  let d := PackD.of o.desc
  let m1 := (o.list.zipIdx).foldl (fun m e =>
    let a := m.loc s L e.1.qsrc
    (m.detectHome a d.bytes).sramWrite (m.loc s L (d.dst + e.2 * d.stride)) (m.homeBytes a d.bytes)) m
  m1.updAtt s L (fun x => { x with pack := some o.list })

/-- The operation in progress leaves the unit. -/
def Mach.attComplete (m : Mach) (s L : Nat) : Mach := (m.updAtt s L (fun x => { x with run := none })).attRelease s L

/-- ATT_OP_DONE: the operation in progress performs its reads and writes and completes (R203, R207, R210, R215, R219); poison that it
consumes aborts the unit (R223). It waits while the core's memories are held (R31, R320). -/
def Mach.attDone (m : Mach) (s L : Nat) : Mach :=
  let x := (m.core s L).att
  match x.run with
  | none => m
  | some o =>
    if !m.coreGoes s L ∨ m.accessHeld true (m.loc s L 0) 1 then m
    else
      let b := o.desc
      match fieldAt b 0 1 with
      | 0x11 => (m.attLoadBias s L b).attComplete s L
      | 0x12 =>
        let d := ScoreD.of b
        let t := (List.range d.m).foldl (Mach.scoreStep s L d x.bias (x.pack.getD [])) (m, [])
        if t.2 ≠ [] then (t.1.detectAll t.2).consumeAll s L t.2 else t.1.attComplete s L
      | 0x13 =>
        let d := NormD.of b
        let p := m.physOf s L
        let t := (List.range d.m).foldl (Mach.normStep s L d) (m, [], 0, 0)
        if t.2.1 ≠ [] then (t.1.detectAll t.2.1).consumeAll s L t.2.1
        else
          let e := t.2.2.1
          let f := t.2.2.2
          let m1 := (t.1.bumpF s Reg.CORE_ATT_COUNT_EMPTY_ROWS p e).bumpF s Reg.CORE_ATT_COUNT_NONFINITE_ROWS p f
          let m2 := if e ≠ 0 then m1.setF s Reg.CORE_ATT_STATUS_EMPTY_ROW 1 p else m1
          let m3 := if f ≠ 0 then m2.setF s Reg.CORE_ATT_STATUS_NONFINITE 1 p else m2
          let m4 := if d.count then m3.sramWrite (m.loc s L d.cntDst) (PByte.clean (leBytes 4 e)) else m3
          m4.attComplete s L
      | _ => (m.attPack s L o).attComplete s L

/-- ATT_OP_START (R222). -/
def execAttOpStart (a : AtCore) (s : State) : Out := onStack s a.stack (fun _ m => m.attStart a.stack a.core)

/-- ATT_OP_DONE (R203). -/
def execAttOpDone (a : AtCore) (s : State) : Out := onStack s a.stack (fun _ m => m.attDone a.stack a.core)

end Sys2Proof.Machine
end

