-- ==== Sys2Proof/Machine/Mbx.lean ====
section
/-! DEFINITION. Mailboxes: copying and checking a request, completing it, deferred commands (spec/14_bureau_and_shoser.md, R411 to R419). -/

namespace Sys2Proof.Machine

/-- The opcodes of Table BU-6 with whether STACK 0xFF is allowed. -/
def shoserOpcodes : List (Nat × Bool) :=
  [(0x0001, true), (0x0002, true), (0x0003, false), (0x0004, false), (0x0005, false), (0x0101, true), (0x0102, true), (0x0103, true),
   (0x0201, true), (0x0202, true), (0x0203, true), (0x0204, true), (0x0205, false), (0x0301, false), (0x0302, false), (0x0303, false),
   (0x0304, false), (0x0305, false), (0x0306, false), (0x0307, false), (0x0401, false), (0x0402, false), (0x0403, false)] ++
  [(0x0501, false), (0x0601, false), (0x0602, false), (0x0603, false), (0x0604, false), (0x0605, false), (0x0606, false), (0x0701, true),
   (0x0702, true), (0x0801, false), (0x0802, false), (0x0901, false), (0x0902, false), (0x0A01, false), (0x0A02, true), (0x0A03, false),
   (0x0B01, false), (0x0C01, true), (0x0C02, true)]

/-- The request buffer of a mailbox in BAR2 (Table BU-2). -/
def requestBuf (b : Nat) : Nat := b * 0x2000
/-- The response buffer of a mailbox. -/
def responseBuf (b : Nat) : Nat := b * 0x2000 + 0x1000

/-- A request as the Bureau copies it, with the first failing check of R415, orders 1 to 4; a part of n stacks. -/
def Mach.request (m : Mach) (n box seq : Nat) : MbxReq :=
  let h := m.host.bar2.read (requestBuf box) 32
  let b := PByte.vals h
  let len := fieldAt b 8 4
  let body := m.host.bar2.read (requestBuf box + 32) (min len 4064)
  let op := fieldAt b 2 2
  let stack := fieldAt b 0x0C 1
  let status :=
    if (h ++ body).any (·.poison ≠ 0) then 0x0004
    else if fieldAt b 0 1 ≠ 2 ∨ fieldAt b 1 1 ≠ 1 ∨ len > 4064 ∨ fieldAt b 6 2 ≠ 0 ∨ fieldAt b 0x0D 3 ≠ 0 ∨ fieldAt b 0x18 8 ≠ 0 ∨
      fieldAt b 4 2 ≠ seq then 0x0001
    else
      match shoserOpcodes.find? (fun e => e.1 = op) with
      | none => 0x0002
      | some e => if stack < n ∨ (stack = 0xFF ∧ e.2) then 0 else 0x0006
  { mbox := box, seq := fieldAt b 4 2, opcode := op, stack := stack, cookie := fieldAt b 0x10 8, payload := PByte.vals body, status := status }

/-- The response header of Table BU-3. -/
def responseBytes (r : MbxReq) (status time : Nat) (payload : List Byte) : List Byte :=
  leBytes 1 2 ++ leBytes 1 2 ++ leBytes 2 r.opcode ++ leBytes 2 r.seq ++ leBytes 2 status ++ leBytes 4 payload.length ++
  leBytes 1 r.stack ++ leBytes 3 0 ++ leBytes 8 r.cookie ++ leBytes 8 time ++ payload

/-- A command completes (R413): the response, RESP_SEQ and DONE, BUSY clear, the mailbox's vector. -/
def Mach.complete (m : Mach) (r : MbxReq) (status : Nat) (payload : List Byte := []) : Mach :=
  let m1 := { m with host := { m.host with
    bar2 := m.host.bar2.writeBytes (responseBuf r.mbox) (responseBytes r status (m.now 0) payload) } }
  let m2 := (m1.setF 0 Reg.MBX_STATUS_RESP_SEQ r.seq r.mbox).setF 0 Reg.MBX_STATUS_DONE 1 r.mbox
  (m2.setF 0 Reg.MBX_STATUS_BUSY 0 r.mbox).sendVector r.mbox

/-- Requests at the front of the doorbell order that fail their checks complete with their status and no other effect (R415). In ROM
recovery mode only mailbox 0 is served (R409). -/
def Mach.settleMbx (n : Nat) : Nat → Mach → Mach
  | 0, m => m
  | fuel + 1, m =>
    match m.host.mbxQueue with
    | [] => m
    | q :: rest =>
      let r := m.request n q.1 q.2
      if r.status ≠ 0 then
        Mach.settleMbx n fuel ({ m with host := { m.host with mbxQueue := rest } }.complete r r.status)
      else m

/-- The request at the front, if its opcode is `op`. -/
def Mach.frontReq (m : Mach) (n op : Nat) : Option MbxReq :=
  match m.host.mbxQueue with
  | [] => none
  | q :: _ =>
    let r := m.request n q.1 q.2
    if r.status = 0 ∧ r.opcode = op then some r else none

/-- The front request leaves the doorbell order; failing ones behind it complete. -/
def Mach.popReq (m : Mach) (n : Nat) : Mach :=
  let m1 := { m with host := { m.host with mbxQueue := m.host.mbxQueue.drop 1 } }
  m1.settleMbx n m1.host.mbxQueue.length

/-- The command is deferred (R416): it stays BUSY and completes later. -/
def Mach.defer (m : Mach) (r : MbxReq) : Mach := { m with host := { m.host with deferred := m.host.deferred ++ [r] } }

/-- The oldest deferred command of an opcode whose request meets a condition completes. -/
def Mach.completeDeferred (m : Mach) (op : Nat) (p : MbxReq → Bool) (status : Nat) (payload : List Byte := []) : Mach :=
  match m.host.deferred.find? (fun r => r.opcode = op && p r) with
  | none => m
  | some r => ({ m with host := { m.host with deferred := m.host.deferred.erase r } }).complete r status payload

/-- A deferred command of an opcode is under way on stack s. -/
def Mach.deferredOn (m : Mach) (op s : Nat) : Option MbxReq := m.host.deferred.find? (fun r => r.opcode = op && (r.stack = s || r.stack = 0xFF))

/-- The stacks that a request addresses, of a part of n. -/
def MbxReq.stackSet (r : MbxReq) (n : Nat) : List Nat := if r.stack = 0xFF then List.range n else [r.stack]

end Sys2Proof.Machine
end

