-- ==== Sys2Proof/Machine/Firmware.lean ====
section
/-! DEFINITION. Firmware images and licences: their checks, the boot flash and the licence store (spec/14_bureau_and_shoser.md, R407 to R410,
R429 to R432; spec/00_scope.md, R10 to R12). -/

namespace Sys2Proof.Machine

/-! ## Firmware (R407 to R410) -/

/-- The header of the image in slot 0 (A) or 1 (B) of the boot flash. -/
def Mach.fwHeader (m : Mach) (slot : Nat) : List Byte := m.host.flash.vals (slot * 0x10_0000) 256

/-- The first failing check of R408 for an image with header h and the given bytes on stack s: 0 when it is accepted. -/
def fwStatus (f : Fuse) (s : Nat) (h : List Byte) (image : Nat → List Byte) : Nat :=
  let size := fieldAt h 0x0C 4
  let key := fieldAt h 0x10 4
  let zero (l : List Byte) : Bool := l.all (· = 0)
  if fieldAt h 0 4 ≠ 0x4957464B ∨ fieldAt h 4 2 ≠ 1 ∨ size % 8 ≠ 0 ∨ size < 8 ∨ size > 786432 ∨
      !zero ((h.drop 0x14).take 12) ∨ !zero ((h.drop 0xE0).take 32) then 0x0080
  else if key > 3 ∨ bit (f.keysRevoked.getD s 0) key ∨
      !Config.signatureVerifies 0 key (h.take 0x80 ++ leBytes 96 0 ++ h.drop 0xE0 ++ image size) ((h.drop 0x80).take 96) ((h.drop 0x20).take 96) then 0x0081
  else if fieldAt h 6 2 < f.minSecver.getD s 0 then 0x0082
  else 0

/-- The check of the image in a slot, as stack s makes it. -/
def Mach.slotStatus (f : Fuse) (m : Mach) (s slot : Nat) : Nat :=
  fwStatus f s (m.fwHeader slot) (fun n => m.host.flash.vals (slot * 0x10_0000 + 256) n)

/-- The slot that the ROM of stack 0 runs: the preferred one, then the other (R408). -/
def Mach.bootSlot (f : Fuse) (m : Mach) : Option Nat :=
  let p := m.host.preferred
  if Mach.slotStatus f m 0 p = 0 then some p else if Mach.slotStatus f m 0 (1 - p) = 0 then some (1 - p) else none

/-- Blocks of 4 KiB of the image in a slot (R458). -/
def Mach.imageBlocks (m : Mach) (slot : Nat) : Nat := ceilDiv (256 + fieldAt (m.fwHeader slot) 0x0C 4) 4096

/-! ## Licences (R10, R11, R430 to R432) -/

/-- The feature that a blob names. -/
def licFeature (b : LicBlob) : Nat := fieldAt b 6 2

/-- The first failing check of R431 for a blob, but for the room in the store: 0 when it is accepted. -/
def licStatus (f : Fuse) (b : LicBlob) : Nat :=
  if b.length ≠ 144 ∨ fieldAt b 0 4 ≠ 0x4E43494C ∨ fieldAt b 4 2 ≠ 1 ∨ licFeature b < 1 ∨ licFeature b > 5 ∨ !((b.drop 0x24).take 12).all (· = 0) then 0x0070
  else if fieldAt b 0x20 4 > 3 ∨ !Config.signatureVerifies 1 (fieldAt b 0x20 4) (b.take 0x30) (b.drop 0x30) [] then 0x0071
  else if fieldAt b 8 16 ≠ f.serial.toNat then 0x0072
  else 0

/-- The mask of the features of the accepted licences in a store. -/
def licMask (f : Fuse) (l : List LicBlob) : Nat :=
  ofBits ((l.filter (fun b => licStatus f b = 0)).map (fun b => licFeature b - 1)).eraseDups

/-- LIC_STATUS of every stack follows the store (R11, R431). -/
def Mach.syncLicences (f : Fuse) (m : Mach) : Mach :=
  m.onStacks 4 (fun m s => (m.setF s Reg.LIC_STATUS_FEATURES (licMask f m.host.licences)).setF s Reg.LIC_STATUS_COUNT m.host.licences.length)

/-- The store checked at a cold start (R431): a licence that fails is ignored and counted. -/
def Mach.checkStore (f : Fuse) (m : Mach) : Mach :=
  let bad := (m.host.licences.filter (fun b => licStatus f b ≠ 0)).length
  (Mach.syncLicences f m).onStacks 4 (fun m s => m.bumpF s Reg.LIC_STATUS_REJECTED 0 bad)

end Sys2Proof.Machine
end

