-- ==== Sys2Proof/Machine/Cabinet.lean ====
section
/-! DEFINITION. The Cabinets (spec/08_kv_cache.md): pools, page records, maps, quantisers, the full-pool procedure, and the keyed
operations as the Cabinet performs them. -/

namespace Sys2Proof.Machine

/-! ## Formats (Tables KV-1, KV-2) -/

/-- The head dimension of a HEAD_DIM code. -/
def kvDim (hd : Nat) : Nat := 64 * 2 ^ hd
/-- Element width in bits of a FORMAT code. -/
def kvWidth (f : Nat) : Nat := if f = 0 then 8 else if f = 1 then 4 else 16
/-- Elements of a quantisation group. -/
def kvGroup (f : Nat) : Nat := if f = 0 then 64 else 32
/-- Scales per row: G of R230; KB16 has none. -/
def kvScales (f hd : Nat) : Nat := if f = 2 then 0 else kvDim hd / kvGroup f
/-- Positions per page (Table KV-2). -/
def kvPositions (f hd : Nat) : Nat := 65536 / (kvDim hd * kvWidth f)
/-- Bytes of one row. -/
def kvRow (f hd : Nat) : Nat := kvDim hd * kvWidth f / 8
/-- Bytes of a stage entry (R243). -/
def kvEntry (f hd : Nat) : Nat := 2 * kvRow f hd + 4 * kvScales f hd
/-- The largest magnitude of a quantised value. -/
def kvMax (f : Nat) : Nat := if f = 0 then 127 else 7

/-! ## The quantisers (R245, R247) -/

/-- A quotient rounded to the nearest integer, ties to even. -/
def roundDiv (num den : Nat) : Nat :=
  let q := num / den
  let r := num % den
  if 2 * r > den ∨ (2 * r = den ∧ q % 2 = 1) then q + 1 else q

/-- x / scale rounded to the nearest integer, ties to even. -/
def quantOne (x scale : Fv) : Int :=
  match x, scale with
  | .fin n m e, .fin _ ms es =>
    if ms = 0 then 0
    else
      let v := roundDiv (m * 2 ^ (e - es).toNat) (ms * 2 ^ (es - e).toNat)
      if n then -(v : Int) else v
  | _, _ => 0

/-- The smallest BF16 value at or above amax / qmax. -/
def quantScale (amax : Fv) (qmax : Nat) : Nat :=
  match amax with
  | .fin _ m e => Fmt.bf16.encode .up (.fin false (ceilDiv (m * 2 ^ 40) qmax) (e - 40))
  | _ => 0x7FC0

/-- One group quantised: its scale and values, and whether the scale is NaN (R245). -/
def quantGroup (f : Nat) (x : List Nat) : Nat × List Int × Bool :=
  let v := x.map Fmt.bf16.decode
  if v.any (fun a => !a.finite) then (0x7FC0, x.map (fun _ => 0), true)
  else
    let amax := v.foldl (fun b a => if Fv.lt b a.abs then a.abs else b) (.fin false 0 0)
    match amax with
    | .fin _ 0 _ => (0, x.map (fun _ => 0), false)
    | _ =>
      let sc := quantScale amax (kvMax f)
      (sc, v.map (fun a => quantOne a (Fmt.bf16.decode sc)), false)

/-- Codes of w bits as one little-endian bit string (R155). -/
def packBits (w : Nat) (l : List Nat) : List Byte :=
  leBytes (w * l.length / 8) ((l.zipIdx).foldl (fun v e => v + e.1 * 2 ^ (w * e.2)) 0)

/-- One row of d BF16 codes: the quantised row and its scales (R243, R245). -/
def quantRow (f : Nat) (x : List Nat) : List Byte × List Byte :=
  if f = 2 then (x.flatMap (leBytes 2), [])
  else
    let g := (List.range (x.length / kvGroup f)).map (fun i => quantGroup f ((x.drop (i * kvGroup f)).take (kvGroup f)))
    (packBits (kvWidth f) (g.flatMap (fun e => e.2.1.map (ofSigned (kvWidth f)))), g.flatMap (fun e => leBytes 2 e.1))

/-- The stage entry of a position: K row, V row, K scales, V scales (R243). -/
def stageEntry (f : Nat) (k v : List Nat) : List Byte :=
  let a := quantRow f k
  let b := quantRow f v
  a.1 ++ b.1 ++ a.2 ++ b.2

/-- The dequantised value of a stored element q with its scale (R247): +0 where the scale is zero. -/
def dequant (scale : Nat) (q : Int) : Nat :=
  match Fmt.bf16.decode scale with
  | .fin _ m e => if q = 0 ∨ m = 0 then 0 else Fmt.bf16.encode .near (.fin (decide (q < 0)) (q.natAbs * m) e)
  | _ => 0x7FC0

/-- A stored row dequantised to d BF16 codes (R247). -/
def dequantRow (f : Nat) (row scales : List Byte) : List Nat :=
  if f = 2 then unpackRow 16 (row.length / 2) row
  else
    let w := kvWidth f
    let q := unpackRow w (row.length * 8 / w) row
    (q.zipIdx).map (fun e => dequant (fieldAt scales (2 * (e.2 / kvGroup f)) 2) (toSigned w e.1))

/-! ## A Cabinet, its pool and its areas (R231, R233) -/

/-- Cabinet c of stack s. -/
def Mach.cab (m : Mach) (s c : Nat) : Cab := (m.stk s).cabs.get {} c

def Mach.updCab (m : Mach) (s c : Nat) (f : Cab → Cab) : Mach := m.updStk s (fun k => { k with cabs := k.cabs.modify f c })

/-- A live context. -/
def Mach.seq (m : Mach) (s q : Nat) : Option Seq := SMap.find (m.stk s).seqs q

def Mach.updSeq (m : Mach) (s q : Nat) (f : Seq → Seq) : Mach :=
  match m.seq s q with
  | some x => m.updStk s (fun k => { k with seqs := SMap.put k.seqs q (f x) })
  | none => m

/-- The Cabinet that serves a sequence id (R226). -/
def cabOf (q : Nat) : Nat := q / 32768

def Mach.frames (m : Mach) (s c : Nat) : Nat := m.getF s Reg.CAB_POOL_CFG_FRAMES c
def Mach.mapBlocks (m : Mach) (s c : Nat) : Nat := m.getF s Reg.CAB_POOL_CFG_MAP_BLOCKS c
def Mach.chestSlots (m : Mach) (s c : Nat) : Nat := m.getF s Reg.CAB_LP_CFG_CHEST_SLOTS c
/-- Page ids of a Cabinet (R234). -/
def Mach.pageIds (m : Mach) (s c : Nat) : Nat := if m.frames s c = 0 then 0 else m.frames s c - 16 + m.chestSlots s c

def Mach.frameAddr (m : Mach) (s c f : Nat) : Nat := m.getF s Reg.CAB_POOL_BASE_BASE c + 0x4000 * f
def Mach.scaleAddr (m : Mach) (s c f : Nat) : Nat := m.getF s Reg.CAB_POOL_BASE_BASE c + 0x4000 * m.frames s c + 0x800 * f
def Mach.mapAddr (m : Mach) (s c b : Nat) : Nat := m.getF s Reg.CAB_POOL_BASE_BASE c + 0x4800 * m.frames s c + 0x400 * b
/-- Bytes of the whole pool area (R231). -/
def poolBytes (frames blocks intake : Nat) : Nat := 0x4800 * frames + 0x400 * blocks + 2 ^ 20 * intake

def Mach.recordAddr (m : Mach) (s c id : Nat) : Nat := m.getF s Reg.CAB_LP_BASE_BASE c + 16 * id
def Mach.chestScale (m : Mach) (s c k : Nat) : Nat := m.getF s Reg.CAB_LP_BASE_BASE c + 16 * m.pageIds s c + 0x800 * k
def Mach.chestAddr (m : Mach) (s c k : Nat) : Nat :=
  m.getF s Reg.CAB_LP_BASE_BASE c + 16 * m.pageIds s c + 0x800 * m.chestSlots s c + 0x4000 * k

/-! ## Page records and maps (R234, R235) -/

def Mach.page (m : Mach) (s c id : Nat) : Option KPage := SMap.find (m.cab s c).pages id

/-- A record as its 16 bytes (Table KV-3); none is FREE. -/
def recordBytes : Option KPage → List Byte
  | none => leBytes 16 0
  | some p => leBytes 4 (p.loc + p.error.toNat * 4 + p.cls * 16 + p.whr * 256) ++ leBytes 2 p.refs ++ leBytes 2 p.pins ++ leBytes 4 p.stamp ++ leBytes 4 0

/-- A page record set or freed, and written through the cache partition, as streaming traffic (R233, R270). -/
def Mach.setPage (m : Mach) (s c id : Nat) (p : Option KPage) : Mach :=
  let m1 := m.updCab s c (fun k => { k with pages := match p with
    | some x => SMap.put k.pages id x
    | none => SMap.erase k.pages id })
  m1.performWrite false (m1.recordAddr s c id) (PByte.clean (recordBytes p))

def Mach.updPage (m : Mach) (s c id : Nat) (f : KPage → KPage) : Mach :=
  match m.page s c id with
  | some p => m.setPage s c id (some (f p))
  | none => m

/-- A page holds a frame: RESIDENT, or DROPPED with ERROR in a frame (Table KV-3, R257). -/
def KPage.framed (p : KPage) : Bool := p.loc = 1 || (p.loc = 3 && p.error && !p.bare)

def Cab.usedFrames (k : Cab) : List Nat := k.pages.filterMap (fun e => if e.2.framed then some e.2.whr else none) ++ k.retired
def Cab.usedSlots (k : Cab) : List Nat := k.pages.filterMap (fun e => if e.2.loc = 2 then some e.2.whr else none)

/-- The lowest number from lo below hi that a list does not hold. -/
def lowestFree (used : List Nat) (lo hi : Nat) : Option Nat :=
  (List.range (min (hi - lo) (used.length + 1))).findSome? (fun i => if used.contains (lo + i) then none else some (lo + i))

/-- A free frame outside the spare reserve; a spare frame (R231). -/
def Mach.freeFrame (m : Mach) (s c : Nat) : Option Nat := lowestFree (m.cab s c).usedFrames 0 (m.frames s c - 16)
def Mach.spareFrame (m : Mach) (s c : Nat) : Option Nat :=
  if m.frames s c = 0 then none else lowestFree (m.cab s c).usedFrames (m.frames s c - 16) (m.frames s c)
def Mach.freeId (m : Mach) (s c : Nat) : Option Nat := lowestFree ((m.cab s c).pages.map (·.1)) 0 (m.pageIds s c)
def Mach.freeBlock (m : Mach) (s c : Nat) : Option Nat := lowestFree (m.cab s c).blocks 0 (m.mapBlocks s c)

/-- The bay row of an index of BUR_SKIPPER_LAST meets frame f of a Cabinet or its scale block. -/
def Mach.frameMeets (m : Mach) (s c index f : Nat) : Bool :=
  let a := rowStart s index
  rangesMeet (a, 256) (m.frameAddr s c f, 0x4000) || rangesMeet (a, 256) (m.scaleAddr s c f, 0x800)

/-- The memories of a Cabinet are held: the partitions change (R281), an operation on a line of its page records or Chest is outstanding (R270), or a
row of its pool or of such a line is under test (R320). -/
def Mach.cabHeld (m : Mach) (s c : Nat) : Bool :=
  let k := (m.stk s).cache
  let lp := (m.getF s Reg.CAB_LP_BASE_BASE c, 16 * m.pageIds s c + 0x4800 * m.chestSlots s c)
  let pool := (m.getF s Reg.CAB_POOL_BASE_BASE c, poolBytes (m.frames s c) (m.mapBlocks s c) (m.getF s Reg.CAB_POOL_CFG_INTAKE c))
  let ours (L : Nat) : Bool := rangesMeet (devAddr s 4 (L * 128), 128) lp
  k.change.isSome || k.outst.any (fun o => ours o.line) ||
    (m.stk s).integ.running.any (fun t => t.kind = 1 && (rangesMeet (rowStart s t.index, 256) pool ||
      k.lines.any (fun l => ours l.line && m.rowOf (cellAddr s (m.home s l.line) l.way) = (1, t.index))))

/-- CAB_STATUS and the queue count kept in step. -/
def Mach.syncCab (m : Mach) (s c : Nat) : Mach :=
  let k := m.cab s c
  let F := m.frames s c
  let main := F - 16
  let used := k.usedFrames
  let a := m.setF s Reg.CAB_STATUS_FREE_FRAMES (main - (used.filter (· < main)).length) c
  let b := a.setF s Reg.CAB_STATUS_SPARES (if F = 0 then 0 else 16 - (used.filter (main ≤ ·)).length) c
  let d := (b.setF s Reg.CAB_STATUS_CHEST_FREE (m.chestSlots s c - k.usedSlots.length) c).setF s Reg.CAB_STATUS_MAP_FREE
    (m.mapBlocks s c - k.blocks.length) c
  d.setF s Reg.CAB_ORDER_QUEUED k.queue.length c

/-- An entry of a map block written (R235). -/
def Mach.writeEntry (m : Mach) (s c b i v : Nat) : Mach := m.performWrite true (m.mapAddr s c b + 4 * i) (PByte.clean (leBytes 4 v))

/-- The lowest free map block taken, zeroed. -/
def Mach.takeBlock (m : Mach) (s c : Nat) : Option (Mach × Nat) :=
  match m.freeBlock s c with
  | none => none
  | some b =>
    let m1 := m.updCab s c (fun k => { k with blocks := k.blocks ++ [b] })
    some ({ m1 with mem := m1.mem.clear (m1.mapAddr s c b) (m1.mapAddr s c b + 0x400) }, b)

/-- The blocks that an entry for logical page g needs, taken; none when no block is free (R235). -/
def Mach.needBlocks (m : Mach) (s c q g : Nat) : Option Mach :=
  match m.seq s q with
  | none => none
  | some x =>
    let r1 : Option Mach :=
      match x.l1 with
      | some _ => some m
      | none => (m.takeBlock s c).map (fun t => t.1.updSeq s q (fun y => { y with l1 := some t.2 }))
    match r1 with
    | none => none
    | some m1 =>
      match SMap.find x.l2 (g / 256) with
      | some _ => some m1
      | none =>
        (m1.takeBlock s c).map (fun t =>
          let m2 := t.1.updSeq s q (fun y => { y with l2 := SMap.put y.l2 (g / 256) t.2 })
          m2.writeEntry s c (((m2.seq s q).bind (·.l1)).getD 0) (g / 256) (2 ^ 31 + t.2))

/-- Logical page g of a sequence maps page id; its blocks are there (R235). -/
def Mach.mapPut (m : Mach) (s c q g id : Nat) : Mach :=
  let m1 := m.updSeq s q (fun y => { y with map := SMap.put y.map g id })
  m1.writeEntry s c (((m1.seq s q).bind (fun y => SMap.find y.l2 (g / 256))).getD 0) (g % 256) (2 ^ 31 + id)

/-- Blocks of a sequence whose last valid entry has gone are freed (R235). -/
def Mach.trimBlocks (m : Mach) (s c q : Nat) : Mach :=
  match m.seq s q with
  | none => m
  | some x =>
    let live (h : Nat) : Bool := x.map.any (fun e => e.1 / 256 = h)
    let gone := x.l2.filter (fun e => !live e.1)
    let l2 := x.l2.filter (fun e => live e.1)
    let m1 := gone.foldl (fun m e => m.writeEntry s c (x.l1.getD 0) e.1 0) m
    let l1 := if l2 = [] then none else x.l1
    let freed := gone.map (·.2) ++ (if l2 = [] then x.l1.toList else [])
    (m1.updSeq s q (fun y => { y with l1 := l1, l2 := l2 })).updCab s c (fun k => { k with blocks := k.blocks.filter (fun b => !freed.contains b) })

/-- A page released once by a sequence (R254). -/
def Mach.releasePage (m : Mach) (s c id : Nat) (pinned : Bool) : Mach :=
  match m.page s c id with
  | none => m
  | some p => if p.refs ≤ 1 then m.setPage s c id none else m.setPage s c id (some { p with refs := p.refs - 1, pins := p.pins - pinned.toNat })

/-- The map entries of a sequence for which `drop` holds are cleared and their pages released (R253, R254). -/
def Mach.unmap (m : Mach) (s c q : Nat) (drop : Nat → Bool) : Mach :=
  match m.seq s q with
  | none => m
  | some x =>
    let l := x.map.filter (fun e => drop e.1)
    let m1 := l.foldl (fun m e =>
      (m.releasePage s c e.2 x.pinned).writeEntry s c ((SMap.find x.l2 (e.1 / 256)).getD 0) (e.1 % 256) 0) m
    (m1.updSeq s q (fun y => { y with map := y.map.filter (fun e => !drop e.1) })).trimBlocks s c q

/-! ## When the pool is full (R256 to R258) -/

/-- The age of a page (R256). -/
def Mach.age (m : Mach) (s c : Nat) (p : KPage) : Nat := (m.getF s Reg.CAB_STAMP_STAMP c + 2 ^ 32 - p.stamp) % 2 ^ 32

/-- The lowest free Chest slot; slots of pages that the operation has brought back are still taken. -/
def Mach.freeSlot (m : Mach) (s c : Nat) (keep : List Nat) : Option Nat := lowestFree ((m.cab s c).usedSlots ++ keep) 0 (m.chestSlots s c)

/-- Whether the page could be spilled, which needs the Chest and its licence (R10); whether it could be dropped (R258 step 3). -/
def Mach.spillable (m : Mach) (s c : Nat) (keep : List Nat) (p : KPage) : Bool :=
  m.getB s Reg.CAB_LP_CFG_CHEST_EN c && bit (m.features s) 2 && bit (m.getF s Reg.CAB_CLASS_CFG_SPILL c) p.cls && (m.freeSlot s c keep).isSome
def Mach.droppable (m : Mach) (s c : Nat) (p : KPage) : Bool := bit (m.getF s Reg.CAB_CLASS_CFG_DROP c) p.cls && p.refs = 1

/-- The victim for a requester of class cls: greatest age, then lowest id, among the eligible pages (R258). -/
def Mach.cabVictim (m : Mach) (s c cls : Nat) (busy keep : List Nat) : Option (Nat × KPage) :=
  let l := (m.cab s c).pages.filter (fun e =>
    e.2.framed && e.2.pins = 0 && decide (e.2.cls ≤ cls) && !busy.contains e.1 && (m.spillable s c keep e.2 || m.droppable s c e.2))
  l.foldl (fun b e =>
    match b with
    | none => some e
    | some x => if m.age s c x.2 < m.age s c e.2 then some e else b) none

/-- A victim moved out: spilled or dropped; an error page goes without its data (R257, R258). -/
def Mach.moveOut (m : Mach) (s c : Nat) (keep : List Nat) (id : Nat) (p : KPage) : Mach :=
  if m.spillable s c keep p then
    let m1 := m.bumpF s Reg.CAB_COUNT0_SPILLS c
    if p.error then m1.setPage s c id (some { p with loc := 3, error := false, whr := 0 })
    else
      let k := (m.freeSlot s c keep).getD 0
      let r := m1.performRead false (m1.frameAddr s c p.whr) 0x4000
      let q := r.1.performRead false (m1.scaleAddr s c p.whr) 0x800
      let m2 := (q.1.performWrite false (m1.chestAddr s c k) r.2).performWrite false (m1.chestScale s c k) q.2
      (m2.setPage s c id (some { p with loc := 2, whr := k })).updCab s c (fun x => { x with copying := x.copying ++ [(id, k)] })
  else (m.bumpF s Reg.CAB_COUNT0_DROPS c).setPage s c id (some { p with loc := 3, error := false, whr := 0 })

/-- What an operation has done so far: the machine, page ids it uses, Chest slots it has emptied, ids of pages whose spill, drop or
error stands when it fails, the code with which it has failed. -/
structure KvRun where
  m     : Mach
  busy  : List Nat
  keep  : List Nat := []
  stand : List Nat := []
  fail  : Nat := 0

/-- A frame for the operation under the full-pool procedure (R258). -/
def KvRun.frame (r : KvRun) (s c cls : Nat) : KvRun × Option Nat :=
  match r.m.freeFrame s c with
  | some f => (r, some f)
  | none =>
    match r.m.cabVictim s c cls r.busy r.keep with
    | none => (r, none)
    | some (id, p) =>
      let m1 := r.m.moveOut s c r.keep id p
      ({ r with m := m1, stand := r.stand ++ [id] }, m1.freeFrame s c)

/-- A frame and its scale block zeroed (R230): the frame starts with a sound record of its tests (R257). -/
def Mach.zeroFrame (m : Mach) (s c f : Nat) : Mach :=
  let m1 := m.updCab s c (fun k => { k with bad := k.bad.filter (· ≠ f) })
  { m1 with mem := (m1.mem.clear (m1.frameAddr s c f) (m1.frameAddr s c f + 0x4000)).clear (m1.scaleAddr s c f) (m1.scaleAddr s c f + 0x800) }

/-- A page whose stored bits failed: DROPPED with ERROR, in frame f (R257). -/
def Mach.errorDrop (m : Mach) (s c id f : Nat) : Mach :=
  (m.updPage s c id (fun p => { p with loc := 3, error := true, whr := f })).bumpF s Reg.CAB_COUNT1_ERROR_DROPS c

/-- A SPILLED page brought back into frame f; its Chest slot is free after it. The flag says that the Chest copy was sound (R244, R257). -/
def Mach.bringBack (m : Mach) (s c id f : Nat) : Mach × Bool :=
  match m.page s c id with
  | none => (m, true)
  | some p =>
    let a := m.performRead false (m.chestAddr s c p.whr) 0x4000
    let b := a.1.performRead false (m.chestScale s c p.whr) 0x800
    if (a.2 ++ b.2).all (·.poison = 0) then
      let m1 := (b.1.performWrite false (m.frameAddr s c f) a.2).performWrite false (m.scaleAddr s c f) b.2
      ((m1.setPage s c id (some { p with loc := 1, whr := f })).bumpF s Reg.CAB_COUNT0_PREFETCHES c, true)
    else ((b.1.zeroFrame s c f).errorDrop s c id f, false)

/-! ## Appends (R244) -/

/-- A new page for logical page g of a sequence: map blocks, the lowest free id, a frame. -/
def KvRun.newPage (r : KvRun) (s c q g : Nat) (x : Seq) (copyOf : Option (Nat × KPage)) : KvRun :=
  match r.m.needBlocks s c q g with
  | none => { r with fail := 0x31 }
  | some m1 =>
    match m1.freeId s c with
    | none => { r with m := m1, fail := 0x30 }
    | some id =>
      let t := ({ r with m := m1 } : KvRun).frame s c x.cls
      match t.2 with
      | none => { t.1 with fail := 0x30 }
      | some f =>
        let m2 := t.1.m.zeroFrame s c f
        let m3 :=
          match copyOf with
          | none => m2
          | some (old, p) =>
            let a := m2.performRead false (m2.frameAddr s c p.whr) 0x4000
            let b := a.1.performRead false (m2.scaleAddr s c p.whr) 0x800
            let m4 := (b.1.performWrite false (m2.frameAddr s c f) a.2).performWrite false (m2.scaleAddr s c f) b.2
            (m4.setPage s c old (some { p with refs := p.refs - 1, pins := p.pins - x.pinned.toNat })).bumpF s Reg.CAB_COUNT0_COPIES c
        let pg : KPage := { loc := 1, cls := x.cls, whr := f, refs := 1, pins := x.pinned.toNat, stamp := m3.getF s Reg.CAB_STAMP_STAMP c }
        { t.1 with m := (m3.setPage s c id (some pg)).mapPut s c q g id, busy := t.1.busy ++ [id] }

/-- The frame of an error page for its refill: its own when its test has passed, else a spare one (R257). -/
def KvRun.refillError (r : KvRun) (s c id : Nat) (p : KPage) : KvRun :=
  if !((r.m.cab s c).bad.contains p.whr) then
    { r with m := (r.m.zeroFrame s c p.whr).setPage s c id (some { p with loc := 1, error := false }) }
  else
    let m1 := r.m.updCab s c (fun k => { k with retired := k.retired ++ [p.whr], bad := k.bad.filter (· ≠ p.whr) })
    match m1.spareFrame s c with
    | some f => { r with m := (m1.zeroFrame s c f).setPage s c id (some { p with loc := 1, error := false, whr := f }) }
    | none => { r with m := m1.setPage s c id (some { p with error := false, whr := 0 }), stand := r.stand ++ [id], fail := 0x30 }

/-- One logical page that an append touches (R244 step 4). -/
def KvRun.visit (s c q : Nat) (x : Seq) (refill : Bool) (r : KvRun) (g : Nat) : KvRun :=
  if r.fail ≠ 0 then r
  else
    match (r.m.seq s q).bind (fun y => SMap.find y.map g) with
    | none => r.newPage s c q g x none
    | some id =>
      match r.m.page s c id with
      | none => r
      | some p =>
        if p.loc = 3 then
          if !refill then { r with fail := 0x32 }
          else if p.error && !p.bare then r.refillError s c id p
          else
            let t := r.frame s c x.cls
            match t.2 with
            | none => { t.1 with fail := 0x30 }
            | some f => { t.1 with m := (t.1.m.zeroFrame s c f).setPage s c id (some { p with loc := 1, error := false, bare := false, whr := f }) }
        else
          let r1 : KvRun :=
            if p.loc = 2 then
              let t := r.frame s c x.cls
              match t.2 with
              | none => { t.1 with fail := 0x30 }
              | some f =>
                let b := t.1.m.bringBack s c id f
                if b.2 then { t.1 with m := b.1, keep := t.1.keep ++ [p.whr] } else { t.1 with m := b.1, stand := t.1.stand ++ [id], fail := 0x32 }
            else r
          if r1.fail ≠ 0 ∨ p.refs ≤ 1 then r1
          else r1.newPage s c q g x ((r1.m.page s c id).map (fun p => (id, p)))

/-- A frame and its scale block hold again what they held in m0 (R244). -/
def Mach.frameBack (m m0 : Mach) (s c f : Nat) : Mach :=
  (m.performWrite false (m.frameAddr s c f) (m0.homeBytes (m0.frameAddr s c f) 0x4000)).performWrite false (m.scaleAddr s c f)
    (m0.homeBytes (m0.scaleAddr s c f) 0x800)

/-- A failed append undone (R244): records, maps and the frames that it took return to what they were, but for what stands. -/
def KvRun.undo (r : KvRun) (s c q : Nat) (m0 : Mach) (gs : List Nat) : Mach :=
  let back (m : Mach) (id : Nat) : Mach :=
    if r.stand.contains id then m
    else
      let m1 := m.setPage s c id (m0.page s c id)
      match m.page s c id with
      | some p => if p.loc = 1 ∧ !(match m0.page s c id with | some o => o.framed && o.whr = p.whr | none => false) then m1.frameBack m0 s c p.whr else m1
      | none => m1
  let m1 := r.busy.foldl back r.m
  match m0.seq s q with
  | none => m1
  | some x =>
    let m2 := (m1.updSeq s q (fun _ => x)).updCab s c (fun k => { k with blocks := (m0.cab s c).blocks })
    gs.foldl (fun m g =>
      match SMap.find x.l2 (g / 256) with
      | some b => m.writeEntry s c b (g % 256) (match SMap.find x.map g with
        | some id => 2 ^ 31 + id
        | none => 0)
      | none => match x.l1 with
        | some b => m.writeEntry s c b (g / 256) 0
        | none => m) m2

/-- The logical page of a position of a stream (R235). -/
def Seq.logical (x : Seq) (pos stream : Nat) : Nat := pos / kvPositions x.fmt x.hd * x.streams + stream

/-- Positions that a sequence may reach (R235). -/
def Seq.limit (x : Seq) : Nat := min (kvPositions x.fmt x.hd * (65536 / x.streams)) (2 ^ 31 - 1)

/-- One position of an append written into its page (R230, R244 step 5). -/
def Mach.writePosition (m : Mach) (s c q : Nat) (x : Seq) (stream pos : Nat) (e : List PByte) : Mach :=
  match (m.seq s q).bind (fun y => SMap.find y.map (x.logical pos stream)) with
  | none => m
  | some id =>
    match m.page s c id with
    | none => m
    | some p =>
      let k := pos % kvPositions x.fmt x.hd
      let n := kvRow x.fmt x.hd
      let g := kvScales x.fmt x.hd
      let fr := m.frameAddr s c p.whr
      let sc := m.scaleAddr s c p.whr
      let m1 := (m.performWrite false (fr + k * n) (e.take n)).performWrite false (fr + 8192 + k * n) ((e.drop n).take n)
      let m2 := if g = 0 then m1 else
        (m1.performWrite false (sc + 2 * k * g) ((e.drop (2 * n)).take (2 * g))).performWrite false (sc + 1024 + 2 * k * g)
          ((e.drop (2 * n + 2 * g)).take (2 * g))
      m2.setPage s c id (some { p with loc := 1, error := false, stamp := m.getF s Reg.CAB_STAMP_STAMP c })

/-- Groups of stage data that carry a NaN scale (R245). -/
def nonfiniteGroups (o : KOp) : Nat :=
  let g := kvScales o.fmt o.hd
  let n := kvRow o.fmt o.hd
  let b := PByte.vals o.data
  ((List.range o.n).flatMap (fun j => (List.range (2 * g)).map (fun i =>
    if fieldAt b (j * kvEntry o.fmt o.hd + 2 * n + 2 * i) 2 = 0x7FC0 then 1 else 0))).foldl (· + ·) 0

/-- The first check of an append that fails, or 0 (R244 steps 1 to 3). -/
def Mach.appendCheck (m : Mach) (s c : Nat) (o : KOp) (x : Seq) : Nat :=
  if o.fmt ≠ x.fmt ∨ o.hd ≠ x.hd then 0x34
  else if o.seq2 ≥ x.streams ∨ o.pos + o.n > x.limit then 0x33
  else if x.exhausted then 0x30
  else if !bit o.flags 1 then (if o.pos < x.length then 0x33 else 0)
  else
    let P := kvPositions x.fmt x.hd
    match SMap.find x.map (x.logical o.pos o.seq2) with
    | none => 0x33
    | some id =>
      if o.pos % P ≠ 0 ∨ ((m.page s c id).map (·.loc)) ≠ some 3 ∨ o.pos ≥ x.length ∨ o.n ≠ min P (x.length - o.pos) then 0x33 else 0

/-- An append performed on a live context: the machine and the code (R244). -/
def Mach.append (m : Mach) (s c : Nat) (o : KOp) (x : Seq) : Mach × Nat :=
  let code := m.appendCheck s c o x
  if code ≠ 0 then (m, code)
  else
    let P := kvPositions x.fmt x.hd
    let gs := (List.range ((o.pos + o.n - 1) / P + 1 - o.pos / P)).map (fun i => (o.pos / P + i) * x.streams + o.seq2)
    let busy := gs.filterMap (fun g => SMap.find x.map g)
    let r := gs.foldl (KvRun.visit s c o.seq x (bit o.flags 1)) { m := m, busy := busy }
    let adv := bit o.flags 0
    let f := if r.fail ≠ 0 then r.fail else if adv ∧ (o.newLen < x.length ∨ o.newLen > x.limit) then 0x33 else 0
    if f ≠ 0 then (r.undo s c o.seq m gs, f)
    else
      let m1 := (List.range o.n).foldl (fun m j =>
        m.writePosition s c o.seq x o.seq2 (o.pos + j) ((o.data.drop (j * kvEntry x.fmt x.hd)).take (kvEntry x.fmt x.hd))) r.m
      (if adv then m1.updSeq s o.seq (fun y => { y with length := o.newLen }) else m1, 0)

/-- The append counter and CAB_STAMP after an append, with the renormalisation of ages (R244, R256). -/
def Mach.countAppend (m : Mach) (s c : Nat) : Mach :=
  let lo := m.getF s Reg.CAB_STAMP_APPENDS_LO c + 1
  if lo < 1024 then m.setF s Reg.CAB_STAMP_APPENDS_LO lo c
  else
    let st := (m.getF s Reg.CAB_STAMP_STAMP c + 1) % 2 ^ 32
    let m1 := (m.setF s Reg.CAB_STAMP_APPENDS_LO 0 c).setF s Reg.CAB_STAMP_STAMP st c
    if st % 2 ^ 30 = 0 then
      (m1.cab s c).pages.foldl (fun m e =>
        if m.age s c e.2 > 2 ^ 30 then m.setPage s c e.1 (some { e.2 with stamp := (st + 2 ^ 32 - 2 ^ 30) % 2 ^ 32 }) else m) m1
    else m1

/-! ## Fork, truncate, free (R252 to R254) -/

/-- A fork from context x to context d: the machine and the code (R252). -/
def Mach.fork (m : Mach) (s c src dst len : Nat) (x d : Seq) : Mach × Nat :=
  if src / 32768 ≠ dst / 32768 ∨ d.length ≠ 0 ∨ d.fmt ≠ x.fmt ∨ d.hd ≠ x.hd ∨ d.streams ≠ x.streams then (m, 0x34)
  else if len > x.length then (m, 0x33)
  else
    let P := kvPositions x.fmt x.hd
    let l := x.map.filter (fun e => e.1 / x.streams * P < len)
    if l.any (fun e => match m.page s c e.2 with
        | some p => decide (p.refs + 1 > 65535)
        | none => false) then (m, 0x35)
    else
      let r := l.foldl (fun (t : Option Mach) e => t.bind (fun m =>
        (m.needBlocks s c dst e.1).map (fun m =>
          (m.mapPut s c dst e.1 e.2).updPage s c e.2 (fun p =>
            { p with refs := p.refs + 1, pins := p.pins + d.pinned.toNat, cls := max p.cls d.cls })))) (some m)
      match r with
      | none => (m, 0x31)
      | some m1 => (m1.updSeq s dst (fun y => { y with length := len }), 0)

/-- A truncation of context x: the machine and the code (R253). -/
def Mach.trunc (m : Mach) (s c q len : Nat) (x : Seq) : Mach × Nat :=
  if len > x.length then (m, 0x33)
  else
    let P := kvPositions x.fmt x.hd
    let m1 := m.unmap s c q (fun g => decide (len ≤ g / x.streams * P))
    (m1.updSeq s q (fun y => { y with length := len, exhausted := false }), 0)

/-- A context freed: every page released, its map blocks freed; with `keep` it stays LIVE (R254). -/
def Mach.freeSeq (m : Mach) (s c q : Nat) (keep : Bool) : Mach :=
  let m1 := (m.unmap s c q (fun _ => true)).updSeq s q (fun y => { y with length := 0, exhausted := false })
  if keep then m1 else m1.updStk s (fun k => { k with seqs := SMap.erase k.seqs q })

/-! ## Hints (R255) -/

/-- The mapped pages of a hint's range: streams ascending, logical pages ascending within each. -/
def Seq.hintPages (x : Seq) (o : KOp) : List Nat :=
  let P := kvPositions x.fmt x.hd
  (List.range o.streams).flatMap (fun i =>
    (x.map.filter (fun e => e.1 % x.streams = o.seq2 + i && o.seq2 + i < x.streams &&
      decide (o.pos / P ≤ e.1 / x.streams) && decide (e.1 / x.streams ≤ (o.pos + o.n - 1) / P))).map (·.2))

/-- One SPILLED page of a hint brought back; `fail` marks that the hint has stopped. -/
def KvRun.prefetch (s c cls : Nat) (r : KvRun) (id : Nat) : KvRun :=
  if r.fail ≠ 0 then r
  else
    match r.m.page s c id with
    | none => r
    | some p =>
      if p.loc ≠ 2 then r
      else
        let t := r.frame s c cls
        match t.2 with
        | none => { t.1 with fail := 1 }
        | some f =>
          let b := t.1.m.bringBack s c id f
          { t.1 with m := if b.2 then b.1.updPage s c id (fun p => { p with stamp := b.1.getF s Reg.CAB_STAMP_STAMP c }) else b.1 }

/-- A hint performed (R255). -/
def Mach.hint (m : Mach) (s c : Nat) (o : KOp) (x : Seq) : Mach :=
  let ids := x.hintPages o
  let m1 := if bit o.flags 0 then ids.foldl (fun m id => m.updPage s c id (fun p => { p with stamp := m.getF s Reg.CAB_STAMP_STAMP c })) m else m
  if bit o.flags 1 then
    let r := ids.foldl (KvRun.prefetch s c x.cls) { m := m1, busy := ids }
    if r.fail ≠ 0 then (r.m.bumpF s Reg.CAB_COUNT1_HINT_STOPPED c).srcEdge s (12 + c) else r.m
  else m1

/-! ## Outcomes (R242, R259) -/

/-- The outcome of a keyed operation on its sequence q: LAST_FAIL, EXHAUSTED, the count, the signal; or the error log when q is not LIVE in
the Cabinet.
A failed fork changes nothing but under KV_MAP_FULL. -/
def Mach.kvOutcome (m : Mach) (s c : Nat) (o : KOp) (q code : Nat) (fork : Bool) : Mach :=
  let hard := decide (code = 0x30 ∨ code = 0x31)
  let m1 := if hard then (m.bumpF s Reg.CAB_COUNT1_EXHAUSTED c).srcEdge s (12 + c) else m
  match (m1.seq s q).filter (fun _ => cabOf q = c) with
  | none => m1.logError s 0x34 5 c (q * 2 ^ 32 + o.key)
  | some x =>
    let quiet := fork && code ≠ 0 && !hard
    let m2 := if quiet then m1 else
      m1.updSeq s q (fun y => { y with
        planId := m1.getF s Reg.BUR_PLAN_ID_PLAN_ID, lastFail := if code = 0 then y.lastFail else code, exhausted := y.exhausted || hard })
    if bit o.flags 2 then m2.sendSignal s x.sync 1 code else m2

/-- The operation whose key is next, if it has arrived and is of a kind. -/
def Mach.nextOp (m : Mach) (s c kind : Nat) : Option KOp :=
  (m.cab s c).queue.find? (fun o => o.key = m.getF s Reg.CAB_ORDER_NEXT_KEY c && o.kind = kind)

/-- An operation has been performed: the next key goes on. -/
def Mach.keyDone (m : Mach) (s c : Nat) (o : KOp) : Mach :=
  ((m.updCab s c (fun k => { k with queue := k.queue.filter (fun p => p.key ≠ o.key) })).setF s Reg.CAB_ORDER_NEXT_KEY
    (m.getF s Reg.CAB_ORDER_NEXT_KEY c + 1) c).syncCab s c

end Sys2Proof.Machine
end

