-- ==== Sys2Proof/Machine/Journal.lean ====
section
/-! DEFINITION. The journal that a stack sends to its twin (spec/12_device_links.md, R367, R368, Table LK-8): records of descriptors, map
blocks, sync points and commit markers. -/

namespace Sys2Proof.Machine

/-- A sequence descriptor as its 64 bytes (Table KV-1). -/
def Mach.descBytes (m : Mach) (s q : Nat) : List Byte :=
  match m.seq s q with
  | none => leBytes 12 0 ++ leBytes 4 0xFFFF_FFFF ++ leBytes 48 0
  | some x =>
    let dropped := x.map.any (fun e => (m.page s (cabOf q) e.2).any (fun p => p.loc = 3))
    leBytes 1 1 ++ leBytes 1 (x.pinned.toNat + 2 * x.exhausted.toNat + 4 * (x.flagged || dropped).toNat) ++ leBytes 1 x.cls ++ leBytes 1 x.fmt ++
    leBytes 1 x.hd ++ leBytes 1 0 ++ leBytes 2 x.streams ++ leBytes 4 x.length ++ leBytes 4 (x.l1.getD 0xFFFF_FFFF) ++ leBytes 4 x.sync ++
    leBytes 4 x.map.length ++ leBytes 2 x.lastFail ++ leBytes 6 0 ++ leBytes 8 x.tag ++ leBytes 8 x.planId ++ leBytes 16 0

/-- The link that journal records travel on (R368): the lower-numbered while it is UP. -/
def Mach.journalLink (m : Mach) (s : Nat) : Nat :=
  if m.linkUp s (m.getF s Reg.LNK_TWIN_CFG_LINK_A) then m.getF s Reg.LNK_TWIN_CFG_LINK_A
  else if m.linkUp s (m.getF s Reg.LNK_TWIN_CFG_LINK_B) then m.getF s Reg.LNK_TWIN_CFG_LINK_B
  else m.getF s Reg.LNK_TWIN_CFG_LINK_A

/-- A journal is kept: PAIRED or REJOINING (R368, R375). -/
def Mach.journals (m : Mach) (s : Nat) : Bool := m.twinState s = 2 || m.twinState s = 6

/-- Offsets of Table LK-8. -/
def jSync : Nat := 0x1000
def jMark : Nat := 0x2_1000
def jDesc : Nat := 0x10_0000
def jMap (c : Nat) : Nat := 0x80_0000 + c * 0x400_0000
def jLog : Nat := 0x880_0000
/-- Bytes of the log, and of the whole area. -/
def jLogSize : Nat := 0x200_0000
/-- Bytes of the log that the close of an epoch takes at most: all sync points and commit markers, and the header. -/
def jCloseSize : Nat := 8128 * 32 + 832 * 32 + 40
def jSize : Nat := 0xA80_0000

/-- JOURNAL flits of at most 256 bytes from offset `off` of the journal area. ROUTE, which twin traffic does not need, is the number of the epoch
(DESIGN CHOICE, log entry 30). -/
def journalFlits : Nat → Nat → Nat → List Byte → List OutFlit
  | 0, _, _, _ => []
  | fuel + 1, e, off, bs =>
    let f (x : List Byte) : OutFlit :=
      ⟨noRoute, { typ := 7, first := true, last := true, len := x.length, route := e % 2 ^ 14, addr := off, payload := x }, none⟩
    if bs.length ≤ 256 then [f bs] else f (bs.take 256) :: journalFlits fuel e (off + 256) (bs.drop 256)

/-- A record appended to the log of the open epoch (R368). Its form is the model's (log entry 30): offset in the journal area, length, then
the data filled up to a multiple of 8 bytes. -/
def Mach.journalRec (m : Mach) (s off : Nat) (bs : List Byte) : Mach :=
  let pad := (8 - bs.length % 8) % 8
  let r := leBytes 8 off ++ leBytes 8 bs.length ++ bs ++ leBytes pad 0
  let at0 := jLog + (m.twin s).logSent
  (m.linkPush s (m.journalLink s) (journalFlits (r.length / 256 + 1) (m.twin s).epoch at0 r)).updTwin s (fun t => { t with logSent := t.logSent + r.length })

/-- A map block of a Cabinet as its 1,024 bytes. -/
def Mach.blockBytes (m : Mach) (s c b : Nat) : List Byte := PByte.vals (m.homeBytes (m.mapAddr s c b) 0x400)

/-- The map blocks of a context. -/
def Seq.blocks (x : Option Seq) : List Nat :=
  match x with
  | none => []
  | some x => x.l1.toList ++ x.l2.map (·.2)

/-- Records for each descriptor and each map block in which a machine differs from the machine before (R368). -/
def Mach.journalDiff (m m0 : Mach) (s : Nat) : Mach :=
  let ids := (((m0.stk s).seqs ++ (m.stk s).seqs).map (·.1)).eraseDups.filter (fun q =>
    m.seq s q ≠ m0.seq s q || m.descBytes s q ≠ m0.descBytes s q)
  let m1 := ids.foldl (fun t q => t.journalRec s (jDesc + 64 * q) (m.descBytes s q)) m
  let blocks := (ids.flatMap (fun q => (Seq.blocks (m0.seq s q) ++ Seq.blocks (m.seq s q)).map (fun b => (cabOf q, b)))).eraseDups
  (blocks.filter (fun e => m.blockBytes s e.1 e.2 ≠ m0.blockBytes s e.1 e.2)).foldl (fun t e =>
    t.journalRec s (jMap e.1 + 1024 * e.2) (m.blockBytes s e.1 e.2)) m1

/-- The machine after a Cabinet operation with its journal records; none while the log has no room for them beside those of its close (R368). -/
def Mach.journalPut (m m1 : Mach) (s : Nat) : Option Mach :=
  if m.journals s then
    let m2 := m1.journalDiff m s
    if (m2.twin s).logSent + jCloseSize > jLogSize then none else some m2
  else some m1

/-- A Cabinet operation with its journal records; it is held while the log has no room for them. -/
def Mach.journaled (m : Mach) (s : Nat) (f : Mach → Mach) : Mach := (m.journalPut (f m) s).getD m

/-- A sync point as it is sent: count, FAIL_CODE, FAILED. -/
def Mach.syncPoint (m : Mach) (s o : Nat) : Nat × Nat × Nat :=
  (m.getF s Reg.SYNC_COUNT_COUNT o, m.getF s Reg.SYNC_STATUS_FAIL_CODE o, m.getF s Reg.SYNC_STATUS_FAILED o)

/-- A commit marker as it is sent: COMMIT_ID and CORE_COMMIT_COUNT. -/
def Mach.commitPoint (m : Mach) (s L : Nat) : Nat × Nat :=
  ((match SMap.find (m.stk s).cores L with
    | some c => (c.rcd.marker.map (·.1)).getD 0
    | none => 0), m.getF s Reg.CORE_COMMIT_COUNT_COMMITS (m.getF s Reg.BUR_LOGICAL_MAP_EXEC L))

/-- The header that an epoch sends: the sender's SDID, PLAN_ID and LIVE count (Table LK-8; the order is the model's, log entry 30). -/
def Mach.journalHead (m : Mach) (s : Nat) : List Byte :=
  leBytes 8 (m.sdid s) ++ leBytes 8 (m.getF s Reg.BUR_PLAN_ID_PLAN_ID) ++ leBytes 8 (m.stk s).seqs.length

/-- What the close of an epoch appends (R368): sync points and commit markers that changed, the header. -/
def Mach.journalClose (m : Mach) (s : Nat) : Mach :=
  let objs := ((List.range 8128).map (· + 64)).filter (fun o => m.syncPoint s o ≠ SMap.getD (m.twin s).syncSent o (0, 0, 0))
  let m1 := objs.foldl (fun t o =>
    let p := m.syncPoint s o
    (t.journalRec s (jSync + 16 * o) (leBytes 6 p.1 ++ leBytes 2 p.2.1 ++ leBytes 8 p.2.2)).updTwin s (fun w =>
      { w with syncSent := SMap.put w.syncSent o p })) m
  let cores := (List.range 832).filter (fun L => m.commitPoint s L ≠ SMap.getD (m.twin s).markSent L (0, 0))
  let m2 := cores.foldl (fun t L =>
    let p := m.commitPoint s L
    (t.journalRec s (jMark + 16 * L) (leBytes 8 p.1 ++ leBytes 8 p.2)).updTwin s (fun w => { w with markSent := SMap.put w.markSent L p })) m1
  m2.journalRec s 8 (m.journalHead s)

/-- A HEARTBEAT that closes epoch e of b log bytes, on each twin link that is UP. -/
def Mach.beat (m : Mach) (s e b : Nat) : Mach :=
  let pay := leBytes 2 (m.sdid s) ++ leBytes 1 (m.twinState s) ++ leBytes 5 0 ++ leBytes 8 e ++ leBytes 8 b
  (m.twinLinks s).foldl (fun m n =>
    if m.linkUp s n then m.linkPush s n [⟨noRoute, { typ := 8, first := true, last := true, len := 24, payload := pay }, none⟩] else m) m

/-- The open epoch closes with a heartbeat. -/
def Mach.closeEpoch (m : Mach) (s : Nat) : Mach :=
  let m1 := m.journalClose s
  let t := m1.twin s
  (m1.beat s t.epoch t.logSent).updTwin s (fun t => { t with epoch := (t.epoch + 1) % 2 ^ 32, logSent := 0 })

/-- Records appended one after another; an epoch closes before a record that its log has no room for (R368). -/
def Mach.journalMany (m : Mach) (s : Nat) (l : List (Nat × List Byte)) : Mach :=
  l.foldl (fun t e =>
    (if (t.twin s).logSent + e.2.length + 24 + jCloseSize > jLogSize then t.closeEpoch s else t).journalRec s e.1 e.2) m

/-- The records of descriptors and of their map blocks. -/
def Mach.seqRecords (m : Mach) (s : Nat) (ids : List Nat) : List (Nat × List Byte) :=
  let blocks := (ids.flatMap (fun q => (Seq.blocks (m.seq s q)).map (fun b => (cabOf q, b)))).eraseDups
  ids.map (fun q => (jDesc + 64 * q, m.descBytes s q)) ++ blocks.map (fun e => (jMap e.1 + 1024 * e.2, m.blockBytes s e.1 e.2))

/-- The whole journal sent again: every descriptor and every map block, every sync point and marker (R375); the descriptors of the ids held for the twin,
as the mirror has them, so that it knows them as served. -/
def Mach.journalAll (m : Mach) (s : Nat) : Mach :=
  let held := (m.twin s).held.map (fun q => (jDesc + 64 * q, PByte.vals (m.homeBytes (devAddr s 4 ((m.twin s).base + jDesc + 64 * q)) 64)))
  (m.journalMany s (m.seqRecords s ((m.stk s).seqs.map (·.1)) ++ held)).updTwin s (fun w => { w with syncSent := [], markSent := [] })

end Sys2Proof.Machine
end

