-- ==== Sys2Proof/Machine/Kv.lean ====
section
/-! DEFINITION. The KV instructions and the events of the Cabinets (spec/08_kv_cache.md, R236 to R258). -/

namespace Sys2Proof.Machine

/-! ## Descriptors (R241, Tables KV-4 to KV-6) -/

/-- Formats and head dimensions that exist. -/
def kvCodesOk (f hd : Nat) : Bool := decide (f ≤ 2) && decide (hd ≤ 2)

/-- Rows of `size` bytes at a multiple of 8 with a legal stride, below the top of local memory. -/
def kvRowsOk (base count stride size : Nat) : Bool :=
  base % 8 = 0 && stride % 8 = 0 && decide (size ≤ stride) && localFits base count stride size

def kvAppendOk (b : List Byte) : Bool :=
  let f := fieldAt b 0x24 1
  let hd := fieldAt b 0x25 1
  let n := fieldAt b 2 2
  let fl := fieldAt b 1 1
  fieldAt b 0 1 = 0x21 && zeroFrom b 0x26 && kvCodesOk f hd && decide (fl < 8) && decide (1 ≤ n) && decide (n ≤ 256) && decide (fieldAt b 6 2 ≤ 4095) &&
    (bit fl 0 || fieldAt b 0x0C 4 = 0) && kvRowsOk (fieldAt b 0x10 4) n (fieldAt b 0x18 4) (2 * kvDim hd) &&
    kvRowsOk (fieldAt b 0x14 4) n (fieldAt b 0x18 4) (2 * kvDim hd) && fieldAt b 0x1C 4 % 8 = 0 &&
    decide (fieldAt b 0x1C 4 + n * kvEntry f hd ≤ 0x8_0000)

def kvGatherOk (b : List Byte) : Bool :=
  let f := fieldAt b 0x20 1
  let hd := fieldAt b 0x21 1
  let n := fieldAt b 2 2
  let fl := fieldAt b 1 1
  fieldAt b 0 1 = 0x22 && zeroFrom b 0x22 && kvCodesOk f hd && decide (1 ≤ fl) && decide (fl ≤ 3) && decide (1 ≤ n) && decide (n ≤ 256) &&
    decide (fieldAt b 6 2 ≤ 4095) && fieldAt b 0x0C 4 % 8 = 0 && decide (fieldAt b 0x0C 4 + 8 ≤ 0x8_0000) &&
    fieldAt b 0x14 4 % 8 = 0 && decide (2 * n ≤ fieldAt b 0x14 4) && fieldAt b 0x1C 4 % 8 = 0 && decide (2 * kvDim hd ≤ fieldAt b 0x1C 4) &&
    (if bit fl 0 then kvRowsOk (fieldAt b 0x10 4) (kvDim hd) (fieldAt b 0x14 4) (2 * n) else fieldAt b 0x10 4 = 0) &&
    (if bit fl 1 then kvRowsOk (fieldAt b 0x18 4) n (fieldAt b 0x1C 4) (2 * kvDim hd) else fieldAt b 0x18 4 = 0)

/-- The bytes of Table KV-6 that none of its columns defines. -/
def kvMiscZero (b : List Byte) : Bool := fieldAt b 2 2 = 0 && fieldAt b 0x12 14 = 0 && zeroFrom b 0x24

def kvForkOk (b : List Byte) : Bool :=
  fieldAt b 0 1 = 0x23 && kvMiscZero b && (fieldAt b 1 1 = 0 || fieldAt b 1 1 = 4) && fieldAt b 0x0C 4 = 0 && fieldAt b 0x10 2 = 0

def kvFreeOk (b : List Byte) : Bool :=
  fieldAt b 0 1 = 0x24 && kvMiscZero b && decide (fieldAt b 1 1 < 8) && !bit (fieldAt b 1 1) 1 && fieldAt b 6 2 = 0 && fieldAt b 8 4 = 0 && fieldAt b 0x0C 4 = 0 && fieldAt b 0x10 2 = 0

def kvTruncOk (b : List Byte) : Bool :=
  fieldAt b 0 1 = 0x25 && kvMiscZero b && (fieldAt b 1 1 = 0 || fieldAt b 1 1 = 4) && fieldAt b 6 2 = 0 && fieldAt b 0x0C 4 = 0 && fieldAt b 0x10 2 = 0

def kvHintOk (b : List Byte) : Bool :=
  fieldAt b 0 1 = 0x26 && kvMiscZero b && decide (fieldAt b 1 1 < 4) && decide (1 ≤ fieldAt b 0x0C 4) &&
    decide (fieldAt b 0x0C 4 < 2 ^ 31) && decide (1 ≤ fieldAt b 0x10 2) && decide (fieldAt b 0x10 2 ≤ 4096)

/-- The keyed operation that a descriptor asks for. -/
def KOp.of (b : List Byte) : KOp :=
  if fieldAt b 0 1 = 0x21 then
    { kind := 0x21, key := fieldAt b 0x20 4, seq := fieldAt b 4 2, seq2 := fieldAt b 6 2, pos := fieldAt b 8 4, n := fieldAt b 2 2
      newLen := fieldAt b 0x0C 4, flags := fieldAt b 1 1, fmt := fieldAt b 0x24 1, hd := fieldAt b 0x25 1 }
  else
    { kind := fieldAt b 0 1, key := fieldAt b 0x20 4, seq := fieldAt b 4 2, seq2 := fieldAt b 6 2, pos := fieldAt b 8 4, n := fieldAt b 0x0C 4
      flags := fieldAt b 1 1, streams := fieldAt b 0x10 2 }

/-- The device addresses and length of the source rows of an append. -/
def kvSources (base : Nat) (b : List Byte) : List (Nat × Nat) :=
  let d := kvDim (fieldAt b 0x25 1)
  [0x10, 0x14].flatMap (fun o => (List.range (fieldAt b 2 2)).map (fun j => (base + fieldAt b o 4 + j * fieldAt b 0x18 4, 2 * d)))

/-- The poison of an append's source rows (R243). -/
def Mach.kvPoison (m : Mach) (base : Nat) (b : List Byte) : List (Nat × Nat) :=
  if kvAppendOk b then
    (kvSources base b).flatMap (fun e => ((m.homeBytes e.1 e.2).zipIdx).filterMap (fun x =>
      if x.1.poison ≠ 0 then some (x.1.poison, (e.1 + x.2) / 8 * 8) else none))
  else []

/-! ## The instructions -/

/-- An operation staged until commit (R238). -/
def Mach.kvStage (m : Mach) (s L : Nat) (o : KOp) : Mach :=
  m.updCore s L (fun c => { c with staged := c.staged ++ [.keyed (cabOf o.seq) o] })

/-- A check with nothing to track. -/
def plainCheck (f : List Byte → Bool) (_ : Mach) (u : Unit) (b : List Byte) : Option Unit := if f b then some u else none

/-- KV.APPEND: the rows are read, quantised and written to the stage; the operation is staged (R243). -/
def Mach.kvAppend (m : Mach) (s L : Nat) (b : List Byte) : Mach :=
  let base := localAddr s (m.homeOfIndex s L) 0
  let o := KOp.of b
  let rows := (kvSources base b).map (fun e => unpackRow 16 (e.2 / 2) (PByte.vals (m.homeBytes e.1 e.2)))
  let stage := (List.range o.n).flatMap (fun j => stageEntry o.fmt (rows.getD j []) (rows.getD (o.n + j) []))
  (m.performWrite true (base + fieldAt b 0x1C 4) (PByte.clean stage)).kvStage s L { o with stage := base + fieldAt b 0x1C 4, stageLen := stage.length }

def execKvAppend (a : KInstr) (s : State) : Out :=
  kernel a s 0x13 0x00 (fun k m => k.solo m s.fuse.part.stackCount () (plainCheck kvAppendOk) (fun m b => m.kvAppend k.s k.L b)
    k.next (fun m b => m.kvPoison (localAddr k.s (m.homeOfIndex k.s k.L) 0) b))

/-- The unit's own most recent append to a sequence and stream (R249): POS, N, stage. -/
def Core.ownAppend (c : Core) (q stream : Nat) : Option (Nat × Nat × Nat) :=
  c.staged.reverse.findSome? (fun x =>
    match x with
    | .keyed _ o => if o.kind = 0x21 ∧ o.seq = q ∧ o.seq2 = stream then some (o.pos, o.n, o.stage) else none
    | _ => none)

/-- KV.GATHER: on its way at once (R248). -/
def Mach.kvGather (m : Mach) (s L : Nat) (b : List Byte) : Mach :=
  m.updCore s L (fun c => { c with kv := {
    gathers := c.kv.gathers ++ [⟨c.kv.nextId, b, c.ownAppend (fieldAt b 4 2) (fieldAt b 6 2)⟩], nextId := c.kv.nextId + 1 } })

def execKvGather (a : KInstr) (s : State) : Out :=
  kernel a s 0x13 0x01 (fun k m => k.solo m s.fuse.part.stackCount () (plainCheck kvGatherOk) (fun m b => m.kvGather k.s k.L b))

/-- KV.FORK: staged until commit (R238, R252). -/
def execKvFork (a : KInstr) (s : State) : Out :=
  kernel a s 0x13 0x02 (fun k m => k.solo m s.fuse.part.stackCount () (plainCheck kvForkOk) (fun m b => m.kvStage k.s k.L (KOp.of b)))

/-- KV.FREE: staged until commit (R238, R254). -/
def execKvFree (a : KInstr) (s : State) : Out :=
  kernel a s 0x13 0x03 (fun k m => k.solo m s.fuse.part.stackCount () (plainCheck kvFreeOk) (fun m b => m.kvStage k.s k.L (KOp.of b)))

/-- KV.TRUNC: staged until commit (R238, R253). -/
def execKvTrunc (a : KInstr) (s : State) : Out :=
  kernel a s 0x13 0x04 (fun k m => k.solo m s.fuse.part.stackCount () (plainCheck kvTruncOk) (fun m b => m.kvStage k.s k.L (KOp.of b)))

/-- KV.HINT: sent at issue (R238, R255). -/
def execKvHint (a : KInstr) (s : State) : Out :=
  kernel a s 0x13 0x05 (fun k m => k.solo m s.fuse.part.stackCount () (plainCheck kvHintOk) (fun m b =>
    let o := KOp.of b
    m.send (.keyed k.s (cabOf o.seq) o)))

/-- KV.WAIT: the group goes on when every earlier gather of the core has been written (R250). -/
def execKvWait (a : KInstr) (s : State) : Out :=
  kernel a s 0x13 0x06 (fun k m =>
    let x := (m.core k.s k.L).kv
    if x.gathers = [] then k.next m
    else m.updGroup k.s k.L k.slot (fun g => { g with wait := .kv x.nextId }))

/-! ## Arrival (R237) -/

/-- Intake bytes of the operations queued. -/
def Cab.intakeUsed (k : Cab) : Nat := k.queue.foldl (fun n o => n + o.data.length) 0

/-- An operation arrives: queued, dropped as a duplicate, or made to wait, in which case it stays on its way. -/
def Mach.keyedArrive (m : Mach) (s c : Nat) (o : KOp) : Mach :=
  let k := m.cab s c
  let next := m.getF s Reg.CAB_ORDER_NEXT_KEY c
  let x : Msg := .keyed s c o
  let room := m.getF s Reg.CAB_POOL_CFG_INTAKE c * 2 ^ 20 - 262144
  if o.key < next ∨ k.queue.any (fun p => p.key = o.key) then (m.receive x).bumpF s Reg.CAB_COUNT1_DUPLICATES c
  else if o.key ≥ next + 4096 then m
  else if o.key ≠ next ∧ k.intakeUsed + o.data.length > room then m.setF s Reg.CAB_ORDER_INTAKE_WAIT 1 c
  else (((m.receive x).updCab s c (fun k => { k with queue := k.queue ++ [o] })).setF s Reg.CAB_ORDER_INTAKE_WAIT 0 c).syncCab s c

/-- Keyed operations on their way to a Cabinet, oldest first. -/
def Mach.keyedOnWay (m : Mach) (s c : Nat) : List KOp :=
  m.wire.filterMap (fun x =>
    match x with
    | .keyed s' c' o => if s' = s ∧ c' = c then some o else none
    | _ => none)

/-! ## Performing (R237, R244, R252 to R255) -/

/-- A frame or its scale block holds a row whose test is queued or running (R257). -/
def Mach.frameTesting (m : Mach) (s c f : Nat) : Bool :=
  let g := (m.stk s).integ
  (g.running ++ g.queue).any (fun t => t.kind = 1 && m.frameMeets s c t.index f)

/-- A refill waits for the Skipper test of its error page's frame (R257). -/
def Mach.refillWaits (m : Mach) (s c : Nat) (o : KOp) : Bool :=
  bit o.flags 1 &&
    (match m.seq s o.seq with
    | some x =>
      (match (SMap.find x.map (x.logical o.pos o.seq2)).bind (m.page s c) with
      | some p => p.loc = 3 && p.error && !p.bare && m.frameTesting s c p.whr
      | none => false)
    | none => false)

/-- The next keyed operation, if it is of the kind, performed with its outcome on sequence `on`. -/
def Mach.perform (m : Mach) (s c kind : Nat) (f : Mach → KOp → Mach) : Mach :=
  match m.nextOp s c kind with
  | none => m
  | some o => if m.cabHeld s c ∨ (kind = 0x21 ∧ m.refillWaits s c o) then m else (f m o).keyDone s c o

/-- APPEND_PERFORM (R244). -/
def Mach.performAppend (m : Mach) (s c : Nat) : Mach :=
  m.perform s c 0x21 (fun m o =>
    let t := match m.seq s o.seq with
      | some x => m.append s c o x
      | none => (m, 0x34)
    ((t.1.bumpF s Reg.CAB_COUNT1_NONFINITE c (nonfiniteGroups o)).kvOutcome s c o o.seq t.2 false).countAppend s c)

/-- FORK_PERFORM (R252): on the destination. -/
def Mach.performFork (m : Mach) (s c : Nat) : Mach :=
  m.perform s c 0x23 (fun m o =>
    let t := match m.seq s o.seq, m.seq s o.seq2 with
      | some x, some d => m.fork s c o.seq o.seq2 o.pos x d
      | _, _ => (m, 0x34)
    t.1.kvOutcome s c o o.seq2 t.2 true)

/-- FREE_PERFORM (R254): the signal goes to the handle that the context had. -/
def Mach.performFree (m : Mach) (s c : Nat) : Mach :=
  m.perform s c 0x24 (fun m o =>
    match m.seq s o.seq with
    | some _ => (m.kvOutcome s c o o.seq 0 false).freeSeq s c o.seq (bit o.flags 0)
    | none => m.kvOutcome s c o o.seq 0x34 false)

/-- TRUNC_PERFORM (R253). -/
def Mach.performTrunc (m : Mach) (s c : Nat) : Mach :=
  m.perform s c 0x25 (fun m o =>
    let t := match m.seq s o.seq with
      | some x => m.trunc s c o.seq o.pos x
      | none => (m, 0x34)
    t.1.kvOutcome s c o o.seq t.2 false)

/-- HINT_PERFORM (R255): a hint on a sequence that is not LIVE does nothing. -/
def Mach.performHint (m : Mach) (s c : Nat) : Mach :=
  m.perform s c 0x26 (fun m o =>
    match m.seq s o.seq with
    | some x => (m.hint s c o x).updSeq s o.seq (fun y => { y with planId := m.getF s Reg.BUR_PLAN_ID_PLAN_ID })
    | none => m)

/-! ## Gathers (R248 to R251) -/

/-- Groups whose KV.WAIT covers no gather that is still to be written go on. -/
def Mach.kvRelease (m : Mach) (s L : Nat) : Mach :=
  let ids := (m.core s L).kv.gathers.map (·.id)
  (m.core s L).groups.foldl (fun m e =>
    match e.2.wait with
    | .kv n => if ids.all (fun i => n ≤ i) then m.updGroup s L e.1 (fun g => ({ g with wait := .none }).goto (g.pc + 8)) else m
    | _ => m) m

/-- Where the bytes of a position's K row, V row, K scales and V scales lie: in its frame or its Chest slot (R230, R248). -/
def Mach.kvPlaces (m : Mach) (s c : Nat) (p : KPage) (f hd pos : Nat) : List (Nat × Nat) :=
  let k := pos % kvPositions f hd
  let n := kvRow f hd
  let g := kvScales f hd
  let fr := if p.loc = 2 then m.chestAddr s c p.whr else m.frameAddr s c p.whr
  let sc := if p.loc = 2 then m.chestScale s c p.whr else m.scaleAddr s c p.whr
  [(fr + k * n, n), (fr + 8192 + k * n, n), (sc + 2 * k * g, 2 * g), (sc + 1024 + 2 * k * g, 2 * g)]

/-- The parts of a position that a gather reads: K row and K scales, V row and V scales. -/
def kvWanted (flags : Nat) (l : List (Nat × Nat)) : List (Nat × Nat) :=
  (if bit flags 0 then [l.getD 0 (0, 0), l.getD 2 (0, 0)] else []) ++ (if bit flags 1 then [l.getD 1 (0, 0), l.getD 3 (0, 0)] else [])

/-- A position of a gather: its code, and its K and V values. -/
structure GatherPos where
  code : Nat
  k    : List Nat
  v    : List Nat
  poison : List (Nat × Nat) := []

/-- The unit's own stage covers a position (R249). -/
def KGather.covers (g : KGather) (pos : Nat) : Bool :=
  match g.own with
  | some (p, n, _) => decide (p ≤ pos) && decide (pos < p + n)
  | none => false

/-- Values of a position from four lists of bytes. -/
def gatherValues (f : Nat) (l : List (List Byte)) : List Nat × List Nat :=
  (dequantRow f (l.getD 0 []) (l.getD 2 []), dequantRow f (l.getD 1 []) (l.getD 3 []))

/-- One position of a gather on a context (R249, R250). -/
def Mach.gatherPos (m : Mach) (s c : Nat) (g : KGather) (x : Seq) (pos : Nat) : GatherPos :=
  let b := g.desc
  let f := fieldAt b 0x20 1
  let hd := fieldAt b 0x21 1
  let stream := fieldAt b 6 2
  if g.covers pos then
    match g.own with
    | some (p, _, st) =>
      let n := kvRow f hd
      let sc := 2 * kvScales f hd
      let e := st + (pos - p) * kvEntry f hd
      let pl := [(e, n), (e + n, n), (e + 2 * n, sc), (e + 2 * n + sc, sc)]
      let bs := pl.map (fun q => m.homeBytes q.1 q.2)
      let po := ((m.homeBytes e (kvEntry f hd)).zipIdx).filterMap (fun q => if q.1.poison ≠ 0 then some (q.1.poison, (e + q.2) / 8 * 8) else none)
      let v := gatherValues f (bs.map PByte.vals)
      ⟨0, v.1, v.2, po⟩
    | none => ⟨0, [], [], []⟩
  else
    let zeros := (List.range (kvDim hd)).map (fun _ => 0)
    let page := if stream < x.streams ∧ pos < x.length then (SMap.find x.map (x.logical pos stream)).bind (m.page s c) else none
    match page with
    | none => ⟨0x33, zeros, zeros, []⟩
    | some p =>
      if p.loc = 3 then ⟨0x32, zeros, zeros, []⟩
      else
        let v := gatherValues f ((m.kvPlaces s c p f hd pos).map (fun q => PByte.vals (m.homeBytes q.1 q.2)))
        ⟨0, v.1, v.2, []⟩

/-- A storage error found by a gather (R257): a page in a frame keeps it; a page in the Chest has no frame, so its slot is freed and it is
DROPPED with ERROR without one (DESIGN CHOICE, log entry 20). -/
def Mach.gatherError (m : Mach) (s c id : Nat) (p : KPage) : Mach :=
  if p.loc = 2 then
    (m.setPage s c id (some { p with loc := 3, error := true, bare := true, whr := 0 })).bumpF s Reg.CAB_COUNT1_ERROR_DROPS c
  else m.errorDrop s c id p.whr

/-- The detections of the pages that a gather reads, and the pages dropped for them. -/
def Mach.gatherScan (m : Mach) (s c : Nat) (g : KGather) (x : Seq) : Mach :=
  let b := g.desc
  (List.range (fieldAt b 2 2)).foldl (fun m j =>
    let pos := fieldAt b 8 4 + j
    if g.covers pos ∨ pos ≥ x.length ∨ fieldAt b 6 2 ≥ x.streams then m
    else
      match SMap.find x.map (x.logical pos (fieldAt b 6 2)) with
      | none => m
      | some id =>
        match m.page s c id with
        | none => m
        | some p =>
          if p.loc = 3 then m
          else
            let pl := kvWanted (fieldAt b 1 1) (m.kvPlaces s c p x.fmt x.hd pos)
            let m1 := pl.foldl (fun m q => m.detectHome q.1 q.2) m
            if pl.any (fun q => (m.homeBytes q.1 q.2).any (·.poison ≠ 0)) then m1.gatherError s c id p else m1) m

/-- GATHER_DONE: the oldest gather of the core writes its data and its status word (R248, R250). -/
def Mach.gatherDone (m : Mach) (s L : Nat) : Mach :=
  match (m.core s L).kv.gathers with
  | [] => m
  | g :: rest =>
    let b := g.desc
    let q := fieldAt b 4 2
    let c := cabOf q
    let base := localAddr s (m.homeOfIndex s L) 0
    let n := fieldAt b 2 2
    let pos0 := fieldAt b 8 4
    let fl := fieldAt b 1 1
    let status (m : Mach) (code pos : Nat) : Mach := m.performWrite true (base + fieldAt b 0x0C 4) (PByte.clean (leBytes 4 code ++ leBytes 4 pos))
    let finish (m : Mach) : Mach := (m.updCore s L (fun k => { k with kv := { k.kv with gathers := rest } })).kvRelease s L
    if !m.coreGoes s L ∨ m.cabHeld s c ∨ m.accessHeld true base 1 then m
    else
      match m.seq s q with
      | none => finish (status m 0x34 0)
      | some x =>
        if x.fmt ≠ fieldAt b 0x20 1 ∨ x.hd ≠ fieldAt b 0x21 1 then finish (status m 0x34 0)
        else
          let m1 := m.gatherScan s c g x
          let l := (List.range n).map (fun j => m1.gatherPos s c g x (pos0 + j))
          let po := l.flatMap (·.poison)
          if po ≠ [] then (m1.detectAll po).consumeAll s L po
          else
            let m2 := if bit fl 0 then
                (List.range (kvDim x.hd)).foldl (fun m i =>
                  m.performWrite true (base + fieldAt b 0x10 4 + i * fieldAt b 0x14 4) (PByte.clean (l.flatMap (fun e => leBytes 2 (e.k.getD i 0))))) m1
              else m1
            let m3 := if bit fl 1 then
                (l.zipIdx).foldl (fun m e =>
                  m.performWrite true (base + fieldAt b 0x18 4 + e.2 * fieldAt b 0x1C 4) (PByte.clean (e.1.v.flatMap (leBytes 2)))) m2
              else m2
            let bad := (l.zipIdx).find? (fun e => e.1.code ≠ 0)
            finish (match bad with
              | none => status m3 0 0
              | some e => status m3 e.1.code (pos0 + e.2))

/-! ## Commands -/

/-- KEYED_OP_ARRIVAL: the nth keyed operation on its way to the Cabinet (R237). -/
def execKeyedOpArrival (a : CabNth) (s : State) : Out :=
  onStack s a.stack (fun _ m =>
    match (m.keyedOnWay a.stack a.cab)[a.nth]? with
    | some o => m.keyedArrive a.stack a.cab o
    | none => m)

/-- APPEND_PERFORM (R244). -/
def execAppendPerform (a : AtCab) (s : State) : Out :=
  onStack s a.stack (fun _ m => m.journaled a.stack (fun m => m.performAppend a.stack a.cab))

/-- FORK_PERFORM (R252). -/
def execForkPerform (a : AtCab) (s : State) : Out :=
  onStack s a.stack (fun _ m => m.journaled a.stack (fun m => m.performFork a.stack a.cab))

/-- FREE_PERFORM (R254). -/
def execFreePerform (a : AtCab) (s : State) : Out :=
  onStack s a.stack (fun _ m => m.journaled a.stack (fun m => m.performFree a.stack a.cab))

/-- TRUNC_PERFORM (R253). -/
def execTruncPerform (a : AtCab) (s : State) : Out :=
  onStack s a.stack (fun _ m => m.journaled a.stack (fun m => m.performTrunc a.stack a.cab))

/-- HINT_PERFORM (R255). -/
def execHintPerform (a : AtCab) (s : State) : Out :=
  onStack s a.stack (fun _ m => m.journaled a.stack (fun m => m.performHint a.stack a.cab))

/-- CHEST_WRITE_DONE: the oldest Chest copy on its way completes; the page has counted as spilled since its key (R258). -/
def execChestWriteDone (a : AtCab) (s : State) : Out :=
  onStack s a.stack (fun _ m => m.updCab a.stack a.cab (fun k => { k with copying := k.copying.drop 1 }))

/-- GATHER_DONE (R250). -/
def execGatherDone (a : AtCore) (s : State) : Out :=
  onStack s a.stack (fun _ m => m.journaled a.stack (fun m => m.gatherDone a.stack a.core))

end Sys2Proof.Machine
end

