-- ==== Sys2Proof/Machine/Script.lean ====
section
/-! DEFINITION. Step scripts: entries, launches, blocks and loops (spec/02_execution_model.md, R46, R52 to R55; spec/03_thread_groups.md,
R89 to R93). -/

namespace Sys2Proof.Machine

/-! ## Script entries (Table EX-4) -/

/-- The fields of a script entry. -/
def SEntry.of (b : List Byte) : SEntry :=
  { inMask := fieldAt b 0 8, outMask := fieldAt b 8 8, entry := fieldAt b 16 4, flags := fieldAt b 20 2, target := fieldAt b 22 2
    count := fieldAt b 24 4, commitId := fieldAt b 28 4 }

def SEntry.commit (e : SEntry) : Bool := bit e.flags 0
def SEntry.phaseEnd (e : SEntry) : Bool := bit e.flags 1
def SEntry.loopBack (e : SEntry) : Bool := bit e.flags 2

/-- The directory entry of index L of stack s (Table EX-3). -/
def Plan.coreDir (pl : Plan) (s L : Nat) : Option CoreDir := pl.cores.find? (fun c => c.stack = s && c.index = L)

/-- The number of script entries of L. -/
def Mach.entries (m : Mach) (s L : Nat) : Nat := (((m.plan s).coreDir s L).map (·.entries)).getD 0

/-- The device address of script entry i of L, in its local memory. -/
def Mach.entryAddr (m : Mach) (s L i : Nat) : Nat :=
  localAddr s (m.homeOfIndex s L) ((((m.plan s).coreDir s L).map (·.scriptAddr)).getD 0 + 32 * i)

/-- Script entry i of L as local memory holds it. -/
def Mach.entryAt (m : Mach) (s L i : Nat) : SEntry := SEntry.of (PByte.vals (m.homeBytes (m.entryAddr s L i) 32))

/-- The granules among n bytes at a that carry poison, with their kinds. -/
def Mach.poisonAt (m : Mach) (a n : Nat) : List (Nat × Nat) :=
  ((m.homeBytes a n).zipIdx).filterMap (fun e => if e.1.poison ≠ 0 then some (e.1.poison, (a + e.2) / 8 * 8) else none)

/-! ## Tokens present and credits held (R52) -/

/-- Input channel c of L. -/
def Mach.inChan (m : Mach) (s L c : Nat) : InChan := SMap.getD (m.core s L).ins c {}

/-- An input channel changed. -/
def Core.updIn (k : Core) (c : Nat) (f : InChan → InChan) : Core := { k with ins := SMap.put k.ins c (f (SMap.getD k.ins c {})) }

/-- An output channel changed. -/
def Core.updOut (k : Core) (c : Nat) (f : OutChan → OutChan) : Core := { k with outs := SMap.put k.outs c (f (SMap.getD k.outs c {})) }

/-- The next token of input channel c is present. -/
def Mach.tokenHere (m : Mach) (s L c : Nat) : Bool :=
  let i := m.inChan s L c
  decide (i.cur < i.accepted) && !i.faulted

/-- The next token of input channel c is present and is an end token (R55). -/
def Mach.endHere (m : Mach) (s L c : Nat) : Bool :=
  let i := m.inChan s L c
  m.tokenHere s L c && i.ends.contains (i.base + i.cur)

/-- A credit of output channel c is held. -/
def Mach.creditHere (m : Mach) (s L c : Nat) : Bool :=
  match m.outRoute s L c with
  | some r =>
    let o := m.outChan s L c
    decide (1 ≤ o.credits r.depth) && !o.faulted
  | none => false

def Mach.tokensHere (m : Mach) (s L : Nat) (e : SEntry) : Bool := (setBits e.inMask 64).all (fun c => m.tokenHere s L c)
def Mach.creditsHere (m : Mach) (s L : Nat) (e : SEntry) : Bool := (setBits e.outMask 64).all (fun c => m.creditHere s L c)

/-- The core of L stands before an entry that may start once its tokens and credits are there (R52, R82). -/
def Mach.beforeEntry (m : Mach) (s L : Nat) : Bool :=
  let c := m.core s L
  m.planRunning s && c.halt = .none && !c.running && !c.ended && c.committing.isNone && decide (c.phase = m.phaseNow s) &&
    decide (c.script < m.entries s L)

/-- CORE_SCRIPT_STATE kept in step: the entry, and what it lacks. -/
def Mach.syncScript (m : Mach) (s L : Nat) : Mach :=
  let c := m.core s L
  let p := m.physOf s L
  let e := m.entryAt s L c.script
  let w := m.beforeEntry s L
  let m1 := m.setF s Reg.CORE_SCRIPT_STATE_SCRIPT_INDEX c.script p
  (m1.setF s Reg.CORE_SCRIPT_STATE_WAITING_TOKEN (w && !m.tokensHere s L e).toNat p).setF s Reg.CORE_SCRIPT_STATE_WAITING_CREDIT
    (w && !m.creditsHere s L e).toNat p

/-! ## Loops that an end token ends (R54) -/

/-- The entry with LOOP_BACK of the innermost unbounded loop that starts at entry i. -/
def Mach.loopAt (m : Mach) (s L i : Nat) : Option Nat :=
  (List.range (m.entries s L)).find? (fun j =>
    let e := m.entryAt s L j
    decide (i ≤ j) && e.loopBack && e.count = 0xFFFF_FFFF && e.target = i)

/-- The loop that ends before entry i: its lowest input channel has an end token next. -/
def Mach.endingLoop (m : Mach) (s L i : Nat) : Option Nat :=
  match lowestBit (m.entryAt s L i).inMask 64 with
  | some c => if m.endHere s L c then m.loopAt s L i else none
  | none => none

/-! ## Launches (R89 to R93) -/

/-- A launch record (Table TG-2). -/
structure LRecord where
  code : Nat
  blocks : Nat
  groups : Nat
  regs : Nat
  areaBase : Nat
  areaSize : Nat
  lmem : Nat
  args : Nat
  flags : Nat
  deriving DecidableEq, Repr

def LRecord.of (b : List Byte) : LRecord :=
  { code := fieldAt b 0 4, blocks := fieldAt b 4 2, groups := fieldAt b 6 1, regs := fieldAt b 7 1, areaBase := fieldAt b 8 4
    areaSize := fieldAt b 0x0C 4, lmem := fieldAt b 0x10 4, args := fieldAt b 0x14 4, flags := fieldAt b 0x18 2 }

def LRecord.dual (r : LRecord) : Bool := bit r.flags 0

/-- REGS rounded up to a multiple of 8 (R91). -/
def LRecord.regs8 (r : LRecord) : Nat := ceilDiv r.regs 8 * 8

/-- A record keeps the ranges, alignments and zeros of Table TG-2; `n` is the number of addresses of its argument list (R90). -/
def LRecord.formatOk (r : LRecord) (b : List Byte) (n : Nat) : Bool :=
  r.code % 8 = 0 && decide (1 ≤ r.blocks) && decide (1 ≤ r.groups) && decide (r.groups ≤ 32) && decide (1 ≤ r.regs) &&
    r.areaBase % 1024 = 0 && r.areaSize % 1024 = 0 && decide (r.areaBase + r.areaSize ≤ 0x8_0000) && r.lmem % 256 = 0 &&
    r.args % 8 = 0 && decide (r.args + 8 * n ≤ 0x8_0000) && decide (r.flags < 2) && (b.drop 0x1A).all (· = 0)

/-- The resident block count K (R91). -/
def LRecord.k (r : LRecord) : Nat :=
  let d := if r.dual then 2 else 1
  let k1 := 48 / (d * r.groups)
  let k3 := 1536 / (d * r.regs8) / r.groups
  let k4 := if r.lmem > 0 then r.areaSize / r.lmem else 16
  min (min k1 16) (min k3 k4)

/-- The fault of a launch record, if it has one (R90). -/
def LRecord.fault (r : LRecord) (b : List Byte) (n : Nat) (dualDeclared : Bool) : Option Nat :=
  if !r.formatOk b n then some 0x20
  else if r.k = 0 then some 0x21
  else if r.dual ∧ !dualDeclared then some 0x22
  else none

/-- The launch that a record starts. -/
def LRecord.launch (r : LRecord) : Launch :=
  { active := true, code := r.code, blocks := r.blocks, groups := r.groups, regs := r.regs8, areaBase := r.areaBase, lmem := r.lmem
    args := r.args, dual := r.dual, k := r.k, next := 0 }

/-- The slot addresses that a step's launch receives: input channels in ascending order, then output channels (R93). -/
def Mach.argList (m : Mach) (s L : Nat) (e : SEntry) : List Nat :=
  (setBits e.inMask 64).map (fun c =>
    let i := m.inChan s L c
    match m.inRoute s L c with
    | some r => (((m.plan s).buf s r.buffer).map (fun b => b.slotAddr r.depth (i.base + i.cur))).getD 0
    | none => 0) ++
  (setBits e.outMask 64).map (fun c =>
    let o := m.outChan s L c
    match m.outRoute s L c with
    | some r => ((m.outBuf s r).map (fun b => b.slotAddr r.depth (o.sent + o.cur))).getD 0
    | none => 0)

/-- The entry's tokens are consumed and its credits reserved (R52). -/
def Mach.takeTokens (m : Mach) (s L : Nat) (e : SEntry) : Mach :=
  m.updCore s L (fun c =>
    let c1 := (setBits e.inMask 64).foldl (fun c i => c.updIn i (fun x => { x with cur := x.cur + 1 })) c
    (setBits e.outMask 64).foldl (fun c o => c.updOut o (fun x => { x with cur := x.cur + 1 })) c1)

/-- The launch starts: the argument list is written, banks, bias slots and pack table are empty (R151, R202). -/
def Mach.launchStart (m : Mach) (s L : Nat) (e : SEntry) (r : LRecord) : Mach :=
  let list := m.argList s L e
  let m1 := m.performWrite true (localAddr s (m.homeOfIndex s L) r.args) (PByte.clean (list.flatMap (leBytes 8)))
  let m2 := (m1.takeTokens s L e).updCore s L (fun c => { c with
    running := true, entry := e, launch := r.launch, groups := []
    mx := { nextId := c.mx.nextId, numerical := c.mx.numerical, tested := c.mx.tested }, att := { nextId := c.att.nextId } })
  (((m2.syncLaunch s L).syncMx s L).syncAtt s L).syncScript s L

/-- SCRIPT_ENTRY_START (R52, R90): poison in the entry or the record is consumed; a record that fails its checks faults the step. A record that
passes the end of local memory is read on at the plain sum of the addresses (DESIGN CHOICE, log entry 109). -/
def Mach.entryStart (m : Mach) (s L : Nat) : Mach :=
  let i := (m.core s L).script
  let a := m.entryAddr s L i
  let e := m.entryAt s L i
  let ra := localAddr s (m.homeOfIndex s L) e.entry
  if !m.beforeEntry s L ∨ m.accessHeld true a 32 then m
  else if m.poisonAt a 32 ≠ [] then (m.detectHome a 32).consumeAll s L (m.poisonAt a 32)
  else if (m.endingLoop s L i).isSome ∨ !m.tokensHere s L e ∨ !m.creditsHere s L e then m.syncScript s L
  else if m.poisonAt ra 32 ≠ [] then (m.detectHome ra 32).consumeAll s L (m.poisonAt ra 32)
  else
    let b := PByte.vals (m.homeBytes ra 32)
    let r := LRecord.of b
    match r.fault b (popCount e.inMask 64 + popCount e.outMask 64) (bit (m.plan s).features 4) with
    | some cause => m.recordFault s L 0 0 0 cause 0 e.entry 0 0
    | none => m.launchStart s L e r

/-- BLOCK_DISPATCH: the next block starts in its block slot once that slot is free (R92). -/
def Mach.blockDispatch (m : Mach) (s L : Nat) : Mach :=
  let c := m.core s L
  let l := c.launch
  let b := l.next
  let j := l.blockSlot b
  if !m.coreGoes s L ∨ !l.active ∨ b ≥ l.blocks ∨ (SMap.find l.slots j).isSome then m
  else
    let new : List (Nat × Group) := (List.range l.groups).map (fun gi => (l.slotOf j gi, { block := b, index := gi, pc := l.code, atomN := SMap.getD c.atomNs (b * 32 + gi) 0 }))
    (m.updCore s L (fun c => { c with
      groups := new.foldl (fun g e => SMap.put g e.1 e.2) c.groups
      launch := { c.launch with next := b + 1, slots := SMap.put c.launch.slots j b } })).syncLaunch s L

/-- Every group of the launch has exited, and the operations that its unit issued have completed (R52, R165). -/
def Core.launchDone (c : Core) : Bool :=
  decide (c.launch.blocks ≤ c.launch.next) && c.launch.slots = [] && c.mx.queue = [] && c.mx.run = [] && c.att.queue = [] &&
    c.att.run.isNone && c.kv.gathers = []

/-- The script position after entry i has finished (R54): loops are counted, and a loop's count returns to 0 when it ends. -/
def Core.afterEntry (c : Core) (i : Nat) (e : SEntry) : Core :=
  if e.loopBack then
    let t := SMap.getD c.loops i 0 + 1
    if e.count = 0xFFFF_FFFF then { c with script := e.target }
    else if t < e.count then { c with script := e.target, loops := SMap.put c.loops i t }
    else { c with script := i + 1, loops := SMap.erase c.loops i }
  else { c with script := i + 1 }

/-- SCRIPT_ENTRY_END (R52, R54, R165): a commit follows when the entry carries COMMIT. -/
def Mach.entryEnd (m : Mach) (s L : Nat) : Mach :=
  let c := m.core s L
  if !m.coreGoes s L ∨ !c.launch.active ∨ !c.launchDone then m
  else
    let m1 := m.updCore s L (fun c => { c.afterEntry c.script c.entry with
      running := false, launch := { c.launch with active := false }, groups := []
      committing := if c.entry.commit then some c.entry.commitId else none })
    (m1.syncLaunch s L).syncScript s L

/-- LOOP_END (R54, R55): the end token is consumed, and a commit with the COMMIT_ID of the LOOP_BACK entry follows; end tokens are due on
every output channel of the loop's entries. -/
def Mach.loopEnd (m : Mach) (s L : Nat) : Mach :=
  let i := (m.core s L).script
  let a := m.entryAddr s L i
  if !m.beforeEntry s L ∨ m.accessHeld true a 32 then m
  else
    match m.endingLoop s L i, lowestBit (m.entryAt s L i).inMask 64 with
    | some j, some ch =>
      let po := m.poisonAt a (32 * (j + 1 - i))
      if po ≠ [] then (m.detectHome a (32 * (j + 1 - i))).consumeAll s L po
      else
        let outs := (List.range (j + 1 - i)).foldl (fun x d => x ||| (m.entryAt s L (i + d)).outMask) 0
        let m1 := m.updCore s L (fun c => { c.updIn ch (fun x => { x with cur := x.cur + 1 }) with
          script := j + 1, entry := {}, loopEnd := some outs, committing := some (m.entryAt s L j).commitId
          loops := c.loops.filter (fun e => e.1 < i || j < e.1) })
        m1.syncScript s L
    | _, _ => m

/-! ## Commands -/

/-- SCRIPT_ENTRY_START (R52). -/
def execScriptEntryStart (a : AtCore) (s : State) : Out := onStack s a.stack (fun _ m => m.entryStart a.stack a.core)

/-- BLOCK_DISPATCH (R92). -/
def execBlockDispatch (a : AtCore) (s : State) : Out := onStack s a.stack (fun _ m => m.blockDispatch a.stack a.core)

/-- SCRIPT_ENTRY_END (R165). -/
def execScriptEntryEnd (a : AtCore) (s : State) : Out := onStack s a.stack (fun _ m => m.entryEnd a.stack a.core)

/-- LOOP_END (R54). -/
def execLoopEnd (a : AtCore) (s : State) : Out := onStack s a.stack (fun _ m => m.loopEnd a.stack a.core)

end Sys2Proof.Machine
end

