-- ==== Sys2Proof/Machine/Commit.lean ====
section
/-! DEFINITION. Work units: commit, tokens and credits, aborts and replays, the end of a plan (spec/02_execution_model.md, R53 to R61,
R69 to R77; spec/04_kernel_form.md, R148; spec/11_integrity.md, R316). -/

namespace Sys2Proof.Machine

/-! ## Token and credit words (R56, R57) -/

/-- A word of Table EX-10. -/
def tokenWord (typ core stack channel count buffer depth : Nat) : Nat :=
  typ + core * 2 ^ 4 + stack * 2 ^ 14 + channel * 2 ^ 16 + count % 2 ^ 20 * 2 ^ 22 + buffer * 2 ^ 42 + count % depth * 2 ^ 56

/-- DATA, or REDUCE on a route whose REDUCE flag is set (Table EX-11). -/
def Route.typ (r : Route) : Nat := if bit r.flags 1 then 3 else 1

/-- The token with count n of a route; an end token names buffer 0x3FFF (R55). -/
def Route.token (r : Route) (n : Nat) (fin : Bool) : Nat :=
  tokenWord r.typ r.src r.srcStack r.dstCh n (if fin then 0x3FFF else r.buffer) r.depth

/-- The credit for the token with count n of a route. -/
def Route.credit (r : Route) (n : Nat) : Nat := tokenWord 2 r.dst r.dstStack r.srcCh n r.buffer r.depth

/-! ## Sending (R59, R71 step 4) -/

/-- The address of the slot of count n in a ring of another part, when the image of stack s places it; else a free value (the spec does
not say where a stack learns it). -/
def Mach.farSlot (m : Mach) (s stack buffer depth n : Nat) : Mach × Nat :=
  match (m.plan s).buf stack buffer with
  | some b => (m, b.slotAddr depth n)
  | none =>
    let f := m.fresh 52
    (f.2, f.1)

/-- The slot of count n pushed from its staging ring to the consumer's ring, over the bridges or over a link (R47, R363), on a part of k stacks: one
that no route of the part reaches any more is lost (R364). -/
def Mach.pushSlot (m : Mach) (k s : Nat) (r : Route) (n : Nat) : Mach :=
  if r.route = 0xFFFF ∨ r.stage = 0x3FFF then m
  else
    match (m.plan s).buf s r.stage with
    | none => m
    | some b =>
      let rd := m.performRead false (b.slotAddr r.depth n) b.slotSize
      if r.route = 0xFFFE then
        if rd.1.cut k s r.dstStack then rd.1
        else
        match (m.plan s).buf r.dstStack r.buffer with
        | some d => rd.1.performWrite false (d.slotAddr r.depth n) rd.2
        | none => rd.1
      else
        let f := rd.1.farSlot s r.dstStack r.buffer r.depth n
        f.1.sendWrite s r.route f.2 rd.2 (bit r.flags 0) .push

/-- Token n of a route sent: its data first, then the word (R59). -/
def Mach.sendToken (m : Mach) (k s : Nat) (r : Route) (n : Nat) (fin : Bool) : Mach :=
  (if fin then m else m.pushSlot k s r n).sendWord s r.route r.dstStack r.dst (r.token n fin)

/-- An entry of the outbox sent: a token on its output channel, or a credit to the producer of its input channel (R60, R71). -/
def Mach.sendOut (m : Mach) (k s L : Nat) (x : OutTok) : Mach :=
  if x.credit then
    match m.inRoute s L x.channel with
    | some r => m.sendWord s r.route r.srcStack r.src x.word
    | none => m
  else
    match m.outRoute s L x.channel with
    | some r => m.sendToken k s r x.count (bits x.word 42 14 = 0x3FFF)
    | none => m

/-- Traffic that carries no loaded plan's PLAN_ID is dropped and logged (R51). -/
def Mach.dropTraffic (m : Mach) (s : Nat) : Mach := m.logError s 0x0101 0 0 0

/-- After a change of phase the cores that stood before their next entry show what they lack. -/
def Mach.afterPhase (m m0 : Mach) (s : Nat) : Mach :=
  if m.phaseNow s = m0.phaseNow s then m else (m.stk s).cores.foldl (fun m e => m.syncScript s e.1) m

/-- n signals that do not carry the PLAN_ID of the stack's plan are dropped, counted and logged (R51). -/
def Mach.dropSignals (m : Mach) (s n : Nat) : Mach := if n = 0 then m else (m.bumpF s Reg.SYNC_DROPPED_DROPPED 0 n).dropTraffic s

/-- Signals (n, f) that the object of a handle takes in one step (R62, R64): dropped and counted when the handle names no object of the stack. -/
def Mach.takeSignals (m : Mach) (s h : Nat) (l : List (Nat × Nat)) : Mach :=
  if l = [] then m
  else if handleBad h ∨ handleSdid h ≠ m.sdid s then m.bumpF s Reg.SYNC_DROPPED_DROPPED 0 l.length
  else (m.applySignals s (handleObj h) l).afterPhase m s

/-- A message that has arrived is taken from those on their way: the first that `is` knows, with the PLAN_ID that it carries; one that was not on its
way carries that of stack s (R51). -/
def Mach.takeMsg (m : Mach) (s : Nat) (is : Msg → Option (Option Nat)) : Mach × Option Nat :=
  match m.wire.find? (fun x => (is x).isSome) with
  | some x => (m.receive x, (is x).getD none)
  | none => (m, m.planTag s)

/-- The signals of stack s to a handle that have been sent and not arrived. -/
def Mach.ownSignals (m : Mach) (s h : Nat) : List (Nat × Nat) :=
  m.wire.filterMap (fun x => match x with
    | .signal _ u g n f => if u = s ∧ g = h then some (n, f) else none
    | _ => none)

/-- CLEAR_FAIL of an object of stack s (R63), after every signal to it that the stack has performed before (R69). -/
def Mach.clearFail (m : Mach) (s h : Nat) : Mach :=
  let l := m.ownSignals s h
  let m1 :=
    if l = [] then m
    else ({ m with wire := m.wire.filter (fun x => match x with
      | .signal _ u g _ _ => !(u = s ∧ g = h)
      | _ => true) }).takeSignals s h l
  (m1.setF s Reg.SYNC_STATUS_FAILED 0 (handleObj h)).setF s Reg.SYNC_STATUS_FAIL_CODE 0 (handleObj h)

/-- A staged operation performed (R69): an append brings the data of its stage (R243). -/
def Mach.performStaged (m : Mach) (s : Nat) (x : Staged) : Mach :=
  match x with
  | .signal h n f => m.sendSignal s h n f
  | .clearFail h => m.clearFail s h
  | .dead a => m.send (.dead a)
  | .keyed c o =>
    if o.kind = 0x21 then
      let r := m.performRead true o.stage o.stageLen
      r.1.send (.keyed s c { o with data := r.2 })
    else m.send (.keyed s c o)

/-! ## Commit (R71) -/

/-- The stores of every group performed, as far as none is held; the flag says that none remains. -/
def Mach.drainAll (m : Mach) (s L : Nat) : Mach × Bool :=
  let slots := ((m.core s L).stores.map (·.slot)).eraseDups
  slots.foldl (fun t sl =>
    let d := t.1.drain ((m.core s L).stores.length + 1) s L sl
    (d.1, t.2 && d.2)) (m, true)

/-- The active copies of the STATE buffers that L owns, of those that exist in the running phase, are swapped. -/
def Mach.swapStates (m : Mach) (s L : Nat) : Mach :=
  ((m.plan s).bufs.filter (fun b => b.kind = 4 && b.owner = coreWord s L && bit b.phases (m.phaseNow s))).foldl (fun m b =>
    m.updPlan s (fun p => { p with active := SMap.put p.active b.id (1 - SMap.getD p.active b.id 0) })) m

/-- The outbox of the unit: its tokens and end tokens by channel, then its credits. -/
def Mach.outboxOf (m : Mach) (s L ends : Nat) : List OutTok :=
  (List.range 64).flatMap (fun c =>
    match m.outRoute s L c with
    | none => []
    | some r =>
      let o := m.outChan s L c
      (List.range o.cur).map (fun i => (⟨false, c, o.sent + i, r.token (o.sent + i) false⟩ : OutTok)) ++
        (if bit ends c then [(⟨false, c, o.sent + o.cur, r.token (o.sent + o.cur) true⟩ : OutTok)] else [])) ++
  (List.range 64).flatMap (fun c =>
    match m.inRoute s L c with
    | none => []
    | some r =>
      let i := m.inChan s L c
      (List.range i.cur).map (fun k => (⟨true, c, i.base + k, r.credit (i.base + k)⟩ : OutTok)))

/-- An input channel after the commit that consumed `cur` tokens. -/
def InChan.commit (i : InChan) : InChan :=
  { i with base := i.base + i.cur, accepted := i.accepted - i.cur, cur := 0, ends := i.ends.filter (fun n => i.base + i.cur ≤ n) }

/-- An output channel after the commit that sent its tokens, and an end token when `fin`. -/
def OutChan.commit (o : OutChan) (fin : Bool) : OutChan := { o with sent := o.sent + o.cur + fin.toNat, cur := 0 }

/-- The control record takes effect (R71 step 3): script position, channels, outbox, staged operations, commit marker; the journal is
cleared, and a phase that ends is counted. -/
def Core.recordCommit (c : Core) (id ends : Nat) (box : List OutTok) (entries : Nat) : Core :=
  let ph := c.phase + (c.entry.phaseEnd).toNat
  let done := decide (entries ≤ c.script)
  let outs := (setBits ends 64).foldl (fun o ch => if (SMap.find o ch).isSome then o else SMap.put o ch {}) c.outs
  { c with
    ins := c.ins.map (fun e => (e.1, e.2.commit))
    outs := outs.map (fun e => (e.1, e.2.commit (bit ends e.1)))
    rcd := { script := c.script, phase := ph, loops := c.loops, ended := done, outbox := box, staged := c.staged, marker := some (id, c.unit + 1) }
    staged := [], journal := [], atomNs := [], shadow := [], committing := none, loopEnd := none, entry := {}, phase := ph, ended := done
    unit := c.unit + 1, aborts := 0, refetched := false
    mx := { c.mx with numerical := false, tested := false } }

/-- GATHER of the running phase signalled by 1 (R82 step 1). -/
def Mach.signalGather (m : Mach) (s k : Nat) : Mach :=
  match (m.plan s).phase k with
  | some e => m.sendSignal s (m.handle s (handleObj e.gather)) 1 0
  | none => m

/-- Steps 2 to 5 of R71, once step 1 is done. -/
def Mach.commitUnit (m : Mach) (k s L id : Nat) : Mach :=
  let c := m.core s L
  let p := m.physOf s L
  let ends := c.loopEnd.getD 0
  let box := m.outboxOf s L ends
  let m1 := m.swapStates s L
  let m2 := m1.updCore s L (fun c => c.recordCommit id ends box (m.entries s L))
  let m3 := m2.syncJournal s L
  let m4 := box.foldl (fun m x => m.sendOut k s L x) m3
  let m6 := c.staged.foldl (fun m x => m.performStaged s x) m4
  let m7 := if c.entry.phaseEnd then (m.releaseObj s).toList.foldl (fun m o => m.syncWaiters s o) (m6.signalGather s c.phase) else m6
  (m7.bumpF s Reg.CORE_COMMIT_COUNT_COMMITS p).syncScript s L

/-- COMMIT (R55, R71, R184): the unit's stores are performed; a unit with a numerical mismatch waits for the array's test; a commit that
sends end tokens waits for their credits. -/
def Mach.commit (m : Mach) (k s L : Nat) : Mach :=
  let c := m.core s L
  match c.committing with
  | none => m
  | some id =>
    if !m.planRunning s ∨ c.halt ≠ .none then m
    else if !((setBits (c.loopEnd.getD 0) 64).all (fun ch => m.creditHere s L ch)) then m
    else if c.mx.numerical ∧ !c.mx.tested then
      (m.setF s Reg.CORE_MX_STATUS_SKIPPER_WAIT 1 (m.physOf s L)).detect s 4 (m.physOf s L)
    else
      let d := m.drainAll s L
      if d.2 then d.1.commitUnit k s L id else d.1

/-! ## Arrivals (R58) -/

/-- What the token and credit unit does with an arrival. -/
inductive Arrival where
  | fault | duplicate | accept
  deriving DecidableEq, Repr

/-- An arrival classed by its SEQ against the expected one of count n: `a` counts from n on are known, `window` may arrive (R58). -/
def arrivalOf (seq slot n a window depth : Nat) (fieldsOk : Bool) : Arrival :=
  let d : Nat := (seq + 2 ^ 20 - n % 2 ^ 20) % 2 ^ 20
  let count : Int := if d < 2 ^ 19 then (n : Int) + (d : Int) else (n : Int) + (d : Int) - 1048576
  if !fieldsOk ∨ (count % (depth : Int)).toNat ≠ slot then .fault
  else if d < a then .duplicate
  else if d < window then .accept
  else if d ≥ 2 ^ 19 then .duplicate
  else .fault

/-- A routing fault at a channel of a core (R58): logged, and the channel's flag in CORE_SCRIPT_STATE. -/
def Mach.routeFault (m : Mach) (s L : Nat) : Mach :=
  if L < 832 then
    (m.logError s 0x0100 1 (m.physOf s L) 0).setF s Reg.CORE_SCRIPT_STATE_CHANNEL_FAULT 1 (m.physOf s L)
  else m.logError s 0x0100 4 (L - 0x3C0) 0

/-- A duplicate counted (R58). -/
def Mach.duplicate (m : Mach) (s L : Nat) : Mach :=
  if L < 832 then m.bumpF s Reg.CORE_SCRIPT_STATE_DUPLICATES (m.physOf s L) else m

/-- Tokens whose predecessor is now accepted are accepted (R58, R72). -/
def InChan.absorb : Nat → InChan → InChan
  | 0, i => i
  | fuel + 1, i =>
    match i.waiting.find? (fun w => w.1 = i.base + i.accepted) with
    | none => i
    | some w =>
      InChan.absorb fuel { i with
        accepted := i.accepted + 1, waiting := i.waiting.filter (fun x => x.1 ≠ w.1)
        ends := if w.2 = 1 then i.ends ++ [w.1] else i.ends }

/-- A token with a count: in its place, or held unacknowledged until its predecessor has come. -/
def InChan.take (i : InChan) (count : Nat) (fin : Bool) : InChan :=
  { i with waiting := i.waiting ++ [(count, fin.toNat)] }.absorb (i.waiting.length + 1)

/-- A token reaches its consumer (R58). -/
def Mach.takeToken (m : Mach) (s L sdid w : Nat) : Mach :=
  let typ := bits w 0 4
  let ch := bits w 16 6
  let seq := bits w 22 20
  let buf := bits w 42 14
  let bad (m : Mach) : Mach := (m.updCore s L (fun c => c.updIn ch (fun i => { i with faulted := true }))).routeFault s L
  if typ ≠ 1 ∧ typ ≠ 3 then m.logError s 0x0100 1 (m.physOf s L) 0
  else
    match m.inRoute s L ch with
    | none => bad m
    | some r =>
      let i := m.inChan s L ch
      let n := i.base + i.cur
      let ok := bits w 4 10 = r.src && bits w 14 2 = r.srcStack && sdid = r.srcSdid && (buf = r.buffer || buf = 0x3FFF) && typ = r.typ
      match arrivalOf seq (bits w 56 8) n (i.accepted - i.cur) r.depth r.depth ok with
      | .fault => bad m
      | .duplicate => m.duplicate s L
      | .accept =>
        let count := n + (seq + 2 ^ 20 - n % 2 ^ 20) % 2 ^ 20
        if i.waiting.any (fun x => x.1 = count) then m.duplicate s L
        else (m.updCore s L (fun c => c.updIn ch (fun i => i.take count (buf = 0x3FFF)))).syncScript s L

/-- Credits whose predecessor is now accepted are accepted (R58). -/
def OutChan.absorb : Nat → OutChan → OutChan
  | 0, o => o
  | fuel + 1, o =>
    if o.waiting.contains o.oldest then OutChan.absorb fuel { o with waiting := o.waiting.filter (· ≠ o.oldest), oldest := o.oldest + 1 } else o

def OutChan.take (o : OutChan) (count : Nat) : OutChan := { o with waiting := o.waiting ++ [count] }.absorb (o.waiting.length + 1)

/-- The output channel ch of a producer: a core, or mover channel L − 0x3C0 (R401). -/
def Mach.prodChan (m : Mach) (s L ch : Nat) : OutChan :=
  if L < 0x3C0 then m.outChan s L ch else SMap.getD (m.mov s (L - 0x3C0)).outs ch {}

def Mach.updProd (m : Mach) (s L ch : Nat) (f : OutChan → OutChan) : Mach :=
  if L < 0x3C0 then m.updCore s L (fun c => c.updOut ch f)
  else m.updMov s (L - 0x3C0) (fun k => { k with outs := SMap.put k.outs ch (f (SMap.getD k.outs ch {})) })

/-- The SDID of the consumer of a route, as producer stack s knows it. -/
def Mach.consumerSdid (m : Mach) (s : Nat) (r : Route) : Nat :=
  if r.route ≥ 0xFFFE then m.sdid r.dstStack else m.getF s Reg.LNK_ROUTE_DST_SDID r.route

/-- A credit reaches its producer (R58). -/
def Mach.takeCredit (m : Mach) (s L sdid w : Nat) : Mach :=
  let ch := bits w 16 6
  let seq := bits w 22 20
  let buf := bits w 42 14
  let bad (m : Mach) : Mach := (m.updProd s L ch (fun o => { o with faulted := true })).routeFault s L
  match m.outRoute s L ch with
  | none => bad m
  | some r =>
    let o := m.prodChan s L ch
    let ok := bits w 4 10 = r.dst && bits w 14 2 = r.dstStack && sdid = m.consumerSdid s r && (buf = r.buffer || buf = 0x3FFF)
    match arrivalOf seq (bits w 56 8) o.oldest 0 (o.sent - o.oldest) r.depth ok with
    | .fault => bad m
    | .duplicate => m.duplicate s L
    | .accept =>
      let count := o.oldest + (seq + 2 ^ 20 - o.oldest % 2 ^ 20) % 2 ^ 20
      if o.waiting.contains count then m.duplicate s L
      else
        let m1 := m.updProd s L ch (fun o => o.take count)
        if L < 832 then m1.syncScript s L else m1

/-- A word of Table EX-10 with a PLAN_ID that has reached core L of stack s: dropped and logged unless it is that of the stack's plan (R51). -/
def Mach.takeWord (m : Mach) (plan : Option Nat) (s L sdid w : Nat) : Mach :=
  if plan = none ∨ plan ≠ m.planTag s then m.dropTraffic s
  else if bits w 0 4 = 2 then m.takeCredit s L sdid w
  else m.takeToken s L sdid w

/-! ## Aborts and replays (R73, R76, R316) -/

/-- The input slots of L that hold poison: channel's route, count (R73). -/
def Mach.poisonedSlots (m : Mach) (s L : Nat) : List (Route × Nat) :=
  (m.core s L).ins.flatMap (fun e =>
    match m.inRoute s L e.1 with
    | none => []
    | some r =>
      match (m.plan s).buf s r.buffer with
      | none => []
      | some b =>
        (List.range e.2.accepted).filterMap (fun k =>
          let n := e.2.base + k
          if e.2.ends.contains n ∨ (m.homeBytes (b.slotAddr r.depth n) b.slotSize).all (·.poison = 0) then none else some (r, n)))

/-- A poisoned input slot is asked for again at the producer's staging slot, when it has one: over the bridges at once, over a link by a
READ_REQ (R73). -/
def Mach.refetchSlot (m : Mach) (k s L : Nat) (e : Route × Nat) : Mach :=
  let r := e.1
  match (m.plan s).buf s r.buffer with
  | none => m
  | some b =>
    let dst := b.slotAddr r.depth e.2
    if r.stage = 0x3FFF ∨ r.route = 0xFFFF then m
    else if r.route = 0xFFFE then
      match (m.plan r.srcStack).buf r.srcStack r.stage with
      | some p =>
        if m.cut k r.srcStack s then m
        else
          let rd := m.performRead false (p.slotAddr r.depth e.2) p.slotSize
          rd.1.performWrite false dst rd.2
      | none => m
    else
      let f := m.farSlot s r.srcStack r.stage r.depth e.2
      f.1.sendReads s r.route f.2 b.slotSize dst 0 (.refetch L)

/-- A test that was started by a detection behind an aborted unit of L, other than that of a row that it consumed from: of the array, a lane pair or
the logic of its core, and when VERTICAL poison was consumed, of a coupler group of its port (R316). -/
def Mach.behind (m : Mach) (s L : Nat) (t : SkTest) : Bool :=
  let p := m.physOf s L
  ((t.kind = 4 || t.kind = 5 || t.kind = 6) && t.index % 2 ^ 10 = p) || (t.kind = 2 && (m.core s L).lastKind = 2 && t.index / 32 = p)

/-- WORK_UNIT_REPLAY (R73, R316): the first two aborts replay at once; a later one waits for the tests and restorations of its poisoned
inputs, and none starts while a unit of the core is under test (R320). Poisoned input slots are fetched again first. -/
def Mach.replay (m : Mach) (k s L : Nat) : Mach :=
  let c := m.core s L
  let p := m.physOf s L
  let g := (m.stk s).integ
  let waits := (decide (c.aborts ≥ 3) && (g.consumed.any (fun x => x.core = L) || (g.queue ++ g.running).any (m.behind s L))) ||
    g.running.any (fun t => (t.kind = 4 || t.kind = 5 || t.kind = 6) && t.index % 2 ^ 10 = p)
  if !m.planRunning s ∨ c.halt ≠ .aborted ∨ waits then m
  else
    let m1 := if c.refetched then m else
      ((m.poisonedSlots s L).foldl (fun m e => m.refetchSlot k s L e) m).updCore s L (fun c => { c with refetched := true })
    if (m1.stk s).link.xfers.any (fun x => x.owner = .refetch L) then m1
    else
      let m2 := m1.updCore s L (fun c => { c with halt := .none, refetched := false })
      ((m2.bumpF s Reg.CORE_SCRIPT_STATE_REPLAYS p).bumpF s Reg.BUR_RECOVERY_COUNT_REPLAYS).syncScript s L

/-- CORE_ABORT (R76): once the plan is aborted, the core stops and its uncommitted unit is discarded. A core that has faulted has stopped already
(R148); its fault is still to be logged (R150). -/
def Mach.coreAbort (m : Mach) (s L : Nat) : Mach :=
  if m.getF s Reg.BUR_PLAN_STATE_STATE = 4 ∧ (m.core s L).halt ≠ .stopped ∧ (m.core s L).halt ≠ .fault then
    ((m.discardUnit s L .stopped).clearLaunchRegs s L).syncScript s L
  else m

/-- KERNEL_FAULT (R148, R150): the Bureau logs the fault, aborts the plan on every stack and reports the event. -/
def Mach.kernelFault (m : Mach) (s L : Nat) : Mach :=
  let p := m.physOf s L
  if (m.core s L).halt ≠ .fault then m
  else
    let cause := m.getF s Reg.CORE_FAULT_INFO_CAUSE p
    let pc := m.getF s Reg.CORE_FAULT_PC_PC p
    let addr := m.getF s Reg.CORE_FAULT_ADDR_ADDR p
    let m1 := (m.updCore s L (fun c => { c with halt := .stopped, late := none })).logError s 0x0021 1 p addr [cause, pc]
    if (List.range 4).any m1.planOn then (m1.endPlan s 0x0021).event s 0x0003 [L, cause, pc, addr] else m1

/-! ## Completion (R77) -/

/-- What the plan of stack s still lacks for its completion, if nothing: true. -/
def Mach.planDone (m : Mach) (s : Nat) : Bool :=
  let pl := m.plan s
  (pl.cores.filter (fun c => c.stack = s)).all (fun c => (m.core s c.index).ended) &&
    (pl.completeObj = 0 || satisfies (m.count s pl.completeObj) pl.completeCount) &&
    (List.range 64).all (fun c => !m.getB s Reg.MOV_CH_CTRL_BOUND c || (!m.getB s Reg.MOV_CH_CTRL_BUSY c && (m.mov s c).lastDone))

/-- The stacks that a plan names. -/
def Plan.stackSet (pl : Plan) : List Nat := (List.range 4).filter (fun s => pl.sdids.getD s 0xFFFF ≠ 0xFFFF)

/-- PLAN_COMPLETE (R77): the stack's plan is COMPLETE and its channels unbound; once every stack that the plan names is, the event is
written for the part. -/
def Mach.planComplete (m : Mach) (s : Nat) : Mach :=
  if !m.planRunning s ∨ !m.planDone s then m
  else
    let m1 := (m.setF s Reg.BUR_PLAN_STATE_STATE 3).planEnded s
    if (m1.plan s).stackSet.all (fun k => m1.getF k Reg.BUR_PLAN_STATE_STATE = 3) then m1.event s 0x0001 [m1.getF s Reg.BUR_PLAN_ID_PLAN_ID]
    else m1

/-! ## Commands -/

/-- COMMIT (R71). -/
def execCommit (a : AtCore) (s : State) : Out := onStack s a.stack (fun fu m => m.commit fu.part.stackCount a.stack a.core)

/-- The token and credit unit of L repeats a write that is not acknowledged: what arrives meanwhile is not acknowledged either (R289). -/
def Mach.inboxHeld (m : Mach) (s L : Nat) : Bool := decide (L < 832) && (m.stk s).vcp.unwritten.contains (m.physOf s L)

/-- A token or credit arrives at a core of a part with n stacks (R51, R58); none comes from a stack of the part that no route reaches any more
(R364). -/
def Mach.wordArrives (m : Mach) (n s L sdid w : Nat) : Mach :=
  if ((m.stackOf sdid).any (fun u => m.cut n u s)) ∨ m.inboxHeld s L then m
  else
    let t := m.takeMsg s (fun x => match x with
      | .token p d k c v => if d = sdid ∧ k = s ∧ c = L ∧ v = w then some p else none
      | _ => none)
    t.1.takeWord t.2 s L sdid w

/-- TOKEN_ARRIVAL (R51, R58): a credit word is no token. -/
def execTokenArrival (a : WordAt) (s : State) : Out :=
  onStack s a.stack (fun fu m =>
    let w := a.word.toNat
    if bits w 0 4 = 2 then m else m.wordArrives fu.part.stackCount a.stack a.core a.sdid.toNat w)

/-- CREDIT_ARRIVAL (R51, R58): only a credit word is a credit. -/
def execCreditArrival (a : WordAt) (s : State) : Out :=
  onStack s a.stack (fun fu m =>
    let w := a.word.toNat
    if bits w 0 4 = 2 then m.wordArrives fu.part.stackCount a.stack a.core a.sdid.toNat w else m)

/-- WORK_UNIT_REPLAY (R316). -/
def execWorkUnitReplay (a : AtCore) (s : State) : Out := onStack s a.stack (fun fu m => m.replay fu.part.stackCount a.stack a.core)

/-- CORE_ABORT (R76). -/
def execCoreAbort (a : AtCore) (s : State) : Out := onStack s a.stack (fun _ m => m.coreAbort a.stack a.core)

/-- PLAN_COMPLETE (R77). -/
def execPlanComplete (a : AtStack) (s : State) : Out := onStack s a.stack (fun _ m => m.planComplete a.stack)

/-- KERNEL_FAULT (R148). -/
def execKernelFault (a : AtCore) (s : State) : Out := onStack s a.stack (fun _ m => m.kernelFault a.stack a.core)

end Sys2Proof.Machine
end

