-- ==== Sys2Proof/Machine/Phases.lean ====
section
/-! DEFINITION. Signals that arrive, stalls, phase switches and their pulls, barrier and handshake watchdogs, atomics and accesses at
their homes (spec/02_execution_model.md, R62 to R67, R81 to R84; spec/03_thread_groups.md, R102, R111, R115; R104, R329). -/

namespace Sys2Proof.Machine

/-! ## Sync objects -/

/-- Signals on their way from stack src reach the object of a handle in one step (R51, R64): those of another stack that do not carry the PLAN_ID of
this stack's plan are dropped. -/
def Mach.signalsArrive (m : Mach) (src s h : Nat) (l : List (Nat × Nat)) : Mach :=
  let r := l.foldl (fun (t : Mach × List (Nat × Nat)) e =>
    let x := t.1.takeMsg s (fun x => match x with
      | .signal p u g n f => if u = src ∧ g = h ∧ n = e.1 ∧ f = e.2 then some p else none
      | _ => none)
    (x.1, if src = s ∨ (x.2 ≠ none ∧ x.2 = m.planTag s) then t.2 ++ [e] else t.2)) (m, [])
  (r.1.dropSignals s (l.length - r.2.length)).takeSignals s h r.2

/-- SYNC_STALL: the stall time of object o reaches TIMEOUT_MS (R67). -/
def Mach.syncStall (m : Mach) (s o : Nat) : Mach :=
  if m.getF s Reg.SYNC_FWD_STRIDE_TIMEOUT_MS o = 0 ∨ m.getF s Reg.SYNC_STATUS_WAITERS o = 0 ∨ (m.stk s).plan.stallDone.contains o then m
  else
    let m1 := m.updPlan s (fun p => { p with stallDone := p.stallDone ++ [o] })
    let m2 := if m.getB s Reg.SYNC_STATUS_STALLED o then m1
      else (m1.setF s Reg.SYNC_STATUS_STALLED 1 o).bumpF s Reg.SYNC_DROPPED_STALLED_OBJECTS
    (m2.srcEdge s 7).event s 0x0004 [m.handle s o]

/-! ## Near caches (R110, R111) -/

/-- Every page that turns writable is invalidated in every near cache of the stack, and turns writable. -/
def Mach.ncInvalidate (m : Mach) (s : Nat) : Mach :=
  let t := (m.stk s).plan.turning
  if t = [] then m
  else
    let m1 := (List.range 864).foldl (fun m p => m.bumpF s Reg.CORE_NC_STATUS_INVALIDATIONS p t.length) m
    let gone (n : NearSt) : NearSt := (n.lines.filter (fun e => t.contains (e.line / 512))).foldl (fun n e => n.drop e.line) n
    let m1 := m1.updStk s (fun k => { k with cores := k.cores.map (fun e => (e.1, { e.2 with near := gone e.2.near })) })
    (m1.updStk s (fun k => { k with roPages := k.roPages.filter (fun p => !t.contains p) })).updPlan s (fun p => { p with turning := [] })

/-! ## Phase switches (R82, R83) -/

/-- The stack pulls a descriptor's source over a link: READ_REQs on a route to the source's stack, which converts the data before it leaves (R83). The
descriptor names no route, and no rule says which one the pull takes: the model takes the lowest VALID one that is not LOCAL and ends at SRC_SDID (DESIGN
CHOICE, log entry 113). -/
def Mach.pullRemote (m : Mach) (s i : Nat) (d : Reshard) : Mach :=
  match m.stackOf d.srcSdid, m.routeTo s d.srcSdid with
  | none, some r => m.sendReads s r d.src d.len d.dst d.convert (.reshard i)
  | _, _ => m

/-- RESHARD_START (R82 step 3): RELEASE has reached k + 1 and the pages that turn writable have been invalidated (R111); the pulls of the
switch start. -/
def Mach.reshardStart (m : Mach) (s : Nat) : Mach :=
  let k := m.phaseNow s
  let p := (m.stk s).plan
  match (m.plan s).phase k, (m.plan s).phase (k + 1) with
  | some e, some _ =>
    if !m.planRunning s ∨ p.switching ∨ p.turning ≠ [] ∨ !satisfies (m.count s (handleObj e.release)) (k + 1) then m
    else
      let l := (List.range e.reshardCount).map (fun i => e.reshardIndex + i)
      let m1 := m.updPlan s (fun p => { p with switching := true, pulling := l, entryNeed := p.entryNeed + e.reshardCount })
      ((l.foldl (fun m i =>
        match (m.plan s).reshards[i]? with
        | some d => m.pullRemote s i d
        | none => m) m1).phaseSettle s).afterPhase m s
  | _, _ => m

/-- A pull inside a part of n stacks: the source stack converts, the destination is written (R83, R311), or refused where a mover's write would be
(R30, R112, R193). From a stack that no route reaches any more comes LINK poison (R355, R364). -/
def Mach.pullLocal (m : Mach) (n s : Nat) (d : Reshard) : Mach :=
  let r := if m.cut n (daStack d.src) s then (m, (List.range d.len).map (fun _ => (⟨0, 3⟩ : PByte))) else m.performRead false d.src d.len
  let bs := convertBytes d.convert r.2
  match (pageStarts d.dst bs.length).findSome? (fun p => (r.1.writeDeny (.mover 63) (r.1.place n p) p).map (fun x => (p, x))) with
  | some (p, x) => r.1.refuse n p x
  | none => r.1.performWrite false d.dst bs

/-- RESHARD_DESCRIPTOR_DONE (R82, R83): the data lies at the destination, and ENTRY is signalled by 1. -/
def Mach.reshardDone (m : Mach) (n s i : Nat) : Mach :=
  match (m.plan s).reshards[i]?, (m.plan s).phase (m.phaseNow s) with
  | some d, some e =>
    if !(m.stk s).plan.pulling.contains i then m
    else
      let here := (m.stackOf d.srcSdid).isSome
      if !here ∧ ((m.stk s).link.xfers.any (fun x => x.owner = .reshard i) ∨ (m.routeTo s d.srcSdid).isNone) then m
      else if here ∧ (m.anyHeld [(d.src, d.len)] ∨ m.anyHeld [(d.dst, convLen d.convert d.len)]) then m
      else
        let m1 := if here then m.pullLocal n s d else m
        let m2 := m1.updPlan s (fun p => { p with pulling := p.pulling.filter (· ≠ i) })
        ((m2.sendSignal s (m.handle s (handleObj e.entry)) 1 0).phaseSettle s).afterPhase m s
  | _, _ => m

/-! ## Watchdogs (R102, R329) -/

/-- Groups of block slot j that have not arrived at barrier n. -/
def Core.missing (c : Core) (j n : Nat) : List Nat := (c.liveGroups j).filter (fun gi => !bit (c.launch.arrivedAt j n) gi)

/-- A group waits in WAIT_GE or WAIT_EQ, or in the WAIT_EQ of an ordered atomic (R116). -/
def Core.inWait (c : Core) (slot : Nat) : Bool :=
  match SMap.find c.groups slot with
  | some g =>
    (match g.wait with
    | .obj _ _ _ _ _ _ => true
    | .atomic => !g.ordered && ((SMap.find c.atoms slot).any (fun a => a.ord.isSome))
    | _ => false)
  | none => false

/-- BARRIER_STALL (R102): barrier n of block slot j has gone 2^SHIFT counted steps without an arrival; SHIFT 0 disables the watchdog. -/
def Mach.barrierStall (m : Mach) (s L j n : Nat) : Mach :=
  let c := m.core s L
  let p := m.physOf s L
  let key := j * 4 + n
  let miss := c.missing j n
  if m.getF s Reg.CORE_BAR_WATCHDOG_SHIFT p = 0 ∨ c.launch.arrivedAt j n = 0 ∨ miss = [] ∨ c.launch.stalled.contains key ∨ miss.all (fun gi => c.inWait (c.launch.slotOf j gi)) then m
  else
    let m1 := m.updCore s L (fun c => { c with launch := { c.launch with stalled := c.launch.stalled ++ [key] } })
    let m2 := if m.getB s Reg.CORE_BAR_STATUS_STALL p then m1
      else
        let a := (m1.setF s Reg.CORE_BAR_STATUS_BLOCK_SLOT j p).setF s Reg.CORE_BAR_STATUS_BARRIER n p
        (a.setF s Reg.CORE_BAR_STATUS_ARRIVED (popCount (c.launch.arrivedAt j n) 32) p).setF s Reg.CORE_BAR_STATUS_STALL 1 p
    ((m2.bumpF s Reg.CORE_BAR_STATUS_STALL_COUNT p).coreCause s p).event s 0x0005 [p, j, n]

/-- HANDSHAKE_WATCHDOG (R315, R329): a stage of the core of L has held a request for 1 ms; the unit aborts without a fault and the core
logic is tested. -/
def Mach.watchdogTrip (m : Mach) (s L : Nat) : Mach :=
  let p := m.physOf s L
  if !m.coreGoes s L then m
  else
    let m1 := (m.bumpF s Reg.CORE_INTEGRITY_WATCHDOG p).setF s Reg.CORE_INTEGRITY_STALLED 1 p
    ((m1.abortUnit s L .watchdog).coreCause s p).detect s 6 p

/-! ## Commands -/

/-- SYNC_SIGNAL_ARRIVAL (R64). -/
def execSyncSignalArrival (a : SignalsAt) (s : State) : Out :=
  onStack s a.stack (fun fu m =>
    if m.cut fu.part.stackCount a.source a.stack then m
    else m.signalsArrive a.source a.stack a.handle.toNat ((a.signals.map (fun e => (e.1.toNat, e.2.toNat))).filter (fun e => e.1 ≠ 0 ∨ e.2 ≠ 0)))

/-- SYNC_STALL (R67). -/
def execSyncStall (a : AtObject) (s : State) : Out := onStack s a.stack (fun _ m => m.syncStall a.stack a.object)

/-- NEAR_CACHE_INVALIDATE (R111). -/
def execNearCacheInvalidate (a : AtStack) (s : State) : Out := onStack s a.stack (fun _ m => m.ncInvalidate a.stack)

/-- RESHARD_START (R82). -/
def execReshardStart (a : AtStack) (s : State) : Out := onStack s a.stack (fun _ m => m.reshardStart a.stack)

/-- RESHARD_DESCRIPTOR_DONE (R83). -/
def execReshardDescriptorDone (a : StackNth) (s : State) : Out := onStack s a.stack (fun fu m => m.reshardDone fu.part.stackCount a.stack a.nth)

/-- BARRIER_STALL (R102). -/
def execBarrierStall (a : AtBarrier) (s : State) : Out := onStack s a.stack (fun _ m => m.barrierStall a.stack a.core a.slot a.barrier)

/-- HANDSHAKE_WATCHDOG (R329). -/
def execHandshakeWatchdog (a : AtCore) (s : State) : Out := onStack s a.stack (fun _ m => m.watchdogTrip a.stack a.core)

/-- ATOMIC_AT_HOME (R115). -/
def execAtomicAtHome (a : AtGroup) (s : State) : Out := onStack s a.stack (fun _ m => m.atomPerform a.stack a.core a.slot)

end Sys2Proof.Machine
end

