-- ==== Sys2Proof/Machine/Reserved.lean ====
section
/-! DEFINITION. The firmware-reserved area (spec/09_cache_die.md, R280, Table CD-3; spec/02_execution_model.md, R72): where its bytes lie, and what the
machine's own tables show there. -/

namespace Sys2Proof.Machine

/-! ## Where it lies (R280) -/

/-- The region 0x0 offset of reserved offset o. -/
def reservedAddr (o : Nat) : Nat :=
  (if o < 0x100_0000 then 830 + o / 0x10_0000 else 848 + (o - 0x100_0000) / 0x10_0000) * 0x20_0000 + 0x10_0000 + o % 0x10_0000

/-- The reserved offset of a region 0x0 offset, if it lies in the reserved area. -/
def reservedOff (off : Nat) : Option Nat :=
  let b := off / 0x20_0000
  let r := off % 0x20_0000
  if r < 0x10_0000 then none
  else if 830 ≤ b ∧ b < 846 then some ((b - 830) * 0x10_0000 + r - 0x10_0000)
  else if 848 ≤ b ∧ b < 864 then some (0x100_0000 + (b - 848) * 0x10_0000 + r - 0x10_0000)
  else none

/-! ## What it holds (Table CD-3) -/

/-- A byte of the reserved area: plain memory, a byte of a table that the machine holds, or one of a layout that the spec does not give. -/
inductive RByte where
  | plain
  | val (b : Byte)
  | unstated
  deriving DecidableEq, Repr

/-- An entry of the change log as its 64 bytes (Table BU-8). -/
def ChangeEntry.bytes (e : ChangeEntry) : List Byte :=
  leBytes 8 e.time ++ leBytes 8 e.serial ++ leBytes 1 e.source ++ leBytes 1 e.flags ++ leBytes 1 e.mailbox ++ leBytes 1 e.stack ++ leBytes 2 e.seq ++
    leBytes 2 0 ++ leBytes 8 e.addr ++ leBytes 8 e.old ++ leBytes 8 e.new ++ leBytes 16 0

/-- An entry of the error log as its 64 bytes (R428). -/
def ErrEntry.bytes (e : ErrEntry) : List Byte :=
  leBytes 8 e.time ++ leBytes 8 e.serial ++ leBytes 2 e.code ++ leBytes 1 e.stack ++ leBytes 1 e.unit ++ leBytes 4 e.index ++ leBytes 8 e.addr ++
    (List.range 4).flatMap (fun i => leBytes 8 (e.detail.getD i 0))

/-- The 36 bytes of an input channel in the inbox (R72): ACCEPTED, and END with a bit for each accepted end token. -/
def InChan.bytes (c : InChan) : List Byte :=
  leBytes 4 c.accepted ++ leBytes 32 (c.ends.foldl (fun n t => if c.base ≤ t ∧ t < c.base + 256 then n ||| 2 ^ (t - c.base) else n) 0)

/-- A byte of the control record of L on stack s (R72): the inbox is laid out by the spec, the record before it and the atomic journal are not. -/
def Mach.recordByte (m : Mach) (s L o : Nat) : RByte :=
  if 0x700 ≤ o ∧ o < 0x1000 then
    .val ((SMap.getD (m.core s L).ins ((o - 0x700) / 36) {}).bytes.getD ((o - 0x700) % 36) 0)
  else .unstated

/-- Bit p of the read-only page map (R110): the pages of region 0x0, then those of region 0x4 (DESIGN CHOICE, log entry 114). -/
def Mach.pageBit (m : Mach) (s p : Nat) : Bool :=
  (m.stk s).roPages.contains ((if p < 27648 then devAddr s 0 0 else devAddr s 4 0) / 0x1_0000 + (if p < 27648 then p else p - 27648))

/-- An entry of a log ring of n entries at slot k, as bytes. -/
def ringEntry (l : List (Nat × List Byte)) (n k : Nat) : Option (List Byte) := (l.find? (fun e => e.1 % n = k)).map (·.2)

/-- The byte at reserved offset o of stack s. The order of the logs in their range, and of the sections in the plan tables, is the model's (DESIGN CHOICE,
log entry 114). -/
def Mach.reservedByte (m : Mach) (s o : Nat) : RByte :=
  let entry (e : Option (List Byte)) (i : Nat) : RByte := match e with
    | some b => .val (b.getD i 0)
    | none => .plain
  if o < 0x9C_0000 then m.recordByte s (o / 0x3000) (o % 0x3000)
  else if o < 0xA4_0000 then
    .val (BitVec.ofNat 8 ((List.range 8).foldl (fun n i => n + 2 ^ i * (m.pageBit s ((o - 0x9C_0000) * 8 + i)).toNat) 0))
  else if o < 0xE4_0000 then
    match (m.plan s).tables[o - 0xA4_0000]? with
    | some b => .val b
    | none => .plain
  else if o < 0x100_0000 then .plain
  else if o < 0x140_0000 then .val ((m.descBytes s ((o - 0x100_0000) / 64)).getD (o % 64) 0)
  else if o < 0x150_0000 then .unstated
  else if o < 0x154_0000 then
    entry (ringEntry ((m.stk s).bureau.errLog.map (fun e => (e.serial, e.bytes))) 4096 ((o - 0x150_0000) / 64)) (o % 64)
  else if o < 0x164_0000 then
    entry (ringEntry ((m.stk s).bureau.changeLog.map (fun e => (e.serial, e.bytes))) 16384 ((o - 0x154_0000) / 64)) (o % 64)
  else .plain

/-- What a read of bytes l from address a shows where they lie in the reserved area: the tables that the machine holds, free values where the spec gives
no layout, and the poison of the cells. -/
def Mach.reservedView (m : Mach) (a : Nat) (l : List PByte) : Mach × List PByte :=
  match daRegion a, reservedOff (daOff a) with
  | 0, some o =>
    let f := m.openBytes l.length
    let kinds := (List.range l.length).map (fun i => m.reservedByte (daStack a) (o + i))
    (if kinds.contains .unstated then f.1 else m, ((l.zip f.2).zip kinds).map (fun e =>
      if e.1.1.poison ≠ 0 then e.1.1 else match e.2 with
        | .plain => e.1.1
        | .val b => ⟨b, 0⟩
        | .unstated => ⟨e.1.2.val, 0⟩))
  | _, _ => (m, l)

end Sys2Proof.Machine
end

