-- ==== Sys2Proof/Machine/Cache.lean ====
section
/-! DEFINITION. The cache partition: accesses at the home, fills and writebacks, dead lines, the thrash monitor, shelves and partition
changes (spec/09_cache_die.md, R268 to R281). -/

namespace Sys2Proof.Machine

/-! ## Accesses (R104, R270) -/

/-- Who an access is made by, as the machine names it. -/
def agentOf : Requester → Agent
  | .kernel c => .kernel c
  | .mover c => .mover c
  | .host => .host
  | .cabinet c => .cabinet c
  | .twin => .twin
  | .bureau => .bureau

/-- The access of a command. -/
def accessOf (a : MemAcc) (alloc : Bool) : Access :=
  { agent := agentOf a.unit, addr := a.addr.toNat, len := match a.data with | some d => d.length | none => a.len.val
    wr := a.data.map PByte.clean, alloc := alloc }

/-- An access performed at its home: a read delivers its bytes to the requester, of the reserved area as Table CD-3 lays it out. -/
def Mach.doAccess (m : Mach) (x : Access) : Mach :=
  match x.wr with
  | some bs => m.performWrite x.alloc x.addr bs
  | none =>
    let c := m.performRead x.alloc x.addr x.len
    let r := c.1.reservedView x.addr c.2
    { r.1 with host := { r.1.host with response := r.2, ep := r.2.any (·.poison ≠ 0) } }

/-- What a refused access answers: a host read takes all ones (R268, R380). -/
def Mach.answerRefused (m : Mach) (x : Access) : Mach :=
  match x.wr, x.agent with
  | none, .host => { m with host := { m.host with response := (List.range x.len).map (fun _ => ⟨0xFF, 0⟩), ep := false } }
  | _, _ => m

/-- Why an access of a part with n stacks is refused (Table RG-2, R30): for its first byte or its last. No region, slot or slice ends inside the 4 KiB
that an access has at most. -/
def Mach.accessDeny (m : Mach) (n : Nat) (x : Access) : Option Deny :=
  let deny (a : Nat) : Option Deny := if x.wr.isSome then m.writeDeny x.agent (m.place n a) a else readDeny x.agent (m.place n a)
  match deny x.addr with
  | some d => some d
  | none => if x.len ≤ 1 then none else deny ((x.addr + x.len - 1) % 2 ^ 52)

/-- The machine holds an access now. -/
def Mach.holds (m : Mach) (x : Access) : Bool := m.accessHeld x.alloc x.addr x.len x.wr.isSome

/-- A held access is kept where its home holds it: behind the outstanding operation of its line (R270), the partition change (R281 step 1), the
relocation of its slot (R31), the test of its row (R320), or a port reset (R301); one that waits for an evictable way (R396) stays with its requester. -/
def Mach.holdAccess (m : Mach) (x : Access) : Mach :=
  let s := daStack x.addr
  let L := daOff x.addr / 128
  let wait := m.updStk s (fun k => { k with integ := { k.integ with held := k.integ.held ++ [x] } })
  if (daRegion x.addr = 0 ∨ daRegion x.addr = 4) ∧ m.getB s Reg.VCP_RESET_STATUS_IN_RESET = true then wait
  else if daRegion x.addr = 4 then
    if (m.stk s).cache.change.isSome then m.updCache s (fun k => { k with heldAll := k.heldAll ++ [x] })
    else if m.lineBusy s L then
      m.updCache s (fun k => { k with outst := k.outst.map (fun o => if o.line = L then { o with held := o.held ++ [x] } else o) })
    else if m.cline s L = none then m
    else wait
  else if daRegion x.addr ≠ 0 ∧ (m.stk s).map.relocating.any (fun r => r.1 = daOff x.addr / (if daRegion x.addr = 1 then 0x10_0000 else 0x4_0000)) then
    m.updStk s (fun k => { k with map := { k.map with held := k.map.held ++ [x] } })
  else wait

/-- ACCESS_AT_HOME (R104): a load or store request refused, held or performed. -/
def Mach.accessHome (m : Mach) (n : Nat) (x : Access) : Mach :=
  match m.accessDeny n x with
  | some d => (m.refuse n x.addr d).answerRefused x
  | none => if m.holds x then m.holdAccess x else m.doAccess x

/-- Accesses that were held come to their homes again, in arrival order: refused now (R31), held again, or performed. -/
def Mach.runHeld (m : Mach) (n : Nat) (l : List Access) : Mach := l.foldl (fun m x => m.accessHome n x) m

/-- A pending store of L performed: the nth, when no earlier one of its group overlaps it (R104, R105). -/
def Mach.storeHome (m : Mach) (s L k : Nat) : Mach :=
  let l := (m.core s L).stores
  match l[k]? with
  | none => m
  | some p =>
    let above (q : PStore) : Bool := q.slot = p.slot && rangesMeet (q.addr, q.data.length) (p.addr, p.data.length)
    if m.storeHeld s L p ∨ (l.take k).any above then m
    else (m.performStore s L p).updCore s L (fun c => { c with stores := listErase c.stores k })

/-! ## The BAR4 window (R380) -/

/-- The device address of a BAR4 offset (R380). -/
def Mach.bar4Addr (m : Mach) (o : Nat) : Nat := (m.getF 0 Reg.HOST_BAR4_BASE_BASE * 2 ^ 30 + o) % 2 ^ 52

/-- The endpoint serves BAR4: the part is powered and out of PERST_N, no start runs and the last one has ended with SERVICE READY or DEGRADED, and the
part neither recovers nor is in Stop (R385, R464, R489). -/
def Mach.bar4Serves (m : Mach) : Bool :=
  !m.boot.perst && m.boot.pwrGood && m.boot.aon && m.boot.start.isNone && m.getF 0 Reg.BUR_BOOT_STATUS_STAGE = 7 &&
    m.getF 0 Reg.AON_WAKE_STATUS_STATE = 0 && !m.getB 0 Reg.HOST_LINK_STATUS_RECOVERING

/-- A BAR4 request or a part of it refused: counted and logged, once per request (R379, R380, R383, R518). -/
def Mach.bar4Refuse (m : Mach) (n a : Nat) (d : Deny) : Mach :=
  (if m.cut n 0 (daStack a) then m.logError 0 0x0106 7 0 a else m.refuse n a d).bumpF 0 Reg.HOST_ERR_COUNT_REFUSED

/-- What the host receives. -/
def Mach.respond (m : Mach) (bs : List PByte) : Mach := { m with host := { m.host with response := bs, ep := bs.any (·.poison ≠ 0) } }

/-- n bytes of ones. -/
def ones (n : Nat) : List PByte := (List.range n).map (fun _ => ⟨0xFF, 0⟩)

/-- A read answered with all ones. -/
def Mach.respondOnes (m : Mach) (n : Nat) : Mach := m.respond (ones n)

/-- The parts of n bytes from device address a that lie in one page of 64 KiB each; addresses wrap modulo 2^52. No region, slot or slice ends inside
a page. -/
def pageParts : Nat → Nat → Nat → List (Nat × Nat)
  | 0, _, _ => []
  | fuel + 1, a, n =>
    if n = 0 then []
    else
      let k := min n (0x1_0000 - a % 0x1_0000)
      (a, k) :: pageParts fuel ((a + k) % 2 ^ 52) (n - k)

/-- The parts of a request. -/
def BarReq.parts (r : BarReq) : List (Nat × Nat) :=
  let n := match r.data with | some d => d.length | none => r.len
  pageParts (n / 0x1_0000 + 2) r.addr n

/-- Why a part of a request is refused: by Table RG-2, or because its stack cannot be reached (R379). -/
def Mach.bar4Deny (m : Mach) (k : Nat) (r : BarReq) (p : Nat × Nat) : Option Deny :=
  let d := if r.data.isSome then m.writeDeny .host (m.place k p.1) p.1 else readDeny .host (m.place k p.1)
  if d.isNone ∧ m.cut k 0 (daStack p.1) then some .hostRefused else d

/-- A part of a request is held at its home (R31, R270, R281, R320). -/
def Mach.bar4Held (m : Mach) (k : Nat) (r : BarReq) : Bool :=
  r.parts.any (fun p => (m.bar4Deny k r p).isNone && m.accessHeld true p.1 p.2 r.data.isSome)

/-- A host read (R313, R380, R518): poisoned bytes read as zero in a completion with EP, refused ones as ones; both are logged. -/
def Mach.bar4Load (m : Mach) (k : Nat) (q : BarReq) : Mach :=
  let ps := q.parts
  let r := ps.foldl (fun (t : Mach × List PByte) p =>
    match m.bar4Deny k q p with
    | some _ => (t.1, t.2 ++ ones p.2)
    | none =>
      let x := t.1.performRead true p.1 p.2
      (x.1, t.2 ++ x.2)) (m, [])
  let m1 := r.1.respond r.2
  let m2 := if r.2.any (·.poison ≠ 0) then m1.logError (daStack q.addr) 0 7 0 q.addr else m1
  match ps.findSome? (fun p => (m.bar4Deny k q p).map (fun d => (p.1, d))) with
  | some (p, d) => m2.bar4Refuse k p d
  | none => m2

/-- A host write (R380, R382, R518): refused bytes are dropped; with EP every granule that it touches is written in STORAGE poison form. -/
def Mach.bar4Store (m : Mach) (k : Nat) (q : BarReq) (bs : List Byte) : Mach :=
  let ps := q.parts
  let data := if q.ep then bs.map (fun _ => (⟨0, 1⟩ : PByte)) else PByte.clean bs
  let r := ps.foldl (fun (t : Mach × List PByte) p =>
    (match m.bar4Deny k q p with
      | some _ => t.1
      | none => t.1.performWrite true p.1 (t.2.take p.2), t.2.drop p.2)) (m, data)
  let m1 := if q.ep then (r.1.bumpF 0 Reg.HOST_ERR_COUNT_POISONED_IN).aer 1 else r.1
  match ps.findSome? (fun p => (m.bar4Deny k q p).map (fun d => (p.1, d))) with
  | some (p, d) => m1.bar4Refuse k p d
  | none => m1

/-- A request performed at the homes of its bytes. -/
def Mach.bar4Perform (m : Mach) (k : Nat) (q : BarReq) : Mach :=
  match q.data with
  | some d => if d = [] then m else m.bar4Store k q d
  | none => m.bar4Load k q

/-- Requests that wait are performed in the order received, up to the first that is held (R380). -/
def Mach.bar4Run : Nat → Mach → Nat → Mach
  | 0, m, _ => m
  | fuel + 1, m, k =>
    match m.host.bar4 with
    | [] => m
    | q :: r => if m.bar4Held k q then m else Mach.bar4Run fuel ({ m with host := { m.host with bar4 := r } }.bar4Perform k q) k

/-- What held a request may have ended. -/
def Mach.bar4Drain (m : Mach) (k : Nat) : Mach := Mach.bar4Run m.host.bar4.length m k

/-- Accesses that were held for a row under test (R320) or a port reset (R301) come to their homes again, in arrival order. -/
def Mach.runTested (m : Mach) (n s : Nat) : Mach :=
  let l := (m.stk s).integ.held
  ((m.updStk s (fun k => { k with integ := { k.integ with held := [] } })).runHeld n l).bar4Drain n

/-- The endpoint receives a request (R380): it is performed after those received before it; one that is held waits in its place (R31). While the
endpoint does not serve BAR4, a read is answered with ones and a write dropped. -/
def Mach.bar4Request (m : Mach) (k : Nat) (q : BarReq) : Mach :=
  if !m.bar4Serves then (if q.data.isSome then m else m.respondOnes q.len)
  else if m.host.bar4 = [] ∧ !m.bar4Held k q then m.bar4Perform k q
  else { m with host := { m.host with bar4 := m.host.bar4 ++ [q] } }.bar4Drain k

/-! ## Misses, fills and writebacks (R270, R272) -/

/-- The access lies inside one line of region 0x4. -/
def Access.oneLine (x : Access) : Bool := daRegion x.addr = 4 && decide (1 ≤ x.len) && decide (x.addr % 128 + x.len ≤ 128)

/-- An outstanding operation added to a line. -/
def Mach.addOutst (m : Mach) (s L : Nat) (k : OutKind) (held : List Access) : Mach :=
  m.updCache s (fun c => { c with outst := c.outst ++ [⟨L, k, held⟩] })

/-- ALLOCATING_ACCESS (R270): a hit is performed; a miss starts a fill, and the writeback of a dirty victim when its set is full. -/
def Mach.allocating (m : Mach) (n : Nat) (x : Access) : Mach :=
  let s := daStack x.addr
  let L := daOff x.addr / 128
  if !x.oneLine then m.accessHome n x
  else
    match m.accessDeny n x with
    | some d => (m.refuse n x.addr d).answerRefused x
    | none =>
      if (m.stk s).cache.change.isSome ∨ m.lineBusy s L ∨ (m.cline s L).isSome ∨ m.isDead s L then (if m.holds x then m.holdAccess x else m.doAccess x)
      else
        let h := m.home s L
        let m1 :=
          match m.freeWay s h, m.victim s h with
          | none, some v => if v.dirty && !m.lineBusy s v.line then m.addOutst s v.line .writeback [] else m
          | _, _ => m
        m1.addOutst s L .fill [x]

/-- STREAMING_ACCESS (R270): performed in a resident line, or at the backing memory without allocation. -/
def Mach.streaming (m : Mach) (n : Nat) (x : Access) : Mach :=
  match m.accessDeny n x with
  | some d => (m.refuse n x.addr d).answerRefused x
  | none => if m.holds x then m.holdAccess x else m.doAccess x

/-- The outstanding operation of a kind on a line. -/
def Mach.outstOf (m : Mach) (s L : Nat) (k : OutKind) : Option Outst := (m.stk s).cache.outst.find? (fun o => o.line = L && o.kind = k)

/-- An outstanding operation ends. -/
def Mach.dropOutst (m : Mach) (s L : Nat) (k : OutKind) : Mach :=
  m.updCache s (fun c => { c with outst := c.outst.filter (fun o => !(o.line = L && o.kind = k)) })

/-- LINE_FILL_DONE (R270): the line lies in its set and the accesses held are performed in arrival order, the first of which is the miss, counted here
(R275); it waits while no way frees (R272, R396). -/
def Mach.fillDone (m : Mach) (n s L : Nat) : Mach :=
  match m.outstOf s L .fill with
  | none => m
  | some o =>
    if (m.stk s).cache.change.isSome ∨ ((m.cline s L).isNone && m.noWay s L) then m
    else
      let m1 := m.dropOutst s L .fill
      let m2 := if (m1.cline s L).isSome then m1 else (m1.countLookup s L false).fill s L
      let first := (o.held.take 1).map (fun x => { x with alloc := false })
      if (m2.cline s L).isSome then m2.runHeld n (first ++ o.held.drop 1) else m

/-- WRITEBACK_DONE (R272): the line has been written back and leaves its way, unless it is pinned; accesses held are performed. -/
def Mach.writebackDone (m : Mach) (n s L : Nat) : Mach :=
  match m.outstOf s L .writeback with
  | none => m
  | some o =>
    let m1 := m.dropOutst s L .writeback
    let m2 :=
      match m1.cline s L with
      | none => m1
      | some c =>
        let w := m1.writeback s c
        match w.cline s L with
        | some c' => if c'.held || c'.pinned then w else w.dropLine s L
        | none => w
    m2.runHeld n o.held

/-! ## Dead lines (R276, R279) -/

/-- The entries of a half's dead table. -/
def Mach.deadCount (m : Mach) (s h : Nat) : Nat := ((m.stk s).cache.dead.filter (fun L => (m.home s L).half = h)).length

/-- The home holds a declaration for line L: the partitions change, an operation on the line is outstanding (R270, R281), or its row is under test
(R320). -/
def Mach.deadHeld (m : Mach) (s L : Nat) : Bool :=
  (m.stk s).cache.change.isSome || m.lineBusy s L ||
    (match m.cline s L with | some c => m.rowTesting (cellAddr s (m.home s L) c.way) | none => false)

/-- DEAD_DECLARATION at the home of the line at address a (R276, R279): an allocating access (R270), which a line that has an entry does not see. A
pinned line keeps its way. -/
def Mach.declareDead (m : Mach) (a : Nat) : Mach :=
  let s := daStack a
  let L := daOff a / 128
  let h := (m.home s L).half
  if daRegion a ≠ 4 then m
  else if !m.planOn s then m.dropTraffic s
  else
    let m1 := (m.countAccess s L true).bumpF s Reg.CDIE_DEAD_STATUS_DECLARED h
    if m.isDead s L then m
    else if m1.deadCount s h ≥ 32768 then
      (((m1.setF s Reg.CDIE_DEAD_STATUS_FULL 1 h).srcEdge s (10 + h)).logError s 0x0025 2 h a).endPlan s 0x0025
    else
      let m2 :=
        match m1.cline s L with
        | some c => if c.pinned then m1.updLine s L (fun c => { c with dirty := false, held := false }) else m1.dropLine s L
        | none => m1
      let m3 := (m2.updCache s (fun k => { k with dead := k.dead ++ [L] })).syncPoisonDir s
      m3.setF s Reg.CDIE_DEAD_STATUS_ENTRIES (m3.deadCount s h) h

/-! ## The thrash monitor (R275) -/

/-- A half's window closes. -/
def Mach.closeWindow (m : Mach) (s h : Nat) : Mach :=
  let look := (m.stk s).cache.winLook.get 0 h
  let hits := (m.stk s).cache.winHits.get 0 h
  let m1 := m.updCache s (fun k => { k with winLook := k.winLook.modify (fun _ => 0) h, winHits := k.winHits.modify (fun _ => 0) h })
  if look < m.getF s Reg.CDIE_THRASH_CFG_MIN_LOOKUPS h ∨ m.getF s Reg.CDIE_THRASH_CFG_RUN_LEN h = 0 then m1
  else
    let low := decide (hits * 256 < m.getF s Reg.CDIE_THRASH_CFG_THRESHOLD h * look)
    let run := if low then m.getF s Reg.CDIE_THRASH_STATUS_RUN h + 1 else 0
    let m2 := m1.setF s Reg.CDIE_THRASH_STATUS_LAST_RATIO (if look = 0 then 0 else min 255 (256 * hits / look)) h
    if run ≥ m.getF s Reg.CDIE_THRASH_CFG_RUN_LEN h then
      let m3 := (m2.setF s Reg.CDIE_THRASH_STATUS_RUN 0 h).setF s Reg.CDIE_THRASH_STATUS_THRASH 1 h
      ((m3.bumpF s Reg.CDIE_THRASH_STATUS_EVENTS h).srcEdge s (10 + h)).event s 0x0006 [h]
    else m2.setF s Reg.CDIE_THRASH_STATUS_RUN run h

/-! ## Shelves (R273, R274) -/

/-- The line numbers of a shelf. -/
def Shelf.lineList (k : Shelf) : List Nat := (List.range (k.len / 128)).map (fun i => k.start / 128 + i)

/-- The lines of all shelves. -/
def Mach.pinnedLines (m : Mach) (s : Nat) : List Nat := (m.stk s).cache.shelves.flatMap Shelf.lineList

/-- PINNED_LINES kept in step. -/
def Mach.syncPinned (m : Mach) (s : Nat) : Mach :=
  m.onStacks 2 (fun m h => m.setF s Reg.CDIE_PART_STATUS_PINNED_LINES
    (((m.stk s).cache.lines.filter (fun c => c.pinned && (m.home s c.line).half = h)).length) h)

/-- Under cache counts cw and ce, no set holds more than 12 of the given lines (R273, R281). -/
def setsHold (cw ce : Nat) (l : List Nat) : Bool :=
  l.all (fun L => decide ((l.filter (fun K => (homeOf cw ce K).bay = (homeOf cw ce L).bay && (homeOf cw ce K).set = (homeOf cw ce L).set)).length ≤ 12))

/-- A line of a shelf loaded and pinned; a dead line only takes its way; one with an outstanding operation waits (Table CD-4). -/
def Mach.pinLine (m : Mach) (s L : Nat) : Mach :=
  if m.lineBusy s L then m
  else
  match m.cline s L with
  | some _ => m.updLine s L (fun c => { c with pinned := true })
  | none => m.install s L (if m.isDead s L then (List.range 128).map (fun _ => ⟨0, 0⟩) else m.backing s L) false true

/-- Every line of a range is resident and pinned. -/
def Mach.allPinned (m : Mach) (s : Nat) (l : List Nat) : Bool :=
  l.all (fun L => match m.cline s L with | some c => c.pinned | none => false)

/-- SHELF_PIN_DONE (R273): the last line is resident; the SHELF_PIN command completes. -/
def Mach.shelfPinDone (m : Mach) (s id : Nat) : Mach :=
  match (m.stk s).cache.shelves.find? (fun k => k.id = id) with
  | none => m
  | some k =>
    if !(m.stk s).cache.pinning.contains id ∨ (m.stk s).cache.change.isSome then m
    else
      let m1 := (k.lineList.foldl (fun m L => m.pinLine s L) m).syncPinned s
      if m1.allPinned s k.lineList then
        (m1.updCache s (fun c => { c with pinning := c.pinning.filter (· ≠ id) })).completeDeferred 0x0401
          (fun r => r.stack = s && fieldAt r.payload 0 1 = id) 0
      else m1

/-! ## Changing partitions (R281) -/

/-- Whether n bytes at an offset of region 0x0 lie in placed memory under cache counts cw and ce, slice by slice. -/
def placedRange (cw ce base n : Nat) : Bool :=
  n = 0 || (List.range ((base + n - 1) / 0x2_0000 + 1 - base / 0x2_0000)).all (fun i => sliceKind cw ce ((base / 0x2_0000 + i) * 0x2_0000) = .placed)

/-- Every configured KV pool lies in placed memory under cache counts cw and ce. -/
def Mach.poolsPlaced (m : Mach) (s cw ce : Nat) : Bool :=
  (List.range 2).all (fun c => m.frames s c = 0 ||
    placedRange cw ce (daOff (m.frameAddr s c 0)) (poolBytes (m.frames s c) (m.mapBlocks s c) (m.getF s Reg.CAB_POOL_CFG_INTAKE c)))

/-- Whether new cache counts are accepted (R281). -/
def Mach.partOk (m : Mach) (s cw ce : Nat) : Bool :=
  !m.planOn s && !m.getB s Reg.CDIE_PART_STATUS_BUSY 0 && !m.getB s Reg.CDIE_PART_STATUS_BUSY 1 && decide (1 ≤ cw) && decide (cw ≤ 8) &&
    decide (1 ≤ ce) && decide (ce ≤ 8) && m.poolsPlaced s cw ce && setsHold cw ce (m.pinnedLines s)

/-- An accepted change begins: both halves are BUSY and accesses to region 0x4 are held (R281). -/
def Mach.partStart (m : Mach) (s cw ce : Nat) : Mach :=
  let m1 := (m.setF s Reg.CDIE_PART_CFG_CACHE cw 0).setF s Reg.CDIE_PART_CFG_CACHE ce 1
  ((m1.setF s Reg.CDIE_PART_STATUS_BUSY 1 0).setF s Reg.CDIE_PART_STATUS_BUSY 1 1).updCache s (fun k => { k with change := some (cw, ce) })

/-- Every dirty line written back (R272). -/
def Mach.writebackAll (m : Mach) (s : Nat) : Mach := (m.stk s).cache.lines.foldl (fun m c => m.writeback s c) m

/-- The two ways that a failed row (bay, slice, row) takes from its set when it lies in the cache partition under cache counts cw and ce (R333). -/
def waysOf (cw ce : Nat) (r : Nat × Nat × Nat) : List (Nat × Nat × Nat) :=
  let off := r.1 * 0x20_0000 + r.2.1 * 0x2_0000 + r.2.2 * 256
  if sliceKind cw ce off = .cacheSlice then
    let set := (off % 0x20_0000 - 0x8_0000) / 0x800
    let w := off % 0x800 / 128
    [(r.1, set, w), (r.1, set, w + 1)]
  else []

/-- The ways that the failed rows of stack s take from the cache partition, kept in step with its geometry (R333). -/
def Mach.syncLost (m : Mach) (s : Nat) : Mach :=
  m.updCache s (fun k => { k with lostWays := (m.stk s).integ.failed.flatMap (waysOf (m.cacheCount s 0) (m.cacheCount s 1)) })

/-- The geometry of a half applied: a failed row that changes partition is handled by its new one (R333). -/
def Mach.setGeometry (m : Mach) (s h c : Nat) : Mach :=
  Mach.syncLost (s := s) <|
  let m1 := (m.setF s Reg.CDIE_PART_STATUS_CACHE_NOW c h).setF s Reg.CDIE_PART_STATUS_CACHE_BAYS (26 * c) h
  m1.setF s Reg.CDIE_PART_STATUS_FIRST_CACHE_BAY (rankBay h (26 * (16 - c))) h

/-- PARTITION_CHANGE_DONE (R281): steps 2 to 6; a dirty line that the full poison directory holds keeps the change waiting (R396). -/
def Mach.partDone (m : Mach) (n s : Nat) : Mach :=
  match (m.stk s).cache.change with
  | none => m
  | some (cw, ce) =>
    let m1 := m.writebackAll s
    if (m1.stk s).cache.lines.any (·.dirty) then m1
    else
      let waiting := (m1.stk s).cache.outst.flatMap (·.held)
      let all := (m1.stk s).cache.heldAll
      let m2 := m1.updCache s (fun k => { k with lines := [], dead := [], outst := [], change := none, heldAll := [] })
      let m3 := ((m2.setF s Reg.CDIE_DEAD_STATUS_ENTRIES 0 0).setF s Reg.CDIE_DEAD_STATUS_ENTRIES 0 1).syncPoisonDir s
      let m4 := (((m3.setGeometry s 0 cw).setGeometry s 1 ce).bureauChange m3 s Reg.CDIE_PART_STATUS_fields 0).bureauChange m3 s Reg.CDIE_PART_STATUS_fields 1
      let m5 := ((m4.pinnedLines s).foldl (fun m L => m.pinLine s L) m4).syncPinned s
      let m6 := (m5.setF s Reg.CDIE_PART_STATUS_BUSY 0 0).setF s Reg.CDIE_PART_STATUS_BUSY 0 1
      ((((m6.srcEdge s 10).srcEdge s 11).runHeld n (waiting ++ all)).bar4Drain n).completeDeferred 0x0403 (fun r => r.stack = s) 0

/-! ## Commands -/

/-- ACCESS_AT_HOME (R104): a pending store of a core, or a request of any unit. -/
def execAccessAtHome (a : HomeReq) (s : State) : Out :=
  match a with
  | .store k c i => onStack s k (fun _ m => m.storeHome k c i)
  | .access x => onMach s (fun fu m => m.accessHome fu.part.stackCount (accessOf x true))

/-- ALLOCATING_ACCESS (R270). -/
def execAllocatingAccess (a : MemAcc) (s : State) : Out := onMach s (fun fu m => m.allocating fu.part.stackCount (accessOf a true))

/-- STREAMING_ACCESS (R270). -/
def execStreamingAccess (a : MemAcc) (s : State) : Out := onMach s (fun fu m => m.streaming fu.part.stackCount (accessOf a false))

/-- LINE_FILL_DONE (R270). -/
def execLineFillDone (a : LineAt) (s : State) : Out := onStack s a.stack (fun fu m => let n := fu.part.stackCount
  (m.fillDone n a.stack a.line.toNat).bar4Drain n)

/-- WRITEBACK_DONE (R272). -/
def execWritebackDone (a : LineAt) (s : State) : Out := onStack s a.stack (fun fu m => let n := fu.part.stackCount
  (m.writebackDone n a.stack a.line.toNat).bar4Drain n)

/-- DEAD_DECLARATION (R276). -/
def execDeadDeclaration (a : LineAt) (s : State) : Out :=
  onStack s a.stack (fun _ m =>
    let d := devAddr a.stack 4 (a.line.toNat * 128)
    if m.deadHeld a.stack a.line.toNat then m else (m.receive (.dead d)).declareDead d)

/-- THRASH_WINDOW (R275): the window closes in both halves. -/
def execThrashWindow (a : AtStack) (s : State) : Out := onStack s a.stack (fun _ m => (m.closeWindow a.stack 0).closeWindow a.stack 1)

/-- PARTITION_CHANGE_DONE (R281). -/
def execPartitionChangeDone (a : AtStack) (s : State) : Out := onStack s a.stack (fun fu m => m.partDone fu.part.stackCount a.stack)

/-- SHELF_PIN_DONE (R273). -/
def execShelfPinDone (a : AtShelf) (s : State) : Out := onStack s a.stack (fun _ m => m.shelfPinDone a.stack a.shelf)

end Sys2Proof.Machine
end

