-- ==== Sys2Proof/Machine/Skip.lean ====
section
/-! DEFINITION. The outcome of a Skipper test: its record, its history (spec/11_integrity.md, R321, R322; BUR_SKIPPER_LAST). -/

namespace Sys2Proof.Machine

/-- 3,600 s of device timestamp, in ns (R322). -/
def historySpan : Nat := 3600 * 10 ^ 9

/-- An outcome READ_PATH or STORED_UPSET of a structure kept for R322; the flag says that it is the fourth within 3,600 s. -/
def Mach.keepOutcome (m : Mach) (s kind index : Nat) : Mach × Bool :=
  let t := m.now s
  let m1 := m.updInteg s (fun g => { g with
    history := g.history.filter (fun h => decide (t < h.time + historySpan)) ++ [⟨kind, index, t⟩] })
  (m1, decide (4 ≤ ((m1.stk s).integ.history.filter (fun h => h.kind = kind && h.index = index)).length))

/-- A test ends: BUR_SKIPPER_LAST, the counts and the log. Outcomes: 1 READ_PATH, 2 STORED_UPSET, 3 LASTING with spare, 4 with
retirement, 5 with no spare; a lasting one clears the history of its structure (R322). -/
def Mach.testEnded (m : Mach) (s kind index outcome dur : Nat) : Mach :=
  let a := (m.setF s Reg.BUR_SKIPPER_LAST_KIND kind).setF s Reg.BUR_SKIPPER_LAST_INDEX index
  let b := (a.setF s Reg.BUR_SKIPPER_LAST_OUTCOME outcome).setF s Reg.BUR_SKIPPER_LAST_DURATION dur
  let c := (b.setF s Reg.BUR_SKIPPER_LAST_VALID 1).bumpF s Reg.BUR_SKIPPER_STATUS_TESTS
  let d := c.logError s 0x0105 0 0 0 [kind, index, outcome]
  if outcome < 3 then d
  else
    (d.bumpF s Reg.BUR_RECOVERY_COUNT_LASTING).updInteg s (fun g => { g with
      history := g.history.filter (fun h => !(h.kind = kind && h.index = index)) })

end Sys2Proof.Machine
end

