-- ==== Sys2Proof/Machine/Links.lean ====
section
/-! DEFINITION. Device links and bridge links: training, lanes, failover, flits that arrive and what they carry, pattern tests and margin
scans (spec/12_device_links.md, R335 to R364). -/

namespace Sys2Proof.Machine

/-! ## States, spares and scans -/

/-- The interrupt source of device link n. -/
def linkSource (n : Nat) : Nat := 80 + n

/-- A CONTROL flit (Table LK-5). -/
def controlFlit (kind arg : Nat) : OutFlit :=
  ⟨noRoute, { typ := 9, first := true, last := true, len := 16, payload := leBytes 1 kind ++ leBytes 7 0 ++ leBytes 8 arg }, none⟩

/-- The PLAN_ID of the route table announced on link n (R352). -/
def Mach.announce (m : Mach) (s n : Nat) : Mach :=
  match (m.stk s).link.tablePlan with
  | some p => m.linkPush s n [controlFlit 1 p]
  | none => m

/-- Link n enters UP: the plan is announced, flits that waited are sent, routes over it may be used again (R340, R352). -/
def Mach.linkUpNow (m : Mach) (s n : Nat) : Mach :=
  let m1 := (m.setF s Reg.LNK_STATUS_STATE 2 n).updLnk s n (fun l => { l with fails := 0, replays := 0, asked := false, testLane := none })
  let m2 := m1.updLinks s (fun k => { k with failed := k.failed.filter (fun r =>
    m.getF s Reg.LNK_ROUTE_HOP r ≠ n && m.getF s Reg.LNK_ROUTE_ALT r ≠ n) })
  (m2.announce s n).pump s n

/-- The pattern unit of link n is free again (Table EV-5). -/
def Mach.patRelease (m : Mach) (s n : Nat) : Mach := (m.release s n).setF s Reg.LNK_PAT_CFG_OWNER 0 n

/-- A deferred command of an opcode that names link n of stack s. -/
def onLink (s n : Nat) (r : MbxReq) : Bool := r.stack = s && fieldAt r.payload 0 1 = n

/-- The margin scan of link n ends with ABORTED (R359, Table EV-8). -/
def Mach.scanAbort (m : Mach) (s n : Nat) : Mach :=
  match (m.lnk s n).scan with
  | none => m
  | some lane =>
    let a := (m.updLnk s n (fun l => { l with scan := none })).patRelease s n
    let b := if lane = 8 then a.release s (24 + n) else a
    let c := (b.setF s Reg.LNK_MARGIN_DONE 1 n).setF s Reg.LNK_MARGIN_ABORTED 1 n
    (c.completeDeferred 0x0902 (onLink s n) 0x0048).srcEdge s (linkSource n)

/-- Bit errors of lanes 0 to 8 as the registers count them. -/
def Mach.bitErrors (m : Mach) (s n : Nat) : List Byte :=
  (List.range 9).flatMap (fun k => leBytes 4 (m.getF s Reg.LNK_LANE_ERR_BIT_ERRORS (n * 9 + k)))

/-- The pattern test of link n is preempted: generator and checker stop, the pattern unit and the spare lane are free again, LINK_TEST completes ABORTED
with the counts reached (Tables EV-5, EV-8). -/
def Mach.patAbort (m : Mach) (s n : Nat) : Mach :=
  let a := (m.setF s Reg.LNK_PAT_CFG_GEN 0 n).setF s Reg.LNK_PAT_CFG_CHECK 0 n
  let b := if bit (m.getF s Reg.LNK_PAT_CFG_LANES n) 8 then (a.patRelease s n).release s (24 + n) else a.patRelease s n
  b.completeDeferred 0x0901 (onLink s n) 0x0048 (m.bitErrors s n)

/-- Any test use of lane 8 of link n ends: a lane test or a lane that needs the spare preempts it (R359). -/
def Mach.preemptSpare (m : Mach) (s n : Nat) : Mach :=
  let a := if (m.lnk s n).scan = some 8 then m.scanAbort s n else m
  if bit (a.getF s Reg.LNK_PAT_CFG_LANES n) 8 ∧ a.getB s Reg.LNK_PAT_CFG_CHECK n then a.patAbort s n else a

/-- Data lane k takes the spare (R347, R348): none when the spare is in use, SPARE_EN is 0. A test on lane 8 ends (R359). -/
def Mach.takeSpare (m : Mach) (s n k : Nat) : Option Mach :=
  if !m.getB s Reg.LNK_CTRL_SPARE_EN n ∨ m.getF s Reg.LNK_STATUS_SPARE_FOR n ≠ 15 ∨ k ≥ 8 then none
  else
    let c := ((m.preemptSpare s n).claim s (24 + n) 2 1).setF s Reg.LNK_STATUS_SPARE_FOR k n
    some (c.bureauChange m s Reg.LNK_STATUS_fields n)

/-- The spare is free again (R348). -/
def Mach.dropSpare (m : Mach) (s n : Nat) : Mach := (m.setF s Reg.LNK_STATUS_SPARE_FOR 15 n).release s (24 + n)

/-- Lane qualification (Table LK-2 steps 5 and 6): the lanes that failed under the present spare map; none when the link cannot reach UP. -/
def Mach.qualify (m : Mach) (s n : Nat) (failed : List Nat) : Option Mach :=
  let spare := m.getF s Reg.LNK_STATUS_SPARE_FOR n
  let bad := (List.range 8).filter (fun k => if k = spare then failed.contains 8 else failed.contains k)
  match bad with
  | [] => some m
  | [k] => if failed.contains 8 then none else m.takeSpare s n k
  | _ => none

/-! ## Failover (R354, R355) -/

/-- Route r moves from link n to link d: its unacknowledged flits, oldest first, then those that wait. A data flit whose POISON flit alone has been
acknowledged is sent after it again (R344). -/
def Mach.moveRoute (m : Mach) (s r n d : Nat) (alt : Bool) : Mach :=
  let l := m.lnk s n
  let fs := (SMap.find l.marks r).toList ++ ((l.unacked.map (·.2)) ++ l.queue).filter (fun f => f.src = r)
  let m1 := m.updLnk s n (fun l => { l with
    queue := l.queue.filter (fun f => f.src ≠ r), marks := SMap.erase l.marks r, opened := if (l.opened.map (·.1)) = some r then none else l.opened })
  let m2 := m1.updLinks s (fun k => { k with onAlt := if alt then k.onAlt ++ [r] else k.onAlt.filter (· ≠ r) })
  m2.linkPush s d fs

/-- LINK poison written over n bytes from a (R355). -/
def Mach.linkPoison (m : Mach) (a n : Nat) : Mach := m.performWrite false a ((List.range n).map (fun _ => ⟨0, 3⟩))

/-- Route r of the table has failed (R355): outstanding reads complete with LINK poison, the Bureau logs it and ends the plan. -/
def Mach.routeFail (m : Mach) (s r n : Nat) : Mach :=
  let lost := (m.stk s).link.xfers.filter (fun x => x.route = r && x.read)
  let m1 := lost.foldl (fun m x => m.linkPoison (x.dst + (x.len - x.left)) x.left) m
  let m2 := m1.updLinks s (fun k => { k with
    failed := k.failed ++ [r]
    xfers := (k.xfers.filter (fun x => !(x.route = r && (x.read || x.owner = .push)))).map (fun x =>
      if x.route = r then { x with failed := true } else x) })
  ((m2.bumpF s Reg.LNK_ROUTE_STATUS_FAILED_ROUTES).logError s 0x0047 3 n r).endPlan s 0x0047

/-- One route of the table after link n has gone down. -/
def Mach.failoverRoute (m : Mach) (s n r : Nat) : Mach :=
  let hop := m.getF s Reg.LNK_ROUTE_HOP r
  let alt := m.getF s Reg.LNK_ROUTE_ALT r
  let on := (m.stk s).link.onAlt.contains r
  if !m.getB s Reg.LNK_ROUTE_VALID r ∨ hop = 0x1F ∨ (m.stk s).link.failed.contains r then m
  else if on then
    if alt ≠ n then m
    else if hop < 24 && m.linkUp s hop then m.moveRoute s r n hop false else m.routeFail s r n
  else if hop ≠ n then m
  else if alt < 24 && m.linkUp s alt then m.moveRoute s r n alt true else m.routeFail s r n

/-- A link carries flits, or will when its training or retraining ends: UP, TRAINING or RETRAINING. -/
def Mach.linkGoes (m : Mach) (s n : Nat) : Bool :=
  decide (n < 24) && (m.linkUp s n || m.getF s Reg.LNK_STATUS_STATE n = 1 || m.getF s Reg.LNK_STATUS_STATE n = 3)

/-- A route of a table that has just been loaded uses ALT when its HOP is down and ALT is UP (R354). -/
def Mach.chooseHop (m : Mach) (s r : Nat) : Mach :=
  let hop := m.getF s Reg.LNK_ROUTE_HOP r
  let alt := m.getF s Reg.LNK_ROUTE_ALT r
  if m.getB s Reg.LNK_ROUTE_VALID r && hop ≠ 0x1F && !m.linkGoes s hop && decide (alt < 24) && m.linkUp s alt then m.moveRoute s r hop alt true else m

/-- A route that a plan uses and that has neither link left has failed (R355). -/
def Mach.checkRoute (m : Mach) (s r : Nat) : Mach :=
  let hop := m.getF s Reg.LNK_ROUTE_HOP r
  if r < 16384 ∧ m.getB s Reg.LNK_ROUTE_VALID r ∧ hop ≠ 0x1F ∧ !m.linkGoes s hop ∧ !m.linkGoes s (m.getF s Reg.LNK_ROUTE_ALT r) then m.routeFail s r hop else m

/-- One transfer that link n brought, and that link n or another that is down brings no more: when its route has failed it takes LINK poison over the
granules received, and is dropped (R355). Whether its sender still has a link for the route this part does not see: while any link of the stack is up,
it is a free value (log entry 121). -/
def Mach.poisonOne (m : Mach) (s : Nat) (x : OpenXfer) : Mach :=
  if m.linkGoes s x.link then m
  else
    let f := m.fresh 1
    let gone := !(List.range 24).any (m.linkGoes s) || decide (f.1 = 1)
    if gone then (f.2.linkPoison x.addr ((x.got + 7) / 8 * 8)).updLinks s (fun k => { k with openX := k.openX.filter (· ≠ x) }) else f.2

/-- The transfers that a link which has gone down leaves open. -/
def Mach.poisonOpen (m : Mach) (s : Nat) : Mach := (m.stk s).link.openX.foldl (fun m x => m.poisonOne s x) m

/-- Link n has entered FAILED or PEER_LOST: its routes move or fail (R354, R355). -/
def Mach.failover (m : Mach) (s n : Nat) : Mach :=
  ((List.range 16384).foldl (fun m r => m.failoverRoute s n r) m).poisonOpen s

/-- What twin link n still has to bring to the twin, beside announcements, goes over the other twin link when that is UP (R368): the records, heartbeats
and control flits not acknowledged, oldest first. -/
def Mach.twinMoves (m : Mach) (s n : Nat) : Mach :=
  match (m.twinLinks s).filter (· ≠ n) with
  | [d] =>
    if m.twinState s = 0 ∨ !m.linkUp s d then m
    else
      let mine (f : OutFlit) : Bool := f.src = noRoute && !(f.flit.typ = 9 && fieldAt f.flit.payload 0 1 = 1)
      let l := m.lnk s n
      (m.updLnk s n (fun l => { l with queue := l.queue.filter (fun f => !mine f) })).linkPush s d
        (((l.unacked.map (·.2)) ++ l.queue).filter mine)
  | _ => m

/-- Link n leaves UP for state st: DOWN_EVENT, its source, LINK_DOWN, and for FAILED and PEER_LOST the failover. -/
def Mach.linkDown (m : Mach) (s n st : Nat) : Mach :=
  let a := (m.setF s Reg.LNK_STATUS_STATE st n).setF s Reg.LNK_STATUS_DOWN_EVENT 1 n
  let b := ((a.srcEdge s (linkSource n)).event s 0x000E [n, st]).twinMoves s n
  if st = 3 then b else b.failover s n

/-- A lane of link n is to be tested in the retrain under way (R347); it preempts test uses of the spare (R359). -/
def Mach.testInRetrain (m : Mach) (s n : Nat) (lane : Option Nat) : Mach :=
  match lane with
  | some k => (m.preemptSpare s n).updLnk s n (fun l => { l with testLane := some k })
  | none => m

/-- A retrain of link n starts (R340); a lane is tested in it when one is named (R347). A window that a CRC failure opened stays open: its lanes are still
to be judged. -/
def Mach.retrain (m : Mach) (s n : Nat) (asked : Bool) (lane : Option Nat) : Mach :=
  let a := (m.linkDown s n 3).updLnk s n (fun l => { l with asked := asked, testLane := none, replays := 0, fails := 0 })
  ((a.bumpF s Reg.LNK_STATUS_RETRAINS n).bureauChange m s Reg.LNK_STATUS_fields n).testInRetrain s n lane

/-! ## Training (R338 to R340) -/

/-- Step 7 of Table LK-2 and what follows it: the peer's identity, SDID_CLASH or UP. -/
def Mach.peerKnown (m : Mach) (s n : Nat) (a : TrainResult) : Mach :=
  let d := a.sdid.toNat
  let b := ((m.setF s Reg.LNK_PEER_SDID d n).setF s Reg.LNK_PEER_STACK a.peerStack n).setF s Reg.LNK_PEER_LINK a.peerLink n
  let c := b.setF s Reg.LNK_PEER_SERIAL_LO a.serial.toNat n
  if d = m.sdid s ∧ d ≠ 0xFFFF then
    ((c.setF s Reg.LNK_STATUS_STATE 1 n).setF s Reg.LNK_STATUS_SDID_CLASH 1 n).srcEdge s (linkSource n)
  else (c.setF s Reg.LNK_STATUS_SDID_CLASH 0 n).linkUpNow s n

/-- An attempt that failed: the third in a row leads to FAILED. -/
def Mach.attemptFailed (m : Mach) (s n : Nat) : Mach :=
  let f := (m.lnk s n).fails + 1
  if f ≥ 3 then (m.updLnk s n (fun l => { l with fails := 0 })).linkDown s n 5 else m.updLnk s n (fun l => { l with fails := f })

/-- The Skipper outcome of the lane that a retrain tested (R322, R347): of some duration. -/
def Mach.laneOutcome (m : Mach) (s n lane outcome : Nat) : Mach :=
  let f := m.fresh 16
  f.2.testEnded s 0xB (n * 9 + lane) outcome f.1

/-- A lane that passed its test: transient, or lasting at the fourth such outcome (R322), when it takes the spare or the link fails. -/
def Mach.lanePassed (m : Mach) (s n k : Nat) : Option Mach :=
  let h := m.keepOutcome s 0xB (n * 9 + k)
  if !h.2 then some (h.1.laneOutcome s n k 1) else (h.1.takeSpare s n k).map (fun m => m.laneOutcome s n k 3)

/-- An attempt to train or retrain device link n has ended. -/
def Mach.trainDone (m : Mach) (s n : Nat) (a : TrainResult) : Mach :=
  let failed := a.failed.map (·.val)
  let l := m.lnk s n
  let k := m.getF s Reg.LNK_STATUS_SPARE_FOR n
  let m0 := if l.asked ∧ k ≠ 15 ∧ a.ok ∧ !failed.contains k then m.dropSpare s n else m
  let lost (m : Mach) : Mach := ((match l.testLane with | some t => m.laneOutcome s n t 5 | none => m).linkDown s n 5)
  if !a.ok then m.attemptFailed s n
  else
    match m0.qualify s n failed with
    | none => lost m0
    | some m1 =>
      match l.testLane with
      | none => m1.peerKnown s n a
      | some t =>
        if failed.contains t then (m1.laneOutcome s n t 3).peerKnown s n a
        else
          match m1.lanePassed s n t with
          | some m2 => m2.peerKnown s n a
          | none => lost m1

/-! ## Bridge links (R362 to R364) -/

/-- The bridge links of a stack that are not held in reset: both ports of a Q part, BP0 of a D part. -/
def bridgePresent (p : Part) (b : Nat) : Bool :=
  match p with
  | .S => false
  | .D => b < 4
  | .Q => b < 8

/-- A state change of bridge link b, with its source. All four of a port failed: every route across the port has failed (R364). -/
def Mach.bridgeState (m : Mach) (s b st : Nat) : Mach :=
  let a := (m.setF s Reg.LNK_BRIDGE_STATUS_STATE st b).srcEdge s (104 + b)
  if st = 5 ∧ (List.range 4).all (fun i => a.getF s Reg.LNK_BRIDGE_STATUS_STATE (b / 4 * 4 + i) = 5) then
    (a.logError s 0x0047 3 (24 + b) 0).endPlan s 0x0047
  else a

/-- An attempt to train bridge link b has ended: a second failed lane, after its spare, fails the link (R364). -/
def Mach.bridgeTrained (m : Mach) (s b : Nat) (a : TrainResult) : Mach :=
  let failed := a.failed.map (·.val)
  let spare := m.getF s Reg.LNK_BRIDGE_STATUS_SPARE_FOR b
  let bad := (List.range 16).filter (fun k => if k = spare then failed.contains 16 else failed.contains k)
  if !a.ok ∨ bad.length > 1 then m.bridgeState s b 5
  else
    match bad with
    | [] => m.bridgeState s b 2
    | k :: _ =>
      if spare ≠ 31 ∨ failed.contains 16 then m.bridgeState s b 5
      else (((m.claim s (48 + b) 2 1).setF s Reg.LNK_BRIDGE_STATUS_SPARE_FOR k b).bureauChange m s Reg.LNK_BRIDGE_STATUS_fields b).bridgeState s b 2

/-! ## Flits: sequence, replay (R345, R346) -/

/-- The acknowledgement that a flit carries, and a request for replay: the sender's buffer, REPLAYS, the replay limit. -/
def Mach.acked (m : Mach) (s n ack : Nat) (nak : Bool) : Mach :=
  match (m.lnk s n).unacked with
  | [] => m
  | (q, _) :: _ =>
    let u := (m.lnk s n).unacked
    let d := (ack + 1 + 4096 - q) % 4096
    let k := if d ≤ u.length then d else 0
    let kept (t : SMap OutFlit) (e : Nat × OutFlit) : SMap OutFlit := if e.2.flit.typ = 6 then SMap.put t e.2.src e.2 else SMap.erase t e.2.src
    let m1 := m.updLnk s n (fun l => { l with unacked := u.drop k, marks := (u.take k).foldl kept l.marks, replays := if k > 0 then 0 else l.replays })
    if nak ∧ u.drop k ≠ [] then
      let m2 := (m1.bumpF s Reg.LNK_STATUS_REPLAYS n (u.drop k).length).updLnk s n (fun l => { l with replays := l.replays + 1 })
      if (m2.lnk s n).replays ≥ 8 then m2.retrain s n false none else m2.pump s n
    else m1.pump s n

/-- A flit arrives on a link that is UP: one that fails its CRC or is out of sequence is discarded and NAK is set; an accepted one does k,
or waits (none) until its homes can take it. -/
def Mach.flit (m : Mach) (h : FlitHead) (k : Mach → Option Mach) : Mach :=
  let s : Nat := h.stack
  let n : Nat := h.link
  if !m.linkUp s n then m
  else if !h.crcOk then m.updLnk s n (fun l => { l with nak := true, window := true })
  else
    let m1 := m.acked s n h.ack h.nak
    if h.seq.val ≠ (m.lnk s n).recvSeq then m1.updLnk s n (fun l => { l with nak := true })
    else
      match k (m1.updLnk s n (fun l => { l with recvSeq := (l.recvSeq + 1) % 4096, nak := false })) with
      | some m2 => m2
      | none => m

/-! ## Routes of received flits (R351, R352) -/

/-- Whether the last PLAN_ID announced on link n is that of the plan LOADED or RUNNING on the stack. -/
def Mach.announcedOk (m : Mach) (s n : Nat) : Bool :=
  m.planOn s && (m.lnk s n).announced = some (m.getF s Reg.BUR_PLAN_ID_PLAN_ID)

/-- Signals in the payload of a MESSAGE. -/
def messageSignals (bs : List Byte) : Nat :=
  ((List.range 16).filter (fun i => i * 16 < bs.length && (fieldAt bs (16 * i + 8) 1 = 2 || fieldAt bs (16 * i + 8) 1 = 3))).length

/-- A POISON mark is dropped with the flit that it was for (R344). -/
def Mach.dropMark (m : Mach) (s r : Nat) : Mach := m.updLinks s (fun k => { k with poison := k.poison.filter (fun p => p.label ≠ r) })

/-- A flit of a route: dropped when its plan is not the stack's own or its label is not VALID, delivered here by `local`, or forwarded. -/
def Mach.routed (m : Mach) (a : FlitIn) (typ : Nat) (guarded : Bool) (deliver : Mach → Option Mach) : Option Mach :=
  let s : Nat := a.head.stack
  let n : Nat := a.head.link
  let r : Nat := a.route
  if guarded ∧ !m.announcedOk s n then
    let k := if typ = 5 then messageSignals a.payload else 0
    some (((m.dropMark s r).bumpF s Reg.SYNC_DROPPED_DROPPED 0 k).logError s 0x0101 3 n 0)
  else if !m.getB s Reg.LNK_ROUTE_VALID r then some ((m.dropMark s r).bumpF s Reg.LNK_ROUTE_STATUS_UNROUTED)
  else if m.getF s Reg.LNK_ROUTE_HOP r = 0x1F then deliver m
  else
    some (m.routeSend s r [{ typ := typ, first := a.first, last := a.last, packed := a.packed, len := a.len, addr := a.addr.toNat,
                             payload := a.payload }] (some n))

/-- Flits sent on the return path of a LOCAL entry (R351): on the link of its ALT field, with its label. -/
def Mach.sendBack (m : Mach) (s r : Nat) (fs : List Flit) : Mach :=
  m.linkPush s (m.getF s Reg.LNK_ROUTE_ALT r) (fs.map (fun f => ⟨r, { f with route := m.getF s Reg.LNK_ROUTE_LABEL r }, none⟩))

/-! ## Data -/

/-- The source bytes of a flit: a PACKED flit holds a mask and the nonzero granules (R356). -/
def flitBytes (a : FlitIn) : List Byte :=
  if a.packed then
    let mask := fieldAt a.payload 0 8
    (List.range ((a.len.val + 7) / 8)).flatMap (fun g =>
      if bit mask g then leBytes 8 (fieldAt a.payload (8 + 8 * popCount mask g) 8) else leBytes 8 0)
  else (a.payload ++ leBytes 256 0).take a.len

/-- The bytes with the granules poisoned that the POISON flit before them marks (R344), and the machine without that mark. -/
def Mach.marked (m : Mach) (s r : Nat) (bs : List Byte) : Mach × List PByte :=
  match (m.stk s).link.poison.find? (fun p => p.label = r) with
  | none => (m, PByte.clean bs)
  | some p =>
    (m.dropMark s r,
     (bs.zipIdx).map (fun e => if bit p.map (e.2 / 8) then ⟨0, bits p.kinds (e.2 / 8 * 4) 4⟩ else ⟨e.1, 0⟩))

/-- Bytes from a link written at their homes, or refused and logged where a mover's write would be (R30, R112, R193). -/
def Mach.linkWrite (m : Mach) (stackSet a : Nat) (bs : List PByte) : Mach :=
  match m.writeDeny (.mover 63) (m.place stackSet a) a with
  | some d => m.refuse stackSet a d
  | none => m.performWrite false a bs

/-- WRITE at the stack where its route ends (R343): the bytes are written; the LAST flit of a transfer is acknowledged. -/
def Mach.writeFlit (m : Mach) (stackSet : Nat) (a : FlitIn) : Option Mach :=
  let s : Nat := a.head.stack
  let n : Nat := a.head.link
  let r : Nat := a.route
  let b := m.marked s r (flitBytes a)
  let ad := a.addr.toNat
  if b.1.accessHeld false ad b.2.length then none
  else
    let m1 := b.1.linkWrite stackSet ad b.2
    let x : OpenXfer :=
      match (m1.stk s).link.openX.find? (fun x => x.label = r) with
      | some x => if a.first then ⟨r, n, ad, b.2.length⟩ else { x with link := n, got := max x.got (ad + b.2.length - x.addr) }
      | none => ⟨r, n, ad, b.2.length⟩
    let rest := (m1.stk s).link.openX.filter (fun x => x.label ≠ r)
    if a.last then
      some ((m1.updLinks s (fun k => { k with openX := rest })).sendBack s r [{ typ := 2, first := true, last := true, addr := x.addr % 2 ^ 16 }])
    else some (m1.updLinks s (fun k => { k with openX := rest ++ [x] }))

/-- WRITE_ACK at the requester (R343): the oldest transfer with the tag is performed, one of a route over this link before others. -/
def Mach.writeAck (m : Mach) (s n tag : Nat) : Mach :=
  let is (x : Xfer) : Bool := !x.read && x.tag = tag
  match ((m.stk s).link.xfers.find? (fun x => is x && m.routeLink s x.route = n)).or ((m.stk s).link.xfers.find? is) with
  | some x => m.updLinks s (fun k => { k with xfers := k.xfers.erase x })
  | none => m

/-- READ_REQ at the stack where its route ends (R351): the bytes return in READ_RSP flits, converted before they leave as the CONVERT field of this entry
says, which is the source's (R83, Table LK-6; log entry 113). -/
def Mach.readReq (m : Mach) (stackSet : Nat) (a : FlitIn) : Option Mach :=
  let s : Nat := a.head.stack
  let r : Nat := a.route
  let src := fieldAt a.payload 0 8
  let len := fieldAt a.payload 8 4
  let tag := fieldAt a.payload 12 4
  if m.accessHeld false src len then none
  else
    let b : Mach × List PByte :=
      match readDeny (.mover 63) (m.place stackSet src) with
      | some d => (m.refuse stackSet src d).openBytes len
      | none => m.performRead false src len
    let bs := convertBytes (m.getF s Reg.LNK_ROUTE_CONVERT r) b.2
    some (b.1.sendBack s r (plainFlits (bs.length / 256 + 1) 4 (tag * 2 ^ 16) bs true true))

/-- READ_RSP at the requester: the data is written at the destination of the request, as far as it reaches. -/
def Mach.readRsp (m : Mach) (stackSet : Nat) (a : FlitIn) : Option Mach :=
  let s : Nat := a.head.stack
  let tag := a.addr.toNat / 2 ^ 16
  let off := a.addr.toNat % 2 ^ 16
  match (m.stk s).link.xfers.find? (fun x => x.read && x.tag = tag) with
  | none => some m
  | some x =>
    let b := m.marked s a.route (flitBytes a)
    let bs := b.2.take (x.len - off)
    if b.1.accessHeld false (x.dst + off) bs.length then none
    else
      let m1 := b.1.linkWrite stackSet (x.dst + off) bs
      let y := { x with left := x.left - bs.length }
      let upd (l : List Xfer) : List Xfer := if y.left = 0 then l.erase x else l.map (fun z => if z = x then y else z)
      some (m1.updLinks s (fun k => { k with xfers := upd k.xfers }))

/-! ## Messages (R342) -/

/-- The first route that the first of some tests finds. -/
def firstRoute (l : List Route) (qs : List (Route → Bool)) : Option Route := qs.findSome? (fun q => l.find? q)

/-- The stack and core that a token or credit word from SDID d is for. A word names no destination core, and no rule says how its core is found: the model
takes the route of the loaded plan over a link that has its channel, and its sender and BUFFER; else its BUFFER; else its sender, so that a word with one
wrong field reaches the channel that it faults (R58; DESIGN CHOICE, log entry 112). -/
def Mach.wordDest (m : Mach) (s d w : Nat) : Option (Nat × Nat) :=
  let src := bits w 4 10
  let st := bits w 14 2
  let ch := bits w 16 6
  let buf := bits w 42 14
  let okBuf (r : Route) : Bool := r.buffer = buf || buf = 0x3FFF
  let l := (m.plan s).routes.filter (fun r => decide (r.route < 16384))
  if bits w 0 4 = 2 then
    let from_ (r : Route) : Bool := r.dst = src && r.dstStack = st && m.consumerSdid r.srcStack r = d
    (firstRoute (l.filter (fun r => r.srcCh = ch && (m.stackOf r.srcSdid).isSome))
      [fun r => from_ r && okBuf r, fun r => r.buffer = buf, from_]).map (fun r => (r.srcStack, r.src))
  else
    let from_ (r : Route) : Bool := r.src = src && r.srcStack = st && r.srcSdid = d
    (firstRoute (l.filter (fun r => r.dstCh = ch && (m.stackOf r.srcSdid).isNone))
      [fun r => from_ r && okBuf r, fun r => r.buffer = buf, from_]).map (fun r => (r.dstStack, r.dst))

/-- One entry of a MESSAGE delivered: it carries the PLAN_ID that its link has announced (R51, R352), and crosses the bridges to another stack (R363). -/
def Mach.takeEntry (m : Mach) (k s n : Nat) (e : List Byte) : Mach :=
  let w := fieldAt e 0 8
  let d := fieldAt e 9 2
  let plan := (m.lnk s n).announced
  let signals (f : Nat) : Mach :=
    let t := (m.stackOf (handleSdid (bits w 0 32))).getD s
    if m.cut k s t then m
    else if plan = m.planTag t then m.takeSignals t (bits w 0 32) [(bits w 32 16, f)]
    else m.dropSignals t 1
  match fieldAt e 8 1 with
  | 1 =>
    match m.wordDest s d w with
    | some (t, L) => if m.cut k s t then m else m.takeWord plan t L d w
    | none => m.logError s 0x0100 3 n 0
  | 2 => signals 0
  | 3 => signals (bits w 48 16)
  | _ => m

/-- A token or credit of a MESSAGE waits, unacknowledged, for a write of the token and credit unit of its core (R289). -/
def Mach.messageHeld (m : Mach) (s : Nat) (bs : List Byte) : Bool :=
  (List.range (min 16 (bs.length / 16))).any (fun i =>
    let e := (bs.drop (16 * i)).take 16
    decide (fieldAt e 8 1 = 1) && match m.wordDest s (fieldAt e 9 2) (fieldAt e 0 8) with
      | some (t, L) => m.inboxHeld t L
      | none => false)

/-- MESSAGE at the stack where its route ends: its entries in order. -/
def Mach.takeMessage (m : Mach) (k s n : Nat) (bs : List Byte) : Mach :=
  (List.range (min 16 (bs.length / 16))).foldl (fun m i => m.takeEntry k s n ((bs.drop (16 * i)).take 16)) m

/-! ## Lane windows (R347) -/

/-- The lane with the highest count, the lowest of equals. -/
def worstLane (l : List Nat) : Nat := ((l.zipIdx).foldl (fun b e => if b.1 < e.1 then e else b) (l.headD 0, 0)).2

/-- LANE_WINDOW_END: the counters of the window; after a CRC failure the lanes are judged. A lane that must be tested is tested in a retrain: of its own,
or in the one that is under way (Table LK-7). -/
def Mach.laneWindow (m : Mach) (s n : Nat) (lanes : List Nat) (lost : Nat) : Mach :=
  let l := lanes.take 9
  let m1 := (l.zipIdx).foldl (fun m e => m.bumpF s Reg.LNK_LANE_ERR_FEC_SYMBOLS (n * 9 + e.2) e.1) m
  let m2 := (m1.bumpF s Reg.LNK_FEC_CORRECTED n (l.foldl (· + ·) 0)).bumpF s Reg.LNK_FEC_UNCORRECTABLE n lost
  if !(m.lnk s n).window then m2
  else
    let m3 := m2.updLnk s n (fun k => { k with window := false })
    let w := worstLane l
    let up := m.linkUp s n
    if l.all (fun c => c < m.getF s Reg.LNK_CTRL_LANE_LIMIT n) then
      let h := m3.keepOutcome s 0xB (n * 9 + w)
      if !h.2 then h.1.laneOutcome s n w 1
      else
        match h.1.takeSpare s n w with
        | some m4 => if up then (m4.laneOutcome s n w 3).retrain s n false none else m4.laneOutcome s n w 3
        | none => (h.1.laneOutcome s n w 5).linkDown s n 5
    else if up then m3.retrain s n false (some w) else m3.testInRetrain s n (some w)

/-! ## Commands -/

/-- LINK_TRAINING_DONE (R338, R362). -/
def execLinkTrainingDone (a : TrainResult) (s : State) : Out :=
  onStack s a.stack (fun fu m =>
    match a.link with
    | .device n => if m.getF a.stack Reg.LNK_STATUS_STATE n = 1 then m.trainDone a.stack n a else m
    | .bridge b => if bridgePresent fu.part b ∧ m.getF a.stack Reg.LNK_BRIDGE_STATUS_STATE b = 1 then m.bridgeTrained a.stack b a else m)

/-- PEER_SIGNAL_LOSS (R340, Table LK-3): a link in TRAINING, UP or RETRAINING sees no signal on any lane. -/
def execPeerSignalLoss (a : AtLink) (s : State) : Out :=
  onStack s a.stack (fun _ m =>
    match a.link with
    | .device n =>
      let st := m.getF a.stack Reg.LNK_STATUS_STATE n
      if st = 1 ∨ st = 2 ∨ st = 3 then m.linkDown a.stack n 4 else m
    | .bridge b =>
      let st := m.getF a.stack Reg.LNK_BRIDGE_STATUS_STATE b
      if st = 1 ∨ st = 2 ∨ st = 3 then m.bridgeState a.stack b 4 else m)

/-- SIGNAL_DETECT_RETRY (R338, Table LK-3): a link in PEER_LOST that sees a signal trains again. -/
def execSignalDetectRetry (a : SignalRetry) (s : State) : Out :=
  onStack s a.stack (fun _ m =>
    if m.getF a.stack Reg.LNK_STATUS_STATE a.link = 4 ∧ a.seen then m.setF a.stack Reg.LNK_STATUS_STATE 1 a.link else m)

/-- RETRAIN_DONE (R340). -/
def execRetrainDone (a : TrainResult) (s : State) : Out :=
  onStack s a.stack (fun fu m =>
    match a.link with
    | .device n => if m.getF a.stack Reg.LNK_STATUS_STATE n = 3 then m.trainDone a.stack n a else m
    | .bridge b =>
      if bridgePresent fu.part b ∧ m.getF a.stack Reg.LNK_BRIDGE_STATUS_STATE b = 3 then
        (m.bridgeTrained a.stack b a).bumpF a.stack Reg.LNK_BRIDGE_STATUS_RETRAINS b
      else m)

/-- LANE_WINDOW_END (R347). -/
def execLaneWindowEnd (a : LaneWindow) (s : State) : Out :=
  onStack s a.stack (fun _ m => m.laneWindow a.stack a.link (a.lanes.map (·.toNat)) a.lost.toNat)

/-- IDLE (R345): it carries ACK and NAK only, and is not numbered. A flit of a reserved type is numbered, dropped and logged (Table LK-5; the code 0x0101
is the model's, DESIGN CHOICE, log entry 120). -/
def execIdle (a : IdleIn) (s : State) : Out :=
  let h := a.head
  onStack s h.stack (fun _ m =>
    if a.typ ≠ 0 then m.flit h (fun m => some (m.logError h.stack 0x0101 3 h.link 0 [a.typ]))
    else if !m.linkUp h.stack h.link then m
    else if !h.crcOk then m.updLnk h.stack h.link (fun l => { l with nak := true, window := true })
    else m.acked h.stack h.link h.ack h.nak)

/-- WRITE (R343, R351). -/
def execWrite (a : FlitIn) (s : State) : Out :=
  onStack s a.head.stack (fun fu m => m.flit a.head (fun m => m.routed a 1 true (fun m => m.writeFlit fu.part.stackCount a)))

/-- WRITE_ACK (R343). -/
def execWriteAck (a : FlitIn) (s : State) : Out :=
  onStack s a.head.stack (fun _ m => m.flit a.head (fun m =>
    m.routed a 2 false (fun m => some (m.writeAck a.head.stack a.head.link (a.addr.toNat % 2 ^ 16)))))

/-- READ_REQ (R351). -/
def execReadReq (a : FlitIn) (s : State) : Out :=
  onStack s a.head.stack (fun fu m => m.flit a.head (fun m => m.routed a 3 true (fun m => m.readReq fu.part.stackCount a)))

/-- READ_RSP (R343). -/
def execReadRsp (a : FlitIn) (s : State) : Out :=
  onStack s a.head.stack (fun fu m => m.flit a.head (fun m => m.routed a 4 false (fun m => m.readRsp fu.part.stackCount a)))

/-- MESSAGE (R342). -/
def execMessage (a : FlitIn) (s : State) : Out :=
  onStack s a.head.stack (fun fu m => m.flit a.head (fun m =>
    m.routed a 5 true (fun m =>
      let bs := a.payload.take a.len
      if m.messageHeld a.head.stack bs then none else some (m.takeMessage fu.part.stackCount a.head.stack a.head.link bs))))

/-- POISON (R344): the mark waits for the next flit of its route. -/
def execPoison (a : FlitIn) (s : State) : Out :=
  onStack s a.head.stack (fun _ m => m.flit a.head (fun m =>
    m.routed a 6 false (fun m => some ((m.dropMark a.head.stack a.route).updLinks a.head.stack (fun k => { k with
      poison := k.poison ++ [⟨a.route, fieldAt a.payload 0 4, fieldAt a.payload 4 16⟩] })))))

/-- PLAN_ANNOUNCE (R352). -/
def execPlanAnnounce (a : ControlIn) (s : State) : Out :=
  onStack s a.head.stack (fun _ m => m.flit a.head (fun m =>
    some (m.updLnk a.head.stack a.head.link (fun l => { l with announced := some a.arg.toNat }))))

/-- PATTERN_TEST_DONE (R358): the counts of the checked lanes; the LINK_TEST that ran completes and frees the pattern unit. -/
def execPatternTestDone (a : PatternResult) (s : State) : Out :=
  onStack s a.stack (fun _ m =>
    let n : Nat := a.link
    let s : Nat := a.stack
    if !m.getB s Reg.LNK_PAT_CFG_CHECK n then m
    else
      let l := ((a.lanes.map (·.toNat)).zipIdx).take 9
      let on (k : Nat) : Bool := bit (m.getF s Reg.LNK_PAT_CFG_LANES n) k
      let m1 := l.foldl (fun m e => if on e.2 then m.bumpF s Reg.LNK_LANE_ERR_BIT_ERRORS (n * 9 + e.2) e.1 else m) m
      match m.host.deferred.find? (fun r => r.opcode = 0x0901 && onLink s n r) with
      | none => m1
      | some r =>
        let m2 := (m1.setF s Reg.LNK_PAT_CFG_GEN 0 n).setF s Reg.LNK_PAT_CFG_CHECK 0 n
        let m3 := if on 8 then (m2.patRelease s n).release s (24 + n) else m2.patRelease s n
        let pay := (List.range 9).flatMap (fun k => leBytes 4 (if on k then ((l.find? (fun e => e.2 = k)).map (·.1)).getD 0 else 0))
        (m3.completeDeferred 0x0901 (fun x => x = r) 0 pay).srcEdge s (linkSource n))

/-- MARGIN_SCAN_DONE (R360). -/
def execMarginScanDone (a : MarginResult) (s : State) : Out :=
  onStack s a.stack (fun _ m =>
    let n : Nat := a.link
    let s : Nat := a.stack
    match (m.lnk s n).scan with
    | none => m
    | some lane =>
      let m1 := (m.updLnk s n (fun l => { l with scan := none })).patRelease s n
      let m2 := if lane = 8 then m1.release s (24 + n) else m1
      let m3 := (m2.setF s Reg.LNK_MARGIN_DONE 1 n).setF s Reg.LNK_MARGIN_ABORTED 0 n
      let m4 := (m3.setF s Reg.LNK_MARGIN_LEFT a.left n).setF s Reg.LNK_MARGIN_RIGHT a.right n
      let m5 := (m4.setF s Reg.LNK_MARGIN_UP a.up n).setF s Reg.LNK_MARGIN_DOWN a.down n
      let pay := leBytes 1 a.left ++ leBytes 1 a.right ++ leBytes 1 a.up ++ leBytes 1 a.down
      (m5.completeDeferred 0x0902 (onLink s n) 0 pay).srcEdge s (linkSource n))

end Sys2Proof.Machine
end

