-- ==== Sys2Proof/Machine/Movers.lean ====
section
/-! DEFINITION. The movers: descriptors, their checks and the seven steps of a channel (spec/13_host_and_memory.md, R397 to R405). -/

namespace Sys2Proof.Machine

/-! ## Descriptors (R399, Table HM-5) -/

def MDesc.of (b : List Byte) : MDesc :=
  { kind := fieldAt b 0 1, flags := fieldAt b 1 1, elem := fieldAt b 2 1, outCh := fieldAt b 3 1, route := fieldAt b 4 2, rows := fieldAt b 6 2
    src := fieldAt b 8 8, dst := fieldAt b 0x10 8, rowBytes := fieldAt b 0x18 4, srcStride := fieldAt b 0x1C 4, dstStride := fieldAt b 0x20 4
    sigHandle := fieldAt b 0x24 4, waitHandle := fieldAt b 0x28 4, sigN := fieldAt b 0x2C 2, waitT := fieldAt b 0x30 8, next := fieldAt b 0x38 8 }

def MDesc.last (d : MDesc) : Bool := bit d.flags 0
def MDesc.token (d : MDesc) : Bool := bit d.flags 1
def MDesc.fin (d : MDesc) : Bool := bit d.flags 2
def MDesc.signal (d : MDesc) : Bool := bit d.flags 3
def MDesc.wait (d : MDesc) : Bool := bit d.flags 4
def MDesc.stream (d : MDesc) : Bool := bit d.flags 5
/-- Element size of a TRANSPOSE in bytes. -/
def MDesc.esize (d : MDesc) : Nat := 2 ^ d.elem

/-- The producer index of mover channel c (R401). -/
def movIndex (c : Nat) : Nat := 0x3C0 + c

/-- What Table HM-5, R62 and R402 require of a descriptor by itself; byte 0x2E holds the two bytes that must be zero. -/
def MDesc.formOk (d : MDesc) (b : List Byte) : Bool :=
  decide (1 ≤ d.kind ∧ d.kind ≤ 3) && decide (d.flags < 64) &&
  (if d.kind = 2 then decide (d.elem ≤ 3) else decide (d.elem = 0)) && (decide (d.outCh < 64) || !(d.token || d.fin)) &&
  (decide (d.route < 16384) || d.route = 0xFFFF) && decide (1 ≤ d.rows) && decide (d.src < 2 ^ 52) && (d.kind ≠ 3 || d.src = 0) &&
  decide (d.dst < 2 ^ 52) && (!(d.token || d.fin) || d.dst = 0) && d.rowBytes % 8 = 0 && decide (8 ≤ d.rowBytes ∧ d.rowBytes ≤ 2 ^ 24) &&
  d.srcStride % 8 = 0 && d.dstStride % 8 = 0 && (!d.signal || decide (1 ≤ d.sigN)) && !handleBad d.sigHandle && !handleBad d.waitHandle && fieldAt b 0x2E 2 = 0 && decide (d.waitT < 2 ^ 48) &&
  (!d.last || d.next = 0) &&
  (d.kind ≠ 2 || decide (d.rows ≤ 4096 ∧ d.rowBytes / d.esize ≤ 4096 ∧ d.rows * d.esize ≤ d.dstStride)) &&
  (!d.fin || (d.kind = 1 && d.rows = 1 && d.src = 0))

/-- The route entry of a channel's output channel (R401). -/
def Mach.movRoute (m : Mach) (s c : Nat) (d : MDesc) : Option Route := m.outRoute s (movIndex c) d.outCh

/-- What R398 and R401 require of a descriptor on its channel. -/
def Mach.descFits (m : Mach) (s c : Nat) (d : MDesc) : Bool :=
  (m.getB s Reg.MOV_CH_CTRL_BOUND c || !(d.token || d.fin || d.wait)) &&
  (!d.wait || handleSdid d.waitHandle = m.sdid s) &&
  (!(d.token || d.fin) ||
    match m.movRoute s c d with
    | none => false
    | some r =>
      d.fin ||
      match (m.plan s).buf r.dstStack r.buffer with
      | some b => decide (d.rows * d.dstStride ≤ b.slotSize)
      | none => true)

/-! ## Stopping (R398, R404) -/

/-- A descriptor ends with a status that is not OK (R404): SIGNAL_FAIL when it has been read and SIGNAL is set, to a handle that names an object
(R62), ERROR, the log, the stop. -/
def Mach.movError (m : Mach) (s c st : Nat) : Mach :=
  let k := m.mov s c
  let m1 := if k.phase ≠ .fetch ∧ k.desc.signal ∧ !handleBad k.desc.sigHandle then m.sendSignal s k.desc.sigHandle k.desc.sigN (0x40 + st) else m
  ((m1.setF s Reg.MOV_CH_CTRL_ERROR 1 c).logError s 0x0104 4 c k.cur [st]).stopChain s c st false

/-! ## Moving data (R400 step 4, R402) -/

/-- The status of Table HM-6 for a refused access. -/
def denyStatus : Deny → Nat
  | .writeReadOnly => 2
  | .accPrivate => 3
  | _ => 1

/-- The first refused page of a read, of a write, by channel c on a part of n stacks. -/
def Mach.movReadDeny (m : Mach) (n c a len : Nat) : Option (Nat × Deny) :=
  (pageStarts a len).findSome? (fun p => (readDeny (.mover c) (m.place n p)).map (fun d => (p, d)))
def Mach.movWriteDeny (m : Mach) (n c a len : Nat) : Option (Nat × Deny) :=
  (pageStarts a len).findSome? (fun p => (m.writeDeny (.mover c) (m.place n p) p).map (fun d => (p, d)))

/-- Whether a device address lies in the host window. -/
def inWindow (a : Nat) : Bool := daRegion a = 4 && decide (2 ^ 45 ≤ daOff a)

/-- The row from which a reply fails, with its AER condition. -/
def hostReplyFails : HostReply → Option (Nat × Nat)
  | .unsupported r => some (r, 2)
  | .aborted r => some (r, 3)
  | .timedOut r => some (r, 4)
  | _ => none

/-- Source rows as they are read, and the status so far. -/
structure MRead where
  m      : Mach
  rows   : List (List PByte) := []
  status : Nat := 0

/-- Row i of a descriptor read (R30, R382, R404): zeros for ZERO; poisoned when the host's completion was, or did not come. -/
def MRead.row (n c : Nat) (d : MDesc) (reply : HostReply) (r : MRead) (i : Nat) : MRead :=
  let a := d.src + i * d.srcStride
  let bad : List PByte := (List.range d.rowBytes).map (fun _ => ⟨0, 1⟩)
  if r.status = 1 then r
  else if d.kind = 3 then { r with rows := r.rows ++ [PByte.clean (leBytes d.rowBytes 0)] }
  else
    match r.m.movReadDeny n c a d.rowBytes with
    | some (p, k) => { r with m := r.m.refuse n p k, status := 1 }
    | none =>
      match hostReplyFails reply with
      | some (f, e) =>
        if inWindow a ∧ f ≤ i then
          let m1 := if r.status = 5 then r.m else (r.m.bumpF 0 Reg.HOST_ERR_COUNT_CPL_ERRORS).aer e
          { m := m1, rows := r.rows ++ [bad], status := 5 }
        else
          let x := r.m.performRead (!d.stream) a d.rowBytes
          { r with m := x.1, rows := r.rows ++ [x.2] }
      | none =>
        let x := r.m.performRead (!d.stream) a d.rowBytes
        if inWindow a ∧ reply = .poisoned i then
          { r with m := (x.1.bumpF 0 Reg.HOST_ERR_COUNT_POISONED_IN).aer 1, rows := r.rows ++ [bad] }
        else { r with m := x.1, rows := r.rows ++ [x.2] }

/-- Row i of the transpose: element j of every row, for j = i (R402). -/
def transposed (e : Nat) (rows : List (List PByte)) (j : Nat) : List PByte := rows.flatMap (fun r => (r.drop (j * e)).take e)

/-- The writes of a descriptor: destination address and bytes, in order. -/
def MDesc.writes (d : MDesc) (dst : Nat) (rows : List (List PByte)) : List (Nat × List PByte) :=
  if d.kind = 2 then (List.range (d.rowBytes / d.esize)).map (fun j => (dst + j * d.dstStride, transposed d.esize rows j))
  else (rows.zipIdx).map (fun e => (dst + e.2 * d.dstStride, e.1))

/-- Bytes written toward the host: a poisoned granule is not written (R312). The flag says that one was met. -/
def Mach.windowWrite (m : Mach) (alloc : Bool) (a : Nat) (bs : List PByte) : Mach × Bool :=
  let gs := (List.range ((bs.length + 7) / 8)).map (fun g => (a + 8 * g, (bs.drop (8 * g)).take 8))
  let ok := gs.filter (fun g => g.2.all (·.poison = 0))
  (ok.foldl (fun m g => m.performWrite alloc g.1 g.2) m, ok.length < gs.length)

/-- One write of a descriptor performed, the status so far given: a refused one stops the rest, POISON_BLOCKED does not. -/
def Mach.movWrite (n c : Nat) (d : MDesc) (t : Mach × Nat) (w : Nat × List PByte) : Mach × Nat :=
  if t.2 ≠ 0 ∧ t.2 ≠ 4 then t
  else
    match t.1.movWriteDeny n c w.1 w.2.length with
    | some (p, k) => (t.1.refuse n p k, denyStatus k)
    | none =>
      if inWindow w.1 then
        let x := t.1.windowWrite (!d.stream) w.1 w.2
        (x.1, if x.2 then 4 else t.2)
      else (t.1.performWrite (!d.stream) w.1 w.2, t.2)

/-- Whether a source or destination access of the descriptor is held at its home. -/
def Mach.movHeld (m : Mach) (d : MDesc) (dst : Nat) (remote : Bool) : Bool :=
  let out := if d.kind = 2 then d.rows * d.esize else d.rowBytes
  let k := if d.kind = 2 then d.rowBytes / d.esize else d.rows
  (d.kind ≠ 3 && (List.range d.rows).any (fun i => m.accessHeld (!d.stream) (d.src + i * d.srcStride) d.rowBytes)) ||
    (!remote && (List.range k).any (fun i => m.accessHeld (!d.stream) (dst + i * d.dstStride) out))

/-- Where the data of a descriptor goes: its DST, or the slot of the next sequence number of its output channel (R401); the route when the
destination is in another part, with COMPRESS of its entry. -/
def Mach.movDest (m : Mach) (s c : Nat) (d : MDesc) : Mach × Nat × Option Nat × Bool :=
  let rt (r : Nat) : Option Nat := if r < 16384 then some r else none
  if !d.token then (m, d.dst, rt d.route, false)
  else
    match m.movRoute s c d with
    | none => (m, d.dst, rt d.route, false)
    | some r =>
      let f := m.farSlot s r.dstStack r.buffer r.depth (m.prodChan s (movIndex c) d.outCh).sent
      (f.1, f.2, rt r.route, bit r.flags 0)

/-- A restorable fill of an IN buffer is remembered (Table IN-4): from host memory or region 0x4, into a buffer of kind IN. -/
def Mach.noteFill (m : Mach) (s : Nat) (d : MDesc) (dst : Nat) : Mach :=
  let k := daStack dst
  let o := dst
  if d.kind ≠ 3 ∧ daRegion d.src = 4 ∧ (m.plan k).bufs.any (fun b => b.kind = 0 && decide (b.addr ≤ o) && decide (o < b.addr + b.slots * b.slotSize)) then
    m.updPlan s (fun p => { p with fills := p.fills.filter (fun f => f.dst ≠ dst) ++ [⟨d, dst⟩] })
  else m

/-- The source or the destination of a descriptor lies on a stack of the part that no route reaches any more (R38, R364). -/
def Mach.movCut (m : Mach) (n s : Nat) (d : MDesc) (dst : Nat) (remote : Bool) : Bool :=
  (d.kind ≠ 3 && m.cut n s (daStack d.src)) || (!remote && m.cut n s (daStack dst))

/-- Step 4 of R400; the channel then waits for its writes (step 5). A held access leaves the channel where it stands. -/
def Mach.movData (m : Mach) (n s c : Nat) (reply : HostReply) : Mach :=
  let d := (m.mov s c).desc
  let go (m : Mach) : Mach := m.updMov s c (fun k => { k with phase := .writes })
  if d.fin then go m
  else
    let t := m.movDest s c d
    let remote := t.2.2.1
    if t.1.movCut n s d t.2.1 remote.isSome then t.1.movError s c 7
    else if t.1.movHeld d t.2.1 remote.isSome then m
    else
      let r := (List.range d.rows).foldl (MRead.row n c d reply) { m := t.1 }
      let ws := d.writes t.2.1 r.rows
      match remote with
      | some q =>
        if !r.m.getB s Reg.LNK_ROUTE_VALID q ∨ (r.m.stk s).link.failed.contains q then r.m.movError s c 7
        else
          let m1 := ws.foldl (fun m w => m.sendWrite s q w.1 w.2 t.2.2.2 (.mover c)) r.m
          if r.status ≠ 0 then m1.movError s c r.status else go m1
      | none =>
        let w := ws.foldl (Mach.movWrite n c d) (r.m, 0)
        let st := if r.status ≠ 0 then r.status else w.2
        if st ≠ 0 then w.1.movError s c st else go (w.1.noteFill s d t.2.1)

/-! ## The steps of a channel (R400) -/

/-- A credit is held for the channel's output channel (R400 step 3). -/
def Mach.movCredit (m : Mach) (s c : Nat) (d : MDesc) : Bool :=
  match m.movRoute s c d with
  | none => false
  | some r =>
    let o := m.prodChan s (movIndex c) d.outCh
    decide (1 ≤ o.credits r.depth) && !o.faulted

/-- Step 3 and on. -/
def Mach.movStep3 (m : Mach) (n s c : Nat) (reply : HostReply) : Mach :=
  let d := (m.mov s c).desc
  if (d.token ∨ d.fin) ∧ !m.movCredit s c d then m.updMov s c (fun k => { k with phase := .waitCredit })
  else m.movData n s c reply

/-- WAIT of the descriptor is met (R63, R400 step 2). -/
def Mach.movWaitMet (m : Mach) (s : Nat) (d : MDesc) : Bool := !d.wait || satisfies (m.count s (handleObj d.waitHandle)) d.waitT

/-- Step 1: the descriptor at the channel's place, of kind `kind`, is read and checked, and runs as far as it can. A descriptor of another
kind is left to its own command; one whose KIND is none of the three fails under each. -/
def Mach.movFetch (m : Mach) (n s c kind : Nat) (reply : HostReply) : Mach :=
  let k := m.mov s c
  if k.phase ≠ .fetch ∨ !m.getB s Reg.MOV_CH_CTRL_BUSY c then m
  else if k.cur % 64 ≠ 0 ∨ (daRegion k.cur ≠ 0 ∧ daRegion k.cur ≠ 4) ∨ 2 ^ 52 ≤ k.cur then m.movError s c 6
  else
    match readDeny (.mover c) (m.place n k.cur) with
    | some x => (m.refuse n k.cur x).movError s c 1
    | none =>
      if m.accessHeld true k.cur 64 then m
      else
        let r := m.performRead true k.cur 64
        let b := PByte.vals r.2
        let d := MDesc.of b
        if 1 ≤ d.kind ∧ d.kind ≤ 3 ∧ d.kind ≠ kind then m
        else if r.2.any (·.poison ≠ 0) then r.1.movError s c 6
        else
          let m1 := r.1.updMov s c (fun k => { k with desc := d, phase := .waitObj })
          if !d.formOk b ∨ !r.1.descFits s c d then m1.movError s c 6
          else if m1.movWaitMet s d then m1.movStep3 n s c reply else m1

/-- Steps 5 to 7, and the next descriptor. -/
def Mach.movDone (m : Mach) (s c : Nat) : Mach :=
  let k := m.mov s c
  let d := k.desc
  let mine := (m.stk s).link.xfers.filter (fun x => x.owner = .mover c)
  if k.phase ≠ .writes then m
  else if mine.any (·.failed) then
    (m.updLinks s (fun l => { l with xfers := l.xfers.filter (fun x => x.owner ≠ .mover c) })).movError s c 7
  else if mine ≠ [] then m
  else
    let m1 :=
      if d.token ∨ d.fin then
        match m.movRoute s c d with
        | none => m
        | some r =>
          let o := m.prodChan s (movIndex c) d.outCh
          (m.updProd s (movIndex c) d.outCh (fun o => { o with sent := o.sent + 1 })).sendWord s r.route r.dstStack r.dst (r.token o.sent d.fin)
      else m
    let m2 := if d.signal then m1.sendSignal s d.sigHandle d.sigN 0 else m1
    let m3 := (m2.setF s Reg.MOV_CH_STATUS_STATUS 0 c).bumpF s Reg.MOV_CH_STATUS_DONE c
    if d.last then m3.stopChain s c 0 true
    else m3.updMov s c (fun k => { k with phase := .fetch, cur := d.next, desc := {} })

/-! ## Start and stop (R398) -/

/-- START on a channel by an owner at SERVICE class. The flag says that it was accepted. -/
def Mach.movStart (m : Mach) (s c owner : Nat) : Mach × Bool :=
  if m.getB s Reg.MOV_CH_CTRL_BUSY c then (m.bumpF s Reg.MOV_CH_CTRL_REFUSED c, false)
  else
    let m1 := (m.claim s (72 + c) owner 2).setF s Reg.MOV_CH_CTRL_OWNER owner c
    let m2 := (m1.setF s Reg.MOV_CH_CTRL_BUSY 1 c).setF s Reg.MOV_CH_CTRL_BOUND (m.planOn s).toNat c
    (m2.updMov s c (fun k => { k with phase := .fetch, cur := m.getF s Reg.MOV_CH_HEAD_HEAD c, desc := {}, lastDone := false }), true)

/-- STOP on a channel: the current descriptor ends ABORTED. -/
def Mach.movStop (m : Mach) (s c : Nat) : Mach :=
  if !m.getB s Reg.MOV_CH_CTRL_BUSY c then m
  else (m.updLinks s (fun l => { l with xfers := l.xfers.filter (fun x => x.owner ≠ .mover c) })).movError s c 8

/-! ## Commands -/

/-- MOV_START: the host writes 1 to START (R397, R398, R427). -/
def execMovStart (a : AtChannel) (s : State) : Out :=
  onStack s a.stack (fun _ m =>
    let o := Reg.MOV_CH_CTRL.off a.channel
    if a.channel.val < 4 then m.logHost a.stack o 0 1 true
    else
      let r := m.movStart a.stack a.channel 0x50
      r.1.logHost a.stack o 0 1 (!r.2))

/-- MOV_STOP: the host writes 1 to STOP (R397, R398, R427). -/
def execMovStop (a : AtChannel) (s : State) : Out :=
  onStack s a.stack (fun _ m =>
    let o := Reg.MOV_CH_CTRL.off a.channel
    if a.channel.val < 4 then m.logHost a.stack o 0 2 true else (m.movStop a.stack a.channel).logHost a.stack o 0 2)

/-- MOVER_COPY (R400). -/
def execMoverCopy (a : MoverRun) (s : State) : Out := onStack s a.stack (fun fu m => m.movFetch fu.part.stackCount a.stack a.channel 1 a.reply)

/-- MOVER_TRANSPOSE (R402). -/
def execMoverTranspose (a : MoverRun) (s : State) : Out :=
  onStack s a.stack (fun fu m => m.movFetch fu.part.stackCount a.stack a.channel 2 a.reply)

/-- MOVER_ZERO (R400). -/
def execMoverZero (a : MoverRun) (s : State) : Out := onStack s a.stack (fun fu m => m.movFetch fu.part.stackCount a.stack a.channel 3 a.reply)

/-- MOVER_WAIT_MET (R400 step 2). -/
def execMoverWaitMet (a : MoverRun) (s : State) : Out :=
  onStack s a.stack (fun fu m =>
    let k := m.mov a.stack a.channel
    if k.phase = .waitObj ∧ m.movWaitMet a.stack k.desc then m.movStep3 fu.part.stackCount a.stack a.channel a.reply else m)

/-- MOVER_CREDIT_READY (R400 step 3). -/
def execMoverCreditReady (a : MoverRun) (s : State) : Out :=
  onStack s a.stack (fun fu m =>
    let k := m.mov a.stack a.channel
    if k.phase = .waitCredit ∧ m.movCredit a.stack a.channel k.desc then m.movData fu.part.stackCount a.stack a.channel a.reply else m)

/-- MOVER_WRITES_DONE (R400 steps 5 to 7). -/
def execMoverWritesDone (a : AtChannel) (s : State) : Out := onStack s a.stack (fun _ m => m.movDone a.stack a.channel)

end Sys2Proof.Machine
end

