-- ==== Sys2Proof/Machine/PowerOps.lean ====
section
/-! DEFINITION. Core power: regions, the LDOs and VDD_CORE_IN, a core's way into Stop and out of it (spec/17_power.md, R473 to R482). -/

namespace Sys2Proof.Machine

/-! ## Grid regions (R476, R477) -/

/-- The grid region of core p. -/
def region (p : Nat) : Nat := 4 * (posRow p / 6) + posCol p / 9

/-- Regions q and r are edge-adjacent. -/
def regionsTouch (q r : Nat) : Bool :=
  (q / 4 = r / 4 && (q % 4 + 1 = r % 4 || r % 4 + 1 = q % 4)) || (q % 4 = r % 4 && (q / 4 + 1 = r / 4 || r / 4 + 1 = q / 4))

/-- The region of core p or an edge-adjacent one is hot. -/
def Mach.hotNear (m : Mach) (s p : Nat) : Bool :=
  (List.range 16).any (fun q => (q = region p || regionsTouch q (region p)) && m.getB s Reg.PWR_REGION_STATUS_HOT q)

/-- The power state of stack s beyond its registers. -/
def Mach.pw (m : Mach) (s : Nat) : PowerSt := (m.stk s).power

/-- It changed. -/
def Mach.updPw (m : Mach) (s : Nat) (f : PowerSt → PowerSt) : Mach := m.updStk s (fun k => { k with power := f k.power })

/-! ## Voltages (R473, R475) -/

/-- Core p is in Run. -/
def Mach.inRun (m : Mach) (s p : Nat) : Bool := m.getF s Reg.CORE_POWER_STATE p = 2

/-- The setting that is to take effect at core p: the smaller of LDO_SET, capped at 60, and the limit of throttling. -/
def Mach.ldoWanted (m : Mach) (s p : Nat) : Nat :=
  min (min (m.getF s Reg.CORE_POWER_LDO_SET p) 60) (m.getF s Reg.THM_THROTTLE_LIMIT_CODE (region p))

/-- LDO_NOW moves to what is wanted. It waits while that lies above the settled VDD_CORE_IN less 50 mV, whose target then rises (TARGET counts 5 mV
from 0.80 V, LDO codes from 0.50 V). -/
def Mach.ldoSettle (m : Mach) (s p : Nat) : Mach :=
  if !m.inRun s p then m
  else
    let w := m.ldoWanted s p
    if w ≤ m.getF s Reg.CORE_POWER_LDO_NOW p ∨ w ≤ (m.pw s).settled + 50 then
      (m.setF s Reg.CORE_POWER_LDO_NOW w p).updPw s (fun k => { k with rising := k.rising.filter (· ≠ p) })
    else
      let m1 := m.updPw s (fun k => { k with rising := k.rising.filter (· ≠ p) ++ [p] })
      if m.getF s Reg.PWR_AVS_TARGET + 50 < w then (m1.setF s Reg.PWR_AVS_TARGET (w - 50)).setF s Reg.PWR_AVS_SETTLED 0 else m1

/-- Every core of stack s settles. -/
def Mach.ldoSettleAll (m : Mach) (s : Nat) : Mach := (List.range 864).foldl (fun m p => m.ldoSettle s p) m

/-- The target that the cores in Run need (R473). -/
def Mach.avsNeed (m : Mach) (s : Nat) : Nat :=
  (List.range 864).foldl (fun t p => if m.inRun s p then max t (m.getF s Reg.CORE_POWER_LDO_NOW p - 50) else t) 0

/-- VOUT_SETTLED (R473): READ_VOUT lies within 10 mV of T; the LDOs that waited rise. -/
def Mach.voutSettled (m : Mach) (s : Nat) : Mach :=
  let l := (m.pw s).rising
  let m1 := (m.setF s Reg.PWR_AVS_SETTLED 1).updPw s (fun k => { k with settled := m.getF s Reg.PWR_AVS_TARGET, rising := [] })
  l.foldl (fun m p => m.ldoSettle s p) m1

/-- AVS_TARGET_FALL (R473): no LDO has risen for 1 ms, and T falls to what the cores need. -/
def Mach.avsFall (m : Mach) (s : Nat) : Mach :=
  let t := m.getF s Reg.PWR_AVS_TARGET
  let n := m.avsNeed s
  if (m.pw s).rising ≠ [] ∨ t ≤ n then m
  else
    let m1 := (m.setF s Reg.PWR_AVS_TARGET n).updPw s (fun k => { k with settled := n })
    if t > n + 2 then m1.setF s Reg.PWR_AVS_SETTLED 0 else m1

/-! ## Run and Stop (R478 to R482) -/

/-- CORES_RUN and CORES_STOP kept in step. -/
def Mach.syncPower (m : Mach) (s : Nat) : Mach :=
  let n (v : Nat) : Nat := ((List.range 864).filter (fun p => m.getF s Reg.CORE_POWER_STATE p = v)).length
  (m.setF s Reg.PWR_STATUS_CORES_RUN (n 2)).setF s Reg.PWR_STATUS_CORES_STOP (n 0)

/-- The fields of a core that are kept on the cache die: CORE_IDENT, CORE_COMMIT_COUNT and CORE_POWER (R480), by offset × 64 + bit. -/
def coreKept (p key : Nat) : Bool :=
  let o := key / 64 - p * 0x1_0000
  o = 0 || o = 0x108 || o = 0x700

/-- The memories of the slot at home position h are zero. -/
def Mach.clearSlot (m : Mach) (s h : Nat) : Mach :=
  { m with mem := (m.mem.clear (localAddr s h 0) (localAddr s h 0x8_0000)).clear (accAddr s h 0) (accAddr s h 0x2_0000) }

/-- The contents of core p's memories and register file are lost; what it holds then reads as zero. -/
def Mach.loseCore (m : Mach) (s p : Nat) : Mach :=
  let L := m.getF s Reg.CORE_IDENT_LOGICAL p
  if L ≥ 832 then m
  else ((m.discardUnit s L .stopped).clearSlot s (m.getF s Reg.CORE_IDENT_HOME p)).updCore s L (fun c => { c with regs := [], steps := 0, near := {}, shadow := [] })

/-- Core p enters Stop (R480). -/
def Mach.coreStop (m : Mach) (s p : Nat) : Mach :=
  let m1 := (m.loseCore s p).resetRange s (p * 0x1_0000) ((p + 1) * 0x1_0000) (coreKept p)
  let m2 := (m1.setF s Reg.CORE_POWER_STATE 0 p).setF s Reg.CORE_POWER_LDO_NOW 0 p
  m2.updPw s (fun k => { k with
    toWake := k.toWake.filter (· ≠ p), rising := k.rising.filter (· ≠ p), waking := k.waking.filter (·.core ≠ p) })

/-- Core p is to wake: it waits for its turn (R479). -/
def Mach.requestWake (m : Mach) (s p : Nat) : Mach :=
  let m1 := m.setF s Reg.CORE_POWER_STOP_REQ 0 p
  if m.getF s Reg.CORE_POWER_STATE p = 0 then m1.updPw s (fun k => { k with toWake := k.toWake.filter (· ≠ p) ++ [p] }) else m1

/-- Core p is to stop; one that wakes stops when its wake ends (Table PW-7). -/
def Mach.requestStop (m : Mach) (s p : Nat) : Mach :=
  let m1 := m.setF s Reg.CORE_POWER_STOP_REQ 1 p
  if m.getF s Reg.CORE_POWER_STATE p = 1 then m1 else (m1.coreStop s p).syncPower s

/-- Core p may be asked to change its state: it executes a logical index, and no plan is LOADED or RUNNING on its stack (R482). -/
def Mach.powerFree (m : Mach) (s p : Nat) : Bool := !m.planOn s && m.getF s Reg.CORE_IDENT_LOGICAL p < 832

/-- CORE_WAKE (R478, R479): the wake of core p begins, in ascending id within its region, no more than six of which are in the wait of step 1. -/
def Mach.coreWake (m : Mach) (s p : Nat) : Mach :=
  let mine (q : Nat) : Bool := region q = region p
  if !(m.pw s).toWake.contains p ∨ (m.pw s).toWake.any (fun q => mine q && decide (q < p)) ∨ m.getB s Reg.THM_STATUS_STOP_HOLD ∨
      6 ≤ ((m.pw s).waking.filter (fun w => mine w.core && w.waiting)).length then m
  else
    let slow := m.hotNear s p
    let m1 := m.updPw s (fun k => { k with toWake := k.toWake.filter (· ≠ p), waking := k.waking ++ [⟨p, slow⟩] })
    let m2 := (m1.setF s Reg.CORE_POWER_STATE 1 p).setF s Reg.CORE_POWER_LAST_SLOW slow.toNat p
    let m3 := (m2.setF s Reg.CORE_POWER_LAST_EXPIRED 0 p).setF s Reg.CORE_POWER_LAST_WAIT_US 0 p
    (if slow then m3.bumpF s Reg.PWR_REGION_STATUS_SLOW_WAKES (region p) else m3).syncPower s

/-- WAKE_WAIT_END (R478): none of the regions is hot any more, or 200 µs have passed. -/
def Mach.wakeWaitEnd (m : Mach) (s p us : Nat) : Mach :=
  if !(m.pw s).waking.contains ⟨p, true⟩ ∨ (m.hotNear s p ∧ us < 200) then m
  else
    let m1 := m.updPw s (fun k => { k with waking := k.waking.map (fun w => if w.core = p then { w with waiting := false } else w) })
    let m2 := m1.setF s Reg.CORE_POWER_LAST_WAIT_US us p
    if us < 200 then m2 else (m2.setF s Reg.CORE_POWER_LAST_EXPIRED 1 p).bumpF s Reg.PWR_REGION_STATUS_EXPIRED (region p)

/-- CORE_WAKE_DONE (Table PW-2): the memories are zero and the core is in Run; a Stop asked for meanwhile follows (Table PW-7). -/
def Mach.coreWakeDone (m : Mach) (s p : Nat) : Mach :=
  if !(m.pw s).waking.contains ⟨p, false⟩ then m
  else
    let m1 := m.updPw s (fun k => { k with waking := k.waking.filter (·.core ≠ p) })
    let m2 := ((m1.loseCore s p).setF s Reg.CORE_POWER_STATE 2 p).bumpF s Reg.CORE_POWER_WAKES p
    let m3 := m2.setF s Reg.CORE_POWER_LDO_NOW (min (m2.ldoWanted s p) ((m.pw s).settled + 50)) p
    let m4 := m3.ldoSettle s p
    (if m4.getB s Reg.CORE_POWER_STOP_REQ p then m4.coreStop s p else m4).syncPower s

/-- REGION_AVERAGE (R477): one more 1 µs average, in units of 0.5 A. -/
def Mach.regionAverage (m : Mach) (s r v : Nat) : Mach :=
  let l := (v :: SMap.getD (m.pw s).averages r []).take 10
  let peak := l.foldl max 0
  let t := min 100 (max 50 (m.getF s Reg.PWR_REGION_CFG_THRESHOLD))
  let m1 := ((m.updPw s (fun k => { k with averages := SMap.put k.averages r l })).setF s Reg.PWR_REGION_STATUS_DRAW v r).setF s
    Reg.PWR_REGION_STATUS_PEAK10 peak r
  m1.setF s Reg.PWR_REGION_STATUS_HOT (decide (100 * peak > t * m.getF s Reg.PWR_REGION_CFG_LIMIT)).toNat r

end Sys2Proof.Machine
end

