-- ==== Sys2Proof/Machine/CoreMap.lean ====
section
/-! DEFINITION. The core map: assignment, retirement, relocation and degradation (spec/01_architecture.md, R21 to R31; R75). -/

namespace Sys2Proof.Machine

/-- The chrysalis positions of a stack (Table AR-2). -/
def chrysalisIds : List Nat := (List.range 864).filter isChrysalis

/-- The home positions of a stack: the others. -/
def homeIds : List Nat := (List.range 864).filter (fun p => !isChrysalis p)

/-- Manhattan distance of two positions. -/
def distance (p q : Nat) : Nat := ((posRow p : Int) - posRow q).natAbs + ((posCol p : Int) - posCol q).natAbs

/-- The nearest of several positions, the lowest among equals. -/
def nearest (p : Nat) (l : List Nat) : Option Nat :=
  l.foldl (fun b c =>
    match b with
    | none => some c
    | some d => if distance p c < distance p d ∨ (distance p c = distance p d ∧ c < d) then some c else b) none

/-- The chrysalis core that takes the index of home position p (R24): of its own half first. -/
def chooseChrysalis (p : Nat) (free : List Nat) : Option Nat :=
  match nearest p (free.filter (fun c => posHalf c = posHalf p)) with
  | some c => some c
  | none => nearest p free

/-- The chrysalis cores in reserve: ROLE 1, and not the target of a relocation. -/
def Mach.freeChrysalis (m : Mach) (s : Nat) : List Nat :=
  chrysalisIds.filter (fun c => m.getB s Reg.CORE_IDENT_MAP_VALID c && m.getF s Reg.CORE_IDENT_ROLE c = 1 &&
    !(m.stk s).map.relocating.any (fun r => r.2 = c))

/-- CHRYS_FREE and RELOCATING kept in step. -/
def Mach.syncMap (m : Mach) (s : Nat) : Mach :=
  let f := m.freeChrysalis s
  let m1 := (m.setF s Reg.BUR_CORE_SUMMARY_CHRYS_FREE_W (f.filter (fun c => posHalf c = 0)).length).setF s Reg.BUR_CORE_SUMMARY_CHRYS_FREE_E
    (f.filter (fun c => posHalf c = 1)).length
  m1.setF s Reg.BUR_CORE_SUMMARY_RELOCATING (decide ((m.stk s).map.relocating ≠ [])).toNat

/-- One entry of the map written: CORE_IDENT of a physical core. -/
def Mach.setIdent (m : Mach) (s p role logical home : Nat) : Mach :=
  let m1 := (m.setF s Reg.CORE_IDENT_ROLE role p).setF s Reg.CORE_IDENT_LOGICAL logical p
  (m1.setF s Reg.CORE_IDENT_HOME home p).setF s Reg.CORE_IDENT_MAP_VALID 1 p

/-- The map register of index L written. -/
def Mach.setLogical (m : Mach) (s L home ex : Nat) : Mach :=
  let m1 := (m.setF s Reg.BUR_LOGICAL_MAP_HOME home L).setF s Reg.BUR_LOGICAL_MAP_EXEC ex L
  m1.setF s Reg.BUR_LOGICAL_MAP_SPARED (decide (home ≠ ex)).toNat L

/-- The service state of a stack (Table BU-4), with its event when it changes. -/
def Mach.setService (m : Mach) (s v : Nat) : Mach :=
  if m.getF s Reg.BUR_STATUS_SERVICE = v then m
  else (m.setF s Reg.BUR_STATUS_SERVICE v).event s 0x0008 [v, m.getF s Reg.BUR_BOOT_STATUS_STAGE]

/-- Whether physical core p is retired. -/
def Mach.retired (m : Mach) (s p : Nat) : Bool := m.getB s Reg.CORE_IDENT_MAP_VALID p && m.getF s Reg.CORE_IDENT_ROLE p = 3

/-- A relocation of the index at home position h begins: the unit is interrupted and waits for its new core; with no chrysalis core left,
the stack will be degraded (R24, R26, R31). The chrysalis core leaves Stop (R481). -/
def Mach.relocate (m : Mach) (s h : Nat) : Mach :=
  let c := (chooseChrysalis h (m.freeChrysalis s)).getD 864
  let m1 := m.updStk s (fun k => { k with map := { k.map with
    relocating := k.map.relocating.filter (fun r => r.1 ≠ h) ++ [(h, c)] } })
  (if c < 864 then m1.requestWake s c else m1).syncMap s

/-- Physical core p is retired and held in Stop (R24, R294, R297, R481): a reserve core is never assigned; the index of another moves. -/
def Mach.retireCore (m : Mach) (s p : Nat) : Mach :=
  if m.retired s p then m
  else
    let role := m.getF s Reg.CORE_IDENT_ROLE p
    let h := m.getF s Reg.CORE_IDENT_HOME p
    let L := m.getF s Reg.CORE_IDENT_LOGICAL p
    let target := (m.stk s).map.relocating.find? (fun r => r.2 = p)
    let m1 := (m.setIdent s p 3 0x3FF 0x3FF).bureauChange m s Reg.CORE_IDENT_fields p
    let m1 := m1.requestStop s p
    match target with
    | some r => m1.relocate s r.1
    | none =>
      if role = 1 ∨ L = 0x3FF then m1.syncMap s
      else (((m1.discardUnit s L (if m.planRunning s then .moving else .stopped)).clearLaunchRegs s L).relocate s h)

/-- The accesses held for the slot of home position h complete (R31). -/
def Mach.releaseSlot (m : Mach) (n s h : Nat) : Mach :=
  let mine (x : Access) : Bool := daOff x.addr / (if daRegion x.addr = 1 then 0x10_0000 else 0x4_0000) = h
  let l := (m.stk s).map.held.filter mine
  l.foldl (fun m x => m.accessHome n x) (m.updStk s (fun k => { k with map := { k.map with held := k.map.held.filter (fun x => !mine x) } }))

/-- Home positions that serve an index, ascending. -/
def Mach.homesNow (m : Mach) (s : Nat) : List Nat := homeIds.filter (fun p => !(m.stk s).map.removed.contains p)

/-- The remaining home positions renumbered 0 to N − 1 (R26): map registers and CORE_IDENT of the cores that execute them; the core of an index whose
relocation is pending is retired and stays so (R24). -/
def Mach.renumber (m : Mach) (s : Nat) : Mach :=
  let ex := (List.range 832).map (fun L => (m.getF s Reg.BUR_LOGICAL_MAP_HOME L, m.getF s Reg.BUR_LOGICAL_MAP_EXEC L))
  let at' (h : Nat) : Nat := ((ex.find? (fun e => e.1 = h)).map (·.2)).getD h
  let l := m.homesNow s
  let m1 := (l.zipIdx).foldl (fun m e =>
    let a := m.setLogical s e.2 e.1 (at' e.1)
    if m.retired s (at' e.1) then a else a.setIdent s (at' e.1) (if at' e.1 = e.1 then 0 else 2) e.2 e.1) m
  let m2 := (List.range (832 - l.length)).foldl (fun m i =>
    ((m.setF s Reg.BUR_LOGICAL_MAP_HOME 0x3FF (l.length + i)).setF s Reg.BUR_LOGICAL_MAP_EXEC 0x3FF (l.length + i)).setF s
      Reg.BUR_LOGICAL_MAP_SPARED 0 (l.length + i)) m1
  m2.setF s Reg.BUR_CORE_SUMMARY_LOGICAL_COUNT l.length

/-- The stack becomes degraded (R26): the index at h is removed, the plan ends, the remaining positions are renumbered. R26 speaks of a plan that is
RUNNING; that a plan which is only LOADED ends too is the model's choice (DESIGN CHOICE, log entry 101). -/
def Mach.degrade (m : Mach) (n s h : Nat) : Mach :=
  let m1 := m.endPlan s 0x0026
  let m2 := m1.updStk s (fun k => { k with
    cores := [], map := { k.map with removed := k.map.removed ++ [h], relocating := k.map.relocating.filter (fun r => r.1 ≠ h) } })
  let m3 := (m2.renumber s).setF s Reg.BUR_CORE_SUMMARY_DEGRADED 1
  let m4 := (((m3.syncMap s).bureauChange m s Reg.BUR_CORE_SUMMARY_fields).setService s 2).event s 0x0007 [m3.getF s Reg.BUR_CORE_SUMMARY_LOGICAL_COUNT]
  m4.releaseSlot n s h

/-- A staged operation of a committed unit that is sent again (R75): a Cabinet operation arrives a second time and is dropped as a duplicate (R237,
R238), with the data of the first one when that is still on its way; a repeated signal is suppressed by its unit count and does not arrive. -/
def Mach.resend (m : Mach) (s : Nat) (x : Staged) : Mach :=
  match x with
  | .keyed c o =>
    m.send ((m.wire.find? (fun y => match y with
      | .keyed t d p => t = s && d = c && p.key = o.key
      | _ => false)).getD (.keyed s c o))
  | _ => m

/-- The chrysalis core c executes the index at h (R25, R31, R75): the map changes, the commit count goes along, the outbox of the control
record is sent again, the interrupted unit waits for its replay, the held accesses complete. -/
def Mach.moveIndex (m : Mach) (n s h c : Nat) : Mach :=
  match (List.range 832).find? (fun L => m.getF s Reg.BUR_LOGICAL_MAP_HOME L = h) with
  | none => m
  | some L =>
    let old := m.physOf s L
    let m1 := (m.setLogical s L h c).setIdent s c 2 L h
    let m2 := m1.setF s Reg.CORE_COMMIT_COUNT_COMMITS (m.getF s Reg.CORE_COMMIT_COUNT_COMMITS old) c
    let m3 := m2.bureauChange m s Reg.BUR_LOGICAL_MAP_fields L
    let m4 := (m3.updStk s (fun k => { k with map := { k.map with relocating := k.map.relocating.filter (fun r => r.1 ≠ h) } })).syncMap s
    let k := m4.core s L
    let m5 := if m.planRunning s ∧ k.rcd.marker.isSome then k.rcd.staged.foldl (fun m x => m.resend s x) (k.rcd.outbox.foldl (fun m x => m.sendOut n s L x) m4)
      else m4
    let m6 := m5.updCore s L (fun k => { k with near := {}, halt := if k.halt = .moving then .aborted else k.halt })
    (m6.syncScript s L).releaseSlot n s h

/-- RELOCATION_DONE of the index at home position h; the chrysalis core has woken (R481). -/
def Mach.relocationDone (m : Mach) (n s h : Nat) : Mach :=
  match (m.stk s).map.relocating.find? (fun r => r.1 = h) with
  | none => m
  | some r => if r.2 = 864 then (m.degrade n s h).bar4Drain n else if m.inRun s r.2 then (m.moveIndex n s h r.2).bar4Drain n else m

/-- RELOCATION_DONE (R31). -/
def execRelocationDone (a : AtPosition) (s : State) : Out :=
  onStack s a.stack (fun fu m => m.relocationDone fu.part.stackCount a.stack a.position)

end Sys2Proof.Machine
end

