-- ==== Sys2Proof/Machine/Twin.lean ====
section
/-! DEFINITION. Swallowtail pairing: pairs, epochs, heartbeats, takeover, installation, conflicts and the hand-back
(spec/12_device_links.md, R365 to R376). -/

namespace Sys2Proof.Machine

/-! ## Pairs -/

/-- Whether sequence id q belongs to the twin with the lower SDID (R366). -/
def lowerOwns (q : Nat) : Bool := q / 16384 % 2 = 0

/-- Whether id q lies in the stack's own set (R366). -/
def Mach.ownId (m : Mach) (s q : Nat) : Bool := lowerOwns q == m.getB s Reg.LNK_TWIN_CFG_LOWER

def Mach.setTwin (m : Mach) (s st : Nat) : Mach := m.setF s Reg.LNK_TWIN_STATUS_STATE st

/-- A CONTROL flit on every twin link that is UP. -/
def Mach.twinControl (m : Mach) (s kind arg : Nat) : Mach :=
  (m.twinLinks s).foldl (fun m n => if m.linkUp s n then m.linkPush s n [controlFlit kind arg] else m) m

/-- The argument of a PAIR_HELLO: the sender's SDID, the SDID of the twin that it names, whether the sender serves that twin, and whether it holds LIVE
sequences for which the pair fails (log entry 30). -/
def Mach.helloArg (m : Mach) (s twin : Nat) (bad : Bool) : Nat :=
  m.sdid s + twin * 2 ^ 16 + (m.twin s).serving.toNat * 2 ^ 32 + bad.toNat * 2 ^ 33

/-- State, arguments and journal base of a pair set. -/
def Mach.setPair (m : Mach) (s : Nat) (l : List Nat) : Mach :=
  let v (i : Nat) := l.getD i 0
  let m1 := (m.setTwin s (v 0)).setF s Reg.LNK_TWIN_CFG_TWIN_SDID (v 1)
  let m2 := (m1.setF s Reg.LNK_TWIN_CFG_LINK_A (v 2)).setF s Reg.LNK_TWIN_CFG_LINK_B (v 3)
  ((m2.setF s Reg.LNK_TWIN_CFG_AUTO_TAKEOVER (v 4)).setF s Reg.LNK_TWIN_CFG_LOWER (v 5)).updTwin s (fun t => { t with base := v 6 })

/-- The TWIN_PAIR of stack s fails with a status: nothing has changed (R365). -/
def Mach.pairFails (m : Mach) (s st : Nat) : Mach :=
  let b := (m.twin s).before
  ((if b = [] then m else m.setPair s b).updTwin s (fun t => { t with before := [], hello := none })).completeDeferred 0x0601 (fun x => x.stack = s) st

/-- Whether a received PAIR_HELLO matches this stack's own arguments (R365). -/
def Mach.helloMatches (m : Mach) (s arg : Nat) : Bool :=
  bits arg 0 16 = m.getF s Reg.LNK_TWIN_CFG_TWIN_SDID && bits arg 16 16 = m.sdid s

/-- The journal area held for the twin emptied. -/
def Mach.wipeJournal (m : Mach) (s : Nat) : Mach :=
  let b := (m.twin s).base
  let m1 := m.updCache s (fun k => { k with lines := k.lines.filter (fun c => c.line * 128 < b || b + jSize ≤ c.line * 128) })
  { m1 with tier := m1.tier.clear (devAddr s 4 b) (devAddr s 4 (b + jSize)) }

/-- A pair completes (R365): PAIRED, or REJOINING when one of the stacks serves the other; the journal starts with all that the stack holds. It fails
when the twin holds sequences outside its id set. A detached stack that nobody serves has nothing to be handed back (R373). -/
def Mach.pairDone (m : Mach) (s : Nat) : Mach :=
  if m.twinState s ≠ 1 then m
  else
    match (m.twin s).hello with
    | none => m
    | some arg =>
      if !m.helloMatches s arg then m
      else if bit arg 33 then m.pairFails s 0x0062
      else
        let back := (m.twin s).serving || bit arg 32
        let m1 := (if (m.twin s).held = [] then m.wipeJournal s else m).updTwin s (fun t => { t with
          epoch := 1, logSent := 0, syncSent := [], markSent := [], logGot := [], close := none, surprise := false, rejoinMe := false
          rejoinYou := false, hello := none, before := [], theirs := 0, detached := back && t.detached })
        let m2 := (m1.setF s Reg.LNK_TWIN_STATUS_EPOCH 0).setTwin s (if back then 6 else 2)
        (m2.journalAll s).completeDeferred 0x0601 (fun r => r.stack = s) 0

/-! ## Epochs and heartbeats (R368, R369) -/

/-- HEARTBEAT_SEND (R369): a paired stack closes its epoch; one that has lost or serves its twin sends its state alone. -/
def Mach.heartbeatSend (m : Mach) (s : Nat) : Mach :=
  if m.journals s then m.closeEpoch s
  else if m.twinState s = 3 ∨ m.twinState s = 4 then m.beat s ((m.twin s).epoch + 2 ^ 32 - 1) 0
  else m

/-- The records of a log applied to the mirror, in order; b bytes of log from position p. -/
def Mach.applyLog (m : Mach) (s p b : Nat) : Nat → Mach
  | 0 => m
  | fuel + 1 =>
    if p + 16 > b then m
    else
      let base := devAddr s 4 (m.twin s).base
      let h := PByte.vals (m.homeBytes (base + jLog + p) 16)
      let off := fieldAt h 0 8
      let len := fieldAt h 8 8
      let r := m.performRead false (base + jLog + p + 16) len
      let m1 := if off + len ≤ jLog then r.1.performWrite false (base + off) r.2 else r.1
      m1.applyLog s (p + 16 + (len + 7) / 8 * 8) b fuel

/-- Bytes of the open epoch's log that have come. -/
def TwinSt.logBytes (t : TwinSt) : Nat := (t.logGot.map (·.2)).sum

/-- An epoch whose heartbeat and bytes have all come is applied (R368). -/
def Mach.applyEpoch (m : Mach) (s : Nat) : Mach :=
  match (m.twin s).close with
  | none => m
  | some (e, b) =>
    if (m.twin s).logBytes < b then m
    else
      let m1 := m.applyLog s 0 b (b / 16 + 1)
      let m2 := m1.performWrite false (devAddr s 4 (m.twin s).base) (PByte.clean (leBytes 8 e))
      (m2.setF s Reg.LNK_TWIN_STATUS_EPOCH e).updTwin s (fun t => { t with logGot := [], close := none })

/-- JOURNAL bytes that link n brings, of the epoch e modulo 2^14, written into the journal area (R367, R368). Those of an epoch applied already have come
twice; those of a later one wait while the other twin link may still bring the rest of the open epoch. -/
def Mach.journalIn (m : Mach) (s n e off : Nat) (bs : List Byte) : Option Mach :=
  let open_ := (m.getF s Reg.LNK_TWIN_STATUS_EPOCH + 1) % 2 ^ 14
  if !m.journals s ∨ off < jLog ∨ off + bs.length > jSize then some m
  else if e ≠ open_ then
    if (e + 2 ^ 14 - open_) % 2 ^ 14 < 2 ^ 13 && ((m.twinLinks s).filter (· ≠ n)).any (m.linkGoes s) then none else some m
  else
    let a := devAddr s 4 ((m.twin s).base + off)
    if m.accessHeld false a bs.length then none
    else if (m.twin s).logGot.any (fun p => p.1 = off) then some m
    else some (((m.performWrite false a (PByte.clean bs)).updTwin s (fun t => { t with logGot := t.logGot ++ [(off, bs.length)] })).applyEpoch s)

/-! ## Takeover and installation (R370 to R372) -/

/-- The descriptor of id q is LIVE in the mirror. -/
def Mach.mirrorLive (m : Mach) (s q : Nat) : Bool := (m.homeByte (devAddr s 4 ((m.twin s).base + jDesc + 64 * q))).val = 1

/-- The LIVE ids of the twin's descriptors in the mirror that this stack does not serve or hold itself, ascending. -/
def Mach.mirrorIds (m : Mach) (s : Nat) : List Nat := (List.range 65536).filter (fun q => m.mirrorLive s q && (m.seq s q).isNone)

/-- A hand-back that was asked for ends without effect as the twin is lost (DESIGN CHOICE, log entry 125). -/
def Mach.rejoinStops (m : Mach) (s : Nat) : Mach :=
  (m.updTwin s (fun t => { t with rejoinMe := false, rejoinYou := false })).completeDeferred 0x0604 (fun r => r.stack = s) 0x0065

/-- A takeover (R371): the open log is discarded, the twin's LIVE ids are held, STATE is SERVING_TWIN. What the stack serves for the twin since an earlier
takeover it goes on serving. -/
def Mach.takeover (m : Mach) (s : Nat) (announced : Bool) : Mach :=
  let old := (m.twin s).held
  let ids := (List.range 65536).filter (fun q => old.contains q || (m.mirrorLive s q && (m.seq s q).isNone))
  let m1 := m.updTwin s (fun t => { t with logGot := [], close := none, held := ids, serving := true, surprise := !announced })
  ((m1.setTwin s 4).rejoinStops s).event s 0x000A [m.getF s Reg.LNK_TWIN_STATUS_EPOCH, ids.length]

/-- A twin that announces its end is taken over (R370). -/
def Mach.announcedEnd (m : Mach) (s : Nat) : Mach :=
  if m.twinState s = 2 ∨ m.twinState s = 3 ∨ m.twinState s = 6 then m.takeover s true else m

/-- HEARTBEAT_LOSS (R369, R370). -/
def Mach.heartbeatLoss (m : Mach) (s : Nat) : Mach :=
  if !m.journals s then m
  else
    let m1 := (((m.bumpF s Reg.LNK_TWIN_STATUS_MISSED).setTwin s 3).rejoinStops s).event s 0x0009 [m.getF s Reg.LNK_TWIN_CFG_TWIN_SDID]
    if m.getB s Reg.LNK_TWIN_CFG_AUTO_TAKEOVER then m1.takeover s false else m1

/-- The valid entries of a mirrored map: logical pages, ascending (R235). -/
def Mach.mirrorMap (m : Mach) (s c l1 : Nat) : List Nat :=
  let word (b i : Nat) : Nat := ofLeBytes (PByte.vals (m.homeBytes (devAddr s 4 ((m.twin s).base + jMap c + 1024 * b + 4 * i)) 4))
  if l1 ≥ 2 ^ 24 then []
  else
    (List.range 256).flatMap (fun i =>
      let e := word l1 i
      if bit e 31 then (List.range 256).filterMap (fun j => if bit (word (e % 2 ^ 24) j) 31 then some (256 * i + j) else none) else [])

/-- A sequence installed from the mirror (R372): DROPPED pages of its own, or LENGTH 0 and KV_MAP_FULL when blocks or ids run out. -/
def Mach.installSeq (m : Mach) (s q : Nat) : Mach :=
  let c := cabOf q
  let d := PByte.vals (m.homeBytes (devAddr s 4 ((m.twin s).base + jDesc + 64 * q)) 64)
  let x : Seq := {
    pinned := bit (fieldAt d 1 1) 0, exhausted := bit (fieldAt d 1 1) 1, cls := fieldAt d 2 1, fmt := fieldAt d 3 1, hd := fieldAt d 4 1
    streams := fieldAt d 6 2, length := fieldAt d 8 4, sync := m.handle s (handleObj (fieldAt d 0x10 4)), lastFail := fieldAt d 0x18 2
    tag := fieldAt d 0x20 8, planId := fieldAt d 0x28 8 }
  let put (y : Seq) : Mach := m.updStk s (fun k => { k with seqs := SMap.put k.seqs q y })
  let r := (m.mirrorMap s c (fieldAt d 0x0C 4)).foldl (fun (t : Option Mach) g => t.bind (fun m =>
    (m.needBlocks s c q g).bind (fun m1 =>
      (m1.freeId s c).map (fun id =>
        (m1.setPage s c id (some { loc := 3, cls := x.cls, refs := 1, pins := x.pinned.toNat, stamp := m1.getF s Reg.CAB_STAMP_STAMP c })).mapPut
          s c q g id)))) (some (put x))
  match r with
  | some m1 => if (m1.seq s q).any (fun y => y.map = []) then (put { x with flagged := true }).syncCab s c else m1.syncCab s c
  | none => put { x with length := 0, lastFail := 0x31, flagged := true }

/-- TWIN_INSTALL (R372): with no plan LOADED or RUNNING the lowest held sequence is installed. -/
def Mach.twinInstall (m : Mach) (s : Nat) : Mach :=
  match (m.twin s).held with
  | [] => m
  | q :: r =>
    if m.planOn s then m
    else (m.installSeq s q).updTwin s (fun t => { t with held := r, installed := t.installed ++ [q], fresh := t.fresh + 1, installing := true })

/-- Sequences that the stack serves for its twin are freed. -/
def Mach.freeTwin (m : Mach) (s : Nat) : Mach :=
  let m1 := (m.twin s).installed.foldl (fun m q => if (m.seq s q).isSome then (m.freeSeq s (cabOf q) q false).syncCab s (cabOf q) else m) m
  m1.updTwin s (fun t => { t with held := [], installed := [], serving := false, installing := false, fresh := 0 })

/-! ## Leaving (R373, R374) -/

/-- A final epoch is closed, if the stack keeps a journal. -/
def Mach.finalEpoch (m : Mach) (s : Nat) : Mach := if m.journals s then m.closeEpoch s else m

/-- The stack enters DETACHED (R373): a final epoch, CONTROL DETACH. -/
def Mach.detach (m : Mach) (s : Nat) : Mach :=
  (((m.finalEpoch s).twinControl s 3 0).setTwin s 5).updTwin s (fun t => { t with detached := true })

/-- A takeover conflict as this stack sees it; `theirs` says that the twin took over (R374). CONFLICT tells the twin, so that both raise it. A stack that
took nothing over gives way: its plan ends. -/
def Mach.conflict (m : Mach) (s : Nat) (theirs : Bool) : Mach :=
  let st := m.twinState s
  let raise (m : Mach) : Mach := m.event s 0x000C [m.getF s Reg.LNK_TWIN_CFG_TWIN_SDID]
  if st = 4 ∧ (m.twin s).surprise then
    let m1 := ((raise m).twinControl s 5 1).updTwin s (fun t => { t with surprise := false })
    if theirs ∧ !m.getB s Reg.LNK_TWIN_CFG_LOWER then (m1.freeTwin s).detach s else m1
  else if theirs ∧ (st = 2 ∨ st = 3 ∨ st = 6) then (((raise m).twinControl s 5 0).endPlan s 0x0020).detach s
  else m

/-- HEARTBEAT (R368, R369, R374): that of a twin that journals closes its epoch. -/
def Mach.heartbeatIn (m : Mach) (s e b st : Nat) : Mach :=
  let m0 := m.updTwin s (fun t => { t with theirs := st })
  if m.twinState s = 4 ∨ (st = 4 ∧ !(m.twin s).serving) then m0.conflict s (st = 4)
  else if m.journals s ∧ (st = 2 ∨ st = 6) ∧ e = (m.getF s Reg.LNK_TWIN_STATUS_EPOCH + 1) % 2 ^ 32 ∧ b ≤ jLogSize then
    (m0.updTwin s (fun t => { t with close := some (e, b) })).applyEpoch s
  else m0

/-! ## Coming back (R370, R375, R376) -/

/-- CONTROL STOP after a final epoch, on each twin link (R370). -/
def Mach.twinStop (m : Mach) (s : Nat) : Mach := if m.journals s then (m.finalEpoch s).twinControl s 4 0 else m

/-- The pair of stack s ends on this side (R376), and with it the use of its twin links (R14). -/
def Mach.unpair (m : Mach) (s : Nat) : Mach :=
  let a := (m.setTwin s 0).setF s Reg.LNK_TWIN_CFG_TWIN_SDID 0xFFFF
  ((a.setF s Reg.LNK_TWIN_CFG_LOWER 0).updTwin s (fun _ => {})).linksSettle s (m.features s)

/-- Sequences are held or LIVE here for the twin. -/
def Mach.servesAny (m : Mach) (s : Nat) : Bool := decide ((m.twin s).held ≠ []) || (m.twin s).installed.any (fun q => (m.seq s q).isSome)

/-- A CONTROL REJOIN with a code, on the link of the journal: 1 the stack has had its TWIN_REJOIN, 2 the hand-back epoch is closed, 3 the
sequences are installed, 4 the pair ends, 5 a plan is LOADED or RUNNING here (log entry 30). -/
def Mach.rejoinSend (m : Mach) (s arg : Nat) : Mach := m.linkPush s (m.journalLink s) [controlFlit 6 arg]

/-- TWIN_INSTALLED, with the number of sequences (R372). -/
def Mach.installedEvent (m : Mach) (s n : Nat) : Mach := (m.updTwin s (fun t => { t with installing := false, fresh := 0 })).event s 0x000B [n]

/-- The survivor hands the sequences back as one epoch, once both twins have had TWIN_REJOIN (R375); held ones are installed first. -/
def Mach.handBack (m : Mach) (s : Nat) : Mach :=
  let t := m.twin s
  if m.twinState s ≠ 6 ∨ !t.rejoinMe ∨ !t.rejoinYou ∨ !t.serving then m
  else
    let m0 := t.held.foldl (fun m _ => m.twinInstall s) m
    let m1 := if (m0.twin s).installing then m0.installedEvent s (m0.twin s).fresh else m0
    ((m1.journalMany s (m1.seqRecords s ((m1.twin s).installed.filter (fun q => (m1.seq s q).isSome)))).closeEpoch s).rejoinSend s 2

/-- The pair is PAIRED again on this side: the full journal is sent, TWIN_REJOIN completes with the count. -/
def Mach.rejoined (m : Mach) (s count : Nat) : Mach :=
  let m1 := ((m.setTwin s 2).journalAll s).updTwin s (fun t => { t with
    rejoinMe := false, rejoinYou := false, installing := false, fresh := 0, detached := false })
  m1.completeDeferred 0x0604 (fun r => r.stack = s) 0 (leBytes 4 count)

/-- CONTROL REJOIN (R375, R376). The pair does not end on a side that serves its twin or rejoins it. -/
def Mach.rejoinIn (m : Mach) (s arg : Nat) : Mach :=
  if arg = 4 then (if m.twinState s = 0 ∨ m.twinState s = 6 ∨ (m.twinState s = 4 ∧ m.servesAny s) then m else m.unpair s)
  else if m.twinState s ≠ 6 then m
  else if arg = 1 then
    (if m.planOn s then m.rejoinSend s 5 else (m.updTwin s (fun t => { t with rejoinYou := true })).handBack s)
  else if arg = 5 then
    (m.updTwin s (fun t => { t with rejoinMe := false })).completeDeferred 0x0604 (fun r => r.stack = s) 0x0010
  else if arg = 2 ∧ !(m.twin s).serving then
    let ids := m.mirrorIds s
    let m1 := ids.foldl (fun m q => m.installSeq s q) m
    ((m1.installedEvent s ids.length).rejoined s ids.length).rejoinSend s 3
  else if arg = 3 ∧ (m.twin s).serving then
    let n := (m.twin s).installed.length
    (m.freeTwin s).rejoined s n
  else m

/-! ## Commands -/

/-- A flit of the twin: it counts only on a twin link whose peer is the twin. -/
def Mach.fromTwin (m : Mach) (h : FlitHead) (k : Mach → Option Mach) : Mach :=
  m.flit h (fun m =>
    if (m.twinLinks h.stack).contains h.link.val ∧ m.getF h.stack Reg.LNK_PEER_SDID h.link = m.getF h.stack Reg.LNK_TWIN_CFG_TWIN_SDID then k m
    else some m)

/-- JOURNAL (R368). -/
def execJournal (a : FlitIn) (s : State) : Out :=
  onStack s a.head.stack (fun _ m => m.fromTwin a.head (fun m => m.journalIn a.head.stack a.head.link a.route a.addr.toNat (a.payload.take a.len)))

/-- HEARTBEAT (R369). -/
def execHeartbeat (a : HeartbeatIn) (s : State) : Out :=
  onStack s a.head.stack (fun _ m => m.fromTwin a.head (fun m =>
    some (if a.sdid.toNat = m.getF a.head.stack Reg.LNK_TWIN_CFG_TWIN_SDID then
      m.heartbeatIn a.head.stack a.epoch.toNat a.bytes.toNat a.state else m)))

/-- PAIR_HELLO (R365): it may come before this stack's own TWIN_PAIR; one that comes to a pair that is complete is a repeat. -/
def execPairHello (a : ControlIn) (s : State) : Out :=
  onStack s a.head.stack (fun _ m => m.flit a.head (fun m =>
    some (if m.journals a.head.stack then m
      else (m.updTwin a.head.stack (fun t => { t with hello := some a.arg.toNat })).pairDone a.head.stack)))

/-- CONTROL_DETACH (R370). -/
def execControlDetach (a : ControlIn) (s : State) : Out :=
  onStack s a.head.stack (fun _ m => m.fromTwin a.head (fun m => some (m.announcedEnd a.head.stack)))

/-- CONTROL_STOP (R370). -/
def execControlStop (a : ControlIn) (s : State) : Out :=
  onStack s a.head.stack (fun _ m => m.fromTwin a.head (fun m => some (m.announcedEnd a.head.stack)))

/-- CONTROL_CONFLICT (R374): its argument says that the twin took over. -/
def execControlConflict (a : ControlIn) (s : State) : Out :=
  onStack s a.head.stack (fun _ m => m.fromTwin a.head (fun m => some (m.conflict a.head.stack (bit a.arg.toNat 0))))

/-- CONTROL_REJOIN (R375). -/
def execControlRejoin (a : ControlIn) (s : State) : Out :=
  onStack s a.head.stack (fun _ m => m.fromTwin a.head (fun m => some (m.rejoinIn a.head.stack a.arg.toNat)))

/-- HEARTBEAT_SEND (R369). -/
def execHeartbeatSend (a : AtStack) (s : State) : Out := onStack s a.stack (fun _ m => m.heartbeatSend a.stack)

/-- HEARTBEAT_LOSS (R369). -/
def execHeartbeatLoss (a : AtStack) (s : State) : Out := onStack s a.stack (fun _ m => m.heartbeatLoss a.stack)

/-- TWIN_INSTALL (R372). -/
def execTwinInstall (a : AtStack) (s : State) : Out := onStack s a.stack (fun _ m => m.twinInstall a.stack)

/-- TWIN_INSTALLED (R372). -/
def execTwinInstalled (a : AtStack) (s : State) : Out :=
  onStack s a.stack (fun _ m =>
    let t := m.twin a.stack
    if t.held ≠ [] ∨ !t.installing then m
    else m.installedEvent a.stack t.fresh)

end Sys2Proof.Machine
end

