-- ==== Sys2Proof/Machine/Power.lean ====
section
/-! DEFINITION. Throttle limits, the orderly stop, rail faults and the power events of a stack (spec/17_power.md, R470 to R479; spec/18_thermal.md,
R498 to R502). -/

namespace Sys2Proof.Machine

/-! ## Throttling (R498, R499) -/

/-- The limit code of a throttle level (Table TH-3). -/
def limitCode (l : Nat) : Nat := [60, 50, 40, 30, 20, 10, 10, 10].getD l 10

/-- The channels that govern region r, and for 16 those that govern L_s (R498). -/
def governors (r : Nat) : List Nat :=
  if r = 16 then (List.range 32).map (· + 24) else if 4 ≤ r ∧ r ≤ 11 then [r, 12 + r] else [r]

/-- Channel c has a valid reading and is not faulted. -/
def Mach.chValid (m : Mach) (s c : Nat) : Bool := m.getF s Reg.THM_CH_STATUS_TEMP c ≠ 0x8000 && !m.getB s Reg.THM_CH_STATUS_FAULT c

/-- Every channel that governs region r is faulted. -/
def Mach.blind (m : Mach) (s r : Nat) : Bool := (governors r).all (fun c => m.getB s Reg.THM_CH_STATUS_FAULT c)

/-- The highest level of regions 0 to 15 that are not blind. -/
def Mach.highestLevel (m : Mach) (s : Nat) : Nat :=
  (List.range 16).foldl (fun l r => if m.blind s r then l else max l (m.getF s Reg.THM_THROTTLE_LEVEL r)) 0

/-- A governor level set; a rise is counted. -/
def Mach.setLevel (m : Mach) (s r l : Nat) : Mach :=
  let m1 := m.setF s Reg.THM_THROTTLE_LEVEL l r
  if m.getF s Reg.THM_THROTTLE_LEVEL r < l then m1.bumpF s Reg.THM_THROTTLE_RAISES r else m1

/-- A blind region takes the highest level of the others; limit codes and LDOs follow the levels in effect. -/
def Mach.syncThrottle (m : Mach) (s : Nat) : Mach :=
  let m1 := (List.range 16).foldl (fun m r => if m.blind s r then m.setF s Reg.THM_THROTTLE_LEVEL (m.highestLevel s) r else m) m
  let ls := m1.getF s Reg.THM_THROTTLE_LEVEL 16
  let m2 := (List.range 17).foldl (fun m r =>
    m.setF s Reg.THM_THROTTLE_LIMIT_CODE (limitCode (max (m.getF s Reg.THM_THROTTLE_LEVEL r) ls)) r) m1
  m2.ldoSettleAll s

/-! ## The orderly stop (R501, R502) -/

/-- Stack s takes part in a start that runs. -/
def Mach.starting (m : Mach) (s : Nat) : Bool := m.boot.start.isSome && !m.boot.left.contains s

/-- The thermal state of stack s changed. -/
def Mach.updTherm (m : Mach) (s : Nat) (f : ThermSt → ThermSt) : Mach := m.updStk s (fun k => { k with therm := f k.therm })

/-- Every core of stack s enters Stop. -/
def Mach.stopCores (m : Mach) (s : Nat) : Mach := ((List.range 864).foldl (fun m p => m.coreStop s p) m).syncPower s

/-- Steps 1 to 5 of R501. -/
def Mach.stopNow (m : Mach) (s : Nat) (c : StopCause) : Mach :=
  let m1 := ((List.range 16).foldl (fun m r => m.setLevel s r 7) m).syncThrottle s
  let m2 := ((m1.endPlan s 0x0027).twinStop s).stopCores s
  ((m2.setF s Reg.THM_STATUS_STOP_HOLD 1).bumpF s Reg.THM_STATUS_STOPS).updTherm s (fun k => { k with causes := k.causes ++ [c] })

/-- A trigger of the orderly stop (R501): it joins one that is under way, holds a start (R468), and is absorbed by device Stop. -/
def Mach.orderlyStop (m : Mach) (s : Nat) (c : StopCause) : Mach :=
  if m.getB s Reg.BUR_STATUS_HALTED ∨ m.getF 0 Reg.AON_WAKE_STATUS_STATE = 1 ∨ m.getF 0 Reg.AON_WAKE_STATUS_STATE = 2 then m
  else if m.starting s then m.updTherm s (fun k => { k with holds := k.holds.filter (· ≠ c) ++ [c] })
  else if m.getB s Reg.THM_STATUS_STOP_HOLD then m.updTherm s (fun k => { k with causes := k.causes.filter (· ≠ c) ++ [c] })
  else m.stopNow s c

/-- A cause of the stop has ended: STOP_HOLD clears with the last (R502), and a held start goes on. -/
def Mach.causeEnded (m : Mach) (s : Nat) (c : StopCause) : Mach :=
  let m1 := m.updTherm s (fun k => { k with causes := k.causes.filter (· ≠ c) })
  if (m1.stk s).therm.causes = [] then m1.setF s Reg.THM_STATUS_STOP_HOLD 0 else m1

/-! ## Rails (R472, R474, R550) -/

/-- The nominal voltage of rail i in mV (Table PW-1; rail 0 is T of R473). -/
def Mach.railNominal (m : Mach) (s i : Nat) : Nat :=
  if i = 0 then 800 + 5 * m.getF s Reg.PWR_AVS_TARGET else [850, 750, 800, 900, 1200, 900, 500, 1050, 750, 1800].getD i 0

/-- A voltage outside ±5% of nominal. -/
def Mach.railOut (m : Mach) (s i mv : Nat) : Bool :=
  let n := m.railNominal s i
  decide (100 * mv < 95 * n) || decide (105 * n < 100 * mv)

/-- A rail fault (R474). -/
def Mach.railFault (m : Mach) (s i : Nat) : Mach :=
  let m1 := (m.setF s Reg.PWR_STATUS_FAULT 1).setF s Reg.PWR_STATUS_FAULT_RAIL i
  ((m1.setF s Reg.PWR_RAIL_FAULT 1 i).srcEdge s 1).orderlyStop s .rail

/-- R474's cause has ended: FAULT is clear and no rail lies outside its tolerance (R502). -/
def Mach.railSettle (m : Mach) (s : Nat) : Mach :=
  if m.getB s Reg.PWR_STATUS_FAULT ∨ (m.pw s).railOut ≠ [] then m
  else (m.updTherm s (fun k => { k with holds := k.holds.filter (· ≠ .rail) })).causeEnded s .rail

/-- A housekeeping sample of rail i (R471, R474): a second one in succession out of tolerance is a fault; a rail that is off is not judged. -/
def Mach.railSample (m : Mach) (s i mv : Nat) : Mach :=
  let m1 := m.setF s Reg.PWR_RAIL_VOUT mv i
  if m.getB s Reg.PWR_RAIL_ENABLED i && m.railOut s i mv then
    let m2 := m1.updPw s (fun k => { k with railOut := k.railOut.filter (· ≠ i) ++ [i] })
    if (m.pw s).railOut.contains i then m2.railFault s i else m2
  else (m1.updPw s (fun k => { k with railOut := k.railOut.filter (· ≠ i) })).railSettle s

/-- PMBUS_ALERT (R472, R474): source 1; the power manager reads STATUS_WORD and READ_IOUT of the regulator. -/
def Mach.pmbusAlert (m : Mach) (s i word iout : Nat) (fault : Bool) : Mach :=
  let m1 := ((m.srcEdge s 1).setF s Reg.PWR_RAIL_STATUS_WORD word i).setF s Reg.PWR_RAIL_IOUT iout i
  if fault then m1.railFault s i else m1

/-- Rails l switched on or off (RAIL_ON, ENABLED). -/
def Mach.setRails (m : Mach) (s : Nat) (l : List Nat) (on : Bool) : Mach :=
  l.foldl (fun m i =>
    (m.setF s Reg.PWR_RAIL_ENABLED on.toNat i).setF s Reg.PWR_STATUS_RAIL_ON (putBit (m.getF s Reg.PWR_STATUS_RAIL_ON) i on)) m

/-! ## Commands -/

/-- VOUT_SETTLED (R473). -/
def execVoutSettled (a : AtStack) (s : State) : Out := onStack s a.stack (fun _ m => m.voutSettled a.stack)

/-- AVS_TARGET_FALL (R473). -/
def execAvsTargetFall (a : AtStack) (s : State) : Out := onStack s a.stack (fun _ m => m.avsFall a.stack)

/-- REGION_AVERAGE (R477). -/
def execRegionAverage (a : RegionDraw) (s : State) : Out :=
  onStack s a.stack (fun _ m => m.regionAverage a.stack a.region a.draw)

/-- CORE_WAKE (R478). -/
def execCoreWake (a : AtPosition) (s : State) : Out := onStack s a.stack (fun _ m => m.coreWake a.stack a.position)

/-- WAKE_WAIT_END (R478). -/
def execWakeWaitEnd (a : WakeWait) (s : State) : Out := onStack s a.stack (fun _ m => m.wakeWaitEnd a.stack a.position a.us)

/-- CORE_WAKE_DONE (R478). -/
def execCoreWakeDone (a : AtPosition) (s : State) : Out := onStack s a.stack (fun _ m => m.coreWakeDone a.stack a.position)

/-- PMBUS_ALERT (R472). -/
def execPmbusAlert (a : RailAlert) (s : State) : Out :=
  onStack s a.stack (fun _ m => m.pmbusAlert a.stack a.rail a.word.toNat a.iout.toNat a.fault)

end Sys2Proof.Machine
end

