-- ==== Sys2Proof/Machine/Thermal.lean ====
section
/-! DEFINITION. Housekeeping samples, bands, the fast set, governors, the stop limit and the hardware trip (spec/18_thermal.md, R491 to R504); the
refresh and retraining of the tier (R392, R393). -/

namespace Sys2Proof.Machine

/-! ## Bands (R495, R496) -/

/-- A temperature as read: two's complement in units of 0.125 °C. -/
def degrees (t : Nat) : Int := toSigned 16 t

/-- The lower bound of a band, in units of 0.125 °C (Table TH-2); band 0 has none. -/
def bandLow (b : Nat) : Int := [-32768, 200, 680, 800, 880].getD b (-32768)

/-- The band whose bounds a temperature lies in. -/
def bandOf (t : Int) : Nat := ((List.range 5).filter (fun b => decide (bandLow b ≤ t))).length - 1

/-- The band of a channel that was in band `b` (R495): up at a lower bound, down at 2 °C below it. -/
def bandNext (b : Nat) (t : Int) : Nat :=
  if b = 7 then bandOf t
  else max (bandOf t) (((List.range (b + 1)).filter (fun k => k = 0 || decide (bandLow k - 16 ≤ t))).foldl max 0)

/-- The refresh multiplier, write-assist level and coupler pulse width in ps of a band (Table TH-2). -/
def bandSettings (b : Nat) : Nat × Nat × Nat := [(1, 2, 60), (1, 0, 72), (2, 1, 84), (4, 2, 96), (4, 3, 96)].getD b (1, 0, 72)

/-- The valid diode channels. -/
def Mach.validDiodes (m : Mach) (s : Nat) : List Nat := (List.range 48).filter (fun c => m.chValid s c)

/-- The hottest valid diode channel, the lowest on a tie; 0 when none is valid. -/
def Mach.hottest (m : Mach) (s : Nat) : Nat :=
  ((m.validDiodes s).foldl (fun b c =>
    match b with
    | none => some c
    | some d => if degrees (m.getF s Reg.THM_CH_STATUS_TEMP d) < degrees (m.getF s Reg.THM_CH_STATUS_TEMP c) then some c else some d) none).getD 0

/-! ## Events (R500) -/

/-- A thermal event: source 0 and THERMAL to the host. -/
def Mach.thermal (m : Mach) (s c band kind : Nat) : Mach := (m.srcEdge s 0).event s 0x000F [c, band, kind]

/-- An event of channel c. -/
def Mach.chEvent (m : Mach) (s c kind : Nat) : Mach :=
  (m.setF s Reg.THM_CH_STATUS_EVENT 1 c).thermal s c (m.getF s Reg.THM_CH_STATUS_BAND c) kind

/-- The pulse width in effect follows the stack band; HOLD_PW freezes it, but not in the hot and critical bands (R286). -/
def Mach.syncPulse (m : Mach) (s : Nat) : Mach :=
  let b := m.getF s Reg.THM_STATUS_STACK_BAND
  if b = 7 ∨ (m.getB s Reg.VCP_CTRL_HOLD_PW ∧ b < 3) then m else m.setF s Reg.VCP_CTRL_PW_NOW b

/-- The stack band follows its channels, with the settings that it selects (R495, R496). -/
def Mach.syncBand (m : Mach) (s : Nat) : Mach :=
  let l := m.validDiodes s
  let b := if l = [] then 7 else l.foldl (fun b c => max b (m.getF s Reg.THM_CH_STATUS_BAND c)) 0
  let h := m.hottest s
  let m1 := ((m.setF s Reg.THM_STATUS_HOTTEST h).setF s Reg.THM_STATUS_STACK_BAND b).syncPulse s
  let m2 := if b = 7 then m1 else m1.setF s Reg.THM_STATUS_ASSIST (bandSettings b).2.1
  if b = m.getF s Reg.THM_STATUS_STACK_BAND then m2 else m2.thermal s h b 0

/-- FAULTS kept in step. -/
def Mach.syncFaults (m : Mach) (s : Nat) : Mach :=
  m.setF s Reg.THM_STATUS_FAULTS ((List.range 64).filter (fun c => m.getB s Reg.THM_CH_STATUS_FAULT c)).length

/-! ## The fast set (R493) -/

/-- The level at which channel c joins the fast set: THROTTLE − 5 °C; none when THROTTLE is disabled. -/
def Mach.fastLevel (m : Mach) (s c : Nat) : Option Int :=
  if m.getF s Reg.THM_CH_CFG_THROTTLE c = 0x7FFF ∨ c ≥ 56 then none else some (degrees (m.getF s Reg.THM_CH_CFG_THROTTLE c) - 40)

/-- How far a channel lies above its level. -/
def Mach.fastOver (m : Mach) (s c : Nat) : Int := degrees (m.getF s Reg.THM_CH_STATUS_TEMP c) - (m.fastLevel s c).getD 0

/-- Channel c ranks before d in the fast set: the larger TEMP − THROTTLE, then the lower number. -/
def Mach.ranksBefore (m : Mach) (s c d : Nat) : Bool :=
  decide (m.fastOver s d < m.fastOver s c) || (m.fastOver s c = m.fastOver s d && decide (c < d))

/-- The fast set replaced: FAST, FAST_COUNT, and the claim of FW_PROTECT on the fast slot, which ends a diagnostic sampling (Table EV-8). -/
def Mach.setFast (m : Mach) (s : Nat) (l : SMap Nat) : Mach :=
  let m1 := m.updTherm s (fun k => { k with fast := l })
  let m2 := (List.range 64).foldl (fun m c => m.setF s Reg.THM_CH_STATUS_FAST (l.any (fun e => e.1 = c)).toNat c) m1
  let m3 := m2.setF s Reg.THM_STATUS_FAST_COUNT l.length
  if l ≠ [] then (m3.claim s 136 1 0).setF s Reg.THM_DIAG_EN 0
  else if m3.getF s Reg.REG_OWNER_OWNER 136 = 1 then m3.release s 136
  else m3

/-- The fast set ranked again at a normal sample: the channels at or above their level and the members that have not left; at most 8. -/
def Mach.rankFast (m : Mach) (s : Nat) : Mach :=
  let old := (m.stk s).therm.fast
  let cand := (List.range 56).filter (fun c =>
    match m.fastLevel s c with
    | none => false
    | some v => m.chValid s c && (old.any (fun e => e.1 = c) || decide (v ≤ degrees (m.getF s Reg.THM_CH_STATUS_TEMP c))))
  let top := cand.filter (fun c => decide ((cand.filter (fun d => m.ranksBefore s d c)).length < 8))
  m.setFast s (top.map (fun c => (c, SMap.getD old c 0)))

/-- A fast sample of a member: 8 in succession below the level end its membership. -/
def Mach.fastSample (m : Mach) (s c : Nat) : Mach :=
  let old := (m.stk s).therm.fast
  match SMap.find old c, m.fastLevel s c with
  | some n, some v =>
    if v ≤ degrees (m.getF s Reg.THM_CH_STATUS_TEMP c) ∧ m.chValid s c then m.updTherm s (fun k => { k with fast := SMap.put old c 0 })
    else if n + 1 ≥ 8 ∨ !m.chValid s c then m.setFast s (SMap.erase old c)
    else m.updTherm s (fun k => { k with fast := SMap.put old c (n + 1) })
  | some _, none => m.setFast s (SMap.erase old c)
  | none, _ => m

/-! ## Governors (R498) -/

/-- The governor of region r at a sample of one of its channels. -/
def Mach.govern (m : Mach) (s r : Nat) : Mach :=
  let l := (governors r).filter (fun c => m.chValid s c && m.getF s Reg.THM_CH_CFG_THROTTLE c ≠ 0x7FFF)
  let above (k : Int) (c : Nat) : Bool := decide (degrees (m.getF s Reg.THM_CH_CFG_THROTTLE c) - k ≤ degrees (m.getF s Reg.THM_CH_STATUS_TEMP c))
  let v := m.getF s Reg.THM_THROTTLE_LEVEL r
  if l.any (above 0) then m.setLevel s r (min 7 (v + 1))
  else if l.all (fun c => !above 16 c) then m.setLevel s r (v - 1)
  else m

/-- The governors that channel c takes part in. -/
def Mach.governBy (m : Mach) (s c : Nat) : Mach :=
  let l := (List.range 17).filter (fun r => (governors r).contains c)
  if l = [] then m else (l.foldl (fun m r => m.govern s r) m).syncThrottle s

/-! ## Faults of channels (R494) -/

/-- More than 4 diode channels of one die are faulted. -/
def Mach.tooManyFaults (m : Mach) (s : Nat) : Bool :=
  let n (lo hi : Nat) : Nat := ((List.range 48).filter (fun c => lo ≤ c && c < hi && m.getB s Reg.THM_CH_STATUS_FAULT c)).length
  decide (4 < n 0 24) || decide (4 < n 24 48)

/-- The cause of R494 has ended (R502). -/
def Mach.channelsSettle (m : Mach) (s : Nat) : Mach :=
  if m.tooManyFaults s then m else (m.updTherm s (fun k => { k with holds := k.holds.filter (· ≠ .channels) })).causeEnded s .channels

/-- Channel c faults: it reads 0x8000 and takes part in nothing. -/
def Mach.chFault (m : Mach) (s c : Nat) : Mach :=
  let a := (m.setF s Reg.THM_CH_STATUS_TEMP 0x8000 c).setF s Reg.THM_CH_STATUS_BAND 7 c
  let b := a.updTherm s (fun k => { k with good := SMap.put k.good c 0, stopAt := k.stopAt.filter (· ≠ c) })
  if m.getB s Reg.THM_CH_STATUS_FAULT c then b
  else
    let d := (((b.setF s Reg.THM_CH_STATUS_FAULT 1 c).syncFaults s).chEvent s c 4).syncBand s
    let e := (d.syncThrottle s).setFast s (SMap.erase (m.stk s).therm.fast c)
    if e.tooManyFaults s then e.orderlyStop s .channels else e

/-! ## The stop limit (R501, R502) -/

/-- A diode channel at or above 115 °C for the second time in succession stops the stack. -/
def Mach.stopLimit (m : Mach) (s c : Nat) (t : Int) : Mach :=
  let at' := (m.stk s).therm.stopAt
  if c ≥ 48 then m
  else if 920 ≤ t then
    let m1 := m.updTherm s (fun k => { k with stopAt := at'.filter (· ≠ c) ++ [c] })
    if at'.contains c then m1.orderlyStop s .hot else m1
  else
    m.updTherm s (fun k => { k with
      stopAt := at'.filter (· ≠ c), holds := if at'.filter (· ≠ c) = [] then k.holds.filter (· ≠ .hot) else k.holds })

/-- Whether every valid diode channel has read below 100 °C for 1 s (R502). -/
def Mach.coolDown (m : Mach) (s : Nat) : Mach :=
  let cool := (m.validDiodes s).all (fun c => decide (degrees (m.getF s Reg.THM_CH_STATUS_TEMP c) < 800))
  if !cool then m.updTherm s (fun k => { k with coolSince := none })
  else
    let t := (m.stk s).therm.coolSince.getD (m.now s)
    let m1 := m.updTherm s (fun k => { k with coolSince := some t })
    if t + 10 ^ 9 ≤ m.now s then m1.causeEnded s .hot else m1

/-! ## One sample -/

/-- A valid temperature of channel c: TEMP, MAX and band, the crossings of its limits, governors and the stop limit. -/
def Mach.chTemp (m : Mach) (s c v : Nat) : Mach :=
  let t := degrees v
  let old := m.getF s Reg.THM_CH_STATUS_TEMP c
  let was := m.chValid s c
  let top := m.getF s Reg.THM_CH_STATUS_MAX c
  let a := (m.setF s Reg.THM_CH_STATUS_TEMP v c).setF s Reg.THM_CH_STATUS_BAND (bandNext (m.getF s Reg.THM_CH_STATUS_BAND c) t) c
  let b := if degrees top < t then a.setF s Reg.THM_CH_STATUS_MAX v c else a
  let reach (limit : Int) : Bool := decide (limit ≤ t) && !(was && decide (limit ≤ degrees old))
  let warn := m.getF s Reg.THM_CH_CFG_WARN c
  let thr := m.getF s Reg.THM_CH_CFG_THROTTLE c
  let d := if warn ≠ 0x7FFF ∧ reach (degrees warn) then b.chEvent s c 1 else b
  let e := if thr ≠ 0x7FFF ∧ reach (degrees thr) then d.chEvent s c 2 else d
  let f := if reach 920 then e.chEvent s c 3 else e
  (((f.syncBand s).governBy s c).stopLimit s c t).coolDown s

/-- A good sample of a faulted channel; the eighth in succession ends the fault and counts as a reading. -/
def Mach.chRecover (m : Mach) (s c v : Nat) : Mach :=
  let n := SMap.getD (m.stk s).therm.good c 0 + 1
  let m1 := m.updTherm s (fun k => { k with good := SMap.put k.good c n })
  if n < 8 then m1
  else ((((m1.setF s Reg.THM_CH_STATUS_FAULT 0 c).syncFaults s).chTemp s c v).chEvent s c 5).channelsSettle s

/-- A reading lies in the range of its channel (R494): a thermistor from −40 °C to 150 °C. -/
def readingOk (c v : Nat) : Bool := v ≠ 0x8000 && (decide (c < 48) || (decide (-320 ≤ degrees v) && decide (degrees v ≤ 1200)))

/-- The self-check of the ADC (R492): a reference out of 1% discards the readings of the round and faults channel 56. -/
def Mach.reference (m : Mach) (s : Nat) (ok : Bool) : Mach :=
  if ok then
    let m1 := m.updTherm s (fun k => { k with before := [] })
    if m.getB s Reg.THM_CH_STATUS_FAULT 56 then
      let n := SMap.getD (m.stk s).therm.good 56 0 + 1
      let m2 := m1.updTherm s (fun k => { k with good := SMap.put k.good 56 n })
      if n < 8 then m2 else ((m2.setF s Reg.THM_CH_STATUS_FAULT 0 56).syncFaults s).chEvent s 56 5
    else m1
  else
    let m1 := (m.stk s).therm.before.foldl (fun m e =>
      if m.getB s Reg.THM_CH_STATUS_FAULT e.1 then m
      else (m.setF s Reg.THM_CH_STATUS_TEMP e.2.1 e.1).setF s Reg.THM_CH_STATUS_BAND e.2.2 e.1) m
    let m2 := m1.updTherm s (fun k => { k with before := [] })
    (m2.chFault s 56).syncBand s

/-- A sample of channel c is taken: in the normal round always; in a fast slot for a member of the fast set or the diagnostic channel. -/
def Mach.fastServed (m : Mach) (s c : Nat) : Bool :=
  (m.stk s).therm.fast.any (fun e => e.1 = c) || (m.getB s Reg.THM_DIAG_EN && m.getF s Reg.THM_DIAG_CHANNEL = c)

/-- ADC_SAMPLE of a channel (R492 to R498). Channels 57 to 63 are not sampled. -/
def Mach.chSample (m : Mach) (s c : Nat) (fast : Bool) (r : Reading) : Mach :=
  if c ≥ 57 ∨ (fast ∧ !m.fastServed s c) then m
  else
    match r with
    | .reference ok => if c = 56 then m.reference s ok else m
    | .temp t =>
      if c = 56 then m
      else
        let m1 := if fast then m else m.updTherm s (fun k => { k with
          before := SMap.put k.before c (m.getF s Reg.THM_CH_STATUS_TEMP c, m.getF s Reg.THM_CH_STATUS_BAND c) })
        let m2 :=
          if !readingOk c t.toNat then m1.chFault s c
          else if m.getB s Reg.THM_CH_STATUS_FAULT c then m1.chRecover s c t.toNat
          else m1.chTemp s c t.toNat
        if fast then m2.fastSample s c else m2.rankFast s
    | .bad => if c = 56 then m else (if fast then (m.chFault s c).fastSample s c else (m.chFault s c).rankFast s)

/-- DIODE_RATIO_CHECK (R494). -/
def Mach.ratioCheck (m : Mach) (s : Nat) (failed : List Nat) : Mach := failed.foldl (fun m c => m.chFault s c) m

/-- HARDWARE_TRIP (R503): THERMTRIP_N, TRIPPED and the site are latched; every core loses its power. A further trip changes nothing. -/
def Mach.trip (m : Mach) (s site : Nat) : Mach :=
  let m1 := if m.getB s Reg.THM_STATUS_TRIPPED then m else (m.setF s Reg.THM_STATUS_TRIPPED 1).setF s Reg.THM_STATUS_TRIP_SITE site
  m1.stopCores s

/-! ## Pins (R452, R503) -/

/-- ALERT_N of stack s is asserted (R330, R409, R452, R474, R500). -/
def Mach.alert (m : Mach) (s : Nat) : Bool :=
  m.getB s Reg.THM_STATUS_STOP_HOLD || m.getB s Reg.BUR_STATUS_HALTED || m.getB s Reg.THM_STATUS_TRIPPED || m.getB s Reg.PWR_STATUS_FAULT ||
    decide (m.getF s Reg.BUR_STATUS_SERVICE = 6) ||
    (List.range 64).any (fun c => m.getB s Reg.THM_CH_STATUS_FAULT c ||
      (m.chValid s c && m.getF s Reg.THM_CH_CFG_WARN c ≠ 0x7FFF &&
        decide (degrees (m.getF s Reg.THM_CH_CFG_WARN c) ≤ degrees (m.getF s Reg.THM_CH_STATUS_TEMP c))))

/-! ## The tier (R392, R393) -/

/-- REFRESH_DUE (R393): the multiplier in effect is the larger of the band's and the devices'. -/
def Mach.refresh (m : Mach) (s mr4 : Nat) : Mach :=
  let b := m.getF s Reg.THM_STATUS_STACK_BAND
  m.setF s Reg.LPD_STATUS_REFRESH_MULT (max (bandSettings b).1 mr4)

/-! ## Commands -/

/-- ADC_SAMPLE (R492). -/
def execAdcSample (a : AdcSample) (s : State) : Out :=
  onStack s a.stack (fun _ m =>
    match a.sample with
    | .channel c fast r => m.chSample a.stack c fast r
    | .rail i mv => m.railSample a.stack i mv.toNat)

/-- DIODE_RATIO_CHECK (R494). -/
def execDiodeRatioCheck (a : DiodeCheck) (s : State) : Out := onStack s a.stack (fun _ m => m.ratioCheck a.stack (a.failed.map Fin.val))

/-- HARDWARE_TRIP (R503). -/
def execHardwareTrip (a : DiodeSite) (s : State) : Out := onStack s a.stack (fun _ m => m.trip a.stack a.site)

/-- REFRESH_DUE (R393). -/
def execRefreshDue (a : RefreshAt) (s : State) : Out := onStack s a.stack (fun _ m => m.refresh a.stack a.mr4)

/-- PERIODIC_RETRAIN (R392): timing only. -/
def execPeriodicRetrain (a : AtStack) (s : State) : Out := onStack s a.stack (fun _ m => m)

end Sys2Proof.Machine
end

