-- ==== Sys2Proof/Machine/Vertical.lean ====
section
/-! DEFINITION. The vertical ports: chunks that are received, handshake errors, spares, retirement of groups and ports, port resets
(spec/10_vertical_coupling.md, R282 to R302). -/

namespace Sys2Proof.Machine

/-- The VCP_GROUP index of group g of position p. -/
def groupIndex (p g : Nat) : Nat := p * 32 + g

/-- The vertical state of stack s changed. -/
def Mach.updVcp (m : Mach) (s : Nat) (f : Vcp → Vcp) : Mach := m.updStk s (fun k => { k with vcp := f k.vcp })

/-- Groups in service of a direction of a position: 0 read, 1 write. -/
def Mach.activeGroups (m : Mach) (s p dir : Nat) : Nat :=
  if dir = 0 then m.getF s Reg.VCP_PORT_READ_ACTIVE p else m.getF s Reg.VCP_PORT_WRITE_ACTIVE p

/-- Group g of position p goes into or out of service. -/
def Mach.setActive (m : Mach) (s p g : Nat) (b : Bool) : Mach :=
  if g < 16 then m.setF s Reg.VCP_PORT_READ_ACTIVE (putBit (m.getF s Reg.VCP_PORT_READ_ACTIVE p) g b) p
  else m.setF s Reg.VCP_PORT_WRITE_ACTIVE (putBit (m.getF s Reg.VCP_PORT_WRITE_ACTIVE p) (g - 16) b) p

/-- TESTING of a position: while any of its groups is under test or spare mapping. -/
def Mach.syncTesting (m : Mach) (s p : Nat) : Mach :=
  m.setF s Reg.VCP_PORT_TESTING ((List.range 32).any (fun g => m.getB s Reg.VCP_GROUP_TESTING (groupIndex p g))).toNat p

/-- An event of the ports recorded: VCP_LAST_EVENT, and source 5 (Table EV-1). -/
def Mach.vcpEvent (m : Mach) (s p g coupler kind : Nat) : Mach :=
  let a := (m.setF s Reg.VCP_LAST_EVENT_POSITION p).setF s Reg.VCP_LAST_EVENT_GROUP g
  let b := (a.setF s Reg.VCP_LAST_EVENT_COUPLER coupler).setF s Reg.VCP_LAST_EVENT_KIND kind
  ((b.setF s Reg.VCP_LAST_EVENT_VALID 1).bumpF s Reg.VCP_LAST_EVENT_EVENTS).srcEdge s 5

/-- A service group is under test (R297). -/
def Mach.serviceTesting (m : Mach) (s p : Nat) : Bool := (m.stk s).integ.running.any (fun t => t.kind = 3 && t.index = p)

/-- A detected error of a group (R288), or of a service group (32 read, 33 write; R296, R297), which has a counter of its own: counted, recorded, raised
to the Bureau, which logs it and starts the group's test. VCP_LAST_EVENT names no service group: GROUP is 0 (DESIGN CHOICE, log entry 122). -/
def Mach.vcpError (m : Mach) (s p g kind : Nat) : Mach :=
  if g < 32 then
    let i := groupIndex p g
    (((m.bumpF s Reg.VCP_GROUP_ERRORS i).vcpEvent s p g 0x7F kind).logError s 0x0102 1 p 0 [g, kind]).detect s 2 i
  else
    let k := p * 2 + (g - 32)
    let m1 := m.updVcp s (fun v => { v with service := SMap.put v.service k (SMap.getD v.service k 0 + 1) })
    ((m1.vcpEvent s p 0 0x7F 8).logError s 0x0102 1 p 0 [g, kind]).detect s 3 p

/-- The flips of a byte on its way fail its check (R304, R306). -/
def flipDetected (d : Byte) (c : BitVec 2) : Bool := dataParity d ^^^ c ≠ 0

/-! ## Row transfers (R283) -/

/-- The groups of a direction of a position that are in service, in ascending number. -/
def Mach.serving (m : Mach) (s p dir : Nat) : List Nat :=
  ((List.range 16).filter (fun g => bit (m.activeGroups s p dir) g)).map (fun g => dir * 16 + g)

/-- The group that carries chunk i of a row transfer: the (i mod G)-th of those in service; none without any, or while the ports are in reset. -/
def Mach.chunkGroup (m : Mach) (s p dir i : Nat) : Option Nat :=
  let l := m.serving s p dir
  if m.getB s Reg.VCP_RESET_STATUS_IN_RESET then none else l[i % l.length]?

/-- The SRAM cell that holds the byte at a of stack s: of region 0x0 itself, of region 0x4 in its resident line. -/
def Mach.portCell (m : Mach) (s a : Nat) : Option Nat :=
  if daStack a ≠ s then none
  else match daRegion a with
    | 0 => some a
    | 4 => (m.cline s (daOff a / 128)).map (fun c => cellAddr s (m.home s (daOff a / 128)) c.way + a % 128)
    | _ => none

/-- The granules of the row transfer that holds a: 256 bytes of region 0x0, or the line of region 0x4. -/
def rowGranules (a : Nat) : List Nat :=
  let w := if daRegion a = 4 then 128 else 256
  (List.range (w / 8)).map (fun i => a / w * w + 8 * i)

/-- A granule that takes VERTICAL poison on its way up. -/
def lostGranule (p g : Nat) : Nat × Nat × List PByte := (p, g, (List.range 8).map (fun _ => ⟨0, 2⟩))

/-- Granules arrive at the core of p otherwise than their home holds them. -/
def Mach.arrive (m : Mach) (s : Nat) (l : List (Nat × Nat × List PByte)) : Mach :=
  m.updVcp s (fun v => { v with crossed := v.crossed.filter (fun e => !l.any (fun x => x.1 = e.1 && x.2.1 = e.2.1)) ++ l })

/-- The eight bytes of the granule at g as the couplers deliver them: in the form in which the cache die drives them (R308), with the flips. -/
def portBytes (g : Nat) (bs : List PByte) (flips : List (Byte × BitVec 2)) : Mem :=
  ((flips.take 8).zipIdx).foldl (fun m e => m.disturb ⟨g + e.2, e.1.1, e.1.2⟩) (Mem.write {} g bs)

/-- CHUNK_RECEIVE (R287, R314): the granule at a crosses the port of position p on the group of its chunk, with flips in its bytes, or with a handshake
mismatch, which leaves its row transfer incomplete. The cache die checks it before it drives it. -/
def Mach.chunkReceive (m : Mach) (s p a : Nat) (flips : List (Byte × BitVec 2)) (mismatch : Bool) : Mach :=
  let g8 := a / 8 * 8
  match m.portCell s g8 with
  | none => m
  | some c =>
    match m.chunkGroup s p 0 (c % 256 / 8) with
    | none => m
    | some g =>
      let m0 := m.detectRead c 8
      if mismatch then
        ((m0.arrive s ((rowGranules a).map (lostGranule p))).updVcp s (fun v => { v with chunk := (lostGranule p g8).2.2 })).vcpError s p g 2
      else
        let bs := (List.range 8).map (fun i => m.sramByte (c + i))
        let w := portBytes g8 bs flips
        let k := w.portClass g8
        let got := if k.1 = 0 then w.read g8 8 else (List.range 8).map (fun _ => (⟨0, k.1⟩ : PByte))
        let m1 := (if got = bs then m0 else m0.arrive s [(p, g8, got)]).updVcp s (fun v => { v with chunk := got })
        if k.2 then m1.vcpError s p g 1 else m1

/-- What a byte of a write chunk is at the cache die (R290): the data and the difference of its check bits from the correct ones. -/
inductive WByte where
  | data (b : Byte) | skip | bad
  deriving DecidableEq, Repr

def wbyte (d : Byte) (c : BitVec 2) : WByte := if c = 0 then .data d else if c = 3 ∧ d = 0 then .skip else .bad

/-- The errors of a write transfer of bytes l at a, of which chunk `mis` has a handshake mismatch: the number of each chunk in its row, and the KIND. -/
def writeErrors (a : Nat) (l : List WByte) (mis : Option Nat) : List (Nat × Nat) :=
  (List.range (if l = [] then 0 else (a + l.length - 1) / 8 + 1 - a / 8)).filterMap (fun j =>
    let i := (a / 8 + j) % 32
    if mis = some i then some (i, 2)
    else if (l.zipIdx).any (fun e => e.1 = .bad && (a + e.2) / 8 = a / 8 + j) then some (i, 1) else none)

/-- The write of a transfer is lost or refused: the unit of the core that executes at p aborts, if one runs; the token and credit unit repeats its
write, and what it carries is not acknowledged before then (R289). -/
def Mach.writeRefused (m : Mach) (s p : Nat) (tokenUnit : Bool) : Mach :=
  let L := m.getF s Reg.CORE_IDENT_LOGICAL p
  if tokenUnit then m.updVcp s (fun v => { v with unwritten := v.unwritten.filter (· ≠ p) ++ [p] })
  else if L = 0x3FF ∨ !m.coreGoes s L then m else m.abortUnit s L

/-- The write of a transfer is performed and acknowledged: the store of the core at p that it carries, or its bytes. -/
def Mach.writePerformed (m : Mach) (s p a : Nat) (l : List WByte) (tokenUnit : Bool) : Mach :=
  let L := m.getF s Reg.CORE_IDENT_LOGICAL p
  let bytes := l.filterMap (fun b => match b with
    | .data b => some b
    | _ => none)
  let carried (q : PStore) : Bool := q.addr = a && q.data = bytes && decide (bytes.length = l.length)
  match (m.core s L).stores.findIdx? carried, tokenUnit with
  | some k, false => m.storeHome s L k
  | _, _ =>
    let m1 := (l.zipIdx).foldl (fun m e =>
      match e.1 with
      | .data b => m.performWrite true (a + e.2) [⟨b, 0⟩]
      | _ => m) m
    if tokenUnit then m1.updVcp s (fun v => { v with unwritten := v.unwritten.filter (· ≠ p) }) else m1

/-- WRITE_CHUNK_RECEIVE (R283, R289, R290): a transfer of one row, each chunk on its group. It is written whole, or, with a failed check or a handshake
mismatch, not at all. -/
def Mach.writeChunk (m : Mach) (s p a : Nat) (bytes : List (Byte × BitVec 2)) (mis : Option Nat) (tokenUnit : Bool) : Mach :=
  let l := (bytes.take (256 - a % 256)).map (fun e => wbyte e.1 e.2)
  if (m.chunkGroup s p 1 0).isNone ∨ (daRegion a ≠ 0 ∧ daRegion a ≠ 4) ∨ daStack a ≠ s ∨ m.accessHeld true a l.length true then m
  else
    match writeErrors a l mis with
    | [] => m.writePerformed s p a l tokenUnit
    | es =>
      let byGroup := (m.serving s p 1).flatMap (fun g => (es.filter (fun e => m.chunkGroup s p 1 e.1 = some g)).map (fun e => (g, e.2)))
      (byGroup.foldl (fun m e => m.vcpError s p e.1 e.2) m).writeRefused s p tokenUnit

/-- A chunk of a service group: 0 read, 1 write (R296). A group under test carries none. -/
def Mach.serviceChunk (m : Mach) (s p dir : Nat) (flips : List (Byte × BitVec 2)) (mismatch : Bool) : Mach :=
  if m.serviceTesting s p ∨ !(mismatch || flips.any (fun f => flipDetected f.1 f.2)) then m
  else m.vcpError s p (32 + dir) (if mismatch then 2 else 1)

/-- A group is in service, or under a test or a mapping that has just taken it out: its late errors are counted (Table VC-4). -/
def Mach.groupUsed (m : Mach) (s p g : Nat) : Bool :=
  if g < 32 then bit (m.activeGroups s p (g / 16)) (g % 16) || m.getB s Reg.VCP_GROUP_TESTING (groupIndex p g) else true

/-- HANDSHAKE_TIMEOUT (R285, R288) of a group that is in use; suspended while a port reset runs (R301). The bytes of a read row transfer that it leaves
incomplete take VERTICAL poison; an incomplete write is not performed. -/
def Mach.handshakeTimeout (m : Mach) (s p g : Nat) (row : Option Nat) : Mach :=
  if m.getB s Reg.VCP_RESET_STATUS_IN_RESET ∨ !m.groupUsed s p g then m
  else
    let m1 := m.vcpError s p g 3
    match row with
    | none => m1
    | some a =>
      if g < 16 then m1.arrive s ((rowGranules a).map (lostGranule p))
      else if g < 32 then m1.writeRefused s p (daRegion a = 0 && (reservedOff (daOff a)).isSome)
      else m1

/-! ## Spares and retirement (R291 to R294) -/

/-- VCP_SUMMARY kept in step. -/
def Mach.syncVcp (m : Mach) (s : Nat) : Mach :=
  let m1 := m.setF s Reg.VCP_SUMMARY_SPARES_USED ((List.range 27648).foldl (fun n i => n + m.getF s Reg.VCP_GROUP_SPARES_USED i) 0)
  let m2 := m1.setF s Reg.VCP_SUMMARY_GROUPS_RETIRED
    ((List.range 27648).filter (fun i => m.getB s Reg.VCP_GROUP_RETIRED i && !m.getB s Reg.VCP_PORT_RETIRED (i / 32))).length
  m2.setF s Reg.VCP_SUMMARY_PORTS_RETIRED ((List.range 864).filter (fun p => m.getB s Reg.VCP_PORT_RETIRED p)).length

/-- The port of position p is retired, and with it the core above (R294, R297). Tests and mappings of its groups that wait are dropped. -/
def Mach.retirePort (m : Mach) (s p g kind : Nat) : Mach :=
  let a := ((m.setF s Reg.VCP_PORT_RETIRED 1 p).setF s Reg.VCP_PORT_READ_ACTIVE 0 p).setF s Reg.VCP_PORT_WRITE_ACTIVE 0 p
  let b := (a.updVcp s (fun v => { v with mapping := v.mapping.filter (fun e => e.1 / 32 ≠ p) })).updInteg s (fun x => { x with
    queue := x.queue.filter (fun t => !(t.kind = 2 && t.index / 32 = p)) })
  (((b.vcpEvent s p g 0x7F kind).syncVcp s).bureauChange m s Reg.VCP_PORT_fields p).retireCore s p

/-- Retired groups of the direction of group g. -/
def Mach.retiredGroups (m : Mach) (s p g : Nat) : Nat :=
  ((List.range 16).filter (fun i => m.getB s Reg.VCP_GROUP_RETIRED (groupIndex p (g / 16 * 16 + i)))).length

/-- A group returns from its test or mapping: into service, unless it or its port is retired (R291, R294). -/
def Mach.groupBack (m : Mach) (s p g : Nat) : Mach :=
  let m1 := m.setF s Reg.VCP_GROUP_TESTING 0 (groupIndex p g)
  let m2 := if m.getB s Reg.VCP_GROUP_RETIRED (groupIndex p g) ∨ m.getB s Reg.VCP_PORT_RETIRED p then m1 else m1.setActive s p g true
  m2.syncTesting s p

/-- Group g is retired; the fifth of a direction retires the port (R291, R294). A group of a retired port is gone with it. -/
def Mach.retireGroup (m : Mach) (s p g : Nat) : Mach :=
  let i := groupIndex p g
  let m1 := ((m.setF s Reg.VCP_GROUP_TESTING 0 i).setActive s p g false).syncTesting s p
  if m.getB s Reg.VCP_PORT_RETIRED p ∨ m.getB s Reg.VCP_GROUP_RETIRED i then m1
  else if m1.retiredGroups s p g ≥ 4 then m1.retirePort s p g 7
  else (((m1.setF s Reg.VCP_GROUP_RETIRED 1 i).vcpEvent s p g 0x7F 6).syncVcp s).bureauChange m s Reg.VCP_GROUP_fields i

/-- The spare fields of a group. -/
def spareField (k : Nat) : Fld := [Reg.VCP_GROUP_SPARE0, Reg.VCP_GROUP_SPARE1, Reg.VCP_GROUP_SPARE2, Reg.VCP_GROUP_SPARE3].getD k Reg.VCP_GROUP_SPARE3

/-- The coupler that spare k of group i carries; 0x7F for none. -/
def Mach.carries (m : Mach) (s i k : Nat) : Nat := m.getF s (spareField k) i

/-- The couplers of group i that need a spare when the plates `failed` fail, ascending: those of 0 to 83 that fail and that no sound spare carries, and
those that a failed spare carries (R291, R292, Table VC-1). -/
def Mach.needSpare (m : Mach) (s i : Nat) (failed : List Nat) : List Nat :=
  (List.range 84).filter (fun c =>
    (List.range 4).any (fun k => m.carries s i k = c && failed.contains (84 + k)) ||
      (failed.contains c && !(List.range 4).any (fun k => m.carries s i k = c)))

/-- The spares of group i that can be mapped when the plates `failed` fail: unused, and sound. -/
def Mach.freeSpares (m : Mach) (s i : Nat) (failed : List Nat) : List Nat :=
  (List.range 4).filter (fun k => m.carries s i k = 0x7F && !failed.contains (84 + k) && !(m.stk s).vcp.bad.contains (i, k))

/-- Enough spares remain (R292). -/
def Mach.spareable (m : Mach) (s i : Nat) (failed : List Nat) : Bool := decide ((m.needSpare s i failed).length ≤ (m.freeSpares s i failed).length)

/-- The spares that failed carry nothing more, and are not mapped again. -/
def Mach.dropSpares (m : Mach) (s i : Nat) (failed : List Nat) : Mach :=
  let l := (List.range 4).filter (fun k => failed.contains (84 + k))
  (l.foldl (fun m k => m.setF s (spareField k) 0x7F i) m).updVcp s (fun v => { v with bad := v.bad ++ (l.map (fun k => (i, k))).filter (fun e => !v.bad.contains e) })

/-- A spare carries each coupler that needs one, both in ascending order (R291, R292); SPARES_USED counts those mapped. -/
def Mach.mapSpares (m : Mach) (s i : Nat) (failed : List Nat) : Mach :=
  let m1 := ((m.needSpare s i failed).zip (m.freeSpares s i failed)).foldl (fun m e => m.setF s (spareField e.2) e.1 i) (m.dropSpares s i failed)
  m1.setF s Reg.VCP_GROUP_SPARES_USED ((List.range 4).filter (fun k => m1.carries s i k ≠ 0x7F)).length i

/-- SPARE_MAP_DONE (R291): a spare carries each failed coupler, and the group returns to service; not while the ports are in reset. With couplers that
failed meanwhile it has too few spares perhaps, and is retired (Table VC-4). -/
def Mach.spareMapDone (m : Mach) (s p g : Nat) (more : List Nat) : Mach :=
  let i := groupIndex p g
  match (m.stk s).vcp.mapping.find? (fun e => e.1 = i) with
  | none => m
  | some e =>
    if m.getB s Reg.VCP_RESET_STATUS_IN_RESET then m
    else
      let failed := e.2 ++ more.filter (fun c => !e.2.contains c)
      let m1 := m.updVcp s (fun v => { v with mapping := v.mapping.filter (fun x => x.1 ≠ i) })
      if m1.spareable s i failed then
        let m2 := (m1.mapSpares s i failed).bureauChange m1 s Reg.VCP_GROUP_fields i
        let m3 := (m1.needSpare s i failed).foldl (fun m c => m.vcpEvent s p g c 5) m2
        (m3.groupBack s p g).syncVcp s
      else m1.retireGroup s p g

/-- The test of a group ends with its failed couplers (R292): transient, spares to be mapped, or retirement. -/
def Mach.groupTestEnd (m : Mach) (s i : Nat) (failed : List Nat) : Mach :=
  let p := i / 32
  let g := i % 32
  if failed = [] ∨ m.getB s Reg.VCP_GROUP_RETIRED i ∨ m.getB s Reg.VCP_PORT_RETIRED p then m.groupBack s p g
  else
    let m1 := m.vcpEvent s p g (failed.headD 0x7F) 4
    if m.spareable s i failed then m1.updVcp s (fun v => { v with mapping := v.mapping ++ [(i, failed)] })
    else m1.retireGroup s p g

/-! ## Port resets (R301, R302) -/

/-- Groups in service on the stack. -/
def Mach.groupsInService (m : Mach) (s : Nat) : List Nat :=
  (List.range 27648).filter (fun i => bit (m.activeGroups s (i / 32) (i % 32 / 16)) (i % 16))

/-- The reset has ended when every group has answered or is tested: the held accesses come to their homes (R301, R302). -/
def Mach.resetSettle (m : Mach) (n s : Nat) : Mach :=
  if (m.stk s).vcp.resync = [] then
    ((m.setF s Reg.VCP_RESET_STATUS_IN_RESET 0).setF s Reg.VCP_RESET_STATUS_LAST_US ((m.now s - (m.stk s).vcp.resetAt) / 1000)).runTested n s
  else m

/-- A write of core L of stack t to a is on a port or a mesh of stack s: from a core of s, but into its own local memory, or to memory of s. -/
def Mach.onWay (m : Mach) (s t L a : Nat) : Bool :=
  !(daRegion a = 1 && daStack a = t && daOff a / 0x10_0000 = m.getF t Reg.BUR_LOGICAL_MAP_HOME L) && (t = s || daStack a = s)

/-- Writes of the cores of stack t that a port reset of stack s meets on their way: stores, and requests of atomics, by index. -/
def Mach.writesOnWay (m : Mach) (s t : Nat) : List (Nat × List Nat) :=
  (m.stk t).cores.filterMap (fun e =>
    let l := ((e.2.stores.map (·.addr)) ++ e.2.atoms.flatMap (fun a => a.2.reqs.map (·.addr))).filter (m.onWay s t e.1)
    if l = [] then none else some (e.1, l))

/-- PORT_RESET (R301): reads on their way take VERTICAL poison (position and address of each); writes on their way are lost: the stores and atomic
requests of cores are not performed, and their units abort; the token and credit units repeat theirs. Tests of groups that run start again (Table
VC-4). -/
def Mach.portReset (m : Mach) (n s : Nat) (reads : List (Nat × Nat)) : Mach :=
  let m1 := (((m.bumpF s Reg.VCP_RESET_STATUS_RESETS).setF s Reg.VCP_RESET_STATUS_IN_RESET 1).updVcp s (fun v => { v with
    resync := m.groupsInService s, resetAt := m.now s })).arrive s (reads.map (fun r => lostGranule r.1 (r.2 / 8 * 8))).eraseDups
  let lose (m : Mach) (p a : Nat) : Mach := (m.bumpF s Reg.VCP_RESET_STATUS_WRITES_LOST).logError s 0x0107 1 p a
  let m2 := m1.onStacks n (fun x t => (m.writesOnWay s t).foldl (fun x e => (e.2.foldl (fun x a => lose x (m.physOf t e.1) a) x).abortUnit t e.1) x)
  let m3 := (m.stk s).vcp.unwritten.foldl (fun x p => lose x p (devAddr s 0 (reservedAddr (m.getF s Reg.CORE_IDENT_LOGICAL p * 0x3000 + 0x700)))) m2
  let back := (m3.stk s).integ.running.filter (fun t => t.kind = 2)
  (m3.updInteg s (fun g => { g with running := g.running.filter (fun t => t.kind ≠ 2), queue := back ++ g.queue })).resetSettle n s

/-- RESYNC_DONE (R302). -/
def Mach.resyncDone (m : Mach) (n s p g : Nat) : Mach :=
  if m.getB s Reg.VCP_RESET_STATUS_IN_RESET then
    (m.updVcp s (fun v => { v with resync := v.resync.filter (· ≠ groupIndex p g) })).resetSettle n s
  else m

/-- RESYNC_TIMEOUT (R302): a group that has not answered is tested. -/
def Mach.resyncTimeout (m : Mach) (n s p g : Nat) : Mach :=
  let i := groupIndex p g
  if (m.stk s).vcp.resync.contains i then
    ((m.updVcp s (fun v => { v with resync := v.resync.filter (· ≠ i) })).detect s 2 i).resetSettle n s
  else m

/-! ## Commands -/

/-- CHUNK_RECEIVE (R287, R296). -/
def execChunkReceive (a : ChunkIn) (s : State) : Out :=
  onStack s a.stack (fun _ m =>
    if a.service then m.serviceChunk a.stack a.position 0 a.flips a.mismatch else m.chunkReceive a.stack a.position a.addr.toNat a.flips a.mismatch)

/-- WRITE_CHUNK_RECEIVE (R289, R296). -/
def execWriteChunkReceive (a : ChunkOut) (s : State) : Out :=
  onStack s a.stack (fun _ m =>
    if a.service then m.serviceChunk a.stack a.position 1 a.bytes a.mismatch.isSome
    else m.writeChunk a.stack a.position a.addr.toNat a.bytes (a.mismatch.map Fin.val) a.tokenUnit)

/-- HANDSHAKE_TIMEOUT (R285). -/
def execHandshakeTimeout (a : GroupTimeout) (s : State) : Out :=
  onStack s a.stack (fun _ m => m.handshakeTimeout a.stack a.position a.group (a.row.map BitVec.toNat))

/-- SPARE_MAP_DONE (R291). -/
def execSpareMapDone (a : SpareMapEnd) (s : State) : Out :=
  onStack s a.stack (fun _ m => m.spareMapDone a.stack a.position a.group (a.more.map Fin.val))

/-- PORT_RESET (R301). -/
def execPortReset (a : PortResetAt) (s : State) : Out :=
  onStack s a.stack (fun fu m => m.portReset fu.part.stackCount a.stack (a.reads.map (fun r => (r.1.val, r.2.toNat))))

/-- RESYNC_DONE (R302). -/
def execResyncDone (a : AtPortGroup) (s : State) : Out := onStack s a.stack (fun fu m => m.resyncDone fu.part.stackCount a.stack a.position a.group)

/-- RESYNC_TIMEOUT (R302). -/
def execResyncTimeout (a : AtPortGroup) (s : State) : Out := onStack s a.stack (fun fu m => m.resyncTimeout fu.part.stackCount a.stack a.position a.group)

end Sys2Proof.Machine
end

