-- ==== Sys2Proof/Machine/Restore.lean ====
section
/-! DEFINITION. Backing copies, row spares and the restoration of consumed granules (spec/11_integrity.md, R316 to R318, R325, R332, R333). -/

namespace Sys2Proof.Machine

/-! ## Rows of memory -/

/-- The device address of the first byte of the row of a row test (Table IN-5: 1 bay row, 7 local memory, 8 accumulator), and none for a
structure that is no addressed memory or a core that serves no slot. -/
def Mach.rowAddr (m : Mach) (s kind index : Nat) : Option Nat :=
  let o := index / 2 ^ 10
  let unit := index % 2 ^ 10
  let off := o % 16 * 0x2_0000 + o / 16 * 256
  let h := m.getF s Reg.CORE_IDENT_HOME unit
  match kind with
  | 1 => if o / 16 < 512 then some (devAddr s 0 (unit * 0x20_0000 + off)) else none
  | 7 => if h < 864 then some (localAddr s h off) else none
  | 8 => if h < 864 then some (accAddr s h off) else none
  | _ => none

/-- The granules of a row that hold a byte that fails its check, or that `more` names by offset. -/
def Mach.failingGranules (m : Mach) (a : Nat) (more : List Nat) : List Nat :=
  (List.range 32).filterMap (fun i => if m.mem.detects (a + 8 * i) || more.any (fun b => b / 8 = i) then some (a + 8 * i) else none)

/-- The row is written back from the holding buffer: its failing granules in STORAGE poison form (R321). -/
def Mach.poisonFailing (m : Mach) (l : List Nat) : Mach := { m with mem := l.foldl (fun x g => x.poisonGranule g 1) m.mem }

/-! ## Registered backing copies (R317, R325) -/

/-- An address lies in n bytes from b. -/
def within (a b n : Nat) : Bool := decide (b ≤ a) && decide (a < b + n)

/-- The device address of the home-bay copy of a core's text (R45). -/
def Mach.textHome (m : Mach) (c : CoreDir) : Nat :=
  devAddr c.stack 0 (m.homeOfIndex c.stack c.index * 0x20_0000 + c.bayOff)

/-- The text copy of the plan image for a granule of a home-bay copy. -/
def Mach.textBacking (m : Mach) (s a : Nat) : Option (List PByte) :=
  let pl := m.plan s
  (pl.cores.find? (fun c => c.stack = s && within a (m.textHome c) c.textSize)).map (fun c =>
    PByte.clean ((pl.text.drop (c.textOff + (a - m.textHome c))).take 8))

/-- The backing copy of a granule of a WEIGHT buffer of the running phase. -/
def Mach.weightBacking (m : Mach) (s a : Nat) : Option (List PByte) :=
  ((m.plan s).bufs.find? (fun b => b.kind = 5 && bit b.phases (m.getF s Reg.BUR_PLAN_STATE_PHASE) && within a b.addr (b.slots * b.slotSize))).map (fun b =>
    m.homeBytes (b.backing + (a - b.addr)) 8)

/-- The cache line whose cells hold the granule at a cell address. -/
def Mach.lineAt (m : Mach) (s a : Nat) : Option CLine :=
  (m.stk s).cache.lines.find? (fun c => within a (cellAddr s (m.home s c.line) c.way) 128)

/-- The bytes of the registered backing copy of the granule at cell address a (R325), if it has one that is clean. -/
def Mach.backingCopy (m : Mach) (s a : Nat) : Option (List PByte) :=
  let l :=
    match m.lineAt s a with
    | some c => if c.dirty ∨ m.isDead s c.line then none else some (((m.backing s c.line).drop ((a - cellAddr s (m.home s c.line) c.way) / 8 * 8)).take 8)
    | none =>
      if daRegion a ≠ 0 ∨ !m.planOn s then none
      else match m.textBacking s a with
        | some b => some b
        | none => m.weightBacking s a
  match l with
  | some b => if b.length = 8 ∧ b.all (·.poison = 0) then some b else none
  | none => none

/-- The failing granules of a tested row are restored from their backing copies; the others, and those of a row
that has just become a failed row (R333), stay poisoned and are logged (R325). The counts are those of the half. -/
def Mach.restoreRow (m : Mach) (s : Nat) (l : List Nat) : Mach :=
  l.foldl (fun m g =>
    let h := posHalf (daOff g / 0x20_0000)
    match (m.backingCopy s g).filter (fun _ => !m.rowFailed g) with
    | some b => (m.sramWrite g b).bumpF s Reg.CDIE_SCRUB_COUNT_REFETCHED h
    | none => (m.logError s 0x0105 2 h g [1]).bumpF s Reg.CDIE_SCRUB_COUNT_POISONED h) m

/-! ## Row spares (R332, R333) -/

/-- Spare rows of a slice of a bay that are in use: fused and in service, or marked unusable. -/
def Mach.sparesTaken (f : Fuse) (m : Mach) (s bay slice : Nat) : List Nat :=
  (f.rows.filterMap (fun e => if e.1 = s ∧ e.2.1 = bay ∧ e.2.2.2.2.1 = slice then some e.2.2.2.2.2 else none)) ++
  ((m.stk s).integ.spares.filterMap (fun r => if r.unit = 1 ∧ r.owner = bay ∧ r.spareBank = slice then some r.spareRow else none)) ++
  ((m.stk s).integ.unusable.filterMap (fun e => if e.1 = bay ∧ e.2.1 = slice then some e.2.2 else none))

/-- The lowest unused spare row of a slice. -/
def Mach.freeSpare (f : Fuse) (m : Mach) (s bay slice : Nat) : Option Nat :=
  (List.range 8).find? (fun k => !(Mach.sparesTaken f m s bay slice).contains k)

/-- The spare that a bay row takes: of its own bank, else of the lowest slice of its bay that has one (R332). -/
def Mach.chooseSpare (f : Fuse) (m : Mach) (s bay slice : Nat) : Option (Nat × Nat) :=
  match Mach.freeSpare f m s bay slice with
  | some k => some (slice, k)
  | none => (List.range 16).findSome? (fun t => (Mach.freeSpare f m s bay t).map (fun k => (t, k)))

/-- CDIE_ROW_SPARE kept in step. -/
def Mach.syncSpares (f : Fuse) (m : Mach) (s : Nat) : Mach :=
  let g := (m.stk s).integ
  let bays := ((f.rows.filter (fun e => e.1 = s)).map (fun e => e.2.1) ++ (g.spares.filter (fun r => r.unit = 1)).map (·.owner) ++
    g.unusable.map (·.1)).eraseDups
  let left (b : Nat) : Nat := 128 - ((List.range 16).map (fun t => (Mach.sparesTaken f m s b t).eraseDups.length)).sum
  m.onStacks 2 (fun m h =>
    let used := (f.rows.filter (fun e => e.1 = s && posHalf e.2.1 = h)).length + (g.spares.filter (fun r => r.unit = 1 && posHalf r.owner = h)).length
    let a := m.setF s Reg.CDIE_ROW_SPARE_SPARES_USED used h
    let b := a.setF s Reg.CDIE_ROW_SPARE_BAYS_LOW ((bays.filter (fun b => posHalf b = h && decide (left b < 8))).length) h
    b.setF s Reg.CDIE_ROW_SPARE_FAILED_ROWS ((g.failed.filter (fun e => posHalf e.1 = h)).length) h)

/-- A spare row mapped to a row. A spare that fails itself is not used again. -/
def Mach.mapSpare (m : Mach) (s : Nat) (r : RowSpare) : Mach :=
  m.updInteg s (fun g =>
    let old := g.spares.filter (fun x => x.unit = r.unit && x.owner = r.owner && x.bank = r.bank && x.row = r.row)
    { g with
      spares := g.spares.filter (fun x => !(x.unit = r.unit && x.owner = r.owner && x.bank = r.bank && x.row = r.row)) ++ [r]
      unusable := g.unusable ++ (old.filter (fun x => x.unit = 1)).map (fun x => (x.owner, x.spareBank, x.spareRow)) })

/-- A bay row that is lasting when no spare remains (R333): the lines in a row of the cache partition leave it, and one of a reserved slice puts the stack
in service state FAILED. -/
def Mach.failRow (m : Mach) (s bay slice row : Nat) : Mach :=
  let r := (bay, slice, row)
  let ways := waysOf (m.cacheCount s 0) (m.cacheCount s 1) r
  let hit := (m.stk s).cache.lines.filter (fun c => ways.contains ((m.home s c.line).bay, (m.home s c.line).set, c.way))
  let m1 := hit.foldl (fun m c => (m.writeback s c).dropLine s c.line) m
  let m2 := (m1.updInteg s (fun g => { g with failed := g.failed ++ [r] })).syncLost s
  if sliceKind (m.cacheCount s 0) (m.cacheCount s 1) (bay * 0x20_0000 + slice * 0x2_0000) = .reserved then m2.setService s 3 else m2

/-- A failed row lies in a reserved slice: the stack is in service state FAILED until a cold start (R333). -/
def Mach.reservedFailed (m : Mach) (s : Nat) : Bool :=
  (m.stk s).integ.failed.any (fun r => sliceKind (m.cacheCount s 0) (m.cacheCount s 1) (r.1 * 0x20_0000 + r.2.1 * 0x2_0000) = .reserved)

/-- A lasting bay row takes a spare or becomes a failed row; the outcome is 3 or 5. -/
def Mach.spareBayRow (f : Fuse) (m : Mach) (s index : Nat) : Mach × Nat :=
  let bay := index % 2 ^ 10
  let slice := index / 2 ^ 10 % 16
  let row := index / 2 ^ 14
  match Mach.chooseSpare f m s bay slice with
  | some k => ((Mach.syncSpares f (m.mapSpare s ⟨1, bay, slice, row, k.1, k.2⟩) s).bureauChange m s Reg.CDIE_ROW_SPARE_fields (posHalf bay), 3)
  | none => (Mach.syncSpares f (m.failRow s bay slice row) s, 5)

/-- The ways of a near-cache row of core p are disabled, and their lines discarded (Table IN-5, 0xA). -/
def Mach.disableRow (m : Mach) (s p row : Nat) : Mach :=
  let L := m.getF s Reg.CORE_IDENT_LOGICAL p
  let m1 := m.updInteg s (fun g => { g with ncRows := g.ncRows ++ [(p, row)] })
  if L < 832 then
    m1.updNear s L (fun n => (n.lines.filter (fun e => nearRow (nearSet e.line) e.way = row)).foldl (fun n e => n.drop e.line) n)
  else m1

/-- The spare rows of a bank of a core memory, one per 64 rows (R332): 512 rows of local memory or accumulator memory, 96 rows of a register-file bank,
256 of the near cache (R88; log entry 104). -/
def bankSpares (kind : Nat) : Nat := if kind = 9 then 1 else if kind = 10 then 4 else 8

/-- A lasting row of a core memory takes a spare of its bank, or the core is retired; one of the near cache that finds no spare is disabled. The
outcome is 3, 4 or 5. No register shows these spares: the change log names none (log entry 119). -/
def Mach.spareCoreRow (m : Mach) (s kind index : Nat) : Mach × Nat :=
  let p := index % 2 ^ 10
  let bank := index / 2 ^ 10 % 16
  let used := (m.stk s).integ.spares.filter (fun r => r.unit = kind && r.owner = p && r.bank = bank)
  match (List.range (bankSpares kind)).find? (fun k => !used.any (fun r => r.spareRow = k)) with
  | some k => ((m.mapSpare s ⟨kind, p, bank, index / 2 ^ 14, bank, k⟩).logBureau s 0 0 0, 3)
  | none =>
    if kind = 10 then (m.disableRow s p (index / 2 ^ 14), 5)
    else (m.retireCore s p, 4)

/-! ## Restoration of what a unit consumed (R316 to R318) -/

/-- Where a consumed granule is restored from (Table IN-4). -/
inductive Source where
  /-- nothing is needed: the replay rewrites or fetches the data, or the page is dropped -/
  | nothing
  | bytes (b : List PByte)
  | reshard (i : Nat)
  | fill (f : MFill)
  | none

/-- The input channel slot at an address whose producer is on another stack: the replay fetches it again (R73). -/
def Mach.crossSlot (m : Mach) (s L a : Nat) : Bool :=
  (m.core s L).ins.any (fun e =>
    match m.inRoute s L e.1 with
    | .none => false
    | some r =>
      (r.srcStack ≠ s || r.srcSdid ≠ m.sdid s) && r.stage ≠ 0x3FFF &&
        (match (m.plan s).buf s r.buffer with
         | some b => within a b.addr (b.slots * b.slotSize)
         | .none => false))

/-- The SRAM cell that holds the byte at a device address: of region 0x4, in the line's way when it is resident. -/
def Mach.cellOf (m : Mach) (a : Nat) : Nat :=
  if daRegion a = 4 then
    match m.cline (daStack a) (daOff a / 128) with
    | some c => cellAddr (daStack a) (m.home (daStack a) c.line) c.way + daOff a % 128
    | none => a
  else a

/-- A line of region 0x4 that is dead or not resident: a restoration there is abandoned (R326). -/
def Mach.lineGone (m : Mach) (a : Nat) : Bool :=
  daRegion a = 4 && (m.isDead (daStack a) (daOff a / 128) || (m.cline (daStack a) (daOff a / 128)).isNone)

/-- The reshard descriptor whose destination holds address a, among those of the switch that began the running phase: their sources stay intact until
its end (R84). -/
def Mach.reshardOf (m : Mach) (s a : Nat) : Option Nat :=
  match (m.plan s).phases.find? (fun e => e.phase + 1 = m.phaseNow s) with
  | some e => ((List.range e.reshardCount).map (fun i => e.reshardIndex + i)).find? (fun i =>
      match (m.plan s).reshards[i]? with
      | some d => within a d.dst (convLen d.convert d.len)
      | none => false)
  | none => none

/-- The source of the granule at device address a that the unit of L consumed. Where the table names none and the home holds the granule unharmed, the
fault was of its way to the core (R301, R302) and nothing is needed (DEDUCED, log entry 118). -/
def Mach.sourceOf (m : Mach) (s L a : Nat) : Source :=
  let h := m.homeOfIndex s L
  let inBuf (k : Nat) : Bool := (m.plan s).bufs.any (fun b => b.kind = k && within a b.addr (b.slots * b.slotSize))
  if m.lineGone a then .nothing
  else if daRegion a = 1 ∧ daOff a / 0x10_0000 = h then
    match (m.plan s).cores.find? (fun c => c.stack = s && c.index = L && within (daOff a % 0x10_0000) c.loadAddr c.textSize) with
    | some c =>
      let g := m.textHome c + (daOff a % 0x10_0000 - c.loadAddr)
      let b := m.homeBytes g 8
      if b.all (·.poison = 0) then .bytes b else match m.textBacking s g with | some t => .bytes t | Option.none => .none
    | Option.none => .nothing
  else if daRegion a = 2 ∧ daOff a / 0x4_0000 = h then .nothing
  else if inBuf 3 || inBuf 7 || m.crossSlot s L a then .nothing
  else
    match m.backingCopy s (m.cellOf a) with
    | some b => .bytes b
    | Option.none =>
      match m.reshardOf s a with
      | some i => .reshard i
      | Option.none =>
        match (m.stk s).plan.fills.find? (fun f => (f.desc.writes f.dst ((List.range f.desc.rows).map (fun _ => (List.range f.desc.rowBytes).map (fun _ => ⟨0, 0⟩)))).any
            (fun w => within a w.1 w.2.length)) with
        | some f => .fill f
        | Option.none => if (m.homeBytes a 8).all (·.poison = 0) then .nothing else .none

/-- The granule at a written again, at its home. -/
def Mach.restoreBytes (m : Mach) (a : Nat) (b : List PByte) : Mach := if m.lineGone a then m else m.sramWrite (m.cellOf a) b

/-- The bytes of a reshard source that the eight bytes at address a of its destination come from: address and length. -/
def Reshard.part (d : Reshard) (a : Nat) : Nat × Nat :=
  let o := a - d.dst
  let r := match convFormats d.convert with
    | none => (o, 8)
    | some (_, _, i, k) => (o / k * i, 8 / k * i)
  (d.src + r.1, min r.2 (d.len - r.1))

/-- A reshard descriptor run again for the granule at a, from a stack of a part of n stacks (R84). -/
def Mach.rerunLocal (m : Mach) (n s : Nat) (d : Reshard) (a : Nat) : Mach :=
  let p := d.part a
  let r := if m.cut n (daStack d.src) s then (m, (List.range p.2).map (fun _ => (⟨0, 3⟩ : PByte))) else m.performRead false p.1 p.2
  r.1.restoreBytes a (convertBytes d.convert r.2)

/-- A reshard descriptor run again for the granule at a, over a link: its source converts (R83, R84). -/
def Mach.rerunRemote (m : Mach) (s i : Nat) (d : Reshard) (a : Nat) : Mach :=
  match m.routeTo s d.srcSdid with
  | some r => m.sendReads s r (d.part a).1 (d.part a).2 a d.convert (.reshard i)
  | none => m

/-- The data of a descriptor that filled an IN buffer, read again for the granule at a. -/
def Mach.refill (m : Mach) (n : Nat) (f : MFill) (a : Nat) : Mach :=
  let r := (List.range f.desc.rows).foldl (MRead.row n 0 f.desc .ok) ⟨m, [], 0⟩
  ((f.desc.writes f.dst r.rows).foldl (fun m w =>
    if within a w.1 w.2.length then m.restoreBytes a ((w.2.drop (a - w.1)).take 8) else m) r.m)

/-- No source exists (R318): DATA_LOST. -/
def Mach.dataLost (m : Mach) (s : Nat) (c : Consumed) : Mach :=
  ((m.logError s 0x0022 1 (m.physOf s c.core) c.addr [c.kind]).bumpF s Reg.BUR_RECOVERY_COUNT_DATA_LOST).endPlan s 0x0022

/-- The row of a consumed granule is under test or waits for its test. -/
def Mach.rowPending (m : Mach) (a : Nat) : Bool :=
  let c := m.cellOf a
  let r := m.rowOf c
  !m.lineGone a && (m.rowTesting c || (m.stk (daStack a)).integ.queue.any (fun t => t.kind = r.1 && t.index = r.2))

/-- The data of a granule asked of another part has not come yet. -/
def Mach.stillAsked (m : Mach) (s : Nat) (c : Consumed) : Bool :=
  c.asked && (m.stk s).link.xfers.any (fun x => x.read && x.dst = c.addr / 8 * 8)

/-- The granule that is restored next for a core: of those that it consumed, the one of lowest address, unless it waits (R317, R320). -/
def Mach.nextFor (m : Mach) (s L : Nat) : Option Consumed :=
  let l := (m.stk s).integ.consumed.filter (fun c => c.core = L)
  match l.find? (fun c => l.all (fun d => decide (c.addr ≤ d.addr))) with
  | some c => if m.rowPending c.addr || m.stillAsked s c then none else some c
  | none => none

/-- The granules that can be restored now, one of each core. -/
def Mach.restorable (m : Mach) (s : Nat) : List Consumed :=
  (((m.stk s).integ.consumed.map (·.core)).eraseDups).filterMap (fun L => m.nextFor s L)

/-- RESTORATION (R317, R318): the granule of lowest address among those that can be restored now. One that another part has been asked for is restored
when its data has come. -/
def Mach.restoration (m : Mach) (n s : Nat) : Mach :=
  let l := m.restorable s
  match l.find? (fun c => l.all (fun d => decide (c.addr ≤ d.addr))) with
  | none => m
  | some c =>
    let g := c.addr / 8 * 8
    let m1 := m.updInteg s (fun k => { k with consumed := k.consumed.filter (fun x => x.addr / 8 * 8 ≠ g) })
    let done (m : Mach) : Mach := m.bumpF s Reg.BUR_RECOVERY_COUNT_RESTORED
    if c.asked then done m1
    else
    match m.sourceOf s c.core g with
    | .nothing => m1
    | .bytes b => done (m1.restoreBytes g b)
    | .reshard i =>
      match (m.plan s).reshards[i]? with
      | some d =>
        if (m.stackOf d.srcSdid).isSome then (if m.anyHeld [d.part g] then m else done (m1.rerunLocal n s d g))
        else if (m.routeTo s d.srcSdid).isNone then m1
        else (m.updInteg s (fun k => { k with consumed := k.consumed.map (fun x => if x.addr / 8 * 8 = g then { x with asked := true } else x) })).rerunRemote s i d g
      | none => m1
    | .fill f => done (m1.refill n f g)
    | .none => if m.planOn s then m1.dataLost s c else m1

/-- RESTORATION (R317). -/
def execRestoration (a : AtStack) (s : State) : Out := onStack s a.stack (fun fu m => m.restoration fu.part.stackCount a.stack)

end Sys2Proof.Machine
end

