-- ==== Sys2Proof/Machine/Integrity.lean ====
section
/-! DEFINITION. Skipper tests, Hawkmoth, range scrubs and the Bureau's watchdog (spec/11_integrity.md, R315, R320 to R331). -/

namespace Sys2Proof.Machine

/-! ## The start of a test (R320, R323, R292) -/

/-- Whether a queued test may start: a coupler group while fewer than 4 other groups of its direction are under test, mapped or retired (R293)
and no port reset runs; a row of a core while its index is not relocated (Table IN-7). -/
def Mach.testMayStart (m : Mach) (s : Nat) (t : SkTest) : Bool :=
  let p := t.index % 2 ^ 10
  match t.kind with
  | 2 =>
    let g := t.index % 32
    let dir := g / 16
    let idle := (List.range 16).filter (fun i => i ≠ g % 16 && (m.getB s Reg.VCP_GROUP_TESTING (groupIndex (t.index / 32) (dir * 16 + i)) ||
      m.getB s Reg.VCP_GROUP_RETIRED (groupIndex (t.index / 32) (dir * 16 + i))))
    !m.getB s Reg.VCP_RESET_STATUS_IN_RESET && decide (idle.length < 4)
  | 7 | 8 | 9 => !(m.stk s).map.relocating.any (fun r => r.1 = m.getF s Reg.CORE_IDENT_HOME p || r.2 = p)
  | _ => true

/-- A test starts: its structure carries no traffic; a group is TESTING and out of service. -/
def Mach.testBegin (m : Mach) (s : Nat) (t : SkTest) : Mach :=
  let m1 := m.updInteg s (fun g => { g with queue := g.queue.erase t, running := g.running ++ [t] })
  if t.kind = 2 then
    let p := t.index / 32
    (((m1.setF s Reg.VCP_GROUP_TESTING 1 t.index).setActive s p (t.index % 32) false).syncTesting s p)
  else m1

/-- SKIPPER_TEST_START (R323): the first queued test that may start, while fewer than 16 run. -/
def Mach.testStart (m : Mach) (s : Nat) : Mach :=
  let g := (m.stk s).integ
  if 16 ≤ g.running.length then m
  else match g.queue.find? (m.testMayStart s) with
    | some t => m.testBegin s t
    | none => m

/-! ## The end of a test -/

/-- The half of a region 0x0 offset. -/
def offHalf (off : Nat) : Nat := posHalf (off / 0x20_0000)

/-- A range that half h serves and has read counts a row of its that has been given a spare, and those of its lines that have been restored: granules
`fixed` of the row at offset off (Table IN-6). -/
def Scrub.count (x : Scrub) (off : Nat) (fixed : List Nat) (spared : Bool) : Scrub :=
  if x.scanned.contains (offHalf off) && !x.done.contains (offHalf off) && rangesMeet (off, 256) (x.start, x.len) then
    { x with
      refetched := x.refetched + (((fixed.filter (fun g => within g x.start x.len)).map (· / 128)).eraseDups).length
      spared := x.spared + spared.toNat }
  else x

/-- The frames that hold a page and that a lasting bay row meets: the test of their pages has failed (R257). -/
def Mach.badFrames (m : Mach) (s index : Nat) : Mach :=
  m.onStacks 2 (fun m c =>
    let l := ((m.cab s c).pages.filter (fun e => e.2.framed && m.frameMeets s c index e.2.whr)).map (·.2.whr)
    if l = [] then m else m.updCab s c (fun k => { k with bad := k.bad ++ l.filter (fun f => !k.bad.contains f) }))

/-- A row test ends (R321, R322, R325, R332): its outcome, a spare when the row is lasting or has failed four times, poison for the failing
granules, and their restoration from registered backing copies. The second read fails where a byte of the row fails its check or the test names one;
a row of which no byte fails again has no march (step 2). -/
def Mach.rowTestEnd (f : Fuse) (m : Mach) (s : Nat) (t : SkTest) (fails : Bool) (more : List Nat) (us : Nat) : Mach :=
  let a := m.rowAddr s t.kind t.index
  let bad := match a with
    | some a => m.failingGranules a more
    | none => []
  let again := decide (bad ≠ []) || (a.isNone && decide (more ≠ []))
  let first := if !again then 1 else if fails then 3 else 2
  let k := if first = 3 then (m, false) else m.keepOutcome s t.kind t.index
  let lasting := decide (first = 3) || k.2
  let r : Mach × Nat :=
    if !lasting then (k.1, first)
    else if t.kind = 1 then Mach.spareBayRow f (k.1.badFrames s t.index) s t.index
    else k.1.spareCoreRow s t.kind t.index
  let m1 := if first = 1 then r.1 else r.1.poisonFailing bad
  let m2 := if t.kind = 1 then m1.restoreRow s bad else m1
  let fixed := (bad.filter (fun g => m2.mem.kindAt g = 0)).map daOff
  let m3 := match a with
    | some a => if daRegion a = 0 then m2.updInteg s (fun g => { g with scrubs := g.scrubs.map (fun (x : Scrub) => x.count (daOff a) fixed (r.2 = 3)) }) else m2
    | none => m2
  m3.testEnded s t.kind t.index r.2 us

/-- A test of a unit of a core ends (0x3 to 0x6): a failure retires the core (and of a service group its port's core, R297). -/
def Mach.unitTestEnd (m : Mach) (s : Nat) (t : SkTest) (fails : Bool) (us : Nat) : Mach :=
  let p := t.index % 2 ^ 10
  let L := m.getF s Reg.CORE_IDENT_LOGICAL p
  let k := if fails then (m, false) else m.keepOutcome s t.kind t.index
  let lasting := fails || k.2
  let m1 :=
    if lasting then
      if t.kind = 3 then k.1.retirePort s p 0 7
      else (if t.kind = 4 ∧ L < 832 ∧ (k.1.core s L).mx.numerical then k.1.abortUnit s L else k.1).retireCore s p
    else if t.kind = 4 ∧ L < 832 then
      (k.1.updCore s L (fun c => { c with mx := { c.mx with tested := c.mx.tested || c.mx.numerical } })).setF s Reg.CORE_MX_STATUS_SKIPPER_WAIT 0 p
    else k.1
  let m2 :=
    if t.kind = 6 then
      let a := m1.setF s Reg.CORE_INTEGRITY_STALLED 0 p
      (if L < 832 then a.updCore s L (fun c => if c.halt = .watchdog then { c with halt := .aborted } else c) else a).coreCauseSettle s p
    else m1
  m2.testEnded s t.kind t.index (if lasting then 4 else 1) us

/-- A test of a coupler group ends (R291, R292, R322): its failed couplers, of which a group with four transient outcomes has none. -/
def Mach.couplerTestEnd (m : Mach) (s : Nat) (t : SkTest) (failed : List Nat) (us : Nat) : Mach :=
  let k := if failed = [] then m.keepOutcome s 2 t.index else (m, false)
  let room := m.spareable s t.index failed
  if k.2 then (k.1.retireGroup s (t.index / 32) (t.index % 32)).testEnded s 2 t.index 4 us
  else (k.1.groupTestEnd s t.index failed).testEnded s 2 t.index (if failed = [] then 1 else if room then 3 else 4) us

/-- SKIPPER_TEST_END (R320, R321). -/
def Mach.testEnd (f : Fuse) (m : Mach) (s nth : Nat) (r : TestResult) (us : Nat) : Mach :=
  match (m.stk s).integ.running[nth]? with
  | none => m
  | some t =>
    let m1 := m.updInteg s (fun g => { g with running := g.running.erase t })
    let fails := match r with
      | .pass => false
      | .fails _ => true
      | .couplers l => !l.isEmpty
    let more := match r with
      | .fails l => l.map Fin.val
      | _ => []
    match t.kind with
    | 1 | 7 | 8 | 9 | 10 => (Mach.rowTestEnd f m1 s t fails more us).runTested f.part.stackCount s
    | 2 => m1.couplerTestEnd s t (match r with | .couplers l => (l.map Fin.val).eraseDups | .fails _ => List.range 88 | .pass => []) us
    | _ => m1.unitTestEnd s t fails us

/-! ## Hawkmoth (R324, R325) -/

/-- The row that Hawkmoth of half h walks: bay, slice, row. -/
def Mach.hawkAt (m : Mach) (s h : Nat) : Nat × Nat × Nat :=
  (rankBay h (m.getF s Reg.CDIE_SCRUB_STATUS_RANK h), m.getF s Reg.CDIE_SCRUB_STATUS_SLICE h, m.getF s Reg.CDIE_SCRUB_STATUS_ROW h)

/-- The next row of the walk: 512 rows and 8 spare rows of a slice, 16 slices of a bay, 432 bays of a half. -/
def Mach.hawkNext (m : Mach) (s h : Nat) : Mach :=
  let rank := m.getF s Reg.CDIE_SCRUB_STATUS_RANK h
  let slice := m.getF s Reg.CDIE_SCRUB_STATUS_SLICE h
  let row := m.getF s Reg.CDIE_SCRUB_STATUS_ROW h
  if row < 519 then m.setF s Reg.CDIE_SCRUB_STATUS_ROW (row + 1) h
  else
    let m1 := m.setF s Reg.CDIE_SCRUB_STATUS_ROW 0 h
    if slice < 15 then m1.setF s Reg.CDIE_SCRUB_STATUS_SLICE (slice + 1) h
    else
      let m2 := m1.setF s Reg.CDIE_SCRUB_STATUS_SLICE 0 h
      if rank < 431 then m2.setF s Reg.CDIE_SCRUB_STATUS_RANK (rank + 1) h
      else (m2.setF s Reg.CDIE_SCRUB_STATUS_RANK 0 h).setF s Reg.CDIE_SCRUB_STATUS_PASSES (m.getF s Reg.CDIE_SCRUB_STATUS_PASSES h + 1) h

/-- A row of a bay is checked: a failing one is counted and its test is queued. -/
def Mach.checkRow (m : Mach) (s h off : Nat) : Mach :=
  if m.failingGranules (devAddr s 0 off) [] = [] then m
  else (m.bumpF s Reg.CDIE_SCRUB_COUNT_ERRORS h).detect s 1 (rowIndex off)

/-- HAWKMOTH_STEP (R324, R325): the row is read, or waited for while it is under test; the walk pauses while a range is scrubbed. -/
def Mach.hawkStep (f : Fuse) (m : Mach) (s h : Nat) (spareFails : Bool) : Mach :=
  let (bay, slice, row) := m.hawkAt s h
  let off := bay * 0x20_0000 + slice * 0x2_0000 + row * 256
  if !m.getB s Reg.CDIE_SCRUB_CFG_ENABLE h ∨ m.getB s Reg.CDIE_SCRUB_STATUS_RANGE_ACTIVE h then m
  else if row < 512 then
    if m.rowTesting (devAddr s 0 off) then m.setF s Reg.CDIE_SCRUB_STATUS_WAITING 1 h
    else ((m.setF s Reg.CDIE_SCRUB_STATUS_WAITING 0 h).checkRow s h off).hawkNext s h
  else
    let k := row - 512
    let m1 :=
      if spareFails && m.getB s Reg.CDIE_SCRUB_CFG_SPARE_ROWS h && !(Mach.sparesTaken f m s bay slice).contains k then
        Mach.syncSpares f ((m.updInteg s (fun g => { g with unusable := g.unusable ++ [(bay, slice, k)] })).bumpF s
          Reg.CDIE_SCRUB_COUNT_SPARE_FAILED h) s
      else m
    m1.hawkNext s h

/-! ## Range scrubs (R327) -/

/-- A range has rows in half h: some bay of its is there. -/
def Scrub.touches (x : Scrub) (h : Nat) : Bool :=
  (List.range ((x.start + x.len - 1) / 0x20_0000 + 1 - x.start / 0x20_0000)).any (fun i => posHalf (x.start / 0x20_0000 + i) = h)

/-- The halves that a range has still to be served in. -/
def Scrub.halves (x : Scrub) : List Nat := [0, 1].filter (fun h => x.touches h && !x.done.contains h)

/-- The lines of a range that lie in half h. -/
def Scrub.linesIn (x : Scrub) (h : Nat) : Nat :=
  ((List.range ((x.start + x.len - 1) / 0x20_0000 + 1 - x.start / 0x20_0000)).map (fun i =>
    let b := x.start / 0x20_0000 + i
    if posHalf b = h then (min (x.start + x.len) ((b + 1) * 0x20_0000) - max x.start (b * 0x20_0000)) / 128 else 0)).sum

/-- The range that half h serves: the first in command order that has rows there to be served (R327). -/
def Mach.served (m : Mach) (s h : Nat) : Option Scrub := (m.stk s).integ.scrubs.find? (fun x => x.halves.contains h)

/-- RANGE_ACTIVE kept in step. -/
def Mach.syncScrubs (m : Mach) (s : Nat) : Mach :=
  m.onStacks 2 (fun m h => m.setF s Reg.CDIE_SCRUB_STATUS_RANGE_ACTIVE (m.served s h).isSome.toNat h)

/-- The summary of Table IN-6. -/
def Scrub.summary (s : Nat) (x : Scrub) : List Byte :=
  leBytes 8 x.checked ++ leBytes 4 x.errors ++ leBytes 4 x.refetched ++ leBytes 4 x.poisoned ++ leBytes 4 x.spared ++
    leBytes 8 ((x.first.map (devAddr s 0)).getD (2 ^ 64 - 1)) ++ leBytes 8 ((x.last.map (devAddr s 0)).getD (2 ^ 64 - 1))

/-- The cells of region 0x0 in a range that carry a syndrome, as offsets: only their granules can fail or be poisoned. -/
def Mach.markedIn (m : Mach) (s start len : Nat) : List Nat :=
  (m.mem.syn.filter (fun c => within c.1 (devAddr s 0 start) len)).map (fun c => daOff c.1)

/-- The lower and the higher of two line addresses. -/
def lineMin (a b : Option Nat) : Option Nat := match a, b with | some x, some y => some (min x y) | some x, none => some x | none, y => y
def lineMax (a b : Option Nat) : Option Nat := match a, b with | some x, some y => some (max x y) | some x, none => some x | none, y => y

/-- The rows of a range in half h are read: failing lines are counted and their rows tested. -/
def Mach.scrubScan (m : Mach) (s h : Nat) (x : Scrub) : Mach × Scrub :=
  let bad := ((m.markedIn s x.start x.len).filter (fun o => offHalf o = h && m.mem.detects (devAddr s 0 o))).map (· / 128 * 128) |>.eraseDups
  let rows := (bad.map (· / 256 * 256)).eraseDups
  (rows.foldl (fun m o => (m.bumpF s Reg.CDIE_SCRUB_COUNT_ERRORS h).detect s 1 (rowIndex o)) m,
    { x with checked := x.checked + x.linesIn h, errors := x.errors + bad.length, first := lineMin x.first bad.head?, last := lineMax x.last bad.getLast?
             scanned := x.scanned ++ [h] })

/-- SCRUB_RANGE_DONE (R327): the range served by a half has been read there, and is done there once the tests of its rows have ended; the deferred
command completes with its summary when both halves are done with it. -/
def Mach.scrubDone (m : Mach) (s h : Nat) : Mach :=
  match m.served s h with
  | none => m
  | some x =>
    let r := if x.scanned.contains h then (m, x) else m.scrubScan s h x
    let mine := (r.1.markedIn s x.start x.len).filter (fun o => offHalf o = h)
    if mine.any (fun o => r.1.rowPending (devAddr s 0 o)) then
      r.1.updInteg s (fun g => { g with scrubs := g.scrubs.map (fun y => if y = x then r.2 else y) })
    else
      let left := (mine.filter (fun o => r.1.mem.kindAt (devAddr s 0 o) ≠ 0)).map (· / 128) |>.eraseDups
      let y := { r.2 with poisoned := r.2.poisoned + left.length, done := r.2.done ++ [h] }
      if y.halves ≠ [] then (r.1.updInteg s (fun g => { g with scrubs := g.scrubs.map (fun z => if z = x then y else z) })).syncScrubs s
      else
        let m1 := (r.1.updInteg s (fun g => { g with scrubs := g.scrubs.erase x })).syncScrubs s
        match x.mbox with
        | none => m1
        | some b => m1.completeDeferred 0x0501 (fun q => q.mbox = b) 0 (y.summary s)

/-! ## The Bureau's watchdog (R330, R331) -/

/-- The plan of stack s is aborted by the stop sequencer: no event, no log (R331 step 2). -/
def Mach.quietAbort (m : Mach) (s : Nat) : Mach :=
  if m.planOn s then
    (((m.setF s Reg.BUR_PLAN_STATE_STATE 4).updPlan s (fun p => { p with endStatus := 0x0027 })).planEnded s).dropKeyed s
  else m

/-- The stop sequencer stops stack s (R331). -/
def Mach.sequencerStop (m : Mach) (s : Nat) : Mach :=
  let m1 := ((List.range 16).foldl (fun m r => m.setLevel s r 7) m).syncThrottle s
  let m2 := m1.quietAbort s
  let m3 := (if m2.journals s then m2.twinControl s 4 0 else m2).stopCores s
  ((m3.setF s Reg.THM_STATUS_STOP_HOLD 1).bumpF s Reg.THM_STATUS_STOPS).updTherm s (fun k => { k with causes := k.causes ++ [.bureau] })

/-- The third reset within 10 s (R330, R331): the Bureau of stack s is held. Of a subordinate the primary aborts the plan elsewhere and
reports; of the primary every stack stops, and nothing is reported. -/
def Mach.bureauHeld (m : Mach) (n s : Nat) : Mach :=
  let m1 := m.setF s Reg.BUR_STATUS_HALTED 1
  if s = 0 then m1.onStacks n (fun m k => m.sequencerStop k)
  else
    let running := m1.planOn s
    let id := m1.getF s Reg.BUR_PLAN_ID_PLAN_ID
    let m2 := m1.sequencerStop s
    let m3 := m2.event s 0x0012 [m2.getF s Reg.BUR_STATUS_RESTARTS]
    if (List.range 4).any m3.planOn then m3.endPlan s 0x0027
    else if running then m3.event s 0x0002 [id] 0x0027 else m3

/-- The commands that a reset of the Bureau of stack s interrupts (R330): all of them for the primary, else those of its stack that are
deferred. -/
def Mach.interrupt (m : Mach) (n s : Nat) : Mach :=
  if s = 0 then
    let l := m.host.mbxQueue.map (fun q => m.request n q.1 q.2) ++ m.host.deferred
    { m with host := { m.host with mbxQueue := [], deferred := [] } }.updStk 0 (fun k => { k with bureau := { k.bureau with
      interrupted := k.bureau.interrupted ++ l } })
  else
    let l := m.host.deferred.filter (fun r => r.stack = s)
    { m with host := { m.host with deferred := m.host.deferred.filter (fun r => r.stack ≠ s) } }.updStk s (fun k => { k with
      bureau := { k.bureau with interrupted := k.bureau.interrupted ++ l } })

/-- BUREAU_WATCHDOG_MISS (R330): the Bureau cluster is reset. One in device Stop or held already does not miss. -/
def Mach.watchdogMiss (m : Mach) (n s : Nat) : Mach :=
  if m.getB s Reg.BUR_STATUS_HALTED ∨ (m.stk s).bureau.restarting ∨ m.getF 0 Reg.AON_WAKE_STATUS_STATE = 2 then m
  else
    let t := m.now s
    let l := (m.stk s).integ.resets.filter (fun r => decide (t < r + 10 * 10 ^ 9)) ++ [t]
    let m1 := (m.updInteg s (fun g => { g with resets := l })).updStk s (fun k => { k with bureau := { k.bureau with restarting := true } })
    let m2 := (m1.interrupt n s).bumpF s Reg.BUR_STATUS_RESTARTS
    if 3 ≤ l.length then m2.bureauHeld n s else m2

/-- BUREAU_RESTART_DONE (R330, R438): latched edges become pending, the interrupted commands complete, the host is told. A Bureau that was
reset during a start is at stage 1 again (Table BR-4). -/
def Mach.restartDone (m : Mach) (s : Nat) : Mach :=
  let b := (m.stk s).bureau
  if !b.restarting ∨ m.getB s Reg.BUR_STATUS_HALTED then m
  else
    let m1 := m.updStk s (fun k => { k with bureau := { k.bureau with restarting := false, interrupted := [], latches := [] } })
    let m2 := b.latches.foldl (fun m x => m.srcEdgeNow s x) m1
    let m3 := b.interrupted.foldl (fun m r => m.complete r (if r.status ≠ 0 then r.status else 0x0005)) m2
    let m4 := m3.event s 0x0012 [m3.getF s Reg.BUR_STATUS_RESTARTS]
    if m4.starting s then m4.setF s Reg.BUR_BOOT_STATUS_STAGE 1 else m4

/-! ## Commands -/

/-- SKIPPER_TEST_START (R323). -/
def execSkipperTestStart (a : AtStack) (s : State) : Out := onStack s a.stack (fun _ m => m.testStart a.stack)

/-- HAWKMOTH_STEP (R324). -/
def execHawkmothStep (a : HawkStep) (s : State) : Out :=
  onStack s a.stack (fun fu m => Mach.hawkStep fu m a.stack a.half a.spareFails)

/-- SCRUB_RANGE_DONE (R327). -/
def execScrubRangeDone (a : AtHalf) (s : State) : Out := onStack s a.stack (fun _ m => m.scrubDone a.stack a.half)

/-- BUREAU_WATCHDOG_MISS (R330). -/
def execBureauWatchdogMiss (a : AtStack) (s : State) : Out := onStack s a.stack (fun fu m => m.watchdogMiss fu.part.stackCount a.stack)

/-- BUREAU_RESTART_DONE (R330). -/
def execBureauRestartDone (a : AtStack) (s : State) : Out := onStack s a.stack (fun _ m => m.restartDone a.stack)

end Sys2Proof.Machine
end

