-- ==== Sys2Proof/Machine/Resets.lean ====
section
/-! DEFINITION. What each reset kind leaves (spec/20_register_reference.md, R529, R530; spec/13_host_and_memory.md, R385; spec/16_bring_up.md, R454,
R466; spec/17_power.md, R484 to R486). -/

namespace Sys2Proof.Machine

/-! ## Which fields a reset keeps (Table RG-6) -/

/-- The key of csr belongs to an instance of field f. -/
def Fld.hasKey (f : Fld) (key : Nat) : Bool := key % 64 = f.lo && (f.reg.instanceAt (key / 64)).isSome

/-- The key belongs to one of the fields of a list. -/
def keyIn (l : List Fld) (key : Nat) : Bool := l.any (fun f => f.hasKey key)

/-- The key lies in a block window (Table RG-3). -/
def keyAt (lo hi key : Nat) : Bool := decide (lo ≤ key / 64) && decide (key / 64 < hi)

/-- Fields that a cold start keeps. -/
def keptCold (key : Nat) : Bool :=
  (keyAt 0x0500_0000 0x0510_0000 key && !keyIn Reg.AON_TIMESTAMP_fields key) || keyIn [Reg.THM_STATUS_TRIPPED, Reg.THM_STATUS_TRIP_SITE] key

/-- Fields that a recovery reset keeps. -/
def keptWarm (key : Nat) : Bool :=
  keyAt 0x0500_0000 0x0510_0000 key || keyIn Reg.CORE_IDENT_fields key ||
  (keyAt 0x0400_0000 0x0420_0000 key && !keyIn [Reg.CDIE_DEAD_STATUS_ENTRIES] key) ||
  keyIn (Reg.CAB_POOL_CFG_fields ++ Reg.CAB_POOL_BASE_fields ++ Reg.CAB_LP_CFG_fields ++ Reg.CAB_LP_BASE_fields ++ Reg.CAB_CLASS_CFG_fields) key ||
  (keyAt 0x0480_0000 0x04A0_0000 key &&
    !keyIn (Reg.LNK_ROUTE_fields ++ Reg.LNK_ROUTE_STATUS_fields ++ [Reg.LNK_TWIN_STATUS_STATE, Reg.LNK_TWIN_CFG_TWIN_SDID, Reg.LNK_TWIN_CFG_LINK_A,
      Reg.LNK_TWIN_CFG_LINK_B, Reg.LNK_TWIN_CFG_LOWER]) key) ||
  keyIn (Reg.LPD_CFG_fields ++ Reg.LPD_ERR_fields ++ Reg.LPD_POISON_DIR_fields) key ||
  keyIn ([Reg.INTC_SRC_CFG_TARGETS, Reg.INTC_SRC_CFG_ENABLE] ++ Reg.PWR_REGION_CFG_fields ++ Reg.THM_CH_CFG_fields ++
    [Reg.THM_STATUS_TRIPPED, Reg.THM_STATUS_TRIP_SITE] ++ Reg.LIC_STATUS_fields) key ||
  keyIn ((Reg.BUR_STATUS_fields.filter (· ≠ Reg.BUR_STATUS_SERVICE)) ++ Reg.BUR_CORE_SUMMARY_fields ++ Reg.BUR_LOGICAL_MAP_fields ++
    Reg.BUR_SKIPPER_STATUS_fields ++ Reg.BUR_SKIPPER_LAST_fields ++ Reg.BUR_RECOVERY_COUNT_fields) key ||
  (keyAt 0x0530_0000 0x0540_0000 key && !keyIn [Reg.VCP_GROUP_TESTING, Reg.VCP_PORT_TESTING, Reg.VCP_RESET_STATUS_IN_RESET] key) ||
  keyIn (Reg.REG_CLASS_CFG_fields ++ Reg.REG_ORDINARY_fields ++ Reg.REG_GPIO_fields) key ||
  keyAt 0x0550_0000 0x0560_0000 key

/-- The items that a wake restores (Table PW-5), by the reset group that their failure returns to its cold form. -/
def savedFields : SavedItem → List Fld
  | .intc => [Reg.INTC_SRC_CFG_TARGETS, Reg.INTC_SRC_CFG_ENABLE, Reg.REG_GPIO_OE, Reg.REG_GPIO_OUT, Reg.REG_GPIO_EDGE] ++ Reg.REG_CLASS_CFG_fields ++
      Reg.REG_ORDINARY_fields
  | .power => Reg.PWR_REGION_CFG_fields ++ [Reg.CORE_POWER_LDO_SET, Reg.CORE_POWER_STOP_REQ] ++ Reg.THM_CH_CFG_fields
  | .coreMap => Reg.CORE_IDENT_fields ++ Reg.BUR_CORE_SUMMARY_fields ++ Reg.BUR_LOGICAL_MAP_fields
  | .spares => [Reg.VCP_GROUP_SPARES_USED, Reg.VCP_GROUP_RETIRED, Reg.VCP_GROUP_SPARE0, Reg.VCP_GROUP_SPARE1, Reg.VCP_GROUP_SPARE2,
      Reg.VCP_GROUP_SPARE3, Reg.VCP_GROUP_FUSED, Reg.VCP_PORT_RETIRED]
  | .cache => Reg.CDIE_PART_CFG_fields ++ Reg.CDIE_THRASH_CFG_fields ++ Reg.CDIE_SCRUB_CFG_fields ++ Reg.CAB_POOL_CFG_fields ++
      Reg.CAB_POOL_BASE_fields ++ Reg.CAB_LP_CFG_fields ++ Reg.CAB_LP_BASE_fields ++ Reg.CAB_CLASS_CFG_fields
  | .logs => Reg.LOG_NEXT_fields ++ Reg.LOG_LOST_fields
  | .links => Reg.LNK_CTRL_fields ++ Reg.LNK_SDID_fields ++ Reg.LNK_TWIN_CFG_fields ++ [Reg.LNK_STATUS_SPARE_FOR, Reg.LNK_BRIDGE_STATUS_SPARE_FOR]
  | .routes => Reg.LNK_ROUTE_fields ++ Reg.LNK_ROUTE_STATUS_fields
  | .licences => Reg.LIC_STATUS_fields
  | .directory | .shelves => []

/-- Every item of Table PW-5. -/
def savedItems : List SavedItem := [.intc, .power, .coreMap, .spares, .cache, .logs, .links, .routes, .licences, .directory, .shelves]

/-- Fields that a wake keeps or restores, the items that failed their check left out. -/
def keptWake (failed : List SavedItem) (key : Nat) : Bool :=
  keyAt 0x0500_0000 0x0510_0000 key || keyAt 0x04C0_0000 0x04D0_0000 key ||
  keyIn ([Reg.THM_STATUS_TRIPPED, Reg.THM_STATUS_TRIP_SITE] ++ Reg.LPD_CFG_fields) key ||
  keyIn ((savedItems.filter (fun i => !failed.contains i)).flatMap savedFields) key

/-- Every field of stack s that `keep` does not name returns to its reset value. -/
def Mach.resetCsr (m : Mach) (s : Nat) (keep : Nat → Bool) : Mach :=
  m.updStk s (fun k => { k with csr := k.csr.filter (fun e => keep e.1) })

/-! ## What lies beyond the registers -/

/-- What a stack loses in a recovery reset or a wake: units, plans, movers, traffic, sequences; row spares, spare couplers' map, retirements,
retired frames, shelves, logs and the routes of links are kept (R385, R466), and a partition change goes on (R281). -/
def Stack.restarted (k : Stack) : Stack :=
  { csr := k.csr
    cache := { shelves := k.cache.shelves, lostWays := k.cache.lostWays, change := k.cache.change }
    integ := { history := k.integ.history, spares := k.integ.spares, unusable := k.integ.unusable, failed := k.integ.failed,
               ncRows := k.integ.ncRows, resets := k.integ.resets }
    bureau := { changeLog := k.bureau.changeLog, errLog := k.bureau.errLog, logRead := k.bureau.logRead, latches := k.bureau.latches }
    map := { removed := k.map.removed }
    vcp := { bad := k.vcp.bad, service := k.vcp.service }
    cabs := k.cabs.map (fun c => { retired := c.retired, bad := c.bad })
    link := { links := k.link.links, nextTag := k.link.nextTag } }

/-- The contents of region 0x0 and of the core memories of stack s are zero. -/
def Mach.clearSram (m : Mach) (s : Nat) : Mach :=
  { m with mem := m.mem.clear (devAddr s 0 0) (devAddr s 4 0) }

/-- Mailboxes, event ring, MSI-X return to their reset values (R385 step 5, R489). The boot flash, the licence store and EVENT_BIND are kept. -/
def HostSt.restarted (h : HostSt) : HostSt :=
  { flash := h.flash, preferred := h.preferred, licences := h.licences, evBind := h.evBind, msixSent := h.msixSent, aer := h.aer }

/-- A cold reset of stack s: what Table RG-6 keeps, and nothing else. -/
def Mach.coldStack (m : Mach) (s : Nat) : Mach := m.updStk s (fun k => { csr := k.csr.filter (fun e => keptCold e.1) })

/-- The part at reset (R454): the boot flash and its licence store, host memory and always-on memory remain. -/
def Mach.coldReset (m : Mach) : Mach :=
  let m1 := { m.onStacks 4 (fun m s => m.coldStack s) with
    mem := {}, tier := {}, wire := []
    host := { flash := m.host.flash, preferred := m.host.preferred, licences := m.host.licences, aer := m.host.aer, msixSent := m.host.msixSent }
    boot := { perst := m.boot.perst, pwrGood := m.boot.pwrGood, aon := m.boot.aon, bootCount := m.boot.bootCount, rtc := m.boot.rtc,
              start := none, taps := m.boot.taps } }
  m1.setF 0 Reg.AON_WAKE_STATUS_STATE 0

/-- A start begins at stage 0 in a form, on the stacks whose Bureau is not held (R331): the boot registers are rewritten. -/
def Mach.beginStart (m : Mach) (n : Nat) (f : StartForm) : Mach :=
  let held := (List.range n).filter (fun s => m.getB s Reg.BUR_STATUS_HALTED)
  let image := if f = .warm then m.boot.blocks else []
  let m1 := { m with boot := { m.boot with start := some f, stageUs := 0, reports := [], left := held, wakeStep := 0, remake := [], blocks := image } }
  m1.onStacks n (fun m s =>
    if held.contains s then m
    else
      let a := (m.setF s Reg.BUR_BOOT_STATUS_STAGE 0).setF s Reg.BUR_BOOT_STATUS_WARM (decide (f ≠ .cold)).toNat
      let b := ((a.setF s Reg.BUR_BOOT_STATUS_FELL_BACK 0).setF s Reg.BUR_BOOT_STATUS_LATE 0).setF s Reg.BUR_BOOT_STATUS_TOTAL_MS 0
      let c := (List.range 6).foldl (fun m i => (m.setF s Reg.BUR_BOOT_TIME_DURATION_US 0 i).setF s Reg.BUR_BOOT_TIME_START_US 0 i) b
      if f = .warm then c.setF s Reg.BUR_STATUS_SERVICE (if m.reservedFailed s then 3 else 4) else c)

/-- A cold start begins (R454, R460): PERST_N is deasserted while PWR_GOOD is high. -/
def Mach.coldStart (m : Mach) (n : Nat) : Mach :=
  { m with boot := { m.boot with bootCount := m.boot.bootCount + 1 } }.beginStart n .cold

/-! ## Function level reset, hot reset, link down (R385, R466, R468) -/

/-- The HOST_ registers of stack 0 reset, and the reset counted (R385 step 5; Table BR-4). -/
def Mach.hostReset (m : Mach) : Mach :=
  ((m.resetRange 0 0x04C0_0000 0x04D0_0000).bumpF 0 Reg.HOST_LINK_STATUS_RESETS).srcEdge 0 4

/-- The owner records of mapped spare lanes (Table RG-6, REG_). -/
def Mach.spareRecords (m : Mach) (s : Nat) : List (Nat × Nat × Nat) :=
  ((List.range 24).filter (fun n => m.getF s Reg.LNK_STATUS_SPARE_FOR n ≠ 15)).map (fun n =>
    (24 + n, m.getF s Reg.REG_OWNER_OWNER (24 + n), m.getF s Reg.REG_OWNER_CLASS (24 + n))) ++
  ((List.range 8).filter (fun b => m.getF s Reg.LNK_BRIDGE_STATUS_SPARE_FOR b ≠ 31)).map (fun b =>
    (48 + b, m.getF s Reg.REG_OWNER_OWNER (48 + b), m.getF s Reg.REG_OWNER_CLASS (48 + b)))

/-- The recovery reset of stack s: steps 4 to 6 of R385 as far as they need no stage. A tier that has failed stays failed (R392). -/
def Mach.recoverStack (m : Mach) (s : Nat) : Mach :=
  let bad := m.getF s Reg.LPD_STATUS_STATE = 3
  let ch := m.getF s Reg.LPD_STATUS_FAILED_CH
  let own := m.spareRecords s
  let m1 := (m.writebackAll s).resetCsr s keptWarm
  let m2 := own.foldl (fun m e => (m.setF s Reg.REG_OWNER_OWNER e.2.1 e.1).setF s Reg.REG_OWNER_CLASS e.2.2 e.1) m1
  let m3 := if bad then (m2.setF s Reg.LPD_STATUS_STATE 3).setF s Reg.LPD_STATUS_FAILED_CH ch else m2
  (m3.updStk s Stack.restarted).clearSram s

/-- R385 in order: plans and movers end, a paired stack leaves its twin, dirty lines are written back, the host side and the stacks reset, and a
warm rejoin begins. A stack whose Bureau is held stays as the stop sequencer left it; while that of the primary is, the reset reaches the host side
only (R331). -/
def Mach.flr (m : Mach) (n : Nat) : Mach :=
  let held (m : Mach) (s : Nat) : Bool := m.getB s Reg.BUR_STATUS_HALTED
  if held m 0 then { m with host := m.host.restarted }.hostReset
  else
    let m1 := (m.endPlan 0 0x0028).onStacks n (fun m s => (List.range 64).foldl (fun m c => m.abortChain s c) m)
    let m2 := (m1.onStacks n (fun m s => if held m s then m else m.twinStop s)).onStacks n (fun m s => if held m s then m else m.recoverStack s)
    let m3 := { m2 with host := m2.host.restarted, wire := [] }.hostReset
    (m3.beginStart n .warm).setF 0 Reg.HOST_LINK_STATUS_RECOVERING 1

/-- A wake of the part begins (R487, R488). -/
def Mach.beginWake (m : Mach) (n source : Nat) (atEntry : Bool) : Mach :=
  let a := (m.setF 0 Reg.AON_WAKE_STATUS_STATE 3).setF 0 Reg.AON_WAKE_STATUS_LAST_SOURCE source
  let b := (a.setF 0 Reg.AON_WAKE_STATUS_EDGE_AT_ENTRY atEntry.toNat).bumpF 0 Reg.AON_WAKE_STATUS_WAKES
  let held := (List.range n).filter (fun s => b.getB s Reg.BUR_STATUS_HALTED)
  { b with boot := { b.boot with start := some .wake, stageUs := 0, reports := [], left := held, wakeStep := 0, remake := [], blocks := [] } }

/-- FLR (R385): in Stop it is an exit from L1.2 (Table PW-7); while a start runs it resets the host side or is counted only (Table BR-4). -/
def Mach.functionReset (m : Mach) (n : Nat) : Mach :=
  if m.boot.perst ∨ !m.boot.pwrGood then m
  else if m.getF 0 Reg.AON_WAKE_STATUS_STATE = 2 then
    let m1 := (m.srcEdge 0 4).bumpF 0 Reg.HOST_LINK_STATUS_RESETS
    if m.getB 0 Reg.AON_WAKE_CFG_PCIE_EN then m1.beginWake n 3 false else m1
  else
    match m.boot.start with
    | some .cold => { m with host := { m.host with msixOpen := [], msixPend := [] } }.hostReset
    | some _ => (m.bumpF 0 Reg.HOST_LINK_STATUS_RESETS).srcEdge 0 4
    | none => m.flr n

/-! ## Device Stop (R484) -/

/-- Steps 1 and 2 of the entry to Stop (Table PW-4): movers stop, sequences end, the dead tables are emptied, dirty lines are written back. -/
def Mach.stopFlush (m : Mach) (n : Nat) : Mach :=
  m.onStacks n (fun m s =>
    let a := (List.range 64).foldl (fun m c => m.abortChain s c) m
    let b := (a.updStk s (fun k => { k with seqs := [], cabs := k.cabs.map (fun c => { retired := c.retired, bad := c.bad }) })).clearDead s
    b.writebackAll s)

/-- The entry to Stop waits: a Skipper test that has started runs on (Table PW-4 step 1), or a line is still dirty on one of n stacks, as the full
poison directory holds its writeback (R272, R396; log entry 103). -/
def Mach.stopWaits (m : Mach) (n : Nat) : Bool :=
  (List.range n).any (fun s => decide ((m.stk s).integ.running ≠ []) || (m.stk s).cache.lines.any (·.dirty))

/-- Entry to device Stop (Table PW-4) but for its response, on all stacks: sequences end, dirty lines are written back, links go idle, cores stop,
rails are switched off. -/
def Mach.enterStop (m : Mach) (n : Nat) : Mach :=
  let m1 := (m.stopFlush n).onStacks n (fun m s => (m.updCache s (fun k => { k with lines := [], outst := [] })).setF s Reg.BUR_STATUS_SERVICE 5)
  let m2 := m1.partEvent 0x0008 [5, m1.getF 0 Reg.BUR_BOOT_STATUS_STAGE]
  let m3 := m2.onStacks n (fun m s =>
    let a := (List.range 24).foldl (fun m i => m.setF s Reg.LNK_STATUS_STATE 0 i) (m.stopCores s)
    let b := (List.range 8).foldl (fun m i => m.setF s Reg.LNK_BRIDGE_STATUS_STATE 0 i) a
    ((b.setRails s [0, 3, 4, 1, 2] false).updStk s (fun k => { k with link := { k.link with links := [] } })).clearSram s)
  ({ m3 with boot := { m3.boot with rtcStop := m3.boot.rtc } }.setF 0 Reg.AON_WAKE_STATUS_STATE 2).bumpF 0 Reg.AON_WAKE_STATUS_ENTRIES

/-! ## Commands -/

/-- FLR (R385). -/
def execFlr (s : State) : Out := onMach s (fun fu m => m.functionReset fu.part.stackCount)

/-- PERST_N_ASSERT (R454). -/
def execPerstNAssert (s : State) : Out :=
  onMach s (fun _ m => { m with boot := { m.boot with perst := true } }.coldReset)

/-- The instructions of Table EL-15 that take effect only while PERST_N is asserted: EXTEST, HIGHZ, CLAMP, EXTEST_PULSE, EXTEST_TRAIN (R555). -/
def tapPins (c : Nat) : Bool := c = 0 || c = 3 || c = 4 || c = 5 || c = 6

/-- What acts in the TAP while PERST_N is deasserted: BYPASS for those instructions (R555). -/
def tapAllowed (c : Nat) : Nat := if tapPins c then 0xFF else c

/-- PERST_N_DEASSERT (R454; Table EL-13): a cold start begins while PWR_GOOD is high. -/
def execPerstNDeassert (s : State) : Out :=
  onMach s (fun fu m =>
    let m1 := { m with boot := { m.boot with perst := false, taps := if m.boot.pwrGood then m.boot.taps.map tapAllowed else m.boot.taps } }
    if m.boot.perst && m.boot.pwrGood && m.boot.aon then m1.coldStart fu.part.stackCount else m1)

/-- PWR_GOOD_FALL (R552): as an assertion of PERST_N. -/
def execPwrGoodFall (s : State) : Out :=
  onMach s (fun _ m => { m with boot := { m.boot with pwrGood := false } }.coldReset)

/-- PWR_GOOD_RISE (R552; Table EL-13): a cold start begins if PERST_N is then deasserted. -/
def execPwrGoodRise (s : State) : Out :=
  onMach s (fun fu m =>
    let m1 := { m with boot := { m.boot with pwrGood := true, taps := if m.boot.perst then m.boot.taps else m.boot.taps.map tapAllowed } }
    if !m.boot.pwrGood && !m.boot.perst && m.boot.aon then m1.coldStart fu.part.stackCount else m1)

/-- VDD_AON_LOSS (R529, Table RG-5): every field of every block returns to its reset value, the latch of the trip, the RTC and the saved items
among them; the next start is a cold start. -/
def execVddAonLoss (s : State) : Out :=
  onMach s (fun _ m =>
    let m1 := { m with boot := { m.boot with aon := false, pwrGood := false, bootCount := 0, rtc := 0 } }.coldReset
    m1.onStacks 4 (fun m s => m.updStk s (fun k => { k with csr := [] })))

/-- VDD_AON_APPLY (R460, R513): the RTC starts from 0, and so does the boot counter. -/
def execVddAonApply (s : State) : Out :=
  onMach s (fun _ m =>
    if m.boot.aon then m
    else
      let m1 := { m with boot := { m.boot with aon := true, bootCount := 0, rtc := 0 } }
      m1.onStacks 4 (fun m s => m.setF s Reg.AON_RTC_SECONDS 0))

end Sys2Proof.Machine
end

