-- ==== Sys2Proof/Machine/Boot.lean ====
section
/-! DEFINITION. The stages of a cold start, a warm rejoin and a wake, and the wake from device Stop (spec/16_bring_up.md, R454 to R468;
spec/17_power.md, R486 to R490; spec/10_vertical_coupling.md, R298, R299). -/

namespace Sys2Proof.Machine

/-! ## Stage 1, BUREAU (R408 to R410, R458) -/

/-- A stack has no accepted firmware and leaves the start (R409, Table BR-3). -/
def Mach.romRecovery (m : Mach) (s : Nat) : Mach :=
  let m1 := ((m.setF s Reg.BUR_STATUS_ROM_MODE 1).setF s Reg.BUR_STATUS_SERVICE 6).event s 0x0008 [6, 1]
  { m1 with boot := { m1.boot with left := m1.boot.left ++ [s] } }

/-- A stack fails and leaves the start (Table BR-3). -/
def Mach.startFailed (m : Mach) (s : Nat) : Mach :=
  let m1 := (m.setF s Reg.BUR_STATUS_SERVICE 3).event s 0x0008 [3, m.getF s Reg.BUR_BOOT_STATUS_STAGE]
  { m1 with boot := { m1.boot with left := m1.boot.left ++ [s] } }

/-- The stack holds the whole image of the slot that stack 0 runs. -/
def Mach.imageHeld (m : Mach) (slot s : Nat) : Bool := s = 0 || decide (m.imageBlocks slot ≤ SMap.getD m.boot.blocks s 0)

/-- Stage 1 ends on stack s: the firmware that it runs, or ROM recovery; timestamps are set from stack 0's (R533). -/
def Mach.endBureau (f : Fuse) (m : Mach) (s : Nat) : Mach :=
  match Mach.bootSlot f m with
  | some slot =>
    if m.imageHeld slot s ∧ Mach.slotStatus f m s slot = 0 then
      let h := m.fwHeader slot
      let a := ((m.setF s Reg.BUR_STATUS_ROM_MODE 0).setF s Reg.BUR_STATUS_FW_SLOT slot).setF s Reg.BUR_FW_VERSION (fieldAt h 8 4)
      (a.setF s Reg.BUR_FW_SECVER (fieldAt h 6 2)).setF s Reg.AON_TIMESTAMP_NS (m.now 0)
    else m.romRecovery s
  | none => m.romRecovery s

/-! ## Stage 2, FABRIC (R298 to R300) -/

/-- Couplers of group i that fail carried by spares, or the group retired when too few remain (Table VC-6 steps 1 and 6). -/
def Mach.trainGroup (m : Mach) (s i : Nat) (failed : List Nat) (fused : Bool) : Mach :=
  if m.spareable s i failed then
    let m1 := m.mapSpares s i failed
    if fused then m1.setF s Reg.VCP_GROUP_FUSED (m1.getF s Reg.VCP_GROUP_SPARES_USED i) i else m1
  else (m.setF s Reg.VCP_GROUP_RETIRED 1 i).setActive s (i / 32) (i % 32) false

/-- Every group of a port that is not retired carries traffic; a port with fewer than 12 groups in a direction, or that does not train, is
retired (R298). -/
def Mach.trainPort (m : Mach) (s p : Nat) (fails : Bool) : Mach :=
  let on (dir : Nat) : Nat := ofBits ((List.range 16).filter (fun g => !m.getB s Reg.VCP_GROUP_RETIRED (groupIndex p (dir * 16 + g))))
  let small (dir : Nat) : Bool := decide (popCount (on dir) 16 < 12)
  if fails || m.getB s Reg.VCP_PORT_RETIRED p || small 0 || small 1 then
    ((m.setF s Reg.VCP_PORT_RETIRED 1 p).setF s Reg.VCP_PORT_READ_ACTIVE 0 p).setF s Reg.VCP_PORT_WRITE_ACTIVE 0 p
  else ((m.setF s Reg.VCP_PORT_READ_ACTIVE (on 0) p).setF s Reg.VCP_PORT_WRITE_ACTIVE (on 1) p).setF s Reg.VCP_PORT_TRAINED 1 p

/-- Stage 2 ends: a cold start trains from the fuse map, a warm form keeps the map and the retirements in effect and repeats no step that maps a spare
(R299), and so does a wake whose spare maps failed train from the fuse map (R486). The pulse width is that of the band (Table VC-6 step 2). -/
def Mach.endFabric (f : Fuse) (m : Mach) (s : Nat) (form : StartForm) (r : StackStage) : Mach :=
  let cold := form = .cold ∨ m.boot.remake.contains s
  let fused := if cold then f.couplers.filter (fun e => e.1 = s) else []
  let m1 := fused.foldl (fun m e => m.trainGroup s e.2.1 [e.2.2] true) m
  let m2 := if cold then r.couplers.foldl (fun m e => m.trainGroup s (groupIndex e.1 e.2.1) (e.2.2.map Fin.val) false) m1 else m1
  let m3 := (List.range 864).foldl (fun m p => m.trainPort s p (r.ports.any (fun q => q.val = p))) m2
  let m4 := ((m3.syncVcp s).syncPulse s).setF s Reg.VCP_SUMMARY_TRAINED 1
  if r.fabric then m4 else m4.startFailed s

/-! ## Stage 3, MEMORY (R334, R392, R460) -/

/-- A row that fails the march sample: a spare row is marked unusable, a row takes a spare (R332, R460). -/
def Mach.marchRow (f : Fuse) (m : Mach) (s bay slice row : Nat) : Mach :=
  if row < 512 then (Mach.spareBayRow f m s (bay + slice * 2 ^ 10 + row * 2 ^ 14)).1
  else m.updInteg s (fun g => { g with unusable := g.unusable ++ [(bay, slice, row - 512)] })

/-- The rows that the march sample of boot counter B reads: 8 rows of each bank, and its spare rows. -/
def sampled (b row : Nat) : Bool := 512 ≤ row || row % 64 = b % 64

/-- The march sample of boot counter B (R460): failing rows that it reads take spares. -/
def Mach.marchSample (f : Fuse) (m : Mach) (s : Nat) (rows : List (Fin 864 × Fin 16 × Fin 520)) : Mach :=
  let b := m.boot.bootCount
  (rows.filter (fun e => sampled b e.2.2)).foldl (fun m e => Mach.marchRow f m s e.1 e.2.1 e.2.2) m

/-- Stage 3 ends: every slice is zero; a cold start runs the march sample, empties the poison directory and trains the tier; a wake whose row spare map
failed runs the march sample too (R486). -/
def Mach.endMemory (f : Fuse) (m : Mach) (s : Nat) (form : StartForm) (r : StackStage) : Mach :=
  let m0 := m.clearSram s
  let m1 :=
    if form = .cold then
      let c := (Mach.syncSpares f (Mach.marchSample f m0 s r.rows) s).setF s Reg.BUR_BOOT_STATUS_SAMPLE (m.boot.bootCount % 64)
      (c.setF s Reg.LPD_CFG_RATE r.tierRate).setF s Reg.LPD_CFG_CAPACITY r.tierCap
    else if m.boot.remake.contains s then Mach.syncSpares f (Mach.marchSample f m0 s r.rows) s
    else Mach.syncSpares f m0 s
  let half := (m1.setGeometry s 0 (m1.getF s Reg.CDIE_PART_CFG_CACHE 0)).setGeometry s 1 (m1.getF s Reg.CDIE_PART_CFG_CACHE 1)
  let m2 := half.syncPoisonDir s
  let m3 := if m2.getF s Reg.BUR_STATUS_SERVICE = 3 then m2.startFailed s else m2
  match r.tierFails with
  | some ch => (((m3.setF s Reg.LPD_STATUS_STATE 3).setF s Reg.LPD_STATUS_FAILED_CH ch).srcEdge s 6).startFailed s
  | none => if m3.getF s Reg.LPD_STATUS_STATE = 3 then m3.startFailed s else m3.setF s Reg.LPD_STATUS_STATE 2

/-! ## Stage 4, LINKS (R338, R362, R459) -/

/-- Stage 4 begins: a warm rejoin leaves every link that is UP, FAILED or in TEST as it is. -/
def Mach.beginLinks (p : Part) (m : Mach) (s : Nat) (form : StartForm) : Mach :=
  let m1 := (List.range 24).foldl (fun m n =>
    if form = .warm ∧ (m.getF s Reg.LNK_STATUS_STATE n = 2 ∨ m.getF s Reg.LNK_STATUS_STATE n = 5 ∨ m.getF s Reg.LNK_STATUS_STATE n = 6) then m
    else m.linkBegin s n) m
  (List.range 8).foldl (fun m b =>
    if !bridgePresent p b ∨ (form = .warm ∧ m.getF s Reg.LNK_BRIDGE_STATUS_STATE b = 2) then m else m.bridgeState s b 1) m1

/-- Some bridge link of a port is UP. -/
def Mach.portUp (m : Mach) (s port : Nat) : Bool := (List.range 4).any (fun i => m.getF s Reg.LNK_BRIDGE_STATUS_STATE (port * 4 + i) = 2)

/-- The fixed route joins stack s and the primary: each port on it has a bridge link that is UP (R37, R38, R457, R459). -/
def Mach.bridged (p : Part) (m : Mach) (s : Nat) : Bool := (bridgePath p.stackCount 0 s).all (fun e => m.portUp e.1 e.2)

/-! ## Stage 5, CORES (R24, R26, R461, R462) -/

/-- The executors of home positions once those of failed cores are replaced, in ascending order of position (R24, R462). -/
def assignCores (failed : List Nat) : List (Nat × Nat) → List Nat → List (Nat × Option Nat)
  | [], _ => []
  | (h, c) :: r, free =>
    if failed.contains c then
      match chooseChrysalis h free with
      | some k => (h, some k) :: assignCores failed r (free.filter (· ≠ k))
      | none => (h, none) :: assignCores failed r free
    else (h, some c) :: assignCores failed r free

/-- The core map written (R27): index, home and executor of every position that is served, the role of every core. -/
def Mach.writeMap (m : Mach) (s : Nat) (l : List (Nat × Nat)) (bad : List Nat) : Mach :=
  let used := l.map (·.2)
  let m1 := (List.range 864).foldl (fun m p =>
    if bad.contains p then m.setIdent s p 3 0x3FF 0x3FF
    else if isChrysalis p && !used.contains p then m.setIdent s p 1 0x3FF 0x3FF
    else if used.contains p then m else m.setIdent s p 3 0x3FF 0x3FF) m
  let m2 := (l.zipIdx).foldl (fun m e => (m.setLogical s e.2 e.1.1 e.1.2).setIdent s e.1.2 (if e.1.1 = e.1.2 then 0 else 2) e.2 e.1.1) m1
  let m3 := (List.range (832 - l.length)).foldl (fun m i => m.setLogical s (l.length + i) 0x3FF 0x3FF) m2
  (m3.setF s Reg.BUR_CORE_SUMMARY_LOGICAL_COUNT l.length).setF s Reg.BUR_CORE_SUMMARY_MAP_VALID 1

/-- Cores in service run, reserve and retired cores are held in Stop (R481). -/
def Mach.powerCores (m : Mach) (s : Nat) : Mach :=
  ((List.range 864).foldl (fun m p =>
    if m.getF s Reg.CORE_IDENT_LOGICAL p < 832 then
      let a := (m.setF s Reg.CORE_POWER_STATE 2 p).bumpF s Reg.CORE_POWER_WAKES p
      a.setF s Reg.CORE_POWER_LDO_NOW (a.ldoWanted s p) p
    else (m.setF s Reg.CORE_POWER_STATE 0 p).setF s Reg.CORE_POWER_STOP_REQ 1 p) m).syncPower s

/-- Stage 5 ends: failed cores are retired and replaced, and the map is complete; home positions with no core are removed (R26). -/
def Mach.endCores (m : Mach) (s : Nat) (form : StartForm) (r : StackStage) : Mach :=
  let fresh := form = .cold || !m.getB s Reg.BUR_CORE_SUMMARY_MAP_VALID
  let rows := r.coreRows.foldl (fun (t : Mach × List Nat) e =>
    let k := t.1.spareCoreRow s e.1 e.2.toNat
    if k.2 = 3 then (k.1, t.2) else (t.1, t.2 ++ [e.2.toNat % 2 ^ 10])) (m, [])
  let m1 := rows.1
  let old := if fresh then [] else (List.range 864).filter (fun p => m1.retired s p)
  let bad := r.cores.map Fin.val ++ rows.2 ++ old ++ (List.range 864).filter (fun p => m1.getB s Reg.VCP_PORT_RETIRED p)
  let now := if fresh then homeIds.map (fun h => (h, h))
    else (List.range 832).filterMap (fun L =>
      if m1.getF s Reg.BUR_LOGICAL_MAP_HOME L < 864 then some (m1.getF s Reg.BUR_LOGICAL_MAP_HOME L, m1.getF s Reg.BUR_LOGICAL_MAP_EXEC L) else none)
  let free := chrysalisIds.filter (fun c => !bad.contains c && !now.any (fun e => e.2 = c))
  let goes := assignCores bad now free
  let lost := goes.filterMap (fun e => if e.2.isNone then some e.1 else none)
  let m2 := m1.writeMap s (goes.filterMap (fun e => e.2.map (fun c => (e.1, c)))) bad
  let m3 := m2.updStk s (fun k => { k with map := { k.map with removed := (if fresh then [] else k.map.removed) ++ lost } })
  let m4 := if lost ≠ [] then m3.setF s Reg.BUR_CORE_SUMMARY_DEGRADED 1 else m3
  (m4.syncMap s).powerCores s

/-! ## Stage 6, FINAL -/

/-- Stage 6 ends on stack s: SERVICE (Table BU-4); shelves are to be refilled (R274, R466); after a wake, cores with STOP_REQ stop (R488). -/
def Mach.endFinal (f : Fuse) (m : Mach) (s : Nat) (form : StartForm) : Mach :=
  let m0 := if form = .cold ∧ s = 0 then Mach.checkStore f m else m
  let m1 := if form = .cold then (List.range 24).foldl (fun m n => if n < 8 ∨ m.getF s Reg.LNK_STATUS_STATE n ≠ 0 then m else m.linkBegin s n) m0 else m0
  let m2 := m1.updCache s (fun k => { k with pinning := k.shelves.map (·.id) })
  let m3 := if form = .wake then
      (List.range 864).foldl (fun m p => if m.powerFree s p && m.getB s Reg.CORE_POWER_STOP_REQ p then m.coreStop s p else m) m2 |>.syncPower s
    else m2
  let ready := m3.getF s Reg.BUR_CORE_SUMMARY_LOGICAL_COUNT = 832
  (m3.setF s Reg.BUR_STATUS_SERVICE (if m3.reservedFailed s then 3 else if ready then 1 else 2)).setF s Reg.BUR_BOOT_STATUS_STAGE 7

/-! ## Stage boundaries (R455 to R459, R463) -/

/-- What stage k does on stack s as it begins. -/
def Mach.stageBegin (p : Part) (m : Mach) (s k : Nat) (form : StartForm) : Mach :=
  let m1 := (m.setF s Reg.BUR_BOOT_STATUS_STAGE k).setF s Reg.BUR_BOOT_TIME_START_US m.boot.stageUs (k - 1)
  if k = 3 ∧ m1.getF s Reg.LPD_STATUS_STATE ≠ 3 then m1.setF s Reg.LPD_STATUS_STATE 1 else if k = 4 then Mach.beginLinks p m1 s form else m1

/-- What stage k has done on stack s when it ends, with its duration. -/
def Mach.stageFinish (f : Fuse) (m : Mach) (s k : Nat) (form : StartForm) (r : StackStage) : Mach :=
  let m1 := m.setF s Reg.BUR_BOOT_TIME_DURATION_US r.us.toNat (k - 1)
  let m2 := if r.fellBack ∧ form ≠ .cold then m1.setF s Reg.BUR_BOOT_STATUS_FELL_BACK 1 else m1
  match k with
  | 1 => Mach.endBureau f m2 s
  | 2 => Mach.endFabric f m2 s form r
  | 3 => Mach.endMemory f m2 s form r
  | 4 => if Mach.bridged f.part m2 s then m2 else m2.startFailed s
  | 5 => m2.endCores s form r
  | 6 => Mach.endFinal f m2 s form
  | _ => m2

/-- The stacks of the part that take part in the start. -/
def Mach.booting (m : Mach) (n : Nat) : List Nat := (List.range n).filter (fun s => !m.boot.left.contains s)

/-- The start has ended on every stack: the part's service state is reported, and that of a stack that differs (R465). -/
def Mach.startEnded (m : Mach) (n us : Nat) (form : StartForm) : Mach :=
  let m1 := { m with boot := { m.boot with start := none } }
  let m2 := m1.onStacks n (fun m s => if m.boot.left.contains s then m else m.setF s Reg.BUR_BOOT_STATUS_TOTAL_MS (us / 1000))
  let part := m2.getF 0 Reg.BUR_STATUS_SERVICE
  let m3 := if form = .wake then m2.setF 0 Reg.AON_WAKE_STATUS_STATE 0 else m2
  let m4 := if form = .warm then m3.setF 0 Reg.HOST_LINK_STATUS_RECOVERING 0 else m3
  let m5 := (m4.booting n).foldl (fun m s => if m.getF s Reg.BUR_STATUS_SERVICE = part then m else m.event s 0x0008 [m.getF s Reg.BUR_STATUS_SERVICE, 7]) m4
  if m5.boot.left.contains 0 then m5 else m5.partEvent 0x0008 [part, m5.getF 0 Reg.BUR_BOOT_STATUS_STAGE]

/-- The stage that runs, which is the lowest among the stacks that take part, ends there and the next begins (R455, R457): not while a trigger of the
orderly stop holds the start (R468), nor, up to stage 3 of a start without bridges, before every subordinate's report has come (R459). -/
def Mach.stageStep (f : Fuse) (m : Mach) (form : StartForm) (results : List StackStage) : Mach :=
  let n := f.part.stackCount
  let st := m.booting n
  let k := st.foldl (fun b s => min b (m.getF s Reg.BUR_BOOT_STATUS_STAGE)) 7
  let cur := st.filter (fun s => m.getF s Reg.BUR_BOOT_STATUS_STAGE = k)
  let waits := form ≠ .warm && decide (1 ≤ k) && decide (k ≤ 3) && cur.any (fun s => s ≠ 0 && !m.boot.reports.contains s)
  if st = [] ∨ k > 6 ∨ waits ∨ st.any (fun s => (m.stk s).therm.holds ≠ []) ∨ st.any (fun s => (m.stk s).bureau.restarting) then m
  else
    let res (s : Nat) : StackStage := results.getD s {}
    let m1 := if k = 0 then m else cur.foldl (fun m s => Mach.stageFinish f m s k form (res s)) m
    let us := m.boot.stageUs + (if k = 0 then 0 else cur.foldl (fun u s => max u (res s).us.toNat) 0)
    let m2 := { m1 with boot := { m1.boot with stageUs := us, reports := [] } }
    let go := cur.filter (fun s => !m2.boot.left.contains s)
    if k = 6 ∨ m2.booting n = [] then m2.startEnded n us form
    else
      let m3 := go.foldl (fun m s => Mach.stageBegin f.part m s (k + 1) form) m2
      if m3.boot.left.contains 0 then m3 else m3.partEvent 0x0008 [m3.getF 0 Reg.BUR_STATUS_SERVICE, k + 1]

/-- STAGE_START (R455) in a cold start or a warm rejoin; the stages of a wake start at their offsets (WAKE_STEP). -/
def Mach.stageStart (f : Fuse) (m : Mach) (results : List StackStage) : Mach :=
  match m.boot.start with
  | some .cold => Mach.stageStep f m .cold results
  | some .warm => Mach.stageStep f m .warm results
  | _ => m

/-- STAGE_LATE (R463): the running stage of a stack runs past its limit. -/
def Mach.stageLate (m : Mach) (s : Nat) : Mach :=
  let k := m.getF s Reg.BUR_BOOT_STATUS_STAGE
  if !m.starting s ∨ k = 0 ∨ k > 6 then m
  else m.setF s Reg.BUR_BOOT_STATUS_LATE (putBit (m.getF s Reg.BUR_BOOT_STATUS_LATE) (k - 1) true)

/-- BOOT_IMAGE_BLOCK (R458): a subordinate takes the next block of the image from stack 0, or stack 3 from stack 1, which holds it whole. A block that
fails its CRC is sent again. -/
def Mach.imageBlock (f : Fuse) (m : Mach) (s i : Nat) (ok : Bool) : Mach :=
  match Mach.bootSlot f m with
  | some slot =>
    let got := SMap.getD m.boot.blocks s 0
    let from' := s ≠ 0 && (s ≠ 3 || m.imageHeld slot 1)
    if m.starting s && m.getF s Reg.BUR_BOOT_STATUS_STAGE = 1 && from' && ok && i = got && decide (i < m.imageBlocks slot) then
      { m with boot := { m.boot with blocks := SMap.put m.boot.blocks s (got + 1) } }
    else m
  | none => m

/-- STAGE_MESSAGE (R459): a subordinate's report of the end of its stage reaches the primary; a release frame starts nothing before STAGE_START,
which starts the stage everywhere at the same moment (R455). -/
def Mach.stageMessage (m : Mach) (s : Nat) (release ok : Bool) : Mach :=
  let k := m.getF s Reg.BUR_BOOT_STATUS_STAGE
  if !ok ∨ release ∨ s = 0 ∨ !m.starting s ∨ k = 0 ∨ k > 3 ∨ m.boot.reports.contains s then m
  else { m with boot := { m.boot with reports := m.boot.reports ++ [s] } }

/-! ## Wake from device Stop (R487 to R490) -/

/-- WAKE_EVENT (R487, R488): an enabled source starts a wake; the edge is latched (R438), and one during a wake merges there. The RTC alarm has raised
its source when it fired. -/
def Mach.wakeEvent (m : Mach) (n : Nat) (src : WakeSource) (atEntry : Bool) : Mach :=
  let st := m.getF 0 Reg.AON_WAKE_STATUS_STATE
  let m1 := match src with
    | .rtc => m
    | .pin => m.srcEdge 0 3
    | .pcie => m
  let on := match src with
    | .rtc => m.getB 0 Reg.AON_WAKE_CFG_RTC_EN && (m.stk 0).bureau.latches.contains 2
    | .pin => m.getB 0 Reg.AON_WAKE_CFG_PIN_EN
    | .pcie => m.getB 0 Reg.AON_WAKE_CFG_PCIE_EN
  let code := match src with
    | .rtc => 1
    | .pin => 2
    | .pcie => 3
  if st = 2 then (if on then m1.beginWake n code atEntry else m1) else if st = 3 then m1 else m

/-- RTC ticks of 32.768 kHz in so many ns. -/
def rtcTicks (ns : Nat) : Nat := ns * 32768 / 10 ^ 9

/-- The poison directory of stack s is empty, as a cold start makes it (R395, R486): what the tier holds in the granules that it named is a free value
(log entry 128). -/
def Mach.emptyDirectory (m : Mach) (s : Nat) : Mach :=
  (m.tier.syn.filter (fun c => daStack c.1 = s)).foldl (fun m c =>
    let v := m.fresh 8
    { v.2 with tier := v.2.tier.putByte c.1 (BitVec.ofNat 8 v.1) }) m

/-- The Bureau of stack s leaves reset (Table PW-6 at 10 ms): registers as Table RG-6 leaves them, items that failed rebuilt (R486), the latched
sources pending, the timestamp of R490. -/
def Mach.wakeStack (m : Mach) (s : Nat) (failed : List SavedItem) : Mach :=
  let t := m.now s + (rtcTicks m.boot.rtc - rtcTicks m.boot.rtcStop) * 10 ^ 9 / 32768
  let on := (List.range 10).map (fun i => m.getF s Reg.PWR_RAIL_ENABLED i)
  let tab := (m.stk s).link.tablePlan
  let a := (m.resetCsr s (keptWake failed)).updStk s (fun k =>
    let k' := k.restarted
    { k' with
      cache := { k'.cache with shelves := if failed.contains .shelves then [] else k'.cache.shelves }
      integ := if failed.contains .spares then { resets := k'.integ.resets } else k'.integ
      vcp := if failed.contains .spares then {} else k'.vcp
      bureau := if failed.contains .logs then { latches := k'.bureau.latches } else k'.bureau
      map := if failed.contains .coreMap then {} else k'.map
      link := { k'.link with tablePlan := if failed.contains .routes then none else tab } })
  let b := if failed.contains .directory then a.emptyDirectory s else a
  let c := (on.zipIdx).foldl (fun m e => if e.1 = 1 then m.setRails s [e.2] true else m) (b.setF s Reg.AON_TIMESTAMP_NS t)
  let d := (c.setF s Reg.BUR_STATUS_SERVICE 4).setF s Reg.BUR_BOOT_STATUS_WARM 1
  let e := (m.stk s).bureau.latches.foldl (fun m x => m.srcEdgeNow s x) (d.updStk s (fun k => { k with bureau := { k.bureau with latches := [] } }))
  if failed = [] then e else (e.setF s Reg.BUR_BOOT_STATUS_FELL_BACK 1).setF 0 Reg.AON_WAKE_STATUS_SAVE_FAILED 1

/-- WAKE_STEP (R488): the next step of Table PW-6: rails, the Bureau, stages 1 to 6, the end. The MSI-X table and its pending bits have been kept
(R485). -/
def Mach.wakeNext (f : Fuse) (m : Mach) (results : List StackStage) (failed : List (List SavedItem)) : Mach :=
  let n := f.part.stackCount
  if m.boot.start ≠ some .wake then m
  else
    let goes (m : Mach) (k : Nat) : Mach := { m with boot := { m.boot with wakeStep := k } }
    match m.boot.wakeStep with
    | 0 => goes (m.onStacks n (fun m s => m.setRails s [2, 1] true)) 1
    | 1 => goes (m.onStacks n (fun m s => m.setRails s [3, 4] true)) 2
    | 2 => goes (m.onStacks n (fun m s => m.setRails s [0] true)) 3
    | 3 =>
      let lost (i : SavedItem) (s : Nat) : Bool := (failed.getD s []).contains i
      let host := { m.host.restarted with msixOpen := m.host.msixOpen, msixPend := m.host.msixPend, evBind := if lost .intc 0 then [] else m.host.evBind }
      let boot := { m.boot with remake := (m.booting n).filter (lost .spares) }
      let m1 := (m.booting n).foldl (fun m s => m.wakeStack s (failed.getD s [])) { m with host := host, boot := boot }
      let m2 := if (m.booting n).any (fun s => (failed.getD s []).contains .licences) then Mach.checkStore f m1 else m1
      goes (Mach.stageStep f (m2.setF 0 Reg.AON_WAKE_STATUS_SAVE_FAILED (decide (failed.any (· ≠ []))).toNat) .wake results) 4
    | k =>
      let m1 := Mach.stageStep f m .wake results
      if m1 = m then m else goes m1 (k + 1)

/-! ## Commands -/

/-- STAGE_START (R455). -/
def execStageStart (a : StageEnd) (s : State) : Out := onMach s (fun fu m => Mach.stageStart fu m a.results)

/-- STAGE_LATE (R463). -/
def execStageLate (a : AtStack) (s : State) : Out := onStack s a.stack (fun _ m => m.stageLate a.stack)

/-- BOOT_IMAGE_BLOCK (R458). -/
def execBootImageBlock (a : ImageBlock) (s : State) : Out :=
  onStack s a.stack (fun fu m => Mach.imageBlock fu m a.stack a.index a.crcOk)

/-- STAGE_MESSAGE (R459). -/
def execStageMessage (a : StageMessage) (s : State) : Out := onStack s a.stack (fun _ m => m.stageMessage a.stack a.release a.crcOk)

/-- WAKE_EVENT (R487). -/
def execWakeEvent (a : WakeEdge) (s : State) : Out := onMach s (fun fu m => m.wakeEvent fu.part.stackCount a.source a.atEntry)

/-- WAKE_STEP (R488). -/
def execWakeStep (a : WakeStep) (s : State) : Out := onMach s (fun fu m => Mach.wakeNext fu m a.results a.failed)

end Sys2Proof.Machine
end

