-- ==== Sys2Proof/Machine/Cvt.lean ====
section
/-! DEFINITION. CVT instructions (R133, Table KF-7). A source of 16 or 8 bits lies in the low bits of its register (DEDUCED, log entry 8). -/

namespace Sys2Proof.Machine

/-- The rounding of a conversion with MOD bits [43:42]. -/
def KCtx.cvtRnd (k : KCtx) : Rnd := Rnd.of (bits k.w 42 2)

/-- A conversion: DST receives f of the source register. -/
def KCtx.cvt (k : KCtx) (m : Mach) (f : Nat → Nat) : Mach := k.writeD m 1 (fun l => f (k.a m l))

/-- F32.S32 (R133). -/
def execF32S32 (a : KInstr) (s : State) : Out :=
  kernel a s 5 0x00 (fun k m => k.cvt m (fun v => Fmt.fp32.encode k.cvtRnd (Fv.ofInt (toSigned 32 v) 0)))

/-- F32.U32 (R133). -/
def execF32U32 (a : KInstr) (s : State) : Out :=
  kernel a s 5 0x01 (fun k m => k.cvt m (fun v => Fmt.fp32.encode k.cvtRnd (Fv.fin false v 0)))

/-- S32.F32: saturates; NaN gives 0 (R133). -/
def execS32F32 (a : KInstr) (s : State) : Out :=
  kernel a s 5 0x02 (fun k m => k.cvt m (fun v => ofSigned 32 (Fv.toInt k.cvtRnd (-2 ^ 31) (2 ^ 31 - 1) (Fmt.fp32.decode v))))

/-- U32.F32: saturates; NaN gives 0 (R133). -/
def execU32F32 (a : KInstr) (s : State) : Out :=
  kernel a s 5 0x03 (fun k m => k.cvt m (fun v => ofSigned 32 (Fv.toInt k.cvtRnd 0 (2 ^ 32 - 1) (Fmt.fp32.decode v))))

/-- BF16.F32 (R133). -/
def execBf16F32 (a : KInstr) (s : State) : Out :=
  kernel a s 5 0x04 (fun k m => k.cvt m (fun v => convert .fp32 .bf16 v))

/-- F32.BF16, exact (R133). -/
def execF32Bf16 (a : KInstr) (s : State) : Out :=
  kernel a s 5 0x05 (fun k m => k.cvt m (fun v => convert .bf16 .fp32 (v % 2 ^ 16)))

/-- F16.F32 (R133). -/
def execF16F32 (a : KInstr) (s : State) : Out :=
  kernel a s 5 0x06 (fun k m => k.cvt m (fun v => convert .fp32 .fp16 v))

/-- F32.F16, exact (R133). -/
def execF32F16 (a : KInstr) (s : State) : Out :=
  kernel a s 5 0x07 (fun k m => k.cvt m (fun v => convert .fp16 .fp32 (v % 2 ^ 16)))

/-- E4M3.F32: saturates at 448 (R133). -/
def execE4m3F32 (a : KInstr) (s : State) : Out :=
  kernel a s 5 0x08 (fun k m => k.cvt m (fun v => convert .fp32 .e4m3 v))

/-- E4M3.BF16 (R133). -/
def execE4m3Bf16 (a : KInstr) (s : State) : Out :=
  kernel a s 5 0x09 (fun k m => k.cvt m (fun v => convert .bf16 .e4m3 (v % 2 ^ 16)))

/-- E4M3.F16 (R133). -/
def execE4m3F16 (a : KInstr) (s : State) : Out :=
  kernel a s 5 0x0A (fun k m => k.cvt m (fun v => convert .fp16 .e4m3 (v % 2 ^ 16)))

/-- E5M2.F32, MOD bit 44 SAT (R133). -/
def execE5m2F32 (a : KInstr) (s : State) : Out :=
  kernel a s 5 0x0B (fun k m => k.cvt m (fun v => convertE5M2 .fp32 (bit k.w 44) v))

/-- E5M2.BF16, MOD bit 44 SAT (R133). -/
def execE5m2Bf16 (a : KInstr) (s : State) : Out :=
  kernel a s 5 0x0C (fun k m => k.cvt m (fun v => convertE5M2 .bf16 (bit k.w 44) (v % 2 ^ 16)))

/-- F32.E4M3, exact (R133). -/
def execF32E4m3 (a : KInstr) (s : State) : Out :=
  kernel a s 5 0x0D (fun k m => k.cvt m (fun v => convert .e4m3 .fp32 (v % 2 ^ 8)))

/-- F32.E5M2, exact (R133). -/
def execF32E5m2 (a : KInstr) (s : State) : Out :=
  kernel a s 5 0x0E (fun k m => k.cvt m (fun v => convert .e5m2 .fp32 (v % 2 ^ 8)))

/-- BF16.E4M3, exact (R133). -/
def execBf16E4m3 (a : KInstr) (s : State) : Out :=
  kernel a s 5 0x0F (fun k m => k.cvt m (fun v => convert .e4m3 .bf16 (v % 2 ^ 8)))

/-- BF16.E5M2, exact (R133). -/
def execBf16E5m2 (a : KInstr) (s : State) : Out :=
  kernel a s 5 0x10 (fun k m => k.cvt m (fun v => convert .e5m2 .bf16 (v % 2 ^ 8)))

end Sys2Proof.Machine
end

