-- ==== Sys2Proof/Machine/FpOps.lean ====
section
/-! DEFINITION. FP32, BF16X2 and XCEN instructions (R130 to R132, Tables KF-4 to KF-6). -/

namespace Sys2Proof.Machine

/-- The rounding of an FP32 instruction (R130). -/
def KCtx.rnd (k : KCtx) : Rnd := Rnd.of (bits k.w 42 2)

/-- Operand a of an FP32 instruction, after absolute value (bit 46) and negation (bit 44). -/
def KCtx.fa (k : KCtx) (m : Mach) (l : Nat) : Nat := f32Mod (bit k.w 44) (bit k.w 46) (k.a m l)
/-- Operand b, after absolute value (bit 47). -/
def KCtx.fb (k : KCtx) (m : Mach) (l : Nat) : Nat := f32Mod false (bit k.w 47) (k.b m l)
/-- Operand c, after negation (bit 45). -/
def KCtx.fc (k : KCtx) (m : Mach) (l : Nat) : Nat := f32Mod (bit k.w 45) false (k.c m l)

/-- FADD: a + b (R130). -/
def execFadd (a : KInstr) (s : State) : Out :=
  kernel a s 2 0x00 (fun k m => k.writeD m 1 (fun l => f32Add k.rnd (k.fa m l) (k.fb m l)))

/-- FSUB: a − b (R130). -/
def execFsub (a : KInstr) (s : State) : Out :=
  kernel a s 2 0x01 (fun k m => k.writeD m 1 (fun l => f32Sub k.rnd (k.fa m l) (k.fb m l)))

/-- FMUL: a × b (R130). -/
def execFmul (a : KInstr) (s : State) : Out :=
  kernel a s 2 0x02 (fun k m => k.writeD m 1 (fun l => f32Mul k.rnd (k.fa m l) (k.fb m l)))

/-- FFMA: a × b + c, one rounding (R130). -/
def execFfma (a : KInstr) (s : State) : Out :=
  kernel a s 2 0x03 (fun k m => k.writeD m 1 (fun l => f32Fma k.rnd (k.fa m l) (k.fb m l) (k.fc m l)))

/-- FMIN: the smaller value, −0 below +0 (R130). -/
def execFmin (a : KInstr) (s : State) : Out :=
  kernel a s 2 0x04 (fun k m => k.writeD m 1 (fun l => f32Min (k.fa m l) (k.fb m l)))

/-- FMAX: the larger value, +0 above −0 (R130). -/
def execFmax (a : KInstr) (s : State) : Out :=
  kernel a s 2 0x05 (fun k m => k.writeD m 1 (fun l => f32Max (k.fa m l) (k.fb m l)))

/-- An operation on both BF16 elements of a register: each result formed exactly and rounded once, to nearest even (R131). -/
def bf2 (f : Fv → Fv → Fv → Fv) (a b c : Nat) : Nat :=
  let el (i : Nat) : Nat :=
    Fmt.bf16.encode .near (f (Fmt.bf16.decode (bits a (16 * i) 16)) (Fmt.bf16.decode (bits b (16 * i) 16))
      (Fmt.bf16.decode (bits c (16 * i) 16)))
  el 0 + 2 ^ 16 * el 1

/-- HADD2: a + b, per element (R131). -/
def execHadd2 (a : KInstr) (s : State) : Out :=
  kernel a s 3 0x00 (fun k m => k.writeD m 1 (fun l => bf2 (fun a b _ => Fv.add .near a b) (k.a m l) (k.b m l) 0))

/-- HMUL2: a × b, per element (R131). -/
def execHmul2 (a : KInstr) (s : State) : Out :=
  kernel a s 3 0x01 (fun k m => k.writeD m 1 (fun l => bf2 (fun a b _ => Fv.mul a b) (k.a m l) (k.b m l) 0))

/-- HFMA2: a × b + c, one rounding, per element (R131). -/
def execHfma2 (a : KInstr) (s : State) : Out :=
  kernel a s 3 0x02 (fun k m => k.writeD m 1 (fun l => bf2 (fun a b c => Fv.add .near (Fv.mul a b) c) (k.a m l) (k.b m l) (k.c m l)))

/-- HMIN2: as FMIN, per element (R131). -/
def execHmin2 (a : KInstr) (s : State) : Out :=
  kernel a s 3 0x03 (fun k m => k.writeD m 1 (fun l => bf2 (fun a b _ => Fv.minV a b) (k.a m l) (k.b m l) 0))

/-- HMAX2: as FMAX, per element (R131). -/
def execHmax2 (a : KInstr) (s : State) : Out :=
  kernel a s 3 0x04 (fun k m => k.writeD m 1 (fun l => bf2 (fun a b _ => Fv.maxV a b) (k.a m l) (k.b m l) 0))

/-- EX2: 2^a (R132, R212). -/
def execEx2 (a : KInstr) (s : State) : Out :=
  kernel a s 4 0x00 (fun k m => k.writeD m 1 (fun l => ex2 (k.a m l)))

/-- LG2: log2 a (R132, R558). -/
def execLg2 (a : KInstr) (s : State) : Out :=
  kernel a s 4 0x01 (fun k m => k.writeD m 1 (fun l => lg2 (k.a m l)))

/-- RCP: 1 / a (R132, R214). -/
def execRcp (a : KInstr) (s : State) : Out :=
  kernel a s 4 0x02 (fun k m => k.writeD m 1 (fun l => rcp (k.a m l)))

/-- RSQ: 1 / √a (R132, R558). -/
def execRsq (a : KInstr) (s : State) : Out :=
  kernel a s 4 0x03 (fun k m => k.writeD m 1 (fun l => rsq (k.a m l)))

/-- SIN (R132, R558). -/
def execSin (a : KInstr) (s : State) : Out :=
  kernel a s 4 0x04 (fun k m => k.writeD m 1 (fun l => sinF (k.a m l)))

/-- COS (R132, R558). -/
def execCos (a : KInstr) (s : State) : Out :=
  kernel a s 4 0x05 (fun k m => k.writeD m 1 (fun l => cosF (k.a m l)))

end Sys2Proof.Machine
end

