-- ==== Sys2Proof/Machine/HostBar.lean ====
section
/-! DEFINITION. The BAR4 window and MSI-X (spec/13_host_and_memory.md, R380 to R384). -/

namespace Sys2Proof.Machine

/-- BAR4_READ (R380). -/
def execBar4Read (a : Bar4Read) (s : State) : Out := onMach s (fun fu m => m.bar4Request fu.part.stackCount { addr := m.bar4Addr a.offset.toNat, len := a.len })

/-- BAR4_WRITE (R380). -/
def execBar4Write (a : Bar4Write) (s : State) : Out := onMach s (fun fu m => m.bar4Request fu.part.stackCount { addr := m.bar4Addr a.offset.toNat, data := some a.data, ep := a.ep })

/-- MSIX_UNMASK (R384): a pending vector sends one message. -/
def execMsixUnmask (a : AtVector) (s : State) : Out :=
  onMach s (fun _ m =>
    let v : Nat := a.vector
    let m1 := if m.host.msixOpen.contains v then m else { m with host := { m.host with msixOpen := m.host.msixOpen ++ [v] } }
    if m.host.msixPend.contains v then
      ({ m1 with host := { m1.host with msixPend := m1.host.msixPend.filter (· ≠ v) } }).sendVector v
    else m1)

end Sys2Proof.Machine
end

