-- ==== Sys2Proof/Machine/IntOps.lean ====
section
/-! DEFINITION. INT instructions (R129, Table KF-3). -/

namespace Sys2Proof.Machine

/-- The number of registers of the operands: MOD bit 42 selects 64 bits (R129). -/
def KCtx.n (k : KCtx) : Nat := if bit k.w 42 then 2 else 1

/-- An INT instruction of two sources: DST receives f of the operands' width in bits and their values. -/
def KCtx.int2 (k : KCtx) (m : Mach) (f : Nat → Nat → Nat → Nat) : Mach :=
  k.writeD m k.n (fun l => f (32 * k.n) (k.a m l k.n) (k.b m l k.n))

/-- An INT instruction of one source. -/
def KCtx.int1 (k : KCtx) (m : Mach) (f : Nat → Nat → Nat) : Mach :=
  k.writeD m k.n (fun l => f (32 * k.n) (k.a m l k.n))

/-- Signed division truncated toward zero, with the results Table KF-3 states for a zero divisor. -/
def divS (a b : Nat) : Nat :=
  let x := toSigned 32 a
  let y := toSigned 32 b
  if y = 0 then ofSigned 32 (if 0 ≤ x then -1 else 1) else ofSigned 32 (Int.tdiv x y)

/-- a − b × IDIV.S; a zero divisor gives a. -/
def remS (a b : Nat) : Nat :=
  let y := toSigned 32 b
  if y = 0 then a else ofSigned 32 (Int.tmod (toSigned 32 a) y)

/-- Whether a is below b as signed values of W bits. -/
def sLess (W a b : Nat) : Bool := decide (toSigned W a < toSigned W b)

/-- The count of a shift: the low 8 bits of its operand (R129). -/
def shiftCount (b : Nat) : Nat := b % 256

/-- Shift left. -/
def shl (W a b : Nat) : Nat := if shiftCount b ≥ W then 0 else a * 2 ^ shiftCount b % 2 ^ W

/-- Logical shift right. -/
def shrU (W a b : Nat) : Nat := if shiftCount b ≥ W then 0 else a / 2 ^ shiftCount b

/-- Arithmetic shift right: the sign fill for a count of the width or more. -/
def shrS (W a b : Nat) : Nat := ofSigned W (toSigned W a / (2 ^ (min (shiftCount b) W) : Nat))

/-- The bits of a word in reverse order. -/
def bitReverse (a : Nat) : Nat := ofBits ((setBits a 32).map (fun k => 31 - k))

/-- IADD: a + b (R129). -/
def execIadd (a : KInstr) (s : State) : Out :=
  kernel a s 1 0x00 (fun k m => k.int2 m (fun W a b => (a + b) % 2 ^ W))

/-- ISUB: a − b (R129). -/
def execIsub (a : KInstr) (s : State) : Out :=
  kernel a s 1 0x01 (fun k m => k.int2 m (fun W a b => (a + 2 ^ W - b) % 2 ^ W))

/-- IMUL.LO: low half of a × b (R129). -/
def execImulLo (a : KInstr) (s : State) : Out :=
  kernel a s 1 0x02 (fun k m => k.int2 m (fun W a b => a * b % 2 ^ W))

/-- IMUL.HI.U: high half of the unsigned product (R129). -/
def execImulHiU (a : KInstr) (s : State) : Out :=
  kernel a s 1 0x03 (fun k m => k.int2 m (fun W a b => a * b / 2 ^ W))

/-- IMUL.HI.S: high half of the signed product (R129). -/
def execImulHiS (a : KInstr) (s : State) : Out :=
  kernel a s 1 0x04 (fun k m => k.int2 m (fun W a b => ofSigned W (toSigned W a * toSigned W b / (2 ^ W : Nat))))

/-- IMAD: a × b + c, low 32 bits (R129). -/
def execImad (a : KInstr) (s : State) : Out :=
  kernel a s 1 0x05 (fun k m => k.writeD m 1 (fun l => (k.a m l * k.b m l + k.c m l) % 2 ^ 32))

/-- IDIV.U: floor(a / b), all ones for b = 0 (R129). -/
def execIdivU (a : KInstr) (s : State) : Out :=
  kernel a s 1 0x06 (fun k m => k.int2 m (fun W a b => if b = 0 then 2 ^ W - 1 else a / b))

/-- IDIV.S: a / b truncated toward zero (R129). -/
def execIdivS (a : KInstr) (s : State) : Out :=
  kernel a s 1 0x07 (fun k m => k.int2 m (fun _ a b => divS a b))

/-- IREM.U: a − b × IDIV.U, a for b = 0 (R129). -/
def execIremU (a : KInstr) (s : State) : Out :=
  kernel a s 1 0x08 (fun k m => k.int2 m (fun _ a b => if b = 0 then a else a % b))

/-- IREM.S: a − b × IDIV.S, a for b = 0 (R129). -/
def execIremS (a : KInstr) (s : State) : Out :=
  kernel a s 1 0x09 (fun k m => k.int2 m (fun _ a b => remS a b))

/-- IMIN.S (R129). -/
def execIminS (a : KInstr) (s : State) : Out :=
  kernel a s 1 0x0A (fun k m => k.int2 m (fun W a b => if sLess W b a then b else a))

/-- IMIN.U (R129). -/
def execIminU (a : KInstr) (s : State) : Out :=
  kernel a s 1 0x0B (fun k m => k.int2 m (fun _ a b => min a b))

/-- IMAX.S (R129). -/
def execImaxS (a : KInstr) (s : State) : Out :=
  kernel a s 1 0x0C (fun k m => k.int2 m (fun W a b => if sLess W a b then b else a))

/-- IMAX.U (R129). -/
def execImaxU (a : KInstr) (s : State) : Out :=
  kernel a s 1 0x0D (fun k m => k.int2 m (fun _ a b => max a b))

/-- AND (R129). -/
def execAnd (a : KInstr) (s : State) : Out :=
  kernel a s 1 0x0E (fun k m => k.int2 m (fun _ a b => a &&& b))

/-- OR (R129). -/
def execOr (a : KInstr) (s : State) : Out :=
  kernel a s 1 0x0F (fun k m => k.int2 m (fun _ a b => a ||| b))

/-- XOR (R129). -/
def execXor (a : KInstr) (s : State) : Out :=
  kernel a s 1 0x10 (fun k m => k.int2 m (fun _ a b => a ^^^ b))

/-- NOT: bitwise complement (R129). -/
def execNot (a : KInstr) (s : State) : Out := kernel a s 1 0x11 (fun k m => k.int1 m (fun W a => 2 ^ W - 1 - a))

/-- SHL: shift a by b (R129). -/
def execShl (a : KInstr) (s : State) : Out := kernel a s 1 0x12 (fun k m => k.int2 m shl)

/-- SHR.U: shift a by b (R129). -/
def execShrU (a : KInstr) (s : State) : Out := kernel a s 1 0x13 (fun k m => k.int2 m shrU)

/-- SHR.S: shift a by b (R129). -/
def execShrS (a : KInstr) (s : State) : Out := kernel a s 1 0x14 (fun k m => k.int2 m shrS)

/-- POPC: population count (R129). -/
def execPopc (a : KInstr) (s : State) : Out := kernel a s 1 0x15 (fun k m => k.int1 m (fun _ a => popCount a 32))

/-- CLZ: leading zeros, 32 for zero (R129). -/
def execClz (a : KInstr) (s : State) : Out := kernel a s 1 0x16 (fun k m => k.int1 m (fun _ a => 32 - bitLen a))

/-- BREV: bit reversal (R129). -/
def execBrev (a : KInstr) (s : State) : Out := kernel a s 1 0x17 (fun k m => k.int1 m (fun _ a => bitReverse a))

end Sys2Proof.Machine
end

