-- ==== Sys2Proof/Machine/Intc.lean ====
section
/-! DEFINITION. The interrupt controller, regulation and crossings (spec/15_events_and_arbitration.md, R433 to R447). -/

namespace Sys2Proof.Machine

/-- The sources of Table EV-1: no other becomes pending (R433). -/
def sourceListed (src : Nat) : Bool := decide (src ≤ 13) || decide (16 ≤ src ∧ src ≤ 111) || decide (128 ≤ src ∧ src ≤ 255)

/-- The source that a claim of target t takes: the lowest that is pending, enabled, not active and has bit t in TARGETS (R434, R435). -/
def Mach.claimable (m : Mach) (s t : Nat) : Option Nat :=
  (List.range 1023).find? (fun i =>
    m.getB s Reg.INTC_SRC_CFG_PENDING i && m.getB s Reg.INTC_SRC_CFG_ENABLE i && !m.getB s Reg.INTC_SRC_CFG_ACTIVE i &&
      bit (m.getF s Reg.INTC_SRC_CFG_TARGETS i) t)

/-- A read of INTC_CLAIM[t] (R435): the id, 0x3FF for none; the source becomes active. -/
def Mach.intcClaim (m : Mach) (s t : Nat) : Mach × Nat :=
  match m.claimable s t with
  | none => (m, 0x3FF)
  | some i =>
    (((m.setF s Reg.INTC_SRC_CFG_PENDING 0 i).setF s Reg.INTC_SRC_CFG_ACTIVE 1 i).setF s Reg.INTC_SRC_CFG_CLAIMED_BY t i, i)

/-- A write of id i to INTC_COMPLETE (R436). -/
def Mach.intcComplete (m : Mach) (s i : Nat) : Mach :=
  if m.getB s Reg.INTC_SRC_CFG_ACTIVE i then m.setF s Reg.INTC_SRC_CFG_ACTIVE 0 i
  else (m.bumpF s Reg.INTC_STATUS_INVALID_COMPLETIONS).setF s Reg.INTC_STATUS_LAST_INVALID i

/-- INTC_SOURCE_EDGE (R434, R438). -/
def execIntcSourceEdge (a : AtSource) (s : State) : Out :=
  onStack s a.stack (fun _ m => if sourceListed a.source then m.srcEdge a.stack a.source else m)

/-- INTC_CLAIM (R435): the reader receives the id. -/
def execIntcClaim (a : AtTarget) (s : State) : Out :=
  onStack s a.stack (fun _ m =>
    let r := m.intcClaim a.stack a.target
    r.1.respond (PByte.clean (leBytes 8 r.2)))

/-- INTC_COMPLETE (R436). -/
def execIntcComplete (a : Completion) (s : State) : Out := onStack s a.stack (fun _ m => m.intcComplete a.stack a.source)

/-- CROSSING_RESYNC (R447): entries discarded are counted, and so is each repeated event that merges (R445). -/
def execCrossingResync (a : CrossingReset) (s : State) : Out :=
  onStack s a.stack (fun _ m =>
    let x : Nat := a.crossing
    ((m.bumpF a.stack Reg.REG_XING_STATUS_RESYNCS x).bumpF a.stack Reg.REG_XING_STATUS_DISCARDED x a.entries.toNat).bumpF a.stack
      Reg.REG_XING_STATUS_MERGES x a.repeats.toNat)

/-- LATENCY_MISS (R441, R442): the request has reached TARGET before it was served. -/
def execLatencyMiss (a : LateRequest) (s : State) : Out :=
  onStack s a.stack (fun _ m =>
    let k : Nat := a.cls
    let t := max 10 (m.getF a.stack Reg.REG_CLASS_CFG_TARGET k)
    if a.latency.toNat < t then m
    else
      let m1 := m.bumpF a.stack Reg.REG_CLASS_STATUS_MISSES k
      let m2 := m1.setF a.stack Reg.REG_CLASS_STATUS_WORST (max (m.getF a.stack Reg.REG_CLASS_STATUS_WORST k) a.latency.toNat) k
      ((m2.setF a.stack Reg.REG_CLASS_STATUS_LEVEL a.level k).srcEdge a.stack 8).event a.stack 0x0010 [k])

/-- BUREAU_TIMER_EXPIRY (Table EV-1, Table EV-5): an armed timer raises its source and its owner record is freed. -/
def execBureauTimerExpiry (a : AtTimer) (s : State) : Out :=
  onStack s a.stack (fun _ m =>
    let r : Nat := 64 + a.timer
    if m.getF a.stack Reg.REG_OWNER_OWNER r = 0 then m else (m.release a.stack r).srcEdge a.stack (16 + a.timer))

/-- BUREAU_BRIDGE_MESSAGE (R40, Table EV-1): source 9 of the receiving stack. -/
def execBureauBridgeMessage (a : BureauMessage) (s : State) : Out :=
  onStack s a.stack (fun fu m =>
    if a.sender = a.stack ∨ a.sender.val ≥ fu.part.stackCount then m else m.srcEdge a.stack 9)

end Sys2Proof.Machine
end

