-- ==== Sys2Proof/Machine/Flags.lean ====
section
/-! DEFINITION. What predicates are computed from: comparisons (R135), predicate logic (R135), votes (R99, R136). -/

namespace Sys2Proof.Machine

/-- The result of a test from "less" and "equal", for operands that compare (R135): 0 EQ, 1 NE, 2 LT, 3 LE, 4 GT, 5 GE. -/
def testOf (t : Nat) (lt eq : Bool) : Bool :=
  if t = 0 then eq else if t = 1 then !eq else if t = 2 then lt else if t = 3 then lt || eq else if t = 4 then !(lt || eq)
  else !lt

/-- ISETP's test: signed operands, or unsigned when `uns` (R135). -/
def intTest (t : Nat) (uns : Bool) (a b : Nat) : Bool :=
  if uns then testOf t (decide (a < b)) (decide (a = b)) else testOf t (decide (toSigned 32 a < toSigned 32 b)) (decide (a = b))

/-- FSETP's test: a NaN makes every test false but NE; −0 equals +0 (R135). -/
def floatTest (t : Nat) (a b : Nat) : Bool :=
  match Fmt.fp32.decode a, Fmt.fp32.decode b with
  | .nan, _ | _, .nan => decide (t = 1)
  | x, y => testOf t (Fv.lt x y) (Fv.eq x y)

/-- PLOP's operation: 0 AND, 1 OR, 2 XOR (R135). -/
def predLogic (op : Nat) (a b : Bool) : Bool := if op = 0 then a && b else if op = 1 then a || b else a != b

/-- Vote-any over the counted lanes (R99, R136). -/
def voteAny (counted pa : Nat) : Bool := (counted &&& pa) ≠ 0

/-- Vote-all over the counted lanes (R99, R136). -/
def voteAll (counted pa : Nat) : Bool := (counted &&& pa) = counted

end Sys2Proof.Machine
end

