-- ==== Sys2Proof/Machine/MoveOps.lean ====
section
/-! DEFINITION. MOVE, PRED and GROUP instructions (R134 to R137, Tables KF-8 to KF-10). -/

namespace Sys2Proof.Machine

/-- MOV: a register or an immediate (R134). -/
def execMov (a : KInstr) (s : State) : Out :=
  kernel a s 6 0x00 (fun k m =>
    let n := if bit k.w 42 then 2 else 1
    k.writeD m n (fun l => if Iw.immB k.w then k.b m l n else k.a m l n))

/-- SEL: a where the predicate in MOD bits [45:43] is true, b elsewhere (R134). -/
def execSel (a : KInstr) (s : State) : Out :=
  kernel a s 6 0x01 (fun k m => k.writeD m 1 (fun l => if bit (k.g.predMask (bits k.w 43 3)) l then k.a m l else k.b m l))

/-- PACK2 (R134). -/
def execPack2 (a : KInstr) (s : State) : Out :=
  kernel a s 6 0x02 (fun k m => k.writeD m 1 (fun l => bits (k.a m l) 0 16 + 2 ^ 16 * bits (k.b m l) 0 16))

/-- PACK4 (R134). -/
def execPack4 (a : KInstr) (s : State) : Out :=
  kernel a s 6 0x03 (fun k m => k.writeD m 1 (fun l =>
    bits (k.a m l) 0 8 + 2 ^ 8 * bits (k.a m l) 16 8 + 2 ^ 16 * bits (k.b m l) 0 8 + 2 ^ 24 * bits (k.b m l) 16 8))

/-- Special register n of a lane (Table KF-8); the step counter and the timestamp read zero unless READS_TIME is set (R79, R134). -/
def KCtx.special (k : KCtx) (m : Mach) (n lane : Nat) : Nat :=
  let c := m.core k.s k.L
  let time (v : Nat) : Nat := if bit (m.plan k.s).determinism 1 then v else 0
  match n with
  | 0 => lane
  | 1 => k.g.index
  | 2 => k.g.block
  | 3 => c.launch.blocks
  | 4 => c.launch.groups
  | 5 => k.L
  | 6 => k.s
  | 7 => m.getF k.s Reg.LNK_SDID_SDID
  | 8 => k.g.active
  | 9 => time (bits c.steps 0 32)
  | 10 => time (bits c.steps 32 32)
  | 11 => time (bits (m.now k.s) 0 32)
  | 12 => time (bits (m.now k.s) 32 32)
  | _ => 0

/-- S2R: the special register numbered in IMM12 (R134). -/
def execS2r (a : KInstr) (s : State) : Out := kernel a s 6 0x04 (fun k m => k.writeD m 1 (fun l => k.special m (Iw.imm12 k.w) l))

/-- ISETP (R135). -/
def execIsetp (a : KInstr) (s : State) : Out :=
  kernel a s 7 0x00 (fun k m => k.writeP m (fun l => intTest (bits k.w 42 3) (bit k.w 45) (k.a m l) (k.b m l)))

/-- FSETP (R135). -/
def execFsetp (a : KInstr) (s : State) : Out :=
  kernel a s 7 0x01 (fun k m => k.writeP m (fun l => floatTest (bits k.w 42 3) (k.a m l) (k.b m l)))

/-- PLOP: d ← pa OP pb, MOD bits 44 and 45 inverting pa and pb (R135). -/
def execPlop (a : KInstr) (s : State) : Out :=
  kernel a s 7 0x02 (fun k m => k.writeP m (fun l =>
    predLogic (bits k.w 42 2) (bit (k.g.predMask (Iw.pa k.w)) l != bit k.w 44) (bit (k.g.predMask (Iw.pb k.w)) l != bit k.w 45)))

/-- ELECT: true in the lowest active lane whose guard is true (R99, R136). -/
def execElect (a : KInstr) (s : State) : Out := kernel a s 8 0x00 (fun k m => k.writeP m (fun l => k.lowest = some l))

/-- VOTE.ANY (R136). -/
def execVoteAny (a : KInstr) (s : State) : Out :=
  kernel a s 8 0x01 (fun k m => k.writeP m (fun _ => voteAny k.mask (k.g.predMask (Iw.pa k.w))))

/-- VOTE.ALL (R136). -/
def execVoteAll (a : KInstr) (s : State) : Out :=
  kernel a s 8 0x02 (fun k m => k.writeP m (fun _ => voteAll k.mask (k.g.predMask (Iw.pa k.w))))

/-- BALLOT: the mask of the counted lanes in which pa is true (R136). -/
def execBallot (a : KInstr) (s : State) : Out :=
  kernel a s 8 0x03 (fun k m => k.writeD m 1 (fun _ => k.mask &&& k.g.predMask (Iw.pa k.w)))

/-- SHFL: register a of lane b mod 32 (R136, R137). -/
def execShfl (a : KInstr) (s : State) : Out :=
  kernel a s 8 0x04 (fun k m => k.writeD m 1 (fun l => k.a m (k.b m l % 32)))

end Sys2Proof.Machine
end

