-- ==== Sys2Proof/Machine/RegEffect.lean ====
section
/-! DEFINITION. What a host write does at each register of region 0x8 (spec/20_register_reference.md, R523 to R528; R12, R63, R67, R232, R281, R340, R349,
R358 to R360, R397, R398, R412, R448, R475, R482, R493, R497, R511, R532). -/

namespace Sys2Proof.Machine

/-! ## Fields that an access covers (R524, R526) -/

/-- The data of a write at the places of its fields. -/
def regData (w : RegW) : Nat :=
  match w.half with
  | .lo => w.value.toNat % 2 ^ 32
  | .hi => w.value.toNat % 2 ^ 32 * 2 ^ 32
  | .full => w.value.toNat

/-- Field f lies wholly within the half. -/
def covers (h : RegHalf) (f : Fld) : Bool :=
  match h with
  | .lo => decide (f.lo + f.width ≤ 32)
  | .hi => decide (32 ≤ f.lo)
  | .full => true

/-- What the write puts into field f. -/
def Fld.of (f : Fld) (w : RegW) : Nat := bits (regData w) f.lo f.width

/-- A WO or W1C bit is written with 1. -/
def Fld.hit (f : Fld) (w : RegW) : Bool := covers w.half f && f.of w ≠ 0

/-- The value that field f will have, if the write is accepted. -/
def Mach.after (m : Mach) (s : Nat) (f : Fld) (i : Nat) (w : RegW) : Nat := if covers w.half f then f.of w else m.getF s f i

/-- A write by the access codes alone (R17, R526). -/
def Mach.writeFields (m : Mach) (s : Nat) (l : List Fld) (i : Nat) (w : RegW) : Mach :=
  l.foldl (fun m f =>
    if !covers w.half f then m
    else
      match f.acc with
      | .rw => m.setF s f (f.of w) i
      | .w1c => if f.of w ≠ 0 then m.setF s f (m.getF s f i - f.of w) i else m
      | _ => m) m

/-- The machine after a write, and whether the write was ignored or refused (R427). -/
abbrev Written := Mach × Bool

/-- The write reaches some field that a write changes. -/
def acts (l : List Fld) (w : RegW) : Bool :=
  l.any (fun f => covers w.half f && (f.acc = .rw || f.acc = .wo || (f.acc = .w1c && f.of w ≠ 0)))

/-! ## Cabinet pools (R231 to R233, R367, R391) -/

/-- A configuration of a Cabinet: the fields of CAB_POOL_CFG to CAB_CLASS_CFG. -/
structure PoolSet where
  frames : Nat
  blocks : Nat
  intake : Nat
  base   : Nat
  slots  : Nat
  chest  : Bool
  lpBase : Nat
  spill  : Nat
  drop   : Nat
  deriving DecidableEq, Repr

/-- The configuration of Cabinet c. -/
def Mach.poolSet (m : Mach) (s c : Nat) : PoolSet :=
  ⟨m.frames s c, m.mapBlocks s c, m.getF s Reg.CAB_POOL_CFG_INTAKE c, m.getF s Reg.CAB_POOL_BASE_BASE c, m.chestSlots s c,
   m.getB s Reg.CAB_LP_CFG_CHEST_EN c, m.getF s Reg.CAB_LP_BASE_BASE c, m.getF s Reg.CAB_CLASS_CFG_SPILL c, m.getF s Reg.CAB_CLASS_CFG_DROP c⟩

/-- Two ranges of bytes overlap. -/
def overlap (a n b k : Nat) : Bool := decide (0 < n) && decide (0 < k) && decide (a < b + k) && decide (b < a + n)

/-- Bytes of the pool area, and of the LPDDR5X area: 16 per page id and 18 KiB per Chest slot (R231 to R233). -/
def PoolSet.area (p : PoolSet) : Nat := if p.frames = 0 then 0 else poolBytes p.frames p.blocks p.intake
def PoolSet.lpArea (p : PoolSet) : Nat := if p.frames = 0 then 0 else 16 * (p.frames - 16 + p.slots) + 0x4800 * p.slots

/-- The settings lie in their ranges (CAB_POOL_CFG, CAB_LP_CFG). -/
def PoolSet.inRange (p : PoolSet) : Bool :=
  (p.frames = 0 || (decide (17 ≤ p.frames) && decide (p.frames ≤ 40960))) && decide (p.blocks ≤ 65535) && decide (p.intake ≤ 63) &&
    decide (p.slots ≤ 2097152) && (p.frames = 0 || decide (1 ≤ p.intake))

/-- The last byte of the tier below the firmware area, as an offset of region 0x4 (R391). -/
def Mach.tierTop (m : Mach) (s : Nat) : Nat := m.tierBytes s - 512 * 2 ^ 20

/-- The areas of a configuration lie where R232 asks for them. -/
def Mach.poolFits (m : Mach) (s c : Nat) (p : PoolSet) : Bool :=
  let o := m.poolSet s (1 - c)
  let tw := m.twin s
  p.frames = 0 ||
    (decide (p.base % 0x4000 = 0) && decide (daStack p.base = s) && decide (daRegion p.base = 0) &&
      placedRange (m.cacheCount s 0) (m.cacheCount s 1) (daOff p.base) p.area &&
      !overlap p.base p.area o.base o.area &&
      decide (p.lpBase % 0x4000 = 0) && decide (daStack p.lpBase = s) && decide (daRegion p.lpBase = 4) &&
      decide (daOff p.lpBase + p.lpArea ≤ m.tierTop s) && !overlap p.lpBase p.lpArea o.lpBase o.lpArea &&
      !(m.getF s Reg.LNK_TWIN_STATUS_STATE ≠ 0 && overlap (daOff p.lpBase) p.lpArea tw.base jSize))

/-- Page ids, map blocks or Chest slots of Cabinet c are in use. -/
def Mach.poolUsed (m : Mach) (s c : Nat) : Bool :=
  decide ((m.cab s c).pages ≠ []) || decide ((m.cab s c).blocks ≠ [])

/-- A change of configuration is accepted (R232). -/
def Mach.poolOk (m : Mach) (s c : Nat) (p : PoolSet) : Bool :=
  let o := m.poolSet s c
  let moved := decide (p.frames ≠ o.frames) || decide (p.blocks ≠ o.blocks) || decide (p.slots ≠ o.slots) || decide (p.base ≠ o.base) ||
    decide (p.lpBase ≠ o.lpBase)
  !m.planOn s && p.inRange && m.poolFits s c p && !(moved && m.poolUsed s c) &&
    !(o.chest && !p.chest && decide ((m.cab s c).usedSlots ≠ []))

/-- An accepted configuration takes effect. -/
def Mach.setPool (m : Mach) (s c : Nat) (p : PoolSet) : Mach :=
  let a := (m.setF s Reg.CAB_POOL_CFG_FRAMES p.frames c).setF s Reg.CAB_POOL_CFG_MAP_BLOCKS p.blocks c
  let b := (a.setF s Reg.CAB_POOL_CFG_INTAKE p.intake c).setF s Reg.CAB_POOL_BASE_BASE p.base c
  let d := (b.setF s Reg.CAB_LP_CFG_CHEST_SLOTS p.slots c).setF s Reg.CAB_LP_CFG_CHEST_EN p.chest.toNat c
  let e := (d.setF s Reg.CAB_LP_BASE_BASE p.lpBase c).setF s Reg.CAB_CLASS_CFG_SPILL p.spill c
  (e.setF s Reg.CAB_CLASS_CFG_DROP p.drop c).syncCab s c

/-- A register write that needs a licence which is not installed: the status FEATURE_UNLICENSED is entered in the error log, with the register's
offset (R12; DESIGN CHOICE, log entry 117). -/
def Mach.unlicensedWrite (m : Mach) (s o : Nat) : Mach := m.logError s 0x0008 0 0 o

/-- A configuration asks for nothing of the Chest, or the Chest is licensed (R12). -/
def Mach.chestOk (m : Mach) (s : Nat) (p : PoolSet) : Bool := m.licensed s 3 || (p.slots = 0 && !p.chest)

/-- A host write of a register of Cabinet c that leads to configuration p. -/
def Mach.writePool (m : Mach) (s c : Nat) (p : PoolSet) : Written :=
  if m.poolOk s c p then (m.setPool s c p, false) else (m, true)

/-- CAB_POOL_CFG (R232). -/
def Mach.writePoolCfg (m : Mach) (s c : Nat) (w : RegW) : Written :=
  if m.after s Reg.CAB_POOL_CFG_INTAKE c w = 0 then (m, true)
  else
    m.writePool s c { m.poolSet s c with frames := m.after s Reg.CAB_POOL_CFG_FRAMES c w, blocks := m.after s Reg.CAB_POOL_CFG_MAP_BLOCKS c w,
                                         intake := m.after s Reg.CAB_POOL_CFG_INTAKE c w }

/-- CAB_POOL_BASE (R232): in region 0x0, a multiple of 0x4000. -/
def Mach.writePoolBase (m : Mach) (s c : Nat) (w : RegW) : Written :=
  let b := m.after s Reg.CAB_POOL_BASE_BASE c w
  if b % 0x4000 ≠ 0 ∨ daRegion b ≠ 0 then (m, true) else m.writePool s c { m.poolSet s c with base := b }

/-- CAB_LP_CFG (R232). -/
def Mach.writeLpCfg (m : Mach) (s c : Nat) (w : RegW) : Written :=
  let p := { m.poolSet s c with slots := m.after s Reg.CAB_LP_CFG_CHEST_SLOTS c w, chest := m.after s Reg.CAB_LP_CFG_CHEST_EN c w ≠ 0 }
  if !m.planOn s && !m.chestOk s p then (m.unlicensedWrite s (Reg.CAB_LP_CFG.off c), true) else m.writePool s c p

/-- CAB_LP_BASE (R232): in region 0x4, a multiple of 0x4000. -/
def Mach.writeLpBase (m : Mach) (s c : Nat) (w : RegW) : Written :=
  let b := m.after s Reg.CAB_LP_BASE_BASE c w
  if b % 0x4000 ≠ 0 ∨ daRegion b ≠ 4 then (m, true) else m.writePool s c { m.poolSet s c with lpBase := b }

/-- CAB_CLASS_CFG (R232). -/
def Mach.writeClassCfg (m : Mach) (s c : Nat) (w : RegW) : Written :=
  m.writePool s c { m.poolSet s c with spill := m.after s Reg.CAB_CLASS_CFG_SPILL c w, drop := m.after s Reg.CAB_CLASS_CFG_DROP c w }

/-! ## Mailboxes (R412, R511) -/

/-- MBX_DOORBELL (R412). -/
def Mach.writeDoorbell (m : Mach) (b : Nat) (w : RegW) : Written :=
  if !covers w.half Reg.MBX_DOORBELL_SEQ then (m, true)
  else if m.getB 0 Reg.MBX_STATUS_BUSY b then (m.bumpF 0 Reg.MBX_STATUS_REFUSED b, true)
  else
    (({ m with host := { m.host with mbxQueue := m.host.mbxQueue ++ [(b, Reg.MBX_DOORBELL_SEQ.of w)] } }).setF 0 Reg.MBX_STATUS_BUSY 1 b, false)

/-- MBX_EVT_TAIL (R511); room in the ring takes the events that wait (R424). -/
def Mach.writeTail (m : Mach) (w : RegW) : Written :=
  let t := m.getF 0 Reg.MBX_EVT_TAIL_TAIL
  let v := Reg.MBX_EVT_TAIL_TAIL.of w
  if covers w.half Reg.MBX_EVT_TAIL_TAIL && decide ((v + 2 ^ 32 - t) % 2 ^ 32 ≤ m.ringUsed) then
    (Mach.drainEvents (m.host.evQueue.length + 1) (m.setF 0 Reg.MBX_EVT_TAIL_TAIL v), false)
  else (m, true)

/-! ## Sync objects (R63, R67) -/

/-- SYNC_SIGNAL (R63): N with FAIL_CODE 0 signals, with another it signals a failure; N = 0 marks a failure without counting. -/
def Mach.writeSignal (m : Mach) (s o : Nat) (w : RegW) : Written :=
  let n := Reg.SYNC_SIGNAL_N.of w
  let f := Reg.SYNC_SIGNAL_FAIL_CODE.of w
  if w.half = .hi ∨ (n = 0 ∧ f = 0) then (m, true) else (m.applySignals s o [(n, f)], decide (o < 64))

/-- SYNC_STATUS (R67): a clear of STALLED starts a new run of the stall time, and the object is one of STALLED_OBJECTS no more. -/
def Mach.writeSyncStatus (m : Mach) (s o : Nat) (w : RegW) : Written :=
  if Reg.SYNC_STATUS_STALLED.hit w then
    let n := m.getF s Reg.SYNC_DROPPED_STALLED_OBJECTS - (m.getB s Reg.SYNC_STATUS_STALLED o).toNat
    (((m.setF s Reg.SYNC_STATUS_STALLED 0 o).setF s Reg.SYNC_DROPPED_STALLED_OBJECTS n).updPlan s (fun p =>
      { p with stallDone := p.stallDone.filter (· ≠ o) }), false)
  else (m, true)

/-! ## The cache partition (R281) -/

/-- CDIE_PART_CFG of half h (R281). -/
def Mach.writePartCfg (m : Mach) (s h : Nat) (w : RegW) : Written :=
  if !covers w.half Reg.CDIE_PART_CFG_CACHE then (m, true)
  else
    let v := Reg.CDIE_PART_CFG_CACHE.of w
    let o := m.getF s Reg.CDIE_PART_CFG_CACHE (1 - h)
    let cw := if h = 0 then v else o
    let ce := if h = 0 then o else v
    if m.partOk s cw ce then (m.partStart s cw ce, false) else (m.setF s Reg.CDIE_PART_STATUS_REFUSED 1 h, true)

/-! ## Links (R339, R340, R349, R358 to R360) -/

/-- The SDID of stack s set; a link whose clash has gone enters UP (R339). -/
def Mach.setSdid (m : Mach) (s v : Nat) : Mach :=
  (List.range 24).foldl (fun m n =>
    if m.getB s Reg.LNK_STATUS_SDID_CLASH n && m.getF s Reg.LNK_STATUS_STATE n = 1 && m.getF s Reg.LNK_PEER_SDID n ≠ v then
      (m.setF s Reg.LNK_STATUS_SDID_CLASH 0 n).linkUpNow s n
    else m) (m.setF s Reg.LNK_SDID_SDID v)

/-- LNK_SDID (R349). -/
def Mach.writeSdid (m : Mach) (s : Nat) (w : RegW) : Written :=
  if covers w.half Reg.LNK_SDID_SDID ∧ !m.planOn s then (m.setSdid s (Reg.LNK_SDID_SDID.of w), false) else (m, true)

/-- Link n is a twin link of a pair. -/
def Mach.twinLink (m : Mach) (s n : Nat) : Bool :=
  m.getF s Reg.LNK_TWIN_STATUS_STATE ≠ 0 && (m.getF s Reg.LNK_TWIN_CFG_LINK_A = n || m.getF s Reg.LNK_TWIN_CFG_LINK_B = n)

/-- TEST is refused: a plan is LOADED or RUNNING and a VALID route names the link as HOP, or it is a twin link (R358). -/
def Mach.testBarred (m : Mach) (s n : Nat) : Bool :=
  m.twinLink s n ||
    (m.planOn s && (List.range 16384).any (fun r => m.getB s Reg.LNK_ROUTE_VALID r && m.getF s Reg.LNK_ROUTE_HOP r = n))

/-- RETRAIN of link n (R340, Table LK-3, Table LK-7): from UP and FAILED a retrain starts, and during one it is counted only. -/
def Mach.askRetrain (m : Mach) (s n : Nat) : Mach :=
  let st := m.getF s Reg.LNK_STATUS_STATE n
  if st = 2 ∨ st = 5 then m.retrain s n true none else if st = 3 then m.bumpF s Reg.LNK_STATUS_RETRAINS n else m

/-- The pattern test of link n ends by a host write: its record and that of the spare lane are freed. -/
def Mach.patEnd (m : Mach) (s n : Nat) : Mach :=
  let a := m.patAbort s n
  let b := if a.getF s Reg.REG_OWNER_CLASS n = 3 ∧ (m.lnk s n).scan = none then a.patRelease s n else a
  if b.getF s Reg.REG_OWNER_CLASS (24 + n) = 3 ∧ (m.lnk s n).scan ≠ some 8 then b.release s (24 + n) else b

/-- The state of link n after a write of ENABLE or TEST. -/
def Mach.linkMode (m : Mach) (s n : Nat) (en0 te0 : Bool) : Mach :=
  let en := m.getB s Reg.LNK_CTRL_ENABLE n
  let te := m.getB s Reg.LNK_CTRL_TEST n
  if !en then (if en0 then ((m.scanAbort s n).patEnd s n).setF s Reg.LNK_STATUS_STATE 0 n else m)
  else if te then (if te0 ∧ en0 then m else m.setF s Reg.LNK_STATUS_STATE 6 n)
  else if te0 then ((m.scanAbort s n).patEnd s n).linkBegin s n
  else if !en0 then m.linkBegin s n
  else m

/-- LNK_CTRL of link n. -/
def Mach.writeLnkCtrl (m : Mach) (s n : Nat) (w : RegW) : Written :=
  let te0 := m.getB s Reg.LNK_CTRL_TEST n
  if Reg.LNK_CTRL_TEST.hit w ∧ !te0 ∧ m.testBarred s n then (m, true)
  else
    let m1 := (m.writeFields s Reg.LNK_CTRL_fields n w).linkMode s n (m.getB s Reg.LNK_CTRL_ENABLE n) te0
    (if Reg.LNK_CTRL_RETRAIN.hit w then m1.askRetrain s n else m1, !acts Reg.LNK_CTRL_fields w)

/-- Patterns on `lanes` may run on link n: data lanes need TEST; lane 8 may also be used while the link is UP and no data lane uses it (R358, R359). -/
def Mach.lanesFree (m : Mach) (s n lanes : Nat) : Bool :=
  m.getF s Reg.LNK_STATUS_STATE n = 6 ||
    (lanes = 0x100 && m.getF s Reg.LNK_STATUS_STATE n = 2 && m.getF s Reg.LNK_STATUS_SPARE_FOR n = 15)

/-- An owner claims the pattern unit of link n, and its spare lane when that is used, at class TEST (R448, R450); none when a claim is refused,
which is counted. -/
def Mach.claimTest (m : Mach) (s n owner : Nat) (spare : Bool) : Mach × Bool :=
  if m.claimKind s n owner 3 = .refused then (m.claim s n owner 3, false)
  else if spare ∧ m.claimKind s (24 + n) owner 3 = .refused then (m.claim s (24 + n) owner 3, false)
  else
    let a := (m.claim s n owner 3).setF s Reg.LNK_PAT_CFG_OWNER owner n
    (if spare then a.claim s (24 + n) owner 3 else a, true)

/-- LNK_PAT_CFG of link n (R358, R448): GEN or CHECK claims the pattern unit; clearing both frees it. -/
def Mach.writePatCfg (m : Mach) (s n : Nat) (w : RegW) : Written :=
  if w.half = .hi then (m, true)
  else
    let gen := Reg.LNK_PAT_CFG_GEN.of w ≠ 0
    let chk := Reg.LNK_PAT_CFG_CHECK.of w ≠ 0
    let lanes := Reg.LNK_PAT_CFG_LANES.of w
    if gen || chk then
      if !m.lanesFree s n lanes then (m, true)
      else
        let r := m.claimTest s n 0x50 (bit lanes 8 && chk)
        if r.2 then (r.1.writeFields s Reg.LNK_PAT_CFG_fields n w, false) else (r.1, true)
    else
      let m1 := if m.getB s Reg.LNK_PAT_CFG_GEN n || m.getB s Reg.LNK_PAT_CFG_CHECK n then m.patEnd s n else m
      (m1.writeFields s Reg.LNK_PAT_CFG_fields n w, false)

/-- A margin scan of a lane of link n by an owner (R360); the flag says that it began. -/
def Mach.scanStart (m : Mach) (s n lane owner : Nat) : Mach × Bool :=
  if lane > 8 ∨ (m.lnk s n).scan ≠ none ∨ !m.lanesFree s n (2 ^ lane) then (m, false)
  else
    let r := m.claimTest s n owner (lane = 8)
    if r.2 then
      (((r.1.updLnk s n (fun l => { l with scan := some lane })).setF s Reg.LNK_MARGIN_DONE 0 n).setF s Reg.LNK_MARGIN_ABORTED 0 n, true)
    else r

/-- LNK_MARGIN of link n (R360): a lane above 8 lies outside its range (R526). -/
def Mach.writeMargin (m : Mach) (s n : Nat) (w : RegW) : Written :=
  let lane := Reg.LNK_MARGIN_LANE.of w
  if w.half = .hi ∨ lane > 8 then (m, true)
  else
    let m1 := m.setF s Reg.LNK_MARGIN_LANE lane n
    if Reg.LNK_MARGIN_START.hit w then
      let r := m.scanStart s n lane 0x50
      if r.2 then (r.1.setF s Reg.LNK_MARGIN_LANE lane n, false) else (r.1, true)
    else (m1, false)

/-! ## Movers (R397, R398) -/

/-- MOV_CH_HEAD of channel c. -/
def Mach.writeMovHead (m : Mach) (s c : Nat) (w : RegW) : Written :=
  if c < 4 ∨ m.getB s Reg.MOV_CH_CTRL_BUSY c ∨ w.half ≠ .full then (m, true) else (m.writeFields s Reg.MOV_CH_HEAD_fields c w, false)

/-- MOV_CH_CTRL of channel c: START together with STOP acts as STOP alone. -/
def Mach.writeMovCtrl (m : Mach) (s c : Nat) (w : RegW) : Written :=
  if c < 4 ∨ !acts Reg.MOV_CH_CTRL_fields w then (m, true)
  else
    let m1 := m.writeFields s Reg.MOV_CH_CTRL_fields c w
    let start := Reg.MOV_CH_CTRL_START.hit w
    if Reg.MOV_CH_CTRL_STOP.hit w then
      (if start then (m1.movStop s c).bumpF s Reg.MOV_CH_CTRL_REFUSED c else m1.movStop s c, start)
    else if start then
      let r := m1.movStart s c 0x50
      (r.1, !r.2)
    else (m1, false)

/-! ## Cores (R475, R480, R482) -/

/-- CORE_POWER of core p: a STOP_REQ that changes is obeyed only when it may be (R482). -/
def Mach.writePower (m : Mach) (s p : Nat) (w : RegW) : Written :=
  if w.half = .hi then (m, true)
  else
    let q := Reg.CORE_POWER_STOP_REQ.of w
    let new := q ≠ m.getF s Reg.CORE_POWER_STOP_REQ p
    if new ∧ (!m.powerFree s p ∨ (q = 0 ∧ m.getB s Reg.THM_STATUS_STOP_HOLD)) then (m, true)
    else
      let m1 := m.setF s Reg.CORE_POWER_LDO_SET (Reg.CORE_POWER_LDO_SET.of w) p
      let m2 := if new then (if q = 1 then m1.requestStop s p else m1.requestWake s p) else m1
      (m2.ldoSettle s p, false)

/-- Another CORE_ register of core p: ignored while the core is in Stop (R480); a cause flag that clears may end its bit (R437). -/
def Mach.writeCore (m : Mach) (s p : Nat) (l : List Fld) (w : RegW) : Written :=
  if m.getF s Reg.CORE_POWER_STATE p = 0 then (m, true)
  else ((m.writeFields s l p w).coreCauseSettle s p, !acts l w)

/-! ## Temperature, GPIO, the clock (R448, R493, R497, R532) -/

/-- The setting of channel c is allowed (R497). -/
def limitsOk (c warn throttle : Nat) : Bool :=
  decide (c < 56) && !(warn ≠ 0x7FFF && throttle ≠ 0x7FFF && decide (degrees throttle < degrees warn)) &&
    !(decide (c < 48) && (throttle = 0x7FFF || decide (0x0370 < degrees throttle)))

/-- THM_CH_CFG of channel c (R497); BETA is RZ on diode channels. -/
def Mach.writeChCfg (m : Mach) (s c : Nat) (w : RegW) : Written :=
  if !acts Reg.THM_CH_CFG_fields w ∨ !limitsOk c (m.after s Reg.THM_CH_CFG_WARN c w) (m.after s Reg.THM_CH_CFG_THROTTLE c w) then (m, true)
  else (m.writeFields s (if c < 48 then [Reg.THM_CH_CFG_WARN, Reg.THM_CH_CFG_THROTTLE] else Reg.THM_CH_CFG_fields) c w, false)

/-- THM_DIAG (R493): EN claims the fast slot at class TEST; a refused claim leaves it 0. -/
def Mach.writeDiag (m : Mach) (s : Nat) (w : RegW) : Written :=
  if w.half = .hi then (m, true)
  else
    let m1 := m.setF s Reg.THM_DIAG_CHANNEL (Reg.THM_DIAG_CHANNEL.of w)
    if Reg.THM_DIAG_EN.hit w then
      if m.claimKind s 136 0x50 3 = .refused then (m.claim s 136 0x50 3, true)
      else ((m1.claim s 136 0x50 3).setF s Reg.THM_DIAG_EN 1, false)
    else if m.getB s Reg.THM_DIAG_EN then ((m1.release s 136).setF s Reg.THM_DIAG_EN 0, false)
    else (m1, false)

/-- One OE bit of REG_GPIO as it is written (R448, R450). -/
def Mach.writeOe (m : Mach) (s k : Nat) (v : Bool) : Mach :=
  let oe := m.getF s Reg.REG_GPIO_OE
  if v = bit oe k then m
  else if !v then (m.release s (56 + k)).setF s Reg.REG_GPIO_OE (putBit oe k false)
  else if m.claimKind s (56 + k) 0x50 2 = .refused then m.claim s (56 + k) 0x50 2
  else (m.claim s (56 + k) 0x50 2).setF s Reg.REG_GPIO_OE (putBit oe k true)

/-- REG_GPIO: each OE bit that is set claims its pin; one whose claim is refused stays 0. -/
def Mach.writeGpio (m : Mach) (s : Nat) (w : RegW) : Written :=
  if w.half = .hi then (m, true)
  else
    let m1 := (m.setF s Reg.REG_GPIO_OUT (Reg.REG_GPIO_OUT.of w)).setF s Reg.REG_GPIO_EDGE (Reg.REG_GPIO_EDGE.of w)
    ((List.range 8).foldl (fun m k => m.writeOe s k (bit (Reg.REG_GPIO_OE.of w) k)) m1, false)

/-- AON_RTC_ALARM (R532): ALARM spans both halves, FIRED lies in the high half. -/
def Mach.writeAlarm (m : Mach) (s : Nat) (w : RegW) : Written :=
  (m.writeFields s Reg.AON_RTC_ALARM_fields 0 w, !acts Reg.AON_RTC_ALARM_fields w)

/-- PWR_STATUS (R474, R502): a clear of FAULT may end the cause of an orderly stop. -/
def Mach.writePwrStatus (m : Mach) (s : Nat) (w : RegW) : Written :=
  if Reg.PWR_STATUS_FAULT.hit w then ((m.setF s Reg.PWR_STATUS_FAULT 0).railSettle s, false) else (m, true)

/-- HOST_STACK_SEL (R379), on a part of n stacks. -/
def Mach.writeStackSel (m : Mach) (n : Nat) (w : RegW) : Written :=
  if w.half = .hi ∨ n ≤ Reg.HOST_STACK_SEL_STACK.of w then (m, true) else (m.setF 0 Reg.HOST_STACK_SEL_STACK (Reg.HOST_STACK_SEL_STACK.of w), false)

/-- INTC_COMPLETE (R436). -/
def Mach.writeComplete (m : Mach) (s : Nat) (w : RegW) : Written :=
  if covers w.half Reg.INTC_COMPLETE_ID then (m.intcComplete s (Reg.INTC_COMPLETE_ID.of w), false) else (m, true)

end Sys2Proof.Machine
end

