-- ==== Sys2Proof/Machine/RegWrite.lean ====
section
/-! DEFINITION. Host accesses to registers through BAR0 and BAR2 (spec/20_register_reference.md, R520 to R528; spec/13_host_and_memory.md, R379, R411;
spec/16_bring_up.md, R464; spec/17_power.md, R489), and the sideband pins (R546, R555). -/

namespace Sys2Proof.Machine

/-! ## When the endpoint answers (R454, R464, R489) -/

/-- The part has power and is out of PERST_N. -/
def Mach.awake (m : Mach) : Bool := !m.boot.perst && m.boot.pwrGood && m.boot.aon

/-- The part is in device Stop, or a wake has not ended stage 1 (R489). -/
def Mach.asleep (m : Mach) : Bool :=
  m.getF 0 Reg.AON_WAKE_STATUS_STATE = 2 ||
    (decide (m.boot.start = some .wake) &&
      (decide (m.boot.wakeStep < 4) || (decide (m.getF 0 Reg.BUR_BOOT_STATUS_STAGE < 2) && !m.boot.left.contains 0)))

/-- Stage 1 of the start under way, if one is, has ended on stack 0 (R464). -/
def Mach.stageOneOver (m : Mach) : Bool :=
  m.boot.start.isNone || decide (2 ≤ m.getF 0 Reg.BUR_BOOT_STATUS_STAGE) || m.boot.left.contains 0

/-- The stack that BAR0 shows at an offset: stack 0 in the HOST_ block (R379). -/
def Mach.bar0Stack (m : Mach) (o : Nat) : Nat :=
  if 0x04C0_0000 ≤ o ∧ o < 0x04D0_0000 then 0 else m.getF 0 Reg.HOST_STACK_SEL_STACK

/-- BAR0 answers at an offset. -/
def Mach.bar0Open (m : Mach) (o : Nat) : Bool :=
  m.awake &&
    (if m.asleep then decide (0x0500_0000 ≤ o) && decide (o < 0x0510_0000) && m.bar0Stack o = 0 else m.stageOneOver)

/-- BAR2 answers. -/
def Mach.bar2Open (m : Mach) : Bool := m.awake && !m.asleep

/-- A bridge port on the path from stack 0 to stack s has failed (Table AR-6, R38, R379). -/
def Mach.cutOff (m : Mach) (p : Part) (s : Nat) : Bool := m.cut p.stackCount 0 s

/-! ## Values -/

/-- The value of a field as a register shows it: fused values, the current descriptor of a busy mover channel, the level of pins that are not driven,
links held by licence (R521). -/
def Mach.showF (f : Fuse) (m : Mach) (s : Nat) (x : Fld) (i : Nat) : Nat :=
  if x.acc = .wo then 0
  else if x.reg = Reg.FUSE_SERIAL_LO then f.serial.toNat % 2 ^ 64
  else if x.reg = Reg.FUSE_SERIAL_HI then f.serial.toNat / 2 ^ 64
  else if x.reg = Reg.FUSE_DIE_SERIAL then (f.dieSerials.getD (2 * s + i) 0).toNat
  else if x = Reg.FUSE_FW_POLICY_MIN_SECVER then f.minSecver.getD s 0 % 2 ^ 16
  else if x = Reg.FUSE_FW_POLICY_KEYS_REVOKED then f.keysRevoked.getD s 0 % 16
  else if x = Reg.MOV_CH_HEAD_HEAD then (if m.getB s Reg.MOV_CH_CTRL_BUSY i then (m.mov s i).cur % 2 ^ 52 else m.getF s x i)
  else if x = Reg.REG_GPIO_IN then
    let oe := m.getF s Reg.REG_GPIO_OE
    let pins := (Config.free m.freeIx).toNat
    ofBits ((List.range 8).filter (fun k => if bit oe k then bit (m.getF s Reg.REG_GPIO_OUT) k else bit pins k))
  else if x = Reg.INTC_CLAIM_ID then 0x3FF
  else if x.reg = Reg.INTC_SRC_CFG ∧ i = 1023 then 0
  else if 0x0480_0000 ≤ x.reg.base ∧ x.reg.base < 0x0480_1000 ∧ m.linkHeld s (x.reg.off i / 0x1_0000 - 0x480) then
    (if x = Reg.LNK_CTRL_ENABLE then 0 else x.resetAt s i)
  else if x = Reg.CAB_LP_CFG_CHEST_SLOTS ∧ !bit (m.features s) 2 then 0
  else m.getF s x i

/-- The value of a register (R17, R520). -/
def Mach.regValue (f : Fuse) (m : Mach) (s : Nat) (l : List Fld) (i : Nat) : Nat :=
  l.foldl (fun v x => v + Mach.showF f m s x i * 2 ^ x.lo) 0

/-- An MBX_ register of a stack other than 0 reads as RZ (R521). -/
def mbxElsewhere (s o : Nat) : Bool := decide (s ≠ 0) && decide (0x0521_0000 ≤ o) && decide (o < 0x0522_0000)

/-- The half of an access of `size` bytes at offset o; none for another size or alignment (R523). -/
def accessHalf (o size : Nat) : Option RegHalf :=
  if size = 8 ∧ o % 8 = 0 then some .full
  else if size = 4 ∧ o % 4 = 0 then some (if o % 8 = 0 then .lo else .hi)
  else none

/-- The bytes that an access to half h of a value returns. -/
def halfBytes (h : RegHalf) (v : Nat) : List Byte :=
  match h with
  | .lo => leBytes 4 v
  | .hi => leBytes 4 (v / 2 ^ 32)
  | .full => leBytes 8 v

/-! ## Reads (R17, R524) -/

/-- RC fields that lie wholly in the half are cleared: THM_CH_STATUS.MAX returns to the value that stands for no reading. -/
def Mach.clearRc (m : Mach) (s : Nat) (l : List Fld) (i : Nat) (h : RegHalf) : Mach :=
  l.foldl (fun m f =>
    if f.acc = .rc && covers h f then (if f = Reg.THM_CH_STATUS_MAX then m.resetF s f i else m.setF s f 0 i) else m) m

/-- A read of a register of stack s: its value and what the read changes. -/
def Mach.regRead (fu : Fuse) (m : Mach) (s : Nat) (r : RegDef) (l : List Fld) (i : Nat) (h : RegHalf) : Mach × Nat :=
  if r = Reg.INTC_CLAIM then (if covers h Reg.INTC_CLAIM_ID then m.intcClaim s i else (m, 0))
  else
    let v := Mach.regValue fu m s l i
    if r = Reg.REG_GPIO then ({ m with freeIx := m.freeIx + 1 }, v)
    else
      let m1 := m.clearRc s l i h
      (if r.base < 0x1_0000 then m1.coreCauseSettle s i else m1, v)

/-- The CORE_ block of instance i of a register of stack s is behind a service group under test: its accesses are held (R297). -/
def Mach.coreHeld (m : Mach) (s : Nat) (r : RegDef) (i : Nat) : Bool := decide (r.base < 0x1_0000) && m.serviceTesting s i

/-- A BAR0 read of `size` bytes at offset o that the endpoint performs (R379, R520, R523). -/
def Mach.bar0Load (fu : Fuse) (m : Mach) (o size : Nat) : Mach :=
  let s := m.bar0Stack o
  match accessHalf o size with
  | none => (m.logError s 0x0106 7 0 o).respondOnes size
  | some h =>
    if m.cutOff fu.part s then (m.logError 0 0x0106 7 0 o).respondOnes size
    else if mbxElsewhere s o then m.respond (PByte.clean (halfBytes h 0))
    else
      match Reg.find (o / 8 * 8) with
      | none => m.respond (PByte.clean (halfBytes h 0))
      | some (r, l, i) =>
        let x := Mach.regRead fu m s r l i h
        x.1.respond (PByte.clean (halfBytes h x.2))

/-! ## Writes (R427, R526 to R528) -/

/-- A write to a register of stack s by its rule. -/
def Mach.regWrite (m : Mach) (n s : Nat) (r : RegDef) (l : List Fld) (i : Nat) (w : RegW) : Written :=
  if 0x0480_0000 ≤ r.base ∧ r.base < 0x0480_1000 ∧ m.linkHeld s (r.off i / 0x1_0000 - 0x480) then (m.unlicensedWrite s (r.off i), true)
  else if r = Reg.INTC_SRC_CFG ∧ i = 1023 then (m, true)
  else if r = Reg.MBX_DOORBELL then m.writeDoorbell i w
  else if r = Reg.MBX_EVT_TAIL then m.writeTail w
  else if r = Reg.SYNC_SIGNAL then m.writeSignal s i w
  else if r = Reg.SYNC_STATUS then m.writeSyncStatus s i w
  else if r = Reg.CDIE_PART_CFG then m.writePartCfg s i w
  else if r = Reg.CAB_POOL_CFG then m.writePoolCfg s i w
  else if r = Reg.CAB_POOL_BASE then m.writePoolBase s i w
  else if r = Reg.CAB_LP_CFG then m.writeLpCfg s i w
  else if r = Reg.CAB_LP_BASE then m.writeLpBase s i w
  else if r = Reg.CAB_CLASS_CFG then m.writeClassCfg s i w
  else if r = Reg.LNK_SDID then m.writeSdid s w
  else if r = Reg.LNK_CTRL then m.writeLnkCtrl s i w
  else if r = Reg.LNK_PAT_CFG then m.writePatCfg s i w
  else if r = Reg.LNK_MARGIN then m.writeMargin s i w
  else if r = Reg.MOV_CH_HEAD then m.writeMovHead s i w
  else if r = Reg.MOV_CH_CTRL then m.writeMovCtrl s i w
  else if r = Reg.CORE_POWER then m.writePower s i w
  else if r.base < 0x1_0000 then m.writeCore s i l w
  else if r = Reg.THM_CH_CFG then m.writeChCfg s i w
  else if r = Reg.THM_DIAG then m.writeDiag s w
  else if r = Reg.REG_GPIO then m.writeGpio s w
  else if r = Reg.AON_RTC_ALARM then m.writeAlarm s w
  else if r = Reg.PWR_STATUS then m.writePwrStatus s w
  else if r = Reg.HOST_STACK_SEL then m.writeStackSel n w
  else if r = Reg.INTC_COMPLETE then m.writeComplete s w
  else if r = Reg.VCP_CTRL then ((m.writeFields s l i w).syncPulse s, !acts l w)
  else (m.writeFields s l i w, !acts l w)

/-- A write to a register of stack s and its entry in the change log (R427, R528). -/
def Mach.hostWrite (fu : Fuse) (m : Mach) (s : Nat) (r : RegDef) (l : List Fld) (i : Nat) (w : RegW) : Mach :=
  let x := m.regWrite fu.part.stackCount s r l i w
  x.1.logHost s (r.off i) (Mach.regValue fu m s l i) (Mach.regValue fu x.1 s l i) x.2

/-- A host write to instance i of a register through BAR0 that the endpoint performs (R379). -/
def Mach.bar0Store (fu : Fuse) (m : Mach) (r : RegDef) (l : List Fld) (i : Nat) (w : RegW) : Mach :=
  let o := r.off i
  let s := m.bar0Stack o
  if m.cutOff fu.part s then m.logHost 0 o 0 0 true
  else if mbxElsewhere s o then m.logHost s o 0 0 true
  else Mach.hostWrite fu m s r l i w

/-! ## Requests through BAR0, in the order received (R297, R523, R525) -/

/-- The request is to the registers of a core whose service group is under test (R297). -/
def Mach.bar0Held (m : Mach) (p : Part) (q : Bar0Req) : Bool :=
  let s := m.bar0Stack q.offset
  match accessHalf q.offset q.size, Reg.find (q.offset / 8 * 8) with
  | some _, some (r, _, i) => !m.cutOff p s && m.coreHeld s r i
  | _, _ => false

/-- A request performed: a read, or a write of `size` bytes at its offset (R520, R523). -/
def Mach.bar0Perform (fu : Fuse) (m : Mach) (q : Bar0Req) : Mach :=
  let o := q.offset
  match q.data with
  | none => Mach.bar0Load fu m o q.size
  | some v =>
    match accessHalf o q.size with
    | none => (m.logError (m.bar0Stack o) 0x0106 7 0 o).logHost (m.bar0Stack o) (o / 8 * 8) 0 0 true
    | some h =>
      match Reg.find (o / 8 * 8) with
      | some (r, l, i) => Mach.bar0Store fu m r l i ⟨h, v⟩
      | none => m.logHost (m.bar0Stack o) (o / 8 * 8) 0 0 true

/-- A request waits behind those received before it. -/
def Mach.holdBar0 (m : Mach) (q : Bar0Req) : Mach := { m with host := { m.host with bar0 := m.host.bar0 ++ [q] } }

/-- Requests that wait are performed in the order received, up to the first that is held (R525). -/
def Mach.bar0Run (fu : Fuse) : Nat → Mach → Mach
  | 0, m => m
  | fuel + 1, m =>
    match m.host.bar0 with
    | [] => m
    | q :: r => if m.bar0Held fu.part q then m else Mach.bar0Run fu fuel (Mach.bar0Perform fu { m with host := { m.host with bar0 := r } } q)

/-- What held a request may have ended. -/
def Mach.bar0Drain (fu : Fuse) (m : Mach) : Mach := Mach.bar0Run fu m.host.bar0.length m

/-- The endpoint receives a request: it is performed after those received before it. -/
def Mach.bar0Request (fu : Fuse) (m : Mach) (q : Bar0Req) : Mach :=
  if m.host.bar0 = [] ∧ !m.bar0Held fu.part q then Mach.bar0Perform fu m q else m.holdBar0 q

/-- A BAR0 read of `size` bytes at offset o; all ones where BAR0 does not answer (R464, R489). -/
def Mach.bar0Read (fu : Fuse) (m : Mach) (o size : Nat) : Mach :=
  if !m.bar0Open o then m.respondOnes size else Mach.bar0Request fu m ⟨o, size, none⟩

/-- A BAR0 write of `size` bytes at offset o. -/
def Mach.bar0Write (fu : Fuse) (m : Mach) (o size : Nat) (v : Dword) : Mach :=
  if !m.bar0Open o then m else Mach.bar0Request fu m ⟨o, size, some v⟩

/-- The BAR0 request that makes a write at the register at offset o. -/
def regRequest (w : RegW) (o : Nat) : Bar0Req :=
  match w.half with
  | .lo => ⟨o, 4, some w.value⟩
  | .hi => ⟨o + 4, 4, some w.value⟩
  | .full => ⟨o, 8, some w.value⟩

/-- A host write to instance i of a register through BAR0. -/
def Mach.bar0Reg (fu : Fuse) (m : Mach) (r : RegDef) (l : List Fld) (i : Nat) (w : RegW) : Mach :=
  let s := m.bar0Stack (r.off i)
  if !m.bar0Open (r.off i) then m
  else if m.host.bar0 ≠ [] ∨ (!m.cutOff fu.part s ∧ m.coreHeld s r i) then m.holdBar0 (regRequest w (r.off i))
  else Mach.bar0Store fu m r l i w

/-! ## BAR2 (R411, R412) -/

/-- The register of stack 0 that lies at a BAR2 offset (Table BU-2). -/
def bar2Reg (o : Nat) : Option Nat :=
  if 0xC_0000 ≤ o ∧ o < 0xC_0800 ∧ o % 0x20 < 0x10 then some (0x0521_0000 + (o - 0xC_0000))
  else if 0xD_0000 ≤ o ∧ o < 0xD_0018 then some (0x0521_1000 + (o - 0xD_0000))
  else none

/-- The MSI-X pending bit array: bit v is the pending bit of vector v. -/
def Mach.pendingByte (m : Mach) (k : Nat) : Nat :=
  (List.range 8).foldl (fun x i => x + if m.host.msixPend.contains (8 * k + i) then 2 ^ i else 0) 0

/-- A BAR2 read: buffers and the event ring, with R313 for poisoned bytes; MBX_ registers; the MSI-X pending bits; free bytes of the MSI-X
table; all other offsets read zero. -/
def Mach.bar2Read (fu : Fuse) (m : Mach) (o size : Nat) : Mach :=
  if !m.bar2Open then m.respondOnes size
  else
    match bar2Reg o, accessHalf o size with
    | some q, some h =>
      match Reg.find (q / 8 * 8) with
      | some (r, l, i) =>
        let x := Mach.regRead fu m 0 r l i h
        x.1.respond (PByte.clean (halfBytes h x.2))
      | none => m.respond (PByte.clean (leBytes size 0))
    | _, _ =>
      if 0xF_8000 ≤ o ∧ o < 0xF_8100 then m.respond (PByte.clean ((List.range size).map (fun k => BitVec.ofNat 8 (m.pendingByte (o - 0xF_8000 + k)))))
      else if 0xF_0000 ≤ o ∧ o < 0xF_8000 then
        let v := m.fresh (8 * size)
        v.2.respond (PByte.clean (leBytes size v.1))
      else
      let bs := (List.range size).map (fun k => if o + k < 0xC_0000 then m.host.bar2.readByte (o + k) else ⟨0, 0⟩)
      let m1 := m.respond bs
      if bs.any (·.poison ≠ 0) then m1.logError 0 0 7 0 o else m1

/-- A host write to a register of stack 0 through BAR2: it is no write to region 0x8, so only one that is ignored has its entry in the change
log (R412, R427). -/
def Mach.bar2Write (fu : Fuse) (m : Mach) (r : RegDef) (l : List Fld) (i : Nat) (w : RegW) : Mach :=
  let x := m.regWrite fu.part.stackCount 0 r l i w
  if x.2 then x.1.logHost 0 (r.off i) (Mach.regValue fu m 0 l i) (Mach.regValue fu x.1 0 l i) true else x.1

/-- A doorbell rung before stage 1 of a start ends is accepted and held; one rung in Stop is lost (R464, R489). -/
def Mach.doorbell (fu : Fuse) (m : Mach) (b : Nat) (w : RegW) (bar2 : Bool) : Mach :=
  if !m.bar2Open then m
  else if !bar2 && m.stageOneOver then Mach.bar0Reg fu m Reg.MBX_DOORBELL Reg.MBX_DOORBELL_fields b w
  else if !bar2 && mbxElsewhere (m.bar0Stack 0x0521_0000) 0x0521_0000 then m
  else if bar2 then Mach.bar2Write fu m Reg.MBX_DOORBELL Reg.MBX_DOORBELL_fields b w
  else Mach.hostWrite fu m 0 Reg.MBX_DOORBELL Reg.MBX_DOORBELL_fields b w

/-- A write into the request buffer of mailbox b: dropped and counted while its accepted command has not been copied (R382, R412). -/
def Mach.requestWrite (m : Mach) (b o : Nat) (bs : List Byte) (ep : Bool) : Mach :=
  let d := bs.take (4096 - o)
  if !m.bar2Open then m
  else if m.host.mbxQueue.any (fun q => q.1 = b) then m.bumpF 0 Reg.MBX_STATUS_REFUSED b
  else if ep then
    ((({ m with host := { m.host with bar2 := m.host.bar2.write (requestBuf b + o) (d.map (fun _ => ⟨0, 1⟩)) } }).bumpF 0
      Reg.HOST_ERR_COUNT_POISONED_IN)).aer 1
  else { m with host := { m.host with bar2 := m.host.bar2.writeBytes (requestBuf b + o) d } }

/-- A BAR2 write of `size` bytes at offset o (Table BU-2): the registers, the request buffers, the rest of the SRAM; elsewhere it is ignored. -/
def Mach.bar2Store (fu : Fuse) (m : Mach) (o size : Nat) (v : Dword) : Mach :=
  let bs := leBytes size v.toNat
  if !m.bar2Open then m
  else if o < 0x8_0000 ∧ o % 0x2000 < 0x1000 then m.requestWrite (o / 0x2000) (o % 0x2000) bs false
  else if o + size ≤ 0xC_0000 then { m with host := { m.host with bar2 := m.host.bar2.writeBytes o bs } }
  else
    match bar2Reg o, accessHalf o size with
    | some q, some h =>
      match Reg.find (q / 8 * 8) with
      | some (r, l, i) => if r = Reg.MBX_DOORBELL then Mach.doorbell fu m i ⟨h, v⟩ true else Mach.bar2Write fu m r l i ⟨h, v⟩
      | none => m
    | _, _ => m

/-! ## Commands -/

/-- MBX_DOORBELL (R412). -/
def execMbxDoorbell (a : Doorbell) (s : State) : Out := onMach s (fun fu m => Mach.doorbell fu m a.mailbox a.w a.bar2)

/-- MBX_EVT_TAIL (R511). -/
def execMbxEvtTail (a : TailWrite) (s : State) : Out :=
  onMach s (fun fu m =>
    if a.bar2 then (if m.bar2Open then Mach.bar2Write fu m Reg.MBX_EVT_TAIL Reg.MBX_EVT_TAIL_fields 0 a.w else m)
    else Mach.bar0Reg fu m Reg.MBX_EVT_TAIL Reg.MBX_EVT_TAIL_fields 0 a.w)

/-- SYNC_SIGNAL (R63). -/
def execSyncSignal (a : ObjWrite) (s : State) : Out :=
  onMach s (fun fu m => Mach.bar0Reg fu m Reg.SYNC_SIGNAL Reg.SYNC_SIGNAL_fields a.object a.w)

/-- SYNC_STATUS (R67). -/
def execSyncStatus (a : ObjWrite) (s : State) : Out :=
  onMach s (fun fu m => Mach.bar0Reg fu m Reg.SYNC_STATUS Reg.SYNC_STATUS_fields a.object a.w)

/-- HOST_STACK_SEL (R379). -/
def execHostStackSel (a : RegW) (s : State) : Out :=
  onMach s (fun fu m => Mach.bar0Reg fu m Reg.HOST_STACK_SEL Reg.HOST_STACK_SEL_fields 0 a)

/-- CDIE_PART_CFG (R281). -/
def execCdiePartCfg (a : HalfWrite) (s : State) : Out :=
  onMach s (fun fu m => Mach.bar0Reg fu m Reg.CDIE_PART_CFG Reg.CDIE_PART_CFG_fields a.half a.w)

/-- CAB_POOL_CFG (R232). -/
def execCabPoolCfg (a : HalfWrite) (s : State) : Out :=
  onMach s (fun fu m => Mach.bar0Reg fu m Reg.CAB_POOL_CFG Reg.CAB_POOL_CFG_fields a.half a.w)

/-- CAB_POOL_BASE (R232). -/
def execCabPoolBase (a : HalfWrite) (s : State) : Out :=
  onMach s (fun fu m => Mach.bar0Reg fu m Reg.CAB_POOL_BASE Reg.CAB_POOL_BASE_fields a.half a.w)

/-- CAB_LP_CFG (R232). -/
def execCabLpCfg (a : HalfWrite) (s : State) : Out :=
  onMach s (fun fu m => Mach.bar0Reg fu m Reg.CAB_LP_CFG Reg.CAB_LP_CFG_fields a.half a.w)

/-- CAB_LP_BASE (R232). -/
def execCabLpBase (a : HalfWrite) (s : State) : Out :=
  onMach s (fun fu m => Mach.bar0Reg fu m Reg.CAB_LP_BASE Reg.CAB_LP_BASE_fields a.half a.w)

/-- CAB_CLASS_CFG (R232). -/
def execCabClassCfg (a : HalfWrite) (s : State) : Out :=
  onMach s (fun fu m => Mach.bar0Reg fu m Reg.CAB_CLASS_CFG Reg.CAB_CLASS_CFG_fields a.half a.w)

/-- LNK_SDID (R349). -/
def execLnkSdid (a : RegW) (s : State) : Out :=
  onMach s (fun fu m => Mach.bar0Reg fu m Reg.LNK_SDID Reg.LNK_SDID_fields 0 a)

/-- LNK_CTRL with RETRAIN written 1 (R340). -/
def execLnkCtrlRetrain (a : LinkWrite) (s : State) : Out :=
  onMach s (fun fu m => Mach.bar0Reg fu m Reg.LNK_CTRL Reg.LNK_CTRL_fields a.link { a.w with value := a.w.value ||| 8 })

/-- LNK_CTRL with its TEST bit as it is written (R358), RETRAIN 0. -/
def execLnkCtrlTest (a : LinkWrite) (s : State) : Out :=
  onMach s (fun fu m => Mach.bar0Reg fu m Reg.LNK_CTRL Reg.LNK_CTRL_fields a.link { a.w with value := a.w.value &&& ~~~8 })

/-- LNK_PAT_CFG (R358). -/
def execLnkPatCfg (a : LinkWrite) (s : State) : Out :=
  onMach s (fun fu m => Mach.bar0Reg fu m Reg.LNK_PAT_CFG Reg.LNK_PAT_CFG_fields a.link a.w)

/-- LNK_MARGIN with START written 1 (R360). -/
def execLnkMarginStart (a : LinkWrite) (s : State) : Out :=
  onMach s (fun fu m => Mach.bar0Reg fu m Reg.LNK_MARGIN Reg.LNK_MARGIN_fields a.link { a.w with value := a.w.value ||| 16 })

/-- CORE_POWER, its LDO_SET (R475); STOP_REQ is written as it stands. -/
def execLdoSet (a : CoreWrite) (s : State) : Out :=
  onMach s (fun fu m =>
    let v := putBit a.w.value.toNat 18 (m.getB (m.bar0Stack (Reg.CORE_POWER.off a.core)) Reg.CORE_POWER_STOP_REQ a.core)
    Mach.bar0Reg fu m Reg.CORE_POWER Reg.CORE_POWER_fields a.core { a.w with value := BitVec.ofNat 64 v })

/-- CORE_POWER with STOP_REQ (R482). -/
def execStopReq (a : CoreWrite) (s : State) : Out :=
  onMach s (fun fu m => Mach.bar0Reg fu m Reg.CORE_POWER Reg.CORE_POWER_fields a.core a.w)

/-- THM_CH_CFG (R497). -/
def execThmChCfg (a : ChannelWrite) (s : State) : Out :=
  onMach s (fun fu m => Mach.bar0Reg fu m Reg.THM_CH_CFG Reg.THM_CH_CFG_fields a.channel a.w)

/-- THM_DIAG (R493). -/
def execThmDiag (a : RegW) (s : State) : Out :=
  onMach s (fun fu m => Mach.bar0Reg fu m Reg.THM_DIAG Reg.THM_DIAG_fields 0 a)

/-- REG_GPIO (R448). -/
def execRegGpio (a : RegW) (s : State) : Out :=
  onMach s (fun fu m => Mach.bar0Reg fu m Reg.REG_GPIO Reg.REG_GPIO_fields 0 a)

/-- AON_RTC_ALARM (R532). -/
def execAonRtcAlarm (a : RegW) (s : State) : Out :=
  onMach s (fun fu m => Mach.bar0Reg fu m Reg.AON_RTC_ALARM Reg.AON_RTC_ALARM_fields 0 a)

/-- REGISTER_WRITE (R526): a BAR0 write, or a BAR2 write (R411), at any offset. -/
def execRegisterWrite (a : Bar0Write) (s : State) : Out :=
  onMach s (fun fu m =>
    if a.bar2 then Mach.bar2Store fu m a.offset.toNat a.size a.value else Mach.bar0Write fu m a.offset.toNat a.size a.value)

/-- READ_CLEAR (R17): a host read through BAR0 or BAR2. -/
def execReadClear (a : HostRead) (s : State) : Out :=
  onMach s (fun fu m => if a.bar2 then Mach.bar2Read fu m a.offset.toNat a.size else Mach.bar0Read fu m a.offset.toNat a.size)

/-- REQUEST_BUFFER_WRITE (R412). -/
def execRequestBufferWrite (a : RequestWrite) (s : State) : Out :=
  onMach s (fun _ m => m.requestWrite a.mailbox a.offset a.data a.ep)

/-- RTC_ALARM_FIRE (R532): FIRED, source 2, and the alarm goes. -/
def execRtcAlarmFire (a : AtStack) (s : State) : Out :=
  onStack s a.stack (fun _ m =>
    let t := m.getF a.stack Reg.AON_RTC_ALARM_ALARM
    if t = 0 ∨ m.getF a.stack Reg.AON_RTC_SECONDS < t ∨ !m.boot.aon then m
    else ((m.setF a.stack Reg.AON_RTC_ALARM_FIRED 1).setF a.stack Reg.AON_RTC_ALARM_ALARM 0).srcEdge a.stack 2)

/-- I3C_PRIVATE_WRITE (R546): the read offset of the 132-byte window, which wraps at its end. -/
def execI3cPrivateWrite (a : I3cWrite) (s : State) : Out :=
  onStack s a.stack (fun _ m =>
    if !m.boot.aon then m
    else { m with boot := { m.boot with i3c := m.boot.i3c.modify (fun _ => a.value.toNat % 132) a.stack } })

/-- BOUNDARY_SCAN_INSTRUCTION (R555): EXTEST and its like take effect only while PERST_N is asserted; private codes act as BYPASS. -/
def execBoundaryScanInstruction (a : TapInstr) (s : State) : Out :=
  onStack s a.stack (fun _ m =>
    let c := if a.code.toNat ≤ 6 then a.code.toNat else 0xFF
    let c' := if m.boot.perst || !m.boot.pwrGood then c else tapAllowed c
    { m with boot := { m.boot with taps := m.boot.taps.modify (fun _ => c') a.stack } })

/-- PCIE_LINK_TRAINED (R464, Table EV-1): HOST_LINK_STATUS, and source 4. -/
def execPcieLinkTrained (a : PcieTrained) (s : State) : Out :=
  onMach s (fun _ m =>
    if !m.awake then m
    else
      let m1 := (m.setF 0 Reg.HOST_LINK_STATUS_RATE a.rate).setF 0 Reg.HOST_LINK_STATUS_WIDTH a.width
      (m1.setF 0 Reg.HOST_LINK_STATUS_FLIT a.flit.toNat).srcEdge 0 4)

end Sys2Proof.Machine
end

