-- ==== Sys2Proof/Machine/PlanImage.lean ====
section
/-! DEFINITION. Plan images: the header, the sections and their tables, and the checks of plan load (spec/02_execution_model.md, R42 to R50, R54, R81;
spec/09_cache_die.md, R280; spec/12_device_links.md, R350). -/

namespace Sys2Proof.Machine

/-! ## Header and sections (Tables EX-1, EX-2) -/

/-- The bytes of a list in entries of n bytes. -/
def entriesOf (n : Nat) (b : List Byte) : List (List Byte) := (List.range (b.length / n)).map (fun i => (b.drop (n * i)).take n)

/-- Every byte of a range of an entry is zero. -/
def zeroAt (b : List Byte) (off n : Nat) : Bool := ((b.drop off).take n).all (· = 0)

def secOff (b : List Byte) (i : Nat) : Nat := fieldAt b (0x60 + 16 * i) 8
def secSize (b : List Byte) (i : Nat) : Nat := fieldAt b (0x68 + 16 * i) 8

/-- Entry size of section i (Table EX-2). -/
def secEntry (i : Nat) : Nat := [32, 1, 16, 32, 32, 32, 32, 8].getD i 1

/-- The bytes of section i of an image. -/
def sectionOf (b : List Byte) (i : Nat) : List Byte := (b.drop (secOff b i)).take (secSize b i)

/-- The entries of section i. -/
def table (b : List Byte) (i : Nat) : List (List Byte) := entriesOf (secEntry i) (sectionOf b i)

/-! ## Table entries (Tables EX-3, EX-5, EX-6, EX-8, EX-14, EX-15) -/

def coreDirOf (e : List Byte) : CoreDir :=
  { stack := bits (fieldAt e 0 2) 10 2, index := bits (fieldAt e 0 2) 0 10, entries := fieldAt e 2 2, textOff := fieldAt e 4 4
    textSize := fieldAt e 8 4, bayOff := fieldAt e 0x0C 4, loadAddr := fieldAt e 0x10 4, scriptAddr := fieldAt e 0x14 4 }

/-- DEPTH and SLOTS: 0 means 256. -/
def orAll (n : Nat) : Nat := if n = 0 then 256 else n

def routeOf (e : List Byte) : Route :=
  { dstStack := bits (fieldAt e 0 2) 10 2, dst := bits (fieldAt e 0 2) 0 10, dstCh := fieldAt e 2 1, depth := orAll (fieldAt e 3 1)
    srcSdid := fieldAt e 4 2, srcStack := bits (fieldAt e 6 2) 10 2, src := bits (fieldAt e 6 2) 0 10, srcCh := fieldAt e 8 1
    flags := fieldAt e 9 1, buffer := fieldAt e 0x0A 2, stage := fieldAt e 0x0C 2, route := fieldAt e 0x0E 2 }

def syncOf (e : List Byte) : SyncEnt :=
  { obj := fieldAt e 0 2, timeout := fieldAt e 2 2, init := fieldAt e 8 8, stride := fieldAt e 0x10 8, target0 := fieldAt e 0x18 4
    n0 := fieldAt e 0x1C 2, n1 := fieldAt e 0x1E 2 }

def bufOf (e : List Byte) : BufEnt :=
  { id := fieldAt e 0 2, kind := fieldAt e 2 1, slots := orAll (fieldAt e 3 1), slotSize := fieldAt e 4 4, addr := fieldAt e 8 8
    phases := fieldAt e 0x10 2, owner := fieldAt e 0x12 2, backing := fieldAt e 0x18 8 }

def phaseOf (e : List Byte) : PhaseEnt :=
  { phase := fieldAt e 0 1, gather := fieldAt e 4 4, release := fieldAt e 8 4, entry := fieldAt e 0x0C 4, reshardIndex := fieldAt e 0x10 4
    reshardCount := fieldAt e 0x14 4, target1 := fieldAt e 0x18 4 }

def reshardOf (e : List Byte) : Reshard :=
  { srcSdid := fieldAt e 0 2, convert := fieldAt e 2 1, src := fieldAt e 8 8, dst := fieldAt e 0x10 8, len := fieldAt e 0x18 4 }

/-- The tables of an image. -/
def planOf (b : List Byte) : Plan :=
  { id := fieldAt b 0x40 8, sdids := (List.range 4).map (fun s => fieldAt b (0x48 + 2 * s) 2)
    minCores := (List.range 4).map (fun s => fieldAt b (0x50 + 2 * s) 2), features := fieldAt b 0x58 4, determinism := fieldAt b 0x5C 4
    completeObj := fieldAt b 0xE0 2, completeCount := fieldAt b 0xE8 8, cores := (table b 0).map coreDirOf, routes := (table b 2).map routeOf
    syncs := (table b 3).map syncOf, bufs := (table b 4).map bufOf, phases := (table b 5).map phaseOf, reshards := (table b 6).map reshardOf
    commits := (table b 7).map (fun e => (fieldAt e 0 2, fieldAt e 2 2, fieldAt e 4 4)), text := sectionOf b 1, tables := (List.range 6).flatMap (fun k => sectionOf b (k + 2)) }

/-- The script of a core directory entry, out of its text (R45, Table EX-4). -/
def Plan.script (pl : Plan) (c : CoreDir) : List SEntry :=
  (entriesOf 32 ((pl.text.drop (c.textOff + (c.scriptAddr - c.loadAddr))).take (32 * c.entries))).map SEntry.of

/-- The text of a core directory entry. -/
def Plan.coreText (pl : Plan) (c : CoreDir) : List Byte := (pl.text.drop c.textOff).take c.textSize

/-! ## Order 2: the form of the image (Table EX-9) -/

/-- No two ranges (start, length) of a list overlap. -/
def apart : List (Nat × Nat) → Bool
  | [] => true
  | x :: r => r.all (fun y => !overlap x.1 x.2 y.1 y.2) && apart r

/-- No value occurs twice. -/
def distinct {α : Type} [BEq α] : List α → Bool
  | [] => true
  | x :: r => !r.contains x && distinct r

/-- The header and the section directory (R42, R43, R280). -/
def headerOk (b : List Byte) (size : Nat) : Bool :=
  let secs := (List.range 8).filter (fun i => secSize b i ≠ 0)
  let obj := fieldAt b 0xE0 2
  fieldAt b 0 4 = 0x504E_5248 && fieldAt b 4 2 = 0x0100 && fieldAt b 6 2 = 0x0100 && fieldAt b 8 8 = size && decide (256 ≤ size) &&
    decide (fieldAt b 0x58 4 < 2 ^ 5) && decide (fieldAt b 0x5C 4 < 2 ^ 3) && zeroAt b 0xE2 6 && zeroAt b 0xF0 16 &&
    decide (fieldAt b 0xE8 8 < 2 ^ 48) && (if obj = 0 then fieldAt b 0xE8 8 = 0 else decide (64 ≤ obj) && decide (obj < 8192)) &&
    secs.all (fun i => secOff b i % 256 = 0 && decide (0x100 ≤ secOff b i) && decide (secOff b i + secSize b i ≤ size) && secSize b i % secEntry i = 0) &&
    apart (secs.map (fun i => (secOff b i, secSize b i))) &&
    decide ((((List.range 8).drop 2).map (secSize b)).foldl (· + ·) 0 ≤ 2 ^ 22)

/-- Stack use (Table EX-9): SDID 0xFFFF exactly when MIN_CORES is 0, and at least one stack used. -/
def Plan.stacksOk (pl : Plan) : Bool :=
  (List.range 4).all (fun s => (pl.sdids.getD s 0xFFFF = 0xFFFF) == (pl.minCores.getD s 0 = 0)) && decide (pl.stackSet ≠ [])

/-- A forwarding target is the 0xFFFF_FFFF of no target, or a handle with bits [15:13] zero (R62, R66, Table EX-8). -/
def targetOk (h : Nat) : Bool := h = 0xFFFF_FFFF || !handleBad h

/-- A script (R46, R54): reserved flags, loops and their nesting, PHASE_END with COMMIT, and the last entry. -/
def scriptOk (l : List SEntry) (phases : Bool) : Bool :=
  let loops := (l.zipIdx).filterMap (fun e => if e.1.loopBack then some (e.1.target, e.2) else none)
  (l.zipIdx).all (fun e =>
    decide (e.1.flags < 8) && e.1.entry % 8 = 0 && (!e.1.phaseEnd || (e.1.commit && phases)) &&
      (if e.1.loopBack then decide (e.1.target ≤ e.2) && decide (1 ≤ e.1.count) else e.1.target = 0 && e.1.count = 0)) &&
    loops.all (fun a => loops.all (fun c => a.2 ≥ c.2 || decide (a.2 < c.1) || decide (c.1 ≤ a.1))) &&
    (match l.getLast? with | some e => e.commit | none => false)

/-- A core directory entry with its text and script (R45). -/
def Plan.coreOk (pl : Plan) (c : CoreDir) : Bool :=
  decide (1 ≤ c.entries) && decide (c.entries ≤ 8192) && c.textSize % 8 = 0 && decide (c.textOff + c.textSize ≤ pl.text.length) &&
    decide (c.loadAddr + c.textSize ≤ 0x8_0000) && decide (c.bayOff + c.textSize ≤ 0x20_0000) && c.scriptAddr % 32 = 0 &&
    decide (c.loadAddr ≤ c.scriptAddr) && decide (c.scriptAddr + 32 * c.entries ≤ c.loadAddr + c.textSize) &&
    scriptOk (pl.script c) (decide (pl.phases ≠ []))

/-- Kinds of buffers without an owner (Table EX-6). -/
def unowned (k : Nat) : Bool := k = 0 || k = 1 || k = 5 || k = 6 || k = 7

/-- A buffer placement entry (Tables EX-6, EX-7). -/
def BufEnt.ok (b : BufEnt) : Bool :=
  decide (b.id ≤ 16382) && decide (b.kind ≤ 7) && b.slotSize % 128 = 0 && decide (b.addr < 2 ^ 52) && (b.kind ≠ 4 || b.slots = 2) &&
    (if unowned b.kind then b.owner = 0xFFFF else decide (b.owner < 2 ^ 12)) && (b.kind = 5 || b.backing = 0)

/-- The producer of a route is a core or mover of a stack that the header names. -/
def Plan.producerHere (pl : Plan) (r : Route) : Bool := r.srcSdid ≠ 0xFFFF && pl.sdids.getD r.srcStack 0xFFFF = r.srcSdid

/-- The consumer of a route lies on this part. -/
def Plan.consumerHere (pl : Plan) (r : Route) : Bool := decide (0xFFFE ≤ r.route) || !pl.producerHere r

/-- The logical indices that an image names, with their stacks (R85); mover indices of R401 count in the core directory only. -/
def Plan.named (pl : Plan) : List (Nat × Nat) :=
  let mover (e : Nat × Nat) : Bool := decide (0x3C0 ≤ e.2)
  let l := (pl.routes.filter pl.consumerHere).map (fun r => (r.dstStack, r.dst)) ++
    (pl.routes.filter pl.producerHere).map (fun r => (r.srcStack, r.src)) ++
    (pl.bufs.filter (fun b => b.owner ≠ 0xFFFF)).map (fun b => (bits b.owner 10 2, bits b.owner 0 10)) ++
    pl.commits.map (fun c => (bits c.1 10 2, bits c.1 0 10))
  pl.cores.map (fun c => (c.stack, c.index)) ++ l.filter (fun e => !mover e)

/-- The phase entries of stack s: those whose GATHER names its SDID, or all of them when none does. -/
def Plan.phasesOf (pl : Plan) (s : Nat) : List PhaseEnt :=
  let l := pl.phases.filter (fun e => e.gather / 2 ^ 16 = pl.sdids.getD s 0xFFFF)
  if l = [] then pl.phases else l

/-- The zero bytes and reserved bits of the tables. -/
def zerosOk (b : List Byte) : Bool :=
  (table b 0).all (fun e => zeroAt e 0x18 8 && decide (fieldAt e 0 2 < 2 ^ 12)) &&
    (table b 2).all (fun e => decide (fieldAt e 0 2 < 2 ^ 12) && decide (fieldAt e 6 2 < 2 ^ 12) && decide (fieldAt e 9 1 < 4)) &&
    (table b 3).all (fun e => zeroAt e 4 4) && (table b 4).all (fun e => zeroAt e 0x14 4) &&
    (table b 5).all (fun e => zeroAt e 1 3 && zeroAt e 0x1C 4) && (table b 6).all (fun e => zeroAt e 3 5 && zeroAt e 0x1C 4) &&
    (table b 7).all (fun e => decide (fieldAt e 0 2 < 2 ^ 12))

/-- Order 2 of Table EX-9 holds of an image of `size` bytes. -/
def formatOk (b : List Byte) (size : Nat) : Bool :=
  let pl := planOf b
  headerOk b size && pl.stacksOk && zerosOk b && pl.cores.all pl.coreOk && distinct (pl.cores.map (fun c => (c.stack, c.index))) &&
    pl.cores.all (fun c => decide (c.index < 0x3C0)) &&
    pl.routes.all (fun r => r.buffer ≠ 0x3FFF && decide (r.dstCh < 64) && decide (r.srcCh < 64)) &&
    pl.syncs.all (fun o => decide (64 ≤ o.obj) && decide (o.obj < 8192) && decide (o.init < 2 ^ 48) && decide (o.stride < 2 ^ 48) && targetOk o.target0) &&
    distinct (pl.syncs.map (·.obj)) && pl.bufs.all BufEnt.ok && distinct (pl.bufs.map (fun x => (daStack x.addr, x.id))) &&
    pl.phases.all (fun e => decide (e.phase < 16) && !handleBad e.gather && !handleBad e.release && !handleBad e.entry && targetOk e.target1 &&
      decide (e.reshardIndex + e.reshardCount ≤ pl.reshards.length)) &&
    pl.stackSet.all (fun s => distinct ((pl.phasesOf s).map (·.phase))) &&
    pl.reshards.all (fun d => decide (d.convert ≤ 4) && d.len % 128 = 0) &&
    pl.named.all (fun e => decide (e.2 < pl.minCores.getD e.1 0))

/-! ## Order 3: the hash -/

/-- IMAGE_HASH is SHA-384 of the image with its 48 bytes zero (Table EX-1). -/
def hashOk (b : List Byte) : Bool := Sha.sha384 (b.take 0x10 ++ leBytes 48 0 ++ b.drop 0x40) = (b.drop 0x10).take 48

/-! ## Order 7: token routes -/

/-- A route entry has a path on a part with n stacks. -/
def Mach.routeOk (m : Mach) (n : Nat) (pl : Plan) (r : Route) : Bool :=
  let here := pl.producerHere r
  let table (s : Nat) : Bool := (m.stk s).link.tablePlan = some pl.id && m.getB s Reg.LNK_ROUTE_VALID r.route
  (!pl.consumerHere r || (match pl.buf r.dstStack r.buffer with | some b => decide (b.kind ≤ 1) | none => false)) &&
    (!here || r.stage = 0x3FFF || (match pl.buf r.srcStack r.stage with | some b => b.kind = 1 | none => false)) &&
    (if r.route = 0xFFFF then here && r.dstStack = r.srcStack
     else if r.route = 0xFFFE then here && r.dstStack ≠ r.srcStack && decide (r.dstStack < n)
     else decide (r.route < 16384) && (if here then table r.srcStack else table r.dstStack))

/-- Order 7 of Table EX-9; an output channel has one consumer as well (R47). -/
def Mach.routesOk (m : Mach) (n : Nat) (pl : Plan) : Bool :=
  let ins := (pl.routes.filter pl.consumerHere).map (fun r => ((r.dstStack, r.dst), r.dstCh))
  let outs := (pl.routes.filter pl.producerHere).map (fun r => ((r.srcStack, r.src), r.srcCh))
  distinct ins && distinct outs && pl.routes.all (m.routeOk n pl) &&
    pl.cores.all (fun c => (pl.script c).all (fun e =>
      (setBits e.inMask 64).all (fun ch => ins.contains ((c.stack, c.index), ch)) &&
        (setBits e.outMask 64).all (fun ch => outs.contains ((c.stack, c.index), ch))))

/-! ## Order 8: space -/

/-- n bytes at a lie in placed memory of a stack that the plan uses. -/
def Mach.placedAt (m : Mach) (pl : Plan) (a n : Nat) : Bool :=
  let s := daStack a
  pl.stackSet.contains s && daRegion a = 0 && placedRange (m.cacheCount s 0) (m.cacheCount s 1) (daOff a) n

/-- The configured pools of the stacks of a plan (R231). -/
def Mach.pools (m : Mach) (pl : Plan) : List (Nat × Nat) :=
  pl.stackSet.flatMap (fun s => ((List.range 2).filter (fun c => m.frames s c ≠ 0)).map (fun c => (m.frameAddr s c 0, (m.poolSet s c).area)))

/-- Failed rows of the stacks of a plan (R333), but for those inside a pool. -/
def Mach.deadRows (m : Mach) (pl : Plan) : List (Nat × Nat) :=
  (pl.stackSet.flatMap (fun s => (m.stk s).integ.failed.map (fun r => (devAddr s 0 (r.1 * 0x20_0000 + r.2.1 * 0x2_0000 + r.2.2 * 256), 256)))).filter
    (fun r => !(m.pools pl).any (fun p => overlap p.1 p.2 r.1 r.2))

/-- The bytes of a buffer. -/
def BufEnt.bytes (b : BufEnt) : Nat := b.slots * b.slotSize

/-- The phases that a plan names. -/
def Plan.phaseNumbers (pl : Plan) : List Nat := if pl.phases = [] then [0] else (pl.phases.map (·.phase)).eraseDups

/-- Order 8 of Table EX-9 (R45, R84, R232, R333): each KV_POOL entry, whatever its PHASE_MASK, is one configured pool, and no two are the same. -/
def Mach.spaceOk (m : Mach) (pl : Plan) : Bool :=
  let texts := pl.cores.map (fun c => (m.textHome c, c.textSize))
  let fixed := m.pools pl ++ m.deadRows pl ++ texts
  let inPhase (k : Nat) (b : BufEnt) : Bool := bit b.phases k
  let kv := (pl.bufs.filter (fun b => b.kind = 7)).map (fun b => (b.addr, b.bytes))
  texts.all (fun t => m.placedAt pl t.1 t.2) && kv.all (fun p => (m.pools pl).contains p) && distinct kv &&
    pl.phaseNumbers.all (fun k =>
      let l := pl.bufs.filter (inPhase k)
      let plain := (l.filter (fun b => b.kind ≠ 7)).map (fun b => (b.addr, b.bytes))
      plain.all (fun b => m.placedAt pl b.1 b.2) && apart (fixed ++ plain)) &&
    pl.phases.all (fun e => ((pl.reshards.drop e.reshardIndex).take e.reshardCount).all (fun d =>
      !pl.sdids.contains d.srcSdid || d.srcSdid = 0xFFFF ||
        (pl.bufs.filter (inPhase (e.phase + 1))).all (fun b => !overlap b.addr b.bytes d.src d.len)))

/-! ## All checks (Table EX-9) -/

/-- The features of a plan whose licences a stack lacks. -/
def Mach.unlicensed (m : Mach) (s features : Nat) : Bool := (setBits features 5).any (fun k => !bit (m.getF s Reg.LIC_STATUS_FEATURES) k)

/-- The first failing check of orders 2 to 8 for an image, on the stacks `l` of a part with n stacks, or 0. -/
def Mach.imageStatus (m : Mach) (n : Nat) (b : List Byte) (size : Nat) (l : List Nat) : Nat :=
  let pl := planOf b
  if !formatOk b size then 0x0011
  else if !hashOk b then 0x0012
  else if !pl.stackSet.all (fun s => decide (s < n) && m.sdid s = pl.sdids.getD s 0xFFFF) ∨ !l.all (fun s => pl.stackSet.contains s) then 0x0013
  else if l.any (fun s => m.unlicensed s pl.features) then 0x0008
  else if l.any (fun s => decide (m.getF s Reg.BUR_CORE_SUMMARY_LOGICAL_COUNT < pl.minCores.getD s 0)) then 0x0014
  else if !m.routesOk n pl then 0x0015
  else if !m.spaceOk pl then 0x0016
  else 0

end Sys2Proof.Machine
end

