-- ==== Sys2Proof/Machine/Shoser.lean ====
section
/-! DEFINITION. Shoser: how a command is served, its entries in the change log, and the commands of identity, licences, firmware, time, power,
temperature, logs, events and resources (spec/14_bureau_and_shoser.md, R408, R409, R413 to R432; R448, R482 to R484, R497, R512, R532). -/

namespace Sys2Proof.Machine

/-! ## Serving a command (R409, R415, R416, R421) -/

/-- What serving a command does. -/
inductive Reply where
  /-- the command stays at the front: something that it needs is held -/
  | wait (m : Mach)
  /-- it completes with a status and a payload -/
  | done (m : Mach) (status : Nat) (payload : List Byte)
  /-- it is deferred (R416) -/
  | later (m : Mach)

/-- A command of Table BU-6: its opcode; whether its row says "any state"; whether ROM recovery mode serves it; which requests of the opcode are its
own; whether length and fields of a request fit (R415 order 5), on a part of n stacks; its effect. -/
structure Cmd where
  op   : Nat
  any  : Bool := false
  rom  : Bool := false
  mine : MbxReq → Bool := fun _ => true
  fits : Mach → Nat → MbxReq → Bool
  act  : Fuse → Mach → MbxReq → Reply

/-- A payload field of a request. -/
def MbxReq.arg (r : MbxReq) (off size : Nat) : Nat := fieldAt r.payload off size

/-- The payload has n bytes. -/
def MbxReq.len (r : MbxReq) (n : Nat) : Bool := r.payload.length = n

/-- The owner id of the mailbox of a request (Table EV-6). -/
def MbxReq.owner (r : MbxReq) : Nat := 0x10 + r.mbox

/-- The Bureau of stack 0 serves mailboxes. -/
def Mach.serves (m : Mach) : Bool := m.awake && !m.asleep && m.stageOneOver && !m.bureauClockStopped 0

/-- ROM recovery mode of a stack (R409, R410). -/
def Mach.romMode (m : Mach) (s : Nat) : Bool := m.getF s Reg.BUR_STATUS_SERVICE = 6

/-- A stack whose SERVICE is BOOTING, FAILED or STOPPED (R421). -/
def Mach.notReady (m : Mach) (s : Nat) : Bool :=
  let v := m.getF s Reg.BUR_STATUS_SERVICE
  v = 0 || v = 3 || v = 5

/-- A request at the front is served: ROM mode, its fields, the state of its stacks, its effect. -/
def Mach.tryCmd (f : Fuse) (m : Mach) (c : Cmd) (r : MbxReq) : Reply :=
  let n := f.part.stackCount
  let l := r.stackSet n
  if (m.romMode 0 ∨ l.any m.romMode) ∧ !c.rom then .done m 0x0009 []
  else if !c.fits m n r then .done m 0x0003 []
  else if !c.any ∧ l.any m.notReady then .done m 0x0010 []
  else if !c.any ∧ l.any m.bureauClockStopped then .wait m
  else c.act f m r

/-- The command at the front of the doorbell order, if it is this one, is served (R416); in ROM recovery mode of stack 0 only mailbox 0 is. -/
def Mach.serve (f : Fuse) (m : Mach) (c : Cmd) : Mach :=
  if !m.serves then m
  else
    let n := f.part.stackCount
    let held := if m.romMode 0 then m.host.mbxQueue.filter (fun q => q.1 ≠ 0) else []
    let mine := if m.romMode 0 then m.host.mbxQueue.filter (fun q => q.1 = 0) else m.host.mbxQueue
    let m0 := { m with host := { m.host with mbxQueue := mine } }.settleMbx n mine.length
    let m1 :=
      match m0.frontReq n c.op with
      | none => m0
      | some r =>
        if !c.mine r then m0
        else
          match Mach.tryCmd f m0 c r with
          | .wait x => x
          | .done x st p => (x.complete r st p).popReq n
          | .later x => x.popReq n
    { m1 with host := { m1.host with mbxQueue := m1.host.mbxQueue ++ held } }

/-- The meaning of a Shoser row. -/
def shoser (c : Cmd) (s : State) : Out := onMach s (fun fu m => Mach.serve fu m c)

/-! ## The change log (R427, Table BU-8) -/

/-- An entry of SOURCE SHOSER on stack s. -/
def Mach.logShoser (m : Mach) (r : MbxReq) (s addr old new : Nat) (command refused : Bool) : Mach :=
  m.logChange s ⟨0, 0, 2, refused.toNat + 2 * command.toNat, r.mbox, r.stack, r.seq, addr, old, new⟩

/-- The entry of a command on each stack that it addresses. Its summaries in OLD and NEW are free values, but for licence commands (log entry 10). -/
def Mach.logCmd (m : Mach) (n : Nat) (r : MbxReq) (refused : Bool) : Mach :=
  (r.stackSet n).foldl (fun m s =>
    let a := m.fresh 64
    let b := a.2.fresh 64
    b.2.logShoser r s r.opcode a.1 (if refused then a.1 else b.1) true refused) m

/-- The command completes with its entry in the change log. -/
def Mach.okLogged (m : Mach) (n : Nat) (r : MbxReq) (payload : List Byte := []) : Reply := .done (m.logCmd n r false) 0 payload

/-- The command is refused with its entry in the change log. -/
def Mach.noLogged (m : Mach) (n : Nat) (r : MbxReq) (status : Nat) (payload : List Byte := []) : Reply := .done (m.logCmd n r true) status payload

/-- One entry for each of some registers of stack s that a command has changed; m0 is the machine before it. -/
def Mach.logRegs (f : Fuse) (m0 m : Mach) (r : MbxReq) (s : Nat) (l : List (List Fld × Nat)) : Mach :=
  l.foldl (fun x e =>
    match e.1 with
    | [] => x
    | g :: _ =>
      let old := Mach.regValue f m0 s e.1 e.2
      let new := Mach.regValue f m s e.1 e.2
      if old = new then x else x.logShoser r s (g.reg.off e.2) old new false false) m

/-- RESOURCE_HELD with the owner id (R420, R450). -/
def heldBy (owner : Nat) : List Byte := leBytes 1 owner

/-! ## Identity and state -/

/-- The device ID of R7. -/
def Part.deviceId : Part → Nat
  | .S => 0x0832
  | .D => 0x0833
  | .Q => 0x0834

/-- A value of w bytes that the spec does not state. -/
def Mach.unstated (m : Mach) (w : Nat) : Mach × List Byte :=
  let x := m.fresh (8 * w)
  (x.2, leBytes w x.1)

/-- The payload of IDENTIFY; the SDID of a stack that is absent is a free value (log entry 11). -/
def Mach.identity (f : Fuse) (m : Mach) : Mach × List Byte :=
  let n := f.part.stackCount
  let dies := (List.range 4).flatMap (fun s =>
    if s < n then leBytes 8 (f.dieSerials.getD (2 * s) 0).toNat ++ leBytes 8 (f.dieSerials.getD (2 * s + 1) 0).toNat else leBytes 16 0)
  let u := m.unstated (2 * (4 - n))
  (u.1, leBytes 16 f.serial.toNat ++ dies ++ leBytes 2 f.part.deviceId ++ leBytes 1 f.revision ++ leBytes 1 n ++ leBytes 1 2 ++ leBytes 1 0 ++
    leBytes 2 0x0100 ++ leBytes 4 (m.getF 0 Reg.BUR_FW_VERSION) ++ (List.range n).flatMap (fun s => leBytes 2 (m.sdid s)) ++ u.2)

/-- 16 bytes of GET_STATE. -/
def Mach.stateOf (m : Mach) (s : Nat) : List Byte :=
  leBytes 1 (m.getF s Reg.BUR_STATUS_SERVICE) ++ leBytes 1 (m.getF s Reg.BUR_BOOT_STATUS_STAGE) ++ leBytes 1 (m.getF s Reg.BUR_PLAN_STATE_STATE) ++
    leBytes 1 (m.twinState s) ++ leBytes 2 (m.getF s Reg.BUR_CORE_SUMMARY_LOGICAL_COUNT) ++ leBytes 2 0 ++ leBytes 8 (m.getF s Reg.BUR_PLAN_ID_PLAN_ID)

/-- The payload of GET_CORE_MAP. -/
def Mach.coreMapOf (m : Mach) (s : Nat) : List Byte :=
  leBytes 2 (m.getF s Reg.BUR_CORE_SUMMARY_LOGICAL_COUNT) ++ leBytes 1 (m.getF s Reg.BUR_CORE_SUMMARY_CHRYS_FREE_W) ++
    leBytes 1 (m.getF s Reg.BUR_CORE_SUMMARY_CHRYS_FREE_E) ++
    (List.range 832).flatMap (fun L => leBytes 2 (m.homeOfIndex s L)) ++ (List.range 832).flatMap (fun L => leBytes 2 (m.physOf s L))

/-- A command without payload whose response is read. -/
def readCmd (op : Nat) (any rom : Bool) (p : Mach → MbxReq → Nat → List Byte) : Cmd :=
  { op := op, any := any, rom := rom, fits := fun _ _ r => r.len 0, act := fun f m r => .done m 0 (p m r f.part.stackCount) }

/-- IDENTIFY (R421). -/
def execIdentify (s : State) : Out :=
  shoser { op := 0x0001, any := true, rom := true, fits := fun _ _ r => r.len 0
           act := fun f m _ => let x := Mach.identity f m
                               .done x.1 0 x.2 } s

/-- GET_STATE (R421). -/
def execGetState (s : State) : Out := shoser (readCmd 0x0002 true true (fun m r n => (r.stackSet n).flatMap m.stateOf)) s

/-- GET_CORE_MAP (R421). -/
def execGetCoreMap (s : State) : Out := shoser (readCmd 0x0003 false false (fun m r _ => m.coreMapOf r.stack)) s

/-- GET_TIME (R421). -/
def execGetTime (s : State) : Out :=
  shoser (readCmd 0x0005 false false (fun m r _ => leBytes 8 (m.now r.stack) ++ leBytes 8 (m.getF r.stack Reg.AON_RTC_SECONDS))) s

/-- SET_SDID (R349): only while no plan is LOADED or RUNNING on the stack. -/
def execSetSdid (s : State) : Out :=
  shoser { op := 0x0004, fits := fun _ _ r => r.len 2
           act := fun f m r =>
             let o := Reg.LNK_SDID.off 0
             let v := Mach.regValue f m r.stack Reg.LNK_SDID_fields 0
             if m.planOn r.stack then .done (m.logShoser r r.stack o v v false true) 0x0010 []
             else .done (Mach.logRegs f m (m.setSdid r.stack (r.arg 0 2)) r r.stack [(Reg.LNK_SDID_fields, 0)]) 0 [] } s

/-! ## Licences (R430 to R432) -/

/-- The entry of a licence command: the FEATURES masks before and after (Table BU-10). -/
def Mach.logLicence (m0 m : Mach) (n : Nat) (r : MbxReq) (refused : Bool) : Mach :=
  (r.stackSet n).foldl (fun m s => m.logShoser r s r.opcode (m0.getF s Reg.LIC_STATUS_FEATURES) (m.getF s Reg.LIC_STATUS_FEATURES) true refused) m

/-- The deferred command that holds the boot flash. -/
def Mach.flashUser (m : Mach) : Option MbxReq :=
  m.host.deferred.find? (fun r => r.opcode = 0x0101 || r.opcode = 0x0103 || r.opcode = 0x0C01)

/-- A blob stored in place of one for its feature. -/
def storeLicence (l : List LicBlob) (b : LicBlob) : List LicBlob := l.filter (fun x => licFeature x ≠ licFeature b) ++ [b]

/-- The first failing check of R431 for an installation, or 0. -/
def Mach.installStatus (f : Fuse) (m : Mach) (b : LicBlob) : Nat :=
  let st := licStatus f b
  if st ≠ 0 then st
  else if 16 ≤ m.host.licences.length ∧ !m.host.licences.any (fun x => licFeature x = licFeature b) then 0x0073
  else 0

/-- LIC_INSTALL: the checks (R431); the store is written at FLASH_WRITE_DONE. -/
def execLicInstall (s : State) : Out :=
  shoser { op := 0x0101, fits := fun _ _ r => r.len 144
           act := fun f m r =>
             let n := f.part.stackCount
             let st := Mach.installStatus f m r.payload
             match m.flashUser with
             | some u => .done (m.logLicence m n r true) 0x0007 (heldBy u.owner)
             | none =>
               if st ≠ 0 then
                 let m1 := m.onStacks n (fun m s => m.bumpF s Reg.LIC_STATUS_REJECTED)
                 .done (m1.logLicence m1 n r true) st []
               else .later (m.defer r) } s

/-- LIC_LIST: the stored licences in ascending FEATURE (R432). -/
def execLicList (s : State) : Out :=
  shoser (readCmd 0x0102 false false (fun m _ _ =>
    let l := (List.range 6).flatMap (fun k => m.host.licences.filter (fun b => licFeature b = k))
    leBytes 4 l.length ++ l.flatMap (fun b => leBytes 2 (licFeature b) ++ leBytes 2 0 ++ leBytes 4 (fieldAt b 0x20 4) ++ leBytes 8 (fieldAt b 0x18 8)))) s

/-- LIC_REMOVE (R432). -/
def execLicRemove (s : State) : Out :=
  shoser { op := 0x0103, fits := fun _ _ r => r.len 2 && decide (1 ≤ r.arg 0 2) && decide (r.arg 0 2 ≤ 5)
           act := fun f m r =>
             let n := f.part.stackCount
             match m.flashUser with
             | some u => .done (m.logLicence m n r true) 0x0007 (heldBy u.owner)
             | none =>
               if !m.host.licences.any (fun b => licFeature b = r.arg 0 2) then .done (m.logLicence m n r true) 0x0074 []
               else .later (m.defer r) } s

/-! ## Firmware (R408, R422) -/

/-- FW_WRITE: DATA lies in its 1 MiB slot; the flash is written at FLASH_WRITE_DONE. -/
def execFwWrite (s : State) : Out :=
  shoser { op := 0x0C01, rom := true
           fits := fun _ _ r =>
             let d := r.payload.length - 8
             decide (9 ≤ r.payload.length) && decide (d ≤ 4056) && decide (r.arg 0 1 ≤ 1) && r.arg 1 3 = 0 && r.arg 4 4 % 4096 = 0 &&
               decide (r.arg 4 4 + d ≤ 0x10_0000)
           act := fun f m r =>
             match m.flashUser with
             | some u => m.noLogged f.part.stackCount r 0x0007 (heldBy u.owner)
             | none => .later (m.defer r) } s

/-- FW_ACTIVATE: the slot verified by each addressed stack under R408, and preferred from the next cold start on. -/
def execFwActivate (s : State) : Out :=
  shoser { op := 0x0C02, rom := true, fits := fun _ _ r => r.len 1 && decide (r.arg 0 1 ≤ 1)
           act := fun f m r =>
             let n := f.part.stackCount
             let slot := r.arg 0 1
             match m.flashUser with
             | some u => m.noLogged n r 0x0007 (heldBy u.owner)
             | none =>
               match ((r.stackSet n).map (fun k => Mach.slotStatus f m k slot)).find? (· ≠ 0) with
               | some st => m.noLogged n r st
               | none => ({ m with host := { m.host with preferred := slot } }).okLogged n r (leBytes 4 (fieldAt (m.fwHeader slot) 8 4)) } s

/-- The licence store with the effect of a deferred licence command, on each stack without a plan at once (R10, R13, R14). -/
def Mach.licenceWritten (f : Fuse) (m : Mach) (r : MbxReq) (l : List LicBlob) : Mach :=
  let n := f.part.stackCount
  let m1 := Mach.syncLicences f { m with host := { m.host with licences := l } }
  let m2 := m1.onStacks n (fun x s =>
    if x.planOn s then x else x.licencesSettle s (m.getF s Reg.LIC_STATUS_FEATURES))
  Mach.logLicence m m2 n r false

/-- FLASH_WRITE_DONE (R431, R432): what the oldest deferred command of the boot flash writes takes effect, and it completes. -/
def Mach.flashDone (f : Fuse) (m : Mach) : Mach :=
  match m.flashUser with
  | none => m
  | some r =>
    let m0 := { m with host := { m.host with deferred := m.host.deferred.erase r } }
    let n := f.part.stackCount
    if r.opcode = 0x0C01 then
      let at0 := r.arg 0 1 * 0x10_0000 + r.arg 4 4
      let m1 := { m0 with host := { m0.host with flash := m0.host.flash.writeBytes at0 (r.payload.drop 8) } }
      (m1.logCmd n r false).complete r 0
    else
      let l := if r.opcode = 0x0101 then storeLicence m0.host.licences r.payload else m0.host.licences.filter (fun b => licFeature b ≠ r.arg 0 2)
      let m1 := Mach.licenceWritten f m0 r l
      m1.complete r 0 (leBytes 4 (m1.getF (if r.stack = 0xFF then 0 else r.stack) Reg.LIC_STATUS_FEATURES))

/-- FLASH_WRITE_DONE (R431). -/
def execFlashWriteDone (s : State) : Out := onMach s (fun fu m => if m.serves then Mach.flashDone fu m else m)

/-! ## Power (R482 to R484) -/

/-- Device Stop is accepted (R483). -/
def Mach.mayStop (m : Mach) (n : Nat) : Bool :=
  m.host.deferred = [] && (List.range n).all (fun s =>
    let v := m.getF s Reg.BUR_STATUS_SERVICE
    let t := m.twinState s
    (v = 1 || v = 2) && !m.planOn s && (t = 0 || t = 5))

/-- POWER_STATE with TARGET 0: Stop enters device Stop once its response is written (Table PW-4), and waits while a writeback is held (R396); a request for Run finds the device in Run. -/
def execPowerStateDevice (s : State) : Out :=
  shoser { op := 0x0701, mine := fun r => r.arg 0 1 ≠ 1
           fits := fun _ _ r => r.len 8 && r.arg 0 1 = 0 && decide (r.arg 1 1 ≤ 1) && r.arg 2 6 = 0 && (r.arg 1 1 = 0 || r.stack = 0xFF)
           act := fun f m r =>
             let n := f.part.stackCount
             if r.arg 1 1 = 0 then .done m 0 []
             else if !m.mayStop n then m.noLogged n r 0x0010
             else if (m.stopFlush n).stopWaits n then .wait (m.stopFlush n)
             else .later (((m.logCmd n r false).complete r 0).enterStop n) } s

/-- The indices of a CORE_MASK. -/
def coreMask (r : MbxReq) : List Nat := setBits (r.arg 8 104) 832

/-- POWER_STATE with TARGET 1 (R482): the indexed cores wake or stop. -/
def execPowerStateCores (s : State) : Out :=
  shoser { op := 0x0701, mine := fun r => r.arg 0 1 = 1
           fits := fun m n r => r.len 112 && decide (r.arg 1 1 ≤ 1) && r.arg 2 6 = 0 &&
             (r.stackSet n).all (fun k => (coreMask r).all (fun L => decide (L < m.getF k Reg.BUR_CORE_SUMMARY_LOGICAL_COUNT)))
           act := fun f m r =>
             let n := f.part.stackCount
             let l := r.stackSet n
             let stop := r.arg 1 1 = 1
             let regs := (coreMask r).map (fun L => (Reg.CORE_POWER_fields, L))
             if l.any m.planOn ∨ (!stop ∧ l.any (fun k => m.getB k Reg.THM_STATUS_STOP_HOLD)) then m.noLogged n r 0x0010
             else
               let m1 := l.foldl (fun x k =>
                 (coreMask r).foldl (fun x L => if stop then x.requestStop k (x.physOf k L) else x.requestWake k (x.physOf k L)) x) m
               .done (l.foldl (fun x k => Mach.logRegs f m x r k (regs.map (fun e => (e.1, m.physOf k e.2)))) m1) 0 [] } s

/-! ## The RTC alarm (R532) -/

/-- RTC_ALARM: the alarm of every stack addressed is set, or cleared. -/
def execRtcAlarm (s : State) : Out :=
  shoser { op := 0x0702, any := true, fits := fun _ _ r => r.len 8 && decide (r.arg 0 8 < 2 ^ 48)
           act := fun f m r =>
             let l := r.stackSet f.part.stackCount
             let m1 := l.foldl (fun m k => m.setF k Reg.AON_RTC_ALARM_ALARM (r.arg 0 8)) m
             .done (l.foldl (fun x k => Mach.logRegs f m x r k [(Reg.AON_RTC_ALARM_fields, 0)]) m1) 0 [] } s

/-! ## Temperature (R497) -/

/-- THERMAL_LIMITS: a setting that R497 refuses completes with BAD_ARGUMENT. -/
def execThermalLimits (s : State) : Out :=
  shoser { op := 0x0801, fits := fun _ _ r => r.len 6 && r.arg 1 1 = 0 && decide (r.arg 0 1 < 64) && limitsOk (r.arg 0 1) (r.arg 2 2) (r.arg 4 2)
           act := fun f m r =>
             let c := r.arg 0 1
             let m1 := (m.setF r.stack Reg.THM_CH_CFG_WARN (r.arg 2 2) c).setF r.stack Reg.THM_CH_CFG_THROTTLE (r.arg 4 2) c
             .done (Mach.logRegs f m m1 r r.stack [(Reg.THM_CH_CFG_fields, c)]) 0 [] } s

/-- THERMAL_READ (R421). -/
def execThermalRead (s : State) : Out :=
  shoser (readCmd 0x0802 true false (fun m r _ => (List.range 64).flatMap (fun c =>
    leBytes 2 (m.getF r.stack Reg.THM_CH_STATUS_TEMP c) ++ leBytes 1 (m.getF r.stack Reg.THM_CH_STATUS_BAND c) ++ leBytes 1 0))) s

/-! ## Logs (R428, R512) -/

/-- The retained entries of a log, oldest first, with their serials. -/
def Mach.logEntries (m : Mach) (s log : Nat) : List (Nat × List Byte) :=
  if log = 0 then (m.stk s).bureau.changeLog.reverse.map (fun e => (e.serial, e.bytes))
  else (m.stk s).bureau.errLog.reverse.map (fun e => (e.serial, e.bytes))

/-- The payload of LOG_READ, and the serial after the last entry returned (R512). -/
def Mach.logRead (m : Mach) (s log count first : Nat) : List Byte × Nat :=
  let all := m.logEntries s log
  let endSerial := m.getF s Reg.LOG_NEXT_SERIAL log
  let l := (all.filter (fun e => first ≤ e.1)).take count
  let oldest := ((all.head?).map (·.1)).getD endSerial
  let next := ((l.getLast?).map (fun e => e.1 + 1)).getD endSerial
  (leBytes 8 next ++ leBytes 4 l.length ++ leBytes 4 (oldest - first) ++ l.flatMap (·.2), if l = [] then 0 else next)

/-- LOG_READ (R512): reading marks the entries as read (R428). -/
def execLogRead (s : State) : Out :=
  shoser { op := 0x0A01
           fits := fun _ _ r => r.len 16 && decide (r.arg 0 1 ≤ 1) && r.arg 1 3 = 0 && decide (1 ≤ r.arg 4 4) && decide (r.arg 4 4 ≤ 63)
           act := fun _ m r =>
             let x := m.logRead r.stack (r.arg 0 1) (r.arg 4 4) (r.arg 8 8)
             .done (m.updStk r.stack (fun k => { k with bureau := { k.bureau with
               logRead := k.bureau.logRead.modify (fun v => max v x.2) (r.arg 0 1) } })) 0 x.1 } s

/-! ## Events and bindings (R422, R424) -/

/-- EVENT_BIND: the vector of an event code. -/
def execEventBind (s : State) : Out :=
  shoser { op := 0x0A02
           fits := fun _ _ r => r.len 4 && decide (1 ≤ r.arg 0 2) && decide (r.arg 0 2 ≤ 0x13) && decide (64 ≤ r.arg 2 2) && decide (r.arg 2 2 ≤ 2047)
           act := fun f m r =>
             ({ m with host := { m.host with evBind := SMap.put m.host.evBind (r.arg 0 2) (r.arg 2 2) } }).okLogged f.part.stackCount r } s

/-- SYNC_BIND: one-shot; a binding that the count satisfies already fires at once. -/
def execSyncBind (s : State) : Out :=
  shoser { op := 0x0A03
           fits := fun m _ r => r.len 16 && r.arg 6 2 = 0 && !handleBad (r.arg 0 4) && handleSdid (r.arg 0 4) = m.sdid r.stack &&
             decide (64 ≤ r.arg 4 2) && decide (r.arg 4 2 ≤ 2047) && decide (r.arg 8 8 < 2 ^ 48)
           act := fun f m r =>
             let n := f.part.stackCount
             if 4096 ≤ (m.stk r.stack).bureau.binds.length then m.noLogged n r 0x0007 (heldBy 0)
             else
               let m1 := m.updStk r.stack (fun k => { k with bureau := { k.bureau with binds := k.bureau.binds ++ [⟨r.arg 0 4, r.arg 4 2, r.arg 8 8⟩] } })
               (m1.fireBinds r.stack (handleObj (r.arg 0 4))).okLogged n r } s

/-! ## Resources (R448) -/

/-- The REG_OWNER index of a resource code and index (Table EV-5). -/
def ownerIndex (code i : Nat) : Option Nat :=
  if code = 1 ∧ i < 24 then some i
  else if code = 2 ∧ i < 32 then some (24 + i)
  else if code = 3 ∧ i < 8 then some (56 + i)
  else if code = 4 ∧ i < 8 then some (64 + i)
  else if code = 5 ∧ i < 64 then some (72 + i)
  else if code = 6 ∧ i = 0 then some 136
  else none

/-- RESOURCE_QUERY (R448). -/
def execResourceQuery (s : State) : Out :=
  shoser { op := 0x0B01, fits := fun _ _ r => r.len 4 && (ownerIndex (r.arg 0 2) (r.arg 2 2)).isSome
           act := fun _ m r =>
             let i := (ownerIndex (r.arg 0 2) (r.arg 2 2)).getD 0
             .done m 0 (leBytes 1 (m.getF r.stack Reg.REG_OWNER_OWNER i) ++ leBytes 1 (m.getF r.stack Reg.REG_OWNER_CLASS i)) } s

end Sys2Proof.Machine
end

