-- ==== Sys2Proof/Machine/PlanLoad.lean ====
section
/-! DEFINITION. The plan commands of Shoser: PLAN_LOAD, PLAN_START, PLAN_ABORT, PLAN_STATUS and ROUTE_LOAD (spec/02_execution_model.md, R45, R49, R50,
R76; spec/12_device_links.md, R350, R352; spec/13_host_and_memory.md, R386; spec/14_bureau_and_shoser.md, R422; spec/20_register_reference.md, R531). -/

namespace Sys2Proof.Machine

/-! ## PLAN_LOAD: what takes effect (R49, R50, R57, R236, R531) -/

/-- Every byte of a range of regions 0x0 and 0x4 may be read by the Bureau. -/
def Mach.imageThere (m : Mach) (n a size : Nat) : Bool :=
  let r := daRegion a
  let ok (x : Nat) : Bool := (readDeny .bureau (m.place n x)).isNone
  decide (a < 2 ^ 52) && (r = 0 || r = 4) && decide (daOff a + size ≤ 2 ^ 46) && ok a && (size = 0 || ok (a + size - 1)) &&
    (r = 4 || (List.range (size / 0x2_0000)).all (fun i => ok (a + i * 0x2_0000)))

/-- The stacks that a PLAN_LOAD acts on: the one addressed, or for 0xFF those that the header names (all of them when it names none of the part). -/
def loadStacks (r : MbxReq) (n : Nat) (b : List Byte) : List Nat :=
  if r.stack ≠ 0xFF then [r.stack]
  else
    let l := (List.range n).filter (fun s => fieldAt b (0x48 + 2 * s) 2 ≠ 0xFFFF)
    if l = [] then List.range n else l

/-- Order 1 of Table EX-9, and what else keeps a load from starting: a twin's sequences to be installed (R372), a hand-back under way (R375), a partition
change (R281), the hold of an orderly stop (R501). -/
def Mach.loadBusy (m : Mach) (s : Nat) : Bool :=
  m.planOn s || decide ((m.twin s).held ≠ []) || (m.twin s).rejoinMe || (m.stk s).cache.change.isSome || m.getB s Reg.THM_STATUS_STOP_HOLD

/-- Messages to stack s that no longer belong to its plan are dropped, but for signals of its own (R51). -/
def Mach.dropWire (m : Mach) (s : Nat) : Mach :=
  let here (x : Msg) : Bool := match x with
    | .token _ _ k _ _ => k = s
    | .signal _ u h _ _ => u ≠ s && handleSdid h = m.sdid s
    | .keyed k _ _ => k = s
    | .dead a => daStack a = s
  let sig (x : Msg) : Bool := match x with
    | .signal _ _ _ _ _ => true
    | _ => false
  let l := m.wire.filter here
  let m1 := l.foldl (fun m _ => m.dropTraffic s) { m with wire := m.wire.filter (fun x => !here x) }
  m1.bumpF s Reg.SYNC_DROPPED_DROPPED 0 (l.filter sig).length

/-- Every host-window line of both cache partitions is invalidated. -/
def Mach.dropWindow (m : Mach) (s : Nat) : Mach :=
  (((m.stk s).cache.lines.filter (fun c => 2 ^ 45 ≤ c.line * 128)).foldl (fun m c => m.dropLine s c.line) m).syncPinned s

/-- Sync objects take their initial state (R49, Table EX-8), and the second target of each RELEASE object (Table EX-14); bindings that a count satisfies
fire. -/
def Mach.loadSyncs (m : Mach) (s : Nat) (pl : Plan) : Mach :=
  let m0 := m.resetRange s (Reg.SYNC_COUNT.base + 64 * 0x40) (Reg.SYNC_COUNT.base + 8192 * 0x40)
  let m1 := m0.setF s Reg.SYNC_DROPPED_STALLED_OBJECTS (((List.range 64).filter (fun o => m0.getB s Reg.SYNC_STATUS_STALLED o)).length)
  let m2 := pl.syncs.foldl (fun m e =>
    let a := (m.setF s Reg.SYNC_COUNT_COUNT e.init e.obj).setF s Reg.SYNC_FWD_STRIDE_STRIDE e.stride e.obj
    let b := (a.setF s Reg.SYNC_FWD_STRIDE_TIMEOUT_MS e.timeout e.obj).setF s Reg.SYNC_FWD_TARGET_TARGET0 e.target0 e.obj
    (b.setF s Reg.SYNC_FWD_N_N0 e.n0 e.obj).setF s Reg.SYNC_FWD_N_N1 e.n1 e.obj) m1
  let m3 := pl.phases.foldl (fun m e => m.setF s Reg.SYNC_FWD_TARGET_TARGET1 e.target1 (handleObj e.release)) m2
  ((m3.stk s).bureau.binds.map (fun b => handleObj b.handle)).eraseDups.foldl (fun m o => m.fireBinds s o) m3

/-- Registers "cleared at plan load" or "in this plan", and the record of a fault (R150, R531). -/
def Mach.loadRegs (m : Mach) (s : Nat) : Mach :=
  let l : List Fld := [Reg.CORE_FAULT_INFO_CAUSE, Reg.CORE_FAULT_INFO_VALID, Reg.CORE_FAULT_INFO_MULTIPLE, Reg.CORE_SCRIPT_STATE_REPLAYS,
    Reg.CORE_BAR_STATUS_STALL_COUNT, Reg.CORE_ATOMIC_STATUS_JOURNAL_PEAK, Reg.CORE_ATOMIC_STATUS_JOURNAL_USED, Reg.CORE_SCRIPT_STATE_SCRIPT_INDEX,
    Reg.CORE_SCRIPT_STATE_WAITING_TOKEN, Reg.CORE_SCRIPT_STATE_WAITING_CREDIT]
  let m1 := (List.range 864).foldl (fun m p => (l.foldl (fun m f => m.resetF s f p) m).coreCauseSettle s p) m
  (List.range 832).foldl (fun m L => m.clearLaunchRegs s L) m1

/-- The plan of stack s out of the tables of an image: its phase entries are those of the stack. -/
def Plan.forStack (pl : Plan) (s : Nat) : Plan := { pl with phases := pl.phasesOf s }

/-- An accepted image takes effect on stack s. -/
def Mach.loadOn (m : Mach) (s : Nat) (pl : Plan) : Mach :=
  let p := pl.forStack s
  let m1 := ((m.dropWire s).dropKeyed s).dropWindow s
  let m2 := (pl.cores.filter (fun c => c.stack = s)).foldl (fun m c => m.performWrite true (m.textHome c) (PByte.clean (pl.coreText c))) m1
  let m3 := m2.updStk s (fun k => { k with
    plan := { plan := p, turning := k.plan.turning, features := m2.getF s Reg.LIC_STATUS_FEATURES }
    cores := k.cores.map (fun e => (e.1, { regs := e.2.regs, steps := e.2.steps }))
    movers := k.movers.map (fun e => (e.1, { e.2 with outs := [], lastDone := false })) })
  let m4 := (m3.loadRegs s).loadSyncs s p
  let m5 := (m4.setF s Reg.CAB_ORDER_NEXT_KEY 0 0).setF s Reg.CAB_ORDER_NEXT_KEY 0 1
  let m6 := (m5.setF s Reg.BUR_PLAN_STATE_STATE 1).setF s Reg.BUR_PLAN_STATE_PHASE 0
  let m7 := (m6.setF s Reg.BUR_PLAN_STATE_OUTSIDE_GUARANTEE (decide (pl.determinism ≠ 0)).toNat).setF s Reg.BUR_PLAN_STATE_PLAN_ID_LO (pl.id % 2 ^ 32)
  (m7.setF s Reg.BUR_PLAN_ID_PLAN_ID pl.id).setF s Reg.LNK_SDID_LOCKED 1

/-- The registers of a stack that a load changes beside those of its cores. -/
def loadedRegs (pl : Plan) : List (List Fld × Nat) :=
  [(Reg.BUR_PLAN_STATE_fields, 0), (Reg.BUR_PLAN_ID_fields, 0), (Reg.LNK_SDID_fields, 0), (Reg.CAB_ORDER_fields, 0), (Reg.CAB_ORDER_fields, 1)] ++
    pl.syncs.flatMap (fun e => [(Reg.SYNC_COUNT_fields, e.obj), (Reg.SYNC_FWD_STRIDE_fields, e.obj), (Reg.SYNC_FWD_TARGET_fields, e.obj), (Reg.SYNC_FWD_N_fields, e.obj)])

/-- The cores of the core directory that are not in Run (R482). -/
def Mach.stoppedCores (m : Mach) (l : List Nat) (pl : Plan) : List (Nat × Nat) :=
  ((pl.cores.filter (fun c => l.contains c.stack)).map (fun c => (c.stack, m.physOf c.stack c.index))).filter (fun e => !m.inRun e.1 e.2)

/-- Cores that a load needs are woken (R482): the load goes on once all of them run. -/
def Mach.wakeFor (m : Mach) (l : List (Nat × Nat)) : Mach :=
  l.foldl (fun m e => if (m.pw e.1).toWake.contains e.2 then m else m.requestWake e.1 e.2) m

/-- PLAN_LOAD (R50, R422): the image is read through its address and checked in the order of Table EX-9; the first failing check is its status. -/
def Mach.planLoad (f : Fuse) (m : Mach) (r : MbxReq) : Reply :=
  let n := f.part.stackCount
  let a := r.arg 0 8
  let size := r.arg 8 8
  let b0 := PByte.vals (m.homeBytes a 0x100)
  let l := loadStacks r n b0
  if l.any m.loadBusy then m.noLogged n r 0x0010
  else if m.accessHeld false a size then .wait m
  else
    let rd := m.performRead false a size
    let b := PByte.vals rd.2
    let m1 := rd.1
    let st := m1.imageStatus n b size l
    if st ≠ 0 then m1.noLogged n r st
    else
      let pl := planOf b
      let asleep := m1.stoppedCores l pl
      let texts := (pl.cores.filter (fun c => l.contains c.stack)).map (fun c => (m1.textHome c, c.textSize))
      if asleep ≠ [] then .wait (m.wakeFor asleep)
      else if m1.anyHeld texts then .wait m
      else
        let m2 := l.foldl (fun m s => m.loadOn s pl) m1
        let m3 := l.foldl (fun x s => Mach.logRegs f m1 x r s (loadedRegs pl)) m2
        (l.foldl (fun m s => ((m.plan s).routes.map (·.route)).eraseDups.foldl (fun m i => m.checkRoute s i) m) m3).okLogged n r (leBytes 8 pl.id)

/-- PLAN_LOAD (R50). -/
def execPlanLoad (s : State) : Out :=
  shoser { op := 0x0201
           fits := fun m n r => r.len 16 && decide (r.arg 8 8 ≤ 2 ^ 28) && r.arg 8 8 % 256 = 0 && m.imageThere n (r.arg 0 8) (r.arg 8 8)
           act := fun f m r => Mach.planLoad f m r } s

/-! ## PLAN_START (R45, R110) -/

/-- The core of a directory entry fetches its text from its home bay to LOAD_ADDR; poison comes along. -/
def Mach.fetchText (m : Mach) (c : CoreDir) : Mach :=
  let rd := m.performRead false (m.textHome c) c.textSize
  rd.1.performWrite false (localAddr c.stack (m.homeOfIndex c.stack c.index) c.loadAddr) rd.2

/-- The loaded plan of stack s starts: texts, the read-only map of phase 0, cores at script entry 0. -/
def Mach.startOn (m : Mach) (s : Nat) : Mach :=
  let pl := m.plan s
  let l := pl.cores.filter (fun c => c.stack = s)
  let ro := pl.roPages s 0
  let m1 := (l.foldl Mach.fetchText m).updStk s (fun k => { k with
    roPages := ro ++ k.plan.turning.filter (fun p => !ro.contains p)
    plan := { k.plan with turning := k.plan.turning.filter (fun p => !ro.contains p) } })
  l.foldl (fun m c => m.syncScript s c.index) (m1.setF s Reg.BUR_PLAN_STATE_STATE 2)

/-- The stacks that a plan command with an id acts on, among those in a state: those addressed whose plan has the id. -/
def Mach.planStacks (m : Mach) (r : MbxReq) (n : Nat) (on : Nat → Bool) (anyId : Bool) : List Nat :=
  (r.stackSet n).filter (fun s => on s && (m.getF s Reg.BUR_PLAN_ID_PLAN_ID = r.arg 0 8 || (anyId && r.arg 0 8 = 0)))

/-- PLAN_START of a plan that runs already completes with PLAN_BUSY, of one that is not loaded with PLAN_NOT_LOADED. -/
def Mach.planStart (f : Fuse) (m : Mach) (r : MbxReq) : Reply :=
  let n := f.part.stackCount
  let l := m.planStacks r n (fun s => m.planOn s && !m.planRunning s) false
  if l = [] then m.noLogged n r (if m.planStacks r n m.planRunning false = [] then 0x0017 else 0x0010)
  else
    let spans := l.flatMap (fun s => ((m.plan s).cores.filter (fun c => c.stack = s)).flatMap (fun c =>
      [(m.textHome c, c.textSize), (localAddr s (m.homeOfIndex s c.index) c.loadAddr, c.textSize)]))
    if m.anyHeld spans then .wait m
    else
      let m1 := l.foldl Mach.startOn m
      (l.foldl (fun x s => Mach.logRegs f m x r s [(Reg.BUR_PLAN_STATE_fields, 0)]) m1).okLogged n r

/-- PLAN_START (R45). -/
def execPlanStart (s : State) : Out :=
  shoser { op := 0x0202, fits := fun _ _ r => r.len 8, act := fun f m r => Mach.planStart f m r } s

/-! ## PLAN_ABORT, PLAN_STATUS (R76) -/

/-- PLAN_ABORT (R76): the plan ends on every stack with HOST_ABORT. -/
def execPlanAbort (s : State) : Out :=
  shoser { op := 0x0203, fits := fun _ _ r => r.len 8
           act := fun f m r =>
             let n := f.part.stackCount
             match m.planStacks r n m.planOn true with
             | [] => m.noLogged n r 0x0017
             | k :: _ =>
               let m1 := m.endPlan k 0x0020
               ((List.range n).foldl (fun x j => Mach.logRegs f m x r j [(Reg.BUR_PLAN_STATE_fields, 0), (Reg.LNK_SDID_fields, 0)]) m1).okLogged n r } s

/-- 16 bytes of PLAN_STATUS. -/
def Mach.planStatusOf (m : Mach) (s : Nat) : List Byte :=
  leBytes 1 (m.getF s Reg.BUR_PLAN_STATE_STATE) ++ leBytes 1 (m.phaseNow s) ++ leBytes 1 (m.getF s Reg.BUR_PLAN_STATE_OUTSIDE_GUARANTEE) ++
    leBytes 1 0 ++ leBytes 2 (m.stk s).plan.endStatus ++ leBytes 2 0 ++ leBytes 8 (m.getF s Reg.BUR_PLAN_ID_PLAN_ID)

/-- PLAN_STATUS (R421). -/
def execPlanStatus (s : State) : Out := shoser (readCmd 0x0204 false false (fun m r n => (r.stackSet n).flatMap m.planStatusOf)) s

/-! ## ROUTE_LOAD (R350, R352) -/

/-- A route entry keeps the ranges and zeros of Table LK-6. -/
def lk6Ok (v : Nat) : Bool :=
  let hop := bits v 0 5
  let alt := bits v 5 5
  (decide (hop < 24) || hop = 0x1F) && (decide (alt < 24) || alt = 0x1E) && bits v 10 6 = 0 && bits v 30 2 = 0 && decide (bits v 48 4 ≤ 4) &&
    bits v 52 11 = 0

/-- Entry i of the route table written. -/
def Mach.setRoute (m : Mach) (s i v : Nat) : Mach := Reg.LNK_ROUTE_fields.foldl (fun m f => m.setF s f (bits v f.lo f.width) i) m

/-- The entries of a ROUTE_LOAD: index and value. -/
def routeEntries (r : MbxReq) : List (Nat × Nat) := (List.range (r.arg 10 2)).map (fun i => (r.arg 8 2 + i, r.arg (16 + 8 * i) 8))

/-- ROUTE_LOAD (R350, R352, R422): another PLAN_ID clears the table first; every link that is UP is told. -/
def Mach.routeLoad (f : Fuse) (m : Mach) (r : MbxReq) : Reply :=
  let n := f.part.stackCount
  let s := r.stack
  if m.planOn s then m.noLogged n r 0x0010
  else
    let same := (m.stk s).link.tablePlan = some (r.arg 0 8)
    let m1 := if same then m else (m.resetRange s Reg.LNK_ROUTE.base (Reg.LNK_ROUTE.base + 16384 * 8)).setF s Reg.LNK_ROUTE_STATUS_FAILED_ROUTES 0
    let m2 := (routeEntries r).foldl (fun m e => m.setRoute s e.1 e.2) m1
    let m3 := m2.updLinks s (fun k => { k with tablePlan := some (r.arg 0 8), onAlt := [], failed := [] })
    let m3 := (List.range 16384).foldl (fun m i => m.chooseHop s i) m3
    let valid := ((List.range 16384).filter (fun i => m3.getB s Reg.LNK_ROUTE_VALID i)).length
    let m4 := (m3.setF s Reg.LNK_ROUTE_STATUS_ENTRIES valid).setF s Reg.LNK_ROUTE_STATUS_LOADED 1
    let m5 := (List.range 24).foldl (fun m k => if m.linkUp s k then m.announce s k else m) m4
    let m6 := if same then m5 else m5.logCmd n r false
    .done (Mach.logRegs f m m6 r s ((Reg.LNK_ROUTE_STATUS_fields, 0) :: (routeEntries r).map (fun e => (Reg.LNK_ROUTE_fields, e.1)))) 0 []

/-- ROUTE_LOAD (R350). -/
def execRouteLoad (s : State) : Out :=
  shoser { op := 0x0205
           fits := fun _ _ r => decide (16 ≤ r.payload.length) && decide (1 ≤ r.arg 10 2) && decide (r.arg 10 2 ≤ 500) && r.len (16 + 8 * r.arg 10 2) &&
             r.arg 12 4 = 0 && decide (r.arg 8 2 + r.arg 10 2 ≤ 16384) && (routeEntries r).all (fun e => lk6Ok e.2)
           act := fun f m r => Mach.routeLoad f m r } s

end Sys2Proof.Machine
end

