-- ==== Sys2Proof/Machine/ShoserKv.lean ====
section
/-! DEFINITION. The commands of Shoser for sequences, pools, shelves, partitions and range scrubs (spec/08_kv_cache.md, R227 to R240, R252 to R254;
spec/09_cache_die.md, R273, R274, R281; spec/11_integrity.md, R327; spec/12_device_links.md, R366, R371, R373). -/

namespace Sys2Proof.Machine

/-! ## Sequences -/

/-- An id of the stack's own set since it entered DETACHED, until the hand-back (R373). -/
def Mach.detachedId (m : Mach) (s q : Nat) : Bool := (m.twin s).detached && m.ownId s q

/-- An id of the returning twin's own set that the survivor serves, while the pair is REJOINING (R375): its descriptor is LIVE in the mirror, which is
known once an epoch has been applied. -/
def Mach.servedId (m : Mach) (s q : Nat) : Bool :=
  m.twinState s = 6 && !(m.twin s).serving && m.ownId s q && (m.getF s Reg.LNK_TWIN_STATUS_EPOCH = 0 || m.mirrorLive s q)

/-- A Cabinet command refused for one of its ids: a detached id (R373), and while a plan is RUNNING one that changes pages (R240). -/
def Mach.seqBarred (m : Mach) (s : Nat) (ids : List Nat) : Option Nat :=
  if ids.any (m.detachedId s) then some 0x0064 else if m.planRunning s then some 0x0010 else none

/-- What a failed host command leaves on context q (R252, R259): EXHAUSTED and LAST_FAIL after KV_MAP_FULL, LAST_FAIL after any other code but that of
a fork. -/
def Mach.seqFailed (m : Mach) (s q code : Nat) (fork : Bool) : Mach :=
  if code = 0 then m
  else if code = 0x31 then
    ((m.bumpF s Reg.CAB_COUNT1_EXHAUSTED (cabOf q)).srcEdge s (12 + cabOf q)).updSeq s q (fun x => { x with lastFail := code, exhausted := true })
  else if fork then m
  else m.updSeq s q (fun x => { x with lastFail := code })

/-- A sequence command on context q ends: its journal records (R368), its entry, its status. It waits while the journal has no room. -/
def Mach.seqDone (m m1 : Mach) (n : Nat) (r : MbxReq) (q code : Nat) : Reply :=
  match m.journalPut (m1.syncCab r.stack (cabOf q)) r.stack with
  | none => .wait m
  | some m2 => .done (m2.logCmd n r (decide (code ≠ 0))) code []

/-- A sequence command that changes pages on context q ends; it waits while the Cabinet's memories are held (R270, R281, R320). -/
def Mach.pagesDone (m m1 : Mach) (n : Nat) (r : MbxReq) (q code : Nat) : Reply :=
  if m.cabHeld r.stack (cabOf q) then .wait m else m.seqDone m1 n r q code

/-- The first failing check of SEQ_CREATE, or 0 (R15, R366, R371, R373, R375). -/
def Mach.createStatus (m : Mach) (s q : Nat) : Nat :=
  if m.detachedId s q then 0x0064
  else if (m.twinState s ≠ 0 ∧ !m.ownId s q) ∨ (m.twin s).held.contains q ∨ m.servedId s q then 0x0062
  else if (m.seq s q).isSome then 0x0036
  else if (if m.licensed s 2 then 65536 else 16384) ≤ (m.stk s).seqs.length then 0x0008
  else 0

/-- The context that SEQ_CREATE asks for (R227). -/
def newSeq (r : MbxReq) : Seq :=
  { fmt := r.arg 2 1, hd := r.arg 3 1, streams := r.arg 4 2, cls := r.arg 6 1, pinned := r.arg 7 1 = 1, sync := r.arg 8 4, tag := r.arg 16 8 }

/-- SEQ_CREATE (R227): accepted at any time (R240). -/
def execSeqCreate (s : State) : Out :=
  shoser { op := 0x0301
           fits := fun _ _ r => r.len 24 && decide (r.arg 2 1 ≤ 2) && decide (r.arg 3 1 ≤ 2) && decide (1 ≤ r.arg 4 2) && decide (r.arg 4 2 ≤ 4096) &&
             decide (r.arg 6 1 ≤ 3) && decide (r.arg 7 1 ≤ 1) && r.arg 12 4 = 0 && !handleBad (r.arg 8 4)
           act := fun f m r =>
             let n := f.part.stackCount
             let q := r.arg 0 2
             let st := m.createStatus r.stack q
             if st ≠ 0 then m.noLogged n r st
             else m.seqDone (m.updStk r.stack (fun k => { k with seqs := SMap.put k.seqs q (newSeq r) })) n r q 0 } s

/-- SEQ_FORK (R252). -/
def execSeqFork (s : State) : Out :=
  shoser { op := 0x0302, fits := fun _ _ r => r.len 8
           act := fun f m r =>
             let n := f.part.stackCount
             let a := r.arg 0 2
             let b := r.arg 2 2
             match m.seqBarred r.stack [a, b] with
             | some st => m.noLogged n r st
             | none =>
               let t := match m.seq r.stack a, m.seq r.stack b with
                 | some x, some d => m.fork r.stack (cabOf a) a b (r.arg 4 4) x d
                 | _, _ => (m, 0x34)
               m.pagesDone (t.1.seqFailed r.stack b t.2 true) n r b t.2 } s

/-- SEQ_FREE (R254); an id held for the twin is given up (R376). -/
def execSeqFree (s : State) : Out :=
  shoser { op := 0x0303, fits := fun _ _ r => r.len 4 && decide (r.arg 2 1 ≤ 1) && r.arg 3 1 = 0
           act := fun f m r =>
             let n := f.part.stackCount
             let q := r.arg 0 2
             match m.seqBarred r.stack [q] with
             | some st => m.noLogged n r st
             | none =>
               if (m.twin r.stack).held.contains q then
                 (m.updTwin r.stack (fun t => { t with held := t.held.filter (· ≠ q) })).okLogged n r
               else if (m.seq r.stack q).isSome then m.pagesDone (m.freeSeq r.stack (cabOf q) q (r.arg 2 1 = 1)) n r q 0
               else m.noLogged n r 0x34 } s

/-- SEQ_TRUNC (R253). -/
def execSeqTrunc (s : State) : Out :=
  shoser { op := 0x0304, fits := fun _ _ r => r.len 8 && r.arg 2 2 = 0
           act := fun f m r =>
             let n := f.part.stackCount
             let q := r.arg 0 2
             match m.seqBarred r.stack [q] with
             | some st => m.noLogged n r st
             | none =>
               let t := match m.seq r.stack q with
                 | some x => m.trunc r.stack (cabOf q) q (r.arg 4 4) x
                 | none => (m, 0x34)
               m.pagesDone (t.1.seqFailed r.stack q t.2 false) n r q t.2 } s

/-- CLASS and PINNED of a live context set (R422): page classes are raised, PIN_REFS follow PINNED. -/
def Mach.setPriority (m : Mach) (s q cls : Nat) (pin : Bool) (x : Seq) : Mach :=
  let m1 := x.map.foldl (fun m e => m.updPage s (cabOf q) e.2 (fun p =>
    { p with cls := max p.cls cls, pins := p.pins + pin.toNat - x.pinned.toNat })) m
  m1.updSeq s q (fun y => { y with cls := cls, pinned := pin })

/-- SEQ_PRIORITY (R422). -/
def execSeqPriority (s : State) : Out :=
  shoser { op := 0x0305, fits := fun _ _ r => r.len 4 && decide (r.arg 2 1 ≤ 3) && decide (r.arg 3 1 ≤ 1)
           act := fun f m r =>
             let n := f.part.stackCount
             let q := r.arg 0 2
             match m.seqBarred r.stack [q] with
             | some st => m.noLogged n r st
             | none =>
               match m.seq r.stack q with
               | some x => m.pagesDone (m.setPriority r.stack q (r.arg 2 1) (r.arg 3 1 = 1) x) n r q 0
               | none => m.noLogged n r 0x34 } s

/-- SEQ_READ (R228). -/
def execSeqRead (s : State) : Out :=
  shoser { op := 0x0306, fits := fun _ _ r => r.len 2
           act := fun _ m r => if m.detachedId r.stack (r.arg 0 2) then .done m 0x0064 [] else .done m 0 (m.descBytes r.stack (r.arg 0 2)) } s

/-! ## Pools (R232) -/

/-- The configuration that KV_POOL_CFG asks for. -/
def poolOf (r : MbxReq) : PoolSet :=
  { frames := r.arg 2 2, blocks := r.arg 4 2, intake := r.arg 6 1, base := r.arg 8 8, slots := r.arg 24 4, chest := r.arg 1 1 = 1, lpBase := r.arg 16 8
    spill := r.arg 7 1, drop := r.arg 28 1 }

/-- KV_POOL_CFG (R232): refused with PLAN_BUSY while a plan is LOADED or RUNNING, FEATURE_UNLICENSED without the Chest's licence, and BAD_ARGUMENT
where the configuration itself is. -/
def execKvPoolCfg (s : State) : Out :=
  shoser { op := 0x0307
           fits := fun _ _ r => r.len 32 && decide (r.arg 0 1 ≤ 1) && decide (r.arg 1 1 ≤ 1) && decide (r.arg 7 1 < 16) && decide (r.arg 28 1 < 16) &&
             r.arg 29 3 = 0 && decide (1 ≤ r.arg 6 1)
           act := fun f m r =>
             let n := f.part.stackCount
             let c := r.arg 0 1
             let p := poolOf r
             if m.planOn r.stack then m.noLogged n r 0x0010
             else if !m.chestOk r.stack p then m.noLogged n r 0x0008
             else if !m.poolOk r.stack c p then m.noLogged n r 0x0003
             else
               let m1 := m.setPool r.stack c p
               .done (Mach.logRegs f m m1 r r.stack [(Reg.CAB_POOL_CFG_fields, c), (Reg.CAB_POOL_BASE_fields, c), (Reg.CAB_LP_CFG_fields, c),
                 (Reg.CAB_LP_BASE_fields, c), (Reg.CAB_CLASS_CFG_fields, c)]) 0 [] } s

/-! ## Shelves (R273, R274) -/

/-- A range that a shelf may take (R273): wholly in the tier, while it is mapped (R392); the host window does not count (R387). -/
def Mach.mappedRange (m : Mach) (s start len : Nat) : Bool := decide (start + len ≤ m.tierBytes s) && decide (m.getF s Reg.LPD_STATUS_STATE ≠ 3)

/-- The first failing check of R273, or 0. -/
def Mach.shelfStatus (m : Mach) (s : Nat) (k : Shelf) : Nat :=
  let c := (m.stk s).cache
  let counts := match c.change with
    | some w => w
    | none => (m.cacheCount s 0, m.cacheCount s 1)
  if c.shelves.any (fun x => x.id = k.id) ∨ !m.mappedRange s k.start k.len then 0x0003
  else if c.shelves.any (fun x => overlap x.start x.len k.start k.len) then 0x0050
  else if !setsHold counts.1 counts.2 (m.pinnedLines s ++ k.lineList) then 0x0051
  else 0

/-- SHELF_PIN (R273): the shelf is entered; SHELF_PIN_DONE completes the command. -/
def execShelfPin (s : State) : Out :=
  shoser { op := 0x0401
           fits := fun _ _ r => r.len 24 && decide (r.arg 0 1 < 64) && r.arg 1 7 = 0 && r.arg 8 8 % 128 = 0 && r.arg 16 8 % 128 = 0 && decide (0 < r.arg 16 8)
           act := fun f m r =>
             let n := f.part.stackCount
             let k : Shelf := ⟨r.arg 0 1, r.arg 8 8, r.arg 16 8⟩
             let st := m.shelfStatus r.stack k
             if st ≠ 0 then m.noLogged n r st
             else
               .later (((m.updCache r.stack (fun c => { c with shelves := c.shelves ++ [k], pinning := c.pinning ++ [k.id] })).logCmd n r false).defer r) } s

/-- The lines of a shelf turn into ordinary lines, and it goes from the table (R274); one that is dead gives up the way that it kept (R276). -/
def Mach.unpin (m : Mach) (s : Nat) (k : Shelf) : Mach :=
  let m1 := m.updCache s (fun c => { c with shelves := c.shelves.filter (fun x => x.id ≠ k.id) })
  (k.lineList.foldl (fun m L => if m.isDead s L then m.dropLine s L else m.updLine s L (fun c => { c with pinned := false })) m1).syncPinned s

/-- SHELF_UNPIN (R274); a shelf whose pin has not completed is held by that command. -/
def execShelfUnpin (s : State) : Out :=
  shoser { op := 0x0402, fits := fun _ _ r => r.len 1
           act := fun f m r =>
             let n := f.part.stackCount
             match (m.stk r.stack).cache.shelves.find? (fun k => k.id = r.arg 0 1) with
             | none => m.noLogged n r 0x0052
             | some k =>
               match m.host.deferred.find? (fun d => d.opcode = 0x0401 && d.stack = r.stack && d.arg 0 1 = k.id) with
               | some d => m.noLogged n r 0x0007 (heldBy d.owner)
               | none => (m.unpin r.stack k).okLogged n r } s

/-! ## The cache partition (R281) -/

/-- PART_SET (R281): a refused change sets REFUSED in both halves; PARTITION_CHANGE_DONE completes the command. -/
def execPartSet (s : State) : Out :=
  shoser { op := 0x0403, fits := fun _ _ r => r.len 2
           act := fun f m r =>
             let n := f.part.stackCount
             let k := r.stack
             let regs := [(Reg.CDIE_PART_CFG_fields, 0), (Reg.CDIE_PART_CFG_fields, 1)]
             if m.partOk k (r.arg 0 1) (r.arg 1 1) then
               .later ((Mach.logRegs f m (m.partStart k (r.arg 0 1) (r.arg 1 1)) r k regs).defer r)
             else ((m.setF k Reg.CDIE_PART_STATUS_REFUSED 1 0).setF k Reg.CDIE_PART_STATUS_REFUSED 1 1).noLogged n r 0x0053 } s

/-! ## Range scrubs (R327) -/

/-- SCRUB_RANGE (R327): the range waits in command order; SCRUB_RANGE_DONE completes the command. -/
def execScrubRange (s : State) : Out :=
  shoser { op := 0x0501
           fits := fun _ _ r => r.len 16 && decide (r.arg 0 8 < 2 ^ 52) && daStack (r.arg 0 8) = r.stack && daRegion (r.arg 0 8) = 0 &&
             r.arg 0 8 % 128 = 0 && r.arg 8 8 % 128 = 0 && decide (daOff (r.arg 0 8) + r.arg 8 8 ≤ 0x6C00_0000)
           act := fun _ m r =>
             .later (((m.updInteg r.stack (fun g => { g with scrubs := g.scrubs ++ [{ mbox := some r.mbox, start := daOff (r.arg 0 8), len := r.arg 8 8 }] })).syncScrubs
               r.stack).defer r) } s

end Sys2Proof.Machine
end

