-- ==== Sys2Proof/Machine/ShoserLink.lean ====
section
/-! DEFINITION. The commands of Shoser for twins, pattern tests and margin scans (spec/12_device_links.md, R358 to R360, R365 to R376). -/

namespace Sys2Proof.Machine

/-! ## Pairs (R365) -/

/-- The opcode of the command under way on stack s is held by its mailbox; 0x03 when no command is deferred. -/
def Mach.holderOf (m : Mach) (op s : Nat) : Nat := ((m.deferredOn op s).map MbxReq.owner).getD 0x03

/-- The links that TWIN_PAIR names, the lower-numbered first. -/
def pairLinks (r : MbxReq) : List Nat := [min (r.arg 2 1) (r.arg 3 1), max (r.arg 2 1) (r.arg 3 1)]

/-- Ids that the stack serves for the twin of its last pair do not count against that twin (R365). -/
def Mach.servedFor (m : Mach) (s twin q : Nat) : Bool :=
  (m.twin s).serving && m.getF s Reg.LNK_TWIN_CFG_TWIN_SDID = twin && (m.twin s).installed.contains q

/-- The journal area at offset `base` of region 0x4 lies where R365 asks for it. -/
def Mach.journalFits (m : Mach) (s base : Nat) : Bool :=
  decide (base + jSize ≤ m.tierTop s) && (List.range 2).all (fun c =>
    let p := m.poolSet s c
    !overlap base jSize (daOff p.lpBase) p.lpArea)

/-- The first failing check of TWIN_PAIR, or 0 (R365). -/
def Mach.pairStatus (f : Fuse) (m : Mach) (s : Nat) (r : MbxReq) : Nat :=
  let twin := r.arg 0 2
  let lower := decide (m.sdid s < twin)
  let outside := (m.stk s).seqs.filter (fun e => lowerOwns e.1 ≠ lower)
  let heldElse := (m.twin s).serving && (m.twin s).held ≠ [] && m.getF s Reg.LNK_TWIN_CFG_TWIN_SDID ≠ twin
  if !m.licensed s 4 then 0x0008
  else if (pairLinks r).any (fun n => !m.linkUp s n || m.getF s Reg.LNK_PEER_SDID n ≠ twin) then 0x0060
  else if (pairLinks r).any (fun n => m.getF s Reg.LNK_PEER_SERIAL_LO n = f.serial.toNat % 2 ^ 32) then 0x0061
  else if heldElse ∨ outside.any (fun e => !m.servedFor s twin e.1) then 0x0062
  else if !m.journalFits s (r.arg 8 8) then 0x0063
  else 0

/-- What a TWIN_PAIR that does not complete restores (R365: nothing changes). -/
def Mach.pairBefore (m : Mach) (s : Nat) : List Nat :=
  [m.twinState s, m.getF s Reg.LNK_TWIN_CFG_TWIN_SDID, m.getF s Reg.LNK_TWIN_CFG_LINK_A, m.getF s Reg.LNK_TWIN_CFG_LINK_B,
   m.getF s Reg.LNK_TWIN_CFG_AUTO_TAKEOVER, m.getF s Reg.LNK_TWIN_CFG_LOWER, (m.twin s).base]

/-- PAIR_HELLO on the lower-numbered link that TWIN_PAIR names (log entry 30). -/
def Mach.hello (m : Mach) (s : Nat) (r : MbxReq) (bad : Bool) : Mach :=
  m.linkPush s ((pairLinks r).getD 0 0) [controlFlit 2 (m.helloArg s (r.arg 0 2) bad)]

/-- The pair that TWIN_PAIR asks for begins: PAIRING, and PAIR_HELLO. -/
def Mach.pairBegin (m : Mach) (s : Nat) (r : MbxReq) : Mach :=
  let l := [1, r.arg 0 2, (pairLinks r).getD 0 0, (pairLinks r).getD 1 0, r.arg 4 1, (decide (m.sdid s < r.arg 0 2)).toNat, r.arg 8 8]
  let m1 := (m.setPair s l).updTwin s (fun t => { t with before := m.pairBefore s })
  m1.hello s r false

/-- TWIN_PAIR (R365): it completes once the PAIR_HELLO of the twin has come, or at PAIR_TIMEOUT. When the stack's sequences are the obstacle the twin,
whose command fails for it too, is told. -/
def execTwinPair (s : State) : Out :=
  shoser { op := 0x0601
           fits := fun _ _ r => r.len 16 && decide (r.arg 2 1 < 24) && decide (r.arg 3 1 < 24) && decide (r.arg 2 1 ≠ r.arg 3 1) &&
             decide (r.arg 4 1 ≤ 1) && r.arg 5 3 = 0 && r.arg 8 8 % 0x1_0000 = 0
           act := fun f m r =>
             let n := f.part.stackCount
             let k := r.stack
             let t := m.twinState k
             let st := Mach.pairStatus f m k r
             if t = 1 ∨ t = 2 ∨ t = 6 then m.noLogged n r 0x0007 (heldBy (m.holderOf 0x0601 k))
             else if st ≠ 0 then (if st = 0x0062 then m.hello k r true else m).noLogged n r st
             else .later (((Mach.logRegs f m (m.pairBegin k r) r k [(Reg.LNK_TWIN_CFG_fields, 0)]).defer r).pairDone k) } s

/-- A TWIN_PAIR has run out of time (Table BU-5): nothing has changed. -/
def Mach.pairTimeout (m : Mach) : Mach :=
  match m.host.deferred.find? (fun r => r.opcode = 0x0601) with
  | none => m
  | some r =>
    m.pairFails r.stack 0x0066

/-- PAIR_TIMEOUT (R421). -/
def execPairTimeout (s : State) : Out := onMach s (fun _ m => m.pairTimeout)

/-- TWIN_UNPAIR (R376): refused while this stack serves sequences of its twin or rejoins it, or is DETACHED and so served by it, and while the twin's last
heartbeat says SERVING_TWIN or REJOINING. Once every sequence that it serves is freed, a stack in SERVING_TWIN may unpair. -/
def execTwinUnpair (s : State) : Out :=
  shoser { op := 0x0602, fits := fun _ _ r => r.len 0
           act := fun f m r =>
             let n := f.part.stackCount
             let k := r.stack
             let t := m.twinState k
             if t = 0 then m.noLogged n r 0x0065
             else if t = 1 then m.noLogged n r 0x0007 (heldBy (m.holderOf 0x0601 k))
             else if t = 5 ∨ t = 6 ∨ (t = 4 ∧ m.servesAny k) ∨ (m.twin k).theirs = 4 ∨ (m.twin k).theirs = 6 then m.noLogged n r 0x0010
             else (Mach.logRegs f m ((m.rejoinSend k 4).unpair k) r k [(Reg.LNK_TWIN_CFG_fields, 0)]).okLogged n r } s

/-- The last epoch that has been closed. -/
def Mach.lastEpoch (m : Mach) (s : Nat) : Nat := ((m.twin s).epoch + 2 ^ 32 - 1) % 2 ^ 32

/-- TWIN_DETACH (R373): a final epoch, CONTROL DETACH, DETACHED. -/
def execTwinDetach (s : State) : Out :=
  shoser { op := 0x0603, fits := fun _ _ r => r.len 0
           act := fun f m r =>
             let n := f.part.stackCount
             let k := r.stack
             let t := m.twinState k
             if t = 0 ∨ t = 4 then m.noLogged n r 0x0065
             else if t = 5 then m.noLogged n r 0x0064
             else if t = 1 then m.noLogged n r 0x0007 (heldBy (m.holderOf 0x0601 k))
             else if m.planOn k then m.noLogged n r 0x0010
             else
               let m1 := m.detach k
               m1.okLogged n r (leBytes 4 (m1.lastEpoch k)) } s

/-- TWIN_REJOIN (R375): it completes when the pair is PAIRED again, or with PLAN_BUSY when the twin says that a plan is LOADED or RUNNING there. -/
def execTwinRejoin (s : State) : Out :=
  shoser { op := 0x0604, fits := fun _ _ r => r.len 0
           act := fun f m r =>
             let n := f.part.stackCount
             let k := r.stack
             if m.twinState k ≠ 6 then m.noLogged n r 0x0065
             else if m.planOn k then m.noLogged n r 0x0010
             else if (m.deferredOn 0x0604 k).isSome then m.noLogged n r 0x0007 (heldBy (m.holderOf 0x0604 k))
             else
               let m1 := (m.updTwin k (fun t => { t with rejoinMe := true })).rejoinSend k 1
               .later (((m1.logCmd n r false).defer r).handBack k) } s

/-- TWIN_TAKEOVER (R370, R371): it follows a heartbeat loss. -/
def execTwinTakeover (s : State) : Out :=
  shoser { op := 0x0605, fits := fun _ _ r => r.len 0
           act := fun f m r =>
             let n := f.part.stackCount
             let k := r.stack
             if m.twinState k ≠ 3 then m.noLogged n r 0x0065
             else
               let m1 := m.takeover k false
               m1.okLogged n r (leBytes 4 (m1.getF k Reg.LNK_TWIN_STATUS_EPOCH) ++ leBytes 4 (m1.twin k).held.length) } s

/-- Entries in the mirror of a kind: sync points or commit markers (Table LK-8). -/
def journalCount (kind : Nat) : Nat := if kind = 0 then 8192 else 832

/-- TWIN_JOURNAL_READ (R371): entries of 16 bytes of the mirror; it waits while one of them is held. -/
def execTwinJournalRead (s : State) : Out :=
  shoser { op := 0x0606
           fits := fun _ _ r => r.len 6 && decide (r.arg 0 1 ≤ 1) && r.arg 1 1 = 0 && decide (1 ≤ r.arg 4 2) && decide (r.arg 4 2 ≤ 250) &&
             decide (r.arg 2 2 + r.arg 4 2 ≤ journalCount (r.arg 0 1))
           act := fun _ m r =>
             let a := devAddr r.stack 4 ((m.twin r.stack).base + (if r.arg 0 1 = 0 then jSync else jMark) + 16 * r.arg 2 2)
             if m.twinState r.stack = 0 then .done m 0x0065 []
             else if m.accessHeld false a (16 * r.arg 4 2) then .wait m
             else
               let b := m.performRead false a (16 * r.arg 4 2)
               .done b.1 0 (PByte.vals b.2) } s

/-! ## Links (R358 to R360) -/

/-- LINK_TEST (R358): PATTERN_TEST_DONE completes it. -/
def execLinkTest (s : State) : Out :=
  shoser { op := 0x0901
           fits := fun _ _ r => r.len 8 && decide (r.arg 0 1 < 24) && decide (r.arg 1 1 ≤ 7) && decide (1 ≤ r.arg 2 2) && decide (r.arg 2 2 < 512) &&
             decide (1 ≤ r.arg 4 4) && decide (r.arg 4 4 ≤ 60000)
           act := fun f m r =>
             let n := f.part.stackCount
             let k := r.stack
             let l := r.arg 0 1
             let lanes := r.arg 2 2
             if m.linkHeld k l then m.noLogged n r 0x0008
             else if !m.lanesFree k l lanes then m.noLogged n r 0x0003
             else if m.host.deferred.any (fun d => d.opcode = 0x0901 && onLink k l d) then m.noLogged n r 0x0007 (heldBy (m.getF k Reg.REG_OWNER_OWNER l))
             else
               let c := m.claimTest k l r.owner (bit lanes 8)
               if !c.2 then
                 let own := if m.claimKind k l r.owner 3 = .refused then m.getF k Reg.REG_OWNER_OWNER l else m.getF k Reg.REG_OWNER_OWNER (24 + l)
                 c.1.noLogged n r 0x0007 (heldBy own)
               else
                 let m1 := (c.1.setF k Reg.LNK_PAT_CFG_PATTERN (r.arg 1 1) l).setF k Reg.LNK_PAT_CFG_LANES lanes l
                 let m2 := (m1.setF k Reg.LNK_PAT_CFG_GEN 1 l).setF k Reg.LNK_PAT_CFG_CHECK 1 l
                 .later ((Mach.logRegs f m m2 r k [(Reg.LNK_PAT_CFG_fields, l)]).defer r) } s

/-- LINK_MARGIN (R360): MARGIN_SCAN_DONE completes it. -/
def execLinkMargin (s : State) : Out :=
  shoser { op := 0x0902, fits := fun _ _ r => r.len 2 && decide (r.arg 0 1 < 24) && decide (r.arg 1 1 ≤ 8)
           act := fun f m r =>
             let n := f.part.stackCount
             let k := r.stack
             let l := r.arg 0 1
             let lane := r.arg 1 1
             if m.linkHeld k l then m.noLogged n r 0x0008
             else if !m.lanesFree k l (2 ^ lane) then m.noLogged n r 0x0003
             else
               let c := m.scanStart k l lane r.owner
               if !c.2 then
                 let own := if lane = 8 ∧ (m.lnk k l).scan = none ∧ m.claimKind k l r.owner 3 ≠ .refused then m.getF k Reg.REG_OWNER_OWNER (24 + l)
                   else m.getF k Reg.REG_OWNER_OWNER l
                 c.1.noLogged n r 0x0007 (heldBy own)
               else .later ((Mach.logRegs f m (c.1.setF k Reg.LNK_MARGIN_LANE lane l) r k [(Reg.LNK_MARGIN_fields, l)]).defer r) } s

end Sys2Proof.Machine
end

