-- ==== Sys2Proof/Machine/Sync.lean ====
section
/-! DEFINITION. SYNC instructions: barriers, waits, staged signals (R63, R69, R100, R101, R141, R142, Table KF-12). -/

namespace Sys2Proof.Machine

/-- BAR.SYNC: the group arrives at a barrier of its block, its earlier accesses performed (R100, R101, R103). A lane that has not
exited and is inactive or has a false guard faults (R141). -/
def execBarSync (a : KInstr) (s : State) : Out :=
  kernel a s 11 0x00 (fun k m =>
    let live := 0xFFFF_FFFF - k.g.exited
    match lowestBit (live - k.mask) 32 with
    | some l => k.fault m 7 l 0
    | none =>
      k.fenced m (fun m =>
        let n := Iw.imm12 k.w
        let m1 := m.updGroup k.s k.L k.slot (fun g => { g with wait := .barrier n }.goto (g.pc + k.size))
        m1.updCore k.s k.L (fun c =>
          let j := c.launch.blockSlot k.g.block
          ({ c with launch := { c.launch with
            arrived := SMap.put c.launch.arrived (j * 4 + n) (putBit (c.launch.arrivedAt j n) k.g.index true)
            stalled := c.launch.stalled.filter (· ≠ j * 4 + n) } }).barriersSettle j)))

/-- WAIT_GE and WAIT_EQ: the group goes on at once when the count satisfies t, and waits otherwise (R63, R141, R142). Bits [63:48] of the threshold
pair are ignored (DESIGN CHOICE, log entry 111). -/
def KCtx.waitObj (k : KCtx) (m : Mach) (eq : Bool) : Mach :=
  match k.lowest with
  | none => k.next m
  | some l =>
    let h := k.a m l
    let t := k.get m l (Iw.srcB k.w) 2 % 2 ^ 48
    let o := handleObj h
    if handleBad h ∨ handleSdid h ≠ m.sdid k.s ∨ o < 64 then k.fault m 0x10 l h
    else if (if eq then m.count k.s o = t else satisfies (m.count k.s o) t) then
      m.releaseWait k.s k.L k.slot o (Iw.pd k.w) (bits k.w 17 5) k.mask
    else
      (m.updGroup k.s k.L k.slot (fun g => { g with wait := .obj o t eq (Iw.pd k.w) (bits k.w 17 5) k.mask })).syncWaiters k.s o

/-- WAIT_GE (R63). -/
def execWaitGe (a : KInstr) (s : State) : Out := kernel a s 11 0x01 (fun k m => k.waitObj m false)

/-- WAIT_EQ (R63). -/
def execWaitEq (a : KInstr) (s : State) : Out := kernel a s 11 0x02 (fun k m => k.waitObj m true)

/-- An operation staged until commit (R69). -/
def KCtx.stage (k : KCtx) (m : Mach) (x : Staged) : Mach :=
  k.next (m.updCore k.s k.L (fun c => { c with staged := c.staged ++ [x] }))

/-- SIGNAL: staged until commit (R142). -/
def execSignal (a : KInstr) (s : State) : Out :=
  kernel a s 11 0x03 (fun k m =>
    match k.lowest with
    | none => k.next m
    | some l =>
      let n := k.get m l (Iw.srcB k.w) 1
      if n = 0 ∨ n > 65535 then k.fault m 2 l 0
      else if handleBad (k.a m l) then k.fault m 0x10 l (k.a m l)
      else k.stage m (.signal (k.a m l) n 0))

/-- SIGNAL_FAIL: staged until commit (R142). -/
def execSignalFail (a : KInstr) (s : State) : Out :=
  kernel a s 11 0x04 (fun k m =>
    match k.lowest with
    | none => k.next m
    | some l =>
      let n := k.get m l (Iw.srcB k.w) 1
      let f := k.c m l
      if n = 0 ∨ n > 65535 ∨ f = 0 ∨ f > 0xFFFF then k.fault m 2 l 0
      else if handleBad (k.a m l) then k.fault m 0x10 l (k.a m l)
      else k.stage m (.signal (k.a m l) n f))

/-- CLEAR_FAIL: staged until commit, on an object of the own stack (R62, R142). -/
def execClearFail (a : KInstr) (s : State) : Out :=
  kernel a s 11 0x05 (fun k m =>
    match k.lowest with
    | none => k.next m
    | some l =>
      let h := k.a m l
      if handleBad h ∨ handleSdid h ≠ m.sdid k.s ∨ handleObj h < 64 then k.fault m 0x10 l h else k.stage m (.clearFail h))

end Sys2Proof.Machine
end

