-- ==== Sys2Proof/Machine/TestEnd.lean ====
section
/-! DEFINITION. The end of a Skipper test as a command: the register accesses that a test of a service group held follow it (R297, R320). -/

namespace Sys2Proof.Machine

/-- SKIPPER_TEST_END (R297, R320). -/
def execSkipperTestEnd (a : TestEnd) (s : State) : Out :=
  onStack s a.stack (fun fu m => Mach.bar0Drain fu (Mach.testEnd fu m a.stack a.nth a.result a.us.toNat))

end Sys2Proof.Machine
end

