-- ==== Sys2Proof/Machine/Dispatch.lean ====
section
/-! DEFINITION. The dispatch: one arm per command of the table; each arm is one direct call of its meaning. -/

namespace Sys2Proof.Machine

/-- The effect of a command on everything but the queue. -/
def exec (i : Instr) (s : State) : Host.Outcome State Fault Refusal :=
  match i with
  | .nop a => Sys2Proof.Machine.execNop a s
  | .bra a => Sys2Proof.Machine.execBra a s
  | .brx a => Sys2Proof.Machine.execBrx a s
  | .exit a => Sys2Proof.Machine.execExit a s
  | .trap a => Sys2Proof.Machine.execTrap a s
  | .iadd a => Sys2Proof.Machine.execIadd a s
  | .isub a => Sys2Proof.Machine.execIsub a s
  | .imulLo a => Sys2Proof.Machine.execImulLo a s
  | .imulHiU a => Sys2Proof.Machine.execImulHiU a s
  | .imulHiS a => Sys2Proof.Machine.execImulHiS a s
  | .imad a => Sys2Proof.Machine.execImad a s
  | .idivU a => Sys2Proof.Machine.execIdivU a s
  | .idivS a => Sys2Proof.Machine.execIdivS a s
  | .iremU a => Sys2Proof.Machine.execIremU a s
  | .iremS a => Sys2Proof.Machine.execIremS a s
  | .iminS a => Sys2Proof.Machine.execIminS a s
  | .iminU a => Sys2Proof.Machine.execIminU a s
  | .imaxS a => Sys2Proof.Machine.execImaxS a s
  | .imaxU a => Sys2Proof.Machine.execImaxU a s
  | .and a => Sys2Proof.Machine.execAnd a s
  | .or a => Sys2Proof.Machine.execOr a s
  | .xor a => Sys2Proof.Machine.execXor a s
  | .not a => Sys2Proof.Machine.execNot a s
  | .shl a => Sys2Proof.Machine.execShl a s
  | .shrU a => Sys2Proof.Machine.execShrU a s
  | .shrS a => Sys2Proof.Machine.execShrS a s
  | .popc a => Sys2Proof.Machine.execPopc a s
  | .clz a => Sys2Proof.Machine.execClz a s
  | .brev a => Sys2Proof.Machine.execBrev a s
  | .fadd a => Sys2Proof.Machine.execFadd a s
  | .fsub a => Sys2Proof.Machine.execFsub a s
  | .fmul a => Sys2Proof.Machine.execFmul a s
  | .ffma a => Sys2Proof.Machine.execFfma a s
  | .fmin a => Sys2Proof.Machine.execFmin a s
  | .fmax a => Sys2Proof.Machine.execFmax a s
  | .hadd2 a => Sys2Proof.Machine.execHadd2 a s
  | .hmul2 a => Sys2Proof.Machine.execHmul2 a s
  | .hfma2 a => Sys2Proof.Machine.execHfma2 a s
  | .hmin2 a => Sys2Proof.Machine.execHmin2 a s
  | .hmax2 a => Sys2Proof.Machine.execHmax2 a s
  | .ex2 a => Sys2Proof.Machine.execEx2 a s
  | .lg2 a => Sys2Proof.Machine.execLg2 a s
  | .rcp a => Sys2Proof.Machine.execRcp a s
  | .rsq a => Sys2Proof.Machine.execRsq a s
  | .sin a => Sys2Proof.Machine.execSin a s
  | .cos a => Sys2Proof.Machine.execCos a s
  | .f32S32 a => Sys2Proof.Machine.execF32S32 a s
  | .f32U32 a => Sys2Proof.Machine.execF32U32 a s
  | .s32F32 a => Sys2Proof.Machine.execS32F32 a s
  | .u32F32 a => Sys2Proof.Machine.execU32F32 a s
  | .bf16F32 a => Sys2Proof.Machine.execBf16F32 a s
  | .f32Bf16 a => Sys2Proof.Machine.execF32Bf16 a s
  | .f16F32 a => Sys2Proof.Machine.execF16F32 a s
  | .f32F16 a => Sys2Proof.Machine.execF32F16 a s
  | .e4m3F32 a => Sys2Proof.Machine.execE4m3F32 a s
  | .e4m3Bf16 a => Sys2Proof.Machine.execE4m3Bf16 a s
  | .e4m3F16 a => Sys2Proof.Machine.execE4m3F16 a s
  | .e5m2F32 a => Sys2Proof.Machine.execE5m2F32 a s
  | .e5m2Bf16 a => Sys2Proof.Machine.execE5m2Bf16 a s
  | .f32E4m3 a => Sys2Proof.Machine.execF32E4m3 a s
  | .f32E5m2 a => Sys2Proof.Machine.execF32E5m2 a s
  | .bf16E4m3 a => Sys2Proof.Machine.execBf16E4m3 a s
  | .bf16E5m2 a => Sys2Proof.Machine.execBf16E5m2 a s
  | .mov a => Sys2Proof.Machine.execMov a s
  | .sel a => Sys2Proof.Machine.execSel a s
  | .pack2 a => Sys2Proof.Machine.execPack2 a s
  | .pack4 a => Sys2Proof.Machine.execPack4 a s
  | .s2r a => Sys2Proof.Machine.execS2r a s
  | .isetp a => Sys2Proof.Machine.execIsetp a s
  | .fsetp a => Sys2Proof.Machine.execFsetp a s
  | .plop a => Sys2Proof.Machine.execPlop a s
  | .elect a => Sys2Proof.Machine.execElect a s
  | .voteAny a => Sys2Proof.Machine.execVoteAny a s
  | .voteAll a => Sys2Proof.Machine.execVoteAll a s
  | .ballot a => Sys2Proof.Machine.execBallot a s
  | .shfl a => Sys2Proof.Machine.execShfl a s
  | .ld a => Sys2Proof.Machine.execLd a s
  | .st a => Sys2Proof.Machine.execSt a s
  | .atomAdd a => Sys2Proof.Machine.execAtomAdd a s
  | .atomMinS a => Sys2Proof.Machine.execAtomMinS a s
  | .atomMinU a => Sys2Proof.Machine.execAtomMinU a s
  | .atomMaxS a => Sys2Proof.Machine.execAtomMaxS a s
  | .atomMaxU a => Sys2Proof.Machine.execAtomMaxU a s
  | .atomAnd a => Sys2Proof.Machine.execAtomAnd a s
  | .atomOr a => Sys2Proof.Machine.execAtomOr a s
  | .atomXor a => Sys2Proof.Machine.execAtomXor a s
  | .atomXch a => Sys2Proof.Machine.execAtomXch a s
  | .atomCas a => Sys2Proof.Machine.execAtomCas a s
  | .atomFadd a => Sys2Proof.Machine.execAtomFadd a s
  | .atomOrd a => Sys2Proof.Machine.execAtomOrd a s
  | .barSync a => Sys2Proof.Machine.execBarSync a s
  | .waitGe a => Sys2Proof.Machine.execWaitGe a s
  | .waitEq a => Sys2Proof.Machine.execWaitEq a s
  | .signal a => Sys2Proof.Machine.execSignal a s
  | .signalFail a => Sys2Proof.Machine.execSignalFail a s
  | .clearFail a => Sys2Proof.Machine.execClearFail a s
  | .fenceCore a => Sys2Proof.Machine.execFenceCore a s
  | .fenceStack a => Sys2Proof.Machine.execFenceStack a s
  | .fenceSystem a => Sys2Proof.Machine.execFenceSystem a s
  | .cacheDead a => Sys2Proof.Machine.execCacheDead a s
  | .mxLoadw a => Sys2Proof.Machine.execMxLoadw a s
  | .mxSwap a => Sys2Proof.Machine.execMxSwap a s
  | .mxStream a => Sys2Proof.Machine.execMxStream a s
  | .mxDrain a => Sys2Proof.Machine.execMxDrain a s
  | .mxWait a => Sys2Proof.Machine.execMxWait a s
  | .mxgLoadw a => Sys2Proof.Machine.execMxgLoadw a s
  | .mxgStream a => Sys2Proof.Machine.execMxgStream a s
  | .mxgDrain a => Sys2Proof.Machine.execMxgDrain a s
  | .attBias a => Sys2Proof.Machine.execAttBias a s
  | .attScore a => Sys2Proof.Machine.execAttScore a s
  | .attNorm a => Sys2Proof.Machine.execAttNorm a s
  | .attPack a => Sys2Proof.Machine.execAttPack a s
  | .attWait a => Sys2Proof.Machine.execAttWait a s
  | .kvAppend a => Sys2Proof.Machine.execKvAppend a s
  | .kvGather a => Sys2Proof.Machine.execKvGather a s
  | .kvFork a => Sys2Proof.Machine.execKvFork a s
  | .kvFree a => Sys2Proof.Machine.execKvFree a s
  | .kvTrunc a => Sys2Proof.Machine.execKvTrunc a s
  | .kvHint a => Sys2Proof.Machine.execKvHint a s
  | .kvWait a => Sys2Proof.Machine.execKvWait a s
  | .scriptEntryStart a => Sys2Proof.Machine.execScriptEntryStart a s
  | .blockDispatch a => Sys2Proof.Machine.execBlockDispatch a s
  | .scriptEntryEnd a => Sys2Proof.Machine.execScriptEntryEnd a s
  | .loopEnd a => Sys2Proof.Machine.execLoopEnd a s
  | .commit a => Sys2Proof.Machine.execCommit a s
  | .tokenArrival a => Sys2Proof.Machine.execTokenArrival a s
  | .creditArrival a => Sys2Proof.Machine.execCreditArrival a s
  | .workUnitReplay a => Sys2Proof.Machine.execWorkUnitReplay a s
  | .coreAbort a => Sys2Proof.Machine.execCoreAbort a s
  | .planComplete a => Sys2Proof.Machine.execPlanComplete a s
  | .kernelFault a => Sys2Proof.Machine.execKernelFault a s
  | .syncSignalArrival a => Sys2Proof.Machine.execSyncSignalArrival a s
  | .syncStall a => Sys2Proof.Machine.execSyncStall a s
  | .nearCacheInvalidate a => Sys2Proof.Machine.execNearCacheInvalidate a s
  | .reshardStart a => Sys2Proof.Machine.execReshardStart a s
  | .reshardDescriptorDone a => Sys2Proof.Machine.execReshardDescriptorDone a s
  | .barrierStall a => Sys2Proof.Machine.execBarrierStall a s
  | .handshakeWatchdog a => Sys2Proof.Machine.execHandshakeWatchdog a s
  | .atomicAtHome a => Sys2Proof.Machine.execAtomicAtHome a s
  | .accessAtHome a => Sys2Proof.Machine.execAccessAtHome a s
  | .allocatingAccess a => Sys2Proof.Machine.execAllocatingAccess a s
  | .streamingAccess a => Sys2Proof.Machine.execStreamingAccess a s
  | .lineFillDone a => Sys2Proof.Machine.execLineFillDone a s
  | .writebackDone a => Sys2Proof.Machine.execWritebackDone a s
  | .deadDeclaration a => Sys2Proof.Machine.execDeadDeclaration a s
  | .thrashWindow a => Sys2Proof.Machine.execThrashWindow a s
  | .partitionChangeDone a => Sys2Proof.Machine.execPartitionChangeDone a s
  | .shelfPinDone a => Sys2Proof.Machine.execShelfPinDone a s
  | .mxOpStart a => Sys2Proof.Machine.execMxOpStart a s
  | .loadwDone a => Sys2Proof.Machine.execLoadwDone a s
  | .rowRoot a => Sys2Proof.Machine.execRowRoot a s
  | .rowRecompute a => Sys2Proof.Machine.execRowRecompute a s
  | .streamDone a => Sys2Proof.Machine.execStreamDone a s
  | .drainDone a => Sys2Proof.Machine.execDrainDone a s
  | .attOpStart a => Sys2Proof.Machine.execAttOpStart a s
  | .attOpDone a => Sys2Proof.Machine.execAttOpDone a s
  | .keyedOpArrival a => Sys2Proof.Machine.execKeyedOpArrival a s
  | .appendPerform a => Sys2Proof.Machine.execAppendPerform a s
  | .forkPerform a => Sys2Proof.Machine.execForkPerform a s
  | .freePerform a => Sys2Proof.Machine.execFreePerform a s
  | .truncPerform a => Sys2Proof.Machine.execTruncPerform a s
  | .hintPerform a => Sys2Proof.Machine.execHintPerform a s
  | .chestWriteDone a => Sys2Proof.Machine.execChestWriteDone a s
  | .gatherDone a => Sys2Proof.Machine.execGatherDone a s
  | .chunkReceive a => Sys2Proof.Machine.execChunkReceive a s
  | .writeChunkReceive a => Sys2Proof.Machine.execWriteChunkReceive a s
  | .handshakeTimeout a => Sys2Proof.Machine.execHandshakeTimeout a s
  | .skipperTestStart a => Sys2Proof.Machine.execSkipperTestStart a s
  | .skipperTestEnd a => Sys2Proof.Machine.execSkipperTestEnd a s
  | .spareMapDone a => Sys2Proof.Machine.execSpareMapDone a s
  | .relocationDone a => Sys2Proof.Machine.execRelocationDone a s
  | .portReset a => Sys2Proof.Machine.execPortReset a s
  | .resyncDone a => Sys2Proof.Machine.execResyncDone a s
  | .resyncTimeout a => Sys2Proof.Machine.execResyncTimeout a s
  | .restoration a => Sys2Proof.Machine.execRestoration a s
  | .hawkmothStep a => Sys2Proof.Machine.execHawkmothStep a s
  | .scrubRangeDone a => Sys2Proof.Machine.execScrubRangeDone a s
  | .bureauWatchdogMiss a => Sys2Proof.Machine.execBureauWatchdogMiss a s
  | .bureauRestartDone a => Sys2Proof.Machine.execBureauRestartDone a s
  | .linkTrainingDone a => Sys2Proof.Machine.execLinkTrainingDone a s
  | .peerSignalLoss a => Sys2Proof.Machine.execPeerSignalLoss a s
  | .signalDetectRetry a => Sys2Proof.Machine.execSignalDetectRetry a s
  | .retrainDone a => Sys2Proof.Machine.execRetrainDone a s
  | .laneWindowEnd a => Sys2Proof.Machine.execLaneWindowEnd a s
  | .idle a => Sys2Proof.Machine.execIdle a s
  | .write a => Sys2Proof.Machine.execWrite a s
  | .writeAck a => Sys2Proof.Machine.execWriteAck a s
  | .readReq a => Sys2Proof.Machine.execReadReq a s
  | .readRsp a => Sys2Proof.Machine.execReadRsp a s
  | .message a => Sys2Proof.Machine.execMessage a s
  | .poison a => Sys2Proof.Machine.execPoison a s
  | .journal a => Sys2Proof.Machine.execJournal a s
  | .heartbeat a => Sys2Proof.Machine.execHeartbeat a s
  | .planAnnounce a => Sys2Proof.Machine.execPlanAnnounce a s
  | .pairHello a => Sys2Proof.Machine.execPairHello a s
  | .controlDetach a => Sys2Proof.Machine.execControlDetach a s
  | .controlStop a => Sys2Proof.Machine.execControlStop a s
  | .controlConflict a => Sys2Proof.Machine.execControlConflict a s
  | .controlRejoin a => Sys2Proof.Machine.execControlRejoin a s
  | .heartbeatSend a => Sys2Proof.Machine.execHeartbeatSend a s
  | .heartbeatLoss a => Sys2Proof.Machine.execHeartbeatLoss a s
  | .twinInstall a => Sys2Proof.Machine.execTwinInstall a s
  | .twinInstalled a => Sys2Proof.Machine.execTwinInstalled a s
  | .patternTestDone a => Sys2Proof.Machine.execPatternTestDone a s
  | .marginScanDone a => Sys2Proof.Machine.execMarginScanDone a s
  | .bar4Read a => Sys2Proof.Machine.execBar4Read a s
  | .bar4Write a => Sys2Proof.Machine.execBar4Write a s
  | .flr => Sys2Proof.Machine.execFlr s
  | .msixUnmask a => Sys2Proof.Machine.execMsixUnmask a s
  | .movStart a => Sys2Proof.Machine.execMovStart a s
  | .movStop a => Sys2Proof.Machine.execMovStop a s
  | .moverCopy a => Sys2Proof.Machine.execMoverCopy a s
  | .moverTranspose a => Sys2Proof.Machine.execMoverTranspose a s
  | .moverZero a => Sys2Proof.Machine.execMoverZero a s
  | .moverWaitMet a => Sys2Proof.Machine.execMoverWaitMet a s
  | .moverCreditReady a => Sys2Proof.Machine.execMoverCreditReady a s
  | .moverWritesDone a => Sys2Proof.Machine.execMoverWritesDone a s
  | .refreshDue a => Sys2Proof.Machine.execRefreshDue a s
  | .periodicRetrain a => Sys2Proof.Machine.execPeriodicRetrain a s
  | .intcSourceEdge a => Sys2Proof.Machine.execIntcSourceEdge a s
  | .intcClaim a => Sys2Proof.Machine.execIntcClaim a s
  | .intcComplete a => Sys2Proof.Machine.execIntcComplete a s
  | .crossingResync a => Sys2Proof.Machine.execCrossingResync a s
  | .latencyMiss a => Sys2Proof.Machine.execLatencyMiss a s
  | .mbxDoorbell a => Sys2Proof.Machine.execMbxDoorbell a s
  | .mbxEvtTail a => Sys2Proof.Machine.execMbxEvtTail a s
  | .syncSignal a => Sys2Proof.Machine.execSyncSignal a s
  | .syncStatus a => Sys2Proof.Machine.execSyncStatus a s
  | .hostStackSel a => Sys2Proof.Machine.execHostStackSel a s
  | .cdiePartCfg a => Sys2Proof.Machine.execCdiePartCfg a s
  | .cabPoolCfg a => Sys2Proof.Machine.execCabPoolCfg a s
  | .cabPoolBase a => Sys2Proof.Machine.execCabPoolBase a s
  | .cabLpCfg a => Sys2Proof.Machine.execCabLpCfg a s
  | .cabLpBase a => Sys2Proof.Machine.execCabLpBase a s
  | .cabClassCfg a => Sys2Proof.Machine.execCabClassCfg a s
  | .lnkSdid a => Sys2Proof.Machine.execLnkSdid a s
  | .lnkCtrlRetrain a => Sys2Proof.Machine.execLnkCtrlRetrain a s
  | .lnkCtrlTest a => Sys2Proof.Machine.execLnkCtrlTest a s
  | .lnkPatCfg a => Sys2Proof.Machine.execLnkPatCfg a s
  | .lnkMarginStart a => Sys2Proof.Machine.execLnkMarginStart a s
  | .ldoSet a => Sys2Proof.Machine.execLdoSet a s
  | .stopReq a => Sys2Proof.Machine.execStopReq a s
  | .thmChCfg a => Sys2Proof.Machine.execThmChCfg a s
  | .thmDiag a => Sys2Proof.Machine.execThmDiag a s
  | .regGpio a => Sys2Proof.Machine.execRegGpio a s
  | .aonRtcAlarm a => Sys2Proof.Machine.execAonRtcAlarm a s
  | .registerWrite a => Sys2Proof.Machine.execRegisterWrite a s
  | .readClear a => Sys2Proof.Machine.execReadClear a s
  | .voutSettled a => Sys2Proof.Machine.execVoutSettled a s
  | .avsTargetFall a => Sys2Proof.Machine.execAvsTargetFall a s
  | .regionAverage a => Sys2Proof.Machine.execRegionAverage a s
  | .coreWake a => Sys2Proof.Machine.execCoreWake a s
  | .wakeWaitEnd a => Sys2Proof.Machine.execWakeWaitEnd a s
  | .coreWakeDone a => Sys2Proof.Machine.execCoreWakeDone a s
  | .pmbusAlert a => Sys2Proof.Machine.execPmbusAlert a s
  | .wakeEvent a => Sys2Proof.Machine.execWakeEvent a s
  | .wakeStep a => Sys2Proof.Machine.execWakeStep a s
  | .adcSample a => Sys2Proof.Machine.execAdcSample a s
  | .diodeRatioCheck a => Sys2Proof.Machine.execDiodeRatioCheck a s
  | .hardwareTrip a => Sys2Proof.Machine.execHardwareTrip a s
  | .rtcAlarmFire a => Sys2Proof.Machine.execRtcAlarmFire a s
  | .perstNAssert => Sys2Proof.Machine.execPerstNAssert s
  | .perstNDeassert => Sys2Proof.Machine.execPerstNDeassert s
  | .pwrGoodFall => Sys2Proof.Machine.execPwrGoodFall s
  | .stageStart a => Sys2Proof.Machine.execStageStart a s
  | .stageLate a => Sys2Proof.Machine.execStageLate a s
  | .bootImageBlock a => Sys2Proof.Machine.execBootImageBlock a s
  | .stageMessage a => Sys2Proof.Machine.execStageMessage a s
  | .identify => Sys2Proof.Machine.execIdentify s
  | .getState => Sys2Proof.Machine.execGetState s
  | .getCoreMap => Sys2Proof.Machine.execGetCoreMap s
  | .setSdid => Sys2Proof.Machine.execSetSdid s
  | .getTime => Sys2Proof.Machine.execGetTime s
  | .licInstall => Sys2Proof.Machine.execLicInstall s
  | .licList => Sys2Proof.Machine.execLicList s
  | .licRemove => Sys2Proof.Machine.execLicRemove s
  | .planLoad => Sys2Proof.Machine.execPlanLoad s
  | .planStart => Sys2Proof.Machine.execPlanStart s
  | .planAbort => Sys2Proof.Machine.execPlanAbort s
  | .planStatus => Sys2Proof.Machine.execPlanStatus s
  | .routeLoad => Sys2Proof.Machine.execRouteLoad s
  | .seqCreate => Sys2Proof.Machine.execSeqCreate s
  | .seqFork => Sys2Proof.Machine.execSeqFork s
  | .seqFree => Sys2Proof.Machine.execSeqFree s
  | .seqTrunc => Sys2Proof.Machine.execSeqTrunc s
  | .seqPriority => Sys2Proof.Machine.execSeqPriority s
  | .seqRead => Sys2Proof.Machine.execSeqRead s
  | .kvPoolCfg => Sys2Proof.Machine.execKvPoolCfg s
  | .shelfPin => Sys2Proof.Machine.execShelfPin s
  | .shelfUnpin => Sys2Proof.Machine.execShelfUnpin s
  | .partSet => Sys2Proof.Machine.execPartSet s
  | .scrubRange => Sys2Proof.Machine.execScrubRange s
  | .twinPair => Sys2Proof.Machine.execTwinPair s
  | .twinUnpair => Sys2Proof.Machine.execTwinUnpair s
  | .twinDetach => Sys2Proof.Machine.execTwinDetach s
  | .twinRejoin => Sys2Proof.Machine.execTwinRejoin s
  | .twinTakeover => Sys2Proof.Machine.execTwinTakeover s
  | .twinJournalRead => Sys2Proof.Machine.execTwinJournalRead s
  | .powerStateDevice => Sys2Proof.Machine.execPowerStateDevice s
  | .powerStateCores => Sys2Proof.Machine.execPowerStateCores s
  | .rtcAlarm => Sys2Proof.Machine.execRtcAlarm s
  | .thermalLimits => Sys2Proof.Machine.execThermalLimits s
  | .thermalRead => Sys2Proof.Machine.execThermalRead s
  | .linkTest => Sys2Proof.Machine.execLinkTest s
  | .linkMargin => Sys2Proof.Machine.execLinkMargin s
  | .logRead => Sys2Proof.Machine.execLogRead s
  | .eventBind => Sys2Proof.Machine.execEventBind s
  | .syncBind => Sys2Proof.Machine.execSyncBind s
  | .resourceQuery => Sys2Proof.Machine.execResourceQuery s
  | .fwWrite => Sys2Proof.Machine.execFwWrite s
  | .fwActivate => Sys2Proof.Machine.execFwActivate s
  | .pairTimeout => Sys2Proof.Machine.execPairTimeout s
  | .flashWriteDone => Sys2Proof.Machine.execFlashWriteDone s
  | .bureauBridgeMessage a => Sys2Proof.Machine.execBureauBridgeMessage a s
  | .pwrGoodRise => Sys2Proof.Machine.execPwrGoodRise s
  | .vddAonLoss => Sys2Proof.Machine.execVddAonLoss s
  | .vddAonApply => Sys2Proof.Machine.execVddAonApply s
  | .i3cPrivateWrite a => Sys2Proof.Machine.execI3cPrivateWrite a s
  | .boundaryScanInstruction a => Sys2Proof.Machine.execBoundaryScanInstruction a s
  | .bureauTimerExpiry a => Sys2Proof.Machine.execBureauTimerExpiry a s
  | .pcieLinkTrained a => Sys2Proof.Machine.execPcieLinkTrained a s
  | .requestBufferWrite a => Sys2Proof.Machine.execRequestBufferWrite a s

end Sys2Proof.Machine
end

