-- ==== Sys2Proof/Machine/Tick.lean ====
section
/-! DEFINITION. What happens when no command waits: one 10 ns period of the housekeeping clock passes (spec/20_register_reference.md, R533;
log entry 2). -/

namespace Sys2Proof.Machine

/-- The device timestamp runs: not before the t = 0 of a cold start (R454, R513), in device Stop, nor in a wake before its step at which the Bureau
leaves reset (R490, R533). -/
def Mach.stampRuns (m : Mach) : Bool :=
  !m.boot.perst && m.boot.pwrGood && decide (m.getF 0 Reg.AON_WAKE_STATUS_STATE ≠ 2) && !(decide (m.boot.start = some .wake) && decide (m.boot.wakeStep < 4))

/-- The clocks of stack s: SECONDS of the RTC, and 10 on the timestamp. -/
def Mach.tickStack (m : Mach) (s : Nat) : Mach :=
  let m1 := m.setF s Reg.AON_RTC_SECONDS (m.boot.rtc / 10 ^ 9 % 2 ^ 48)
  if m.stampRuns then m1.setF s Reg.AON_TIMESTAMP_NS ((m.now s + 10) % 2 ^ 64) else m1

/-- One period of 10 ns on a part of n stacks, while VDD_AON is applied. -/
def Mach.tick (m : Mach) (n : Nat) : Mach :=
  if !m.boot.aon then m
  else { m with boot := { m.boot with rtc := m.boot.rtc + 10 } }.onStacks n (fun m s => m.tickStack s)

/-- A period of 10 ns in which no command comes. -/
def idle (s : State) : State := { s with m := s.m.tick s.fuse.part.stackCount }

end Sys2Proof.Machine
end

