-- ==== Sys2Proof/Machine/Wire.lean ====
section
/-! DEFINITION. Flits as bytes on a link (spec/12_device_links.md, R341, Tables LK-4 and LK-5): the 14-byte header, the 256-byte payload, the CRC-32, and
the command that a received flit is. -/

namespace Sys2Proof.Machine

/-! ## The CRC (R341) -/

/-- One bit of the CRC-32 of IEEE 802.3: the polynomial 0x04C1_1DB7 with bits in the order in which that standard sends them, the lowest of a byte first
(PRESUMED, log entry 120). -/
def crcBit (c : BitVec 32) : BitVec 32 := if c.getLsbD 0 then (c >>> 1) ^^^ 0xEDB8_8320 else c >>> 1

/-- One byte of the CRC-32. -/
def crcByte (c : BitVec 32) (b : Byte) : BitVec 32 := (List.range 8).foldl (fun c _ => crcBit c) (c ^^^ b.setWidth 32)

/-- The CRC-32 of bytes: all-ones initial value, complemented result. -/
def crc32 (bs : List Byte) : BitVec 32 := ~~~ (bs.foldl crcByte 0xFFFF_FFFF)

/-! ## The header (Table LK-4) -/

/-- The 112 bits of the header of a flit with its SEQ, ACK and NAK. -/
def Flit.header (f : Flit) (seq ack : Nat) (nak : Bool) : Nat :=
  f.typ % 16 + seq % 4096 * 2 ^ 4 + ack % 4096 * 2 ^ 16 + f.len % 1024 * 2 ^ 28 + f.first.toNat * 2 ^ 38 + f.last.toNat * 2 ^ 39 +
    f.packed.toNat * 2 ^ 40 + nak.toNat * 2 ^ 41 + f.route % 2 ^ 14 * 2 ^ 42 + f.addr % 2 ^ 52 * 2 ^ 56

/-- A flit as it leaves: header, payload with zeros behind it, CRC. -/
def Flit.wire (f : Flit) (seq ack : Nat) (nak : Bool) : List Byte :=
  let b := leBytes 14 (f.header seq ack nak) ++ f.payload.take 256 ++ leBytes (256 - f.payload.length) 0
  b ++ leBytes 4 (crc32 b).toNat

/-- The header that 14 bytes hold. -/
def wireHead (bs : List Byte) : Nat := ofLeBytes (bs.take 14)

/-- The flit that received bytes hold. -/
def wireFlit (bs : List Byte) : Flit :=
  let h := wireHead bs
  { typ := bits h 0 4, first := bit h 38, last := bit h 39, packed := bit h 40, len := bits h 28 10, route := bits h 42 14, addr := bits h 56 52
    payload := (bs.drop 14).take 256 }

/-- The CRC of received bytes holds. -/
def wireOk (bs : List Byte) : Bool := decide (bs.length = 274) && decide ((crc32 (bs.take 270)).toNat = ofLeBytes (bs.drop 270))

/-- What a receiver reads of a flit that comes on link n of stack s. -/
def wireIn (s : StackNo) (n : Fin 24) (bs : List Byte) : FlitHead :=
  let h := wireHead bs
  { stack := s, link := n, seq := Fin.ofNat 4096 (bits h 4 12), ack := Fin.ofNat 4096 (bits h 16 12), nak := bit h 41, crcOk := wireOk bs }

/-! ## The command that a received flit is (Table LK-5) -/

/-- A CONTROL flit by its kind. -/
def wireControl (h : FlitHead) (p : List Byte) : Option Instr :=
  let a : ControlIn := { head := h, arg := BitVec.ofNat 64 (fieldAt p 8 8) }
  match fieldAt p 0 1 with
  | 1 => some (.planAnnounce a)
  | 2 => some (.pairHello a)
  | 3 => some (.controlDetach a)
  | 4 => some (.controlStop a)
  | 5 => some (.controlConflict a)
  | 6 => some (.controlRejoin a)
  | _ => none

/-- A HEARTBEAT: SDID, twin state, epoch and bytes of its log in the order in which the model sends them (log entry 30). -/
def wireBeat (h : FlitHead) (p : List Byte) : Instr :=
  .heartbeat { head := h, sdid := BitVec.ofNat 16 (fieldAt p 0 2), epoch := BitVec.ofNat 32 (fieldAt p 8 8), bytes := BitVec.ofNat 32 (fieldAt p 16 8),
               state := Fin.ofNat 8 (fieldAt p 2 1) }

/-- The command of the table that the 274 bytes of a flit are, on link n of stack s; a flit of a reserved type comes with IDLE. Table LK-5 names six kinds
of CONTROL flit; another is none of them. -/
def wireCommand (s : StackNo) (n : Fin 24) (bs : List Byte) : Option Instr :=
  let h := wireIn s n bs
  let f := wireFlit bs
  let a : FlitIn := { head := h, first := f.first, last := f.last, packed := f.packed, len := Fin.ofNat 513 (min f.len 512), route := Fin.ofNat 16384 f.route,
                      addr := BitVec.ofNat 52 f.addr, payload := f.payload }
  match f.typ with
  | 1 => some (.write a)
  | 2 => some (.writeAck a)
  | 3 => some (.readReq a)
  | 4 => some (.readRsp a)
  | 5 => some (.message a)
  | 6 => some (.poison a)
  | 7 => some (.journal a)
  | 8 => some (wireBeat h f.payload)
  | 9 => wireControl h f.payload
  | t => some (.idle { head := h, typ := Fin.ofNat 16 t })

end Sys2Proof.Machine
end

