-- ==== Sys2Proof/WellFormed.lean ====
section
/-! DEFINITION. Which commands are well formed on a part of n stacks: the stack that a command names is one of the part (R8), and operands that are
lists have the lengths and entries that their rules allow. A command that is not well formed still has its effect, but for one that names an absent
stack. -/

namespace Sys2Proof

/-- No entry of a list stands in it twice. -/
def distinct {α : Type} [DecidableEq α] (l : List α) : Bool := decide l.Nodup

/-- The data of a write is as long as the access. -/
def MemAcc.fits (a : MemAcc) : Bool :=
  match a.data with
  | some d => decide (d.length = a.len.val)
  | none => true

/-- A store comes from a stack of the part; an access fits. -/
def HomeReq.fits (n : Nat) : HomeReq → Bool
  | .store k _ _ => decide (k.val < n)
  | .access a => a.fits

/-- No byte and no coupler fails twice. -/
def TestResult.once : TestResult → Bool
  | .pass => true
  | .fails l => distinct l
  | .couplers l => distinct l

/-- The stack of an operand is one of the part. -/
abbrev inPart (n : Nat) (k : StackNo) : Bool := decide (k.val < n)

/-- Command i is well formed on a part of n stacks. -/
def Instr.wf (n : Nat) (i : Instr) : Bool :=
  match i with
  | .nop a => inPart n a.stack
  | .bra a => inPart n a.stack
  | .brx a => inPart n a.stack
  | .exit a => inPart n a.stack
  | .trap a => inPart n a.stack
  | .iadd a => inPart n a.stack
  | .isub a => inPart n a.stack
  | .imulLo a => inPart n a.stack
  | .imulHiU a => inPart n a.stack
  | .imulHiS a => inPart n a.stack
  | .imad a => inPart n a.stack
  | .idivU a => inPart n a.stack
  | .idivS a => inPart n a.stack
  | .iremU a => inPart n a.stack
  | .iremS a => inPart n a.stack
  | .iminS a => inPart n a.stack
  | .iminU a => inPart n a.stack
  | .imaxS a => inPart n a.stack
  | .imaxU a => inPart n a.stack
  | .and a => inPart n a.stack
  | .or a => inPart n a.stack
  | .xor a => inPart n a.stack
  | .not a => inPart n a.stack
  | .shl a => inPart n a.stack
  | .shrU a => inPart n a.stack
  | .shrS a => inPart n a.stack
  | .popc a => inPart n a.stack
  | .clz a => inPart n a.stack
  | .brev a => inPart n a.stack
  | .fadd a => inPart n a.stack
  | .fsub a => inPart n a.stack
  | .fmul a => inPart n a.stack
  | .ffma a => inPart n a.stack
  | .fmin a => inPart n a.stack
  | .fmax a => inPart n a.stack
  | .hadd2 a => inPart n a.stack
  | .hmul2 a => inPart n a.stack
  | .hfma2 a => inPart n a.stack
  | .hmin2 a => inPart n a.stack
  | .hmax2 a => inPart n a.stack
  | .ex2 a => inPart n a.stack
  | .lg2 a => inPart n a.stack
  | .rcp a => inPart n a.stack
  | .rsq a => inPart n a.stack
  | .sin a => inPart n a.stack
  | .cos a => inPart n a.stack
  | .f32S32 a => inPart n a.stack
  | .f32U32 a => inPart n a.stack
  | .s32F32 a => inPart n a.stack
  | .u32F32 a => inPart n a.stack
  | .bf16F32 a => inPart n a.stack
  | .f32Bf16 a => inPart n a.stack
  | .f16F32 a => inPart n a.stack
  | .f32F16 a => inPart n a.stack
  | .e4m3F32 a => inPart n a.stack
  | .e4m3Bf16 a => inPart n a.stack
  | .e4m3F16 a => inPart n a.stack
  | .e5m2F32 a => inPart n a.stack
  | .e5m2Bf16 a => inPart n a.stack
  | .f32E4m3 a => inPart n a.stack
  | .f32E5m2 a => inPart n a.stack
  | .bf16E4m3 a => inPart n a.stack
  | .bf16E5m2 a => inPart n a.stack
  | .mov a => inPart n a.stack
  | .sel a => inPart n a.stack
  | .pack2 a => inPart n a.stack
  | .pack4 a => inPart n a.stack
  | .s2r a => inPart n a.stack
  | .isetp a => inPart n a.stack
  | .fsetp a => inPart n a.stack
  | .plop a => inPart n a.stack
  | .elect a => inPart n a.stack
  | .voteAny a => inPart n a.stack
  | .voteAll a => inPart n a.stack
  | .ballot a => inPart n a.stack
  | .shfl a => inPart n a.stack
  | .ld a => inPart n a.stack
  | .st a => inPart n a.stack
  | .atomAdd a => inPart n a.stack
  | .atomMinS a => inPart n a.stack
  | .atomMinU a => inPart n a.stack
  | .atomMaxS a => inPart n a.stack
  | .atomMaxU a => inPart n a.stack
  | .atomAnd a => inPart n a.stack
  | .atomOr a => inPart n a.stack
  | .atomXor a => inPart n a.stack
  | .atomXch a => inPart n a.stack
  | .atomCas a => inPart n a.stack
  | .atomFadd a => inPart n a.stack
  | .atomOrd a => inPart n a.stack
  | .barSync a => inPart n a.stack
  | .waitGe a => inPart n a.stack
  | .waitEq a => inPart n a.stack
  | .signal a => inPart n a.stack
  | .signalFail a => inPart n a.stack
  | .clearFail a => inPart n a.stack
  | .fenceCore a => inPart n a.stack
  | .fenceStack a => inPart n a.stack
  | .fenceSystem a => inPart n a.stack
  | .cacheDead a => inPart n a.stack
  | .mxLoadw a => inPart n a.stack
  | .mxSwap a => inPart n a.stack
  | .mxStream a => inPart n a.stack
  | .mxDrain a => inPart n a.stack
  | .mxWait a => inPart n a.stack
  | .mxgLoadw a => inPart n a.stack
  | .mxgStream a => inPart n a.stack
  | .mxgDrain a => inPart n a.stack
  | .attBias a => inPart n a.stack
  | .attScore a => inPart n a.stack
  | .attNorm a => inPart n a.stack
  | .attPack a => inPart n a.stack
  | .attWait a => inPart n a.stack
  | .kvAppend a => inPart n a.stack
  | .kvGather a => inPart n a.stack
  | .kvFork a => inPart n a.stack
  | .kvFree a => inPart n a.stack
  | .kvTrunc a => inPart n a.stack
  | .kvHint a => inPart n a.stack
  | .kvWait a => inPart n a.stack
  | .scriptEntryStart a => inPart n a.stack
  | .blockDispatch a => inPart n a.stack
  | .scriptEntryEnd a => inPart n a.stack
  | .loopEnd a => inPart n a.stack
  | .commit a => inPart n a.stack
  | .tokenArrival a => inPart n a.stack
  | .creditArrival a => inPart n a.stack
  | .workUnitReplay a => inPart n a.stack
  | .coreAbort a => inPart n a.stack
  | .planComplete a => inPart n a.stack
  | .kernelFault a => inPart n a.stack
  | .syncSignalArrival a => inPart n a.stack && decide (a.signals ≠ []) && inPart n a.source
  | .syncStall a => inPart n a.stack
  | .nearCacheInvalidate a => inPart n a.stack
  | .reshardStart a => inPart n a.stack
  | .reshardDescriptorDone a => inPart n a.stack
  | .barrierStall a => inPart n a.stack
  | .handshakeWatchdog a => inPart n a.stack
  | .atomicAtHome a => inPart n a.stack
  | .accessAtHome a => a.fits n
  | .allocatingAccess a => a.fits
  | .streamingAccess a => a.fits
  | .lineFillDone a => inPart n a.stack
  | .writebackDone a => inPart n a.stack
  | .deadDeclaration a => inPart n a.stack
  | .thrashWindow a => inPart n a.stack
  | .partitionChangeDone a => inPart n a.stack
  | .shelfPinDone a => inPart n a.stack
  | .mxOpStart a => inPart n a.stack
  | .loadwDone a => inPart n a.stack
  | .rowRoot a => inPart n a.stack && distinct (a.flips.map (·.1))
  | .rowRecompute a => inPart n a.stack && distinct (a.flips.map (·.1))
  | .streamDone a => inPart n a.stack
  | .drainDone a => inPart n a.stack
  | .attOpStart a => inPart n a.stack
  | .attOpDone a => inPart n a.stack
  | .keyedOpArrival a => inPart n a.stack
  | .appendPerform a => inPart n a.stack
  | .forkPerform a => inPart n a.stack
  | .freePerform a => inPart n a.stack
  | .truncPerform a => inPart n a.stack
  | .hintPerform a => inPart n a.stack
  | .chestWriteDone a => inPart n a.stack
  | .gatherDone a => inPart n a.stack
  | .chunkReceive a => inPart n a.stack && decide (a.flips.length ≤ 256)
  | .writeChunkReceive a => inPart n a.stack && decide (a.bytes.length ≤ 256)
  | .handshakeTimeout a => inPart n a.stack
  | .skipperTestStart a => inPart n a.stack
  | .skipperTestEnd a => inPart n a.stack && a.result.once
  | .spareMapDone a => inPart n a.stack
  | .relocationDone a => inPart n a.stack
  | .portReset a => inPart n a.stack
  | .resyncDone a => inPart n a.stack
  | .resyncTimeout a => inPart n a.stack
  | .restoration a => inPart n a.stack
  | .hawkmothStep a => inPart n a.stack
  | .scrubRangeDone a => inPart n a.stack
  | .bureauWatchdogMiss a => inPart n a.stack
  | .bureauRestartDone a => inPart n a.stack
  | .linkTrainingDone a => inPart n a.stack && distinct a.failed
  | .peerSignalLoss a => inPart n a.stack
  | .signalDetectRetry a => inPart n a.stack
  | .retrainDone a => inPart n a.stack && distinct a.failed
  | .laneWindowEnd a => inPart n a.stack && decide (a.lanes.length ≤ 9)
  | .idle a => inPart n a.head.stack && (a.typ = 0 || decide (10 ≤ a.typ.val))
  | .write a => inPart n a.head.stack && decide (a.len.val ≤ a.payload.length)
  | .writeAck a => inPart n a.head.stack && decide (a.len.val ≤ a.payload.length)
  | .readReq a => inPart n a.head.stack && decide (a.len.val ≤ a.payload.length)
  | .readRsp a => inPart n a.head.stack && decide (a.len.val ≤ a.payload.length)
  | .message a => inPart n a.head.stack && decide (a.len.val ≤ a.payload.length)
  | .poison a => inPart n a.head.stack && decide (a.len.val ≤ a.payload.length)
  | .journal a => inPart n a.head.stack && decide (a.len.val ≤ a.payload.length)
  | .heartbeat a => inPart n a.head.stack
  | .planAnnounce a => inPart n a.head.stack
  | .pairHello a => inPart n a.head.stack
  | .controlDetach a => inPart n a.head.stack
  | .controlStop a => inPart n a.head.stack
  | .controlConflict a => inPart n a.head.stack
  | .controlRejoin a => inPart n a.head.stack
  | .heartbeatSend a => inPart n a.stack
  | .heartbeatLoss a => inPart n a.stack
  | .twinInstall a => inPart n a.stack
  | .twinInstalled a => inPart n a.stack
  | .patternTestDone a => inPart n a.stack && decide (a.lanes.length ≤ 9)
  | .marginScanDone a => inPart n a.stack
  | .bar4Read _ => true
  | .bar4Write a => decide (1 ≤ a.data.length) && decide (a.data.length ≤ 4096)
  | .flr => true
  | .msixUnmask _ => true
  | .movStart a => inPart n a.stack
  | .movStop a => inPart n a.stack
  | .moverCopy a => inPart n a.stack
  | .moverTranspose a => inPart n a.stack
  | .moverZero a => inPart n a.stack
  | .moverWaitMet a => inPart n a.stack
  | .moverCreditReady a => inPart n a.stack
  | .moverWritesDone a => inPart n a.stack
  | .refreshDue a => inPart n a.stack
  | .periodicRetrain a => inPart n a.stack
  | .intcSourceEdge a => inPart n a.stack
  | .intcClaim a => inPart n a.stack
  | .intcComplete a => inPart n a.stack
  | .crossingResync a => inPart n a.stack
  | .latencyMiss a => inPart n a.stack
  | .mbxDoorbell _ => true
  | .mbxEvtTail _ => true
  | .syncSignal _ => true
  | .syncStatus _ => true
  | .hostStackSel _ => true
  | .cdiePartCfg _ => true
  | .cabPoolCfg _ => true
  | .cabPoolBase _ => true
  | .cabLpCfg _ => true
  | .cabLpBase _ => true
  | .cabClassCfg _ => true
  | .lnkSdid _ => true
  | .lnkCtrlRetrain _ => true
  | .lnkCtrlTest _ => true
  | .lnkPatCfg _ => true
  | .lnkMarginStart _ => true
  | .ldoSet _ => true
  | .stopReq _ => true
  | .thmChCfg _ => true
  | .thmDiag _ => true
  | .regGpio _ => true
  | .aonRtcAlarm _ => true
  | .registerWrite _ => true
  | .readClear _ => true
  | .voutSettled a => inPart n a.stack
  | .avsTargetFall a => inPart n a.stack
  | .regionAverage a => inPart n a.stack
  | .coreWake a => inPart n a.stack
  | .wakeWaitEnd a => inPart n a.stack
  | .coreWakeDone a => inPart n a.stack
  | .pmbusAlert a => inPart n a.stack
  | .wakeEvent _ => true
  | .wakeStep a => decide (a.results.length ≤ 4) && decide (a.failed.length ≤ 4)
  | .adcSample a => inPart n a.stack
  | .diodeRatioCheck a => inPart n a.stack && distinct a.failed
  | .hardwareTrip a => inPart n a.stack
  | .rtcAlarmFire a => inPart n a.stack
  | .perstNAssert => true
  | .perstNDeassert => true
  | .pwrGoodFall => true
  | .stageStart a => decide (a.results.length ≤ 4)
  | .stageLate a => inPart n a.stack
  | .bootImageBlock a => inPart n a.stack
  | .stageMessage a => inPart n a.stack
  | .identify => true
  | .getState => true
  | .getCoreMap => true
  | .setSdid => true
  | .getTime => true
  | .licInstall => true
  | .licList => true
  | .licRemove => true
  | .planLoad => true
  | .planStart => true
  | .planAbort => true
  | .planStatus => true
  | .routeLoad => true
  | .seqCreate => true
  | .seqFork => true
  | .seqFree => true
  | .seqTrunc => true
  | .seqPriority => true
  | .seqRead => true
  | .kvPoolCfg => true
  | .shelfPin => true
  | .shelfUnpin => true
  | .partSet => true
  | .scrubRange => true
  | .twinPair => true
  | .twinUnpair => true
  | .twinDetach => true
  | .twinRejoin => true
  | .twinTakeover => true
  | .twinJournalRead => true
  | .powerStateDevice => true
  | .powerStateCores => true
  | .rtcAlarm => true
  | .thermalLimits => true
  | .thermalRead => true
  | .linkTest => true
  | .linkMargin => true
  | .logRead => true
  | .eventBind => true
  | .syncBind => true
  | .resourceQuery => true
  | .fwWrite => true
  | .fwActivate => true
  | .pairTimeout => true
  | .flashWriteDone => true
  | .bureauBridgeMessage a => inPart n a.stack
  | .pwrGoodRise => true
  | .vddAonLoss => true
  | .vddAonApply => true
  | .i3cPrivateWrite a => inPart n a.stack
  | .boundaryScanInstruction a => inPart n a.stack
  | .bureauTimerExpiry a => inPart n a.stack
  | .pcieLinkTrained _ => true
  | .requestBufferWrite a => decide (1 ≤ a.data.length) && decide (a.offset.val + a.data.length ≤ 4096)

end Sys2Proof
end

