-- ==== Sys2Proof/Safety.lean ====
section
/-! DEFINITION. What statements are stated in: when a kernel instruction issues and nothing stops it, what an instruction that writes registers
leaves, what a command changes of the machine beside its registers and its reports, and the canonical form of every memory of the part. -/

namespace Sys2Proof.Machine

/-! ## Kernel instructions -/

/-- Group k.g of the command's slot may issue, the word that it stands at is that of the operation `op` of class `cls`, and nothing stops it: its
text is in range and clean (R123), its encoding is legal (R124), its registers are allotted and aligned (R125), no drain is still to write one of
them (R176), none that it reads is poisoned (R312), a dual group's copies agree (R119), and no test runs of the rows of its text, of its core or of its
lane pair (R320). -/
abbrev Issues (a : KInstr) (s : State) (cls op : Nat) (k : KCtx) (ord : Option Bool := none) : Prop :=
  a.stack.val < s.fuse.part.stackCount ∧ a.disagree = none ∧
  s.m.canIssue a.stack a.core a.slot = some k.g ∧ k = s.m.ctx a.stack a.core a.slot k.g ∧
  k.g.pc % 8 = 0 ∧ s.m.inText a.stack a.core k.g.pc = true ∧ PByte.joined (s.m.textAt a.stack a.core k.g.pc) = 0 ∧
  s.m.issueTested a.stack a.core a.slot k.g.pc = false ∧
  isInstr k.w cls op ord = true ∧ reservedOp k.w = false ∧
  (Iw.ext k.w = true → s.m.inText a.stack a.core (k.g.pc + 8) = true ∧ PByte.joined (s.m.textAt a.stack a.core (k.g.pc + 8)) = 0 ∧
    s.m.rowTesting (localAddr a.stack (s.m.homeOfIndex a.stack a.core) 0 + (k.g.pc + 8)) = false) ∧
  (encOf k.w k.x).ok = true ∧
  regRange (s.m.core a.stack a.core).launch.regs ((encOf k.w k.x).srcs ++ (encOf k.w k.x).dsts) = false ∧
  regAlign ((encOf k.w k.x).srcs ++ (encOf k.w k.x).dsts) = false ∧
  k.fragHeld s.m (encOf k.w k.x) = false ∧ k.poisonIn s.m (encOf k.w k.x) = []

/-- The machine without its cores, the registers of region 0x8 and the count of free values taken. -/
def Mach.noCores (m : Mach) : Mach := { m with stackSet := m.stackSet.map (fun k => { k with csr := [], cores := [] }), freeIx := 0 }

/-- Everything but the cores and the registers of region 0x8 is as before. -/
abbrev SameOutside (s t : State) : Prop := t.fuse = s.fuse ∧ t.pending = s.pending ∧ t.m.noCores = s.m.noCores

/-- Every field of every register of region 0x8 reads as before. -/
abbrev SameRegs (s t : State) : Prop := ∀ (u : Nat) (f : Fld) (j : Nat), t.m.getF u f j = s.m.getF u f j

/-- Every core but the one of index L on stack u is as before. -/
abbrev SameCores (s t : State) (u L : Nat) : Prop := ∀ v M : Nat, v ≠ u ∨ M ≠ L → t.m.core v M = s.m.core v M

/-- The core of k is as before but for its groups, its registers and its step counter. -/
abbrev SameCoreBut (k : KCtx) (s t : State) : Prop :=
  ∃ n r g, t.m.core k.s k.L = { s.m.core k.s k.L with steps := n, regs := r, groups := g } ∧ (s.m.core k.s k.L).steps < n

/-- Register r of a lane of the group's slot is one of the n from the destination of an acting lane; a write to v255 is discarded. -/
def KCtx.isDst (k : KCtx) (n lane r : Nat) : Bool := k.lanes.contains lane && decide (Iw.dst k.w ≤ r) && decide (r < Iw.dst k.w + n) && decide (r ≠ 255)

/-- What the group of `slot` writes to its registers `other` holds too: the slot itself, and in a dual launch the second slot of its pair (R118). -/
def Core.copies (c : Core) (slot other : Nat) : Bool := decide (other = slot) || (c.launch.dual && decide (other = slot + 1))

/-- The instruction k has written f of each acting lane to the n registers from DST, low word first, and the group goes on; nothing else has
changed but the step counter. -/
def Wrote (k : KCtx) (s t : State) (n : Nat) (f : Nat → Nat) : Prop :=
  SameOutside s t ∧ SameRegs s t ∧ SameCores s t k.s k.L ∧ SameCoreBut k s t ∧
  (∀ slot lane r : Nat, lane < 32 → r < 256 → (t.m.core k.s k.L).reg slot lane r =
    if (s.m.core k.s k.L).copies k.slot slot = true ∧ k.isDst n lane r = true then { val := BitVec.ofNat 32 (f lane / 2 ^ (32 * (r - Iw.dst k.w))) }
    else (s.m.core k.s k.L).reg slot lane r) ∧
  (∀ slot : Nat, SMap.find (t.m.core k.s k.L).groups slot =
    if slot = k.slot then some (k.g.goto (k.g.pc + k.size)) else SMap.find (s.m.core k.s k.L).groups slot)

/-- The instruction k has changed its group alone, and nothing else but the step counter. -/
def Moved (k : KCtx) (s t : State) (g : Group) : Prop :=
  SameOutside s t ∧ SameRegs s t ∧ SameCores s t k.s k.L ∧ SameCoreBut k s t ∧
  (t.m.core k.s k.L).regs = (s.m.core k.s k.L).regs ∧
  (∀ slot : Nat, SMap.find (t.m.core k.s k.L).groups slot =
    if slot = k.slot then some g else SMap.find (s.m.core k.s k.L).groups slot)

/-- The instruction k has written f of each acting lane to the predicate in DST bits [16:14], p7 alone discarding it, and the group goes on; nothing
else has changed but the step counter. -/
def WroteP (k : KCtx) (s t : State) (f : Nat → Bool) : Prop :=
  ∃ p : SMap Nat, Moved k s t { (k.g.goto (k.g.pc + k.size)) with preds := p } ∧
    ∀ i lane : Nat, i < 7 → lane < 32 → bit (SMap.getD p i 0) lane =
      if i = Iw.pd k.w ∧ bit k.mask lane = true then f lane else bit (SMap.getD k.g.preds i 0) lane

/-- Command c answers a next state of which P holds. -/
abbrev Lands (c : Instr) (s : State) (P : State → Prop) : Prop := ∃ t, exec c s = .next t ∧ P t

/-- Instruction c of k answers a next state in which it has written f of each acting lane to n registers from DST, and nothing else. -/
abbrev Writes (c : Instr) (s : State) (k : KCtx) (n : Nat) (f : Nat → Nat) : Prop := Lands c s (fun t => Wrote k s t n f)

/-- Instruction c of k answers a next state in which it has written f of each acting lane to its destination predicate, and nothing else. -/
abbrev WritesP (c : Instr) (s : State) (k : KCtx) (f : Nat → Bool) : Prop := Lands c s (fun t => WroteP k s t f)

/-- Instruction c of k answers a next state in which its group is g, and nothing else has changed. -/
abbrev Moves (c : Instr) (s : State) (k : KCtx) (g : Group) : Prop := Lands c s (fun t => Moved k s t g)

/-- A field named with its value: stack, field, instance, value. -/
abbrev FieldVal := Nat × Fld × Nat × Nat

/-- The fields listed have the values listed, cut to their widths. -/
abbrev Holds (t : State) (fs : List FieldVal) : Prop := ∀ e ∈ fs, t.m.getF e.1 e.2.1 e.2.2.1 = e.2.2.2 % 2 ^ e.2.1.width

/-- Field f, instance j, of stack v is none of those listed. -/
abbrev NotListed (fs : List FieldVal) (v : Nat) (f : Fld) (j : Nat) : Prop := ∀ e ∈ fs, ¬(e.1 = v ∧ e.2.1.key e.2.2.1 = f.key j)

/-- The core of k is now d but for its step counter, the fields listed hold, and nothing else has changed. -/
def Becomes (k : KCtx) (s t : State) (d : Core) (fs : List FieldVal := []) : Prop :=
  SameOutside s t ∧ SameCores s t k.s k.L ∧ (∃ n, t.m.core k.s k.L = { d with steps := n }) ∧ Holds t fs ∧
  ∀ v f j, NotListed fs v f j → t.m.getF v f j = s.m.getF v f j

/-- The group of k changed by f, in its core c. -/
def KCtx.groupOf (k : KCtx) (c : Core) (f : Group → Group) : Core :=
  match SMap.find c.groups k.slot with
  | some g => { c with groups := SMap.put c.groups k.slot (f g) }
  | none => c

/-- The group of k goes on, in its core c. -/
def KCtx.goesOn (k : KCtx) (c : Core) : Core := k.groupOf c (fun g => g.goto (g.pc + k.size))

/-- The machine once the earlier stores of the group of k have been performed in order (R108, R147); the flag says that none is held. -/
def KCtx.drained (k : KCtx) (m : Mach) : Mach × Bool := m.drain ((m.core k.s k.L).stores.length + 1) k.s k.L k.slot

/-- The descriptors of the acting lanes of k, read after its earlier stores, on a part of n stacks; and the machine after the reads. -/
def KCtx.descs (k : KCtx) (m : Mach) (n : Nat) : Mach × List DescRead := k.readDescs (k.drained m).1 n k.lanes

/-- The bytes of the descriptors read. -/
def KCtx.descBytes (k : KCtx) (m : Mach) (n : Nat) : List (List Byte) := (k.descs m n).2.map (fun d => PByte.vals d.bytes)

/-- A solo form passes (R145, R147): the group's earlier stores are all performed, no descriptor is held, neither the descriptors nor what `more` names
of them carries poison, and every check passes; a part of n stacks. -/
abbrev SoloReady {σ : Type} (k : KCtx) (m : Mach) (n : Nat) (st : σ) (chk : Mach → σ → List Byte → Option σ)
    (more : Mach → List Byte → List (Nat × Nat)) : Prop :=
  (k.drained m).2 = true ∧ k.descsHeld (k.drained m).1 k.lanes = false ∧
  descPoison (k.descs m n).2 ++ (k.descs m n).2.flatMap (fun d => more (k.descs m n).1 (PByte.vals d.bytes)) = [] ∧
  firstFault (((k.descs m n).2.filter (fun d => !d.ok)).map (fun d => (0x0A, d.lane, d.addr)) ++ descFault (chk (k.descs m n).1) st (k.descs m n).2) = none

/-- Nothing beyond a descriptor is read. -/
def noMore (_ : Mach) (_ : List Byte) : List (Nat × Nat) := []

/-- CORE_LAUNCH of core p of stack u, as launch and groups of core c give it. -/
def launchFields (u p : Nat) (c : Core) : List FieldVal :=
  [(u, Reg.CORE_LAUNCH_BLOCK_NEXT, p, c.launch.next), (u, Reg.CORE_LAUNCH_BLOCKS_RESIDENT, p, c.launch.slots.length),
   (u, Reg.CORE_LAUNCH_GROUPS_RESIDENT, p, c.groups.length), (u, Reg.CORE_LAUNCH_K, p, c.launch.k),
   (u, Reg.CORE_LAUNCH_ACTIVE, p, c.launch.active.toNat), (u, Reg.CORE_LAUNCH_DUAL, p, c.launch.dual.toNat)]

/-- The fault registers of core p of stack u, for the fault of k with a cause at a lane and a code (R147, R148). -/
def KCtx.faultFields (k : KCtx) (m : Mach) (p cause lane code : Nat) : List FieldVal :=
  [(k.s, Reg.CORE_FAULT_INFO_CAUSE, p, cause), (k.s, Reg.CORE_FAULT_INFO_GROUP_SLOT, p, k.slot), (k.s, Reg.CORE_FAULT_INFO_BLOCK, p, k.g.block),
   (k.s, Reg.CORE_FAULT_INFO_LANE, p, lane), (k.s, Reg.CORE_FAULT_INFO_VALID, p, 1), (k.s, Reg.CORE_FAULT_INFO_CODE, p, code),
   (k.s, Reg.CORE_FAULT_PC_PC, p, k.g.pc), (k.s, Reg.CORE_FAULT_PC_SCRIPT_INDEX, p, (m.core k.s k.L).script), (k.s, Reg.CORE_FAULT_ADDR_ADDR, p, 0),
   (k.s, Reg.CORE_FAULT_WORD_WORD, p, k.w)]

/-- The byte at a as a load of k receives it: that of the home, of another core's SCRATCH the committed one, the group's own stores over it (R107). -/
def KCtx.sees (k : KCtx) (m : Mach) (a : Nat) : PByte := m.overlay k.s k.L k.slot a (m.committedByte k.s k.L a (m.homeByte a))

/-- What a load of `size` bytes at a gives its lane: the bytes, least significant first, a narrow one extended by its sign when bit 45 asks so. -/
def KCtx.loaded (k : KCtx) (m : Mach) (size a : Nat) : Nat :=
  let v := PByte.num ((List.range size).map (fun i => k.sees m (a + i)))
  if size < 4 ∧ bit k.w 45 = true then ofSigned 32 (toSigned (8 * size) v) else v

/-- An operation put last in the array's queue, with the tags that the banks will then hold (R166, R172). -/
def MxSt.queued (x : MxSt) (kind : MxKind) (d : MxDesc) (frag : Option (List (List Byte)) := none) (out : Option (Nat × Nat × Nat) := none) : MxSt :=
  { x with
    queue := x.queue ++ [{ id := x.nextId, kind := kind, desc := d, frag := frag, out := out }]
    nextId := x.nextId + 1
    trackA := if kind = .swap then x.trackS else x.trackA
    trackS := if kind = .swap then x.trackA else if kind = .loadw then d.fmt else x.trackS }

/-- CORE_MX_STATUS of core p of stack u, as the array x gives it. -/
def mxFields (u p : Nat) (x : MxSt) : List FieldVal :=
  let has (k : MxKind) : Nat := (x.run.any (fun r => r.op.kind = k)).toNat
  [(u, Reg.CORE_MX_STATUS_ACTIVE_FMT, p, x.active.fmt), (u, Reg.CORE_MX_STATUS_SHADOW_FMT, p, x.shadow.fmt), (u, Reg.CORE_MX_STATUS_LOADING, p, has .loadw),
   (u, Reg.CORE_MX_STATUS_STREAMING, p, has .stream), (u, Reg.CORE_MX_STATUS_DRAINING, p, has .drain),
   (u, Reg.CORE_MX_STATUS_RECHECK, p, (x.run.any (fun r => r.hold.isSome)).toNat), (u, Reg.CORE_MX_STATUS_QUEUED, p, min 16 x.queue.length)]

/-- After a form that issued n operations the core has array x, CORE_MX_STATUS follows it, and the group goes on; it waits at issue for the last of
them where more than 16 are queued (R145, R167). Nothing else of machine m has changed. -/
def MxIssued (k : KCtx) (s : State) (m : Mach) (t : State) (n : Nat) (x : MxSt) : Prop :=
  let c := { m.core k.s k.L with mx := x }
  Becomes k { s with m := m } t
    (if x.queue.length ≤ 16 then k.goesOn c else k.groupOf c (fun g => { g with wait := .mxLanes (x.nextId - 1) }))
    (if n = 0 then [] else mxFields k.s (m.physOf k.s k.L) x)

/-- An operation put last in the queue of the softmax and bias unit, with what the core tracks after it; one that its check refuses is not (R206). -/
def AttSt.queued (x : AttSt) (chk : AttTrack → List Byte → Option AttTrack) (rows : List Byte → List PackRow) (b : List Byte) : AttSt :=
  match chk (x.trackBias, x.trackPack) b with
  | some t => { x with
      queue := x.queue ++ [{ id := x.nextId, desc := b, list := rows b }], nextId := x.nextId + 1, trackBias := t.1, trackPack := t.2 }
  | none => x

/-- The list of an ATT.PACK descriptor as machine m holds it; other descriptors have none (R219). -/
def KCtx.packRows (k : KCtx) (m : Mach) (b : List Byte) : List PackRow :=
  if fieldAt b 0 1 = 0x14 then Sys2Proof.Machine.packRows (PackD.of b).count (PByte.vals (m.packList k.s k.L (PackD.of b))) else []

/-- CORE_ATT_STATUS of core p of stack u, as the unit x gives it. -/
def attFields (u p : Nat) (x : AttSt) : List FieldVal :=
  [(u, Reg.CORE_ATT_STATUS_BIAS_LOADED, p, ofBits (x.bias.map (·.1))), (u, Reg.CORE_ATT_STATUS_PACK_VALID, p, x.pack.isSome.toNat),
   (u, Reg.CORE_ATT_STATUS_PACK_COUNT, p, (x.pack.getD []).length), (u, Reg.CORE_ATT_STATUS_BUSY, p, x.run.isSome.toNat),
   (u, Reg.CORE_ATT_STATUS_QUEUED, p, min 8 x.queue.length)]

/-- The same of the softmax and bias unit, whose queue holds 8 (R145, R222). -/
def AttIssued (k : KCtx) (s : State) (m : Mach) (t : State) (n : Nat) (x : AttSt) : Prop :=
  let c := { m.core k.s k.L with att := x }
  Becomes k { s with m := m } t
    (if x.queue.length ≤ 8 then k.goesOn c else k.groupOf c (fun g => { g with wait := .attLanes (x.nextId - 1) }))
    (if n = 0 then [] else attFields k.s (m.physOf k.s k.L) x)

/-- A gather put on its way (R248), with the unit's own last append to its sequence and stream (R249). -/
def KvSt.asked (x : KvSt) (c : Core) (b : List Byte) : KvSt :=
  { gathers := x.gathers ++ [⟨x.nextId, b, c.ownAppend (fieldAt b 4 2) (fieldAt b 6 2)⟩], nextId := x.nextId + 1 }

/-- The group of k goes on from where it stood on machine m. -/
abbrev GoesOn (k : KCtx) (m t : Mach) : Prop :=
  SMap.find (t.core k.s k.L).groups k.slot = (SMap.find (m.core k.s k.L).groups k.slot).map (fun g => g.goto (g.pc + k.size))

/-- Every part of the machine but the stacks is that of m. -/
abbrev SameMemory (m t : Mach) : Prop :=
  t.mem = m.mem ∧ t.tier = m.tier ∧ t.hostMem = m.hostMem ∧ t.host = m.host ∧ t.boot = m.boot

/-- Memory p has its canonical form in each of the part's memories. -/
def Mach.canonical (m : Mach) : Bool := m.mem.wf && m.tier.wf && m.hostMem.wf && m.host.bar2.wf && m.host.flash.wf

/-! ## What a command leaves -/

/-- The machine without the registers of region 0x8. -/
def Mach.noRegs (m : Mach) : Mach := { m with stackSet := m.stackSet.map (fun k => { k with csr := [] }) }

/-- The machine without the registers of region 0x8, and without what a report changes: the logs and latches
of each Bureau, the event ring with
its queue, MSI-X, the free values taken. -/
def Mach.bare (m : Mach) : Mach :=
  { m with
    stackSet := m.stackSet.map (fun k => { k with csr := [], bureau := { k.bureau with changeLog := [], errLog := [], latches := [] } })
    host := { m.host with bar2 := {}, evQueue := [], evLost := 0, evSerial := 0, msixPend := [], msixSent := [] }
    freeIx := 0 }

/-- The place of a register that a report changes: the interrupt controller (region 0x8 offsets 0x4D0_0000 on), MBX_EVT_HEAD and MBX_EVT_STATUS,
LOG_NEXT and LOG_LOST. -/
def reportPlace (p : Nat) : Bool :=
  let o := p / 64
  (decide (0x4D0_0000 ≤ o) && decide (o < 0x4E0_0000)) || o == 0x521_1000 || o == 0x521_1010 || (decide (0x550_0000 ≤ o) && decide (o < 0x550_0020))

/-- A counter one higher than in s, saturating at its largest value. -/
abbrev up (s : State) (u : Nat) (f : Fld) (i : Nat := 0) : FieldVal := (u, f, i, satAdd f.width (s.m.getF u f i) 1)

/-- The command has given the fields listed the values listed, and changed the rest of the machine by g; nothing else has changed. -/
def Sets (s t : State) (fs : List FieldVal) (g : Mach → Mach := id) : Prop :=
  t.fuse = s.fuse ∧ t.pending = s.pending ∧ t.m.noRegs = g s.m.noRegs ∧ Holds t fs ∧
  ∀ v f j, NotListed fs v f j → t.m.getF v f j = s.m.getF v f j

/-- The same of a command that reports: it may also enter logs, raise interrupt sources, and give events and messages to the host. The buffers of
the mailboxes below the event ring are unchanged. -/
def Ends (s t : State) (fs : List FieldVal) (g : Mach → Mach := id) : Prop :=
  t.fuse = s.fuse ∧ t.pending = s.pending ∧ t.m.bare = g s.m.bare ∧ Holds t fs ∧
  (∀ a, a < 0x8_0000 → t.m.host.bar2.byte a = s.m.host.bar2.byte a) ∧
  ∀ v f j, reportPlace (f.key j) = false → NotListed fs v f j → t.m.getF v f j = s.m.getF v f j

/-- The command has changed the machine by g beside its registers, and no register but those listed, of the values listed, and those of the core
that executes index L of stack u (region 0x8 offsets of its position). -/
def Works (s t : State) (u L : Nat) (fs : List FieldVal) (g : Mach → Mach) : Prop :=
  t.fuse = s.fuse ∧ t.pending = s.pending ∧ t.m.noRegs = g s.m.noRegs ∧ Holds t fs ∧
  ∀ v f j, ¬(v = u ∧ f.key j / 64 / 0x1_0000 = s.m.physOf u L % 864) → NotListed fs v f j → t.m.getF v f j = s.m.getF v f j

/-- What every step at a core leaves: the other cores, what is fused, the commands that wait, and every memory. -/
abbrev SameBut (s t : State) (u L : Nat) : Prop :=
  t.fuse = s.fuse ∧ t.pending = s.pending ∧ SameCores s t u L ∧ t.m.mem = s.m.mem ∧ t.m.tier = s.m.tier ∧ t.m.hostMem = s.m.hostMem

/-- The command ends so, and then the deferred mailbox command of opcode op that p picks, if one waits, completes with status st (R416). -/
def EndsCompleting (s t : State) (fs : List FieldVal) (g : Mach → Mach) (op : Nat) (p : MbxReq → Bool) (st : Nat) (payload : List Byte := []) : Prop :=
  ∃ m, Ends s { s with m := m } fs g ∧ t = { s with m := m.completeDeferred op p st payload }

/-- The newest entry of the error log of stack u is that of an event with this code and these arguments (R424, R428). -/
def Told (t : State) (u code : Nat) (args : List Nat) : Prop :=
  ∃ e r, (t.m.stk u).bureau.errLog = e :: r ∧ e.detail = code :: args ∧ e.stack = u

/-- Bytes a to a + n - 1 lie in local or accumulator memory, and a read of them raises no detection. -/
abbrev Mach.Quiet (m : Mach) (a n : Nat) : Prop :=
  (daRegion a = 1 ∨ daRegion a = 2) ∧ a + n ≤ 2 ^ 52 ∧ ∀ i, i < n → daRegion (a + i) = daRegion a ∧ m.mem.detects (a + i) = false

/-- The same bytes, none of them poisoned either. -/
abbrev Mach.Clean (m : Mach) (a n : Nat) : Prop := m.Quiet a n ∧ ∀ i, i < n → m.mem.kindAt (a + i) = 0

/-- The n bytes from a of SRAM. -/
def Mach.bytesAt (m : Mach) (a n : Nat) : List Byte := (List.range n).map (fun i => m.mem.byte (a + i))

/-- Of the groups of core c, those whose wait p picks go on after the instruction that waits; the others are as they were. -/
abbrev Freed (c d : Core) (p : GWait → Bool) : Prop :=
  ∀ slot, SMap.find d.groups slot = (SMap.find c.groups slot).map (fun g => if p g.wait then ({ g with wait := .none }).goto (g.pc + 8) else g)

/-- The command changes core L of stack u to d and its memory to that of t, beside registers of the executing core. -/
abbrev CoreWorks (s t : State) (u L : Nat) (fs : List FieldVal) (d : Core) : Prop :=
  Works s t u L fs (fun m => { m.updCore u L (fun _ => d) with mem := t.m.mem })

/-- CAB_STATUS and the queue count of Cabinet c, as its pages, map blocks and queue give them (R231, R233). -/
def cabFields (m : Mach) (u c : Nat) : List FieldVal :=
  let k := m.cab u c
  [(u, Reg.CAB_STATUS_FREE_FRAMES, c, (m.frames u c - 16) - (k.usedFrames.filter (· < m.frames u c - 16)).length),
   (u, Reg.CAB_STATUS_SPARES, c, if m.frames u c = 0 then 0 else 16 - (k.usedFrames.filter (m.frames u c - 16 ≤ ·)).length),
   (u, Reg.CAB_STATUS_CHEST_FREE, c, m.chestSlots u c - k.usedSlots.length),
   (u, Reg.CAB_STATUS_MAP_FREE, c, m.mapBlocks u c - k.blocks.length),
   (u, Reg.CAB_ORDER_QUEUED, c, k.queue.length)]

/-- CORES_RUN and CORES_STOP of stack u, as the states of its cores give them. -/
def powerFields (m : Mach) (u : Nat) : List FieldVal :=
  let n (v : Nat) : Nat := ((List.range 864).filter (fun p => m.getF u Reg.CORE_POWER_STATE p = v)).length
  [(u, Reg.PWR_STATUS_CORES_RUN, 0, n 2), (u, Reg.PWR_STATUS_CORES_STOP, 0, n 0)]

/-- The boot registers that a start clears on each of n stacks whose Bureau is not held (R454, R463). -/
def startFields (m : Mach) (n : Nat) (warm : Bool) : List FieldVal :=
  ((List.range n).filter (fun v => !m.getB v Reg.BUR_STATUS_HALTED)).flatMap (fun v =>
    [(v, Reg.BUR_BOOT_STATUS_STAGE, 0, 0), (v, Reg.BUR_BOOT_STATUS_WARM, 0, warm.toNat), (v, Reg.BUR_BOOT_STATUS_FELL_BACK, 0, 0),
     (v, Reg.BUR_BOOT_STATUS_LATE, 0, 0), (v, Reg.BUR_BOOT_STATUS_TOTAL_MS, 0, 0)] ++
    (List.range 6).flatMap (fun i => [(v, Reg.BUR_BOOT_TIME_DURATION_US, i, 0), (v, Reg.BUR_BOOT_TIME_START_US, i, 0)]))

/-- What AON_WAKE_STATUS holds once a wake from source n has begun (R487, R488). -/
def wakeFields (s : State) (n : Nat) (atEntry : Bool) : List FieldVal :=
  [(0, Reg.AON_WAKE_STATUS_STATE, 0, 3), (0, Reg.AON_WAKE_STATUS_LAST_SOURCE, 0, n), (0, Reg.AON_WAKE_STATUS_EDGE_AT_ENTRY, 0, atEntry.toNat),
   up s 0 Reg.AON_WAKE_STATUS_WAKES]

/-- The start that a wake begins: step 0, on the stacks whose Bureau is not held. -/
def wakeBoot (s : State) : BootSt :=
  { s.m.boot with
    start := some .wake, stageUs := 0, reports := [], wakeStep := 0, remake := [], blocks := []
    left := (List.range s.fuse.part.stackCount).filter (fun v => s.m.getB v Reg.BUR_STATUS_HALTED) }

/-- The Bureau serves request r of opcode op: it is at the front and passes its checks, and no Bureau that it needs runs from ROM (R409, R415, R416). -/
abbrev AtFront (s : State) (op : Nat) (r : MbxReq) : Prop :=
  s.m.serves = true ∧ s.m.frontReq s.fuse.part.stackCount op = some r ∧ s.m.romMode 0 = false ∧
  ∀ k ∈ r.stackSet s.fuse.part.stackCount, s.m.romMode k = false

/-- The same, and every stack that it addresses is ready (R421). -/
abbrev Served (s : State) (op : Nat) (r : MbxReq) : Prop :=
  AtFront s op r ∧ ∀ k ∈ r.stackSet s.fuse.part.stackCount, s.m.notReady k = false ∧ s.m.bureauClockStopped k = false

/-- The command's own effect m comes first; then its request completes with status st, and leaves the front (R413, R416). -/
abbrev Completed (s t : State) (r : MbxReq) (st : Nat) (payload : List Byte) (m : Mach) : Prop :=
  t = { s with m := (m.complete r st payload).popReq s.fuse.part.stackCount }

/-- The request completes with status st once the fields listed are set and the machine is changed by g; it may also report (R413). -/
def Completes (s t : State) (r : MbxReq) (st : Nat) (payload : List Byte := []) (fs : List FieldVal := []) (g : Mach → Mach := id) : Prop :=
  ∃ m, Ends s { s with m := m } fs g ∧ Completed s t r st payload m

/-- The request is deferred: it stays BUSY and leaves the front, with such an effect (R416). -/
def Defers (s t : State) (r : MbxReq) (fs : List FieldVal := []) (g : Mach → Mach := id) : Prop :=
  ∃ m, Ends s { s with m := m } fs (fun m => (g m).defer r) ∧ t = { s with m := m.popReq s.fuse.part.stackCount }

/-- BAR0 answers at offset o of the stack that HOST_STACK_SEL selects, no request received before waits, and the write reaches that stack (R379, R464,
R489, R525). -/
abbrev Answers (s : State) (o : Nat) : Prop :=
  s.m.bar0Open o = true ∧ s.m.host.bar0 = [] ∧ s.m.cutOff s.fuse.part (s.m.bar0Stack o) = false ∧ mbxElsewhere (s.m.bar0Stack o) o = false

/-- The newest entry of the change log of stack u is that of a host write to offset o (R427); REFUSED is 1 in it when r holds. -/
def Logged (t : State) (u o : Nat) (r : Bool) : Prop :=
  ∃ e l, (t.m.stk u).bureau.changeLog = e :: l ∧ e.source = 1 ∧ e.addr = o ∧ e.flags = r.toNat

/-- The fields of the five configuration registers of Cabinet c, as configuration p sets them. -/
def poolFields (u c : Nat) (p : PoolSet) : List FieldVal :=
  [(u, Reg.CAB_POOL_CFG_FRAMES, c, p.frames), (u, Reg.CAB_POOL_CFG_MAP_BLOCKS, c, p.blocks), (u, Reg.CAB_POOL_CFG_INTAKE, c, p.intake),
   (u, Reg.CAB_POOL_BASE_BASE, c, p.base), (u, Reg.CAB_LP_CFG_CHEST_SLOTS, c, p.slots), (u, Reg.CAB_LP_CFG_CHEST_EN, c, p.chest.toNat),
   (u, Reg.CAB_LP_BASE_BASE, c, p.lpBase), (u, Reg.CAB_CLASS_CFG_SPILL, c, p.spill), (u, Reg.CAB_CLASS_CFG_DROP, c, p.drop)]

/-- An edge of interrupt source x has reached the controller of stack u of machine m (R434): pending, and counted as merged where it was pending
before; or, while the clock of the Bureau is stopped, a latch holds it (R438). -/
def Raised (s t : State) (u x : Nat) : Prop :=
  if s.m.bureauClockStopped u then x ∈ (t.m.stk u).bureau.latches
  else t.m.getF u Reg.INTC_SRC_CFG_PENDING x = 1 ∧
    (s.m.getB u Reg.INTC_SRC_CFG_PENDING x = true → t.m.getF u Reg.INTC_SRC_CFG_MERGES x = min (2 ^ Reg.INTC_SRC_CFG_MERGES.width - 1)
      (s.m.getF u Reg.INTC_SRC_CFG_MERGES x + 1))

end Sys2Proof.Machine
end

