-- ==== Sys2Proof/Certificates/Slice0/Obligations.lean ====
section
/-! DEFINITION. The statements for the provers. Each docstring names the rules of the spec that it rests on. -/

open Sys2Proof Sys2Proof.Machine

/-- Integer sums and products wrap, in each acting lane, and change nothing else (R129, R126, R125, spec/04_kernel_form.md, Table KF-3). When an IADD,
ISUB, IMUL.LO, IMUL.HI.U, IMUL.HI.S or IMAD issues and nothing stops it, exec answers a next state in which each acting lane's destination (a pair
where MOD bit 42 of IADD, ISUB, IMUL.LO selects 64 bits) holds the sum, difference, low half, high half of the unsigned or signed product, or low half
of a × b + c, modulo 2^32 or 2^64; every other register of every lane and slot, every other group and core, every register of region 0x8 and all of
memory are as before, and the group goes on after the instruction. -/
def Obligations.IntegerSumsAndProducts : Prop :=
  ∀ (a : KInstr) (s : State) (k : KCtx),
    (Issues a s 1 0x00 k → Writes (.iadd a) s k k.n (fun l => (k.a s.m l k.n + k.b s.m l k.n) % 2 ^ (32 * k.n))) ∧
    (Issues a s 1 0x01 k → Writes (.isub a) s k k.n (fun l => ofSigned (32 * k.n) ((k.a s.m l k.n : Int) - (k.b s.m l k.n : Int)))) ∧
    (Issues a s 1 0x02 k → Writes (.imulLo a) s k k.n (fun l => k.a s.m l k.n * k.b s.m l k.n % 2 ^ (32 * k.n))) ∧
    (Issues a s 1 0x03 k → Writes (.imulHiU a) s k 1 (fun l => k.a s.m l * k.b s.m l / 2 ^ 32)) ∧
    (Issues a s 1 0x04 k → Writes (.imulHiS a) s k 1 (fun l =>
      ofSigned 32 (toSigned 32 (k.a s.m l) * toSigned 32 (k.b s.m l) / (2 ^ 32 : Int)))) ∧
    (Issues a s 1 0x05 k → Writes (.imad a) s k 1 (fun l => (k.a s.m l * k.b s.m l + k.c s.m l) % 2 ^ 32))

/-- Integer division and remainder give the results of Table KF-3, a zero divisor included (R129, R126, spec/04_kernel_form.md, Table KF-3). When
IDIV.U, IDIV.S, IREM.U or IREM.S issues and nothing stops it, exec answers a next state in which each acting lane's destination holds the quotient
(truncated toward zero for IDIV.S) or a − b × quotient; a zero divisor gives 0xFFFF_FFFF for IDIV.U, −1 or +1 by the sign of a for IDIV.S, and a for
both remainders; −2^31 divided by −1 gives −2^31 and remainder 0. Nothing else changes. -/
def Obligations.IntegerDivisionDefined : Prop :=
  ∀ (a : KInstr) (s : State) (k : KCtx),
    (Issues a s 1 0x06 k → Writes (.idivU a) s k 1 (fun l => if k.b s.m l = 0 then 0xFFFF_FFFF else k.a s.m l / k.b s.m l)) ∧
    (Issues a s 1 0x07 k → Writes (.idivS a) s k 1 (fun l =>
      if k.b s.m l = 0 then (if toSigned 32 (k.a s.m l) < 0 then 1 else 0xFFFF_FFFF)
      else if k.a s.m l = 0x8000_0000 ∧ k.b s.m l = 0xFFFF_FFFF then 0x8000_0000
      else ofSigned 32 (Int.tdiv (toSigned 32 (k.a s.m l)) (toSigned 32 (k.b s.m l))))) ∧
    (Issues a s 1 0x08 k → Writes (.iremU a) s k 1 (fun l =>
      if k.b s.m l = 0 then k.a s.m l else k.a s.m l - k.b s.m l * (k.a s.m l / k.b s.m l))) ∧
    (Issues a s 1 0x09 k → Writes (.iremS a) s k 1 (fun l =>
      if k.b s.m l = 0 then k.a s.m l
      else if k.a s.m l = 0x8000_0000 ∧ k.b s.m l = 0xFFFF_FFFF then 0
      else ofSigned 32 (toSigned 32 (k.a s.m l) -
        toSigned 32 (k.b s.m l) * Int.tdiv (toSigned 32 (k.a s.m l)) (toSigned 32 (k.b s.m l)))))

/-- Minimum, maximum and bitwise operations of 32 or 64 bits, in each acting lane, and nothing else (R129, R126, spec/04_kernel_form.md, Table KF-3).
When IMIN.S, IMIN.U, IMAX.S, IMAX.U, AND, OR, XOR or NOT issues and nothing stops it, exec answers a next state in which each acting lane's
destination holds the signed or unsigned minimum or maximum, or the bitwise result, of its operands at the width that MOD bit 42 selects. Nothing else
changes. -/
def Obligations.IntegerMinMaxAndLogic : Prop :=
  ∀ (a : KInstr) (s : State) (k : KCtx),
    (Issues a s 1 0x0A k → Writes (.iminS a) s k k.n (fun l =>
      if toSigned (32 * k.n) (k.a s.m l k.n) ≤ toSigned (32 * k.n) (k.b s.m l k.n) then k.a s.m l k.n else k.b s.m l k.n)) ∧
    (Issues a s 1 0x0B k → Writes (.iminU a) s k k.n (fun l => if k.a s.m l k.n ≤ k.b s.m l k.n then k.a s.m l k.n else k.b s.m l k.n)) ∧
    (Issues a s 1 0x0C k → Writes (.imaxS a) s k k.n (fun l =>
      if toSigned (32 * k.n) (k.b s.m l k.n) ≤ toSigned (32 * k.n) (k.a s.m l k.n) then k.a s.m l k.n else k.b s.m l k.n)) ∧
    (Issues a s 1 0x0D k → Writes (.imaxU a) s k k.n (fun l => if k.b s.m l k.n ≤ k.a s.m l k.n then k.a s.m l k.n else k.b s.m l k.n)) ∧
    (Issues a s 1 0x0E k → Writes (.and a) s k k.n (fun l => k.a s.m l k.n &&& k.b s.m l k.n)) ∧
    (Issues a s 1 0x0F k → Writes (.or a) s k k.n (fun l => k.a s.m l k.n ||| k.b s.m l k.n)) ∧
    (Issues a s 1 0x10 k → Writes (.xor a) s k k.n (fun l => k.a s.m l k.n ^^^ k.b s.m l k.n)) ∧
    (Issues a s 1 0x11 k → Writes (.not a) s k k.n (fun l => k.a s.m l k.n ^^^ (2 ^ (32 * k.n) - 1)))

/-- Shifts take the low 8 bits of their count, at and beyond the width too; POPC, CLZ and BREV (R129, R126, spec/04_kernel_form.md, Table KF-3). When
SHL, SHR.U, SHR.S, POPC, CLZ or BREV issues and nothing stops it, exec answers a next state in which each acting lane's destination holds a × 2^c
modulo 2^W, the floor of a / 2^c unsigned or signed, with c the low 8 bits of b (so a count of W or more gives 0, or the sign fill), or the population
count, the leading zeros (32 for zero) or the bits in reverse order. Nothing else changes. -/
def Obligations.ShiftsAndBitCounts : Prop :=
  ∀ (a : KInstr) (s : State) (k : KCtx),
    (Issues a s 1 0x12 k → Writes (.shl a) s k k.n (fun l => k.a s.m l k.n * 2 ^ (k.b s.m l k.n % 256) % 2 ^ (32 * k.n))) ∧
    (Issues a s 1 0x13 k → Writes (.shrU a) s k k.n (fun l => k.a s.m l k.n / 2 ^ (k.b s.m l k.n % 256))) ∧
    (Issues a s 1 0x14 k → Writes (.shrS a) s k k.n (fun l =>
      ofSigned (32 * k.n) (toSigned (32 * k.n) (k.a s.m l k.n) / (2 ^ (k.b s.m l k.n % 256) : Int)))) ∧
    (Issues a s 1 0x15 k → Writes (.popc a) s k 1 (fun l => ((List.range 32).filter (fun i => (k.a s.m l).testBit i)).length)) ∧
    (Issues a s 1 0x16 k → Writes (.clz a) s k 1 (fun l => 32 - bitLen (k.a s.m l))) ∧
    (Issues a s 1 0x17 k → Writes (.brev a) s k 1 (fun l => bitReverse (k.a s.m l))) ∧
    (∀ x i : Nat, i < 32 → (bitReverse x).testBit i = x.testBit (31 - i))

/-- Binary32 instructions round the exact result once, and a NaN operand gives the canonical NaN (R130, R126, spec/04_kernel_form.md, Table KF-4).
When FADD, FSUB, FMUL, FFMA, FMIN or FMAX issues and nothing stops it, exec answers a next state in which each acting lane's destination holds the
value formed from its operands after the absolute values and negations of the MOD bits, rounded once as MOD bits [43:42] say (FMIN and FMAX select an
operand). A NaN operand of FADD, FSUB, FMUL or FFMA gives 0x7FC0_0000 whatever its payload. Nothing else changes. -/
def Obligations.Binary32Operations : Prop :=
  (∀ (a : KInstr) (s : State) (k : KCtx),
    (Issues a s 2 0x00 k → Writes (.fadd a) s k 1 (fun l => f32Add k.rnd (k.fa s.m l) (k.fb s.m l))) ∧
    (Issues a s 2 0x01 k → Writes (.fsub a) s k 1 (fun l => f32Sub k.rnd (k.fa s.m l) (k.fb s.m l))) ∧
    (Issues a s 2 0x02 k → Writes (.fmul a) s k 1 (fun l => f32Mul k.rnd (k.fa s.m l) (k.fb s.m l))) ∧
    (Issues a s 2 0x03 k → Writes (.ffma a) s k 1 (fun l => f32Fma k.rnd (k.fa s.m l) (k.fb s.m l) (k.fc s.m l))) ∧
    (Issues a s 2 0x04 k → Writes (.fmin a) s k 1 (fun l => f32Min (k.fa s.m l) (k.fb s.m l))) ∧
    (Issues a s 2 0x05 k → Writes (.fmax a) s k 1 (fun l => f32Max (k.fa s.m l) (k.fb s.m l)))) ∧
  (∀ (r : Rnd) (x y z : Nat), Fmt.fp32.decode x = .nan →
    f32Add r x y = 0x7FC0_0000 ∧ f32Add r y x = 0x7FC0_0000 ∧ f32Sub r x y = 0x7FC0_0000 ∧ f32Sub r y x = 0x7FC0_0000 ∧
    f32Mul r x y = 0x7FC0_0000 ∧ f32Mul r y x = 0x7FC0_0000 ∧ f32Fma r x y z = 0x7FC0_0000 ∧ f32Fma r y x z = 0x7FC0_0000 ∧
    f32Fma r y z x = 0x7FC0_0000)

/-- BF16X2 works on both halves of a register; XCEN functions are fixed functions of one operand (R131, R132, R126, spec/04_kernel_form.md, Tables
KF-5 and KF-6). When HADD2, HMUL2, HFMA2, HMIN2, HMAX2, EX2, LG2, RCP, RSQ, SIN or COS issues and nothing stops it, exec answers a next state in which
each acting lane's destination holds, for BF16X2, the two BF16 results of the elements in bits [15:0] and [31:16], and for XCEN the function of its
operand; a NaN operand of an XCEN operation gives 0x7FC0_0000. Nothing else changes. -/
def Obligations.PackedBf16AndTranscendentals : Prop :=
  (∀ (a : KInstr) (s : State) (k : KCtx),
    (Issues a s 3 0x00 k → Writes (.hadd2 a) s k 1 (fun l => bf2 (fun x y _ => Fv.add .near x y) (k.a s.m l) (k.b s.m l) 0)) ∧
    (Issues a s 3 0x01 k → Writes (.hmul2 a) s k 1 (fun l => bf2 (fun x y _ => Fv.mul x y) (k.a s.m l) (k.b s.m l) 0)) ∧
    (Issues a s 3 0x02 k → Writes (.hfma2 a) s k 1 (fun l =>
      bf2 (fun x y z => Fv.add .near (Fv.mul x y) z) (k.a s.m l) (k.b s.m l) (k.c s.m l))) ∧
    (Issues a s 3 0x03 k → Writes (.hmin2 a) s k 1 (fun l => bf2 (fun x y _ => Fv.minV x y) (k.a s.m l) (k.b s.m l) 0)) ∧
    (Issues a s 3 0x04 k → Writes (.hmax2 a) s k 1 (fun l => bf2 (fun x y _ => Fv.maxV x y) (k.a s.m l) (k.b s.m l) 0)) ∧
    (Issues a s 4 0x00 k → Writes (.ex2 a) s k 1 (fun l => ex2 (k.a s.m l))) ∧
    (Issues a s 4 0x01 k → Writes (.lg2 a) s k 1 (fun l => lg2 (k.a s.m l))) ∧
    (Issues a s 4 0x02 k → Writes (.rcp a) s k 1 (fun l => rcp (k.a s.m l))) ∧
    (Issues a s 4 0x03 k → Writes (.rsq a) s k 1 (fun l => rsq (k.a s.m l))) ∧
    (Issues a s 4 0x04 k → Writes (.sin a) s k 1 (fun l => sinF (k.a s.m l))) ∧
    (Issues a s 4 0x05 k → Writes (.cos a) s k 1 (fun l => cosF (k.a s.m l)))) ∧
  (∀ x : Nat, Fmt.fp32.decode x = .nan →
    ex2 x = 0x7FC0_0000 ∧ lg2 x = 0x7FC0_0000 ∧ rcp x = 0x7FC0_0000 ∧ rsq x = 0x7FC0_0000 ∧ sinF x = 0x7FC0_0000 ∧ cosF x = 0x7FC0_0000)

/-- CVT instructions convert one register in each acting lane, and the integer forms saturate (R133, R126, spec/04_kernel_form.md, Table KF-7). When
one of the 17 CVT instructions issues and nothing stops it, exec answers a next state in which each acting lane's destination holds the conversion of
Table KF-7 of its source (a source of 16 or 8 bits lies in the low bits of its register, log entry 8); S32.F32 and U32.F32 give 0 for a NaN and
saturate an infinity; E5M2 forms saturate as MOD bit 44 says. Nothing else changes. -/
def Obligations.ConversionsOfKernels : Prop :=
  (∀ (a : KInstr) (s : State) (k : KCtx),
    (Issues a s 5 0x00 k → Writes (.f32S32 a) s k 1 (fun l => Fmt.fp32.encode k.cvtRnd (Fv.ofInt (toSigned 32 (k.a s.m l)) 0))) ∧
    (Issues a s 5 0x01 k → Writes (.f32U32 a) s k 1 (fun l => Fmt.fp32.encode k.cvtRnd (Fv.fin false (k.a s.m l) 0))) ∧
    (Issues a s 5 0x02 k → Writes (.s32F32 a) s k 1 (fun l =>
      ofSigned 32 (Fv.toInt k.cvtRnd (-2 ^ 31) (2 ^ 31 - 1) (Fmt.fp32.decode (k.a s.m l))))) ∧
    (Issues a s 5 0x03 k → Writes (.u32F32 a) s k 1 (fun l => ofSigned 32 (Fv.toInt k.cvtRnd 0 (2 ^ 32 - 1) (Fmt.fp32.decode (k.a s.m l))))) ∧
    (Issues a s 5 0x04 k → Writes (.bf16F32 a) s k 1 (fun l => convert .fp32 .bf16 (k.a s.m l))) ∧
    (Issues a s 5 0x05 k → Writes (.f32Bf16 a) s k 1 (fun l => convert .bf16 .fp32 (k.a s.m l % 2 ^ 16))) ∧
    (Issues a s 5 0x06 k → Writes (.f16F32 a) s k 1 (fun l => convert .fp32 .fp16 (k.a s.m l))) ∧
    (Issues a s 5 0x07 k → Writes (.f32F16 a) s k 1 (fun l => convert .fp16 .fp32 (k.a s.m l % 2 ^ 16))) ∧
    (Issues a s 5 0x08 k → Writes (.e4m3F32 a) s k 1 (fun l => convert .fp32 .e4m3 (k.a s.m l))) ∧
    (Issues a s 5 0x09 k → Writes (.e4m3Bf16 a) s k 1 (fun l => convert .bf16 .e4m3 (k.a s.m l % 2 ^ 16))) ∧
    (Issues a s 5 0x0A k → Writes (.e4m3F16 a) s k 1 (fun l => convert .fp16 .e4m3 (k.a s.m l % 2 ^ 16))) ∧
    (Issues a s 5 0x0B k → Writes (.e5m2F32 a) s k 1 (fun l => convertE5M2 .fp32 (bit k.w 44) (k.a s.m l))) ∧
    (Issues a s 5 0x0C k → Writes (.e5m2Bf16 a) s k 1 (fun l => convertE5M2 .bf16 (bit k.w 44) (k.a s.m l % 2 ^ 16))) ∧
    (Issues a s 5 0x0D k → Writes (.f32E4m3 a) s k 1 (fun l => convert .e4m3 .fp32 (k.a s.m l % 2 ^ 8))) ∧
    (Issues a s 5 0x0E k → Writes (.f32E5m2 a) s k 1 (fun l => convert .e5m2 .fp32 (k.a s.m l % 2 ^ 8))) ∧
    (Issues a s 5 0x0F k → Writes (.bf16E4m3 a) s k 1 (fun l => convert .e4m3 .bf16 (k.a s.m l % 2 ^ 8))) ∧
    (Issues a s 5 0x10 k → Writes (.bf16E5m2 a) s k 1 (fun l => convert .e5m2 .bf16 (k.a s.m l % 2 ^ 8)))) ∧
  (∀ (r : Rnd) (lo hi : Int), Fv.toInt r lo hi .nan = 0 ∧ Fv.toInt r lo hi (.inf false) = hi ∧ Fv.toInt r lo hi (.inf true) = lo)

/-- MOV, SEL, PACK2, PACK4, S2R, BALLOT and SHFL write their destination in each acting lane, and nothing else (R134, R79, R126, R127, R136, R137,
spec/04_kernel_form.md, Tables KF-8 and KF-10). When MOV, SEL, PACK2, PACK4, S2R, BALLOT or SHFL issues and nothing stops it, exec answers a next
state in which each acting lane's destination holds the register or immediate, the selected operand, the packed halves or bytes, the special register
numbered in IMM12, the mask of counted lanes whose predicate is true, or operand a of the lane that b names modulo 32. While READS_TIME is clear the
step counter and the timestamp (numbers 9 to 12) read zero. Nothing else changes. -/
def Obligations.MovesAndSpecialRegisters : Prop :=
  (∀ (a : KInstr) (s : State) (k : KCtx),
    (Issues a s 6 0x00 k → Writes (.mov a) s k (if bit k.w 42 then 2 else 1) (fun l =>
      if Iw.immB k.w then k.b s.m l (if bit k.w 42 then 2 else 1) else k.a s.m l (if bit k.w 42 then 2 else 1))) ∧
    (Issues a s 6 0x01 k → Writes (.sel a) s k 1 (fun l => if bit (k.g.predMask (bits k.w 43 3)) l then k.a s.m l else k.b s.m l)) ∧
    (Issues a s 6 0x02 k → Writes (.pack2 a) s k 1 (fun l => k.a s.m l % 2 ^ 16 + 2 ^ 16 * (k.b s.m l % 2 ^ 16))) ∧
    (Issues a s 6 0x03 k → Writes (.pack4 a) s k 1 (fun l =>
      k.a s.m l % 2 ^ 8 + 2 ^ 8 * (k.a s.m l / 2 ^ 16 % 2 ^ 8) + 2 ^ 16 * (k.b s.m l % 2 ^ 8) + 2 ^ 24 * (k.b s.m l / 2 ^ 16 % 2 ^ 8))) ∧
    (Issues a s 6 0x04 k → Writes (.s2r a) s k 1 (fun l => k.special s.m (Iw.imm12 k.w) l)) ∧
    (Issues a s 8 0x03 k → Writes (.ballot a) s k 1 (fun _ => k.mask &&& k.g.predMask (Iw.pa k.w))) ∧
    (Issues a s 8 0x04 k → Writes (.shfl a) s k 1 (fun l => k.a s.m (k.b s.m l % 32)))) ∧
  (∀ (k : KCtx) (m : Mach) (n l : Nat), bit (m.plan k.s).determinism 1 = false → 9 ≤ n → n ≤ 12 → k.special m n l = 0) ∧
  (∀ (k : KCtx) (m : Mach) (l : Nat), k.special m 0 l = l ∧ k.special m 1 l = k.g.index ∧ k.special m 2 l = k.g.block ∧
    k.special m 3 l = (m.core k.s k.L).launch.blocks ∧ k.special m 5 l = k.L ∧ k.special m 6 l = k.s ∧
    k.special m 7 l = m.getF k.s Reg.LNK_SDID_SDID ∧ k.special m 8 l = k.g.active)

/-- Comparisons, predicate logic, elections and votes write one predicate of the acting lanes, and nothing else (R135, R136, R99, R126,
spec/04_kernel_form.md, Tables KF-9 and KF-10). When ISETP, FSETP, PLOP, ELECT, VOTE.ANY or VOTE.ALL issues and nothing stops it, exec answers a next
state in which the predicate named in DST bits [16:14] holds, in each lane that acts, the comparison, the logic of its two predicates, whether the
lane is the lowest acting one, or the vote over the acting lanes; every other predicate and lane keeps its value, a write to p7 is discarded, and no
register, core, register of region 0x8 or byte of memory changes. A NaN operand makes every FSETP test false but NE. -/
def Obligations.PredicatesOfALane : Prop :=
  (∀ (a : KInstr) (s : State) (k : KCtx),
    (Issues a s 7 0x00 k → WritesP (.isetp a) s k (fun l =>
      let lt := if bit k.w 45 then decide (k.a s.m l < k.b s.m l) else decide (toSigned 32 (k.a s.m l) < toSigned 32 (k.b s.m l))
      let eq := decide (k.a s.m l = k.b s.m l)
      match bits k.w 42 3 with
      | 0 => eq
      | 1 => !eq
      | 2 => lt
      | 3 => lt || eq
      | 4 => !lt && !eq
      | _ => !lt)) ∧
    (Issues a s 7 0x01 k → WritesP (.fsetp a) s k (fun l => floatTest (bits k.w 42 3) (k.a s.m l) (k.b s.m l))) ∧
    (Issues a s 7 0x02 k → WritesP (.plop a) s k (fun l =>
      let x := xor (bit (k.g.predMask (Iw.pa k.w)) l) (bit k.w 44)
      let y := xor (bit (k.g.predMask (Iw.pb k.w)) l) (bit k.w 45)
      match bits k.w 42 2 with
      | 0 => x && y
      | 1 => x || y
      | _ => xor x y)) ∧
    (Issues a s 8 0x00 k → WritesP (.elect a) s k (fun l => decide (∀ j < l, bit k.mask j = false))) ∧
    (Issues a s 8 0x01 k → WritesP (.voteAny a) s k (fun _ => decide (k.mask &&& k.g.predMask (Iw.pa k.w) ≠ 0))) ∧
    (Issues a s 8 0x02 k → WritesP (.voteAll a) s k (fun _ => decide (k.mask &&& k.g.predMask (Iw.pa k.w) = k.mask)))) ∧
  (∀ t x y : Nat, (Fmt.fp32.decode x = .nan ∨ Fmt.fp32.decode y = .nan) → floatTest t x y = decide (t = 1))

/-- NOP, BRA, BRX, EXIT and TRAP move, split, shrink or stop their group (R94, R95, R96, R97, R100, R144, R147, R148, spec/04_kernel_form.md, Tables
KF-13 and KF-15). When NOP issues and nothing stops it, the group goes on and nothing else changes. BRA: no acting lane, the group goes on; every
active lane acts, it goes to the target; otherwise, with fewer than 32 divergence entries, the lanes that do not branch go on first and an entry with
the branching lanes, their target and the reconvergence point is pushed; nothing else changes. BRX: the acting lanes are gathered into paths by
target, ascending; the fall-through path runs first, then the paths; a single path with no fall-through is a jump; nothing else changes. EXIT: acting
lanes leave every mask; when all 32 lanes have exited the group leaves its slot, barriers that this completes are released, a block without groups
leaves its slot, CORE_LAUNCH follows, and nothing else changes. TRAP: with no acting lane the group goes on; with one, and no store of the group on
its way, it takes the fault of cause 0x12 at its lowest acting lane: the core halts for the fault without groups, stores or staged operations, its
registers stay, and the fault registers, if they held no fault, hold the cause, slot, block, lane, IMM12 as code, pc, script position and word; every
other core and every memory is unchanged. -/
def Obligations.ControlFlowOfAGroup : Prop :=
  ∀ (a : KInstr) (s : State) (k : KCtx),
    (Issues a s 0 0x00 k → Moves (.nop a) s k (k.g.goto (k.g.pc + k.size))) ∧
    (Issues a s 0 0x01 k →
      let target := if Iw.ext k.w then branchTarget k.g.pc 32 (k.x % 2 ^ 32) else branchTarget k.g.pc 12 (Iw.imm12 k.w)
      let reconv := k.g.pc + 8 * (if Iw.ext k.w then k.x / 2 ^ 32 else bits k.w 22 16)
      (k.mask = 0 → Moves (.bra a) s k (k.g.goto (k.g.pc + k.size))) ∧
      (k.mask ≠ 0 → k.mask = k.g.active → Moves (.bra a) s k (k.g.goto target)) ∧
      (k.mask ≠ 0 → k.mask < k.g.active → k.g.div.length < 32 →
        Moves (.bra a) s k ({ k.g with active := k.g.active - k.mask, div := ⟨reconv, [(k.mask, target)], 0⟩ :: k.g.div }.goto (k.g.pc + k.size)))) ∧
    (Issues a s 0 0x02 k →
      let jump := (k.lanes.map (fun l => (l, k.a s.m l))).filter (fun e => e.2 ≠ k.g.pc + k.size)
      let fall := k.g.active - ofBits (jump.map (·.1))
      let reconv := k.g.pc + 8 * (k.x / 2 ^ 32)
      (pathsOf jump = [] → Moves (.brx a) s k (k.g.goto (k.g.pc + k.size))) ∧
      (∀ p ps, pathsOf jump = p :: ps → fall ≠ 0 → k.g.div.length < 32 →
        Moves (.brx a) s k ({ k.g with active := fall, div := ⟨reconv, p :: ps, 0⟩ :: k.g.div }.goto (k.g.pc + k.size))) ∧
      (∀ p, pathsOf jump = [p] → fall = 0 → Moves (.brx a) s k (k.g.goto p.2)) ∧
      (∀ p q ps, pathsOf jump = p :: q :: ps → fall = 0 → k.g.div.length < 32 →
        Moves (.brx a) s k ({ k.g with active := p.1, div := ⟨reconv, q :: ps, 0⟩ :: k.g.div }.goto p.2))) ∧
    (Issues a s 0 0x03 k →
      let c := s.m.core k.s k.L
      (k.g.exited ||| k.mask ≠ 0xFFFF_FFFF → Moves (.exit a) s k
        ({ k.g with active := k.g.active - k.mask, exited := k.g.exited ||| k.mask, div := k.g.div.map (fun (e : DivE) => e.without k.mask) }.goto (k.g.pc + k.size))) ∧
      (k.g.exited ||| k.mask = 0xFFFF_FFFF → Lands (.exit a) s (fun t =>
        Becomes k s t (c.groupExit k.slot k.g) (launchFields k.s (s.m.physOf k.s k.L) (c.groupExit k.slot k.g)) ∧
        SMap.find (t.m.core k.s k.L).groups k.slot = none))) ∧
    (Issues a s 0 0x04 k →
      (k.lowest = none → Moves (.trap a) s k (k.g.goto (k.g.pc + k.size))) ∧
      (∀ l, k.lowest = some l → (∀ p ∈ (s.m.core k.s k.L).stores, p.slot ≠ k.slot) → Lands (.trap a) s (fun t =>
        t.fuse = s.fuse ∧ t.pending = s.pending ∧ SameMemory s.m t.m ∧ SameCores s t k.s k.L ∧
        (let d := t.m.core k.s k.L
         d.halt = .fault ∧ d.running = false ∧ d.groups = [] ∧ d.stores = [] ∧ d.staged = [] ∧ d.regs = (s.m.core k.s k.L).regs) ∧
        (s.m.getB k.s Reg.CORE_FAULT_INFO_VALID (s.m.physOf k.s k.L) = false →
          Holds t (k.faultFields s.m (s.m.physOf k.s k.L) 0x12 l (Iw.imm12 k.w))))))

/-- ST puts stores on their way and changes no byte; LD reads each lane at its home; CACHE.DEAD is staged; fences perform the group's stores (R104,
R105, R107, R108, R138, R139, R143, spec/04_kernel_form.md, Tables KF-11 and KF-15). When ST issues, nothing stops it and no acting lane's access
faults, the core's stores on their way grow by one per acting lane, in ascending order, of the width's bytes of SRCB at the address that the lane
forms (none for a stack of the part that no bridge route reaches any more); the group goes on, and nothing else changes: no byte of any memory. LD:
when no lane faults and none is held, the lanes read in ascending order, each into its own destination, the group goes on, and nothing changes beyond
those reads; where each lane reads clean bytes of local or accumulator memory of its own stack that its port has not changed on the way, only its
destination changes, to the bytes read, least significant first, with the group's own stores over them and a narrow one extended by its sign when
asked. CACHE.DEAD: one declaration per distinct line is staged until commit, the group goes on, and nothing else changes. FENCE.CORE, FENCE.STACK and
FENCE.SYSTEM: when none of the group's stores is held, the group goes on once they have been performed in order, and nothing else changes; with none
on their way nothing else changes at all. -/
def Obligations.LoadsStoresAndFences : Prop :=
  ∀ (a : KInstr) (s : State) (k : KCtx),
    let n := s.fuse.part.stackCount
    let c := s.m.core k.s k.L
    let fs := k.lanes.map (fun l => (l, k.form s.m l (memOffset k.w k.x false false)))
    let size := 2 ^ bits k.w 42 3
    (Issues a s 9 0x01 k → firstFault (fs.flatMap (fun e => k.accessFaults s.m n 8 size (some false) e.1 e.2)) = none →
      Lands (.st a) s (fun t => Becomes k s t (k.goesOn { c with
        stores := c.stores ++ (fs.filter (fun e => !s.m.cut n k.s (daStack e.2.addr))).map
          (fun e => ⟨k.slot, e.2.addr, leBytes size (k.get s.m e.1 (Iw.srcB k.w) (widthRegs (bits k.w 42 3)))⟩) }))) ∧
    (Issues a s 9 0x00 k → firstFault (fs.flatMap (fun e => k.accessFaults s.m n 8 size none e.1 e.2)) = none →
      fs.any (fun e => s.m.coreReadHeld k.s k.L e.2.addr size) = false →
      (let m1 := k.loadLanes s.m n size (fs.map (fun e => (e.1, e.2.addr)))
       Lands (.ld a) s (fun t => Becomes k { s with m := m1 } t (k.goesOn (m1.core k.s k.L)))) ∧
      ((∀ e ∈ fs, daStack e.2.addr = k.s ∧ s.m.Quiet e.2.addr size ∧ (∀ i, i < size → (k.sees s.m (e.2.addr + i)).poison = 0) ∧
          ∀ x ∈ (s.m.stk k.s).vcp.crossed, x.1 = s.m.physOf k.s k.L → x.2.1 + 8 ≤ e.2.addr ∨ e.2.addr + size ≤ x.2.1) →
        Writes (.ld a) s k (max 1 (size / 4)) (fun l => k.loaded s.m size (k.form s.m l (memOffset k.w k.x false false)).addr))) ∧
    (Issues a s 12 0x00 k →
      (∀ e ∈ fs, ∃ A, e.2 = .ok A ∧ A % 128 = 0 ∧ daRegion A = 4 ∧ readDeny (.kernel k.L) (s.m.place n A) = none ∧ s.m.readOnly A = false) →
      Lands (.cacheDead a) s (fun t => Becomes k s t (k.goesOn { c with
        staged := c.staged ++ (fs.map (fun e => e.2.addr)).eraseDups.map Staged.dead }))) ∧
    (∀ x ∈ [(Instr.fenceCore a, 0x06), (Instr.fenceStack a, 0x07), (Instr.fenceSystem a, 0x08)], Issues a s 11 x.2 k →
      ((∀ p ∈ c.stores, p.slot ≠ k.slot) → Moves x.1 s k (k.g.goto (k.g.pc + k.size))) ∧
      ((k.drained s.m).2 = true → Lands x.1 s (fun t =>
        Becomes k { s with m := (k.drained s.m).1 } t (k.goesOn ((k.drained s.m).1.core k.s k.L)))))

/-- An atomic instruction that meets no fault forms one request per location and its group waits; nothing is performed yet (R70, R113, R114, R116,
R140, spec/04_kernel_form.md, Table KF-11). When one of the eleven ATOM instructions or ATOM.ORD issues, nothing stops it and it meets no fault, the
core holds the instruction with its operation, its acting lanes, its destination and one request per distinct location that the journal does not
already record; if there is one the group waits for it without moving, an ordered one with its object and ticket, and if there is none (every value is
recorded, or no lane acts) the recorded values are written to the destinations and the group goes on. The group's and the unit's count of journalled
atomics follow. Nothing else changes, and no byte of any memory; for an ordered one that waits, SYNC_STATUS.WAITERS of its object counts those that
wait for it, and a run of its stall time may end. -/
def Obligations.AtomicsSendTheirRequests : Prop :=
  ∀ (a : KInstr) (s : State) (k : KCtx),
    let n := s.fuse.part.stackCount
    let c := s.m.core k.s k.L
    let i := fun ord => k.atomInstr s.m ord
    let count := fun ord => (k.atomReqs s.m ord).1
    let counted := fun ord => { c with atomNs := SMap.put c.atomNs (k.g.block * 32 + k.g.index) (count ord) }
    let waits := fun (ord come : Bool) => { counted ord with
      atoms := SMap.put c.atoms k.slot (i ord), groups := SMap.put c.groups k.slot { k.g with wait := .atomic, ordered := come, atomN := count ord } }
    let ends := fun ord =>
      k.groupOf ((i ord).got.foldl (fun d e => d.setOperand k.slot e.1 (Iw.dst k.w) k.atomRegs e.2) { counted ord with atoms := SMap.erase c.atoms k.slot })
        (fun _ => { k.g with wait := .none, ordered := false, atomN := count ord }.goto (k.g.pc + k.size))
    (∀ x ∈ [(Instr.atomAdd a, 0x00, AOp.add), (Instr.atomMinS a, 0x01, AOp.minS), (Instr.atomMinU a, 0x02, AOp.minU), (Instr.atomMaxS a, 0x03, AOp.maxS),
        (Instr.atomMaxU a, 0x04, AOp.maxU), (Instr.atomAnd a, 0x05, AOp.and), (Instr.atomOr a, 0x06, AOp.or), (Instr.atomXor a, 0x07, AOp.xor),
        (Instr.atomXch a, 0x08, AOp.xch), (Instr.atomCas a, 0x09, AOp.cas), (Instr.atomFadd a, 0x0A, AOp.fadd)],
      Issues a s 10 x.2.1 k (some false) → k.atomFault s.m n false = none →
      (i false).op = x.2.2 ∧ (i false).mask = k.mask ∧ (i false).dst = Iw.dst k.w ∧ (i false).ord = none ∧ ((i false).reqs.map (·.addr)).Nodup ∧
      ((i false).reqs ≠ [] → Lands x.1 s (fun t => Becomes k s t (waits false false))) ∧
      ((i false).reqs = [] → Lands x.1 s (fun t => Becomes k s t (ends false)))) ∧
    (Issues a s 10 0x00 k (some true) → k.atomFault s.m n true = none →
      let o := handleObj (k.atomHandle s.m)
      (i true).mask = k.mask ∧ (i true).dst = Iw.dst k.w ∧ (i true).ord = some (o, k.x % 2 ^ 48) ∧ ((i true).reqs.map (·.addr)).Nodup ∧
      ((i true).reqs ≠ [] → Lands (.atomOrd a) s (fun t => ∃ q,
        Becomes k { s with m := s.m.updPlan k.s (fun p => { p with stallDone := q }) } t (waits true (decide (s.m.count k.s o = k.x % 2 ^ 48)))
          [(k.s, Reg.SYNC_STATUS_WAITERS, o, min ((t.m.waitersOf k.s o).length + t.m.coresWaiting k.s o) 255)])) ∧
      ((i true).reqs = [] → Lands (.atomOrd a) s (fun t => Becomes k s t (ends true))))

/-- A barrier waits for every group of its block; a wait whose count satisfies goes on with FAILED and FAIL_CODE; signals are staged (R62, R63, R69,
R100, R141, R142, spec/04_kernel_form.md, Table KF-12). BAR.SYNC, in a group all of whose lanes that have not exited act and none of whose stores is
held: its stores are performed, the group moves past the instruction and is counted as arrived at the barrier, and every barrier of the block that is
then complete releases its groups; nothing else changes. With none of its stores on the way, it waits at the barrier while another live group of the
block has not arrived, and goes on when all have. WAIT_GE and WAIT_EQ, where no lane acts, let the group go on. On an object at or above 64 of the own
stack: when the count satisfies the threshold (signed difference modulo 2^48 not negative, or equality), the group goes on with FAILED in its
predicate and FAIL_CODE in its destination register, in the acting lanes, and nothing else changes; otherwise it waits at the instruction for that
object and threshold, WAITERS of the object counts those that wait for it, and nothing else changes but the run of its stall time. SIGNAL, SIGNAL_FAIL
and CLEAR_FAIL with legal operands are added to the core's staged operations, last, and the group goes on; no sync object and nothing else changes
before commit; where no lane acts the group goes on. -/
def Obligations.BarriersWaitsAndStagedSignals : Prop :=
  ∀ (a : KInstr) (s : State) (k : KCtx),
    let c := s.m.core k.s k.L
    (Issues a s 11 0x00 k → k.mask = 0xFFFF_FFFF - k.g.exited → k.g.exited ≤ 0xFFFF_FFFF → (k.drained s.m).2 = true →
      let n := Iw.imm12 k.w
      let j := c.launch.blockSlot k.g.block
      let d := (k.drained s.m).1.core k.s k.L
      Lands (.barSync a) s (fun t =>
        Becomes k { s with m := (k.drained s.m).1 } t
          (({ (k.groupOf d (fun g => { g with wait := .barrier n }.goto (g.pc + k.size))) with launch := { d.launch with
              arrived := SMap.put d.launch.arrived (d.launch.blockSlot k.g.block * 4 + n) (putBit (d.launch.arrivedAt (d.launch.blockSlot k.g.block) n) k.g.index true)
              stalled := d.launch.stalled.filter (· ≠ d.launch.blockSlot k.g.block * 4 + n) } } : Core).barriersSettle (d.launch.blockSlot k.g.block)) ∧
        ((∀ p ∈ c.stores, p.slot ≠ k.slot) →
          ((∃ gi ∈ c.liveGroups j, gi ≠ k.g.index ∧ bit (c.launch.arrivedAt j n) gi = false) →
            SMap.find (t.m.core k.s k.L).groups k.slot = some ({ k.g with wait := .barrier n }.goto (k.g.pc + k.size))) ∧
          ((∀ gi ∈ c.liveGroups j, gi ≠ k.g.index → bit (c.launch.arrivedAt j n) gi = true) →
            SMap.find (t.m.core k.s k.L).groups k.slot = some { ({ k.g with wait := .barrier n }.goto (k.g.pc + k.size)) with wait := .none })))) ∧
    (∀ x ∈ [(Instr.waitGe a, 0x01, false), (Instr.waitEq a, 0x02, true)], Issues a s 11 x.2.1 k →
      (k.lowest = none → Moves x.1 s k (k.g.goto (k.g.pc + k.size))) ∧
      (∀ l, k.lowest = some l →
        let h := k.a s.m l
        let t0 := k.get s.m l (Iw.srcB k.w) 2 % 2 ^ 48
        let o := handleObj h
        handleBad h = false → handleSdid h = s.m.sdid k.s → 64 ≤ o →
        ((if x.2.2 then s.m.count k.s o = t0 else satisfies (s.m.count k.s o) t0 = true) → Lands x.1 s (fun t => Becomes k s t
          (k.groupOf (k.lanes.foldl (fun c l => c.setReg k.slot l (bits k.w 17 5) { val := BitVec.ofNat 32 (s.m.getF k.s Reg.SYNC_STATUS_FAIL_CODE o) }) c)
            (fun g => ({ g with wait := .none }.setPred (Iw.pd k.w) k.mask (fun _ => s.m.getB k.s Reg.SYNC_STATUS_FAILED o)).goto (g.pc + 8))))) ∧
        (¬(if x.2.2 then s.m.count k.s o = t0 else satisfies (s.m.count k.s o) t0 = true) → Lands x.1 s (fun t => ∃ q,
          Becomes k { s with m := s.m.updPlan k.s (fun p => { p with stallDone := q }) } t
            (k.groupOf c (fun g => { g with wait := .obj o t0 x.2.2 (Iw.pd k.w) (bits k.w 17 5) k.mask }))
            [(k.s, Reg.SYNC_STATUS_WAITERS, o, min ((t.m.waitersOf k.s o).length + t.m.coresWaiting k.s o) 255)])))) ∧
    (∀ x ∈ [(Instr.signal a, 0x03), (Instr.signalFail a, 0x04), (Instr.clearFail a, 0x05)], Issues a s 11 x.2 k → k.lowest = none →
      Moves x.1 s k (k.g.goto (k.g.pc + k.size))) ∧
    (∀ l, k.lowest = some l → handleBad (k.a s.m l) = false →
      let staged (i : Instr) (x : Staged) : Prop := Lands i s (fun t => Becomes k s t (k.goesOn { c with staged := c.staged ++ [x] }))
      let n := k.get s.m l (Iw.srcB k.w) 1
      (Issues a s 11 0x03 k → 1 ≤ n → n ≤ 65535 → staged (.signal a) (.signal (k.a s.m l) n 0)) ∧
      (Issues a s 11 0x04 k → 1 ≤ n → n ≤ 65535 → 1 ≤ k.c s.m l → k.c s.m l ≤ 0xFFFF → staged (.signalFail a) (.signal (k.a s.m l) n (k.c s.m l))) ∧
      (Issues a s 11 0x05 k → handleSdid (k.a s.m l) = s.m.sdid k.s → 64 ≤ handleObj (k.a s.m l) → staged (.clearFail a) (.clearFail (k.a s.m l))))

/-- A count satisfies a threshold when their difference, signed in 48 bits, is not negative (R63). For counts and thresholds below 2^48, satisfies c t
holds exactly when the 48-bit two's complement value of c − t is not negative; every count satisfies itself, and a count one below its threshold does
not, around the wrap too. -/
def Obligations.SatisfiesIsSignedDifference : Prop :=
  ∀ c t : Nat, c < 2 ^ 48 → t < 2 ^ 48 →
    (satisfies c t = true ↔ 0 ≤ toSigned 48 (ofSigned 48 ((c : Int) - t))) ∧ satisfies t t = true ∧ satisfies ((t + 2 ^ 48 - 1) % 2 ^ 48) t = false

/-- MX and MXG instructions queue the operations that their descriptors describe, and the group goes on (R145, R146, R152, R153, R166, R167, R172,
R175, spec/05_matrix_array.md, Tables MX-6 to MX-9). When MX.LOADW, MX.STREAM or MX.DRAIN issues with room in the array's queue and its descriptors
pass (SoloReady), one operation per acting lane, in ascending lane order, with the fields of that lane's descriptor, is added to the queue, and the
tags that the banks will hold follow; MX.SWAP adds one per acting lane. The group goes on, or waits at issue for the lanes that found no room among
the 16; CORE_MX_STATUS follows, and nothing else changes beyond what performing the group's stores and reading the descriptors did. MXG.LOADW,
MXG.STREAM and MXG.DRAIN add one operation, with the bytes of the fragment registers or the registers to write, when the group's stores are performed,
the descriptor of lane 0 is read and passes, all 32 lanes act, and its fragment's registers are allotted, aligned, unpoisoned where they are read, and
free of drains still to come. MX.WAIT with nothing queued or running lets the group go on, and otherwise the group waits for every operation issued
before, those of lanes that wait at issue excepted; nothing else changes. -/
def Obligations.MatrixInstructionsIssueTheirOperations : Prop :=
  ∀ (a : KInstr) (s : State) (k : KCtx),
    let n := s.fuse.part.stackCount
    (∀ x ∈ [(Instr.mxLoadw a, 0x00, MxKind.loadw, descLoadw, chkLoadw true), (Instr.mxStream a, 0x02, MxKind.stream, descStream, chkStream true),
        (Instr.mxDrain a, 0x03, MxKind.drain, descDrain, chkDrain true)],
      Issues a s 0x10 x.2.1 k → (s.m.core k.s k.L).mx.queue.length < 16 → SoloReady k s.m n (k.mxTags s.m) (fun _ => x.2.2.2.2) noMore →
      let m1 := (k.descs s.m n).1
      let bs := k.descBytes s.m n
      Lands x.1 s (fun t => MxIssued k s m1 t bs.length
        (bs.foldl (fun (q : MxSt) b => q.queued x.2.2.1 (x.2.2.2.1 b)) (m1.core k.s k.L).mx))) ∧
    (Issues a s 0x10 0x01 k → (s.m.core k.s k.L).mx.queue.length < 16 → Lands (.mxSwap a) s (fun t => MxIssued k s s.m t k.lanes.length
      (k.lanes.foldl (fun (q : MxSt) _ => q.queued .swap {}) (s.m.core k.s k.L).mx))) ∧
    (Issues a s 0x10 0x04 k →
      let x := (s.m.core k.s k.L).mx
      (x.queue = [] ∧ x.run = [] → Moves (.mxWait a) s k (k.g.goto (k.g.pc + k.size))) ∧
      (¬(x.queue = [] ∧ x.run = []) → Moves (.mxWait a) s k { k.g with wait := .mx ((x.queue[16]?.map (·.id)).getD x.nextId) })) ∧
    (∀ x ∈ [(Instr.mxgLoadw a, 0x00, MxKind.loadw, descLoadw, chkLoadw false), (Instr.mxgStream a, 0x01, MxKind.stream, descStream, chkStream false),
        (Instr.mxgDrain a, 0x02, MxKind.drain, descDrain, chkDrain false)],
      let m0 := (k.drained s.m).1
      let r := k.readDescs m0 n [0]
      let d := r.2.headD ⟨0, 0, false, []⟩
      let b := PByte.vals d.bytes
      let F := Iw.srcB k.w
      let R := fragRegs x.2.1 b
      let c := m0.core k.s k.L
      Issues a s 0x11 x.2.1 k → (s.m.core k.s k.L).mx.queue.length < 16 → k.mask = 0xFFFF_FFFF → (k.drained s.m).2 = true →
      k.descsHeld m0 [0] = false → d.ok = true → d.addr % 64 = 0 → (∀ y ∈ d.bytes, y.poison = 0) → (x.2.2.2.2 (k.mxTags m0) b).isSome = true →
      F % 4 = 0 → F + R ≤ c.launch.regs → F + R ≤ 255 → (∀ f ∈ c.fragPending k.slot, f.1 + f.2 ≤ F ∨ F + R ≤ f.1) →
      (x.2.1 = 2 ∨ k.poisonOf m0 (List.range (fragLanes x.2.1 b)) [(F, R)] = []) →
      let bytes := (List.range 32).map (fun l => (r.1.core k.s k.L).fragBytes k.slot l F R)
      let q := (r.1.core k.s k.L).mx.queued x.2.2.1 (x.2.2.2.1 b) (if x.2.1 = 2 then none else some bytes) (if x.2.1 = 2 then some (k.slot, F, R) else none)
      Lands x.1 s (fun t => Becomes k { s with m := r.1 } t (k.goesOn { r.1.core k.s k.L with mx := q }) (mxFields k.s (r.1.physOf k.s k.L) q)))

/-- ATT instructions queue the operations that their descriptors describe; ATT.WAIT waits for those issued before (R145, R206, R219, R222,
spec/07_attention.md, Tables AT-1 to AT-8). When ATT.BIAS, ATT.SCORE, ATT.NORM or ATT.PACK issues with room in the unit's queue and its descriptors
pass (SoloReady), one operation per acting lane, in ascending lane order, with that lane's descriptor (and, for ATT.PACK, the list that it names, as
it stands at issue) is added to the queue, and the bias slots and pack rows that the core tracks follow. The group goes on, or waits at issue for the
lanes that found no room among the 8; CORE_ATT_STATUS follows, and nothing else changes beyond what performing the group's stores and reading the
descriptors did. ATT.WAIT with nothing queued or running lets the group go on, and otherwise the group waits for every operation issued before, those
of lanes that wait at issue excepted; nothing else changes. -/
def Obligations.AttentionInstructionsIssueTheirOperations : Prop :=
  ∀ (a : KInstr) (s : State) (k : KCtx),
    let n := s.fuse.part.stackCount
    (∀ x ∈ [(Instr.attBias a, 0x00, (fun _ => chkBias), noMore), (Instr.attScore a, 0x01, (fun _ => chkScore), noMore),
        (Instr.attNorm a, 0x02, (fun _ => chkNorm), noMore),
        (Instr.attPack a, 0x03, (fun (m : Mach) => chkPack m k.s k.L), (fun (m : Mach) => packPoison m k.s k.L))],
      Issues a s 0x12 x.2.1 k → (s.m.core k.s k.L).att.queue.length < 8 → SoloReady k s.m n (s.m.attTrack k.s k.L) x.2.2.1 x.2.2.2 →
      let m1 := (k.descs s.m n).1
      let bs := k.descBytes s.m n
      Lands x.1 s (fun t => AttIssued k s m1 t bs.length
        (bs.foldl (fun (q : AttSt) b => q.queued (x.2.2.1 m1) (k.packRows m1) b) (m1.core k.s k.L).att))) ∧
    (Issues a s 0x12 0x04 k →
      let x := (s.m.core k.s k.L).att
      (x.queue = [] ∧ x.run = none → Moves (.attWait a) s k (k.g.goto (k.g.pc + k.size))) ∧
      (¬(x.queue = [] ∧ x.run = none) → Moves (.attWait a) s k { k.g with wait := .att ((x.queue[8]?.map (·.id)).getD x.nextId) }))

/-- KV.APPEND, FORK, FREE and TRUNC are staged until commit, KV.HINT is sent at issue, KV.GATHER is on its way, KV.WAIT waits for gathers (R238, R243,
R248, R249, R250, R252, R253, R254, R255, spec/08_kv_cache.md, Tables KV-4 to KV-6). When KV.FORK, KV.FREE or KV.TRUNC issues and its descriptors pass
(SoloReady), one keyed operation per acting lane, in ascending order, is added to the staged operations for the Cabinet of its sequence; KV.GATHER
adds one gather per acting lane to those on their way, with the unit's own last append to its sequence; KV.HINT puts one message per acting lane on
its way; KV.APPEND, lane after lane, reads its rows, writes their stage entries to local memory and stages one operation that names them. In each case
the group goes on, no Cabinet changes, and nothing else changes beyond what performing the group's stores and reading the descriptors did. KV.WAIT
with no gather on its way lets the group go on, and otherwise the group waits for every gather issued before; nothing else changes. -/
def Obligations.KvInstructionsStageOrSend : Prop :=
  ∀ (a : KInstr) (s : State) (k : KCtx),
    let n := s.fuse.part.stackCount
    let m1 := (k.descs s.m n).1
    let bs := k.descBytes s.m n
    let c := m1.core k.s k.L
    (∀ x ∈ [(Instr.kvFork a, 0x02, kvForkOk), (Instr.kvFree a, 0x03, kvFreeOk), (Instr.kvTrunc a, 0x04, kvTruncOk)], Issues a s 0x13 x.2.1 k →
      SoloReady k s.m n () (plainCheck x.2.2) noMore →
      Lands x.1 s (fun t => Becomes k { s with m := m1 } t (k.goesOn { c with
        staged := c.staged ++ bs.map (fun b => Staged.keyed (cabOf (KOp.of b).seq) (KOp.of b)) }))) ∧
    (Issues a s 0x13 0x01 k → SoloReady k s.m n () (plainCheck kvGatherOk) noMore →
      Lands (.kvGather a) s (fun t => Becomes k { s with m := m1 } t (k.goesOn { c with kv := bs.foldl (fun x b => x.asked c b) c.kv }))) ∧
    (Issues a s 0x13 0x05 k → SoloReady k s.m n () (plainCheck kvHintOk) noMore →
      Lands (.kvHint a) s (fun t => Becomes k
        { s with m := { m1 with wire := m1.wire ++ bs.map (fun b => Msg.keyed k.s (cabOf (KOp.of b).seq) (KOp.of b)) } } t (k.goesOn c))) ∧
    (Issues a s 0x13 0x00 k →
      SoloReady k s.m n () (plainCheck kvAppendOk) (fun m b => m.kvPoison (localAddr k.s (m.homeOfIndex k.s k.L) 0) b) →
      let m2 := bs.foldl (fun m b => m.kvAppend k.s k.L b) m1
      Lands (.kvAppend a) s (fun t => Becomes k { s with m := m2 } t (k.goesOn (m2.core k.s k.L)) ∧
        (∃ lens : List Nat, lens.length = bs.length ∧ (m2.core k.s k.L).staged = c.staged ++ (bs.zip lens).map (fun e =>
          Staged.keyed (cabOf (KOp.of e.1).seq) { KOp.of e.1 with
            stage := localAddr k.s (m1.homeOfIndex k.s k.L) 0 + fieldAt e.1 0x1C 4, stageLen := e.2 })) ∧
        ∀ u, (t.m.stk u).cabs = (m1.stk u).cabs)) ∧
    (Issues a s 0x13 0x06 k →
      let x := (s.m.core k.s k.L).kv
      (x.gathers = [] → Moves (.kvWait a) s k (k.g.goto (k.g.pc + k.size))) ∧
      (x.gathers ≠ [] → Moves (.kvWait a) s k { k.g with wait := .kv x.nextId }))

/-- A store on its way and an access of any unit are performed at the home of their bytes, or refused with no effect there (R104, R105, R268, R280,
R380, spec/11_integrity.md). In SRAM (regions 0x0 to 0x2), for a canonical memory and rows that have not failed: the nth store on its way from a core,
when it is not held and no earlier store of its group meets its bytes, is written at its address and leaves the core's list, the committed bytes of
SCRATCH under it kept; a write that Table RG-2 allows and nothing holds puts its bytes at its address with correct check bits; every other byte reads
as before, and nothing else changes. A read that is allowed, is not held and meets no failing granule delivers its bytes (those of the reserved area
as Table CD-3 lays it out), and changes nothing else. A refused access changes no memory and is entered in the error log with its address; a refused
host read answers all ones. -/
def Obligations.RequestsPerformedAtHome : Prop :=
  ∀ s : State, s.m.mem.wf = true →
    (∀ (u : StackNo) (L : Fin 832) (n : Nat) (p : PStore), u.val < s.fuse.part.stackCount → (s.m.core u L).stores[n]? = some p → daRegion p.addr ≤ 2 →
      s.m.storeHeld u L p = false → ((s.m.core u L).stores.take n).any (fun q => q.slot = p.slot && rangesMeet (q.addr, q.data.length) (p.addr, p.data.length)) = false →
      (∀ i, i < p.data.length → s.m.rowFailed (p.addr + i) = false) →
      Lands (.accessAtHome (.store u L n)) s (fun t =>
        Sets s t [] (fun m => { m.updCore u L (fun c => { c with
          stores := listErase c.stores n, shadow := ((s.m.keepCommitted u L p.addr p.data.length).core u L).shadow }) with mem := t.m.mem }) ∧
        ∀ b, t.m.mem.byte b = (if p.addr ≤ b ∧ b < p.addr + p.data.length then p.data.getD (b - p.addr) 0 else s.m.mem.byte b) ∧
          t.m.mem.syndrome b = if p.addr ≤ b ∧ b < p.addr + p.data.length then 0 else s.m.mem.syndrome b)) ∧
    (∀ a : MemAcc, let x := accessOf a true
      s.m.accessDeny s.fuse.part.stackCount x = none → daRegion x.addr ≤ 2 → s.m.holds x = false →
      (∀ d, a.data = some d → (∀ i, i < d.length → s.m.rowFailed (x.addr + i) = false) → Lands (.accessAtHome (.access a)) s (fun t =>
        Sets s t [] (fun m => { m with mem := t.m.mem }) ∧
        ∀ b, t.m.mem.byte b = (if x.addr ≤ b ∧ b < x.addr + d.length then d.getD (b - x.addr) 0 else s.m.mem.byte b) ∧
          t.m.mem.syndrome b = if x.addr ≤ b ∧ b < x.addr + d.length then 0 else s.m.mem.syndrome b)) ∧
      (a.data = none → (∀ i, i < x.len → s.m.mem.detects (x.addr + i) = false) → Lands (.accessAtHome (.access a)) s (fun t =>
        let bs := (List.range x.len).map (fun i => s.m.sramByte ((x.addr + i) % 2 ^ 52))
        let v := s.m.reservedView x.addr bs
        t = { s with m := { v.1 with host := { v.1.host with response := v.2, ep := v.2.any (·.poison ≠ 0) } } }))) ∧
    (∀ (a : MemAcc) (d : Deny), let x := accessOf a true
      s.m.accessDeny s.fuse.part.stackCount x = some d → Lands (.accessAtHome (.access a)) s (fun t =>
        t.m.mem = s.m.mem ∧ t.m.tier = s.m.tier ∧ t.m.hostMem = s.m.hostMem ∧ t.fuse = s.fuse ∧ t.pending = s.pending ∧
        (∃ e r, (t.m.stk (if daStack x.addr < s.fuse.part.stackCount then daStack x.addr else 0)).bureau.errLog = e :: r ∧ e.code = 0x0106 ∧ e.addr = x.addr) ∧
        (x.wr = none → x.agent = .host → t.m.host.response = (List.range x.len).map (fun _ => ⟨0xFF, 0⟩))))

/-- An allocating access hits or starts a fill; a streaming access allocates nothing; fills and writebacks complete (R270, R272, R275). For accesses
within one line of region 0x4 that Table RG-2 allows, to a line that is not dead, with no operation outstanding on it, no partition change and no port
reset: an allocating read of a resident, unpinned line whose row is not under test delivers the bytes of its cells, is counted as a lookup and a hit,
and makes the line the most recently used; an allocating access to a missing line starts a fill that holds it, with the writeback of a dirty victim,
on which no operation is outstanding, when its set is full. A streaming read of a missing line of the tier delivers the tier's bytes and allocates
nothing. When a fill with one read held ends, no host request waits and a way is free whose row is not under test, the line takes the free way with
the backing bytes, clean and most recently used, the miss is counted as a lookup, and the read is performed. When a writeback ends of a line none of
whose cells fails, the line's bytes are in the tier and the line has left its way. -/
def Obligations.CacheHitsMissesFillsAndWritebacks : Prop :=
  ∀ (s : State) (a : MemAcc) (al : Bool), let x := accessOf a al
    let u := daStack x.addr
    let L := daOff x.addr / 128
    let h := s.m.home u L
    let cell (c : CLine) := cellAddr u h c.way
    x.oneLine = true → s.m.accessDeny s.fuse.part.stackCount x = none → s.m.isDead u L = false → (s.m.stk u).cache.change = none →
    s.m.getB u Reg.VCP_RESET_STATUS_IN_RESET = false → s.m.host.bar4 = [] →
    (s.m.lineBusy u L = false →
      (al = true → ∀ c, s.m.cline u L = some c → c.pinned = false → a.data = none → s.m.rowTesting (cell c) = false →
        (∀ i, i < x.len → s.m.mem.detects (cell c + x.addr % 128 + i) = false) →
        s.m.getF u Reg.CDIE_LOOKUPS_LOOKUPS h.half + 1 < 2 ^ 48 → s.m.getF u Reg.CDIE_HITS_HITS h.half + 1 < 2 ^ 48 →
        Lands (.allocatingAccess a) s (fun t =>
          let bs := (List.range x.len).map (fun i => s.m.sramByte (cell c + x.addr % 128 + i))
          Sets s t [(u, Reg.CDIE_LOOKUPS_LOOKUPS, h.half, s.m.getF u Reg.CDIE_LOOKUPS_LOOKUPS h.half + 1),
              (u, Reg.CDIE_HITS_HITS, h.half, s.m.getF u Reg.CDIE_HITS_HITS h.half + 1)]
            (fun m => { m.updCache u (fun k => { k with
              lines := k.lines.filter (fun d => d.line = L) ++ k.lines.filter (fun d => d.line ≠ L)
              winLook := k.winLook.modify (· + 1) h.half, winHits := k.winHits.modify (· + 1) h.half }) with
              host := { m.host with response := bs, ep := bs.any (·.poison ≠ 0) } }))) ∧
      (al = true → s.m.cline u L = none →
        ((s.m.freeWay u h).isSome → Lands (.allocatingAccess a) s (fun t =>
          Sets s t [] (fun m => m.updCache u (fun k => { k with outst := k.outst ++ [⟨L, .fill, [x]⟩] })))) ∧
        (∀ v, s.m.freeWay u h = none → s.m.victim u h = some v → v.dirty = true → s.m.lineBusy u v.line = false → Lands (.allocatingAccess a) s (fun t =>
          Sets s t [] (fun m => m.updCache u (fun k => { k with outst := k.outst ++ [⟨v.line, .writeback, []⟩] ++ [⟨L, .fill, [x]⟩] }))))) ∧
      (al = false → s.m.cline u L = none → daOff x.addr < 2 ^ 45 → a.data = none → Lands (.streamingAccess a) s (fun t =>
        let bs := (List.range x.len).map (fun i => s.m.tier.readByte (x.addr + i))
        t = { s with m := { s.m with host := { s.m.host with response := bs, ep := bs.any (·.poison ≠ 0) } } }))) ∧
    (∀ w, s.m.outstOf u L .fill = some ⟨L, .fill, [x]⟩ → (∀ o ∈ (s.m.stk u).cache.outst, o.line = L → o.kind = .fill) →
      s.m.rowTesting (cellAddr u h w) = false → s.m.cline u L = none → a.data = none → s.m.freeWay u h = some w →
      s.m.mem.wf = true → s.m.rowFailed (cellAddr u h w) = false → s.m.getF u Reg.CDIE_LOOKUPS_LOOKUPS h.half + 1 < 2 ^ 48 →
      Lands (.lineFillDone ⟨⟨u % 4, by omega⟩, BitVec.ofNat 39 L⟩) s (fun t =>
        Sets s t [(u, Reg.CDIE_LOOKUPS_LOOKUPS, h.half, s.m.getF u Reg.CDIE_LOOKUPS_LOOKUPS h.half + 1)]
          (fun m => { m.updCache u (fun k => { k with
            lines := ⟨L, w, false, false, false⟩ :: k.lines, outst := k.outst.filter (fun o => !(o.line = L && o.kind = .fill))
            winLook := k.winLook.modify (· + 1) h.half }) with
            mem := s.m.mem.write (cellAddr u h w) (s.m.backing u L), host := { m.host with response := t.m.host.response, ep := t.m.host.ep } }) ∧
        t.m.host.response = (List.range x.len).map (fun i => t.m.sramByte (cellAddr u h w + x.addr % 128 + i)))) ∧
    (∀ c, s.m.outstOf u L .writeback = some ⟨L, .writeback, []⟩ → s.m.cline u L = some c → c.dirty = true → c.held = false → c.pinned = false →
      s.m.dirBlocks u L (s.m.lineBytes u c) = false → (∀ i, i < 128 → s.m.mem.detects (cell c + i) = false) →
      Lands (.writebackDone ⟨⟨u % 4, by omega⟩, BitVec.ofNat 39 L⟩) s (fun t =>
        Sets s t [(u, Reg.LPD_POISON_DIR_ENTRIES, 0, (t.m.poisonLines u).length), (u, Reg.LPD_POISON_DIR_HELD, 0, ((t.m.stk u).cache.lines.filter (·.held)).length)]
          (fun m => { m.updCache u (fun k => { k with
            lines := k.lines.filter (fun d => d.line ≠ L), outst := k.outst.filter (fun o => !(o.line = L && o.kind = .writeback)) }) with
            tier := s.m.tier.write (devAddr u 4 (L * 128)) (s.m.lineBytes u c) })))

/-- Dead declarations, thrash windows, shelf pins and partition changes end as the cache die's rules say (R270, R273, R275, R276, R281, R266, R333). A
dead declaration of an unpinned line that has no entry and that nothing holds, in a half whose table has room while a plan is on, is counted as a
lookup (and a hit of a resident line), removes the line without writeback, enters it in the dead table and counts it. A thrash window closes in both
halves: the counts restart; a half with fewer lookups than MIN_LOOKUPS or no run length is unchanged; any other takes its ratio, and a run of low
windows that reaches RUN_LEN sets THRASH, counts an event and starts again at 0. A shelf pin under way whose lines are all resident, with no operation
outstanding on one, pins each of them and ends, and its deferred command completes with status 0. A partition change under way with no dirty line, no
shelf and no held access empties both partitions and dead tables, applies the new counts with the bays of R266 and the ways that failed rows take from
them, clears BUSY, and its deferred command completes with status 0. -/
def Obligations.DeadLinesWindowsShelvesAndPartitions : Prop :=
  ∀ (s : State) (u : StackNo), u.val < s.fuse.part.stackCount →
    (∀ l : BitVec 39, let h := (s.m.home u l.toNat).half
      let res := (s.m.cline u l.toNat).isSome
      s.m.planOn u = true → s.m.deadHeld u l.toNat = false → s.m.isDead u l.toNat = false →
      s.m.getF u Reg.CDIE_LOOKUPS_LOOKUPS h + 1 < 2 ^ 48 → s.m.getF u Reg.CDIE_HITS_HITS h + 1 < 2 ^ 48 → s.m.deadCount u h < 32768 → (∀ c, s.m.cline u l.toNat = some c → c.pinned = false) →
      Lands (.deadDeclaration ⟨u, l⟩) s (fun t =>
        Sets s t [(u, Reg.CDIE_LOOKUPS_LOOKUPS, h, s.m.getF u Reg.CDIE_LOOKUPS_LOOKUPS h + 1),
            (u, Reg.CDIE_HITS_HITS, h, s.m.getF u Reg.CDIE_HITS_HITS h + res.toNat), up s u Reg.CDIE_DEAD_STATUS_DECLARED h, (u, Reg.CDIE_DEAD_STATUS_ENTRIES, h, s.m.deadCount u h + 1),
            (u, Reg.LPD_POISON_DIR_ENTRIES, 0, (s.m.poisonLines u).length), (u, Reg.LPD_POISON_DIR_HELD, 0, ((t.m.stk u).cache.lines.filter (·.held)).length)]
          (fun m => { m.updCache u (fun k => { k with
            winLook := k.winLook.modify (· + 1) h, winHits := if res then k.winHits.modify (· + 1) h else k.winHits
            lines := k.lines.filter (fun c => c.line ≠ l.toNat)
            dead := k.dead ++ [l.toNat] }) with
            wire := m.wire.erase (.dead (devAddr u 4 (l.toNat * 128))) }))) ∧
    (let look (h : Nat) := (s.m.stk u).cache.winLook.get 0 h
     let hits (h : Nat) := (s.m.stk u).cache.winHits.get 0 h
     let quiet (h : Nat) : Bool := look h < s.m.getF u Reg.CDIE_THRASH_CFG_MIN_LOOKUPS h || s.m.getF u Reg.CDIE_THRASH_CFG_RUN_LEN h == 0
     let run (h : Nat) := if hits h * 256 < s.m.getF u Reg.CDIE_THRASH_CFG_THRESHOLD h * look h then s.m.getF u Reg.CDIE_THRASH_STATUS_RUN h + 1 else 0
     let fires (h : Nat) : Bool := !quiet h && decide (s.m.getF u Reg.CDIE_THRASH_CFG_RUN_LEN h ≤ run h)
     let fields (h : Nat) : List FieldVal := [
       (u.val, Reg.CDIE_THRASH_STATUS_LAST_RATIO, h, if quiet h then s.m.getF u Reg.CDIE_THRASH_STATUS_LAST_RATIO h else if look h = 0 then 0 else min 255 (256 * hits h / look h)),
       (u.val, Reg.CDIE_THRASH_STATUS_RUN, h, if quiet h then s.m.getF u Reg.CDIE_THRASH_STATUS_RUN h else if fires h then 0 else run h)] ++
       (if fires h then [(u.val, Reg.CDIE_THRASH_STATUS_THRASH, h, 1), up s u Reg.CDIE_THRASH_STATUS_EVENTS h] else [])
     (∀ h, h < 2 → s.m.getF u Reg.CDIE_THRASH_STATUS_RUN h < 16 ∧ s.m.getF u Reg.CDIE_THRASH_STATUS_LAST_RATIO h < 256) →
     Lands (.thrashWindow ⟨u⟩) s (fun t => Ends s t (fields 0 ++ fields 1)
       (fun m => m.updCache u (fun k => { k with winLook := ⟨0, 0⟩, winHits := ⟨0, 0⟩ })))) ∧
    (∀ (i : Fin 64) (k : Shelf), (s.m.stk u).cache.shelves.find? (fun k => k.id = i.val) = some k → (s.m.stk u).cache.pinning.contains i.val = true →
      (s.m.stk u).cache.change = none → (∀ L ∈ k.lineList, (s.m.cline u L).isSome ∧ s.m.lineBusy u L = false) →
      Lands (.shelfPinDone ⟨u, i⟩) s (fun t => EndsCompleting s t
        ((List.range 2).map (fun h => (u.val, Reg.CDIE_PART_STATUS_PINNED_LINES, h,
          ((s.m.stk u).cache.lines.filter (fun c => (c.pinned || k.lineList.contains c.line) && (s.m.home u c.line).half = h)).length)))
        (fun m => m.updCache u (fun c => { c with
          lines := c.lines.map (fun l => if k.lineList.contains l.line then { l with pinned := true } else l)
          pinning := c.pinning.filter (fun j => j ≠ i.val) }))
        0x0401 (fun r => r.stack = u && fieldAt r.payload 0 1 = i.val) 0)) ∧
    (∀ cw ce : Nat, (s.m.stk u).cache.change = some (cw, ce) → (s.m.stk u).cache.lines.any (·.dirty) = false → (s.m.stk u).cache.shelves = [] →
      (s.m.stk u).cache.outst.flatMap (·.held) = [] → (s.m.stk u).cache.heldAll = [] → s.m.host.bar4 = [] →
      Lands (.partitionChangeDone ⟨u⟩) s (fun t => EndsCompleting s t
        ([(u.val, Reg.CDIE_PART_STATUS_CACHE_NOW, 0, cw), (u.val, Reg.CDIE_PART_STATUS_CACHE_NOW, 1, ce), (u.val, Reg.CDIE_PART_STATUS_CACHE_BAYS, 0, 26 * cw),
          (u.val, Reg.CDIE_PART_STATUS_CACHE_BAYS, 1, 26 * ce), (u.val, Reg.CDIE_PART_STATUS_FIRST_CACHE_BAY, 0, rankBay 0 (26 * (16 - cw))),
          (u.val, Reg.CDIE_PART_STATUS_FIRST_CACHE_BAY, 1, rankBay 1 (26 * (16 - ce))), (u.val, Reg.LPD_POISON_DIR_ENTRIES, 0, (s.m.poisonLines u).length),
          (u.val, Reg.LPD_POISON_DIR_HELD, 0, 0)] ++
         (List.range 2).flatMap (fun h => [(u.val, Reg.CDIE_DEAD_STATUS_ENTRIES, h, 0), (u.val, Reg.CDIE_PART_STATUS_PINNED_LINES, h, 0),
           (u.val, Reg.CDIE_PART_STATUS_BUSY, h, 0)]))
        (fun m => m.updCache u (fun k => { k with
            lines := [], dead := [], outst := [], change := none, heldAll := []
            lostWays := (s.m.stk u).integ.failed.flatMap (waysOf (t.m.cacheCount u 0) (t.m.cacheCount u 1)) }))
        0x0403 (fun r => r.stack = u) 0))

/-- Tests start and end, Hawkmoth walks, a clean range scrub completes, a consumed granule is restored (R317, R320, R321, R322, R323, R324, R327,
R292, spec/11_integrity.md). SKIPPER_TEST_START moves the first queued test that may start to the running ones while fewer than 16 run; a coupler
group goes out of service, TESTING. SKIPPER_TEST_END of a row whose cells all pass, with fewer than three earlier outcomes kept and no access waiting,
is READ_PATH: recorded in BUR_SKIPPER_LAST, counted and kept for R322; memory is unchanged. A coupler group that passes, itself and its port not
retired, returns to service with the same outcome. HAWKMOTH_STEP, enabled and with no range active, reads a row that is not under test and moves on in
the order row, slice, bay; a failing row is counted and its test queued. SCRUB_RANGE_DONE of the range that a half serves, when it has not read it yet
and the range has no marked cell, counts its lines of that half as checked; the range goes on in the other half if it has rows there, and else ends,
its command completing with the summary. RESTORATION takes the lowest of the granules that cores have consumed, of each core its lowest one when that
waits for no test and no data; where Table IN-4 gives clean bytes for it outside region 0x4, they are written to it, and it is counted. -/
def Obligations.SkipperHawkmothScrubAndRestoration : Prop :=
  ∀ (s : State) (u : StackNo), u.val < s.fuse.part.stackCount →
    let g := (s.m.stk u).integ
    let is (k i : Nat) (t : SkTest) : Bool := t.kind = k && t.index = i
    (∀ t, g.running.length < 16 → g.queue.find? (s.m.testMayStart u) = some t → t.index < 27648 ∨ t.kind ≠ 2 →
      let p := t.index / 32
      let n := t.index % 32
      Lands (.skipperTestStart ⟨u⟩) s (fun t' => Sets s t' ([(u.val, Reg.BUR_SKIPPER_STATUS_ACTIVE, 0, g.running.length + 1),
          (u.val, Reg.BUR_SKIPPER_STATUS_QUEUED, 0, (g.queue.erase t).length)] ++
        (if t.kind = 2 then [(u.val, Reg.VCP_GROUP_TESTING, t.index, 1), (u.val, Reg.VCP_PORT_TESTING, p, 1),
          (if n < 16 then (u.val, Reg.VCP_PORT_READ_ACTIVE, p, putBit (s.m.getF u Reg.VCP_PORT_READ_ACTIVE p) n false)
           else (u.val, Reg.VCP_PORT_WRITE_ACTIVE, p, putBit (s.m.getF u Reg.VCP_PORT_WRITE_ACTIVE p) (n - 16) false))] else []))
        (fun m => m.updStk u (fun k => { k with integ := { k.integ with queue := k.integ.queue.erase t, running := k.integ.running ++ [t] } })))) ∧
    (∀ (e : TestEnd) (t : SkTest) (a : Nat), e.stack = u → e.result = .pass → g.running[e.nth.val]? = some t →
      g.held = [] → s.m.host.bar4 = [] → s.m.host.bar0 = [] →
      (g.history.filter (fun h => decide (s.m.now u < h.time + historySpan) && (h.kind = t.kind && h.index = t.index))).length < 3 →
      let last (o : Nat) : List FieldVal := [(u.val, Reg.BUR_SKIPPER_LAST_KIND, 0, t.kind), (u.val, Reg.BUR_SKIPPER_LAST_INDEX, 0, t.index),
        (u.val, Reg.BUR_SKIPPER_LAST_OUTCOME, 0, o), (u.val, Reg.BUR_SKIPPER_LAST_DURATION, 0, e.us.toNat), (u.val, Reg.BUR_SKIPPER_LAST_VALID, 0, 1),
        up s u Reg.BUR_SKIPPER_STATUS_TESTS, (u.val, Reg.BUR_SKIPPER_STATUS_ACTIVE, 0, (g.running.erase t).length),
        (u.val, Reg.BUR_SKIPPER_STATUS_QUEUED, 0, g.queue.length)]
      let kept (m : Mach) : Mach := m.updStk u (fun k => { k with integ := { k.integ with
        running := k.integ.running.erase t
        history := k.integ.history.filter (fun h => decide (s.m.now u < h.time + historySpan)) ++ [⟨t.kind, t.index, s.m.now u⟩] } })
      ((t.kind = 1 ∨ t.kind = 7 ∨ t.kind = 8) → s.m.rowAddr u t.kind t.index = some a → s.m.failingGranules a [] = [] →
        Lands (.skipperTestEnd e) s (fun t' => Ends s t' (last 1) kept)) ∧
      (t.kind = 2 → t.index < 27648 → s.m.getB u Reg.VCP_GROUP_RETIRED t.index = false → s.m.getB u Reg.VCP_PORT_RETIRED (t.index / 32) = false →
        Lands (.skipperTestEnd e) s (fun t' => Ends s t' (last 1 ++ [(u.val, Reg.VCP_GROUP_TESTING, t.index, 0),
          (u.val, Reg.VCP_PORT_TESTING, t.index / 32, ((List.range 32).any (fun n => t'.m.getB u Reg.VCP_GROUP_TESTING (groupIndex (t.index / 32) n))).toNat),
          (if t.index % 32 < 16 then
            (u.val, Reg.VCP_PORT_READ_ACTIVE, t.index / 32, putBit (s.m.getF u Reg.VCP_PORT_READ_ACTIVE (t.index / 32)) (t.index % 32) true)
           else (u.val, Reg.VCP_PORT_WRITE_ACTIVE, t.index / 32, putBit (s.m.getF u Reg.VCP_PORT_WRITE_ACTIVE (t.index / 32)) (t.index % 32 - 16) true))]) kept))) ∧
    (∀ h : Fin 2, s.m.getB u Reg.CDIE_SCRUB_CFG_ENABLE h = true → s.m.getB u Reg.CDIE_SCRUB_STATUS_RANGE_ACTIVE h = false →
      let rank := s.m.getF u Reg.CDIE_SCRUB_STATUS_RANK h
      let slice := s.m.getF u Reg.CDIE_SCRUB_STATUS_SLICE h
      let row := s.m.getF u Reg.CDIE_SCRUB_STATUS_ROW h
      let off := rankBay h rank * 0x20_0000 + slice * 0x2_0000 + row * 256
      let next : List FieldVal := if row < 519 then [(u.val, Reg.CDIE_SCRUB_STATUS_ROW, h.val, row + 1)]
        else if slice < 15 then [(u.val, Reg.CDIE_SCRUB_STATUS_ROW, h.val, 0), (u.val, Reg.CDIE_SCRUB_STATUS_SLICE, h.val, slice + 1)]
        else if rank < 431 then [(u.val, Reg.CDIE_SCRUB_STATUS_ROW, h.val, 0), (u.val, Reg.CDIE_SCRUB_STATUS_SLICE, h.val, 0), (u.val, Reg.CDIE_SCRUB_STATUS_RANK, h.val, rank + 1)]
        else [(u.val, Reg.CDIE_SCRUB_STATUS_ROW, h.val, 0), (u.val, Reg.CDIE_SCRUB_STATUS_SLICE, h.val, 0), (u.val, Reg.CDIE_SCRUB_STATUS_RANK, h.val, 0),
          (u.val, Reg.CDIE_SCRUB_STATUS_PASSES, h.val, s.m.getF u Reg.CDIE_SCRUB_STATUS_PASSES h + 1)]
      let i := rowIndex off
      (row < 512 → s.m.rowTesting (devAddr u 0 off) = false →
        (s.m.failingGranules (devAddr u 0 off) [] = [] →
          Lands (.hawkmothStep ⟨u, h, false⟩) s (fun t => Sets s t ((u.val, Reg.CDIE_SCRUB_STATUS_WAITING, h.val, 0) :: next))) ∧
        (s.m.failingGranules (devAddr u 0 off) [] ≠ [] → g.running.any (is 1 i) = false → g.queue.any (is 1 i) = false → g.queue.length < 1024 →
          Lands (.hawkmothStep ⟨u, h, false⟩) s (fun t => Sets s t ((u.val, Reg.CDIE_SCRUB_STATUS_WAITING, h.val, 0) :: up s u Reg.CDIE_SCRUB_COUNT_ERRORS h ::
            (u.val, Reg.BUR_SKIPPER_STATUS_ACTIVE, 0, g.running.length) :: (u.val, Reg.BUR_SKIPPER_STATUS_QUEUED, 0, g.queue.length + 1) :: next)
            (fun m => m.updStk u (fun k => { k with integ := { k.integ with queue := k.integ.queue ++ [⟨1, i, 0⟩] } }))))) ∧
      (512 ≤ row → Lands (.hawkmothStep ⟨u, h, false⟩) s (fun t => Sets s t next))) ∧
    (∀ (h : Fin 2) (x : Scrub), s.m.served u h = some x → x.scanned.contains h.val = false → s.m.markedIn u x.start x.len = [] →
      let y := { x with checked := x.checked + x.linesIn h, scanned := x.scanned ++ [h.val], done := x.done ++ [h.val] }
      let active (l : List Scrub) : List FieldVal := (List.range 2).map (fun j =>
          (u.val, Reg.CDIE_SCRUB_STATUS_RANGE_ACTIVE, j, (l.find? (fun z => z.halves.contains j)).isSome.toNat)) ++
        [(u.val, Reg.BUR_SKIPPER_STATUS_ACTIVE, 0, g.running.length), (u.val, Reg.BUR_SKIPPER_STATUS_QUEUED, 0, g.queue.length)]
      (y.halves ≠ [] → Lands (.scrubRangeDone ⟨u, h⟩) s (fun t => Sets s t (active (g.scrubs.map (fun z => if z = x then y else z)))
        (fun m => m.updStk u (fun k => { k with integ := { k.integ with scrubs := k.integ.scrubs.map (fun z => if z = x then y else z) } })))) ∧
      (y.halves = [] → ∀ b, x.mbox = some b → Lands (.scrubRangeDone ⟨u, h⟩) s (fun t => EndsCompleting s t (active (g.scrubs.erase x))
        (fun m => m.updStk u (fun k => { k with integ := { k.integ with scrubs := k.integ.scrubs.erase x } }))
        0x0501 (fun q => q.mbox = b) 0 (Scrub.summary u y)))) ∧
    (∀ (c : Consumed) (b : List PByte), c ∈ s.m.restorable u → (∀ d ∈ s.m.restorable u, d ≠ c → c.addr < d.addr) → c.asked = false →
      s.m.sourceOf u c.core (c.addr / 8 * 8) = .bytes b →
      daRegion (c.addr / 8 * 8) ≠ 4 → s.m.rowFailed (c.addr / 8 * 8) = false →
      Lands (.restoration ⟨u⟩) s (fun t => Sets s t [up s u Reg.BUR_RECOVERY_COUNT_RESTORED, (u.val, Reg.BUR_SKIPPER_STATUS_ACTIVE, 0, g.running.length),
          (u.val, Reg.BUR_SKIPPER_STATUS_QUEUED, 0, g.queue.length)]
        (fun m => { m.updStk u (fun k => { k with integ := { k.integ with
          consumed := k.integ.consumed.filter (fun d => d.addr / 8 * 8 ≠ c.addr / 8 * 8) } }) with mem := m.mem.write (c.addr / 8 * 8) b })))

/-- A missed watchdog resets the Bureau and interrupts its commands; the restart tells the host (R330, R331, R438). BUREAU_WATCHDOG_MISS of a Bureau
that is neither held, restarting nor in device Stop, with fewer than two resets within the last 10 s, counts the restart, records its time, and keeps
the commands that it interrupts: for stack 0 all that are queued or deferred, for another stack the deferred ones of that stack. BUREAU_RESTART_DONE,
with no command interrupted and no latched edge, ends the restart and reports BUREAU_RESTARTED with the count; a Bureau reset during a start stands at
stage 1 again. -/
def Obligations.BureauWatchdogAndRestart : Prop :=
  ∀ (s : State) (u : StackNo), u.val < s.fuse.part.stackCount → s.m.getB u Reg.BUR_STATUS_HALTED = false →
    ((s.m.stk u).bureau.restarting = false → s.m.getF 0 Reg.AON_WAKE_STATUS_STATE ≠ 2 →
      let recent := (s.m.stk u).integ.resets.filter (fun r => decide (s.m.now u < r + 10 * 10 ^ 9))
      let hit := if u.val = 0 then s.m.host.mbxQueue.map (fun q => s.m.request s.fuse.part.stackCount q.1 q.2) ++ s.m.host.deferred
        else s.m.host.deferred.filter (fun r => r.stack = u.val)
      recent.length < 2 →
      Lands (.bureauWatchdogMiss ⟨u⟩) s (fun t => Sets s t [up s u Reg.BUR_STATUS_RESTARTS, (u.val, Reg.BUR_SKIPPER_STATUS_ACTIVE, 0, (s.m.stk u).integ.running.length),
          (u.val, Reg.BUR_SKIPPER_STATUS_QUEUED, 0, (s.m.stk u).integ.queue.length)]
        (fun m => { m.updStk u (fun k => { k with
          integ := { k.integ with resets := recent ++ [s.m.now u] }
          bureau := { k.bureau with restarting := true, interrupted := k.bureau.interrupted ++ hit } }) with
          host := if u.val = 0 then { m.host with mbxQueue := [], deferred := [] } else { m.host with deferred := m.host.deferred.filter (fun r => r.stack ≠ u.val) } }))) ∧
    ((s.m.stk u).bureau.restarting = true → (s.m.stk u).bureau.interrupted = [] → (s.m.stk u).bureau.latches = [] →
      Lands (.bureauRestartDone ⟨u⟩) s (fun t => Ends s t (if s.m.starting u then [(u.val, Reg.BUR_BOOT_STATUS_STAGE, 0, 1)] else [])
          (fun m => m.updStk u (fun k => { k with bureau := { k.bureau with restarting := false } })) ∧
        Told t u 0x0012 [s.m.getF u Reg.BUR_STATUS_RESTARTS]))

/-- A chunk that passes crosses unchanged; one that fails, and a handshake that fails, is an error of its group (R283, R285, R287, R288, R289, R290,
R296, R297, R304, R308, R314). While the ports are not in reset, the chunk of a granule of the stack's cells crosses on the group that R283 gives it.
With no flip the core receives its bytes, poison form included, and nothing else changes. A chunk whose class is a detected error arrives with the
poison kind of its class; a clean chunk with fewer than five changed bytes, one of which its check shows, is such a one, of kind VERTICAL. With a
handshake mismatch every granule of the row transfer arrives as VERTICAL poison. A write transfer of one row, of allocated cells of region 0x0 and not
held, is performed whole when no chunk has an error: its bytes are at their addresses with correct check bits, or the store of the core that it
carries is performed. With an error on one chunk, or a timeout of its group, nothing is written; the write of the token and credit unit stays
unacknowledged, and a unit that runs on the core at that position aborts. Every error, and a handshake timeout of a group in use, is counted in the
group's ERRORS, recorded in VCP_LAST_EVENT, raised as source 5, logged with code 0x0102, and queues the group's test; of a service group the event is
kind 8, the count its own, and the test that of the core's service group. A timeout of a read group poisons the row that it leaves incomplete. -/
def Obligations.ChunksAndHandshakes : Prop :=
  ∀ (s : State) (u : StackNo) (p : PhysId), u.val < s.fuse.part.stackCount → s.m.getB u Reg.VCP_RESET_STATUS_IN_RESET = false →
    let g0 := (s.m.stk u).integ
    let L := s.m.getF u Reg.CORE_IDENT_LOGICAL p
    let event (n kind : Nat) : List FieldVal := [(u.val, Reg.VCP_LAST_EVENT_POSITION, 0, p.val), (u.val, Reg.VCP_LAST_EVENT_GROUP, 0, n),
      (u.val, Reg.VCP_LAST_EVENT_COUPLER, 0, 0x7F), (u.val, Reg.VCP_LAST_EVENT_KIND, 0, kind), (u.val, Reg.VCP_LAST_EVENT_VALID, 0, 1), up s u Reg.VCP_LAST_EVENT_EVENTS,
      (u.val, Reg.BUR_SKIPPER_STATUS_ACTIVE, 0, g0.running.length), (u.val, Reg.BUR_SKIPPER_STATUS_QUEUED, 0, g0.queue.length + 1)]
    let fails (n kind : Nat) : List FieldVal := up s u Reg.VCP_GROUP_ERRORS (groupIndex p n) :: event n kind
    let queued (k i : Nat) (m : Mach) : Mach := m.updStk u (fun x => { x with integ := { x.integ with queue := x.integ.queue ++ [⟨k, i, 0⟩] } })
    let fresh (k i : Nat) : Prop := g0.running.any (fun t => t.kind = k && t.index = i) = false ∧
      g0.queue.any (fun t => t.kind = k && t.index = i) = false ∧ g0.queue.length < 1024
    let told (t : State) (n kind : Nat) : Prop := ∃ e r, (t.m.stk u).bureau.errLog = e :: r ∧ e.code = 0x0102 ∧ e.index = p.val ∧ e.detail = [n, kind]
    let served (dir : Nat) (m : Mach) : Mach := m.updVcp u (fun v => { v with service := SMap.put v.service (p * 2 + dir) (SMap.getD v.service (p * 2 + dir) 0 + 1) })
    let refused (tok : Bool) (n kind : Nat) (c : Instr) : Prop := fresh 2 (groupIndex p n) →
      (tok = true → Lands c s (fun t => Ends s t (fails n kind) (fun m =>
        queued 2 (groupIndex p n) (m.updVcp u (fun v => { v with unwritten := v.unwritten.filter (· ≠ p.val) ++ [p.val] }))) ∧ told t n kind)) ∧
      (tok = false → (L = 0x3FF ∨ s.m.coreGoes u L = false) → Lands c s (fun t => Ends s t (fails n kind) (queued 2 (groupIndex p n)) ∧ told t n kind)) ∧
      (tok = false → L ≠ 0x3FF → s.m.coreGoes u L = true → (s.m.core u L).aborts + 1 < 8 → Lands c s (fun t =>
        t.fuse = s.fuse ∧ t.pending = s.pending ∧ t.m.mem = s.m.mem ∧ t.m.tier = s.m.tier ∧ t.m.hostMem = s.m.hostMem ∧ SameCores s t u L ∧
        Holds t (fails n kind) ∧ (t.m.stk u).integ = { g0 with queue := g0.queue ++ [⟨2, groupIndex p n, 0⟩] } ∧ told t n kind ∧
        (t.m.core u L).halt = .aborted ∧ (t.m.core u L).aborts = (s.m.core u L).aborts + 1 ∧ (t.m.core u L).groups = [] ∧ (t.m.core u L).stores = [] ∧
        (t.m.core u L).rcd = (s.m.core u L).rcd ∧ (t.m.core u L).script = (s.m.core u L).rcd.script))
    let serviceFails (dir kind : Nat) (c : Instr) : Prop := Lands c s (fun t =>
      Ends s t (event 0 8) (fun m => queued 3 p (served dir m)) ∧ told t (32 + dir) kind)
    (∀ (a : BitVec 52) (c g : Nat) (flips : List (Byte × BitVec 2)),
      let g8 := a.toNat / 8 * 8
      let bs := (List.range 8).map (fun i => s.m.sramByte (c + i))
      let k := (portBytes g8 bs flips).portClass g8
      let lost := (List.range 8).map (fun _ => (⟨0, k.1⟩ : PByte))
      s.m.portCell u g8 = some c → s.m.chunkGroup u p 0 (c % 256 / 8) = some g → s.m.mem.detects c = false →
      Lands (.chunkReceive ⟨u, p, a, [], false, false⟩) s (fun t => Sets s t [] (fun m => m.updVcp u (fun v => { v with chunk := bs }))) ∧
      (bs.all (fun b => b.poison = 0) = true → ((flips.take 8).filter (fun f => f ≠ (0, 0))).length < 5 →
        (flips.take 8).any (fun f => flipDetected f.1 f.2) = true → k = (2, true)) ∧
      (k.2 = true → fresh 2 (groupIndex p g) → Lands (.chunkReceive ⟨u, p, a, flips, false, false⟩) s (fun t =>
        Ends s t (fails g 1) (fun m => queued 2 (groupIndex p g) ((if lost = bs then m else m.arrive u [(p.val, g8, lost)]).updVcp u (fun v => { v with chunk := lost }))) ∧
        told t g 1)) ∧
      (fresh 2 (groupIndex p g) → Lands (.chunkReceive ⟨u, p, a, flips, true, false⟩) s (fun t =>
        Ends s t (fails g 2) (fun m => queued 2 (groupIndex p g) ((m.arrive u ((rowGranules g8).map (lostGranule p))).updVcp u (fun v => { v with
          chunk := (lostGranule p g8).2.2 }))) ∧ told t g 2))) ∧
    (∀ (a : BitVec 52) (bytes : List (Byte × BitVec 2)) (mis : Option (Fin 32)) (tok : Bool),
      let l := (bytes.take (256 - a.toNat % 256)).map (fun e => wbyte e.1 e.2)
      daRegion a.toNat = 0 → daStack a.toNat = u → (s.m.chunkGroup u p 1 0).isSome = true → s.m.accessHeld true a.toNat l.length true = false →
      let there (i : Nat) : Bool := decide (a.toNat ≤ i) && decide (i < a.toNat + l.length)
      let repeats (m : Mach) : Mach := m.updVcp u (fun v => { v with unwritten := v.unwritten.filter (· ≠ p.val) })
      (writeErrors a.toNat l (mis.map Fin.val) = [] → (∀ i, i < l.length → s.m.rowFailed (a.toNat + i) = false) → s.m.mem.wf = true →
        (∀ q ∈ (s.m.core u L).stores, tok = false → q.addr ≠ a.toNat) → Lands (.writeChunkReceive ⟨u, p, a, bytes, mis, tok, false⟩) s (fun t =>
        Sets s t [] (fun m => { (if tok then repeats m else m) with mem := t.m.mem }) ∧
        ∀ i, (t.m.mem.byte i, t.m.mem.syndrome i) = (match there i, l[i - a.toNat]? with
          | true, some (.data b) => (b, 0)
          | _, _ => (s.m.mem.byte i, s.m.mem.syndrome i)))) ∧
      (∀ (j : Nat) (d : List Byte), bytes = d.map (fun b => (b, 0)) → d.length ≤ 256 - a.toNat % 256 → d ≠ [] → mis = none →
        (s.m.core u L).stores.findIdx? (fun q => q.addr = a.toNat && q.data = d) = some j →
        exec (.writeChunkReceive ⟨u, p, a, bytes, mis, false, false⟩) s = .next { s with m := s.m.storeHome u L j }) ∧
      (∀ i kind g, writeErrors a.toNat l (mis.map Fin.val) = [(i, kind)] → s.m.chunkGroup u p 1 i = some g →
        refused tok g kind (.writeChunkReceive ⟨u, p, a, bytes, mis, tok, false⟩))) ∧
    (∀ (n : Fin 34) (row : Option (BitVec 52)), n.val < 32 → s.m.groupUsed u p n = true → fresh 2 (groupIndex p n) → (16 ≤ n.val → row = none) → Lands (.handshakeTimeout ⟨u, p, n, row⟩) s (fun t =>
      Ends s t (fails n 3) (fun m => queued 2 (groupIndex p n) (match row with
        | some a => m.arrive u ((rowGranules a.toNat).map (lostGranule p))
        | none => m)) ∧ told t n 3)) ∧
    (∀ (n : Fin 34) (a : BitVec 52), 16 ≤ n.val → n.val < 32 → s.m.groupUsed u p n = true →
      refused (daRegion a.toNat = 0 && (reservedOff (daOff a.toNat)).isSome) n 3 (.handshakeTimeout ⟨u, p, n, some a⟩)) ∧
    (fresh 3 p →
      (∀ (dir : Fin 2) (row : Option (BitVec 52)), serviceFails dir 3 (.handshakeTimeout ⟨u, p, ⟨32 + dir.val, by omega⟩, row⟩)) ∧
      (∀ (a : BitVec 52) (flips : List (Byte × BitVec 2)), flips.any (fun f => flipDetected f.1 f.2) = true →
        serviceFails 0 1 (.chunkReceive ⟨u, p, a, flips, false, true⟩) ∧ ∀ tok, serviceFails 1 1 (.writeChunkReceive ⟨u, p, a, flips, none, tok, true⟩)) ∧
      (∀ (a : BitVec 52) (flips : List (Byte × BitVec 2)) (i : Fin 32), serviceFails 0 2 (.chunkReceive ⟨u, p, a, flips, true, true⟩) ∧
        ∀ tok, serviceFails 1 2 (.writeChunkReceive ⟨u, p, a, flips, some i, tok, true⟩)))

/-- A spare carries a failed coupler, port resets resynchronise group by group, an index moves to its chrysalis core (R25, R31, R75, R291, R292, R301,
R302, R303). SPARE_MAP_DONE of a group with one failed coupler of 0 to 83 that no spare carries, and a sound free spare, maps the lowest such spare to
it and returns the group, itself and its port not retired, to service. PORT_RESET, with no write on its way and groups in service, sets IN_RESET,
counts the reset, waits for every group in service, gives VERTICAL poison to the granules of the reads on their way, and queues running coupler tests
again. RESYNC_DONE and RESYNC_TIMEOUT take a group off those awaited, the latter with its test; when none is left, and no access is held, the reset
ends with its length in µs. RELOCATION_DONE, with no plan running, no access held and the chrysalis core in Run, makes that core execute the index:
the map, both identities and the commit count follow, the aborted unit waits for its replay, and the near cache of the new core is empty. -/
def Obligations.SparesPortResetsAndRelocation : Prop :=
  ∀ (s : State) (u : StackNo) (p : PhysId), u.val < s.fuse.part.stackCount →
    let g0 := (s.m.stk u).integ
    (∀ (n : Fin 32) (c k : Nat) (free : List Nat), (s.m.stk u).vcp.mapping.find? (fun e => e.1 = groupIndex p n) = some (groupIndex p n, [c]) →
      s.m.getB u Reg.VCP_RESET_STATUS_IN_RESET = false → c < 84 →
      let i := groupIndex p n
      (∀ j, j < 4 → s.m.carries u i j ≠ c) → s.m.freeSpares u i [c] = k :: free →
      s.m.getB u Reg.VCP_GROUP_RETIRED i = false → s.m.getB u Reg.VCP_PORT_RETIRED p = false →
      Lands (.spareMapDone ⟨u, p, n, []⟩) s (fun t => Ends s t
        ([(u.val, spareField k, i, c),
          (u.val, Reg.VCP_GROUP_SPARES_USED, i, 1 + ((List.range 4).filter (fun j => s.m.carries u i j ≠ 0x7F)).length), (u.val, Reg.VCP_GROUP_TESTING, i, 0),
          (u.val, Reg.VCP_PORT_TESTING, p.val, ((List.range 32).any (fun j => t.m.getB u Reg.VCP_GROUP_TESTING (groupIndex p j))).toNat),
          (if n.val < 16 then (u.val, Reg.VCP_PORT_READ_ACTIVE, p.val, putBit (s.m.getF u Reg.VCP_PORT_READ_ACTIVE p) n true)
           else (u.val, Reg.VCP_PORT_WRITE_ACTIVE, p.val, putBit (s.m.getF u Reg.VCP_PORT_WRITE_ACTIVE p) (n.val - 16) true)),
          (u.val, Reg.VCP_SUMMARY_SPARES_USED, 0, (List.range 27648).foldl (fun x j => x + t.m.getF u Reg.VCP_GROUP_SPARES_USED j) 0),
          (u.val, Reg.VCP_SUMMARY_GROUPS_RETIRED, 0, ((List.range 27648).filter (fun j => t.m.getB u Reg.VCP_GROUP_RETIRED j && !t.m.getB u Reg.VCP_PORT_RETIRED (j / 32))).length),
          (u.val, Reg.VCP_SUMMARY_PORTS_RETIRED, 0, ((List.range 864).filter (fun q => t.m.getB u Reg.VCP_PORT_RETIRED q)).length)] ++
         [(u.val, Reg.VCP_LAST_EVENT_POSITION, 0, p.val), (u.val, Reg.VCP_LAST_EVENT_GROUP, 0, n.val), (u.val, Reg.VCP_LAST_EVENT_COUPLER, 0, c),
          (u.val, Reg.VCP_LAST_EVENT_KIND, 0, 5), (u.val, Reg.VCP_LAST_EVENT_VALID, 0, 1), up s u Reg.VCP_LAST_EVENT_EVENTS])
        (fun m => m.updVcp u (fun v => { v with mapping := v.mapping.filter (fun x => x.1 ≠ i) })))) ∧
    (∀ reads : List (PhysId × BitVec 52), (∀ v, v < s.fuse.part.stackCount → s.m.writesOnWay u v = []) → (s.m.stk u).vcp.unwritten = [] →
      s.m.groupsInService u ≠ [] →
      let back := g0.running.filter (fun t => t.kind = 2)
      Lands (.portReset ⟨u, reads⟩) s (fun t => Sets s t [up s u Reg.VCP_RESET_STATUS_RESETS, (u.val, Reg.VCP_RESET_STATUS_IN_RESET, 0, 1),
          (u.val, Reg.BUR_SKIPPER_STATUS_ACTIVE, 0, (g0.running.filter (fun t => t.kind ≠ 2)).length),
          (u.val, Reg.BUR_SKIPPER_STATUS_QUEUED, 0, (back ++ g0.queue).length)]
        (fun m => (m.arrive u (reads.map (fun r => lostGranule r.1 (r.2.toNat / 8 * 8))).eraseDups).updStk u (fun k => { k with
          vcp := { k.vcp with
            resync := s.m.groupsInService u
            resetAt := s.m.now u }
          integ := { k.integ with running := k.integ.running.filter (fun t => t.kind ≠ 2), queue := back ++ k.integ.queue } })))) ∧
    (g0.held = [] → s.m.host.bar4 = [] → ∀ n : Fin 32, let i := groupIndex p n
      let left := (s.m.stk u).vcp.resync.filter (fun j => j ≠ i)
      let ends : List FieldVal := if left = [] then [(u.val, Reg.VCP_RESET_STATUS_IN_RESET, 0, 0),
        (u.val, Reg.VCP_RESET_STATUS_LAST_US, 0, (s.m.now u - (s.m.stk u).vcp.resetAt) / 1000)] else []
      (s.m.getB u Reg.VCP_RESET_STATUS_IN_RESET = true → Lands (.resyncDone ⟨u, p, n⟩) s (fun t =>
        Sets s t ends (fun m => m.updVcp u (fun v => { v with resync := left })))) ∧
      ((s.m.stk u).vcp.resync.contains i = true → g0.running.any (fun t => t.kind = 2 && t.index = i) = false →
        g0.queue.any (fun t => t.kind = 2 && t.index = i) = false → g0.queue.length < 1024 →
        Lands (.resyncTimeout ⟨u, p, n⟩) s (fun t => Sets s t (ends ++ [(u.val, Reg.BUR_SKIPPER_STATUS_ACTIVE, 0, g0.running.length),
            (u.val, Reg.BUR_SKIPPER_STATUS_QUEUED, 0, g0.queue.length + 1)])
          (fun m => m.updStk u (fun k => { k with
            vcp := { k.vcp with resync := left }, integ := { k.integ with queue := k.integ.queue ++ [⟨2, i, 0⟩] } }))))) ∧
    (∀ (c : Nat) (L : Fin 832), (s.m.stk u).map.relocating.find? (fun r => r.1 = p.val) = some (p.val, c) → c < 864 → s.m.inRun u c = true →
      s.m.getF u Reg.BUR_LOGICAL_MAP_HOME L = p → (∀ K : Fin 832, K < L → s.m.getF u Reg.BUR_LOGICAL_MAP_HOME K ≠ p) →
      s.m.planRunning u = false → (s.m.stk u).map.held = [] → s.m.host.bar4 = [] → s.m.physOf u L < 864 → c ≠ s.m.physOf u L →
      Lands (.relocationDone ⟨u, p⟩) s (fun t => t.fuse = s.fuse ∧ t.pending = s.pending ∧ t.m.mem = s.m.mem ∧ t.m.tier = s.m.tier ∧
        Holds t [(u.val, Reg.BUR_LOGICAL_MAP_HOME, L.val, p.val), (u.val, Reg.BUR_LOGICAL_MAP_EXEC, L.val, c),
          (u.val, Reg.BUR_LOGICAL_MAP_SPARED, L.val, (decide (p.val ≠ c)).toNat), (u.val, Reg.CORE_IDENT_ROLE, c, 2), (u.val, Reg.CORE_IDENT_LOGICAL, c, L.val),
          (u.val, Reg.CORE_IDENT_HOME, c, p.val), (u.val, Reg.CORE_IDENT_MAP_VALID, c, 1),
          (u.val, Reg.CORE_COMMIT_COUNT_COMMITS, c, s.m.getF u Reg.CORE_COMMIT_COUNT_COMMITS (s.m.physOf u L)),
          (u.val, Reg.BUR_CORE_SUMMARY_RELOCATING, 0, (decide ((t.m.stk u).map.relocating ≠ [])).toNat)] ∧
        (t.m.stk u).map = { (s.m.stk u).map with relocating := (s.m.stk u).map.relocating.filter (fun r => r.1 ≠ p.val) } ∧
        t.m.core u L = { s.m.core u L with halt := if (s.m.core u L).halt = .moving then .aborted else (s.m.core u L).halt, near := {} } ∧ SameCores s t u L))

/-- A script entry starts with its tokens and credits, its blocks are dispatched in order, and it ends by the loop rules (R52, R54, R55, R70, R90,
R91, R92, R93, R165). SCRIPT_ENTRY_START at an entry whose tokens and credits are there, no end token of its loop next, no poison in entry or record,
and a record that passes its checks: the argument list is in local memory, in the order of R93, each input channel of the entry has consumed one token
more and each output channel reserved one credit more, and the launch of the record runs with no group yet. BLOCK_DISPATCH puts the next block into
its free block slot, each group at the code address, with the number of its atomics in the unit. SCRIPT_ENTRY_END, once every group has exited and
every issued operation has completed: an entry without LOOP_BACK moves to the next; with it, the script returns to TARGET for an unbounded count or
while the count is not reached, else it moves on; a COMMIT entry leaves its commit due. LOOP_END consumes the end token, moves past the loop, and
leaves a commit with the loop's COMMIT_ID due. Everything else of the machine is unchanged but registers of the executing core. -/
def Obligations.ScriptEntriesBlocksAndLoops : Prop :=
  ∀ (s : State) (u : StackNo) (L : Fin 832), u.val < s.fuse.part.stackCount →
    let c := s.m.core u L
    let p := s.m.physOf u L
    let e := s.m.entryAt u L c.script
    let ra := localAddr u (s.m.homeOfIndex u L) e.entry
    let b := PByte.vals (s.m.homeBytes ra 32)
    let r := LRecord.of b
    (s.m.beforeEntry u L = true → s.m.accessHeld true (s.m.entryAddr u L c.script) 32 = false → s.m.poisonAt (s.m.entryAddr u L c.script) 32 = [] →
      (s.m.endingLoop u L c.script = none → s.m.tokensHere u L e = true → s.m.creditsHere u L e = true → s.m.poisonAt ra 32 = [] →
        r.fault b (popCount e.inMask 64 + popCount e.outMask 64) (bit (s.m.plan u).features 4) = none → s.m.homeOfIndex u L < 864 → s.m.mem.wf = true →
        let l := (s.m.argList u L e).flatMap (leBytes 8)
        let base := localAddr u (s.m.homeOfIndex u L) r.args
        Lands (.scriptEntryStart ⟨u, L⟩) s (fun t => Works s t u L [] (fun m => { m.updCore u L (fun _ => t.m.core u L) with mem := t.m.mem }) ∧
          (let d := t.m.core u L
           d = { c with running := true, entry := e, launch := r.launch, groups := [], ins := d.ins, outs := d.outs
                        mx := { nextId := c.mx.nextId, numerical := c.mx.numerical, tested := c.mx.tested }, att := { nextId := c.att.nextId } } ∧
           (∀ i, SMap.getD d.ins i {} = if i < 64 ∧ bit e.inMask i = true then { SMap.getD c.ins i {} with cur := (SMap.getD c.ins i {}).cur + 1 } else SMap.getD c.ins i {}) ∧
           (∀ i, SMap.getD d.outs i {} = if i < 64 ∧ bit e.outMask i = true then { SMap.getD c.outs i {} with cur := (SMap.getD c.outs i {}).cur + 1 } else SMap.getD c.outs i {})) ∧
          ∀ a, t.m.mem.byte a = if base ≤ a ∧ a < base + l.length then l.getD (a - base) 0 else s.m.mem.byte a)) ∧
      (∀ j ch, s.m.endingLoop u L c.script = some j → lowestBit e.inMask 64 = some ch →
        s.m.poisonAt (s.m.entryAddr u L c.script) (32 * (j + 1 - c.script)) = [] →
        Lands (.loopEnd ⟨u, L⟩) s (fun t => Works s t u L [] (fun m => m.updCore u L (fun _ => t.m.core u L)) ∧
          (let d := t.m.core u L
           d = { c with script := j + 1, entry := {}, loopEnd := d.loopEnd, committing := some (s.m.entryAt u L j).commitId
                        loops := c.loops.filter (fun x => x.1 < c.script || j < x.1), ins := d.ins } ∧
           d.loopEnd = some ((List.range (j + 1 - c.script)).foldl (fun x i => x ||| (s.m.entryAt u L (c.script + i)).outMask) 0) ∧
           ∀ i, SMap.getD d.ins i {} = if i = ch then { SMap.getD c.ins i {} with cur := (SMap.getD c.ins i {}).cur + 1 } else SMap.getD c.ins i {})))) ∧
    (s.m.coreGoes u L = true → c.launch.active = true →
      (let j := c.launch.blockSlot c.launch.next
       c.launch.next < c.launch.blocks → SMap.find c.launch.slots j = none →
       Lands (.blockDispatch ⟨u, L⟩) s (fun t => Works s t u L [(u.val, Reg.CORE_LAUNCH_BLOCK_NEXT, p, c.launch.next + 1)] (fun m => m.updCore u L (fun _ => t.m.core u L)) ∧
         (let d := t.m.core u L
          d = { c with groups := d.groups, launch := { c.launch with next := c.launch.next + 1, slots := SMap.put c.launch.slots j c.launch.next } } ∧
          (∀ x, (∀ gi, gi < c.launch.groups → x ≠ c.launch.slotOf j gi) → SMap.find d.groups x = SMap.find c.groups x) ∧
          ∀ gi, gi < c.launch.groups → SMap.find d.groups (c.launch.slotOf j gi) = some {
            block := c.launch.next, index := gi, pc := c.launch.code, atomN := SMap.getD c.atomNs (c.launch.next * 32 + gi) 0 }))) ∧
      (c.launchDone = true → Lands (.scriptEntryEnd ⟨u, L⟩) s (fun t =>
        Works s t u L [(u.val, Reg.CORE_LAUNCH_ACTIVE, p, 0)] (fun m => m.updCore u L (fun _ => t.m.core u L)) ∧
        (let d := t.m.core u L
         let i := c.script
         let n := SMap.getD c.loops i 0 + 1
         let back : Bool := c.entry.loopBack && (c.entry.count == 0xFFFF_FFFF || decide (n < c.entry.count))
         d = { c with running := false, launch := { c.launch with active := false }, groups := []
                      committing := if c.entry.commit then some c.entry.commitId else none
                      script := if back then c.entry.target else i + 1, loops := d.loops } ∧
         SMap.getD d.loops i 0 = (if c.entry.loopBack = true ∧ c.entry.count ≠ 0xFFFF_FFFF then (if n < c.entry.count then n else 0) else SMap.getD c.loops i 0) ∧
         ∀ x, x ≠ i → SMap.getD d.loops x 0 = SMap.getD c.loops x 0))))

/-- A commit moves the control record on; the token and the credit that are due are accepted once (R51, R57, R58, R60, R69, R71, R72, R73, R75, R316).
COMMIT, due on a running plan with no store on its way, no numerical mismatch and credits for its end tokens: the control record holds the script
position, the marker with COMMIT_ID and the unit's number, and the outbox; every channel's consumed or sent tokens are behind it; the staged
operations are in the record, journal and the bytes kept of SCRATCH are gone; the unit and CORE_COMMIT_COUNT are counted; no other core changes,
unless a CLEAR_FAIL that is performed first takes signals of the stack on their way. TOKEN_ARRIVAL of the next token of an input channel with its
route's fields accepts it, an end token as such; one already accepted is counted as a duplicate and changes nothing else; one that carries another
PLAN_ID is dropped and logged. CREDIT_ARRIVAL of the oldest outstanding credit of an output channel, of a core or of a mover channel, frees it.
WORK_UNIT_REPLAY of an aborted unit that waits for nothing, none of whose input slots is poisoned, lets it run again and counts the replay. -/
def Obligations.CommitTokensAndCredits : Prop :=
  ∀ (s : State) (u : StackNo) (L : Fin 832), u.val < s.fuse.part.stackCount →
    let c := s.m.core u L
    let p := s.m.physOf u L
    (∀ id, c.committing = some id → s.m.planRunning u = true → c.halt = .none → c.mx.numerical = false → c.stores = [] →
      (setBits (c.loopEnd.getD 0) 64).all (fun ch => s.m.creditHere u L ch) = true →
      Lands (.commit ⟨u, L⟩) s (fun t => t.fuse = s.fuse ∧ t.pending = s.pending ∧
        ((∀ x ∈ c.staged, ∀ h, x ≠ .clearFail h) → SameCores s t u L) ∧
        Holds t [(u.val, Reg.CORE_COMMIT_COUNT_COMMITS, p, satAdd 64 (s.m.getF u Reg.CORE_COMMIT_COUNT_COMMITS p) 1)] ∧
        (let d := t.m.core u L
         d.rcd.script = c.script ∧ d.rcd.marker = some (id, c.unit + 1) ∧ d.rcd.outbox = s.m.outboxOf u L (c.loopEnd.getD 0) ∧ d.rcd.loops = c.loops ∧
         d.rcd.staged = c.staged ∧ d.atomNs = [] ∧ d.shadow = [] ∧
         d.unit = c.unit + 1 ∧ d.aborts = 0 ∧ d.journal = [] ∧ d.staged = [] ∧ d.committing = none ∧ d.loopEnd = none ∧ d.script = c.script ∧
         d.ended = decide (s.m.entries u L ≤ c.script) ∧ d.phase = c.phase + c.entry.phaseEnd.toNat ∧
         (∀ i, let x := SMap.getD c.ins i {}
           let y := SMap.getD d.ins i {}
           y.base = x.base + x.cur ∧ y.cur = 0 ∧ y.accepted = x.accepted - x.cur) ∧
         (∀ i, let x := SMap.getD c.outs i {}
           let y := SMap.getD d.outs i {}
           y.sent = x.sent + x.cur + (bit (c.loopEnd.getD 0) i && (decide (i < 64) || (SMap.find c.outs i).isSome)).toNat ∧ y.cur = 0 ∧ y.oldest = x.oldest)))) ∧
    (∀ (sdid : Half) (w : Dword) (r : Route) (n : Nat), s.m.planOn u = true →
      let ch := bits w.toNat 16 6
      let fin : Bool := bits w.toNat 42 14 == 0x3FFF
      let i := s.m.inChan u L ch
      s.m.inRoute u L ch = some r → bits w.toNat 0 4 = r.typ → bits w.toNat 4 10 = r.src → bits w.toNat 14 2 = r.srcStack → sdid.toNat = r.srcSdid →
      (bits w.toNat 42 14 = r.buffer ∨ bits w.toNat 42 14 = 0x3FFF) → bits w.toNat 22 20 = n % 2 ^ 20 → bits w.toNat 56 8 = n % r.depth →
      1 ≤ r.depth → r.depth ≤ 255 → i.cur ≤ i.accepted → i.accepted - i.cur < r.depth →
      let is (x : Msg) : Bool := match x with
        | .token _ d k x v => d = sdid.toNat && k = u.val && x = L.val && v = w.toNat
        | _ => false
      let word (pl : Option Nat) : Msg := .token pl sdid.toNat u L w.toNat
      (s.m.stackOf sdid.toNat).any (fun v => s.m.cut s.fuse.part.stackCount v u) = false → s.m.inboxHeld u L = false →
      (∀ x ∈ s.m.wire, is x = true → x = word (s.m.planTag u)) →
      (n = i.base + i.accepted → i.waiting = [] → Lands (.tokenArrival ⟨u, ⟨L.val, by omega⟩, sdid, w⟩) s (fun t =>
        Works s t u L [] (fun m => { m.updCore u L (fun k => k.updIn ch (fun x => { x with accepted := x.accepted + 1, ends := if fin then x.ends ++ [n] else x.ends })) with
          wire := m.wire.erase (word (s.m.planTag u)) }))) ∧
      (i.base + i.cur ≤ n → n < i.base + i.accepted → Lands (.tokenArrival ⟨u, ⟨L.val, by omega⟩, sdid, w⟩) s (fun t =>
        Sets s t [up s u Reg.CORE_SCRIPT_STATE_DUPLICATES p] (fun m => { m with wire := m.wire.erase (word (s.m.planTag u)) })))) ∧
    (∀ (q : Fin 1024) (sdid : Half) (w : Dword) (pl : Option Nat), let x := Msg.token pl sdid.toNat u q w.toNat
      (∀ pl', .token pl' sdid.toNat u q w.toNat ∈ s.m.wire → pl' = pl) → x ∈ s.m.wire → (pl = none ∨ pl ≠ s.m.planTag u) →
      (s.m.stackOf sdid.toNat).any (fun v => s.m.cut s.fuse.part.stackCount v u) = false → s.m.inboxHeld u q = false →
      Lands (if bits w.toNat 0 4 = 2 then .creditArrival ⟨u, q, sdid, w⟩ else .tokenArrival ⟨u, q, sdid, w⟩) s (fun t =>
        Ends s t [] (fun m => { m with wire := m.wire.erase x }) ∧ ∃ e l, (t.m.stk u).bureau.errLog = e :: l ∧ e.code = 0x0101)) ∧
    (∀ (q : Fin 1024) (sdid : Half) (w : Dword) (r : Route), s.m.planOn u = true → bits w.toNat 0 4 = 2 → (q.val < 832 ∨ 0x3C0 ≤ q.val) →
      let ch := bits w.toNat 16 6
      let o := s.m.prodChan u q ch
      s.m.outRoute u q ch = some r → bits w.toNat 4 10 = r.dst → bits w.toNat 14 2 = r.dstStack → sdid.toNat = s.m.consumerSdid u r →
      (bits w.toNat 42 14 = r.buffer ∨ bits w.toNat 42 14 = 0x3FFF) → bits w.toNat 22 20 = o.oldest % 2 ^ 20 → bits w.toNat 56 8 = o.oldest % r.depth →
      1 ≤ r.depth → o.oldest < o.sent → o.waiting = [] →
      (s.m.stackOf sdid.toNat).any (fun v => s.m.cut s.fuse.part.stackCount v u) = false → s.m.inboxHeld u q = false →
      (∀ pl, .token pl sdid.toNat u q w.toNat ∈ s.m.wire → pl = s.m.planTag u) →
      Lands (.creditArrival ⟨u, q, sdid, w⟩) s (fun t => Works s t u q [] (fun m => { m.updProd u q ch (fun x => { x with oldest := x.oldest + 1 }) with
        wire := m.wire.erase (.token (s.m.planTag u) sdid.toNat u q w.toNat) }))) ∧
    (s.m.planRunning u = true → c.halt = .aborted → (c.aborts < 3 ∨ ((s.m.stk u).integ.consumed.any (fun x => x.core = L.val) = false ∧
        ((s.m.stk u).integ.queue ++ (s.m.stk u).integ.running).any (s.m.behind u L) = false)) →
      (s.m.stk u).integ.running.any (fun t => (t.kind = 4 || t.kind = 5 || t.kind = 6) && t.index % 2 ^ 10 = p) = false →
      s.m.poisonedSlots u L = [] → (s.m.stk u).link.xfers.any (fun x => x.owner = .refetch L) = false →
      Lands (.workUnitReplay ⟨u, L⟩) s (fun t =>
        Works s t u L [up s u Reg.BUR_RECOVERY_COUNT_REPLAYS, (u.val, Reg.CORE_SCRIPT_STATE_REPLAYS, p, satAdd 8 (s.m.getF u Reg.CORE_SCRIPT_STATE_REPLAYS p) 1)]
          (fun m => m.updCore u L (fun k => { k with halt := .none, refetched := false }))))

/-- An aborted plan stops its cores, a fault ends the plan on every stack, a finished plan is COMPLETE (R73, R76, R77, R148, R150, R276, R279, R424).
CORE_ABORT on a stack whose plan is ABORTED stops a core that has neither stopped nor faulted: its unit's groups, launch, stores and staged operations
are gone, script and channels stand where the control record has them; memory and other cores are unchanged. KERNEL_FAULT of a core that has recorded
a fault stops it and, when a plan is LOADED or RUNNING on some stack, makes every such plan ABORTED with status 0x0021 and reports KERNEL_FAULT with
index, cause, pc and address; of memory only the cells of resident lines that were dead change. PLAN_COMPLETE, once the plan's cores have ended, its
object has its count and its channels have stopped: the plan is COMPLETE, no mover channel is bound, no line is dead; when every stack that the plan
names is COMPLETE, the host is told. -/
def Obligations.AbortsFaultsAndCompletion : Prop :=
  ∀ (s : State) (u : StackNo), u.val < s.fuse.part.stackCount →
    let kept (t : State) (v : Nat → Prop) : Prop := t.fuse = s.fuse ∧ t.pending = s.pending ∧ t.m.tier = s.m.tier ∧ t.m.hostMem = s.m.hostMem ∧
      ∀ a, (∀ k, k < 4 → v k → ∀ x ∈ (s.m.stk k).cache.dead, ∀ l, s.m.cline k x = some l →
          ¬(cellAddr k (s.m.home k x) l.way ≤ a ∧ a < cellAddr k (s.m.home k x) l.way + 128)) →
        t.m.mem.byte a = s.m.mem.byte a ∧ t.m.mem.syndrome a = s.m.mem.syndrome a
    (∀ L : Fin 832, let c := s.m.core u L
      (s.m.getF u Reg.BUR_PLAN_STATE_STATE = 4 → c.halt ≠ .stopped → c.halt ≠ .fault → Lands (.coreAbort ⟨u, L⟩) s (fun t => SameBut s t u L ∧
        (let d := t.m.core u L
         d.halt = .stopped ∧ d.groups = [] ∧ d.launch = {} ∧ d.stores = [] ∧ d.atoms = [] ∧ d.atomNs = [] ∧ d.staged = [] ∧ d.running = false ∧ d.committing = none ∧
         d.script = c.rcd.script ∧ d.phase = c.rcd.phase ∧ d.loops = c.rcd.loops ∧ d.ended = c.rcd.ended ∧ d.rcd = c.rcd ∧ d.regs = c.regs ∧
         (∀ i, SMap.getD d.ins i {} = { SMap.getD c.ins i {} with cur := 0 }) ∧ (∀ i, SMap.getD d.outs i {} = { SMap.getD c.outs i {} with cur := 0 })))) ∧
      (c.halt = .fault → (List.range 4).any s.m.planOn = true → Lands (.kernelFault ⟨u, L⟩) s (fun t => kept t (fun k => s.m.planOn k = true) ∧ SameCores s t u L ∧
        (t.m.core u L) = { c with halt := .stopped, late := none } ∧
        (∀ k, k < 4 → t.m.getF k Reg.BUR_PLAN_STATE_STATE = if s.m.planOn k then 4 else s.m.getF k Reg.BUR_PLAN_STATE_STATE) ∧
        (∀ k, k < 4 → s.m.planOn k = true → (t.m.stk k).plan.endStatus = 0x0021 ∧ (t.m.stk k).cache.dead = []) ∧
        Told t u 0x0003 [L.val, s.m.getF u Reg.CORE_FAULT_INFO_CAUSE (s.m.physOf u L), s.m.getF u Reg.CORE_FAULT_PC_PC (s.m.physOf u L),
          s.m.getF u Reg.CORE_FAULT_ADDR_ADDR (s.m.physOf u L)]))) ∧
    (s.m.planRunning u = true → s.m.planDone u = true → Lands (.planComplete ⟨u⟩) s (fun t =>
      kept t (fun k => k = u.val) ∧ (∀ v L, t.m.core v L = s.m.core v L) ∧
      t.m.getF u Reg.BUR_PLAN_STATE_STATE = 3 ∧ (∀ k, k < 4 → k ≠ u.val → t.m.getF k Reg.BUR_PLAN_STATE_STATE = s.m.getF k Reg.BUR_PLAN_STATE_STATE) ∧
      (∀ c, c < 64 → t.m.getB u Reg.MOV_CH_CTRL_BOUND c = false) ∧ (t.m.stk u).cache.dead = [] ∧ (t.m.stk u).plan.plan = s.m.plan u ∧
      ((s.m.plan u).stackSet.all (fun k => k = u.val || s.m.getF k Reg.BUR_PLAN_STATE_STATE == 3) = true →
        Told t u 0x0001 [s.m.getF u Reg.BUR_PLAN_ID_PLAN_ID])))

/-- Signals update their object once, waiters go on, a stall is told, a phase switch pulls its descriptors (R51, R62, R63, R64, R67, R82, R83, R110,
R111, R142, R364). SYNC_SIGNAL_ARRIVAL at an object at or above 64 of the stack, from the stack itself, or from another that a route reaches and that
carries this stack's PLAN_ID: the count rises by the sum of the signals modulo 2^48; a failing signal sets FAILED, and FAIL_CODE is the lowest code
seen; every other object keeps count and flags, memory is unchanged, and a group that waits on the object for a threshold the count now satisfies
waits no more. Signals to an object below 64, and those of another stack while no plan is on, are dropped and counted. SYNC_STALL of an object with a
timeout, a waiter and no stall reported in this run sets STALLED, counts the object and tells the host. NEAR_CACHE_INVALIDATE counts each page that
turns writable in every core, drops its lines from every near cache, and the pages are writable. RESHARD_START, with RELEASE at k + 1 and no page
turning, makes every descriptor of the phase's entry pending; with none, the next phase takes effect at once. RESHARD_DESCRIPTOR_DONE of a source
inside the part performs the pull, takes the descriptor off those pending and signals ENTRY by 1. -/
def Obligations.SignalsStallsAndPhases : Prop :=
  ∀ (s : State) (u : StackNo), u.val < s.fuse.part.stackCount →
    (∀ (h : Word) (l : List (Half × Half)) (src : StackNo), let o := handleObj h.toNat
      let live := (l.map (fun e => (e.1.toNat, e.2.toNat))).filter (fun e => e.1 ≠ 0 ∨ e.2 ≠ 0)
      let n := (live.map (·.1)).sum
      let fs := (live.map (·.2)).filter (· ≠ 0)
      let codes := if s.m.getF u Reg.SYNC_STATUS_FAIL_CODE o = 0 then fs else s.m.getF u Reg.SYNC_STATUS_FAIL_CODE o :: fs
      handleBad h.toNat = false → handleSdid h.toNat = s.m.sdid u → s.m.cut s.fuse.part.stackCount src u = false →
      let is (e : Nat × Nat) (x : Msg) : Bool := match x with
        | .signal _ v g a f => v = src.val && g = h.toNat && a = e.1 && f = e.2
        | _ => false
      let arrived (w : List Msg) : List Msg := live.foldl (fun w e => w.eraseP (is e)) w
      let carried : Prop := src ≠ u → s.m.planOn u = true ∧ ∀ pl e f, .signal pl src h.toNat e f ∈ s.m.wire → pl = s.m.planTag u
      (64 ≤ o → carried → s.m.getF u Reg.SYNC_STATUS_FAIL_CODE o < 2 ^ 16 → Lands (.syncSignalArrival ⟨u, h, l, src⟩) s (fun t =>
        t.fuse = s.fuse ∧ t.pending = s.pending ∧ t.m.mem = s.m.mem ∧ t.m.tier = s.m.tier ∧ t.m.hostMem = s.m.hostMem ∧
        (live ≠ [] → t.m.count u o = (s.m.count u o + n) % 2 ^ 48) ∧
        (fs ≠ [] → t.m.getB u Reg.SYNC_STATUS_FAILED o = true ∧ codes.min? = some (t.m.getF u Reg.SYNC_STATUS_FAIL_CODE o)) ∧
        (fs = [] → t.m.getF u Reg.SYNC_STATUS_FAILED o = s.m.getF u Reg.SYNC_STATUS_FAILED o ∧
          t.m.getF u Reg.SYNC_STATUS_FAIL_CODE o = s.m.getF u Reg.SYNC_STATUS_FAIL_CODE o) ∧
        (∀ x, x < 8192 → x ≠ o → t.m.count u x = s.m.count u x ∧ t.m.getF u Reg.SYNC_STATUS_FAILED x = s.m.getF u Reg.SYNC_STATUS_FAILED x ∧
          t.m.getF u Reg.SYNC_STATUS_FAIL_CODE x = s.m.getF u Reg.SYNC_STATUS_FAIL_CODE x) ∧
        (∀ L slot g th eq pd rd mask, SMap.find (s.m.core u L).groups slot = some g → g.wait = .obj o th eq pd rd mask → n ≠ 0 →
          (if eq then t.m.count u o = th % 2 ^ 48 else satisfies (t.m.count u o) th = true) →
          ∃ g', SMap.find (t.m.core u L).groups slot = some g' ∧ g'.wait = .none))) ∧
      (o < 64 → carried → Lands (.syncSignalArrival ⟨u, h, l, src⟩) s (fun t =>
        Sets s t [(u.val, Reg.SYNC_DROPPED_DROPPED, 0, satAdd 32 (s.m.getF u Reg.SYNC_DROPPED_DROPPED) live.length)]
          (fun m => { m with wire := arrived m.wire }))) ∧
      (src ≠ u → s.m.planOn u = false → live ≠ [] → Lands (.syncSignalArrival ⟨u, h, l, src⟩) s (fun t =>
        Ends s t [(u.val, Reg.SYNC_DROPPED_DROPPED, 0, satAdd 32 (s.m.getF u Reg.SYNC_DROPPED_DROPPED) live.length)]
          (fun m => { m with wire := arrived m.wire }) ∧ ∃ e r, (t.m.stk u).bureau.errLog = e :: r ∧ e.code = 0x0101))) ∧
    (∀ o : Fin 8192, s.m.getF u Reg.SYNC_FWD_STRIDE_TIMEOUT_MS o ≠ 0 → s.m.getF u Reg.SYNC_STATUS_WAITERS o ≠ 0 → (s.m.stk u).plan.stallDone.contains o.val = false →
      s.m.getF u Reg.SYNC_STATUS_STALLED o ≤ 1 → Lands (.syncStall ⟨u, o⟩) s (fun t => Ends s t ((u.val, Reg.SYNC_STATUS_STALLED, o.val, 1) ::
          (if s.m.getF u Reg.SYNC_STATUS_STALLED o = 0 then [up s u Reg.SYNC_DROPPED_STALLED_OBJECTS] else []))
        (fun m => m.updPlan u (fun p => { p with stallDone := p.stallDone ++ [o.val] })) ∧ Told t u 0x0004 [s.m.handle u o])) ∧
    ((s.m.stk u).plan.turning ≠ [] → Lands (.nearCacheInvalidate ⟨u⟩) s (fun t => Sets s t
      ((List.range 864).map (fun p => (u.val, Reg.CORE_NC_STATUS_INVALIDATIONS, p,
        satAdd 16 (s.m.getF u Reg.CORE_NC_STATUS_INVALIDATIONS p) (s.m.stk u).plan.turning.length)))
      (fun m => m.updStk u (fun k => { k with
        cores := k.cores.map (fun e => (e.1, { e.2 with
          near := (e.2.near.lines.filter (fun l => k.plan.turning.contains (l.line / 512))).foldl (fun n l => n.drop l.line) e.2.near }))
        roPages := k.roPages.filter (fun p => !k.plan.turning.contains p), plan := { k.plan with turning := [] } })))) ∧
    (let k := s.m.phaseNow u
     ∀ e e', (s.m.plan u).phase k = some e →
      ((s.m.plan u).phase (k + 1) = some e' → s.m.planRunning u = true → (s.m.stk u).plan.switching = false → (s.m.stk u).plan.turning = [] →
        satisfies (s.m.count u (handleObj e.release)) (k + 1) = true →
        (e.reshardCount ≠ 0 → Lands (.reshardStart ⟨u⟩) s (fun t => t.fuse = s.fuse ∧ t.pending = s.pending ∧ t.m.mem = s.m.mem ∧ t.m.tier = s.m.tier ∧
          t.m.phaseNow u = k ∧ (∀ v L, t.m.core v L = s.m.core v L) ∧
          (t.m.stk u).plan = { (s.m.stk u).plan with switching := true, pulling := (List.range e.reshardCount).map (fun i => e.reshardIndex + i)
                                                     entryNeed := (s.m.stk u).plan.entryNeed + e.reshardCount })) ∧
        (e.reshardCount = 0 → k + 1 < 2 ^ Reg.BUR_PLAN_STATE_PHASE.width → Lands (.reshardStart ⟨u⟩) s (fun t => t.fuse = s.fuse ∧ t.pending = s.pending ∧ t.m.mem = s.m.mem ∧
          t.m.phaseNow u = k + 1 ∧ (t.m.stk u).plan.switching = false ∧ (t.m.stk u).roPages = (s.m.plan u).roPages u (k + 1)))) ∧
      (∀ (i : Nat) (d : Reshard), (s.m.plan u).reshards[i]? = some d → (s.m.stk u).plan.pulling.contains i = true → (s.m.stackOf d.srcSdid).isSome →
        s.m.anyHeld [(d.src, d.len)] = false → s.m.anyHeld [(d.dst, convLen d.convert d.len)] = false → (s.m.stk u).plan.pulling.any (fun j => j ≠ i) = true →
        s.m.sdid u < 2 ^ 16 → let pulled := s.m.pullLocal s.fuse.part.stackCount u d
        Lands (.reshardDescriptorDone ⟨u, i⟩) s (fun t => t.fuse = s.fuse ∧ t.pending = s.pending ∧
          t.m.mem = pulled.mem ∧ t.m.tier = pulled.tier ∧ t.m.hostMem = pulled.hostMem ∧
          t.m.phaseNow u = k ∧ (t.m.stk u).plan.pulling = (s.m.stk u).plan.pulling.filter (fun j => j ≠ i) ∧
          t.m.wire = s.m.wire ++ [.signal (s.m.planTag u) u (s.m.handle u (handleObj e.entry)) 1 0])))

/-- A stalled barrier is told, a stuck core's unit aborts for its test, an atomic is performed once at the home (R70, R102, R115, R315, R329, R437).
BARRIER_STALL, the watchdog enabled, at a barrier some groups of whose block have arrived and others, not all of them in a wait, have not: counted
once since the last arrival, recorded in CORE_BAR_STATUS when no stall is recorded, and told to the host. HANDSHAKE_WATCHDOG at a core that runs a
unit (before its eighth abort) counts the trip, sets STALLED, aborts the unit without a fault and queues the test of the core's logic; memory is
unchanged. ATOMIC_AT_HOME at a clean SRAM location, no earlier store of the group on its way, performs the next request: the location holds the
combined result and every other byte is as before; a journalled request's old value is recorded; after the last request the lanes' values are in their
registers and the group goes on, else it waits for the next. -/
def Obligations.BarrierStallsWatchdogsAndAtomicsAtHome : Prop :=
  ∀ (s : State) (u : StackNo) (L : Fin 832), u.val < s.fuse.part.stackCount →
    let c := s.m.core u L
    let p := s.m.physOf u L
    (∀ (j : Fin 16) (n : Fin 4), s.m.getF u Reg.CORE_BAR_WATCHDOG_SHIFT p ≠ 0 → c.launch.arrivedAt j n ≠ 0 → c.missing j n ≠ [] → c.launch.stalled.contains (j.val * 4 + n.val) = false →
      (c.missing j n).all (fun gi => c.inWait (c.launch.slotOf j gi)) = false → p < 864 →
      Lands (.barrierStall ⟨u, L, j, n⟩) s (fun t => Ends s t (up s u Reg.CORE_BAR_STATUS_STALL_COUNT p ::
          (if s.m.getB u Reg.CORE_BAR_STATUS_STALL p = true then [] else [(u.val, Reg.CORE_BAR_STATUS_BLOCK_SLOT, p, j.val), (u.val, Reg.CORE_BAR_STATUS_BARRIER, p, n.val),
            (u.val, Reg.CORE_BAR_STATUS_ARRIVED, p, popCount (c.launch.arrivedAt j n) 32), (u.val, Reg.CORE_BAR_STATUS_STALL, p, 1)]))
        (fun m => m.updCore u L (fun k => { k with launch := { k.launch with stalled := k.launch.stalled ++ [j.val * 4 + n.val] } })) ∧
        Told t u 0x0005 [p, j.val, n.val])) ∧
    (s.m.coreGoes u L = true → c.aborts < 7 → p < 864 → (s.m.stk u).integ.running.any (fun t => t.kind = 6 && t.index = p) = false →
      (s.m.stk u).integ.queue.any (fun t => t.kind = 6 && t.index = p) = false → (s.m.stk u).integ.queue.length < 1024 →
      Lands (.handshakeWatchdog ⟨u, L⟩) s (fun t => SameBut s t u L ∧
        (let d := t.m.core u L
         d.halt = .watchdog ∧ d.groups = [] ∧ d.staged = [] ∧ d.stores = [] ∧ d.running = false ∧ d.aborts = c.aborts + 1 ∧ d.rcd = c.rcd ∧ d.script = c.rcd.script) ∧
        Holds t [up s u Reg.CORE_INTEGRITY_WATCHDOG p, (u.val, Reg.CORE_INTEGRITY_STALLED, p, 1)] ∧
        (t.m.stk u).integ.queue = (s.m.stk u).integ.queue ++ [⟨6, p, 0⟩])) ∧
    (∀ (slot : Fin 48) (a : AInstr) (g : Group) (r : AReq) (rest : List AReq), SMap.find c.atoms slot = some a → SMap.find c.groups slot = some g →
      a.reqs = r :: rest → a.ord = none → a.dead = [] → (∀ q ∈ c.stores, q.slot ≠ slot.val) → daRegion r.addr ≠ 4 →
      let size := if a.wide then 8 else 4
      s.m.accessHeld true r.addr size true = false → s.m.portHeld u L r.addr = false → r.addr + size ≤ 2 ^ 52 → s.m.mem.wf = true → (∀ i, i < size → s.m.rowFailed (r.addr + i) = false) →
      (∀ i, i < size → s.m.mem.kindAt (r.addr + i) = 0 ∧ s.m.mem.detects (r.addr + i) = false) →
      let old := ofLeBytes ((List.range size).map (fun i => s.m.mem.byte (r.addr + i)))
      let res := combine a.op (8 * size) old r.lanes
      Lands (.atomicAtHome ⟨u, L, slot⟩) s (fun t => t.fuse = s.fuse ∧ t.pending = s.pending ∧ SameCores s t u L ∧ t.m.tier = s.m.tier ∧ t.m.hostMem = s.m.hostMem ∧
        (∀ b, t.m.mem.byte b = if r.addr ≤ b ∧ b < r.addr + size then (leBytes size res.1).getD (b - r.addr) 0 else s.m.mem.byte b) ∧
        (let d := t.m.core u L
         d.journal = (match r.n with | some n => c.journal ++ [⟨g.block, g.index, n, old⟩] | none => c.journal) ∧
         d.stores = c.stores ∧ d.staged = c.staged ∧ d.ins = c.ins ∧ d.outs = c.outs ∧
         (rest ≠ [] → d.regs = c.regs ∧ d.groups = c.groups ∧ SMap.find d.atoms slot = some { a with reqs := rest, got := a.got ++ res.2 }) ∧
         (rest = [] → SMap.find d.atoms slot = none ∧ SMap.find d.groups slot = some ({ g with wait := .none, ordered := false }.goto (g.pc + a.size)) ∧
           d.regs = ((a.got ++ res.2).foldl (fun k e => k.setOperand slot e.1 a.dst (if a.wide then 2 else 1) e.2) c).regs))))

/-- Array operations start in order, rows are checked and accumulated, a mismatch is recomputed, drains deliver (R152, R153, R166, R167, R174, R177,
R182, R183, R190, R191, R320). MX_OP_START: the operation at the head of the queue, when Table MX-5 lets it start, runs; a swap exchanges the banks at
once. LOADW_DONE: the shadow bank holds the rows read with their sums. ROW_ROOT: the next row is counted; a row whose check matches or is skipped is
accumulated, so that each column's slot holds the value (FIRST) or its sum with the value held, and no other byte changes in the plain form; a
floating mismatch holds the row's activations and is recorded; an integer mismatch is an array fault: every accumulator granule of the stream is
CHECKSUM poison and the unit aborts. ROW_RECOMPUTE of the activations held: the same values again make the mismatch numerical and the row is
delivered; other values are an array fault. STREAM_DONE and DRAIN_DONE: the operation leaves, its waiters go on; a drain's outputs are the converted
values, and CLEAR zeroes what was read. Nothing else changes but registers of the executing core. -/
def Obligations.MatrixArrayAtWork : Prop :=
  ∀ (s : State) (u : StackNo) (L : Fin 832) (fl : List (Fin 128 × Dword)), u.val < s.fuse.part.stackCount → s.m.arrayGoes u L = true → s.m.homeOfIndex u L < 864 →
    let c := s.m.core u L
    let x := c.mx
    let p := s.m.physOf u L
    let loc := localAddr u (s.m.homeOfIndex u L) 0
    let acc := accAddr u (s.m.homeOfIndex u L) 0
    let flips := fl.map (fun e => (e.1.val, e.2.toNat))
    let waits (q : List MxOp) (r : List MxRun) (w : GWait) : Bool := match w with
      | .mx n => (q.map (·.id) ++ r.map (·.op.id)).all (fun i => decide (n ≤ i))
      | .mxLanes n => (q.drop 16).all (fun o => decide (n < o.id))
      | _ => false
    (c.groups.map (·.1)).Nodup →
    (∀ o q, x.queue = o :: q → x.mayStart o = true →
      (o.kind ≠ .swap → Lands (.mxOpStart ⟨u, L⟩) s (fun t =>
        CoreWorks s t u L [] { c with mx := { x with queue := q, run := x.run ++ [{ op := o }] }, groups := (t.m.core u L).groups } ∧
        t.m.mem = s.m.mem ∧ Freed c (t.m.core u L) (waits q (x.run ++ [{ op := o }])))) ∧
      (o.kind = .swap → Lands (.mxOpStart ⟨u, L⟩) s (fun t => CoreWorks s t u L []
        { c with mx := { x with queue := q, active := x.shadow, shadow := x.active }, groups := (t.m.core u L).groups } ∧
        t.m.mem = s.m.mem ∧ Freed c (t.m.core u L) (waits q x.run)))) ∧
    (∀ r, x.run.find? (fun r => r.op.kind = .loadw) = some r →
      let d := r.op.desc
      let tile := if r.op.frag.isSome then [] else (List.range d.rows).map (fun i => (loc + d.addr + i * d.stride, rowBytes (mxWidth d.fmt) d.cols))
      let scl := if mxScaled d.fmt then [(loc + d.scale, tileScales d.fmt)] else []
      (∀ e ∈ tile ++ scl, s.m.Clean e.1 e.2 ∧ s.m.accessHeld true e.1 e.2 = false) →
      Lands (.loadwDone ⟨u, L⟩) s (fun t => t.m.mem = s.m.mem ∧
        (let bank : Bank := { fmt := d.fmt, kRows := d.rows, nCols := d.cols
                              rows := match r.op.frag with
                                | some f => fragRows d f
                                | none => tileRows d (tile.map (fun e => s.m.bytesAt e.1 e.2))
                              scales := (scl.flatMap (fun e => s.m.bytesAt e.1 e.2)).map (·.toNat) }
         let left := x.run.filter (fun q => q.op.id ≠ r.op.id)
         CoreWorks s t u L [] { c with mx := { x with shadow := bank.withSums, run := left }, groups := (t.m.core u L).groups } ∧
         Freed c (t.m.core u L) (waits x.queue left)))) ∧
    (∀ r, s.m.getF u Reg.CORE_MX_ROWS_ROWS p + 1 < 2 ^ 48 →
      let d := r.op.desc
      let rg := rowRanges loc r.op x.active.kRows r.row
      let old := (if mxComplex d.fmt then [0, 1] else [0]).flatMap (fun q => (slotsRead d).map (fun l =>
        (accValueAddr acc d.accFmt d.accRow (slotIndex d q r.row l), 64 * accWidth d.accFmt)))
      let rows : FieldVal := (u.val, Reg.CORE_MX_ROWS_ROWS, p, s.m.getF u Reg.CORE_MX_ROWS_ROWS p + 1)
      let goes (f : MxRun → MxRun) : List MxRun := x.run.map (fun q => if q.op.id = r.op.id then f q else q)
      let delivered (t : State) (out : RowOut) : Prop := t.m.mem = (s.m.accumulateRow u L d r.row (out.vals d) out.exact).1.mem ∧
        (d.streamTree = false → mxComplex d.fmt = false →
          (let w := accWidth d.accFmt
           let A := accValueAddr acc d.accFmt d.accRow r.row
           (∀ a, (a < A ∨ A + 64 * w ≤ a) → t.m.mem.byte a = s.m.mem.byte a) ∧
           ∀ n v, (out.vals d)[n]? = some v → n < 64 → ofLeBytes (t.m.bytesAt (A + w * n) w) =
             (if d.first then accCode d.accFmt v else (accAddVal d.accFmt (ofLeBytes (s.m.bytesAt (A + w * n) w)) v).1) % 2 ^ (8 * w)))
      let faulted (t : State) : Prop := (t.m.core u L).halt = .aborted ∧ (t.m.core u L).aborts = c.aborts + 1 ∧ (t.m.core u L).script = c.rcd.script ∧
        Holds t [rows, up s u Reg.CORE_MX_CHECK_FAULTS p, (u.val, Reg.CORE_MX_LAST_KIND, p, 1), (u.val, Reg.CORE_MX_LAST_VALID, p, 1)] ∧
        SameCores s t u L ∧ t.m.tier = s.m.tier ∧ t.m.hostMem = s.m.hostMem ∧ t.fuse = s.fuse ∧ t.pending = s.pending ∧
        (∀ a, (a < acc + 256 * r.op.accRowsOf.1 ∨ acc + 256 * (r.op.accRowsOf.1 + r.op.accRowsOf.2) ≤ a) → t.m.mem.byte a = s.m.mem.byte a) ∧
        ∀ g, g < r.op.accRowsOf.2 * 32 → t.m.mem.kindAt (acc + 256 * r.op.accRowsOf.1 + 8 * g) = 5
      s.m.mem.wf = true → (∀ e ∈ old, s.m.Clean e.1 e.2) → d.accFmt ≤ 2 → d.accRow + d.rows ≤ 1024 →
      (x.run.find? (fun r => r.op.kind = .stream && decide (r.row < r.op.desc.rows)) = some r → r.hold = none →
        (∀ e ∈ rg, s.m.Clean e.1 e.2) → s.m.anyHeld rg = false →
        let inp := rowInput r.op x.active.kRows r.row (rg.map (fun e => s.m.bytesAt e.1 e.2))
        let out := x.rowOut d inp flips
        let judged := x.active.judge d.fmt d.accFmt inp out.codes out.ints
        ((judged = .ok ∨ judged = .skipped) → Lands (.rowRoot ⟨u, L, fl⟩) s (fun t => delivered t out ∧
          CoreWorks s t u L (rows :: (if judged = .skipped then [up s u Reg.CORE_MX_CHECK_SKIPPED p] else []))
            { c with mx := { x with run := goes (fun q => { q with row := r.row + 1, hold := none }) } })) ∧
        (∀ e, judged = .bad e → mxInt d.fmt = false → Lands (.rowRoot ⟨u, L, fl⟩) s (fun t => t.m.mem = s.m.mem ∧
          CoreWorks s t u L [rows, (u.val, Reg.CORE_MX_LAST_ROW, p, r.row), (u.val, Reg.CORE_MX_LAST_KIND, p, 0), (u.val, Reg.CORE_MX_LAST_VALID, p, 1),
              (u.val, Reg.CORE_MX_LAST_INTEGER, p, 0), (u.val, Reg.CORE_MX_LAST_RESIDUAL_EXP, p, e)]
            { c with mx := { x with run := goes (fun q => { q with hold := some ⟨inp.codes, inp.scales, out.codes, x.active.checkBits d.fmt inp⟩ }) } })) ∧
        (∀ e, judged = .bad e → mxInt d.fmt = true → c.aborts < 7 → Lands (.rowRoot ⟨u, L, fl⟩) s faulted)) ∧
      (∀ h, x.run.find? (fun r => r.op.kind = .stream && r.hold.isSome) = some r → r.hold = some h →
        let inp : RowIn := ⟨h.acts, h.scales⟩
        let out := x.rowOut d inp flips
        let same := h.root = out.codes ∧ h.c = x.active.checkBits d.fmt inp
        (same → Lands (.rowRecompute ⟨u, L, fl⟩) s (fun t => delivered t out ∧
          CoreWorks s t u L [rows, up s u Reg.CORE_MX_CHECK_NUMERICAL p]
            { c with mx := { x with run := goes (fun q => { q with row := r.row + 1, hold := none }), numerical := true } })) ∧
        (¬same → c.aborts < 7 → Lands (.rowRecompute ⟨u, L, fl⟩) s faulted))) ∧
    (∀ r, x.run.find? (fun r => r.op.kind = .stream) = some r → r.rowsDone = true → Lands (.streamDone ⟨u, L⟩) s (fun t => t.m.mem = s.m.mem ∧
      (let left := x.run.filter (fun q => q.op.id ≠ r.op.id)
       CoreWorks s t u L [] { c with mx := { x with run := left }, groups := (t.m.core u L).groups } ∧ Freed c (t.m.core u L) (waits x.queue left)))) ∧
    (∀ r, x.run.find? (fun r => r.op.kind = .drain) = some r →
      let d := r.op.desc
      let read := (drainSlotsOf d).map (fun e => (accValueAddr acc d.accFmt d.accRow (drainIndex d e.1 e.2.1 e.2.2), 64 * accWidth d.accFmt))
      let left := x.run.filter (fun q => q.op.id ≠ r.op.id)
      s.m.mem.wf = true → (∀ e ∈ read, s.m.Clean e.1 e.2) → s.m.anyHeld read = false → s.m.anyHeld (r.op.writes.map (fun w => (loc + w.1, w.2))) = false →
      d.cols ≤ 64 → d.outBytes ≤ d.stride → d.addr + d.rows * d.stride ≤ 0x8_0000 → Lands (.drainDone ⟨u, L⟩) s (fun t =>
        CoreWorks s t u L [] { c with mx := { x with run := left }, groups := (t.m.core u L).groups, regs := (t.m.core u L).regs } ∧
        Freed c (t.m.core u L) (waits x.queue left) ∧
        (r.op.out = none → (t.m.core u L).regs = c.regs) ∧
        (d.clear = true → ∀ e ∈ read, ∀ i, i < e.2 → t.m.mem.byte (e.1 + i) = 0) ∧
        (∀ a, (r.op.out = none → ∀ i, i < d.rows → a < loc + d.addr + i * d.stride ∨ loc + d.addr + i * d.stride + d.outBytes ≤ a) →
          (d.clear = true → ∀ e ∈ read, a < e.1 ∨ e.1 + e.2 ≤ a) → t.m.mem.byte a = s.m.mem.byte a) ∧
        (r.op.out = none → d.drainTree = false → d.complex = false → ∀ i n, i < d.rows → n < d.cols →
          ofLeBytes (t.m.bytesAt (loc + d.addr + i * d.stride + outWidth d.fmt * n) (outWidth d.fmt)) =
            drainConvert d.accFmt d.fmt d.sat d.shift (ofLeBytes (s.m.bytesAt (accValueAddr acc d.accFmt d.accRow i + accWidth d.accFmt * n) (accWidth d.accFmt)))
              % 2 ^ (8 * outWidth d.fmt))))

/-- Operations of the softmax and bias unit start one at a time in order and complete as their descriptors say (R203, R206, R207, R210, R215, R219,
R222). ATT_OP_START, when none runs, starts the oldest queued operation, BUSY reads 1, and lanes that waited for its room go on. ATT_OP_DONE, with the
core's memories not held: ATT.BIAS loads the 2,048 bytes of its table with its mode and parameters into its slot, and no other slot changes; ATT.SCORE
and ATT.NORM, when nothing they read is poisoned, leave memory as their rows in ascending order leave it, and ATT.NORM adds its empty and non-finite
rows to the counters; ATT.PACK copies QBYTES from each entry's QSRC to its row, rows in order, and the pack table holds the list. The unit is then
free, the groups that wait for it go on, and nothing else changes but registers of the executing core. -/
def Obligations.SoftmaxUnitAtWork : Prop :=
  ∀ (s : State) (u : StackNo) (L : Fin 832), u.val < s.fuse.part.stackCount → s.m.coreGoes u L = true → s.m.homeOfIndex u L < 864 →
    let c := s.m.core u L
    let x := c.att
    let p := s.m.physOf u L
    let loc := localAddr u (s.m.homeOfIndex u L) 0
    let waits (w : GWait) : Bool := match w with
      | .att n => (x.queue.map (·.id)).all (fun i => decide (n ≤ i))
      | .attLanes n => (x.queue.drop 8).all (fun o => decide (n < o.id))
      | _ => false
    (c.groups.map (·.1)).Nodup →
    (∀ o q, x.run = none → x.queue = o :: q → Lands (.attOpStart ⟨u, L⟩) s (fun t => t.m.mem = s.m.mem ∧
      CoreWorks s t u L [(u.val, Reg.CORE_ATT_STATUS_BUSY, p, 1), (u.val, Reg.CORE_ATT_STATUS_QUEUED, p, min 8 q.length)]
        { c with att := { x with queue := q, run := some o }, groups := (t.m.core u L).groups } ∧
      Freed c (t.m.core u L) (fun w => match w with
        | .att n => (o.id :: q.map (·.id)).all (fun i => decide (n ≤ i))
        | .attLanes n => (q.drop 8).all (fun o => decide (n < o.id))
        | _ => false))) ∧
    (∀ o, x.run = some o → s.m.accessHeld true loc 1 = false →
      let b := o.desc
      let op := fieldAt b 0 1
      let ends (t : State) (fs : List FieldVal) (a : AttSt) : Prop := CoreWorks s t u L fs { c with att := { a with run := none }, groups := (t.m.core u L).groups } ∧
        Freed c (t.m.core u L) waits
      (op = 0x11 → s.m.Quiet (loc + fieldAt b 4 4) 2048 → Lands (.attOpDone ⟨u, L⟩) s (fun t => t.m.mem = s.m.mem ∧
        ends t [(u.val, Reg.CORE_ATT_STATUS_BUSY, p, 0)] { x with bias := (t.m.core u L).att.bias } ∧
        (∀ i, i ≠ fieldAt b 1 1 → SMap.find (t.m.core u L).att.bias i = SMap.find x.bias i) ∧
        SMap.find (t.m.core u L).att.bias (fieldAt b 1 1) = some
          { log := decide (fieldAt b 2 1 = 1), split := decide (fieldAt b 3 1 = 1), base := toSigned 32 (fieldAt b 8 4), e := fieldAt b 12 1, s := fieldAt b 13 1
            src := loc + fieldAt b 4 4, bytes := (List.range 2048).map (fun i => s.m.mem.readByte (loc + fieldAt b 4 4 + i)) })) ∧
      (op = 0x12 → (let r := (List.range (ScoreD.of b).m).foldl (Mach.scoreStep u L (ScoreD.of b) x.bias (x.pack.getD [])) (s.m, [])
        r.2 = [] → Lands (.attOpDone ⟨u, L⟩) s (fun t => t.m.mem = r.1.mem ∧ ends t [(u.val, Reg.CORE_ATT_STATUS_BUSY, p, 0)] x))) ∧
      (op = 0x13 → (let d := NormD.of b
        let r := (List.range d.m).foldl (Mach.normStep u L d) (s.m, [], 0, 0)
        r.2.1 = [] → Lands (.attOpDone ⟨u, L⟩) s (fun t =>
          (∀ a, (d.count = true → a < loc + d.cntDst ∨ loc + d.cntDst + 4 ≤ a) → t.m.mem.byte a = r.1.mem.byte a) ∧
          (d.count = true → d.cntDst + 4 ≤ 0x8_0000 → s.m.mem.wf = true → ofLeBytes (t.m.bytesAt (loc + d.cntDst) 4) = r.2.2.1 % 2 ^ 32) ∧
          ends t ([(u.val, Reg.CORE_ATT_STATUS_BUSY, p, 0),
            (u.val, Reg.CORE_ATT_COUNT_EMPTY_ROWS, p, satAdd Reg.CORE_ATT_COUNT_EMPTY_ROWS.width (s.m.getF u Reg.CORE_ATT_COUNT_EMPTY_ROWS p) r.2.2.1),
            (u.val, Reg.CORE_ATT_COUNT_NONFINITE_ROWS, p, satAdd Reg.CORE_ATT_COUNT_NONFINITE_ROWS.width (s.m.getF u Reg.CORE_ATT_COUNT_NONFINITE_ROWS p) r.2.2.2)] ++
            (if r.2.2.1 ≠ 0 then [(u.val, Reg.CORE_ATT_STATUS_EMPTY_ROW, p, 1)] else []) ++
            (if r.2.2.2 ≠ 0 then [(u.val, Reg.CORE_ATT_STATUS_NONFINITE, p, 1)] else [])) x))) ∧
      (op = 0x14 → (let d := PackD.of b
        (∀ e ∈ o.list, s.m.Quiet (loc + e.qsrc) d.bytes) → s.m.mem.wf = true → d.bytes ≤ d.stride → d.dst + o.list.length * d.stride ≤ 0x8_0000 →
        d.dst % 8 = 0 → d.stride % 8 = 0 → d.bytes % 8 = 0 →
        (∀ e ∈ o.list, e.qsrc + d.bytes ≤ d.dst ∨ d.dst + o.list.length * d.stride ≤ e.qsrc) → Lands (.attOpDone ⟨u, L⟩) s (fun t =>
          ends t [(u.val, Reg.CORE_ATT_STATUS_BUSY, p, 0), (u.val, Reg.CORE_ATT_STATUS_PACK_VALID, p, 1), (u.val, Reg.CORE_ATT_STATUS_PACK_COUNT, p, o.list.length)]
            { x with pack := some o.list } ∧
          (∀ i e, o.list[i]? = some e → s.m.Clean (loc + e.qsrc) d.bytes → ∀ j, j < d.bytes → t.m.mem.byte (loc + d.dst + i * d.stride + j) = s.m.mem.byte (loc + e.qsrc + j)) ∧
          ((∀ e ∈ o.list, s.m.Clean (loc + e.qsrc) d.bytes) →
            ∀ a, (∀ i, i < o.list.length → a < loc + d.dst + i * d.stride ∨ loc + d.dst + i * d.stride + d.bytes ≤ a) → t.m.mem.byte a = s.m.mem.byte a)))))

/-- Keyed operations arrive once, are performed in key order, and change their contexts as their kinds say (R237, R242, R244, R252, R253, R254, R255,
R258). KEYED_OP_ARRIVAL: an operation with a key performed or queued before is dropped and counted; one within 4,096 of the next key, for which the
intake has room, is queued; one without room waits and INTAKE_WAIT reads 1. Each PERFORM command, when the next key's operation has arrived, is of its
kind and nothing holds it, takes it from the queue and moves the next key on by one, whatever its outcome; the other Cabinet is unchanged. On a
context that is not LIVE no context changes. An append that fails a check sets LAST_FAIL and changes no page; one that succeeds leaves a RESIDENT page
for every position, and the length is NEW_LEN or as before. A fork gives the destination its length and the source's covered map, and keeps the
source's map. A truncation sets the length and clears the map beyond it. A free leaves no context, or an empty one. A hint changes no map and no
length. CHEST_WRITE_DONE completes the oldest Chest copy. -/
def Obligations.KeyedOperationsInOrder : Prop :=
  ∀ (s : State) (u : StackNo) (c : Fin 2), u.val < s.fuse.part.stackCount →
    let k := s.m.cab u c
    let next := s.m.getF u Reg.CAB_ORDER_NEXT_KEY c
    (∀ (n : Nat) (o : KOp), (s.m.keyedOnWay u c)[n]? = some o →
      let here := o.key < next ∨ k.queue.any (fun p => p.key = o.key) = true
      let room := s.m.getF u Reg.CAB_POOL_CFG_INTAKE c * 2 ^ 20 - 262144
      let full := o.key ≠ next ∧ room < k.intakeUsed + o.data.length
      (here → Lands (.keyedOpArrival ⟨u, c, n⟩) s (fun t => Sets s t [up s u Reg.CAB_COUNT1_DUPLICATES c] (fun m => m.receive (.keyed u c o)))) ∧
      (¬here → o.key < next + 4096 → ¬full → Lands (.keyedOpArrival ⟨u, c, n⟩) s (fun t =>
        Sets s t ((u.val, Reg.CAB_ORDER_INTAKE_WAIT, c.val, 0) :: cabFields t.m u c) (fun m =>
          (m.receive (.keyed u c o)).updCab u c (fun k => { k with queue := k.queue ++ [o] })))) ∧
      (¬here → o.key < next + 4096 → full → Lands (.keyedOpArrival ⟨u, c, n⟩) s (fun t => Sets s t [(u.val, Reg.CAB_ORDER_INTAKE_WAIT, c.val, 1)]))) ∧
    (∀ (kind : Nat) (i : Instr) (f : Mach → Mach) (o : KOp),
      (i, kind, f (s.m)) ∈ [(Instr.appendPerform ⟨u, c⟩, 0x21, s.m.performAppend u c), (.forkPerform ⟨u, c⟩, 0x23, s.m.performFork u c),
        (.freePerform ⟨u, c⟩, 0x24, s.m.performFree u c), (.truncPerform ⟨u, c⟩, 0x25, s.m.performTrunc u c), (.hintPerform ⟨u, c⟩, 0x26, s.m.performHint u c)] →
      s.m.nextOp u c kind = some o → s.m.cabHeld u c = false → (kind = 0x21 → s.m.refillWaits u c o = false) → (s.m.journalPut (f s.m) u).isSome →
      Lands i s (fun t => t.fuse = s.fuse ∧ t.pending = s.pending ∧
        t.m.getF u Reg.CAB_ORDER_NEXT_KEY c = (next + 1) % 2 ^ 32 ∧ (t.m.cab u c).queue = k.queue.filter (fun p => p.key ≠ o.key) ∧
        t.m.cab u (1 - c.val) = s.m.cab u (1 - c.val) ∧ (∀ v L, t.m.core v L = s.m.core v L) ∧
        (s.m.seq u o.seq = none → ∀ q, t.m.seq u q = s.m.seq u q) ∧
        (∀ x, s.m.seq u o.seq = some x → cabOf o.seq = c.val → (∀ g id, SMap.find x.map g = some id → (s.m.page u c id).isSome) → (x.map.map (·.1)).Nodup → (k.pages.map (·.1)).Nodup →
          (kind = 0x21 → (s.m.appendCheck u c o x ≠ 0 → (∀ id, (t.m.page u c id).map (fun p => { p with stamp := 0 }) = (s.m.page u c id).map (fun p => { p with stamp := 0 })) ∧
              ∃ y, t.m.seq u o.seq = some y ∧ y.lastFail = s.m.appendCheck u c o x ∧ y.map = x.map ∧ y.length = x.length) ∧
            ((s.m.append u c o x).2 = 0 → ∃ y, t.m.seq u o.seq = some y ∧ y.length = (if bit o.flags 0 then o.newLen else x.length) ∧ y.lastFail = x.lastFail ∧
              ∀ j, j < o.n → ∃ id p, SMap.find y.map (x.logical (o.pos + j) o.seq2) = some id ∧ t.m.page u c id = some p ∧ p.loc = 1 ∧ p.error = false)) ∧
          (kind = 0x23 → o.seq ≠ o.seq2 → ∀ d, s.m.seq u o.seq2 = some d → (s.m.fork u c o.seq o.seq2 o.pos x d).2 = 0 →
            ∃ y z, t.m.seq u o.seq2 = some y ∧ t.m.seq u o.seq = some z ∧ y.length = o.pos ∧ z.map = x.map ∧ z.length = x.length ∧
              ∀ g, SMap.find y.map g = if g / x.streams * kvPositions x.fmt x.hd < o.pos ∧ (SMap.find x.map g).isSome then SMap.find x.map g else SMap.find d.map g) ∧
          (kind = 0x24 → if bit o.flags 0 then (∃ y, t.m.seq u o.seq = some y ∧ y.length = 0 ∧ y.map = []) else t.m.seq u o.seq = none) ∧
          (kind = 0x25 → o.pos ≤ x.length → ∃ y, t.m.seq u o.seq = some y ∧ y.length = o.pos ∧ y.exhausted = false ∧
            ∀ g, SMap.find y.map g = if o.pos ≤ g / x.streams * kvPositions x.fmt x.hd then none else SMap.find x.map g) ∧
          (kind = 0x26 → ∃ y, t.m.seq u o.seq = some y ∧ y.length = x.length ∧ y.map = x.map)))) ∧
    (∀ e r, k.copying = e :: r → Lands (.chestWriteDone ⟨u, c⟩) s (fun t => Sets s t [] (fun m => m.updCab u c (fun k => { k with copying := r }))))

/-- A gather writes its data, then its status word, and the groups that wait for it go on (R248, R249, R250). GATHER_DONE of the oldest gather of a
core whose memories are not held, with room in the twin journal. When the sequence is not LIVE, or has another format or head dimension, the status
word is 0x34 with position 0, and no other byte of memory changes. When no page that it reads fails, it takes nothing from the unit's own stage and
asks for keys alone: row i of the destination holds element i of each position in order, and the status word holds the first code that is not 0 with
its position, or zeros. The gather has left the list, and the groups whose KV.WAIT it was the last for go on. -/
def Obligations.GathersWriteDataThenStatus : Prop :=
  ∀ (s : State) (u : StackNo) (L : Fin 832) (g : KGather) (rest : List KGather), u.val < s.fuse.part.stackCount →
    let c := s.m.core u L
    let b := g.desc
    let q := fieldAt b 4 2
    let k := cabOf q
    let n := fieldAt b 2 2
    let base := localAddr u (s.m.homeOfIndex u L) 0
    let st := base + fieldAt b 0x0C 4
    let waits (w : GWait) : Bool := match w with
      | .kv n => (rest.map (·.id)).all (fun i => decide (n ≤ i))
      | _ => false
    let done (t : State) : Prop := t.fuse = s.fuse ∧ t.pending = s.pending ∧ SameCores s t u L ∧ t.m.tier = s.m.tier ∧ t.m.hostMem = s.m.hostMem ∧
      (let d := t.m.core u L
       d = { c with kv := { c.kv with gathers := rest }, groups := d.groups } ∧ Freed c d waits)
    c.kv.gathers = g :: rest → s.m.coreGoes u L = true → s.m.cabHeld u k = false → s.m.accessHeld true base 1 = false → (c.groups.map (·.1)).Nodup →
    s.m.homeOfIndex u L < 864 → fieldAt b 0x0C 4 + 8 ≤ 0x8_0000 → s.m.mem.wf = true → (s.m.twin u).logSent + jCloseSize ≤ jLogSize →
    ((s.m.seq u q = none ∨ ∃ x, s.m.seq u q = some x ∧ (x.fmt ≠ fieldAt b 0x20 1 ∨ x.hd ≠ fieldAt b 0x21 1)) →
      Lands (.gatherDone ⟨u, L⟩) s (fun t => done t ∧ (∀ f j v, t.m.getF v f j = s.m.getF v f j) ∧ t.m.bytesAt st 8 = leBytes 4 0x34 ++ leBytes 4 0 ∧
        ∀ a, (a < st ∨ st + 8 ≤ a) → t.m.mem.byte a = s.m.mem.byte a)) ∧
    (∀ x, s.m.seq u q = some x → x.fmt = fieldAt b 0x20 1 → x.hd = fieldAt b 0x21 1 → x.hd ≤ 2 → s.m.gatherScan u k g x = s.m → g.own = none → fieldAt b 1 1 = 1 →
      let l := (List.range n).map (fun j => s.m.gatherPos u k g x (fieldAt b 8 4 + j))
      let row (i : Nat) := base + fieldAt b 0x10 4 + i * fieldAt b 0x14 4
      let first := (l.zipIdx).find? (fun e => e.1.code ≠ 0)
      2 * n ≤ fieldAt b 0x14 4 → fieldAt b 0x10 4 + kvDim x.hd * fieldAt b 0x14 4 ≤ 0x8_0000 →
      (∀ i, i < kvDim x.hd → st + 8 ≤ row i ∨ row i + 2 * n ≤ st) →
      Lands (.gatherDone ⟨u, L⟩) s (fun t => done t ∧
        t.m.bytesAt st 8 = (match first with
          | none => leBytes 4 0 ++ leBytes 4 0
          | some e => leBytes 4 e.1.code ++ leBytes 4 (fieldAt b 8 4 + e.2)) ∧
        (∀ i j e, i < kvDim x.hd → l[j]? = some e → t.m.bytesAt (row i + 2 * j) 2 = leBytes 2 (e.k.getD i 0)) ∧
        ∀ a, (a < st ∨ st + 8 ≤ a) → (∀ i, i < kvDim x.hd → a < row i ∨ row i + 2 * n ≤ a) → t.m.mem.byte a = s.m.mem.byte a))

/-- Links train to UP or FAILED, take their spare lane, and a link that goes down moves or fails its routes (R338, R339, R340, R347, R348, R354, R355,
R362, R364). LINK_TRAINING_DONE of a device link in TRAINING, RETRAIN_DONE of one in RETRAINING that nobody asked for and that tests no lane: with no
lane failed, the link is UP with its peer's identity; with one data lane failed and the spare free, the spare carries it and the link is UP; with the
stack's own SDID, it stays in TRAINING with SDID_CLASH; a failed attempt is counted and the third in a row makes it FAILED. A bridge link comes UP the
same way. PEER_SIGNAL_LOSS: a link in TRAINING, UP or RETRAINING is in PEER_LOST, with DOWN_EVENT, its source and LINK_DOWN; a route over it whose ALT
is UP (and no link without a licence) moves there, one without such an ALT has failed and the plan is aborted. SIGNAL_DETECT_RETRY of a link in
PEER_LOST trains it again if it sees a signal. LANE_WINDOW_END adds the window's counts to the counters; after a CRC failure of a link that is UP,
with a lane at its limit, no test on its spare, the link retrains and tests the worst lane. What a pair would move to the other twin link is not told
here. -/
def Obligations.LinksTrainFailOverAndRetrain : Prop :=
  ∀ (s : State) (u : StackNo), u.val < s.fuse.part.stackCount →
    (∀ (n : Fin 24) (a : TrainResult) (st : Nat) (i : Instr), (i, st) ∈ [(Instr.linkTrainingDone a, 1), (.retrainDone a, 3)] → a.stack = u → a.link = .device n →
      s.m.getF u Reg.LNK_STATUS_STATE n = st → (s.m.lnk u n).testLane = none → (s.m.lnk u n).asked = false →
      let d := a.sdid.toNat
      let l := s.m.lnk u n
      let noRoutes := (∀ r, r < 16384 → s.m.getB u Reg.LNK_ROUTE_VALID r = false) ∧ (s.m.stk u).link.openX = [] ∧ s.m.twinState u = 0
      let links (t : State) (m : Mach) : Mach := m.updLinks u (fun _ => (t.m.stk u).link)
      (a.ok = true → a.failed = [] → (d ≠ s.m.sdid u ∨ d = 0xFFFF) → Lands i s (fun t =>
        Sets s t [(u.val, Reg.LNK_STATUS_STATE, n.val, 2), (u.val, Reg.LNK_STATUS_SDID_CLASH, n.val, 0), (u.val, Reg.LNK_PEER_SDID, n.val, d),
          (u.val, Reg.LNK_PEER_STACK, n.val, a.peerStack.val), (u.val, Reg.LNK_PEER_LINK, n.val, a.peerLink.val), (u.val, Reg.LNK_PEER_SERIAL_LO, n.val, a.serial.toNat)] (links t) ∧
        (t.m.lnk u n).fails = 0 ∧ (t.m.lnk u n).recvSeq = l.recvSeq ∧ (t.m.stk u).link.xfers = (s.m.stk u).link.xfers ∧
        ∀ k, k ≠ n.val → t.m.lnk u k = s.m.lnk u k)) ∧
      (a.ok = true → ∀ k : Fin 17, a.failed = [k] → k.val < 8 → (d ≠ s.m.sdid u ∨ d = 0xFFFF) → s.m.getB u Reg.LNK_CTRL_SPARE_EN n = true →
        s.m.getF u Reg.LNK_STATUS_SPARE_FOR n = 15 → l.scan = none → s.m.getB u Reg.LNK_PAT_CFG_CHECK n = false →
        Lands i s (fun t => t.fuse = s.fuse ∧ t.pending = s.pending ∧ t.m.mem = s.m.mem ∧ t.m.tier = s.m.tier ∧
          Holds t [(u.val, Reg.LNK_STATUS_STATE, n.val, 2), (u.val, Reg.LNK_STATUS_SPARE_FOR, n.val, k.val), (u.val, Reg.LNK_PEER_SDID, n.val, d)] ∧
          ∀ j, j ≠ n.val → t.m.lnk u j = s.m.lnk u j)) ∧
      (a.ok = true → a.failed = [] → d = s.m.sdid u → d ≠ 0xFFFF → Lands i s (fun t =>
        Ends s t [(u.val, Reg.LNK_STATUS_STATE, n.val, 1), (u.val, Reg.LNK_STATUS_SDID_CLASH, n.val, 1), (u.val, Reg.LNK_PEER_SDID, n.val, d),
          (u.val, Reg.LNK_PEER_STACK, n.val, a.peerStack.val), (u.val, Reg.LNK_PEER_LINK, n.val, a.peerLink.val), (u.val, Reg.LNK_PEER_SERIAL_LO, n.val, a.serial.toNat)] ∧
        Raised s t u (80 + n.val))) ∧
      (a.ok = false → l.fails < 2 → Lands i s (fun t => Sets s t [] (fun m => m.updLnk u n (fun l => { l with fails := l.fails + 1 })))) ∧
      (a.ok = false → 2 ≤ l.fails → noRoutes → Lands i s (fun t =>
        Ends s t [(u.val, Reg.LNK_STATUS_STATE, n.val, 5), (u.val, Reg.LNK_STATUS_DOWN_EVENT, n.val, 1)] (fun m => m.updLnk u n (fun l => { l with fails := 0 })) ∧
        Told t u 0x000E [n.val, 5]))) ∧
    (∀ (b : Fin 8) (a : TrainResult), a.stack = u → a.link = .bridge b → bridgePresent s.fuse.part b = true → a.ok = true → a.failed = [] →
      (s.m.getF u Reg.LNK_BRIDGE_STATUS_STATE b = 1 → Lands (.linkTrainingDone a) s (fun t =>
        Ends s t [(u.val, Reg.LNK_BRIDGE_STATUS_STATE, b.val, 2)] ∧ Raised s t u (104 + b.val))) ∧
      (s.m.getF u Reg.LNK_BRIDGE_STATUS_STATE b = 3 → Lands (.retrainDone a) s (fun t =>
        Ends s t [(u.val, Reg.LNK_BRIDGE_STATUS_STATE, b.val, 2), up s u Reg.LNK_BRIDGE_STATUS_RETRAINS b]))) ∧
    (∀ n : Fin 24, s.m.getF u Reg.LNK_STATUS_STATE n ∈ [1, 2, 3] → Lands (.peerSignalLoss ⟨u, .device n⟩) s (fun t =>
      t.fuse = s.fuse ∧ t.pending = s.pending ∧ Holds t [(u.val, Reg.LNK_STATUS_STATE, n.val, 4), (u.val, Reg.LNK_STATUS_DOWN_EVENT, n.val, 1)] ∧
      ((∀ r, r < 16384 → s.m.getB u Reg.LNK_ROUTE_VALID r = false) → (s.m.stk u).link.openX = [] → s.m.twinState u = 0 →
        Ends s t [(u.val, Reg.LNK_STATUS_STATE, n.val, 4), (u.val, Reg.LNK_STATUS_DOWN_EVENT, n.val, 1)] ∧ Told t u 0x000E [n.val, 4]) ∧
      ∀ r, r < 16384 → s.m.getB u Reg.LNK_ROUTE_VALID r = true → s.m.getF u Reg.LNK_ROUTE_HOP r = n.val → (s.m.stk u).link.failed.contains r = false →
        (s.m.stk u).link.onAlt.contains r = false →
        (let alt := s.m.getF u Reg.LNK_ROUTE_ALT r
         (alt < 24 → alt ≠ n.val → s.m.linkUp u alt = true → (alt < 8 ∨ bit (s.m.getF u Reg.LIC_STATUS_FEATURES) 0 = true ∨ s.m.planOn u = false) → (t.m.stk u).link.onAlt.contains r = true) ∧
         (¬(alt < 24 ∧ alt ≠ n.val ∧ s.m.linkUp u alt = true) → (t.m.stk u).link.failed.contains r = true ∧
           (s.m.planOn u = true → t.m.getF u Reg.BUR_PLAN_STATE_STATE = 4))))) ∧
    (∀ b : Fin 8, s.m.getF u Reg.LNK_BRIDGE_STATUS_STATE b ∈ [1, 2, 3] → Lands (.peerSignalLoss ⟨u, .bridge b⟩) s (fun t =>
      Ends s t [(u.val, Reg.LNK_BRIDGE_STATUS_STATE, b.val, 4)] ∧ Raised s t u (104 + b.val))) ∧
    (∀ n : Fin 24, s.m.getF u Reg.LNK_STATUS_STATE n = 4 →
      Lands (.signalDetectRetry ⟨u, n, true⟩) s (fun t => Sets s t [(u.val, Reg.LNK_STATUS_STATE, n.val, 1)]) ∧
      Lands (.signalDetectRetry ⟨u, n, false⟩) s (fun t => t = s)) ∧
    (∀ (n : Fin 24) (l : List Word) (lost : Word), l.length ≤ 9 →
      let c := l.map (·.toNat)
      let counts := ((c.zipIdx).map (fun e => (u.val, Reg.LNK_LANE_ERR_FEC_SYMBOLS, n.val * 9 + e.2,
          satAdd Reg.LNK_LANE_ERR_FEC_SYMBOLS.width (s.m.getF u Reg.LNK_LANE_ERR_FEC_SYMBOLS (n.val * 9 + e.2)) e.1)) : List FieldVal) ++
        [(u.val, Reg.LNK_FEC_CORRECTED, n.val, satAdd Reg.LNK_FEC_CORRECTED.width (s.m.getF u Reg.LNK_FEC_CORRECTED n) c.sum),
         (u.val, Reg.LNK_FEC_UNCORRECTABLE, n.val, satAdd Reg.LNK_FEC_UNCORRECTABLE.width (s.m.getF u Reg.LNK_FEC_UNCORRECTABLE n) lost.toNat)]
      ((s.m.lnk u n).window = false ∨ s.m.linkUp u n = false → Lands (.laneWindowEnd ⟨u, n, l, lost⟩) s (fun t => Sets s t counts)) ∧
      ((s.m.lnk u n).window = true → s.m.linkUp u n = true → c.any (fun x => decide (s.m.getF u Reg.LNK_CTRL_LANE_LIMIT n ≤ x)) = true → s.m.twinState u = 0 →
        (s.m.lnk u n).scan ≠ some 8 → (bit (s.m.getF u Reg.LNK_PAT_CFG_LANES n) 8 && s.m.getB u Reg.LNK_PAT_CFG_CHECK n) = false →
        Lands (.laneWindowEnd ⟨u, n, l, lost⟩) s (fun t =>
          Ends s t (counts ++ [(u.val, Reg.LNK_STATUS_STATE, n.val, 3), (u.val, Reg.LNK_STATUS_DOWN_EVENT, n.val, 1), up s u Reg.LNK_STATUS_RETRAINS n])
            (fun m => m.updLnk u n (fun k => { k with asked := false, testLane := some (worstLane c), replays := 0, fails := 0, window := false })))))

/-- Flits are 274 bytes, taken in sequence only; what they carry is delivered, forwarded or dropped by their route (R83, R341, R342, R343, R344, R345,
R346, R351, R352, R356). The header and CRC that a flit is sent with are those that its receiver reads. On a link that is UP: a flit that fails its
CRC changes nothing but NAK and the open lane window; a flit out of sequence changes nothing but NAK. IDLE drops what it acknowledges from the replay
buffer; a flit of a reserved type is dropped and logged. An accepted flit advances the expected sequence number. Of the flits of a route: WRITE,
READ_REQ and MESSAGE on a link whose announced plan is not the stack's own are dropped and logged; a label that is not VALID is counted as UNROUTED; a
hop that is not LOCAL forwards the flit. At a LOCAL hop: WRITE puts its bytes at its address and no other byte changes; WRITE_ACK completes its
transfer; READ_REQ answers with the bytes read, converted as its entry says, on the return path; READ_RSP writes its bytes at the destination of its
request; POISON leaves a mark for the next flit of its route; MESSAGE delivers a signal to its object. PLAN_ANNOUNCE records the peer's plan. -/
def Obligations.FlitsInSequenceAndRouted : Prop :=
  ∀ (s : State) (h : FlitHead), h.stack.val < s.fuse.part.stackCount →
    let u := h.stack
    let n := h.link
    let l := s.m.lnk u n
    (∀ (f : Flit) (seq ack : Fin 4096) (nak : Bool), f.typ < 16 → f.len < 1024 → f.route < 2 ^ 14 → f.addr < 2 ^ 52 → f.payload.length = 256 →
      let b := f.wire seq ack nak
      wireFlit b = f ∧ wireIn u n b = { stack := u, link := n, seq := seq, ack := ack, nak := nak, crcOk := true }) ∧
    (s.m.linkUp u n = true →
    (∀ (i : Instr) (f : FlitIn) (b : HeartbeatIn) (c : ControlIn), f.head = h → b.head = h → c.head = h →
      i ∈ [Instr.write f, .writeAck f, .readReq f, .readRsp f, .message f, .poison f, .journal f, .heartbeat b, .planAnnounce c, .pairHello c,
        .controlDetach c, .controlStop c, .controlConflict c, .controlRejoin c] →
      (h.crcOk = false → Lands i s (fun t => Sets s t [] (fun m => m.updLnk u n (fun l => { l with nak := true, window := true })))) ∧
      (h.crcOk = true → l.unacked = [] → h.seq.val ≠ l.recvSeq → Lands i s (fun t => Sets s t [] (fun m => m.updLnk u n (fun l => { l with nak := true }))))) ∧
    (∀ ty : Fin 16, (h.crcOk = false → Lands (.idle ⟨h, ty⟩) s (fun t => Sets s t [] (fun m => m.updLnk u n (fun l => { l with nak := true, window := true })))) ∧
      (h.crcOk = true → l.unacked = [] → h.seq.val = l.recvSeq → ty ≠ 0 → Lands (.idle ⟨h, ty⟩) s (fun t =>
        Ends s t [] (fun m => m.updLnk u n (fun l => { l with recvSeq := (l.recvSeq + 1) % 4096, nak := false })) ∧
        ∃ e r, (t.m.stk u).bureau.errLog = e :: r ∧ e.code = 0x0101))) ∧
    (h.crcOk = true → h.nak = false → l.queue = [] → l.opened = none → ∀ q f r, l.unacked = (q, f) :: r →
      (let d := (h.ack.val + 1 + 4096 - q) % 4096
       let k := if d ≤ l.unacked.length then d else 0
       Lands (.idle ⟨h, 0⟩) s (fun t => Sets s t [] (fun m => m.updLnk u n (fun l => { l with
         unacked := l.unacked.drop k, replays := if 0 < k then 0 else l.replays
         marks := (l.unacked.take k).foldl (fun x e => if e.2.flit.typ = 6 then SMap.put x e.2.src e.2 else SMap.erase x e.2.src) l.marks }))))) ∧
    (h.crcOk = true → l.unacked = [] → h.seq.val = l.recvSeq →
      let got (m : Mach) : Mach := m.updLnk u n (fun l => { l with recvSeq := (l.recvSeq + 1) % 4096, nak := false })
      let links (t : State) (m : Mach) : Mach := m.updLinks u (fun _ => (t.m.stk u).link)
      (∀ x : Dword, Lands (.planAnnounce ⟨h, x⟩) s (fun t => Sets s t [] (fun m => m.updLnk u n (fun l =>
        { l with recvSeq := (l.recvSeq + 1) % 4096, nak := false, announced := some x.toNat })))) ∧
      (∀ f : FlitIn, f.head = h →
        let r := f.route.val
        let hop := s.m.getF u Reg.LNK_ROUTE_HOP r
        let unmarked (m : Mach) : Mach := (got m).updLinks u (fun k => { k with poison := k.poison.filter (fun p => p.label ≠ r) })
        let fwd (typ : Nat) : Flit := { typ := typ, first := f.first, last := f.last, packed := f.packed, len := f.len, addr := f.addr.toNat, payload := f.payload }
        (∀ i typ g, (i, typ, g) ∈ [(Instr.write f, 1, true), (.writeAck f, 2, false), (.readReq f, 3, true), (.readRsp f, 4, false), (.message f, 5, true), (.poison f, 6, false)] →
          (g = true → s.m.announcedOk u n = false → Lands i s (fun t =>
            Ends s t [(u.val, Reg.SYNC_DROPPED_DROPPED, 0, satAdd 32 (s.m.getF u Reg.SYNC_DROPPED_DROPPED) (if typ = 5 then messageSignals f.payload else 0))] unmarked ∧
            ∃ e r, (t.m.stk u).bureau.errLog = e :: r ∧ e.code = 0x0101)) ∧
          ((g = true → s.m.announcedOk u n = true) →
            (s.m.getB u Reg.LNK_ROUTE_VALID r = false → Lands i s (fun t => Sets s t [up s u Reg.LNK_ROUTE_STATUS_UNROUTED] unmarked)) ∧
            (s.m.getB u Reg.LNK_ROUTE_VALID r = true → hop ≠ 0x1F → Lands i s (fun t => Sets s t [] (links t) ∧
              (t.m.stk u).link = (((got s.m).routeSend u r [fwd typ] (some n.val)).stk u).link)))) ∧
        (s.m.getB u Reg.LNK_ROUTE_VALID r = true → hop = 0x1F →
          let here : Prop := daRegion f.addr.toNat ≠ 4 ∧ s.m.mem.wf = true
          let data := flitBytes f
          (s.m.announcedOk u n = true → (s.m.stk u).link.poison.find? (fun p => p.label = r) = none → s.m.accessHeld false f.addr.toNat data.length = false →
            s.m.writeDeny (.mover 63) (s.m.place s.fuse.part.stackCount f.addr.toNat) f.addr.toNat = none → here →
            (∀ i, i < data.length → s.m.rowFailed (f.addr.toNat + i) = false) → Lands (.write f) s (fun t =>
              Sets s t [] (fun m => { links t m with mem := t.m.mem }) ∧
              (∀ b, t.m.mem.byte b = if f.addr.toNat ≤ b ∧ b < f.addr.toNat + data.length then data.getD (b - f.addr.toNat) 0 else s.m.mem.byte b) ∧
              (f.last = true → ∃ e, e ∈ (t.m.lnk u (s.m.getF u Reg.LNK_ROUTE_ALT r)).queue ++ (t.m.lnk u (s.m.getF u Reg.LNK_ROUTE_ALT r)).unacked.map (·.2) ∧
                e.src = r ∧ e.flit.typ = 2 ∧ (f.first = true → e.flit.addr = f.addr.toNat % 2 ^ 16)))) ∧
          (∀ x y, (s.m.stk u).link.xfers = x :: y → x.read = false → x.tag = f.addr.toNat % 2 ^ 16 → s.m.routeLink u x.route = n.val →
            Lands (.writeAck f) s (fun t => Sets s t [] (fun m => (got m).updLinks u (fun k => { k with xfers := y })))) ∧
          (let src := fieldAt f.payload 0 8
           let len := fieldAt f.payload 8 4
           s.m.announcedOk u n = true → s.m.accessHeld false src len = false → readDeny (.mover 63) (s.m.place s.fuse.part.stackCount src) = none →
           s.m.Clean src len → (let bs := convertBytes (s.m.getF u Reg.LNK_ROUTE_CONVERT r) (PByte.clean (s.m.bytesAt src len))
            Lands (.readReq f) s (fun t => Sets s t [] (links t) ∧ (t.m.stk u).link = (((got s.m).sendBack u r
              (plainFlits (bs.length / 256 + 1) 4 (fieldAt f.payload 12 4 * 2 ^ 16) bs true true)).stk u).link))) ∧
          (∀ x y, (s.m.stk u).link.xfers = x :: y → x.read = true → x.tag = f.addr.toNat / 2 ^ 16 → data.length ≤ x.len - f.addr.toNat % 2 ^ 16 →
            (let ad := x.dst + f.addr.toNat % 2 ^ 16
             (s.m.stk u).link.poison.find? (fun p => p.label = r) = none → s.m.accessHeld false ad data.length = false →
             s.m.writeDeny (.mover 63) (s.m.place s.fuse.part.stackCount ad) ad = none → daRegion ad ≠ 4 → s.m.mem.wf = true →
             (∀ i, i < data.length → s.m.rowFailed (ad + i) = false) → Lands (.readRsp f) s (fun t =>
               Sets s t [] (fun m => { links t m with mem := t.m.mem }) ∧
               (∀ b, t.m.mem.byte b = if ad ≤ b ∧ b < ad + data.length then data.getD (b - ad) 0 else s.m.mem.byte b) ∧
               (x.left ≤ data.length → (t.m.stk u).link.xfers = y)))) ∧
          Lands (.poison f) s (fun t => Sets s t [] (fun m => (unmarked m).updLinks u (fun k => { k with
            poison := k.poison ++ [⟨r, fieldAt f.payload 0 4, fieldAt f.payload 4 16⟩] }))) ∧
          (let e := f.payload.take f.len
           let w := fieldAt e 0 8
           let o := handleObj (bits w 0 32)
           s.m.announcedOk u n = true → e.length = 16 → fieldAt e 8 1 = 2 → handleBad (bits w 0 32) = false → s.m.stackOf (handleSdid (bits w 0 32)) = some u.val → 64 ≤ o →
           Lands (.message f) s (fun t => t.fuse = s.fuse ∧ t.pending = s.pending ∧ t.m.mem = s.m.mem ∧ t.m.tier = s.m.tier ∧
             (bits w 32 16 ≠ 0 → t.m.count u o = (s.m.count u o + bits w 32 16) % 2 ^ 48) ∧
             (∀ x, x < 8192 → x ≠ o → t.m.count u x = s.m.count u x)))))))

/-- A pattern test counts its lanes, a margin scan records its steps, and the command that ran them completes (R358, R359, R360, R413).
PATTERN_TEST_DONE while CHECK is 1: the bit errors of each checked lane are added to its counter, and no other lane's; with no LINK_TEST under way
nothing else changes; with one, GEN and CHECK read 0, the pattern unit is free and the command completes with the counts, and the link's source is
raised. MARGIN_SCAN_DONE of a scan under way: LEFT, RIGHT, UP and DOWN hold the steps, DONE reads 1 and ABORTED 0, the unit is free, the LINK_MARGIN
under way completes with the four values, and the link's source is raised. -/
def Obligations.PatternTestsAndMarginScansEnd : Prop :=
  ∀ (s : State) (u : StackNo) (n : Fin 24), u.val < s.fuse.part.stackCount →
    (∀ l : List Word, l.length ≤ 9 → s.m.getB u Reg.LNK_PAT_CFG_CHECK n = true →
      let on (k : Nat) : Bool := bit (s.m.getF u Reg.LNK_PAT_CFG_LANES n) k
      let counts : List FieldVal := ((l.zipIdx).filter (fun e => on e.2)).map (fun e => (u.val, Reg.LNK_LANE_ERR_BIT_ERRORS, n.val * 9 + e.2,
        satAdd Reg.LNK_LANE_ERR_BIT_ERRORS.width (s.m.getF u Reg.LNK_LANE_ERR_BIT_ERRORS (n.val * 9 + e.2)) e.1.toNat))
      (s.m.host.deferred.find? (fun r => r.opcode = 0x0901 && onLink u n r) = none → Lands (.patternTestDone ⟨u, n, l⟩) s (fun t => Sets s t counts)) ∧
      (∀ r, s.m.host.deferred.find? (fun r => r.opcode = 0x0901 && onLink u n r) = some r → Lands (.patternTestDone ⟨u, n, l⟩) s (fun t =>
        ∃ m, Sets s { s with m := m } (counts ++ [(u.val, Reg.LNK_PAT_CFG_GEN, n.val, 0), (u.val, Reg.LNK_PAT_CFG_CHECK, n.val, 0), (u.val, Reg.LNK_PAT_CFG_OWNER, n.val, 0),
            (u.val, Reg.REG_OWNER_OWNER, n.val, 0), (u.val, Reg.REG_OWNER_CLASS, n.val, 0)] ++
            (if on 8 then [(u.val, Reg.REG_OWNER_OWNER, 24 + n.val, 0), (u.val, Reg.REG_OWNER_CLASS, 24 + n.val, 0)] else [])) ∧
          t = { s with m := (m.completeDeferred 0x0901 (fun x => x = r) 0
            ((List.range 9).flatMap (fun k => leBytes 4 (if on k then ((l[k]?).map (·.toNat)).getD 0 else 0)))).srcEdge u (80 + n.val) }))) ∧
    (∀ (left right upp down : Fin 64) (lane : Nat), (s.m.lnk u n).scan = some lane → Lands (.marginScanDone ⟨u, n, left, right, upp, down⟩) s (fun t =>
      ∃ m, Sets s { s with m := m } ([(u.val, Reg.LNK_MARGIN_DONE, n.val, 1), (u.val, Reg.LNK_MARGIN_ABORTED, n.val, 0), (u.val, Reg.LNK_MARGIN_LEFT, n.val, left.val),
          (u.val, Reg.LNK_MARGIN_RIGHT, n.val, right.val), (u.val, Reg.LNK_MARGIN_UP, n.val, upp.val), (u.val, Reg.LNK_MARGIN_DOWN, n.val, down.val),
          (u.val, Reg.LNK_PAT_CFG_OWNER, n.val, 0), (u.val, Reg.REG_OWNER_OWNER, n.val, 0), (u.val, Reg.REG_OWNER_CLASS, n.val, 0)] ++
          (if lane = 8 then [(u.val, Reg.REG_OWNER_OWNER, 24 + n.val, 0), (u.val, Reg.REG_OWNER_CLASS, 24 + n.val, 0)] else []))
          (fun m => m.updLnk u n (fun l => { l with scan := none })) ∧
        t = { s with m := (m.completeDeferred 0x0902 (onLink u n) 0 (leBytes 1 left ++ leBytes 1 right ++ leBytes 1 upp ++ leBytes 1 down)).srcEdge u (80 + n.val) }))

/-- Twin flits fill the journal, close epochs, pair, take over and give way; heartbeats and installation go on (R365, R366, R367, R368, R369, R370,
R371, R372, R374, R375, R376). A flit accepted on a twin link whose peer is the twin. JOURNAL bytes of the open epoch's log lie in the journal area
and no other byte of the tier changes. HEARTBEAT of a twin that journals: the next epoch is noted until its bytes have come, and one with no bytes is
applied at once; the twin's state is noted. PAIR_HELLO: noted before TWIN_PAIR; one that matches completes a pairing, and the stack is PAIRED with
EPOCH 0. DETACH and STOP: a paired stack takes over: STATE is SERVING_TWIN and the twin's LIVE ids are held with those held before. CONFLICT, or a
heartbeat in SERVING_TWIN: a stack whose twin took over is DETACHED. REJOIN: the twin's request is noted, or refused while a plan is on; its end of
the pair unpairs a stack that serves nothing for it. HEARTBEAT_SEND of a paired stack closes its epoch and sends a heartbeat on each twin link that is
UP. HEARTBEAT_LOSS: MISSED counts and STATE is TWIN_LOST, or SERVING_TWIN with AUTO_TAKEOVER. TWIN_INSTALL, with no plan on, installs the lowest held
id; TWIN_INSTALLED, once none is held, tells the host how many were. -/
def Obligations.TwinTrafficAndTakeover : Prop :=
  ∀ (s : State) (u : StackNo), u.val < s.fuse.part.stackCount →
    let w := s.m.twin u
    let st := s.m.twinState u
    let taken := (List.range 65536).filter (fun q => w.held.contains q || (s.m.mirrorLive u q && (s.m.seq u q).isNone))
    let servingNow (surprise : Bool) : TwinSt := { w with
      logGot := [], close := none, held := taken, serving := true, surprise := surprise, rejoinMe := false, rejoinYou := false }
    let links (t : State) (m : Mach) : Mach := m.updLinks u (fun _ => (t.m.stk u).link)
    let noRejoin : Prop := s.m.host.deferred.find? (fun r => r.opcode = 0x0604 && r.stack = u.val) = none
    (∀ (h : FlitHead), h.stack = u → s.m.linkUp u h.link = true → h.crcOk = true → (s.m.lnk u h.link).unacked = [] → h.seq.val = (s.m.lnk u h.link).recvSeq →
      let got (m : Mach) : Mach := m.updLnk u h.link (fun l => { l with recvSeq := (l.recvSeq + 1) % 4096, nak := false })
      (∀ x : Dword, st ≠ 1 → Lands (.pairHello ⟨h, x⟩) s (fun t => Sets s t [] (fun m =>
        if st = 2 ∨ st = 6 then got m else (got m).updTwin u (fun t => { t with hello := some x.toNat })))) ∧
      (∀ x : Dword, st = 1 → s.m.helloMatches u x.toNat = true → w.serving = false → bit x.toNat 32 = false → bit x.toNat 33 = false → Lands (.pairHello ⟨h, x⟩) s (fun t =>
        t.fuse = s.fuse ∧ t.pending = s.pending ∧ t.m.mem = s.m.mem ∧ t.m.twinState u = 2 ∧ t.m.getF u Reg.LNK_TWIN_STATUS_EPOCH = 0 ∧
        (t.m.twin u).hello = none ∧ (t.m.twin u).held = w.held ∧ (t.m.twin u).detached = false ∧ ((s.m.stk u).seqs = [] → w.held = [] → (t.m.twin u).epoch = 1) ∧
        (s.m.host.deferred.find? (fun r => r.opcode = 0x0601 && r.stack = u.val) = none → t.m.host = s.m.host))) ∧
      (h.link.val ∈ s.m.twinLinks u → s.m.getF u Reg.LNK_PEER_SDID h.link = s.m.getF u Reg.LNK_TWIN_CFG_TWIN_SDID →
        (∀ f : FlitIn, f.head = h → (st = 2 ∨ st = 6) →
          let data := f.payload.take f.len
          let off := f.addr.toNat
          let a := devAddr u 4 (w.base + off)
          jLog ≤ off → off + data.length ≤ jSize → w.base + jSize ≤ 2 ^ 40 → w.close = none → s.m.tier.wf = true → s.m.accessHeld false a data.length = false →
          f.route.val = (s.m.getF u Reg.LNK_TWIN_STATUS_EPOCH + 1) % 2 ^ 14 → w.logGot.any (fun p => p.1 = off) = false →
          (∀ i, i < data.length → s.m.isDead u ((w.base + off + i) / 128) = false ∧ s.m.cline u ((w.base + off + i) / 128) = none) →
          Lands (.journal f) s (fun t => Sets s t [(u.val, Reg.LPD_POISON_DIR_ENTRIES, 0, t.m.getF u Reg.LPD_POISON_DIR_ENTRIES), (u.val, Reg.LPD_POISON_DIR_HELD, 0, t.m.getF u Reg.LPD_POISON_DIR_HELD)]
              (fun m => { (got m).updTwin u (fun t => { t with logGot := t.logGot ++ [(off, data.length)] }) with tier := t.m.tier }) ∧
            ∀ b, t.m.tier.byte b = if a ≤ b ∧ b < a + data.length then data.getD (b - a) 0 else s.m.tier.byte b)) ∧
        (∀ b : HeartbeatIn, b.head = h → b.sdid.toNat = s.m.getF u Reg.LNK_TWIN_CFG_TWIN_SDID → (st = 2 ∨ st = 6) →
          ((b.state.val = 2 ∨ b.state.val = 6) → b.epoch.toNat = (s.m.getF u Reg.LNK_TWIN_STATUS_EPOCH + 1) % 2 ^ 32 → b.bytes.toNat ≤ jLogSize →
            (w.logBytes < b.bytes.toNat → Lands (.heartbeat b) s (fun t => Sets s t [] (fun m => (got m).updTwin u (fun t => { t with
              theirs := b.state.val, close := some (b.epoch.toNat, b.bytes.toNat) })))) ∧
            (b.bytes.toNat = 0 → Lands (.heartbeat b) s (fun t => t.fuse = s.fuse ∧ t.pending = s.pending ∧ t.m.getF u Reg.LNK_TWIN_STATUS_EPOCH = b.epoch.toNat ∧
              t.m.twin u = { w with logGot := [], close := none, theirs := b.state.val } ∧ t.m.twinState u = st))) ∧
          (b.state.val ≠ 2 → b.state.val ≠ 6 → (b.state.val ≠ 4 ∨ w.serving = true) → Lands (.heartbeat b) s (fun t =>
            Sets s t [] (fun m => (got m).updTwin u (fun t => { t with theirs := b.state.val })))) ∧
          (b.state.val = 4 → w.serving = false → Lands (.heartbeat b) s (fun t => t.fuse = s.fuse ∧ t.pending = s.pending ∧ t.m.twinState u = 5 ∧
            (t.m.twin u).detached = true ∧ (s.m.planOn u = true → t.m.getF u Reg.BUR_PLAN_STATE_STATE = 4)))) ∧
        (∀ (x : Dword) (i : Instr), i ∈ [Instr.controlDetach ⟨h, x⟩, .controlStop ⟨h, x⟩] → (st = 2 ∨ st = 3 ∨ st = 6) → Lands i s (fun t =>
          t.fuse = s.fuse ∧ t.pending = s.pending ∧ t.m.mem = s.m.mem ∧ t.m.twinState u = 4 ∧ t.m.twin u = servingNow false ∧
          (noRejoin → Ends s t [(u.val, Reg.LNK_TWIN_STATUS_STATE, 0, 4)] (fun m => (got m).updTwin u (fun _ => servingNow false))) ∧
          Told t u 0x000A [s.m.getF u Reg.LNK_TWIN_STATUS_EPOCH, taken.length])) ∧
        (∀ x : Dword, bit x.toNat 0 = true → (st = 2 ∨ st = 3 ∨ st = 6) → Lands (.controlConflict ⟨h, x⟩) s (fun t => t.fuse = s.fuse ∧ t.pending = s.pending ∧
          t.m.twinState u = 5 ∧ (t.m.twin u).detached = true ∧ ((∀ k, k < 4 → (s.m.stk k).cache.dead = []) → t.m.mem = s.m.mem) ∧
          (s.m.planOn u = true → t.m.getF u Reg.BUR_PLAN_STATE_STATE = 4))) ∧
        (st = 6 → w.serving = false → s.m.planOn u = false → Lands (.controlRejoin ⟨h, 1⟩) s (fun t =>
          Sets s t [] (fun m => (got m).updTwin u (fun t => { t with rejoinYou := true })))) ∧
        (st = 6 → s.m.planOn u = true → Lands (.controlRejoin ⟨h, 1⟩) s (fun t => Sets s t [] (links t) ∧ t.m.twin u = w)) ∧
        (st ≠ 0 → st ≠ 6 → (st = 4 → s.m.servesAny u = false) → Lands (.controlRejoin ⟨h, 4⟩) s (fun t => t.fuse = s.fuse ∧ t.pending = s.pending ∧
          t.m.twinState u = 0 ∧ t.m.twin u = {} ∧ (bit (s.m.features u) 0 = true →
            Sets s t [(u.val, Reg.LNK_TWIN_STATUS_STATE, 0, 0), (u.val, Reg.LNK_TWIN_CFG_TWIN_SDID, 0, 0xFFFF), (u.val, Reg.LNK_TWIN_CFG_LOWER, 0, 0)]
              (fun m => (got m).updTwin u (fun _ => {}))))))) ∧
    ((st = 3 ∨ st = 4) → Lands (.heartbeatSend ⟨u⟩) s (fun t => Sets s t [] (links t) ∧ t.m.twin u = w)) ∧
    ((st = 2 ∨ st = 6) →
      Lands (.heartbeatSend ⟨u⟩) s (fun t => Sets s t [] (links t) ∧
        (t.m.twin u).epoch = (w.epoch + 1) % 2 ^ 32 ∧ (t.m.twin u).logSent = 0 ∧
        ∀ n ∈ s.m.twinLinks u, s.m.linkUp u n = true → ∃ e, e ∈ (t.m.lnk u n).queue ++ (t.m.lnk u n).unacked.map (·.2) ∧ e.flit.typ = 8 ∧
          fieldAt e.flit.payload 8 8 = w.epoch % 2 ^ 64 ∧ fieldAt e.flit.payload 0 2 = s.m.sdid u % 2 ^ 16) ∧
      (s.m.getB u Reg.LNK_TWIN_CFG_AUTO_TAKEOVER = false → Lands (.heartbeatLoss ⟨u⟩) s (fun t => t.fuse = s.fuse ∧ t.pending = s.pending ∧ t.m.mem = s.m.mem ∧
        t.m.twinState u = 3 ∧ t.m.twin u = { w with rejoinMe := false, rejoinYou := false } ∧
        (noRejoin → Ends s t [(u.val, Reg.LNK_TWIN_STATUS_STATE, 0, 3), up s u Reg.LNK_TWIN_STATUS_MISSED]
          (fun m => m.updTwin u (fun t => { t with rejoinMe := false, rejoinYou := false }))) ∧ Told t u 0x0009 [s.m.getF u Reg.LNK_TWIN_CFG_TWIN_SDID])) ∧
      (s.m.getB u Reg.LNK_TWIN_CFG_AUTO_TAKEOVER = true → Lands (.heartbeatLoss ⟨u⟩) s (fun t => t.fuse = s.fuse ∧ t.pending = s.pending ∧ t.m.mem = s.m.mem ∧
        t.m.twinState u = 4 ∧ t.m.twin u = servingNow true ∧
        (noRejoin → Ends s t [(u.val, Reg.LNK_TWIN_STATUS_STATE, 0, 4), up s u Reg.LNK_TWIN_STATUS_MISSED] (fun m => m.updTwin u (fun _ => servingNow true)))))) ∧
    (∀ q r, w.held = q :: r →
      (s.m.planOn u = false → Lands (.twinInstall ⟨u⟩) s (fun t => t.fuse = s.fuse ∧ t.pending = s.pending ∧ (t.m.seq u q).isSome ∧
        t.m.twin u = { w with held := r, installed := w.installed ++ [q], fresh := w.fresh + 1, installing := true } ∧
        ∀ p, p ≠ q → t.m.seq u p = s.m.seq u p)) ∧
      (s.m.planOn u = true → Lands (.twinInstall ⟨u⟩) s (fun t => t = s))) ∧
    (w.held = [] → w.installing = true → Lands (.twinInstalled ⟨u⟩) s (fun t =>
      Ends s t [] (fun m => m.updTwin u (fun t => { t with installing := false, fresh := 0 })) ∧ Told t u 0x000B [w.fresh]))

/-- BAR4 reads and writes reach the memory they name or are refused; a pending vector sends one message (R380, R382, R383, R384, R385, R518).
BAR4_READ, when the endpoint serves BAR4: of bytes of local or accumulator memory in one page that Table RG-2 allows, that bridge ports reach and
nothing holds, clean ones, with no request waiting, the host receives those bytes and nothing else changes; refused, it receives all ones, and REFUSED
is counted and the address logged; the same of a stack that no port reaches. One that its home holds waits. When the endpoint does not serve, the host
receives all ones and nothing else changes. BAR4_WRITE of such a range puts the bytes at its address, or with EP poisons every granule that it touches
as STORAGE and counts POISONED_IN, and no other granule changes; refused, no memory changes. MSIX_UNMASK: a vector that is pending sends one message
and is pending no more; one that is not only becomes open. -/
def Obligations.HostWindowAndVectors : Prop :=
  ∀ (s : State),
    (∀ (o : BitVec 36) (n : Fin 4097), let a := s.m.bar4Addr o.toNat
      (s.m.bar4Serves = false → Lands (.bar4Read ⟨o, n⟩) s (fun t => t = { s with m := s.m.respond ((List.range n).map (fun _ => ⟨0xFF, 0⟩)) })) ∧
      (s.m.bar4Serves = true → s.m.host.bar4 = [] → 0 < n.val → a % 0x1_0000 + n ≤ 0x1_0000 →
        (readDeny .host (s.m.place s.fuse.part.stackCount a) = none → s.m.cut s.fuse.part.stackCount 0 (daStack a) = false →
          s.m.accessHeld true a n = true → Lands (.bar4Read ⟨o, n⟩) s (fun t =>
            t = { s with m := { s.m with host := { s.m.host with bar4 := [{ addr := a, len := n }] } } })) ∧
        (s.m.cut s.fuse.part.stackCount 0 (daStack a) = true → Lands (.bar4Read ⟨o, n⟩) s (fun t =>
          t.m.host.response = (List.range n).map (fun _ => ⟨0xFF, 0⟩) ∧ t.m.mem = s.m.mem ∧ t.m.tier = s.m.tier ∧ Holds t [up s 0 Reg.HOST_ERR_COUNT_REFUSED] ∧
          ∃ e r, (t.m.stk 0).bureau.errLog = e :: r ∧ e.code = 0x0106 ∧ e.addr = a)) ∧
        (s.m.cut s.fuse.part.stackCount 0 (daStack a) = false → (daRegion a = 1 ∨ daRegion a = 2) → readDeny .host (s.m.place s.fuse.part.stackCount a) = none → s.m.accessHeld true a n = false → s.m.Clean a n →
          Lands (.bar4Read ⟨o, n⟩) s (fun t => t = { s with m := { s.m with host := { s.m.host with response := PByte.clean (s.m.bytesAt a n), ep := false } } })) ∧
        (∀ d, s.m.cut s.fuse.part.stackCount 0 (daStack a) = false → readDeny .host (s.m.place s.fuse.part.stackCount a) = some d → Lands (.bar4Read ⟨o, n⟩) s (fun t =>
          t.m.host.response = (List.range n).map (fun _ => ⟨0xFF, 0⟩) ∧ t.m.host.ep = false ∧ t.m.mem = s.m.mem ∧ t.m.tier = s.m.tier ∧ t.m.hostMem = s.m.hostMem ∧
          t.fuse = s.fuse ∧ t.pending = s.pending ∧ Holds t [up s 0 Reg.HOST_ERR_COUNT_REFUSED] ∧
          ∃ e r, (t.m.stk (if daStack a < s.fuse.part.stackCount then daStack a else 0)).bureau.errLog = e :: r ∧ e.code = 0x0106 ∧ e.addr = a)))) ∧
    (∀ (o : BitVec 36) (d : Byte) (r : List Byte), let a := s.m.bar4Addr o.toNat
      let bs := d :: r
      s.m.bar4Serves = true → s.m.host.bar4 = [] → s.m.cut s.fuse.part.stackCount 0 (daStack a) = false → bs.length ≤ 4096 → a % 0x1_0000 + bs.length ≤ 0x1_0000 → s.m.mem.wf = true →
      (s.m.writeDeny .host (s.m.place s.fuse.part.stackCount a) a = none → s.m.accessHeld true a bs.length = false → (daRegion a = 1 ∨ daRegion a = 2) →
        Lands (.bar4Write ⟨o, bs, false⟩) s (fun t => Sets s t [] (fun m => { m with mem := t.m.mem }) ∧
          ∀ b, t.m.mem.byte b = (if a ≤ b ∧ b < a + bs.length then bs.getD (b - a) 0 else s.m.mem.byte b) ∧
            t.m.mem.syndrome b = if a ≤ b ∧ b < a + bs.length then 0 else s.m.mem.syndrome b) ∧
        Lands (.bar4Write ⟨o, bs, true⟩) s (fun t => Sets s t [up s 0 Reg.HOST_ERR_COUNT_POISONED_IN] (fun m => { m with mem := t.m.mem, host := { m.host with aer := 1 :: m.host.aer } }) ∧
          ∀ b, (a / 8 ≤ b / 8 ∧ b / 8 ≤ (a + bs.length - 1) / 8 → t.m.mem.kindAt b = 1) ∧
            (b / 8 < a / 8 ∨ (a + bs.length - 1) / 8 < b / 8 → t.m.mem.byte b = s.m.mem.byte b ∧ t.m.mem.syndrome b = s.m.mem.syndrome b))) ∧
      (∀ x, s.m.writeDeny .host (s.m.place s.fuse.part.stackCount a) a = some x → Lands (.bar4Write ⟨o, bs, false⟩) s (fun t =>
        t.m.mem = s.m.mem ∧ t.m.tier = s.m.tier ∧ t.m.hostMem = s.m.hostMem ∧ t.fuse = s.fuse ∧ t.pending = s.pending ∧ Holds t [up s 0 Reg.HOST_ERR_COUNT_REFUSED]))) ∧
    (∀ v : Fin 2048,
      (s.m.host.msixPend.contains v.val = true → Lands (.msixUnmask ⟨v⟩) s (fun t => t = { s with m := { s.m with host := { s.m.host with
        msixOpen := t.m.host.msixOpen, msixPend := s.m.host.msixPend.filter (· ≠ v.val), msixSent := v.val :: s.m.host.msixSent } } } ∧ v.val ∈ t.m.host.msixOpen ∧
        ∀ w, w ∈ t.m.host.msixOpen ↔ w = v.val ∨ w ∈ s.m.host.msixOpen)) ∧
      (s.m.host.msixPend.contains v.val = false → Lands (.msixUnmask ⟨v⟩) s (fun t => t = { s with m := { s.m with host := { s.m.host with msixOpen := t.m.host.msixOpen } } } ∧
        ∀ w, w ∈ t.m.host.msixOpen ↔ w = v.val ∨ w ∈ s.m.host.msixOpen)))

/-- A source's edge makes it pending or merges; a claim takes the lowest claimable source and makes it active (R433, R434, R435). INTC_SOURCE_EDGE of
a listed source while the Bureau's clock runs: the source is pending, and an edge of one that is already pending is counted in MERGES, which
saturates; nothing else changes. INTC_CLAIM by target t: the reader receives the id of the lowest source that is pending, enabled, not active and has
bit t in TARGETS; the source is then not pending, active and CLAIMED_BY t; when there is none the reader receives 0x3FF and no register changes. -/
def Obligations.SourcesClaimsAndCompletions : Prop :=
  ∀ (s : State) (u : StackNo), u.val < s.fuse.part.stackCount →
    (∀ x : Fin 1024, sourceListed x = true → s.m.bureauClockStopped u = false → Lands (.intcSourceEdge ⟨u, x⟩) s (fun t =>
      Sets s t (if s.m.getB u Reg.INTC_SRC_CFG_PENDING x then [up s u Reg.INTC_SRC_CFG_MERGES x] else [(u.val, Reg.INTC_SRC_CFG_PENDING, x.val, 1)]))) ∧
    (∀ k : Fin 4,
      let can (i : Nat) : Prop := s.m.getF u Reg.INTC_SRC_CFG_PENDING i ≠ 0 ∧ s.m.getF u Reg.INTC_SRC_CFG_ENABLE i ≠ 0 ∧ s.m.getF u Reg.INTC_SRC_CFG_ACTIVE i = 0 ∧
        bit (s.m.getF u Reg.INTC_SRC_CFG_TARGETS i) k = true
      (∀ i, i < 1023 → can i → (∀ j, j < i → ¬can j) → Lands (.intcClaim ⟨u, k⟩) s (fun t =>
        Sets s t [(u.val, Reg.INTC_SRC_CFG_PENDING, i, 0), (u.val, Reg.INTC_SRC_CFG_ACTIVE, i, 1), (u.val, Reg.INTC_SRC_CFG_CLAIMED_BY, i, k.val)]
          (fun m => m.respond (PByte.clean (leBytes 8 i))))) ∧
      ((∀ i, i < 1023 → ¬can i) → Lands (.intcClaim ⟨u, k⟩) s (fun t => t = { s with m := s.m.respond (PByte.clean (leBytes 8 0x3FF)) })))

/-- Latches, crossings, late requests, timers and refreshes change only their own registers (R392, R393, R438, R441, R442, R445, R447, R40,
spec/15_events_and_arbitration.md). INTC_SOURCE_EDGE while the Bureau's clock is stopped is kept by its latch. CROSSING_RESYNC counts a
resynchronisation, the entries discarded and the events merged. LATENCY_MISS at or above the class's target, and at least 10, counts a miss, raises
WORST to it and sets LEVEL, and tells the host; below it nothing changes. BUREAU_TIMER_EXPIRY of an armed timer frees its record and raises source 16
+ t; of one not armed nothing changes. BUREAU_BRIDGE_MESSAGE from another stack of the part raises source 9. PERIODIC_RETRAIN changes nothing
(timing). REFRESH_DUE sets the refresh multiplier to the larger of the band's and what MR4 asks for. -/
def Obligations.LatchesCrossingsClassesAndTimers : Prop :=
  ∀ (s : State) (u : StackNo), u.val < s.fuse.part.stackCount →
    (∀ (x : Fin 1024),
      (sourceListed x = true → s.m.bureauClockStopped u = true → (s.m.stk u).bureau.latches.contains x.val = false → Lands (.intcSourceEdge ⟨u, x⟩) s (fun t =>
        Sets s t [] (fun m => m.updStk u (fun k => { k with bureau := { k.bureau with latches := k.bureau.latches ++ [x.val] } }))))) ∧
    (∀ (x : Fin 30) (e r : Half), Lands (.crossingResync ⟨u, x, e, r⟩) s (fun t => Sets s t [up s u Reg.REG_XING_STATUS_RESYNCS x,
      (u.val, Reg.REG_XING_STATUS_DISCARDED, x.val, satAdd Reg.REG_XING_STATUS_DISCARDED.width (s.m.getF u Reg.REG_XING_STATUS_DISCARDED x) e.toNat),
      (u.val, Reg.REG_XING_STATUS_MERGES, x.val, satAdd Reg.REG_XING_STATUS_MERGES.width (s.m.getF u Reg.REG_XING_STATUS_MERGES x) r.toNat)])) ∧
    (∀ (k : Fin 4) (w : Half) (l : Fin 4), let target := max 10 (s.m.getF u Reg.REG_CLASS_CFG_TARGET k)
      (w.toNat < target → Lands (.latencyMiss ⟨u, k, w, l⟩) s (fun t => t = s)) ∧
      (target ≤ w.toNat → Lands (.latencyMiss ⟨u, k, w, l⟩) s (fun t => Ends s t [up s u Reg.REG_CLASS_STATUS_MISSES k,
        (u.val, Reg.REG_CLASS_STATUS_WORST, k.val, max (s.m.getF u Reg.REG_CLASS_STATUS_WORST k) w.toNat), (u.val, Reg.REG_CLASS_STATUS_LEVEL, k.val, l.val)] ∧
        Told t u 0x0010 [k.val]))) ∧
    (∀ x : Fin 8,
      (s.m.getF u Reg.REG_OWNER_OWNER (64 + x.val) ≠ 0 → Lands (.bureauTimerExpiry ⟨u, x⟩) s (fun t =>
        Ends s t [(u.val, Reg.REG_OWNER_OWNER, 64 + x.val, 0), (u.val, Reg.REG_OWNER_CLASS, 64 + x.val, 0)] ∧ Raised s t u (16 + x.val))) ∧
      (s.m.getF u Reg.REG_OWNER_OWNER (64 + x.val) = 0 → Lands (.bureauTimerExpiry ⟨u, x⟩) s (fun t => t = s))) ∧
    (∀ v : StackNo, v ≠ u → v.val < s.fuse.part.stackCount → Lands (.bureauBridgeMessage ⟨u, v⟩) s (fun t => Ends s t [] ∧ Raised s t u 9)) ∧
    (∀ (c : Fin 32) (r : Fin 8), Lands (.refreshDue ⟨u, c, r⟩) s (fun t =>
      Sets s t [(u.val, Reg.LPD_STATUS_REFRESH_MULT, 0, max (bandSettings (s.m.getF u Reg.THM_STATUS_STACK_BAND)).1 r.val)])) ∧
    Lands (.periodicRetrain ⟨u⟩) s (fun t => t = s)

/-- A completion ends the activity of an active source; one of a source that is not active is ignored and counted (R436). INTC_COMPLETE with id x by
any target k. A source that is active is active no more, whichever target claimed it, and nothing else changes. A source that is not active, whatever
else it is, keeps its state: INVALID_COMPLETIONS is one higher, at most 0xFFFF, LAST_INVALID holds x, and nothing else changes. -/
def Obligations.CompletionOfASource : Prop :=
  ∀ (s : State) (u : StackNo) (k : Fin 4) (x : Fin 1024), u.val < s.fuse.part.stackCount →
    (s.m.getF u Reg.INTC_SRC_CFG_ACTIVE x ≠ 0 → Lands (.intcComplete ⟨u, k, x⟩) s (fun t => Sets s t [(u.val, Reg.INTC_SRC_CFG_ACTIVE, x.val, 0)])) ∧
    (s.m.getF u Reg.INTC_SRC_CFG_ACTIVE x = 0 → s.m.getF u Reg.INTC_STATUS_INVALID_COMPLETIONS ≤ 0xFFFF → Lands (.intcComplete ⟨u, k, x⟩) s (fun t =>
      Sets s t [(u.val, Reg.INTC_STATUS_INVALID_COMPLETIONS, 0, min (s.m.getF u Reg.INTC_STATUS_INVALID_COMPLETIONS + 1) 0xFFFF),
        (u.val, Reg.INTC_STATUS_LAST_INVALID, 0, x.val)]))

/-- A mover chain starts, reads and checks its descriptors, moves rows, transposes or zeroes, reports and stops (R364, R397, R398, R399, R400, R401,
R402, R404, R448). MOV_START on a host channel that is idle sets BUSY with the host as OWNER and points it at HEAD; on a busy one it is counted as
refused; on a Bureau channel nothing changes. MOV_STOP ends the descriptor in progress ABORTED. A descriptor that breaks its form or does not fit its
channel stops the chain with DESC_FORMAT, and signals a failure if it asks for a signal. One whose WAIT is not met waits for its object, then one with
no credit waits for a credit. A source or destination on a stack that no bridge port reaches fails the chain with status 7. Then, with sources and
destinations in core memories, legal, clean and not held: COPY puts source row i at destination row i; ZERO puts zeros there; TRANSPOSE puts element j
of each row, in order, in destination row j; no other byte of memory changes and the channel waits for its writes. MOVER_WRITES_DONE: a token and a
signal that the descriptor asks for are sent, DONE counts, and the chain stops after LAST or goes on with NEXT. -/
def Obligations.MoverChainsStartRunAndStop : Prop :=
  ∀ (s : State) (u : StackNo) (c : Fin 64) (rep : HostReply), u.val < s.fuse.part.stackCount →
    let k := s.m.mov u c
    let n := s.fuse.part.stackCount
    let busy := s.m.getB u Reg.MOV_CH_CTRL_BUSY c
    let stopped (st : Nat) : List FieldVal := [(u.val, Reg.MOV_CH_STATUS_STATUS, c.val, st), (u.val, Reg.MOV_CH_CTRL_BUSY, c.val, 0), (u.val, Reg.MOV_CH_CTRL_OWNER, c.val, 0),
      (u.val, Reg.REG_OWNER_OWNER, 72 + c.val, 0), (u.val, Reg.REG_OWNER_CLASS, 72 + c.val, 0)]
    (c.val < 4 → Lands (.movStart ⟨u, c⟩) s (fun t => Ends s t []) ∧ Lands (.movStop ⟨u, c⟩) s (fun t => Ends s t [])) ∧
    (4 ≤ c.val →
      (busy = true → Lands (.movStart ⟨u, c⟩) s (fun t => Ends s t [up s u Reg.MOV_CH_CTRL_REFUSED c])) ∧
      (busy = false → s.m.getF u Reg.REG_OWNER_OWNER (72 + c.val) = 0 → Lands (.movStart ⟨u, c⟩) s (fun t =>
        Ends s t [(u.val, Reg.MOV_CH_CTRL_BUSY, c.val, 1), (u.val, Reg.MOV_CH_CTRL_OWNER, c.val, 0x50), (u.val, Reg.MOV_CH_CTRL_BOUND, c.val, (s.m.planOn u).toNat),
          (u.val, Reg.REG_OWNER_OWNER, 72 + c.val, 0x50), (u.val, Reg.REG_OWNER_CLASS, 72 + c.val, 2)]
          (fun m => m.updMov u c (fun k => { k with phase := .fetch, cur := s.m.getF u Reg.MOV_CH_HEAD_HEAD c, desc := {}, lastDone := false })))) ∧
      (busy = false → Lands (.movStop ⟨u, c⟩) s (fun t => Ends s t [])) ∧
      (busy = true → k.phase = .fetch ∨ k.desc.signal = false → Lands (.movStop ⟨u, c⟩) s (fun t =>
        Ends s t ((u.val, Reg.MOV_CH_CTRL_ERROR, c.val, 1) :: stopped 8) (fun m => (m.updLinks u (fun l => { l with xfers := l.xfers.filter (fun x => x.owner ≠ .mover c) })).updMov u c
          (fun k => { k with phase := .idle, lastDone := false })) ∧ Raised s t u (192 + c.val)))) ∧
    (∀ (d : MDesc) (i : Instr) (kind : Nat),
      (i, kind) ∈ [(Instr.moverCopy ⟨u, c, rep⟩, 1), (.moverTranspose ⟨u, c, rep⟩, 2), (.moverZero ⟨u, c, rep⟩, 3)] →
      let b := PByte.vals (s.m.performRead true k.cur 64).2
      let read : Prop := k.phase = .fetch ∧ busy = true ∧ k.cur % 64 = 0 ∧ (daRegion k.cur = 0 ∨ daRegion k.cur = 4) ∧ k.cur < 2 ^ 52 ∧
        readDeny (.mover c) (s.m.place n k.cur) = none ∧ s.m.accessHeld true k.cur 64 = false ∧ (s.m.performRead true k.cur 64).1 = s.m ∧ d = MDesc.of b ∧
        (d.kind = kind ∨ d.kind = 0 ∨ 3 < d.kind)
      let fits : Prop := (∀ e ∈ (s.m.performRead true k.cur 64).2, e.poison = 0) ∧ d.formOk b = true ∧ s.m.descFits u c d = true
      (read → ¬fits → (d.signal = true → (s.m.stackOf (handleSdid d.sigHandle)).isSome) → Lands i s (fun t =>
        let clean := ∀ e ∈ (s.m.performRead true k.cur 64).2, e.poison = 0
        let fail : List Msg := if clean ∧ d.signal = true ∧ handleBad d.sigHandle = false then [.signal (s.m.planTag u) u d.sigHandle d.sigN 0x46] else []
        Ends s t ((u.val, Reg.MOV_CH_CTRL_ERROR, c.val, 1) :: stopped 6)
          (fun m => { m.updMov u c (fun k => { k with desc := if clean then d else k.desc, phase := .idle, lastDone := false }) with wire := m.wire ++ fail }) ∧
        Raised s t u (192 + c.val))) ∧
      (read → fits → s.m.movWaitMet u d = false → Lands i s (fun t => Sets s t [] (fun m => m.updMov u c (fun k => { k with desc := d, phase := .waitObj })))) ∧
      (read → fits → s.m.movWaitMet u d = true → (d.token || d.fin) = true → s.m.movCredit u c d = false → Lands i s (fun t =>
        Sets s t [] (fun m => m.updMov u c (fun k => { k with desc := d, phase := .waitCredit })))) ∧
      (∀ (j : Instr) (dst : Nat),
        ((j = i ∧ read ∧ fits ∧ s.m.movWaitMet u d = true) ∨ (j = .moverWaitMet ⟨u, c, rep⟩ ∧ k.phase = .waitObj ∧ k.desc = d ∧ d.kind = kind ∧ s.m.movWaitMet u d = true) ∨
          (j = .moverCreditReady ⟨u, c, rep⟩ ∧ k.phase = .waitCredit ∧ k.desc = d ∧ d.kind = kind ∧ s.m.movCredit u c d = true)) →
        ((d.token || d.fin) = true → s.m.movCredit u c d = true) →
        (d.fin = true → Lands j s (fun t => Sets s t [] (fun m => m.updMov u c (fun k => { k with desc := d, phase := .writes })))) ∧
        (d.fin = false → ((d.token = false ∧ dst = d.dst ∧ 16384 ≤ d.route) ∨
            (d.token = true ∧ ∃ r b, s.m.movRoute u c d = some r ∧ 16384 ≤ r.route ∧ (s.m.plan u).buf r.dstStack r.buffer = some b ∧
              dst = b.slotAddr r.depth (s.m.prodChan u (movIndex c) d.outCh).sent)) →
          (let src (r : Nat) := d.src + r * d.srcStride
           let out (r : Nat) := dst + r * d.dstStride
           let rows := if kind = 2 then d.rowBytes / d.esize else d.rows
           let len := if kind = 2 then d.rows * d.esize else d.rowBytes
           (s.m.movCut n u d dst false = true → d.signal = false → Lands j s (fun t => Ends s t ((u.val, Reg.MOV_CH_CTRL_ERROR, c.val, 1) :: stopped 7)
             (fun m => m.updMov u c (fun k => { k with desc := d, phase := .idle, lastDone := false })) ∧ Raised s t u (192 + c.val))) ∧
           (s.m.movCut n u d dst false = false → s.m.movHeld d dst false = false → daRegion d.src ≠ 4 → s.m.mem.wf = true → (1 < rows → len ≤ d.dstStride) →
           (kind ≠ 3 → ∀ r, r < d.rows → s.m.movReadDeny n c (src r) d.rowBytes = none ∧ s.m.Clean (src r) d.rowBytes) →
           (∀ r, r < rows → s.m.movWriteDeny n c (out r) len = none ∧ (daRegion (out r) = 1 ∨ daRegion (out r) = 2) ∧ ∀ x, x < len → daRegion (out r + x) = daRegion (out r)) →
           Lands j s (fun t => Sets s t [] (fun m => { m.updMov u c (fun k => { k with desc := d, phase := .writes }) with mem := t.m.mem }) ∧
             (kind = 1 → ∀ r x, r < d.rows → x < d.rowBytes → t.m.mem.byte (out r + x) = s.m.mem.byte (src r + x)) ∧
             (kind = 3 → ∀ r x, r < d.rows → x < d.rowBytes → t.m.mem.byte (out r + x) = 0) ∧
             (kind = 2 → ∀ r w x, r < d.rows → w < d.rowBytes / d.esize → x < d.esize →
               t.m.mem.byte (out w + r * d.esize + x) = s.m.mem.byte (src r + w * d.esize + x)) ∧
             ∀ a, (∀ r, r < rows → a < out r ∨ out r + len ≤ a) → t.m.mem.byte a = s.m.mem.byte a)))))) ∧
    (k.phase = .writes → (∀ x ∈ (s.m.stk u).link.xfers, x.owner ≠ .mover c) →
      let d := k.desc
      let o := s.m.prodChan u (movIndex c) d.outCh
      ∀ r, ((d.token || d.fin) = true → s.m.movRoute u c d = some r ∧ 0xFFFE ≤ r.route) → (d.signal = true → (s.m.stackOf (handleSdid d.sigHandle)).isSome) →
      let tok : List Msg := if d.token || d.fin then [.token (s.m.planTag u) (s.m.sdid u) r.dstStack r.dst (r.token o.sent d.fin)] else []
      let sig : List Msg := if d.signal then [.signal (s.m.planTag u) u d.sigHandle d.sigN 0] else []
      let sent (k : MovCh) : SMap OutChan := if d.token || d.fin then SMap.put k.outs d.outCh { o with sent := o.sent + 1 } else k.outs
      (d.last = true → Lands (.moverWritesDone ⟨u, c⟩) s (fun t => Ends s t (up s u Reg.MOV_CH_STATUS_DONE c :: stopped 0)
        (fun m => { m.updMov u c (fun k => { k with outs := sent k, phase := .idle, lastDone := true }) with wire := m.wire ++ tok ++ sig }) ∧ Raised s t u (192 + c.val))) ∧
      (d.last = false → Lands (.moverWritesDone ⟨u, c⟩) s (fun t => Sets s t [up s u Reg.MOV_CH_STATUS_DONE c, (u.val, Reg.MOV_CH_STATUS_STATUS, c.val, 0)]
        (fun m => { m.updMov u c (fun k => { k with outs := sent k, phase := .fetch, cur := d.next, desc := {} }) with wire := m.wire ++ tok ++ sig }))))

/-- Doorbells, the ring tail, sync objects, the stack selector and pool configurations are written by their rules, and logged (R12, R63, R67, R232,
R281, R379, R412, R424, R427, R511). A host write through BAR0 to a stack that answers, or for the mailbox registers through BAR2. MBX_DOORBELL of a
mailbox that is not BUSY sets BUSY and puts its request last in the order; of a BUSY one it is counted as refused. MBX_EVT_TAIL moves TAIL no further
than HEAD; a write past it changes nothing. SYNC_SIGNAL adds N to the object and marks a failure; below object 64 it is dropped and counted.
SYNC_STATUS with STALLED clears it, and counts one object less in STALLED_OBJECTS when it was set. HOST_STACK_SEL takes a stack of the part, no other.
CDIE_PART_CFG that may be accepted makes both halves BUSY; else REFUSED reads 1. Each Cabinet register takes its fields when the configuration that
results passes the checks of R232, and for CAB_LP_CFG the Chest's licence, and changes nothing else or nothing at all; for want of the licence
FEATURE_UNLICENSED enters the error log (log entry 117). REQUEST_BUFFER_WRITE puts its bytes into the buffer, or is counted while the command has not
been copied. Each register write has its entry in the change log, but one taken through BAR2. -/
def Obligations.MailboxSyncAndPoolRegisterWrites : Prop :=
  ∀ (s : State), let u := s.m.getF 0 Reg.HOST_STACK_SEL_STACK
    let n := s.fuse.part.stackCount
    u < n →
    (∀ (b : Fin 64) (w : RegW) (bar2 : Bool), s.m.bar2Open = true → (bar2 = false → s.m.stageOneOver = true ∧ Answers s (Reg.MBX_DOORBELL.off b) ∧ u = 0) → w.half ≠ .hi →
      (s.m.getB 0 Reg.MBX_STATUS_BUSY b = false → Lands (.mbxDoorbell ⟨b, w, bar2⟩) s (fun t =>
        let fs := [(0, Reg.MBX_STATUS_BUSY, b.val, 1)]
        let g : Mach → Mach := fun m => { m with host := { m.host with mbxQueue := m.host.mbxQueue ++ [(b.val, bits (regData w) 0 16)] } }
        if bar2 then Sets s t fs g else Ends s t fs g ∧ Logged t 0 (Reg.MBX_DOORBELL.off b) false)) ∧
      (s.m.getB 0 Reg.MBX_STATUS_BUSY b = true → Lands (.mbxDoorbell ⟨b, w, bar2⟩) s (fun t => Ends s t [up s 0 Reg.MBX_STATUS_REFUSED b] ∧ Logged t 0 (Reg.MBX_DOORBELL.off b) true))) ∧
    (∀ (w : RegW) (bar2 : Bool), (bar2 = true → s.m.bar2Open = true) → (bar2 = false → Answers s Reg.MBX_EVT_TAIL.base ∧ u = 0) → w.half ≠ .hi →
      let v := bits (regData w) 0 32
      ((v + 2 ^ 32 - s.m.getF 0 Reg.MBX_EVT_TAIL_TAIL) % 2 ^ 32 ≤ s.m.ringUsed → Lands (.mbxEvtTail ⟨w, bar2⟩) s (fun t =>
        Ends s t [(0, Reg.MBX_EVT_TAIL_TAIL, 0, v)] ∧ (bar2 = false → Logged t 0 Reg.MBX_EVT_TAIL.base false))) ∧
      (s.m.ringUsed < (v + 2 ^ 32 - s.m.getF 0 Reg.MBX_EVT_TAIL_TAIL) % 2 ^ 32 → Lands (.mbxEvtTail ⟨w, bar2⟩) s (fun t => Ends s t [] ∧ Logged t 0 Reg.MBX_EVT_TAIL.base true))) ∧
    (∀ (o : Fin 8192) (w : RegW), w.half ≠ .hi →
      let k := bits (regData w) 0 16
      let f := bits (regData w) 16 16
      (Answers s (Reg.SYNC_SIGNAL.off o) → k ≠ 0 ∨ f ≠ 0 →
        (o.val < 64 → Lands (.syncSignal ⟨o, w⟩) s (fun t => Ends s t [up s u Reg.SYNC_DROPPED_DROPPED])) ∧
        (64 ≤ o.val → Lands (.syncSignal ⟨o, w⟩) s (fun t => t.fuse = s.fuse ∧ t.pending = s.pending ∧ t.m.mem = s.m.mem ∧ t.m.tier = s.m.tier ∧ t.m.hostMem = s.m.hostMem ∧
          t.m.count u o = (s.m.count u o + k) % 2 ^ 48 ∧ (f ≠ 0 → t.m.getB u Reg.SYNC_STATUS_FAILED o = true) ∧
          ∀ x, x < 8192 → x ≠ o.val → t.m.count u x = s.m.count u x))) ∧
      (Answers s (Reg.SYNC_STATUS.off o) → Reg.SYNC_STATUS_STALLED.hit w = true → Lands (.syncStatus ⟨o, w⟩) s (fun t => Ends s t [(u, Reg.SYNC_STATUS_STALLED, o.val, 0),
          (u, Reg.SYNC_DROPPED_STALLED_OBJECTS, 0, s.m.getF u Reg.SYNC_DROPPED_STALLED_OBJECTS - (s.m.getB u Reg.SYNC_STATUS_STALLED o).toNat)]
          (fun m => m.updPlan u (fun p => { p with stallDone := p.stallDone.filter (· ≠ o.val) })) ∧ Logged t u (Reg.SYNC_STATUS.off o) false)) ∧
      (Answers s (Reg.SYNC_STATUS.off o) → Reg.SYNC_STATUS_STALLED.hit w = false → Lands (.syncStatus ⟨o, w⟩) s (fun t => Ends s t [] ∧ Logged t u (Reg.SYNC_STATUS.off o) true))) ∧
    (∀ w : RegW, w.half ≠ .hi → Answers s Reg.HOST_STACK_SEL.base →
      let v := bits (regData w) 0 2
      Lands (.hostStackSel w) s (fun t => Ends s t (if v < n then [(0, Reg.HOST_STACK_SEL_STACK, 0, v)] else []) ∧ Logged t 0 Reg.HOST_STACK_SEL.base (decide (n ≤ v)))) ∧
    (∀ (h : Fin 2) (w : RegW),
      (w.half ≠ .hi → Answers s (Reg.CDIE_PART_CFG.off h) →
        (let v := bits (regData w) 0 4
         let o := s.m.getF u Reg.CDIE_PART_CFG_CACHE (1 - h.val)
         let cw := if h.val = 0 then v else o
         let ce := if h.val = 0 then o else v
         (s.m.partOk u cw ce = true → Lands (.cdiePartCfg ⟨h, w⟩) s (fun t => Ends s t [(u, Reg.CDIE_PART_CFG_CACHE, 0, cw), (u, Reg.CDIE_PART_CFG_CACHE, 1, ce),
           (u, Reg.CDIE_PART_STATUS_BUSY, 0, 1), (u, Reg.CDIE_PART_STATUS_BUSY, 1, 1)] (fun m => m.updCache u (fun k => { k with change := some (cw, ce) })))) ∧
         (s.m.partOk u cw ce = false → Lands (.cdiePartCfg ⟨h, w⟩) s (fun t => Ends s t [(u, Reg.CDIE_PART_STATUS_REFUSED, h.val, 1)] ∧ Logged t u (Reg.CDIE_PART_CFG.off h) true)))) ∧
      (∀ (i : Instr) (o : Nat) (p : PoolSet) (pre : Bool), let q := s.m.poolSet u h
        let nv (f : Fld) : Nat := s.m.after u f h w
        (i, o, p, pre) ∈ [
          (Instr.cabPoolCfg ⟨h, w⟩, Reg.CAB_POOL_CFG.off h, { q with frames := nv Reg.CAB_POOL_CFG_FRAMES, blocks := nv Reg.CAB_POOL_CFG_MAP_BLOCKS
                                                                     intake := nv Reg.CAB_POOL_CFG_INTAKE }, decide (nv Reg.CAB_POOL_CFG_INTAKE ≠ 0)),
          (.cabPoolBase ⟨h, w⟩, Reg.CAB_POOL_BASE.off h, { q with base := nv Reg.CAB_POOL_BASE_BASE }, decide (nv Reg.CAB_POOL_BASE_BASE % 0x4000 = 0 ∧ daRegion (nv Reg.CAB_POOL_BASE_BASE) = 0)),
          (.cabLpCfg ⟨h, w⟩, Reg.CAB_LP_CFG.off h, { q with slots := nv Reg.CAB_LP_CFG_CHEST_SLOTS, chest := decide (nv Reg.CAB_LP_CFG_CHEST_EN ≠ 0) },
            s.m.chestOk u { q with slots := nv Reg.CAB_LP_CFG_CHEST_SLOTS, chest := decide (nv Reg.CAB_LP_CFG_CHEST_EN ≠ 0) }),
          (.cabLpBase ⟨h, w⟩, Reg.CAB_LP_BASE.off h, { q with lpBase := nv Reg.CAB_LP_BASE_BASE }, decide (nv Reg.CAB_LP_BASE_BASE % 0x4000 = 0 ∧ daRegion (nv Reg.CAB_LP_BASE_BASE) = 4)),
          (.cabClassCfg ⟨h, w⟩, Reg.CAB_CLASS_CFG.off h, { q with spill := nv Reg.CAB_CLASS_CFG_SPILL, drop := nv Reg.CAB_CLASS_CFG_DROP }, true)] →
        Answers s o →
        (let ok := pre && s.m.poolOk u h p
         Lands i s (fun t => Ends s t (if ok then poolFields u h p ++ cabFields t.m u h else []) ∧ Logged t u o (!ok) ∧
           (o = Reg.CAB_LP_CFG.off h → pre = false → s.m.planOn u = false → ∃ e l, (t.m.stk u).bureau.errLog = e :: l ∧ e.code = 0x0008 ∧ e.addr = o))))) ∧
    (∀ (b : Fin 64) (o : Fin 4096) (d : List Byte), s.m.bar2Open = true → o.val + d.length ≤ 4096 →
      (s.m.host.mbxQueue.any (fun q => q.1 = b.val) = true → Lands (.requestBufferWrite ⟨b, o, d, false⟩) s (fun t => Sets s t [up s 0 Reg.MBX_STATUS_REFUSED b])) ∧
      (s.m.host.mbxQueue.any (fun q => q.1 = b.val) = false → s.m.host.bar2.wf = true → Lands (.requestBufferWrite ⟨b, o, d, false⟩) s (fun t =>
        t = { s with m := { s.m with host := { s.m.host with bar2 := t.m.host.bar2 } } } ∧
        ∀ a, t.m.host.bar2.byte a = if requestBuf b + o.val ≤ a ∧ a < requestBuf b + o.val + d.length then d.getD (a - (requestBuf b + o.val)) 0 else s.m.host.bar2.byte a)))

/-- Link, power, thermal, GPIO and alarm registers are written by their rules, and logged (R297, R340, R349, R358, R359, R360, R450, R475, R482, R493,
R497, R532). A host write through BAR0 to a stack that answers; one to a core's registers waits while its service group is under test. LNK_SDID takes
its value unless a plan is on. RETRAIN of an enabled link that is UP or FAILED, out of TEST, starts a retrain that the host asked for. TEST of an
enabled link that nothing bars puts it in TEST; barred, it changes nothing. LNK_PAT_CFG with GEN or CHECK on lanes that are free, its unit free,
claims the unit for the host. START of a margin scan on a free lane makes the scan run. LDO_SET takes its value, and LDO_NOW of a core in Run falls
with it at once. STOP_REQ of a core in Run with no plan on puts it in Stop; of a core in Stop it waits for its turn to wake. THM_CH_CFG takes limits
that are allowed, no others. THM_DIAG.EN claims the fast slot when it is free. A GPIO pin that is free is claimed when its OE is set. AON_RTC_ALARM
takes its second. -/
def Obligations.LinkPowerThermalAndPinRegisterWrites : Prop :=
  ∀ (s : State), let u := s.m.getF 0 Reg.HOST_STACK_SEL_STACK
    let n := s.fuse.part.stackCount
    let keeps (t : State) : Prop := t.fuse = s.fuse ∧ t.pending = s.pending ∧ t.m.mem = s.m.mem ∧ t.m.tier = s.m.tier ∧ t.m.hostMem = s.m.hostMem
    u < n →
    (∀ w : RegW, w.half ≠ .hi → Answers s Reg.LNK_SDID.base →
      (s.m.planOn u = true → Lands (.lnkSdid w) s (fun t => Ends s t [] ∧ Logged t u Reg.LNK_SDID.base true)) ∧
      (s.m.planOn u = false → (∀ k, k < 24 → s.m.getB u Reg.LNK_STATUS_SDID_CLASH k = false) → Lands (.lnkSdid w) s (fun t =>
        Ends s t [(u, Reg.LNK_SDID_SDID, 0, bits (regData w) 0 16)] ∧ Logged t u Reg.LNK_SDID.base false))) ∧
    (∀ (k : Fin 24) (w : RegW), w.half ≠ .hi → s.m.linkHeld u k = false →
      let st := s.m.getF u Reg.LNK_STATUS_STATE k
      (Answers s (Reg.LNK_CTRL.off k) → s.m.getB u Reg.LNK_CTRL_ENABLE k = true → s.m.getB u Reg.LNK_CTRL_TEST k = false → bit (regData w) 0 = true →
        (bit (regData w) 2 = false → (st = 2 ∨ st = 5) → Lands (.lnkCtrlRetrain ⟨k, w⟩) s (fun t => keeps t ∧
          Holds t [(u, Reg.LNK_STATUS_STATE, k.val, 3), up s u Reg.LNK_STATUS_RETRAINS k, (u, Reg.LNK_CTRL_ENABLE, k.val, 1)] ∧ (t.m.lnk u k).asked = true ∧
          Logged t u (Reg.LNK_CTRL.off k) false)) ∧
        (bit (regData w) 2 = true → s.m.testBarred u k = false → Lands (.lnkCtrlTest ⟨k, w⟩) s (fun t => keeps t ∧
          Holds t [(u, Reg.LNK_STATUS_STATE, k.val, 6), (u, Reg.LNK_CTRL_TEST, k.val, 1)] ∧ Logged t u (Reg.LNK_CTRL.off k) false)) ∧
        (bit (regData w) 2 = true → s.m.testBarred u k = true → Lands (.lnkCtrlTest ⟨k, w⟩) s (fun t => Ends s t [] ∧ Logged t u (Reg.LNK_CTRL.off k) true))) ∧
      (Answers s (Reg.LNK_PAT_CFG.off k) → (bit (regData w) 12 || bit (regData w) 13) = true →
        (let lanes := bits (regData w) 3 9
         (s.m.lanesFree u k lanes = false → Lands (.lnkPatCfg ⟨k, w⟩) s (fun t => Ends s t [] ∧ Logged t u (Reg.LNK_PAT_CFG.off k) true)) ∧
         (s.m.lanesFree u k lanes = true → s.m.getF u Reg.REG_OWNER_OWNER k = 0 → bit lanes 8 = false → Lands (.lnkPatCfg ⟨k, w⟩) s (fun t =>
           Ends s t [(u, Reg.REG_OWNER_OWNER, k.val, 0x50), (u, Reg.REG_OWNER_CLASS, k.val, 3), (u, Reg.LNK_PAT_CFG_OWNER, k.val, 0x50), (u, Reg.LNK_PAT_CFG_LANES, k.val, lanes),
             (u, Reg.LNK_PAT_CFG_PATTERN, k.val, bits (regData w) 0 3), (u, Reg.LNK_PAT_CFG_GEN, k.val, bits (regData w) 12 1), (u, Reg.LNK_PAT_CFG_CHECK, k.val, bits (regData w) 13 1)] ∧
           Logged t u (Reg.LNK_PAT_CFG.off k) false)))) ∧
      (Answers s (Reg.LNK_MARGIN.off k) →
        (let lane := bits (regData w) 0 4
         (8 < lane → Lands (.lnkMarginStart ⟨k, w⟩) s (fun t => Ends s t [] ∧ Logged t u (Reg.LNK_MARGIN.off k) true)) ∧
         (lane < 8 → (s.m.lnk u k).scan = none → s.m.lanesFree u k (2 ^ lane) = true → s.m.getF u Reg.REG_OWNER_OWNER k = 0 → Lands (.lnkMarginStart ⟨k, w⟩) s (fun t =>
           Ends s t [(u, Reg.REG_OWNER_OWNER, k.val, 0x50), (u, Reg.REG_OWNER_CLASS, k.val, 3), (u, Reg.LNK_PAT_CFG_OWNER, k.val, 0x50), (u, Reg.LNK_MARGIN_LANE, k.val, lane),
             (u, Reg.LNK_MARGIN_DONE, k.val, 0), (u, Reg.LNK_MARGIN_ABORTED, k.val, 0)] (fun m => m.updLnk u k (fun l => { l with scan := some lane })) ∧
           Logged t u (Reg.LNK_MARGIN.off k) false))))) ∧
    (∀ (p : PhysId) (w : RegW), w.half ≠ .hi → Answers s (Reg.CORE_POWER.off p) →
      let v := bits (regData w) 0 6
      (s.m.serviceTesting u p = true → Lands (.stopReq ⟨p, w⟩) s (fun t =>
        t = { s with m := { s.m with host := { s.m.host with bar0 := s.m.host.bar0 ++ [regRequest w (Reg.CORE_POWER.off p)] } } })) ∧
      (s.m.serviceTesting u p = true → Lands (.ldoSet ⟨p, w⟩) s (fun t => ∃ v, t = { s with m := { s.m with host := { s.m.host with
        bar0 := s.m.host.bar0 ++ [regRequest ⟨w.half, v⟩ (Reg.CORE_POWER.off p)] } } })) ∧
      (s.m.serviceTesting u p = false → s.m.getF u Reg.CORE_POWER_STOP_REQ p ≤ 1 →
      ((s.m.inRun u p = false → Lands (.ldoSet ⟨p, w⟩) s (fun t => Ends s t [(u, Reg.CORE_POWER_LDO_SET, p.val, v)] ∧ Logged t u (Reg.CORE_POWER.off p) false)) ∧
      (s.m.inRun u p = true → (let want := min (min v 60) (s.m.getF u Reg.THM_THROTTLE_LIMIT_CODE (region p))
        want ≤ s.m.getF u Reg.CORE_POWER_LDO_NOW p → Lands (.ldoSet ⟨p, w⟩) s (fun t =>
          Ends s t [(u, Reg.CORE_POWER_LDO_SET, p.val, v), (u, Reg.CORE_POWER_LDO_NOW, p.val, want)] (fun m => m.updPw u (fun k => { k with rising := k.rising.filter (· ≠ p.val) }))))) ∧
      (bit (regData w) 18 = true → s.m.getF u Reg.CORE_POWER_STOP_REQ p = 0 → s.m.powerFree u p = true → s.m.inRun u p = true → Lands (.stopReq ⟨p, w⟩) s (fun t =>
        t.fuse = s.fuse ∧ t.pending = s.pending ∧ t.m.tier = s.m.tier ∧ t.m.hostMem = s.m.hostMem ∧
        Holds t [(u, Reg.CORE_POWER_STOP_REQ, p.val, 1), (u, Reg.CORE_POWER_STATE, p.val, 0), (u, Reg.CORE_POWER_LDO_NOW, p.val, 0)] ∧ Logged t u (Reg.CORE_POWER.off p) false)) ∧
      (bit (regData w) 18 = false → s.m.getF u Reg.CORE_POWER_STOP_REQ p ≠ 0 → s.m.powerFree u p = true → s.m.getB u Reg.THM_STATUS_STOP_HOLD = false →
        s.m.getF u Reg.CORE_POWER_STATE p = 0 → Lands (.stopReq ⟨p, w⟩) s (fun t => Ends s t [(u, Reg.CORE_POWER_STOP_REQ, p.val, 0), (u, Reg.CORE_POWER_LDO_SET, p.val, v)]
          (fun m => m.updPw u (fun k => { k with toWake := k.toWake.filter (· ≠ p.val) ++ [p.val] })))) ∧
      (s.m.powerFree u p = false → (bit (regData w) 18).toNat ≠ s.m.getF u Reg.CORE_POWER_STOP_REQ p → Lands (.stopReq ⟨p, w⟩) s (fun t =>
        Ends s t [] ∧ Logged t u (Reg.CORE_POWER.off p) true))))) ∧
    (∀ (c : Fin 64) (w : RegW), w.half = .full → Answers s (Reg.THM_CH_CFG.off c) →
      let warn := bits (regData w) 0 16
      let thr := bits (regData w) 16 16
      Lands (.thmChCfg ⟨c, w⟩) s (fun t => Ends s t (if limitsOk c warn thr then [(u, Reg.THM_CH_CFG_WARN, c.val, warn), (u, Reg.THM_CH_CFG_THROTTLE, c.val, thr)] ++
        (if c.val < 48 then [] else [(u, Reg.THM_CH_CFG_BETA, c.val, bits (regData w) 32 16)]) else []) ∧ Logged t u (Reg.THM_CH_CFG.off c) (!limitsOk c warn thr))) ∧
    (∀ w : RegW, w.half ≠ .hi → Answers s Reg.THM_DIAG.base → bit (regData w) 6 = true → s.m.getF u Reg.REG_OWNER_OWNER 136 = 0 → Lands (.thmDiag w) s (fun t =>
      Ends s t [(u, Reg.THM_DIAG_CHANNEL, 0, bits (regData w) 0 6), (u, Reg.THM_DIAG_EN, 0, 1), (u, Reg.REG_OWNER_OWNER, 136, 0x50), (u, Reg.REG_OWNER_CLASS, 136, 3)])) ∧
    (∀ w : RegW, w.half ≠ .hi → Answers s Reg.REG_GPIO.base →
      (∀ k, k < 8 → bit (regData w) k = true → bit (s.m.getF u Reg.REG_GPIO_OE) k = false → s.m.getF u Reg.REG_OWNER_OWNER (56 + k) = 0) → Lands (.regGpio w) s (fun t => keeps t ∧
        Holds t [(u, Reg.REG_GPIO_OUT, 0, bits (regData w) 8 8), (u, Reg.REG_GPIO_EDGE, 0, bits (regData w) 24 8)] ∧
        (∀ k, k < 8 → bit (t.m.getF u Reg.REG_GPIO_OE) k = bit (regData w) k) ∧
        ∀ k, k < 8 → bit (regData w) k ≠ bit (s.m.getF u Reg.REG_GPIO_OE) k → t.m.getF u Reg.REG_OWNER_OWNER (56 + k) = if bit (regData w) k then 0x50 else 0)) ∧
    (∀ w : RegW, w.half = .full → Answers s Reg.AON_RTC_ALARM.base → bit (regData w) 48 = false → Lands (.aonRtcAlarm w) s (fun t =>
      Ends s t [(u, Reg.AON_RTC_ALARM_ALARM, 0, bits (regData w) 0 48)] ∧ Logged t u Reg.AON_RTC_ALARM.base false))

/-- A register without a rule of its own is written by its access codes; a read clears RC fields; pins act on their state (R17, R427, R464, R520,
R523, R524, R526, R532, R546, R555). REGISTER_WRITE through BAR0 where it answers: a register of only RW and read-only fields with no rule of its own
takes exactly its RW fields, and INTC_SRC_CFG[1023], whose writes are ignored, none; at an offset with no register nothing changes but the change log;
with a wrong size or alignment nothing changes but the logs. READ_CLEAR of a register below the cores' block excluded, with no rule of its own: the
host receives its value, the RC fields in the half read then read zero, and nothing else changes. RTC_ALARM_FIRE, when the clock has reached a set
alarm: FIRED reads 1, ALARM is 0 and source 2 is raised. I3C_PRIVATE_WRITE sets the read offset within the 132-byte window. BOUNDARY_SCAN_INSTRUCTION
sets the TAP's instruction. PCIE_LINK_TRAINED sets rate, width and FLIT mode and raises source 4. -/
def Obligations.PlainRegistersReadsAndPins : Prop :=
  ∀ (s : State), let u := s.m.getF 0 Reg.HOST_STACK_SEL_STACK
    let n := s.fuse.part.stackCount
    u < n →
    (∀ v : Dword, Answers s Reg.HOST_BAR4_BASE.base → Lands (.registerWrite ⟨BitVec.ofNat 27 Reg.HOST_BAR4_BASE.base, 8, v, false⟩) s (fun t =>
      Ends s t [(0, Reg.HOST_BAR4_BASE_BASE, 0, bits v.toNat 30 22)] ∧ Logged t 0 Reg.HOST_BAR4_BASE.base false)) ∧
    (∀ (v : Dword) (x : Fin 1024), Answers s (Reg.INTC_SRC_CFG.off x) → Lands (.registerWrite ⟨BitVec.ofNat 27 (Reg.INTC_SRC_CFG.off x), 8, v, false⟩) s (fun t =>
      Ends s t (if x.val = 1023 then [] else [(u, Reg.INTC_SRC_CFG_TARGETS, x.val, bits v.toNat 0 4), (u, Reg.INTC_SRC_CFG_ENABLE, x.val, bits v.toNat 4 1)]) ∧
      Logged t u (Reg.INTC_SRC_CFG.off x) (decide (x.val = 1023)) ∧ t.m.getF u Reg.INTC_SRC_CFG_PENDING x = s.m.getF u Reg.INTC_SRC_CFG_PENDING x)) ∧
    (∀ (o : BitVec 27) (v : Dword), s.m.bar0Open o.toNat = true → s.m.host.bar0 = [] →
      (o.toNat % 8 = 0 → Reg.find o.toNat = none → Lands (.registerWrite ⟨o, 8, v, false⟩) s (fun t => Ends s t [] ∧ Logged t (s.m.bar0Stack o.toNat) o.toNat true)) ∧
      (o.toNat % 4 ≠ 0 → Lands (.registerWrite ⟨o, 4, v, false⟩) s (fun t => Ends s t [] ∧ Logged t (s.m.bar0Stack o.toNat) (o.toNat / 8 * 8) true))) ∧
    (∀ (o : BitVec 27) (r : RegDef) (l : List Fld) (i : Nat), Answers s o.toNat → o.toNat % 8 = 0 → Reg.find o.toNat = some (r, l, i) →
      r ≠ Reg.INTC_CLAIM → r ≠ Reg.REG_GPIO → r ≠ Reg.THM_CH_STATUS → 0x1_0000 ≤ r.base → Lands (.readClear ⟨o, 8, false⟩) s (fun t =>
        Sets s t ((l.filter (fun f => f.acc = .rc)).map (fun f => (s.m.bar0Stack o.toNat, f, i, 0)))
          (fun m => m.respond (PByte.clean (leBytes 8 (Mach.regValue s.fuse s.m (s.m.bar0Stack o.toNat) l i)))))) ∧
    (∀ k : StackNo, k.val < n →
      (s.m.boot.aon = true → s.m.getF k Reg.AON_RTC_ALARM_ALARM ≠ 0 → s.m.getF k Reg.AON_RTC_ALARM_ALARM ≤ s.m.getF k Reg.AON_RTC_SECONDS → Lands (.rtcAlarmFire ⟨k⟩) s (fun t =>
        Ends s t [(k.val, Reg.AON_RTC_ALARM_FIRED, 0, 1), (k.val, Reg.AON_RTC_ALARM_ALARM, 0, 0)] ∧ Raised s t k 2)) ∧
      (s.m.boot.aon = true → ∀ b : Byte, Lands (.i3cPrivateWrite ⟨k, b⟩) s (fun t => Sets s t [] (fun m => { m with boot := t.m.boot }) ∧
        t.m.boot = { s.m.boot with i3c := t.m.boot.i3c } ∧ t.m.boot.i3c.get 0 k = b.toNat % 132 ∧ ∀ j, j ≠ k.val → t.m.boot.i3c.get 0 j = s.m.boot.i3c.get 0 j)) ∧
      (∀ c : Byte, let code := if c.toNat ≤ 6 then c.toNat else 0xFF
        Lands (.boundaryScanInstruction ⟨k, c⟩) s (fun t => Sets s t [] (fun m => { m with boot := t.m.boot }) ∧ t.m.boot = { s.m.boot with taps := t.m.boot.taps } ∧
          t.m.boot.taps.get 0 k = (if s.m.boot.perst || !s.m.boot.pwrGood then code else tapAllowed code) ∧ ∀ j, j ≠ k.val → t.m.boot.taps.get 0 j = s.m.boot.taps.get 0 j))) ∧
    (s.m.awake = true → ∀ (r : Fin 7) (w : Fin 17) (f : Bool), Lands (.pcieLinkTrained ⟨r, w, f⟩) s (fun t =>
      Ends s t [(0, Reg.HOST_LINK_STATUS_RATE, 0, r.val), (0, Reg.HOST_LINK_STATUS_WIDTH, 0, w.val), (0, Reg.HOST_LINK_STATUS_FLIT, 0, f.toNat)] ∧ Raised s t 0 4))

/-- VDD_CORE_IN settles and falls, averages mark regions hot, cores wake, rails are sampled and their faults stop the stack (R471, R472, R473, R474,
R477, R478, R479, R501). VOUT_SETTLED sets SETTLED, and the one LDO that waited, of a core in Run, rises to what is wanted of it when the target
allows it. AVS_TARGET_FALL lowers the target to what the cores in Run need, and leaves the stack alone while an LDO waits or nothing is to fall.
REGION_AVERAGE enters the draw, the peak of the last ten averages, and HOT where it exceeds the threshold. CORE_WAKE of the lowest core of its region
that is to wake begins its wake, slow where a region near it is hot; it waits while STOP_HOLD is set, a lower one is to wake, or six of the region are
in the wait of step 1. WAKE_WAIT_END ends that wait when nothing near is hot or after 200 µs. CORE_WAKE_DONE puts the core in Run with its memories
and registers zero. PMBUS_ALERT enters the regulator's answer; with a fault, or at a rail's second sample in succession out of tolerance, FAULT and
the rail are set and the stack stops. -/
def Obligations.PowerEventsOfAStack : Prop :=
  ∀ (s : State) (u : StackNo), u.val < s.fuse.part.stackCount →
    let w := s.m.pw u
    let fine : Prop := s.m.getB u Reg.BUR_STATUS_HALTED = false ∧ s.m.getF 0 Reg.AON_WAKE_STATUS_STATE ≠ 1 ∧ s.m.getF 0 Reg.AON_WAKE_STATUS_STATE ≠ 2 ∧
      s.m.starting u = false ∧ s.m.getB u Reg.THM_STATUS_STOP_HOLD = false
    let faulted (i : Nat) (t : State) : Prop := t.fuse = s.fuse ∧ t.pending = s.pending ∧ t.m.getF u Reg.PWR_STATUS_FAULT = 1 ∧
      t.m.getF u Reg.PWR_STATUS_FAULT_RAIL = i ∧ t.m.getF u Reg.PWR_RAIL_FAULT i = 1 ∧ t.m.getF u Reg.THM_STATUS_STOP_HOLD = 1 ∧
      ∀ p, p < 864 → t.m.getF u Reg.CORE_POWER_STATE p = 0 ∧ t.m.getF u Reg.CORE_POWER_LDO_NOW p = 0
    (w.rising = [] → Lands (.voutSettled ⟨u⟩) s (fun t => Sets s t [(u.val, Reg.PWR_AVS_SETTLED, 0, 1)]
      (fun m => m.updPw u (fun k => { k with settled := s.m.getF u Reg.PWR_AVS_TARGET })))) ∧
    (∀ p, w.rising = [p] → s.m.inRun u p = true → s.m.ldoWanted u p ≤ s.m.getF u Reg.PWR_AVS_TARGET + 50 →
      Lands (.voutSettled ⟨u⟩) s (fun t => Sets s t [(u.val, Reg.PWR_AVS_SETTLED, 0, 1), (u.val, Reg.CORE_POWER_LDO_NOW, p, s.m.ldoWanted u p)]
        (fun m => m.updPw u (fun k => { k with settled := s.m.getF u Reg.PWR_AVS_TARGET, rising := [] })))) ∧
    (let n := s.m.avsNeed u
     let t0 := s.m.getF u Reg.PWR_AVS_TARGET
     (w.rising = [] → n < t0 → Lands (.avsTargetFall ⟨u⟩) s (fun t => Sets s t
        ((u.val, Reg.PWR_AVS_TARGET, 0, n) :: if n + 2 < t0 then [(u.val, Reg.PWR_AVS_SETTLED, 0, 0)] else []) (fun m => m.updPw u (fun k => { k with settled := n })))) ∧
     (w.rising ≠ [] ∨ t0 ≤ n → Lands (.avsTargetFall ⟨u⟩) s (fun t => t = s))) ∧
    (∀ (r : Fin 16) (v : Fin 1024), let l := (v.val :: SMap.getD w.averages r []).take 10
      let peak := l.foldl max 0
      Lands (.regionAverage ⟨u, r, v⟩) s (fun t => Sets s t [(u.val, Reg.PWR_REGION_STATUS_DRAW, r.val, v.val), (u.val, Reg.PWR_REGION_STATUS_PEAK10, r.val, peak),
        (u.val, Reg.PWR_REGION_STATUS_HOT, r.val,
          (decide (min 100 (max 50 (s.m.getF u Reg.PWR_REGION_CFG_THRESHOLD)) * s.m.getF u Reg.PWR_REGION_CFG_LIMIT < 100 * peak)).toNat)]
        (fun m => m.updPw u (fun k => { k with averages := SMap.put k.averages r l })))) ∧
    (∀ p : PhysId, let lower : Bool := w.toWake.any (fun q => decide (region q = region p) && decide (q < p.val))
      let six : Prop := 6 ≤ (w.waking.filter (fun x => decide (region x.core = region p) && x.waiting)).length
      let slow := s.m.hotNear u p
      (w.toWake.contains p.val = true → lower = false → s.m.getB u Reg.THM_STATUS_STOP_HOLD = false → ¬six → Lands (.coreWake ⟨u, p⟩) s (fun t => Sets s t
        ([(u.val, Reg.CORE_POWER_STATE, p.val, 1), (u.val, Reg.CORE_POWER_LAST_SLOW, p.val, slow.toNat), (u.val, Reg.CORE_POWER_LAST_EXPIRED, p.val, 0),
          (u.val, Reg.CORE_POWER_LAST_WAIT_US, p.val, 0)] ++ (if slow then [up s u Reg.PWR_REGION_STATUS_SLOW_WAKES (region p)] else []) ++ powerFields t.m u)
        (fun m => m.updPw u (fun k => { k with toWake := k.toWake.filter (· ≠ p.val), waking := k.waking ++ [⟨p, slow⟩] })))) ∧
      (w.toWake.contains p.val = false ∨ lower = true ∨ s.m.getB u Reg.THM_STATUS_STOP_HOLD = true ∨ six → Lands (.coreWake ⟨u, p⟩) s (fun t => t = s))) ∧
    (∀ (p : PhysId) (us : Fin 201),
      (w.waking.contains ⟨p, true⟩ = true → s.m.hotNear u p = false ∨ us.val = 200 → Lands (.wakeWaitEnd ⟨u, p, us⟩) s (fun t => Sets s t
        ((u.val, Reg.CORE_POWER_LAST_WAIT_US, p.val, us.val) ::
          if us.val = 200 then [(u.val, Reg.CORE_POWER_LAST_EXPIRED, p.val, 1), up s u Reg.PWR_REGION_STATUS_EXPIRED (region p)] else [])
        (fun m => m.updPw u (fun k => { k with waking := k.waking.map (fun x => if x.core = p.val then { x with waiting := false } else x) })))) ∧
      (w.waking.contains ⟨p, true⟩ = false ∨ (s.m.hotNear u p = true ∧ us.val < 200) → Lands (.wakeWaitEnd ⟨u, p, us⟩) s (fun t => t = s))) ∧
    (∀ p : PhysId, let L := s.m.getF u Reg.CORE_IDENT_LOGICAL p
      let h := s.m.getF u Reg.CORE_IDENT_HOME p
      (w.waking.contains ⟨p, false⟩ = true → L < 832 → s.m.getB u Reg.CORE_POWER_STOP_REQ p = false → Lands (.coreWakeDone ⟨u, p⟩) s (fun t =>
        t.fuse = s.fuse ∧ t.pending = s.pending ∧ t.m.tier = s.m.tier ∧ t.m.hostMem = s.m.hostMem ∧ SameCores s t u L ∧ t.m.mem = (s.m.clearSlot u h).mem ∧
        (t.m.core u L).regs = [] ∧ (t.m.core u L).groups = [] ∧ t.m.getF u Reg.CORE_POWER_STATE p = 2 ∧
        t.m.getF u Reg.CORE_POWER_WAKES p = satAdd 16 (s.m.getF u Reg.CORE_POWER_WAKES p) 1 ∧
        t.m.getF u Reg.CORE_POWER_LDO_NOW p = min (s.m.ldoWanted u p) (w.settled + 50) ∧ (t.m.pw u).waking = w.waking.filter (·.core ≠ p.val) ∧ Holds t (powerFields t.m u)))) ∧
    (∀ (i : Fin 10) (word iout : Half),
      Lands (.pmbusAlert ⟨u, i, word, iout, false⟩) s (fun t => Ends s t [(u.val, Reg.PWR_RAIL_STATUS_WORD, i.val, word.toNat), (u.val, Reg.PWR_RAIL_IOUT, i.val, iout.toNat)] ∧ Raised s t u 1) ∧
      (fine → Lands (.pmbusAlert ⟨u, i, word, iout, true⟩) s (faulted i))) ∧
    (∀ (i : Fin 10) (mv : Half), let out := s.m.getB u Reg.PWR_RAIL_ENABLED i && s.m.railOut u i mv.toNat
      (out = true → w.railOut.contains i.val = false → Lands (.adcSample ⟨u, .rail i mv⟩) s (fun t => Sets s t [(u.val, Reg.PWR_RAIL_VOUT, i.val, mv.toNat)]
        (fun m => m.updPw u (fun k => { k with railOut := k.railOut.filter (· ≠ i.val) ++ [i.val] })))) ∧
      (out = true → w.railOut.contains i.val = true → fine → Lands (.adcSample ⟨u, .rail i mv⟩) s (fun t => faulted i t ∧ t.m.getF u Reg.PWR_RAIL_VOUT i = mv.toNat)) ∧
      (out = false → s.m.getB u Reg.PWR_STATUS_FAULT = true → Lands (.adcSample ⟨u, .rail i mv⟩) s (fun t => Sets s t [(u.val, Reg.PWR_RAIL_VOUT, i.val, mv.toNat)]
        (fun m => m.updPw u (fun k => { k with railOut := k.railOut.filter (· ≠ i.val) })))))

/-- A temperature moves its channel's band, maximum and governor; a bad one, or a failed ratio check, faults it; a trip stops every core (R492, R493,
R494, R495, R498, R501, R503). ADC_SAMPLE of a channel in the normal round with a reading in its range, of a channel that is not faulted: TEMP is the
reading, BAND follows it with 2 °C of hysteresis, MAX the highest, and EVENT is set when it reaches 115 °C from below. Below 115 °C no memory changes,
and the level of a region whose one governing channel it is rises by one at THROTTLE or above, falls by one below THROTTLE less 2 °C, and is else
unchanged. An open or short reading faults the channel: TEMP 0x8000, band 7. A fast sample of a channel outside the fast set that is not the
diagnostic channel changes nothing. DIODE_RATIO_CHECK faults every channel that fails it. HARDWARE_TRIP latches TRIPPED and, the first time, the site,
and puts every core of the stack in Stop. -/
def Obligations.ThermalSamplesFaultsAndTrip : Prop :=
  ∀ (s : State) (u : StackNo), u.val < s.fuse.part.stackCount →
    let keeps (t : State) : Prop := t.fuse = s.fuse ∧ t.pending = s.pending
    let dead (t : State) (c : Nat) : Prop := t.m.getF u Reg.THM_CH_STATUS_TEMP c = 0x8000 ∧ t.m.getF u Reg.THM_CH_STATUS_BAND c = 7 ∧ t.m.getB u Reg.THM_CH_STATUS_FAULT c = true
    (∀ (c : Fin 64) (v : Half), c.val < 56 → readingOk c v.toNat = true → s.m.getB u Reg.THM_CH_STATUS_FAULT c = false →
      let t0 := degrees v.toNat
      let top := s.m.getF u Reg.THM_CH_STATUS_MAX c
      Lands (.adcSample ⟨u, .channel c false (.temp v)⟩) s (fun t => keeps t ∧ t.m.getF u Reg.THM_CH_STATUS_TEMP c = v.toNat ∧
        t.m.getF u Reg.THM_CH_STATUS_BAND c = bandNext (s.m.getF u Reg.THM_CH_STATUS_BAND c) t0 ∧
        t.m.getF u Reg.THM_CH_STATUS_MAX c = (if degrees top < t0 then v.toNat else top) ∧
        (920 ≤ t0 → s.m.chValid u c = false ∨ degrees (s.m.getF u Reg.THM_CH_STATUS_TEMP c) < 920 → t.m.getF u Reg.THM_CH_STATUS_EVENT c = 1) ∧
        (t0 < 920 → t.m.mem = s.m.mem ∧ t.m.tier = s.m.tier ∧ t.m.hostMem = s.m.hostMem ∧
          (c.val < 4 ∨ (12 ≤ c.val ∧ c.val < 16) → s.m.getF u Reg.THM_CH_CFG_THROTTLE c ≠ 0x7FFF →
            let thr := degrees (s.m.getF u Reg.THM_CH_CFG_THROTTLE c)
            let l := s.m.getF u Reg.THM_THROTTLE_LEVEL c
            t.m.getF u Reg.THM_THROTTLE_LEVEL c = if thr ≤ t0 then min 7 (l + 1) else if t0 < thr - 16 then (l - 1) % 8 else l)))) ∧
    (∀ (c : Fin 64) (fast : Bool), c.val < 56 → fast = false ∨ s.m.fastServed u c = true →
      Lands (.adcSample ⟨u, .channel c fast .bad⟩) s (fun t => keeps t ∧ dead t c ∧ (s.m.getB u Reg.THM_CH_STATUS_FAULT c = false → t.m.getF u Reg.THM_CH_STATUS_EVENT c = 1))) ∧
    (∀ (c : Fin 64) (r : Reading), s.m.fastServed u c = false → Lands (.adcSample ⟨u, .channel c true r⟩) s (fun t => t = s)) ∧
    (∀ l : List (Fin 48), Lands (.diodeRatioCheck ⟨u, l⟩) s (fun t => keeps t ∧ (∀ c ∈ l, dead t c) ∧ (l = [] → t = s))) ∧
    (∀ c : Fin 48, Lands (.hardwareTrip ⟨u, c⟩) s (fun t => keeps t ∧ t.m.getB u Reg.THM_STATUS_TRIPPED = true ∧
      t.m.getF u Reg.THM_STATUS_TRIP_SITE = (if s.m.getB u Reg.THM_STATUS_TRIPPED then s.m.getF u Reg.THM_STATUS_TRIP_SITE else c.val) ∧
      t.m.tier = s.m.tier ∧ t.m.hostMem = s.m.hostMem ∧ (∀ p, p < 864 → t.m.getF u Reg.CORE_POWER_STATE p = 0 ∧ t.m.getF u Reg.CORE_POWER_LDO_NOW p = 0) ∧
      t.m.getF u Reg.PWR_STATUS_CORES_RUN = 0 ∧ t.m.getF u Reg.PWR_STATUS_CORES_STOP = 864))

/-- PERST_N, PWR_GOOD and VDD_AON reset the part and start it; a function level reset recovers it (R331, R333, R385, R454, R460, R466, R468, R513,
R529, R552, R555, spec/20_register_reference.md). PERST_N_ASSERT and PWR_GOOD_FALL empty every memory but host memory and the boot flash, return every
register to its reset value but those that Table RG-6 keeps through a cold start, and leave nothing else of a stack. VDD_AON_LOSS returns every
register. VDD_AON_APPLY starts RTC and boot counter from 0. PERST_N_DEASSERT with PWR_GOOD high, and PWR_GOOD_RISE with PERST_N deasserted, begin a
cold start: the boot counter rises, each stack that is not HALTED stands at stage 0 with its boot registers cleared; else the pin alone changes. FLR
while a reset pin holds the part changes nothing; in Stop it is counted and wakes the part when PCIE_EN is set; in a warm rejoin or a wake it is
counted; while the primary's Bureau is held it resets the host side only; else it begins a warm rejoin: RECOVERING and, on each stack that is not
HALTED, stage 0, SRAM zero, units, movers and sequences ended, licences, SDID and partition kept, SERVICE RECOVERING, or FAILED while a row of a
reserved slice is failed. -/
def Obligations.ResetsPowerPinsAndColdStart : Prop :=
  ∀ s : State, let b := s.m.boot
    let n := s.fuse.part.stackCount
    let sk := Reg.AON_WAKE_STATUS_STATE.key 0
    let cold (t : State) : Prop := t.fuse = s.fuse ∧ t.pending = s.pending ∧ t.m.mem = {} ∧ t.m.tier = {} ∧ t.m.wire = [] ∧ t.m.hostMem = s.m.hostMem ∧
      t.m.host = { flash := s.m.host.flash, preferred := s.m.host.preferred, licences := s.m.host.licences, aer := s.m.host.aer, msixSent := s.m.host.msixSent } ∧
      ∀ v, t.m.stk v = { csr := (t.m.stk v).csr }
    let kept (t : State) : Prop := ∀ v f j, t.m.getF v f j =
      if v = 0 ∧ f.key j = sk then 0 else if keptCold (f.key j) = true then s.m.getF v f j else f.resetAt v j
    let bt (b' : BootSt) : BootSt := { perst := b'.perst, pwrGood := b'.pwrGood, aon := b'.aon, bootCount := b'.bootCount, rtc := b'.rtc, start := none, taps := b'.taps }
    let began (t : State) (b' : BootSt) : Prop := Sets s t (startFields s.m n false) (fun m => { m with boot := { b' with
      bootCount := b.bootCount + 1
      start := some .cold
      stageUs := 0
      reports := []
      left := (List.range n).filter (fun v => s.m.getB v Reg.BUR_STATUS_HALTED)
      wakeStep := 0
      remake := []
      blocks := [] } })
    let counted : FieldVal := up s 0 Reg.HOST_LINK_STATUS_RESETS
    Lands .perstNAssert s (fun t => cold t ∧ kept t ∧ t.m.boot = bt { b with perst := true }) ∧
    Lands .pwrGoodFall s (fun t => cold t ∧ kept t ∧ t.m.boot = bt { b with pwrGood := false }) ∧
    Lands .vddAonLoss s (fun t => cold t ∧ (∀ v f j, t.m.getF v f j = f.resetAt v j) ∧
      t.m.boot = bt { b with aon := false, pwrGood := false, bootCount := 0, rtc := 0 }) ∧
    (b.aon = true → Lands .vddAonApply s (fun t => t = s)) ∧
    (b.aon = false → Lands .vddAonApply s (fun t => Sets s t ((List.range 4).map (fun v => (v, Reg.AON_RTC_SECONDS, 0, 0)))
      (fun m => { m with boot := { m.boot with aon := true, bootCount := 0, rtc := 0 } }))) ∧
    (let b' := { b with perst := false, taps := if b.pwrGood then b.taps.map tapAllowed else b.taps }
     (b.perst = true → b.pwrGood = true → b.aon = true → Lands .perstNDeassert s (fun t => began t b')) ∧
     (b.perst = false ∨ b.pwrGood = false ∨ b.aon = false → Lands .perstNDeassert s (fun t => t = { s with m := { s.m with boot := b' } }))) ∧
    (let b' := { b with pwrGood := true, taps := if b.perst then b.taps else b.taps.map tapAllowed }
     (b.pwrGood = false → b.perst = false → b.aon = true → Lands .pwrGoodRise s (fun t => began t b')) ∧
     (b.pwrGood = true ∨ b.perst = true ∨ b.aon = false → Lands .pwrGoodRise s (fun t => t = { s with m := { s.m with boot := b' } }))) ∧
    (b.perst = true ∨ b.pwrGood = false → Lands .flr s (fun t => t = s)) ∧
    (b.perst = false → b.pwrGood = true →
      (s.m.getF 0 Reg.AON_WAKE_STATUS_STATE = 2 →
        (s.m.getB 0 Reg.AON_WAKE_CFG_PCIE_EN = false → Lands .flr s (fun t => Ends s t [counted] ∧ Raised s t 0 4)) ∧
        (s.m.getB 0 Reg.AON_WAKE_CFG_PCIE_EN = true → Lands .flr s (fun t => Ends s t (counted :: wakeFields s 3 false) (fun m => { m with boot := wakeBoot s }) ∧
          Raised s t 0 4))) ∧
      (s.m.getF 0 Reg.AON_WAKE_STATUS_STATE ≠ 2 →
        (b.start = some .warm ∨ b.start = some .wake → Lands .flr s (fun t => Ends s t [counted] ∧ Raised s t 0 4)) ∧
        (b.start = some .cold → Lands .flr s (fun t => t.fuse = s.fuse ∧ t.pending = s.pending ∧ t.m.boot = s.m.boot ∧ t.m.mem = s.m.mem ∧ t.m.tier = s.m.tier ∧
          t.m.host.msixOpen = [] ∧ t.m.host.msixPend = [] ∧ t.m.getF 0 Reg.HOST_STACK_SEL_STACK = 0 ∧ t.m.getF 0 Reg.HOST_LINK_STATUS_RESETS = 1 ∧
          t.m.getF 0 Reg.HOST_LINK_STATUS_RECOVERING = 0 ∧ Raised s t 0 4)) ∧
        (b.start = none → s.m.getB 0 Reg.BUR_STATUS_HALTED = true → Lands .flr s (fun t => t.fuse = s.fuse ∧ t.pending = s.pending ∧ t.m.boot = s.m.boot ∧
          t.m.mem = s.m.mem ∧ t.m.tier = s.m.tier ∧ t.m.host.mbxQueue = [] ∧ t.m.getF 0 Reg.HOST_STACK_SEL_STACK = 0 ∧ t.m.getF 0 Reg.HOST_LINK_STATUS_RESETS = 1 ∧
          (∀ v, t.m.getF v Reg.THM_STATUS_STOP_HOLD = s.m.getF v Reg.THM_STATUS_STOP_HOLD) ∧ Raised s t 0 4)) ∧
        (b.start = none → s.m.getB 0 Reg.BUR_STATUS_HALTED = false → Lands .flr s (fun t => t.fuse = s.fuse ∧ t.pending = s.pending ∧ t.m.boot.start = some .warm ∧ t.m.wire = [] ∧
          t.m.host.flash = s.m.host.flash ∧ t.m.host.preferred = s.m.host.preferred ∧ t.m.host.licences = s.m.host.licences ∧ t.m.host.mbxQueue = [] ∧
          t.m.getF 0 Reg.HOST_LINK_STATUS_RECOVERING = 1 ∧ t.m.getF 0 Reg.HOST_STACK_SEL_STACK = 0 ∧
          ∀ v, v < n → s.m.getB v Reg.BUR_STATUS_HALTED = false → (t.m.stk v).cores = [] ∧ (t.m.stk v).movers = [] ∧ (t.m.stk v).seqs = [] ∧ (t.m.stk v).cache.lines = [] ∧
            t.m.getF v Reg.LNK_SDID_SDID = s.m.getF v Reg.LNK_SDID_SDID ∧ t.m.getF v Reg.LIC_STATUS_FEATURES = s.m.getF v Reg.LIC_STATUS_FEATURES ∧
            (∀ h, h < 2 → t.m.getF v Reg.CDIE_PART_CFG_CACHE h = s.m.getF v Reg.CDIE_PART_CFG_CACHE h) ∧
            (∀ a, devAddr v 0 0 ≤ a → a < devAddr v 4 0 → t.m.mem.byte a = 0) ∧
            t.m.getF v Reg.BUR_BOOT_STATUS_STAGE = 0 ∧ t.m.getF v Reg.BUR_BOOT_STATUS_WARM = 1 ∧
            t.m.getF v Reg.BUR_STATUS_SERVICE = (if t.m.reservedFailed v then 3 else 4)))))

/-- Stages begin and end in order, image blocks and reports arrive, a late stage is marked; wake sources wake the part in the steps of Table PW-6
(R408, R409, R438, R455, R457, R458, R459, R463, R465, R468, R487, R488). STAGE_START outside a cold start or warm rejoin changes nothing, nor while a
trigger of the orderly stop holds the start. From stage 0 each stack in the start goes to stage 1 at the time the stages before took, reported. On a
part of one stack: stage 1 with an accepted image enters slot, version and security version and goes to stage 2; without one the stack goes to ROM
recovery and the start ends; stage 4 goes to stage 5. STAGE_LATE marks the running stage. BOOT_IMAGE_BLOCK counts the next block at a stack that may
take it. STAGE_MESSAGE enters a subordinate's report. WAKE_EVENT in Stop from an enabled source begins the wake; the pin raises source 3 in Stop and
in a wake. WAKE_STEP switches rails 1 and 2, then 3 and 4, then 0 on; then the Bureaus leave reset, RECOVERING, at stage 1. -/
def Obligations.StagesOfAStartAndAWake : Prop :=
  ∀ s : State, let b := s.m.boot
    let n := s.fuse.part.stackCount
    let st := s.m.booting n
    let held : Prop := ∃ v ∈ st, (s.m.stk v).therm.holds ≠ []
    let free : Prop := ∀ v ∈ st, (s.m.stk v).therm.holds = [] ∧ (s.m.stk v).bureau.restarting = false
    let state := s.m.getF 0 Reg.AON_WAKE_STATUS_STATE
    (∀ l : List StackStage, let r := l.getD 0 {}
      let us := b.stageUs + r.us.toNat
      let moved (t : State) (k : Nat) (fs : List FieldVal) : Prop := Ends s t ([(0, Reg.BUR_BOOT_STATUS_STAGE, 0, k + 1), (0, Reg.BUR_BOOT_TIME_DURATION_US, k - 1, r.us.toNat),
        (0, Reg.BUR_BOOT_TIME_START_US, k, us)] ++ fs) (fun m => { m with boot := { b with stageUs := us, reports := [] } }) ∧ Told t 0 0x0008 [t.m.getF 0 Reg.BUR_STATUS_SERVICE, k + 1]
      (b.start = none ∨ b.start = some .wake ∨ held → Lands (.stageStart ⟨l⟩) s (fun t => t = s)) ∧
      (b.start = some .cold ∨ b.start = some .warm → free → st ≠ [] → (∀ v ∈ st, s.m.getF v Reg.BUR_BOOT_STATUS_STAGE = 0) → Lands (.stageStart ⟨l⟩) s (fun t =>
        Ends s t (st.flatMap (fun v => [(v, Reg.BUR_BOOT_STATUS_STAGE, 0, 1), (v, Reg.BUR_BOOT_TIME_START_US, 0, b.stageUs)]))
          (fun m => { m with boot := { m.boot with reports := [] } }) ∧
        (b.left.contains 0 = false → Told t 0 0x0008 [s.m.getF 0 Reg.BUR_STATUS_SERVICE, 1]))) ∧
      (s.fuse.part = .S → b.start = some .cold → free → b.left = [] → r.fellBack = false →
        (s.m.getF 0 Reg.BUR_BOOT_STATUS_STAGE = 1 →
          (∀ slot, Mach.bootSlot s.fuse s.m = some slot → let h := s.m.fwHeader slot
            Lands (.stageStart ⟨l⟩) s (fun t => moved t 1 [(0, Reg.BUR_STATUS_ROM_MODE, 0, 0), (0, Reg.BUR_STATUS_FW_SLOT, 0, slot),
              (0, Reg.BUR_FW_VERSION, 0, fieldAt h 8 4), (0, Reg.BUR_FW_SECVER, 0, fieldAt h 6 2), (0, Reg.AON_TIMESTAMP_NS, 0, s.m.now 0)])) ∧
          (Mach.bootSlot s.fuse s.m = none → Lands (.stageStart ⟨l⟩) s (fun t => Ends s t [(0, Reg.BUR_BOOT_TIME_DURATION_US, 0, r.us.toNat), (0, Reg.BUR_STATUS_ROM_MODE, 0, 1),
            (0, Reg.BUR_STATUS_SERVICE, 0, 6)] (fun m => { m with boot := { b with left := [0], stageUs := us, reports := [], start := none } }) ∧ Told t 0 0x0008 [6, 1]))) ∧
        (s.m.getF 0 Reg.BUR_BOOT_STATUS_STAGE = 4 → Lands (.stageStart ⟨l⟩) s (fun t => moved t 4 [])))) ∧
    (∀ u : StackNo, u.val < n → let k := s.m.getF u Reg.BUR_BOOT_STATUS_STAGE
      let runs : Prop := s.m.starting u = true ∧ k ≠ 0
      (runs → k ≤ 6 → Lands (.stageLate ⟨u⟩) s (fun t => Sets s t [(u.val, Reg.BUR_BOOT_STATUS_LATE, 0, putBit (s.m.getF u Reg.BUR_BOOT_STATUS_LATE) (k - 1) true)])) ∧
      (¬runs ∨ 6 < k → Lands (.stageLate ⟨u⟩) s (fun t => t = s)) ∧
      (∀ (i : Fin 256) (ok : Bool), let got := SMap.getD b.blocks u 0
        (∀ slot, Mach.bootSlot s.fuse s.m = some slot →
          (s.m.starting u = true → k = 1 → u.val = 1 ∨ u.val = 2 ∨ (u.val = 3 ∧ s.m.imageHeld slot 1 = true) → ok = true → i.val = got → i.val < s.m.imageBlocks slot →
            Lands (.bootImageBlock ⟨u, i, ok⟩) s (fun t => t = { s with m := { s.m with boot := { b with blocks := SMap.put b.blocks u (got + 1) } } }))) ∧
        (Mach.bootSlot s.fuse s.m = none ∨ s.m.starting u = false ∨ k ≠ 1 ∨ u.val = 0 ∨ ok = false ∨ i.val ≠ got →
          Lands (.bootImageBlock ⟨u, i, ok⟩) s (fun t => t = s))) ∧
      (∀ release ok : Bool,
        (ok = true → release = false → u.val ≠ 0 → runs → k ≤ 3 → b.reports.contains u.val = false → Lands (.stageMessage ⟨u, release, ok⟩) s (fun t =>
          t = { s with m := { s.m with boot := { b with reports := b.reports ++ [u.val] } } })) ∧
        (ok = false ∨ release = true ∨ u.val = 0 ∨ ¬runs ∨ 3 < k ∨ b.reports.contains u.val = true → Lands (.stageMessage ⟨u, release, ok⟩) s (fun t => t = s)))) ∧
    (∀ (e : Bool), let rtc := s.m.getB 0 Reg.AON_WAKE_CFG_RTC_EN && (s.m.stk 0).bureau.latches.contains 2
      let woken (src : Nat) (t : State) : Prop := Ends s t (wakeFields s src e) (fun m => { m with boot := wakeBoot s })
      (state ≠ 2 → state ≠ 3 → ∀ src, Lands (.wakeEvent ⟨src, e⟩) s (fun t => t = s)) ∧
      (state = 2 →
        (if rtc then Lands (.wakeEvent ⟨.rtc, e⟩) s (woken 1) else Lands (.wakeEvent ⟨.rtc, e⟩) s (fun t => t = s)) ∧
        (if s.m.getB 0 Reg.AON_WAKE_CFG_PCIE_EN then Lands (.wakeEvent ⟨.pcie, e⟩) s (woken 3) else Lands (.wakeEvent ⟨.pcie, e⟩) s (fun t => t = s)) ∧
        Lands (.wakeEvent ⟨.pin, e⟩) s (fun t => Raised s t 0 3 ∧ if s.m.getB 0 Reg.AON_WAKE_CFG_PIN_EN then
          t.fuse = s.fuse ∧ t.pending = s.pending ∧ Holds t (wakeFields s 2 e) ∧ t.m.boot = wakeBoot s else (t.m.boot = b ∧ t.m.getF 0 Reg.AON_WAKE_STATUS_STATE = 2))) ∧
      (state = 3 → Lands (.wakeEvent ⟨.rtc, e⟩) s (fun t => t = s) ∧ Lands (.wakeEvent ⟨.pcie, e⟩) s (fun t => t = s) ∧
        Lands (.wakeEvent ⟨.pin, e⟩) s (fun t => Raised s t 0 3 ∧ t.m.boot = b))) ∧
    (∀ (l : List StackStage) (fl : List (List SavedItem)),
      let on (l : List Nat) (v : Nat) : List FieldVal := (v, Reg.PWR_STATUS_RAIL_ON, 0, l.foldl (fun x i => putBit x i true) (s.m.getF v Reg.PWR_STATUS_RAIL_ON)) ::
        l.map (fun i => (v, Reg.PWR_RAIL_ENABLED, i, 1))
      let rails (k : Nat) (l' : List Nat) : Prop := b.wakeStep = k → Lands (.wakeStep ⟨l, fl⟩) s (fun t =>
        Sets s t ((List.range n).flatMap (on l')) (fun m => { m with boot := { m.boot with wakeStep := k + 1 } }))
      (b.start ≠ some .wake → Lands (.wakeStep ⟨l, fl⟩) s (fun t => t = s)) ∧
      (b.start = some .wake → rails 0 [2, 1] ∧ rails 1 [3, 4] ∧ rails 2 [0] ∧
        (b.wakeStep = 3 → fl = [] → 0 ∈ st → Lands (.wakeStep ⟨l, fl⟩) s (fun t => t.fuse = s.fuse ∧ t.pending = s.pending ∧ t.m.mem = s.m.mem ∧ t.m.tier = s.m.tier ∧
          t.m.boot.wakeStep = 4 ∧ t.m.host.msixOpen = s.m.host.msixOpen ∧ t.m.getF 0 Reg.AON_WAKE_STATUS_SAVE_FAILED = 0 ∧ ∀ v ∈ st, t.m.getF v Reg.BUR_BOOT_STATUS_STAGE = 1 ∧
            t.m.getF v Reg.BUR_STATUS_SERVICE = 4 ∧ t.m.getF v Reg.BUR_BOOT_STATUS_WARM = 1 ∧ (t.m.stk v).cores = [] ∧
            t.m.now v = (s.m.now v + (rtcTicks b.rtc - rtcTicks b.rtcStop) * 10 ^ 9 / 32768) % 2 ^ 64)) ∧
        (4 ≤ b.wakeStep → held → Lands (.wakeStep ⟨l, fl⟩) s (fun t => t = s))))

/-- Requests are checked and completed in order; identity, state, map, time, plan, licence, temperature, sequence, owner and log reads answer their
fields (R228, R409, R413, R415, R416, R420, R421, R432, R448, R512). Completing a request writes the response of Table BU-3 into the response buffer
and nothing else of BAR2, sets RESP_SEQ and DONE and clears BUSY. A request alone in the order that fails a header check completes with its status and
no other effect, whichever command it is. A command whose payload has the wrong length completes with BAD_ARGUMENT, one in ROM recovery mode that the
ROM does not serve with 0x0009, a read of a stack that is not ready with PLAN_BUSY; where the stack's Bureau restarts, it waits. IDENTIFY, GET_STATE,
GET_CORE_MAP, GET_TIME, PLAN_STATUS, LIC_LIST, THERMAL_READ, SEQ_READ, RESOURCE_QUERY and LOG_READ complete with the payload of Table BU-6 and change
nothing, but that LOG_READ marks what it read; the SDIDs of absent stacks in IDENTIFY are free (log entry 11). -/
def Obligations.ShoserReadsAndChecks : Prop :=
  ∀ s : State, let n := s.fuse.part.stackCount
    let all : List (Instr × Nat × Bool × Nat) :=
      [(.identify, 0x0001, true, 0), (.getState, 0x0002, true, 0), (.getCoreMap, 0x0003, false, 0), (.setSdid, 0x0004, false, 2), (.getTime, 0x0005, false, 0),
       (.licInstall, 0x0101, false, 144), (.licList, 0x0102, false, 0), (.licRemove, 0x0103, false, 2), (.planLoad, 0x0201, false, 16), (.planStart, 0x0202, false, 8),
       (.planAbort, 0x0203, false, 8), (.planStatus, 0x0204, false, 0), (.seqCreate, 0x0301, false, 24), (.seqFork, 0x0302, false, 8), (.seqFree, 0x0303, false, 4),
       (.seqTrunc, 0x0304, false, 8), (.seqPriority, 0x0305, false, 4), (.seqRead, 0x0306, false, 2), (.kvPoolCfg, 0x0307, false, 32), (.shelfPin, 0x0401, false, 24)] ++
      [(.shelfUnpin, 0x0402, false, 1), (.partSet, 0x0403, false, 2), (.scrubRange, 0x0501, false, 16), (.twinPair, 0x0601, false, 16), (.twinUnpair, 0x0602, false, 0),
       (.twinDetach, 0x0603, false, 0), (.twinRejoin, 0x0604, false, 0), (.twinTakeover, 0x0605, false, 0), (.twinJournalRead, 0x0606, false, 6),
       (.rtcAlarm, 0x0702, false, 8), (.thermalLimits, 0x0801, false, 6), (.thermalRead, 0x0802, false, 0), (.linkTest, 0x0901, false, 8),
       (.linkMargin, 0x0902, false, 2), (.logRead, 0x0A01, false, 16), (.eventBind, 0x0A02, false, 4), (.syncBind, 0x0A03, false, 16),
       (.resourceQuery, 0x0B01, false, 4), (.fwActivate, 0x0C02, true, 1)]
    (∀ (m : Mach) (r : MbxReq) (st : Nat) (p : List Byte), let t := m.complete r st p
      let b := responseBytes r st (m.now 0) p
      (m.host.bar2.wf = true → ∀ a, t.host.bar2.byte a = if responseBuf r.mbox ≤ a ∧ a < responseBuf r.mbox + b.length then b.getD (a - responseBuf r.mbox) 0 else m.host.bar2.byte a) ∧
      t.getF 0 Reg.MBX_STATUS_RESP_SEQ r.mbox = r.seq % 2 ^ 16 ∧ t.getF 0 Reg.MBX_STATUS_DONE r.mbox = 1 ∧ t.getF 0 Reg.MBX_STATUS_BUSY r.mbox = 0 ∧
      t.host.mbxQueue = m.host.mbxQueue ∧ t.host.deferred = m.host.deferred ∧ t.mem = m.mem ∧ t.tier = m.tier ∧ t.boot = m.boot ∧
      (∀ v f j, NotListed [(0, Reg.MBX_STATUS_RESP_SEQ, r.mbox, 0), (0, Reg.MBX_STATUS_DONE, r.mbox, 0), (0, Reg.MBX_STATUS_BUSY, r.mbox, 0)] v f j → t.getF v f j = m.getF v f j)) ∧
    (∀ e ∈ all, ∀ q, s.m.serves = true → s.m.romMode 0 = false → s.m.host.mbxQueue = [q] →
      let r := s.m.request n q.1 q.2
      r.status ≠ 0 → Lands e.1 s (fun t => t = { s with m := ({ s.m with host := { s.m.host with mbxQueue := [] } }).complete r r.status })) ∧
    (∀ e ∈ all, ∀ r, AtFront s e.2.1 r → r.payload.length ≠ e.2.2.2 → Lands e.1 s (fun t => Completes s t r 0x0003)) ∧
    (∀ e ∈ all, ∀ r, s.m.serves = true → s.m.frontReq n e.2.1 = some r → e.2.2.1 = false →
      s.m.romMode 0 = true ∧ (∀ q ∈ s.m.host.mbxQueue, q.1 = 0) ∨ s.m.romMode 0 = false ∧ (∃ k ∈ r.stackSet n, s.m.romMode k = true) →
      Lands e.1 s (fun t => Completes s t r 0x0009)) ∧
    (∀ (i : Instr) (op : Nat) (r : MbxReq), (i, op) ∈ [(Instr.getCoreMap, 0x0003), (.getTime, 0x0005), (.licList, 0x0102), (.planStatus, 0x0204)] →
      AtFront s op r → r.payload = [] →
      ((∃ k ∈ r.stackSet n, s.m.notReady k = true) → Lands i s (fun t => Completes s t r 0x0010)) ∧
      ((∀ k ∈ r.stackSet n, s.m.notReady k = false) → (∃ k ∈ r.stackSet n, s.m.bureauClockStopped k = true) → Lands i s (fun t => t = s))) ∧
    (∀ r, r.payload = [] →
      (AtFront s 0x0001 r → Lands .identify s (fun t => ∃ x : List Byte, x.length = 2 * (4 - n) ∧ Completes s t r 0 (leBytes 16 s.fuse.serial.toNat ++
        (List.range 4).flatMap (fun k => if k < n then leBytes 8 (s.fuse.dieSerials.getD (2 * k) 0).toNat ++ leBytes 8 (s.fuse.dieSerials.getD (2 * k + 1) 0).toNat else leBytes 16 0) ++
        leBytes 2 (match s.fuse.part with | .S => 0x0832 | .D => 0x0833 | .Q => 0x0834) ++ leBytes 1 s.fuse.revision ++ leBytes 1 n ++ leBytes 1 2 ++ leBytes 1 0 ++
        leBytes 2 0x0100 ++ leBytes 4 (s.m.getF 0 Reg.BUR_FW_VERSION) ++ (List.range n).flatMap (fun k => leBytes 2 (s.m.sdid k)) ++ x))) ∧
      (AtFront s 0x0002 r → Lands .getState s (fun t => Completes s t r 0 ((r.stackSet n).flatMap (fun k =>
        leBytes 1 (s.m.getF k Reg.BUR_STATUS_SERVICE) ++ leBytes 1 (s.m.getF k Reg.BUR_BOOT_STATUS_STAGE) ++ leBytes 1 (s.m.getF k Reg.BUR_PLAN_STATE_STATE) ++
        leBytes 1 (s.m.getF k Reg.LNK_TWIN_STATUS_STATE) ++ leBytes 2 (s.m.getF k Reg.BUR_CORE_SUMMARY_LOGICAL_COUNT) ++ leBytes 2 0 ++ leBytes 8 (s.m.getF k Reg.BUR_PLAN_ID_PLAN_ID))))) ∧
      (Served s 0x0003 r → Lands .getCoreMap s (fun t => Completes s t r 0 (leBytes 2 (s.m.getF r.stack Reg.BUR_CORE_SUMMARY_LOGICAL_COUNT) ++
        leBytes 1 (s.m.getF r.stack Reg.BUR_CORE_SUMMARY_CHRYS_FREE_W) ++ leBytes 1 (s.m.getF r.stack Reg.BUR_CORE_SUMMARY_CHRYS_FREE_E) ++
        (List.range 832).flatMap (fun L => leBytes 2 (s.m.homeOfIndex r.stack L)) ++ (List.range 832).flatMap (fun L => leBytes 2 (s.m.physOf r.stack L))))) ∧
      (Served s 0x0005 r → Lands .getTime s (fun t => Completes s t r 0 (leBytes 8 (s.m.now r.stack) ++ leBytes 8 (s.m.getF r.stack Reg.AON_RTC_SECONDS)))) ∧
      (Served s 0x0204 r → Lands .planStatus s (fun t => Completes s t r 0 ((r.stackSet n).flatMap (fun k => leBytes 1 (s.m.getF k Reg.BUR_PLAN_STATE_STATE) ++
        leBytes 1 (s.m.phaseNow k) ++ leBytes 1 (s.m.getF k Reg.BUR_PLAN_STATE_OUTSIDE_GUARANTEE) ++ leBytes 1 0 ++ leBytes 2 (s.m.stk k).plan.endStatus ++ leBytes 2 0 ++
        leBytes 8 (s.m.getF k Reg.BUR_PLAN_ID_PLAN_ID))))) ∧
      (Served s 0x0102 r → let l := (List.range 6).flatMap (fun k => s.m.host.licences.filter (fun b => licFeature b = k))
        Lands .licList s (fun t => Completes s t r 0 (leBytes 4 l.length ++ l.flatMap (fun b => leBytes 2 (licFeature b) ++ leBytes 2 0 ++ leBytes 4 (fieldAt b 0x20 4) ++
          leBytes 8 (fieldAt b 0x18 8))))) ∧
      (AtFront s 0x0802 r → Lands .thermalRead s (fun t => Completes s t r 0 ((List.range 64).flatMap (fun c =>
        leBytes 2 (s.m.getF r.stack Reg.THM_CH_STATUS_TEMP c) ++ leBytes 1 (s.m.getF r.stack Reg.THM_CH_STATUS_BAND c) ++ leBytes 1 0))))) ∧
    (∀ r, Served s 0x0306 r → r.payload.length = 2 → let q := r.arg 0 2
      (s.m.detachedId r.stack q = true → Lands .seqRead s (fun t => Completes s t r 0x0064)) ∧
      (s.m.detachedId r.stack q = false →
        (s.m.seq r.stack q = none → Lands .seqRead s (fun t => Completes s t r 0 (leBytes 64 0))) ∧
        (∀ x, s.m.seq r.stack q = some x → Lands .seqRead s (fun t => Completes s t r 0 (leBytes 1 1 ++
          leBytes 1 (x.pinned.toNat + 2 * x.exhausted.toNat + 4 * (x.flagged || x.map.any (fun e => (s.m.page r.stack (cabOf q) e.2).any (fun p => p.loc = 3))).toNat) ++
          leBytes 1 x.cls ++ leBytes 1 x.fmt ++ leBytes 1 x.hd ++ leBytes 1 0 ++ leBytes 2 x.streams ++ leBytes 4 x.length ++ leBytes 4 (x.l1.getD 0xFFFF_FFFF) ++
          leBytes 4 x.sync ++ leBytes 4 x.map.length ++ leBytes 2 x.lastFail ++ leBytes 6 0 ++ leBytes 8 x.tag ++ leBytes 8 x.planId ++ leBytes 16 0))))) ∧
    (∀ r i, Served s 0x0B01 r → r.payload.length = 4 → ownerIndex (r.arg 0 2) (r.arg 2 2) = some i → Lands .resourceQuery s (fun t =>
      Completes s t r 0 (leBytes 1 (s.m.getF r.stack Reg.REG_OWNER_OWNER i) ++ leBytes 1 (s.m.getF r.stack Reg.REG_OWNER_CLASS i)))) ∧
    (∀ r, Served s 0x0A01 r → r.payload.length = 16 → r.arg 0 1 ≤ 1 → r.arg 1 3 = 0 → 1 ≤ r.arg 4 4 → r.arg 4 4 ≤ 63 →
      let w := r.arg 0 1
      let es := s.m.logEntries r.stack w
      let l := (es.filter (fun e => r.arg 8 8 ≤ e.1)).take (r.arg 4 4)
      let last := s.m.getF r.stack Reg.LOG_NEXT_SERIAL w
      let next := ((l.getLast?).map (fun e => e.1 + 1)).getD last
      Lands .logRead s (fun t => Completes s t r 0 (leBytes 8 next ++ leBytes 4 l.length ++ leBytes 4 (((es.head?).map (·.1)).getD last - r.arg 8 8) ++ l.flatMap (·.2)) []
        (fun m => m.updStk r.stack (fun k => { k with bureau := { k.bureau with logRead := k.bureau.logRead.modify (fun v => max v (if l = [] then 0 else next)) w } }))))

/-- SDID, alarm, limits, bindings, licences, firmware and power states are set by their commands (R13, R349, R408, R422, R424, R430, R431, R432, R482,
R483, R497, R532). A command at the front, of stacks that are ready, with arguments in range. SET_SDID takes the SDID, PLAN_BUSY while a plan is on.
RTC_ALARM sets the alarm of each stack addressed; THERMAL_LIMITS the limits that R497 allows. EVENT_BIND binds a vector to an event code. SYNC_BIND
keeps its binding, up to 4,096, or fires at once when the count satisfies it. LIC_INSTALL, LIC_REMOVE and FW_WRITE are refused with their status, with
RESOURCE_HELD while the flash is in use, or wait for FLASH_WRITE_DONE, which stores the licence, takes it out, or writes the flash, and completes; on
a stack without a plan links 8 to 23 then train or are held in reset, and CHEST_SLOTS of a pool not in use is 0, as the licences say; on one with a
plan nothing changes but LIC_STATUS. FW_ACTIVATE makes a slot that every addressed stack accepts the preferred one. POWER_STATE for the device: Run
finds it in Run; Stop is refused unless R483 allows it, waits while the poison directory holds a writeback (log entry 103), or the response is written
and the part is in Stop. For cores: each core of the mask stops, or its wake is asked for; PLAN_BUSY while a plan is on. -/
def Obligations.ShoserSettingsStoresAndPower : Prop :=
  ∀ s : State, let n := s.fuse.part.stackCount
    (∀ r, Served s 0x0004 r → r.payload.length = 2 →
      (s.m.planOn r.stack = true → Lands .setSdid s (fun t => Completes s t r 0x0010)) ∧
      (s.m.planOn r.stack = false → (∀ k, k < 24 → s.m.getB r.stack Reg.LNK_STATUS_SDID_CLASH k = false) → Lands .setSdid s (fun t =>
        Completes s t r 0 [] [(r.stack, Reg.LNK_SDID_SDID, 0, r.arg 0 2)]))) ∧
    (∀ r, AtFront s 0x0702 r → r.payload.length = 8 → r.arg 0 8 < 2 ^ 48 → Lands .rtcAlarm s (fun t =>
      Completes s t r 0 [] ((r.stackSet n).map (fun k => (k, Reg.AON_RTC_ALARM_ALARM, 0, r.arg 0 8))))) ∧
    (∀ r, Served s 0x0801 r → r.payload.length = 6 → r.arg 1 1 = 0 → r.arg 0 1 < 64 →
      (limitsOk (r.arg 0 1) (r.arg 2 2) (r.arg 4 2) = true → Lands .thermalLimits s (fun t => Completes s t r 0 [] [(r.stack, Reg.THM_CH_CFG_WARN, r.arg 0 1, r.arg 2 2),
        (r.stack, Reg.THM_CH_CFG_THROTTLE, r.arg 0 1, r.arg 4 2)])) ∧
      (limitsOk (r.arg 0 1) (r.arg 2 2) (r.arg 4 2) = false → Lands .thermalLimits s (fun t => Completes s t r 0x0003))) ∧
    (∀ r, Served s 0x0A02 r → r.payload.length = 4 → 1 ≤ r.arg 0 2 → r.arg 0 2 ≤ 0x13 → 64 ≤ r.arg 2 2 → r.arg 2 2 ≤ 2047 → Lands .eventBind s (fun t =>
      Completes s t r 0 [] [] (fun m => { m with host := { m.host with evBind := SMap.put m.host.evBind (r.arg 0 2) (r.arg 2 2) } }))) ∧
    (∀ r, Served s 0x0A03 r → r.payload.length = 16 → r.arg 6 2 = 0 → handleBad (r.arg 0 4) = false → handleSdid (r.arg 0 4) = s.m.sdid r.stack →
      64 ≤ r.arg 4 2 → r.arg 4 2 ≤ 2047 → r.arg 8 8 < 2 ^ 48 →
      let binds := (s.m.stk r.stack).bureau.binds
      let o := handleObj (r.arg 0 4)
      let now := satisfies (s.m.count r.stack o) (r.arg 8 8)
      (4096 ≤ binds.length → Lands .syncBind s (fun t => Completes s t r 0x0007 [0])) ∧
      (binds.length < 4096 → (∀ b ∈ binds, handleObj b.handle = o → satisfies (s.m.count r.stack o) b.threshold = false) →
        (now = false → Lands .syncBind s (fun t => Completes s t r 0 [] [] (fun m => m.updStk r.stack (fun k => { k with bureau := { k.bureau with
          binds := k.bureau.binds ++ [⟨r.arg 0 4, r.arg 4 2, r.arg 8 8⟩] } })))) ∧
        (now = true → Lands .syncBind s (fun t => Completes s t r 0 ∧ ∃ m, Raised s { s with m := m } r.stack 7 ∧
          (r.arg 4 2 ∈ m.host.msixSent ∨ r.arg 4 2 ∈ m.host.msixPend) ∧ Completed s t r 0 [] m)))) ∧
    (∀ u, s.m.flashUser = some u →
      (∀ (i : Instr) (r : MbxReq) (op : Nat), (i, op) ∈ [(Instr.licInstall, 0x0101), (.licRemove, 0x0103)] → Served s op r →
        (i = .licInstall → r.payload.length = 144) → (i = .licRemove → r.payload.length = 2 ∧ 1 ≤ r.arg 0 2 ∧ r.arg 0 2 ≤ 5) →
        Lands i s (fun t => Completes s t r 0x0007 (leBytes 1 u.owner)))) ∧
    (s.m.flashUser = none →
      (∀ r, Served s 0x0101 r → r.payload.length = 144 → let st := Mach.installStatus s.fuse s.m r.payload
        (st = 0 → Lands .licInstall s (fun t => Defers s t r)) ∧
        (st ≠ 0 → Lands .licInstall s (fun t => Completes s t r st [] ((List.range n).map (fun k => up s k Reg.LIC_STATUS_REJECTED))))) ∧
      (∀ r, Served s 0x0103 r → r.payload.length = 2 → 1 ≤ r.arg 0 2 → r.arg 0 2 ≤ 5 →
        ((∃ b ∈ s.m.host.licences, licFeature b = r.arg 0 2) → Lands .licRemove s (fun t => Defers s t r)) ∧
        ((∀ b ∈ s.m.host.licences, licFeature b ≠ r.arg 0 2) → Lands .licRemove s (fun t => Completes s t r 0x0074))) ∧
      (∀ r, Served s 0x0C02 r → r.payload.length = 1 → r.arg 0 1 ≤ 1 →
        ((∀ k ∈ r.stackSet n, Mach.slotStatus s.fuse s.m k (r.arg 0 1) = 0) → Lands .fwActivate s (fun t =>
          Completes s t r 0 (leBytes 4 (fieldAt (s.m.fwHeader (r.arg 0 1)) 8 4)) [] (fun m => { m with host := { m.host with preferred := r.arg 0 1 } }))) ∧
        (∀ st, ((r.stackSet n).map (fun k => Mach.slotStatus s.fuse s.m k (r.arg 0 1))).find? (· ≠ 0) = some st → Lands .fwActivate s (fun t => Completes s t r st)))) ∧
    (∀ r, Served s 0x0C01 r → 9 ≤ r.payload.length → r.payload.length ≤ 4064 → r.arg 0 1 ≤ 1 → r.arg 1 3 = 0 → r.arg 4 4 % 4096 = 0 →
      r.arg 4 4 + (r.payload.length - 8) ≤ 0x10_0000 →
      (s.m.flashUser = none → Lands .fwWrite s (fun t => Defers s t r)) ∧
      (∀ u, s.m.flashUser = some u → Lands .fwWrite s (fun t => Completes s t r 0x0007 (leBytes 1 u.owner)))) ∧
    (s.m.serves = false ∨ s.m.flashUser = none → Lands .flashWriteDone s (fun t => t = s)) ∧
    (∀ r, s.m.serves = true → s.m.flashUser = some r →
      let done (payload : List Byte) (fs : List FieldVal) (g : HostSt → HostSt) : Prop := Lands .flashWriteDone s (fun t =>
        ∃ m, Ends s { s with m := m } fs (fun m => { m with host := g { m.host with deferred := m.host.deferred.erase r } }) ∧ t = { s with m := m.complete r 0 payload })
      (r.opcode = 0x0C01 → done [] [] (fun h => { h with flash := h.flash.writeBytes (r.arg 0 1 * 0x10_0000 + r.arg 4 4) (r.payload.drop 8) })) ∧
      (r.opcode ≠ 0x0C01 → r.stack < 4 ∨ r.stack = 0xFF →
        let l := if r.opcode = 0x0101 then s.m.host.licences.filter (fun x => licFeature x ≠ licFeature r.payload) ++ [r.payload]
          else s.m.host.licences.filter (fun x => licFeature x ≠ r.arg 0 2)
        let mask := licMask s.fuse l
        (∀ k, k < n → s.m.planOn k = false →
          ((bit mask 0 = true ∧ bit (s.m.getF k Reg.LIC_STATUS_FEATURES) 0 = true) ∨
            (bit mask 0 = false ∧ ∀ i, 8 ≤ i → i < 24 → s.m.getF k Reg.LNK_STATUS_STATE i = 0)) ∧
          (bit mask 2 = true ∨ ∀ c, c < 2 → s.m.getF k Reg.CAB_LP_CFG_CHEST_SLOTS c = 0 ∧ s.m.getF k Reg.CAB_LP_CFG_CHEST_EN c = 0)) →
        done (leBytes 4 mask) ((List.range 4).flatMap (fun k => [(k, Reg.LIC_STATUS_FEATURES, 0, mask), (k, Reg.LIC_STATUS_COUNT, 0, l.length)]))
          (fun h => { h with licences := l })) ∧
      (r.opcode ≠ 0x0C01 → r.stack < 4 ∨ r.stack = 0xFF →
        let l := if r.opcode = 0x0101 then s.m.host.licences.filter (fun x => licFeature x ≠ licFeature r.payload) ++ [r.payload]
          else s.m.host.licences.filter (fun x => licFeature x ≠ r.arg 0 2)
        let mask := licMask s.fuse l
        Lands .flashWriteDone s (fun t => t.fuse = s.fuse ∧ t.pending = s.pending ∧ t.m.mem = s.m.mem ∧ t.m.tier = s.m.tier ∧ t.m.host.licences = l ∧
          t.m.host.deferred = s.m.host.deferred.erase r ∧ ∀ k, k < n → t.m.getF k Reg.LIC_STATUS_FEATURES = mask % 2 ^ Reg.LIC_STATUS_FEATURES.width ∧
            (s.m.planOn k = true → (∀ i, t.m.getF k Reg.LNK_STATUS_STATE i = s.m.getF k Reg.LNK_STATUS_STATE i) ∧
              ∀ c, t.m.getF k Reg.CAB_LP_CFG_CHEST_SLOTS c = s.m.getF k Reg.CAB_LP_CFG_CHEST_SLOTS c) ∧
            (s.m.planOn k = false →
              (∀ i, 8 ≤ i → i < 24 → s.m.getF k Reg.LNK_TWIN_STATUS_STATE = 0 →
                (bit mask 0 = false → t.m.getF k Reg.LNK_STATUS_STATE i = 0) ∧
                (bit mask 0 = true → bit (s.m.getF k Reg.LIC_STATUS_FEATURES) 0 = false → s.m.getB k Reg.LNK_CTRL_ENABLE i = true → t.m.getF k Reg.LNK_STATUS_STATE i = 1)) ∧
              (∀ c, c < 2 → bit mask 2 = false → ((s.m.stk k).cabs.get {} c).pages = [] → ((s.m.stk k).cabs.get {} c).blocks = [] →
                t.m.getF k Reg.CAB_LP_CFG_CHEST_SLOTS c = 0 ∧ t.m.getF k Reg.CAB_LP_CFG_CHEST_EN c = 0))))) ∧
    (∀ r, Served s 0x0701 r → r.payload.length = 8 → r.arg 0 1 = 0 → r.arg 2 6 = 0 →
      (r.arg 1 1 = 0 → Lands .powerStateDevice s (fun t => Completes s t r 0)) ∧
      (r.arg 1 1 = 1 → r.stack = 0xFF →
        (s.m.mayStop n = false → Lands .powerStateDevice s (fun t => Completes s t r 0x0010)) ∧
        (s.m.mayStop n = true → (s.m.stopFlush n).stopWaits n = true → Lands .powerStateDevice s (fun t => t.fuse = s.fuse ∧ t.pending = s.pending ∧
          t.m.host.mbxQueue = s.m.host.mbxQueue ∧ t.m.getF 0 Reg.AON_WAKE_STATUS_STATE = s.m.getF 0 Reg.AON_WAKE_STATUS_STATE)) ∧
        (s.m.mayStop n = true → (s.m.stopFlush n).stopWaits n = false → Lands .powerStateDevice s (fun t => t.fuse = s.fuse ∧ t.pending = s.pending ∧ t.m.hostMem = s.m.hostMem ∧
          (∃ m, Ends s { s with m := m } [] ∧ t = { s with m := ((m.complete r 0).enterStop n).popReq n }) ∧ t.m.getF 0 Reg.AON_WAKE_STATUS_STATE = 2 ∧
          ∀ k, k < n → t.m.getF k Reg.BUR_STATUS_SERVICE = 5 ∧ (t.m.stk k).seqs = [] ∧ (t.m.stk k).cache.lines = [] ∧
            (∀ i, i < 24 → t.m.getF k Reg.LNK_STATUS_STATE i = 0) ∧ (∀ p, p < 864 → t.m.getF k Reg.CORE_POWER_STATE p = 0) ∧
            ∀ a, devAddr k 0 0 ≤ a → a < devAddr k 4 0 → t.m.mem.byte a = 0)))) ∧
    (∀ r, Served s 0x0701 r → r.payload.length = 112 → r.arg 0 1 = 1 → r.arg 2 6 = 0 → r.arg 1 1 ≤ 1 →
      (∀ k ∈ r.stackSet n, ∀ L ∈ coreMask r, L < s.m.getF k Reg.BUR_CORE_SUMMARY_LOGICAL_COUNT) →
      let stop := r.arg 1 1 = 1
      let busy : Prop := (∃ k ∈ r.stackSet n, s.m.planOn k = true) ∨ (¬stop ∧ ∃ k ∈ r.stackSet n, s.m.getB k Reg.THM_STATUS_STOP_HOLD = true)
      (busy → Lands .powerStateCores s (fun t => Completes s t r 0x0010)) ∧
      (¬busy → Lands .powerStateCores s (fun t => t.fuse = s.fuse ∧ t.pending = s.pending ∧ ∃ m, Completed s t r 0 [] m ∧ m.tier = s.m.tier ∧
        ∀ k ∈ r.stackSet n, ∀ L ∈ coreMask r, let p := s.m.physOf k L
          (stop → m.getF k Reg.CORE_POWER_STOP_REQ p = 1 ∧ (s.m.getF k Reg.CORE_POWER_STATE p ≠ 1 → m.getF k Reg.CORE_POWER_STATE p = 0)) ∧
          (¬stop → m.getF k Reg.CORE_POWER_STOP_REQ p = 0 ∧ m.getF k Reg.CORE_POWER_STATE p = s.m.getF k Reg.CORE_POWER_STATE p ∧
            (s.m.getF k Reg.CORE_POWER_STATE p = 0 → p ∈ (m.pw k).toWake)))))

/-- Sequence contexts are created, forked, truncated, freed and ranked; pools, shelves, partitions and range scrubs are set by their commands (R227,
R232, R240, R252, R253, R254, R273, R274, R281, R327, R366, R373). A command at the front, of a stack that is ready, with arguments in range. A
sequence command that names an id of its own while the stack is DETACHED completes with that status, one that changes pages while a plan runs with
PLAN_BUSY. SEQ_CREATE enters the context asked for, or completes with the first failing check. SEQ_FORK gives the destination the source's pages below
the length, and the length. SEQ_FREE takes the context out, or keeps it empty; an id held for the twin is given up. SEQ_TRUNC keeps the pages below
the length, else LAST_FAIL keeps the code. SEQ_PRIORITY sets class and pin and raises the class of each page. The other contexts are unchanged; where
the journal of a pair has no room, or the Cabinet's memory is held, the command waits. KV_POOL_CFG, PART_SET, SHELF_PIN and SHELF_UNPIN take effect
when their checks pass, else complete with their status; SCRUB_RANGE enters its range and waits. -/
def Obligations.ShoserSequencesPoolsShelvesAndPartitions : Prop :=
  ∀ (s : State) (r : MbxReq), let k := r.stack
    let q := r.arg 0 2
    let c := cabOf q
    let ends (i : Instr) (code : Nat) (P : Mach → Prop) : Prop := Lands i s (fun t => (s.m.journals k = true ∧ t = s) ∨ ∃ m, Completed s t r code [] m ∧ P m)
    let others (m : Mach) (q : Nat) : Prop := ∀ p, p ≠ q → m.seq k p = s.m.seq k p
    (Served s 0x0301 r → r.payload.length = 24 → r.arg 2 1 ≤ 2 → r.arg 3 1 ≤ 2 → 1 ≤ r.arg 4 2 → r.arg 4 2 ≤ 4096 → r.arg 6 1 ≤ 3 → r.arg 7 1 ≤ 1 → r.arg 12 4 = 0 →
      handleBad (r.arg 8 4) = false →
      let x : Seq := { fmt := r.arg 2 1, hd := r.arg 3 1, streams := r.arg 4 2, cls := r.arg 6 1, pinned := r.arg 7 1 = 1, sync := r.arg 8 4, tag := r.arg 16 8 }
      let full := (if s.m.licensed k 2 then 65536 else 16384) ≤ (s.m.stk k).seqs.length
      let st := if s.m.detachedId k q then 0x0064 else if (s.m.twinState k ≠ 0 ∧ s.m.ownId k q = false) ∨ (s.m.twin k).held.contains q = true ∨ s.m.servedId k q = true then 0x0062
        else if (s.m.seq k q).isSome then 0x0036 else if full then 0x0008 else 0
      (st ≠ 0 → Lands .seqCreate s (fun t => Completes s t r st)) ∧
      (st = 0 → (s.m.journals k = false → Lands .seqCreate s (fun t => Completes s t r 0 [] (cabFields s.m k c)
          (fun m => m.updStk k (fun w => { w with seqs := SMap.put w.seqs q x })))) ∧
        ends .seqCreate 0 (fun m => m.seq k q = some x ∧ others m q))) ∧
    (∀ (i : Instr) (op : Nat), (i, op) ∈ [(Instr.seqFork, 0x0302), (.seqFree, 0x0303), (.seqTrunc, 0x0304), (.seqPriority, 0x0305)] → Served s op r →
      (op = 0x0302 → r.payload.length = 8) → (op = 0x0303 → r.payload.length = 4 ∧ r.arg 2 1 ≤ 1 ∧ r.arg 3 1 = 0) → (op = 0x0304 → r.payload.length = 8 ∧ r.arg 2 2 = 0) →
      (op = 0x0305 → r.payload.length = 4 ∧ r.arg 2 1 ≤ 3 ∧ r.arg 3 1 ≤ 1) →
      let away : Bool := s.m.detachedId k q || (decide (op = 0x0302) && s.m.detachedId k (r.arg 2 2))
      (away = true → Lands i s (fun t => Completes s t r 0x0064)) ∧
      (away = false → s.m.planRunning k = true → Lands i s (fun t => Completes s t r 0x0010)) ∧
      (away = false → s.m.planRunning k = false → s.m.cabHeld k (cabOf (if op = 0x0302 then r.arg 2 2 else q)) = true →
        op = 0x0302 ∨ op = 0x0304 ∨ ((s.m.seq k q).isSome = true ∧ (s.m.twin k).held.contains q = false) → Lands i s (fun t => t = s)) ∧
      (away = false → s.m.planRunning k = false → s.m.cabHeld k (cabOf (if op = 0x0302 then r.arg 2 2 else q)) = false →
        (op = 0x0302 → let d := r.arg 2 2
          let len := r.arg 4 4
          (s.m.seq k q = none ∨ s.m.seq k d = none → ends i 0x34 (fun m => ∀ p, m.seq k p = s.m.seq k p)) ∧
          (∀ x y, s.m.seq k q = some x → s.m.seq k d = some y →
            let fits : Prop := q / 32768 = d / 32768 ∧ y.length = 0 ∧ y.fmt = x.fmt ∧ y.hd = x.hd ∧ y.streams = x.streams
            let l := x.map.filter (fun e => decide (e.1 / x.streams * kvPositions x.fmt x.hd < len))
            (¬fits → ends i 0x34 (fun m => ∀ p, m.seq k p = s.m.seq k p)) ∧
            (fits → x.length < len → ends i 0x33 (fun m => ∀ p, m.seq k p = s.m.seq k p)) ∧
            (fits → len ≤ x.length → l = [] → ends i 0 (fun m => m.seq k d = some { y with length := len } ∧ others m d)) ∧
            (fits → len ≤ x.length → (x.map.map (·.1)).Nodup → (s.m.fork k c q d len x y).2 = 0 → ends i 0 (fun m => others m d ∧
              ∃ z, m.seq k d = some z ∧ z.length = len ∧ ∀ e ∈ l, SMap.find z.map e.1 = some e.2)))) ∧
        (op = 0x0303 →
          ((s.m.twin k).held.contains q = true → Lands i s (fun t => Completes s t r 0 [] [] (fun m => m.updTwin k (fun w => { w with held := w.held.filter (· ≠ q) })))) ∧
          ((s.m.twin k).held.contains q = false → s.m.seq k q = none → Lands i s (fun t => Completes s t r 0x34)) ∧
          (∀ x, (s.m.twin k).held.contains q = false → s.m.seq k q = some x → ends i 0 (fun m => others m q ∧
            if r.arg 2 1 = 1 then ∃ y, m.seq k q = some y ∧ y.length = 0 ∧ y.map = [] ∧ y.exhausted = false ∧ y.tag = x.tag else m.seq k q = none))) ∧
        (op = 0x0304 → let len := r.arg 4 4
          (s.m.seq k q = none → ends i 0x34 (fun m => ∀ p, m.seq k p = s.m.seq k p)) ∧
          (∀ x, s.m.seq k q = some x →
            (x.length < len → ends i 0x33 (fun m => m.seq k q = some { x with lastFail := 0x33 } ∧ others m q)) ∧
            (len ≤ x.length → ends i 0 (fun m => others m q ∧ ∃ y, m.seq k q = some y ∧ y.length = len ∧ y.exhausted = false ∧
              y.map = x.map.filter (fun e => !decide (len ≤ e.1 / x.streams * kvPositions x.fmt x.hd)))))) ∧
        (op = 0x0305 →
          (s.m.seq k q = none → Lands i s (fun t => Completes s t r 0x34)) ∧
          (∀ x, s.m.seq k q = some x → ends i 0 (fun m => m.seq k q = some { x with cls := r.arg 2 1, pinned := decide (r.arg 3 1 = 1) } ∧ others m q ∧
            ∀ e ∈ x.map, ∀ p, s.m.page k c e.2 = some p → ∃ p', m.page k c e.2 = some p' ∧ p'.cls = max p.cls (r.arg 2 1) ∧ p'.refs = p.refs))))) ∧
    (Served s 0x0307 r → r.payload.length = 32 → r.arg 0 1 ≤ 1 → r.arg 1 1 ≤ 1 → r.arg 7 1 < 16 → r.arg 28 1 < 16 → r.arg 29 3 = 0 → 1 ≤ r.arg 6 1 →
      let h := r.arg 0 1
      let p : PoolSet := { frames := r.arg 2 2, blocks := r.arg 4 2, intake := r.arg 6 1, base := r.arg 8 8, slots := r.arg 24 4, chest := r.arg 1 1 = 1
                           lpBase := r.arg 16 8, spill := r.arg 7 1, drop := r.arg 28 1 }
      let st := if s.m.planOn k then 0x0010 else if !s.m.chestOk k p then 0x0008 else if !s.m.poolOk k h p then 0x0003 else 0
      Lands .kvPoolCfg s (fun t => Completes s t r st [] (if st = 0 then poolFields k h p ++ cabFields t.m k h else []))) ∧
    (Served s 0x0403 r → r.payload.length = 2 → let w := r.arg 0 1
      let e := r.arg 1 1
      (s.m.partOk k w e = true → Lands .partSet s (fun t => Defers s t r [(k, Reg.CDIE_PART_CFG_CACHE, 0, w), (k, Reg.CDIE_PART_CFG_CACHE, 1, e),
        (k, Reg.CDIE_PART_STATUS_BUSY, 0, 1), (k, Reg.CDIE_PART_STATUS_BUSY, 1, 1)] (fun m => m.updCache k (fun x => { x with change := some (w, e) })))) ∧
      (s.m.partOk k w e = false → Lands .partSet s (fun t => Completes s t r 0x0053 [] [(k, Reg.CDIE_PART_STATUS_REFUSED, 0, 1), (k, Reg.CDIE_PART_STATUS_REFUSED, 1, 1)]))) ∧
    (Served s 0x0401 r → r.payload.length = 24 → r.arg 0 1 < 64 → r.arg 1 7 = 0 → r.arg 8 8 % 128 = 0 → r.arg 16 8 % 128 = 0 → 0 < r.arg 16 8 →
      let x : Shelf := ⟨r.arg 0 1, r.arg 8 8, r.arg 16 8⟩
      let st := s.m.shelfStatus k x
      (st ≠ 0 → Lands .shelfPin s (fun t => Completes s t r st)) ∧
      (st = 0 → Lands .shelfPin s (fun t => Defers s t r [] (fun m => m.updCache k (fun w => { w with shelves := w.shelves ++ [x], pinning := w.pinning ++ [x.id] }))))) ∧
    (Served s 0x0402 r → r.payload.length = 1 → let l := (s.m.stk k).cache.shelves
      (l.find? (fun x => x.id = r.arg 0 1) = none → Lands .shelfUnpin s (fun t => Completes s t r 0x0052)) ∧
      (∀ x, l.find? (fun x => x.id = r.arg 0 1) = some x →
        (∀ d, s.m.host.deferred.find? (fun d => d.opcode = 0x0401 && d.stack = k && d.arg 0 1 = x.id) = some d → Lands .shelfUnpin s (fun t =>
          Completes s t r 0x0007 (leBytes 1 d.owner))) ∧
        (s.m.host.deferred.find? (fun d => d.opcode = 0x0401 && d.stack = k && d.arg 0 1 = x.id) = none → Lands .shelfUnpin s (fun t =>
          Completes s t r 0 [] ((List.range 2).map (fun h => (k, Reg.CDIE_PART_STATUS_PINNED_LINES, h, t.m.getF k Reg.CDIE_PART_STATUS_PINNED_LINES h)))
            (fun m => m.updCache k (fun w => { w with lines := (t.m.stk k).cache.lines, shelves := w.shelves.filter (fun y => y.id ≠ x.id) })) ∧
          ∀ L ∈ x.lineList, ∀ w, t.m.cline k L = some w → w.pinned = false)))) ∧
    (Served s 0x0501 r → r.payload.length = 16 → r.arg 0 8 < 2 ^ 52 → daStack (r.arg 0 8) = k → daRegion (r.arg 0 8) = 0 → r.arg 0 8 % 128 = 0 → r.arg 8 8 % 128 = 0 →
      daOff (r.arg 0 8) + r.arg 8 8 ≤ 0x6C00_0000 → Lands .scrubRange s (fun t =>
        Defers s t r ((List.range 2).map (fun h => (k, Reg.CDIE_SCRUB_STATUS_RANGE_ACTIVE, h, (t.m.served k h).isSome.toNat)))
          (fun m => m.updInteg k (fun g => { g with scrubs := g.scrubs ++ [{ mbox := some r.mbox, start := daOff (r.arg 0 8), len := r.arg 8 8 }] }))))

/-- Plans are loaded, started and aborted, and route tables written, by their commands (R13, R45, R50, R76, R350, R352, R354, R422, R482, R531,
spec/02_execution_model.md). A command at the front, of stacks that are ready, with arguments in range. PLAN_LOAD of a stack that is busy completes
with PLAN_BUSY, of an image that fails a check of Table EX-9 with the first failing one. It waits while the image is held, and asks for the wake of
each core of its directory that is not in Run. Else, when each valid route that the plan uses still has a link, every stack that it acts on holds its
plan: LOADED, phase 0, its id, the SDID locked, the licences of the moment; the response is the id. PLAN_START of a plan that is loaded puts it in
RUNNING on each stack addressed; of one that runs PLAN_BUSY, of none PLAN_NOT_LOADED. PLAN_ABORT ends the plan on every stack with HOST_ABORT.
ROUTE_LOAD, with no plan on, writes its entries; the others stay, or are cleared where the table was another plan's; the table is LOADED with its
count of valid entries; a route whose HOP is down uses ALT when that is UP. -/
def Obligations.PlanCommandsAndRouteLoad : Prop :=
  ∀ (s : State) (r : MbxReq), let n := s.fuse.part.stackCount
    (Served s 0x0201 r → r.payload.length = 16 → r.arg 8 8 ≤ 2 ^ 28 → r.arg 8 8 % 256 = 0 → s.m.imageThere n (r.arg 0 8) (r.arg 8 8) = true →
      let a := r.arg 0 8
      let size := r.arg 8 8
      let l := loadStacks r n (PByte.vals (s.m.homeBytes a 0x100))
      let rd := s.m.performRead false a size
      let b := PByte.vals rd.2
      let pl := planOf b
      let st := rd.1.imageStatus n b size l
      let asleep := rd.1.stoppedCores l pl
      let texts := (pl.cores.filter (fun c => l.contains c.stack)).map (fun c => (rd.1.textHome c, c.textSize))
      ((∃ k ∈ l, s.m.loadBusy k = true) → Lands .planLoad s (fun t => Completes s t r 0x0010)) ∧
      ((∀ k ∈ l, s.m.loadBusy k = false) →
        (s.m.accessHeld false a size = true → Lands .planLoad s (fun t => t = s)) ∧
        (s.m.accessHeld false a size = false →
          (st ≠ 0 → Lands .planLoad s (fun t => ∃ m, Ends { s with m := rd.1 } { s with m := m } [] ∧ Completed s t r st [] m)) ∧
          (st = 0 →
            (asleep ≠ [] → Lands .planLoad s (fun t => t.fuse = s.fuse ∧ t.pending = s.pending ∧ t.m.host.mbxQueue = s.m.host.mbxQueue ∧ t.m.tier = s.m.tier ∧
              ∀ e ∈ asleep, s.m.getF e.1 Reg.CORE_POWER_STATE e.2 = 0 → e.2 ∈ (t.m.pw e.1).toWake)) ∧
            (asleep = [] → rd.1.anyHeld texts = true → Lands .planLoad s (fun t => t = s)) ∧
            (asleep = [] → rd.1.anyHeld texts = false →
              (∀ k ∈ l, ∀ e ∈ pl.routes, e.route < 16384 → s.m.getB k Reg.LNK_ROUTE_VALID e.route = true → s.m.getF k Reg.LNK_ROUTE_HOP e.route = 0x1F ∨
                s.m.linkGoes k (s.m.getF k Reg.LNK_ROUTE_HOP e.route) = true ∨ s.m.linkGoes k (s.m.getF k Reg.LNK_ROUTE_ALT e.route) = true) →
              Lands .planLoad s (fun t => ∃ m, Completed s t r 0 (leBytes 8 pl.id) m ∧ ∀ k ∈ l,
              m.getF k Reg.BUR_PLAN_STATE_STATE = 1 ∧ m.getF k Reg.BUR_PLAN_STATE_PHASE = 0 ∧ m.getF k Reg.BUR_PLAN_ID_PLAN_ID = pl.id % 2 ^ 64 ∧
              m.getF k Reg.LNK_SDID_LOCKED = 1 ∧ (m.stk k).plan.plan = pl.forStack k ∧ (m.stk k).plan.features = s.m.getF k Reg.LIC_STATUS_FEATURES)))))) ∧
    (Served s 0x0202 r → r.payload.length = 8 →
      let l := s.m.planStacks r n (fun k => s.m.planOn k && !s.m.planRunning k) false
      let spans := l.flatMap (fun k => ((s.m.plan k).cores.filter (fun c => c.stack = k)).flatMap (fun c =>
        [(s.m.textHome c, c.textSize), (localAddr k (s.m.homeOfIndex k c.index) c.loadAddr, c.textSize)]))
      (l = [] → Lands .planStart s (fun t => Completes s t r (if s.m.planStacks r n s.m.planRunning false = [] then 0x0017 else 0x0010))) ∧
      (l ≠ [] → s.m.anyHeld spans = true → Lands .planStart s (fun t => t = s)) ∧
      (l ≠ [] → s.m.anyHeld spans = false → Lands .planStart s (fun t => ∃ m, Completed s t r 0 [] m ∧ ∀ k ∈ l, m.getF k Reg.BUR_PLAN_STATE_STATE = 2))) ∧
    (Served s 0x0203 r → r.payload.length = 8 → let l := s.m.planStacks r n s.m.planOn true
      (l = [] → Lands .planAbort s (fun t => Completes s t r 0x0017)) ∧
      (l ≠ [] → Lands .planAbort s (fun t => ∃ m, Completed s t r 0 [] m ∧ ∀ k, k < 4 → s.m.planOn k = true →
        m.getF k Reg.BUR_PLAN_STATE_STATE = 4 ∧ (m.stk k).plan.endStatus = 0x0020))) ∧
    (Served s 0x0205 r → 1 ≤ r.arg 10 2 → r.arg 10 2 ≤ 500 → r.payload.length = 16 + 8 * r.arg 10 2 → r.arg 12 4 = 0 → r.arg 8 2 + r.arg 10 2 ≤ 16384 →
      (∀ e ∈ routeEntries r, lk6Ok e.2 = true) →
      let k := r.stack
      let first := r.arg 8 2
      let same : Prop := (s.m.stk k).link.tablePlan = some (r.arg 0 8)
      (s.m.planOn k = true → Lands .routeLoad s (fun t => Completes s t r 0x0010)) ∧
      (s.m.planOn k = false → Lands .routeLoad s (fun t => ∃ m, Completed s t r 0 [] m ∧ m.getF k Reg.LNK_ROUTE_STATUS_LOADED = 1 ∧
        m.getF k Reg.LNK_ROUTE_STATUS_ENTRIES = ((List.range 16384).filter (fun i => m.getB k Reg.LNK_ROUTE_VALID i)).length % 2 ^ Reg.LNK_ROUTE_STATUS_ENTRIES.width ∧
        (m.stk k).link.tablePlan = some (r.arg 0 8) ∧ (∀ i, i ∈ (m.stk k).link.onAlt ↔ i < 16384 ∧ m.getB k Reg.LNK_ROUTE_VALID i = true ∧ m.getF k Reg.LNK_ROUTE_HOP i ≠ 0x1F ∧
          s.m.linkGoes k (m.getF k Reg.LNK_ROUTE_HOP i) = false ∧ m.getF k Reg.LNK_ROUTE_ALT i < 24 ∧ s.m.linkUp k (m.getF k Reg.LNK_ROUTE_ALT i) = true) ∧
        (m.stk k).link.failed = [] ∧ m.mem = s.m.mem ∧ m.tier = s.m.tier ∧
        ∀ i, i < 16384 → ∀ f ∈ Reg.LNK_ROUTE_fields,
          (first ≤ i → i < first + r.arg 10 2 → m.getF k f i = bits (r.arg (16 + 8 * (i - first)) 8) f.lo f.width) ∧
          (i < first ∨ first + r.arg 10 2 ≤ i → (same → m.getF k f i = s.m.getF k f i) ∧ (¬same → m.getF k f i = f.resetAt k i)))))

/-- Pairs begin, end, detach, rejoin and take over by command; pattern tests and margin scans claim their link and start (R358, R359, R360, R365,
R370, R371, R373, R375, R376, R421, R448, R450). A command at the front, of a stack that is ready, with arguments in range. TWIN_PAIR of a stack that
pairs or is paired is held, with a failing check of R365 completes with it, else the stack is PAIRING, or paired at once when the twin's hello has
come. PAIR_TIMEOUT completes it with PAIR_TIMEOUT and what was before. TWIN_UNPAIR of a paired or lost pair, or of a twin served no more, leaves
UNPAIRED with nothing of it, unless the twin says that it serves or rejoins; twin links without a licence are then held in reset; TWIN_DETACH closes a
final epoch and is DETACHED; TWIN_REJOIN of a stack that is REJOINING waits for the twin's; TWIN_TAKEOVER after a heartbeat loss serves the twin's
LIVE ids; each completes with the status of R371 to R376 in another state. TWIN_JOURNAL_READ answers the bytes of the mirror. LINK_TEST and
LINK_MARGIN of lanes that are free claim the pattern unit and start the test or scan; without licence, lanes or claim they complete with the status of
it. -/
def Obligations.TwinAndLinkCommands : Prop :=
  ∀ (s : State) (r : MbxReq), let n := s.fuse.part.stackCount
    let k := r.stack
    let w := s.m.twin k
    let st := s.m.twinState k
    let busy (op : Nat) : List Byte := leBytes 1 (((s.m.deferredOn op k).map MbxReq.owner).getD 0x03)
    (Served s 0x0601 r → r.payload.length = 16 → r.arg 2 1 < 24 → r.arg 3 1 < 24 → r.arg 2 1 ≠ r.arg 3 1 → r.arg 4 1 ≤ 1 → r.arg 5 3 = 0 → r.arg 8 8 % 0x1_0000 = 0 →
      let twin := r.arg 0 2
      let chk := Mach.pairStatus s.fuse s.m k r
      (st = 1 ∨ st = 2 ∨ st = 6 → Lands .twinPair s (fun t => Completes s t r 0x0007 (busy 0x0601))) ∧
      (st = 0 ∨ st = 3 ∨ st = 4 ∨ st = 5 →
        (chk ≠ 0 → chk ≠ 0x0062 → Lands .twinPair s (fun t => Completes s t r chk)) ∧
        (chk = 0x0062 → Lands .twinPair s (fun t => Completes s t r chk [] [] (fun m => m.updLinks k (fun _ => (t.m.stk k).link)))) ∧
        (chk = 0 →
          (w.hello = none → Lands .twinPair s (fun t => ∃ m : Mach, t = { s with m := m.popReq n } ∧ m.host.deferred = s.m.host.deferred ++ [r] ∧ m.twinState k = 1 ∧
            m.getF k Reg.LNK_TWIN_CFG_TWIN_SDID = twin % 2 ^ 16 ∧ m.getF k Reg.LNK_TWIN_CFG_LINK_A = min (r.arg 2 1) (r.arg 3 1) ∧
            m.getF k Reg.LNK_TWIN_CFG_LINK_B = max (r.arg 2 1) (r.arg 3 1) ∧ m.getF k Reg.LNK_TWIN_CFG_AUTO_TAKEOVER = r.arg 4 1 ∧
            m.getF k Reg.LNK_TWIN_CFG_LOWER = (decide (s.m.sdid k < twin)).toNat ∧ (m.twin k).base = r.arg 8 8 ∧ m.mem = s.m.mem ∧ m.tier = s.m.tier)) ∧
          (∀ x, w.hello = some x → bits x 0 16 = twin → bits x 16 16 = s.m.sdid k → bit x 33 = false → bit x 32 = false → w.serving = false → Lands .twinPair s (fun t =>
            t.fuse = s.fuse ∧ t.pending = s.pending ∧ t.m.twinState k = 2 ∧ (w.held = [] → (s.m.stk k).seqs = [] → (t.m.twin k).epoch = 1) ∧ (t.m.twin k).base = r.arg 8 8))))) ∧
    (s.m.host.deferred.find? (fun x => x.opcode = 0x0601) = none → Lands .pairTimeout s (fun t => t = s)) ∧
    (∀ x, s.m.host.deferred.find? (fun x => x.opcode = 0x0601) = some x → x.stack < 4 → Lands .pairTimeout s (fun t => t.fuse = s.fuse ∧ t.pending = s.pending ∧
      t.m.host.deferred = s.m.host.deferred.erase x ∧ t.m.getF 0 Reg.MBX_STATUS_DONE x.mbox = 1 ∧ t.m.getF 0 Reg.MBX_STATUS_BUSY x.mbox = 0 ∧
      let b := (s.m.twin x.stack).before
      t.m.twin x.stack = { s.m.twin x.stack with before := [], hello := none, base := if b = [] then (s.m.twin x.stack).base else b.getD 6 0 } ∧
      (b ≠ [] → t.m.twinState x.stack = b.getD 0 0 % 8 ∧ t.m.getF x.stack Reg.LNK_TWIN_CFG_TWIN_SDID = b.getD 1 0 % 2 ^ 16))) ∧
    (Served s 0x0602 r → r.payload = [] →
      (st = 0 → Lands .twinUnpair s (fun t => Completes s t r 0x0065)) ∧ (st = 1 → Lands .twinUnpair s (fun t => Completes s t r 0x0007 (busy 0x0601))) ∧
      (st = 5 ∨ st = 6 ∨ (st = 4 ∧ s.m.servesAny k = true) ∨ ((2 ≤ st ∧ st ≤ 4) ∧ (w.theirs = 4 ∨ w.theirs = 6)) → Lands .twinUnpair s (fun t => Completes s t r 0x0010)) ∧
      (st = 2 ∨ st = 3 ∨ (st = 4 ∧ s.m.servesAny k = false) → w.theirs ≠ 4 → w.theirs ≠ 6 → bit (s.m.features k) 0 = false → Lands .twinUnpair s (fun t =>
        t.fuse = s.fuse ∧ t.pending = s.pending ∧ t.m.twinState k = 0 ∧ ∀ i, 8 ≤ i → i < 24 → t.m.getF k Reg.LNK_STATUS_STATE i = 0)) ∧
      (st = 2 ∨ st = 3 ∨ (st = 4 ∧ s.m.servesAny k = false) → w.theirs ≠ 4 → w.theirs ≠ 6 → bit (s.m.features k) 0 = true → Lands .twinUnpair s (fun t => Completes s t r 0 [] [(k, Reg.LNK_TWIN_STATUS_STATE, 0, 0), (k, Reg.LNK_TWIN_CFG_TWIN_SDID, 0, 0xFFFF),
        (k, Reg.LNK_TWIN_CFG_LOWER, 0, 0)] (fun m => m.updLinks k (fun _ => (t.m.stk k).link)) ∧ t.m.twin k = {}))) ∧
    (Served s 0x0603 r → r.payload = [] →
      (st = 0 ∨ st = 4 → Lands .twinDetach s (fun t => Completes s t r 0x0065)) ∧ (st = 5 → Lands .twinDetach s (fun t => Completes s t r 0x0064)) ∧
      (st = 1 → Lands .twinDetach s (fun t => Completes s t r 0x0007 (busy 0x0601))) ∧
      (st = 2 ∨ st = 3 ∨ st = 6 → s.m.planOn k = true → Lands .twinDetach s (fun t => Completes s t r 0x0010)) ∧
      (st = 3 → s.m.planOn k = false → Lands .twinDetach s (fun t => ∃ m, Completed s t r 0 (leBytes 4 ((w.epoch + 2 ^ 32 - 1) % 2 ^ 32)) m ∧ m.twinState k = 5 ∧ m.mem = s.m.mem)) ∧
      (st = 2 ∨ st = 6 → s.m.planOn k = false → Lands .twinDetach s (fun t => ∃ m, Completed s t r 0 (leBytes 4 (w.epoch % 2 ^ 32)) m ∧ m.twinState k = 5))) ∧
    (Served s 0x0604 r → r.payload = [] →
      (st ≠ 6 → Lands .twinRejoin s (fun t => Completes s t r 0x0065)) ∧
      (st = 6 → s.m.planOn k = true → Lands .twinRejoin s (fun t => Completes s t r 0x0010)) ∧
      (st = 6 → s.m.planOn k = false → s.m.deferredOn 0x0604 k ≠ none → Lands .twinRejoin s (fun t => Completes s t r 0x0007 (busy 0x0604))) ∧
      (st = 6 → s.m.planOn k = false → s.m.deferredOn 0x0604 k = none → w.rejoinYou = false ∨ w.serving = false → Lands .twinRejoin s (fun t =>
        ∃ m : Mach, t = { s with m := m.popReq n } ∧ m.host.deferred = s.m.host.deferred ++ [r] ∧ m.twinState k = 6 ∧ (m.twin k).rejoinMe = true))) ∧
    (Served s 0x0605 r → r.payload = [] →
      (st ≠ 3 → Lands .twinTakeover s (fun t => Completes s t r 0x0065)) ∧
      (st = 3 → s.m.deferredOn 0x0604 k = none → let ids := (List.range 65536).filter (fun q => w.held.contains q || (s.m.mirrorLive k q && (s.m.seq k q).isNone))
        Lands .twinTakeover s (fun t => Completes s t r 0 (leBytes 4 (s.m.getF k Reg.LNK_TWIN_STATUS_EPOCH) ++ leBytes 4 ids.length) [(k, Reg.LNK_TWIN_STATUS_STATE, 0, 4)]
          (fun m => m.updTwin k (fun _ => { w with logGot := [], close := none, held := ids, serving := true, surprise := true, rejoinMe := false, rejoinYou := false }))))) ∧
    (Served s 0x0606 r → r.payload.length = 6 → r.arg 0 1 ≤ 1 → r.arg 1 1 = 0 → 1 ≤ r.arg 4 2 → r.arg 4 2 ≤ 250 → r.arg 2 2 + r.arg 4 2 ≤ (if r.arg 0 1 = 0 then 8192 else 832) →
      let a := devAddr k 4 (w.base + (if r.arg 0 1 = 0 then 0x1000 else 0x2_1000) + 16 * r.arg 2 2)
      let rd := s.m.performRead false a (16 * r.arg 4 2)
      (st = 0 → Lands .twinJournalRead s (fun t => Completes s t r 0x0065)) ∧
      (st ≠ 0 → s.m.accessHeld false a (16 * r.arg 4 2) = true → Lands .twinJournalRead s (fun t => t = s)) ∧
      (st ≠ 0 → s.m.accessHeld false a (16 * r.arg 4 2) = false → Lands .twinJournalRead s (fun t => Completed s t r 0 (PByte.vals rd.2) rd.1))) ∧
    (Served s 0x0901 r → r.payload.length = 8 → r.arg 0 1 < 24 → r.arg 1 1 ≤ 7 → 1 ≤ r.arg 2 2 → r.arg 2 2 < 512 → 1 ≤ r.arg 4 4 → r.arg 4 4 ≤ 60000 →
      let l := r.arg 0 1
      let lanes := r.arg 2 2
      let claim := s.m.claimKind k l r.owner 3
      let others := s.m.host.deferred.any (fun d => d.opcode = 0x0901 && onLink k l d)
      let own := leBytes 1 (s.m.getF k Reg.REG_OWNER_OWNER l)
      (s.m.linkHeld k l = true → Lands .linkTest s (fun t => Completes s t r 0x0008)) ∧
      (s.m.linkHeld k l = false →
        (s.m.lanesFree k l lanes = false → Lands .linkTest s (fun t => Completes s t r 0x0003)) ∧
        (s.m.lanesFree k l lanes = true →
          (others = true → Lands .linkTest s (fun t => Completes s t r 0x0007 own)) ∧
          (others = false →
            (claim = .refused → Lands .linkTest s (fun t => Completes s t r 0x0007 own [up s k Reg.REG_OWNER_REFUSED l])) ∧
            (claim ≠ .refused → bit lanes 8 = false → Lands .linkTest s (fun t => Defers s t r ([(k, Reg.REG_OWNER_OWNER, l, r.owner), (k, Reg.REG_OWNER_CLASS, l, 3),
              (k, Reg.LNK_PAT_CFG_OWNER, l, r.owner), (k, Reg.LNK_PAT_CFG_PATTERN, l, r.arg 1 1), (k, Reg.LNK_PAT_CFG_LANES, l, lanes), (k, Reg.LNK_PAT_CFG_GEN, l, 1),
              (k, Reg.LNK_PAT_CFG_CHECK, l, 1)] ++ if claim = .preempted then [up s k Reg.REG_OWNER_PREEMPTED l] else []))))))) ∧
    (Served s 0x0902 r → r.payload.length = 2 → r.arg 0 1 < 24 → r.arg 1 1 ≤ 8 →
      let l := r.arg 0 1
      let lane := r.arg 1 1
      let claim := s.m.claimKind k l r.owner 3
      let own := leBytes 1 (s.m.getF k Reg.REG_OWNER_OWNER l)
      (s.m.linkHeld k l = true → Lands .linkMargin s (fun t => Completes s t r 0x0008)) ∧
      (s.m.linkHeld k l = false →
        (s.m.lanesFree k l (2 ^ lane) = false → Lands .linkMargin s (fun t => Completes s t r 0x0003)) ∧
        (s.m.lanesFree k l (2 ^ lane) = true →
          ((s.m.lnk k l).scan ≠ none → Lands .linkMargin s (fun t => Completes s t r 0x0007 own)) ∧
          ((s.m.lnk k l).scan = none →
            (claim = .refused → Lands .linkMargin s (fun t => Completes s t r 0x0007 own [up s k Reg.REG_OWNER_REFUSED l])) ∧
            (claim ≠ .refused → lane < 8 → Lands .linkMargin s (fun t => Defers s t r ([(k, Reg.REG_OWNER_OWNER, l, r.owner), (k, Reg.REG_OWNER_CLASS, l, 3),
              (k, Reg.LNK_PAT_CFG_OWNER, l, r.owner), (k, Reg.LNK_MARGIN_DONE, l, 0), (k, Reg.LNK_MARGIN_ABORTED, l, 0), (k, Reg.LNK_MARGIN_LANE, l, lane)] ++
                if claim = .preempted then [up s k Reg.REG_OWNER_PREEMPTED l] else []) (fun m => m.updLnk k l (fun x => { x with scan := some lane }))))))))

/-- An event goes to its vector through the ring, the queue of 1,024, or the lost count, and to the error log; room takes one EVENT_LOST first (R424).
Any event. It is the newest entry of the error log. With room in the ring, nothing queued and nothing lost it lies at index HEAD mod 4,096 as its 64
bytes, HEAD is one higher, and its vector, 64 unless EVENT_BIND has bound its code, is sent or pends; EVENT_BIND binds it. Otherwise it is queued
while fewer than 1,024 are; beyond that it is dropped, LOST counts it and OVERFLOW is set; the ring is unchanged. When MBX_EVT_TAIL moves and makes
room after events were lost, the entry written first, at HEAD, is EVENT_LOST with the number lost, the newest of the error log too. -/
def Obligations.EventsReachTheRingTheQueueOrTheLostCount : Prop :=
  (∀ (m : Mach) (v : Fin 4) (tag code st : Nat) (args : List Nat), let t := m.eventAs v tag code args st
    let e : Event := ⟨code, st, tag, args, m.now v⟩
    let h := m.getF 0 Reg.MBX_EVT_HEAD_HEAD
    let room : Prop := m.ringUsed < 4096 ∧ m.host.evQueue = [] ∧ m.host.evLost = 0
    (∃ x r, (t.stk v).bureau.errLog = x :: r ∧ x.detail = code :: args ∧ x.code = st ∧ x.stack = v ∧ x.time = m.now v) ∧
    (room → m.host.bar2.wf = true →
      (∀ a, t.host.bar2.byte a = if 0x8_0000 + h % 4096 * 64 ≤ a ∧ a < 0x8_0000 + h % 4096 * 64 + 64 then
        (eventBytes e m.host.evSerial).getD (a - (0x8_0000 + h % 4096 * 64)) 0 else m.host.bar2.byte a) ∧
      t.getF 0 Reg.MBX_EVT_HEAD_HEAD = (h + 1) % 2 ^ 32 ∧ t.host.evQueue = [] ∧
      let vec := (SMap.find m.host.evBind code).getD 64
      (vec ∈ t.host.msixSent ∨ vec ∈ t.host.msixPend)) ∧
    (¬room → t.host.bar2 = m.host.bar2 ∧ t.getF 0 Reg.MBX_EVT_HEAD_HEAD = h ∧
      (m.host.evQueue.length < 1024 → t.host.evQueue = m.host.evQueue ++ [e] ∧ t.host.evLost = m.host.evLost) ∧
      (1024 ≤ m.host.evQueue.length → t.host.evQueue = m.host.evQueue ∧ t.host.evLost = m.host.evLost + 1 ∧ t.getF 0 Reg.MBX_EVT_STATUS_OVERFLOW = 1 ∧
        t.getF 0 Reg.MBX_EVT_STATUS_LOST = satAdd Reg.MBX_EVT_STATUS_LOST.width (m.getF 0 Reg.MBX_EVT_STATUS_LOST) 1))) ∧
  (∀ (s : State) (r : MbxReq), Served s 0x0A02 r → r.payload.length = 4 → 1 ≤ r.arg 0 2 → r.arg 0 2 ≤ 0x13 → 64 ≤ r.arg 2 2 → r.arg 2 2 ≤ 2047 →
    Lands .eventBind s (fun t => ∀ c, SMap.find t.m.host.evBind c = if c = r.arg 0 2 then some (r.arg 2 2) else SMap.find s.m.host.evBind c)) ∧
  (∀ (s : State) (w : RegW), s.m.bar2Open = true → w.half ≠ .hi → s.m.host.bar2.wf = true → 0 < s.m.host.evLost →
    let v := bits (regData w) 0 32
    let h := s.m.getF 0 Reg.MBX_EVT_HEAD_HEAD
    h < 2 ^ 32 → s.m.getF 0 Reg.MBX_EVT_TAIL_TAIL < 2 ^ 32 → (v + 2 ^ 32 - s.m.getF 0 Reg.MBX_EVT_TAIL_TAIL) % 2 ^ 32 ≤ s.m.ringUsed → (h + 2 ^ 32 - v) % 2 ^ 32 < 4096 →
    Lands (.mbxEvtTail ⟨w, true⟩) s (fun t => t.m.host.evLost = 0 ∧ Told t 0 0x13 [s.m.host.evLost] ∧ ∀ i, i < 64 →
      t.m.host.bar2.byte (0x8_0000 + h % 4096 * 64 + i) = (eventBytes ⟨0x13, 0, 0, [s.m.host.evLost], s.m.now 0⟩ s.m.host.evSerial).getD i 0))

/-- A step takes the command at the front of the queue and runs it on the machine with the queue's rest (spec/00_scope.md). For every state whose
queue has command c at its front, step answers what exec answers for c on that state with the queue's rest. The queue is the model's own form for a
block (log entry 2). -/
def Obligations.StepRunsTheFrontCommand : Prop :=
  ∀ (s : State) (c : Instr) (rest : List Instr), s.pending = c :: rest → step s = exec c { s with pending := rest }

/-- The model's choice (log entry 2): a step with no command waiting is one 10 ns period, which moves the RTC and the timestamps alone (R490, R513,
R533). For every state with an empty queue. While VDD_AON is absent nothing changes. Else the RTC is 10 ns on, SECONDS of every stack follows it, and
every timestamp is 10 on, but while a reset pin holds the part, in device Stop, and in a wake before the Bureau leaves reset, where it is frozen.
Nothing else changes. That such a period passes when no command waits is the model's choice. -/
def Obligations.IdleStepTicksTheClocks : Prop :=
  ∀ s : State, s.pending = [] →
    (s.m.boot.aon = false → step s = .next s) ∧
    (s.m.boot.aon = true → ∃ t, step s = .next t ∧
      let runs : Prop := s.m.boot.perst = false ∧ s.m.boot.pwrGood = true ∧ s.m.getF 0 Reg.AON_WAKE_STATUS_STATE ≠ 2 ∧ ¬(s.m.boot.start = some .wake ∧ s.m.boot.wakeStep < 4)
      let secs : List FieldVal := (List.range s.fuse.part.stackCount).map (fun v => (v, Reg.AON_RTC_SECONDS, 0, (s.m.boot.rtc + 10) / 10 ^ 9))
      let stamps : List FieldVal := (List.range s.fuse.part.stackCount).map (fun v => (v, Reg.AON_TIMESTAMP_NS, 0, s.m.now v + 10))
      (runs → Sets s t (secs ++ stamps) (fun m => { m with boot := { m.boot with rtc := m.boot.rtc + 10 } })) ∧
      (¬runs → Sets s t secs (fun m => { m with boot := { m.boot with rtc := m.boot.rtc + 10 } })))

/-- No command is refused, none touches the queue or what is fused, and the one fault names a stack that the part does not have (R8, R516,
spec/01_architecture.md). From every state, reached by a run or not, a step answers a next state with the fused facts as before and the queue one
command shorter, or empty as before; or it stops with the fault that names a stack that the part does not have. It refuses nothing. Every command that
is well formed on the part answers a next state. -/
def Obligations.EveryStepCompletesOrNamesAnAbsentStack : Prop :=
  ∀ s : State,
    (match step s with
     | .next t => t.fuse = s.fuse ∧ t.pending = s.pending.tail
     | .fault f => ∃ k, f = .noSuchStack k ∧ s.fuse.part.stackCount ≤ k
     | .refused _ => False) ∧
    ∀ c : Instr, c.wf s.fuse.part.stackCount = true → ∃ t, exec c s = .next t

/-- Every step keeps the canonical form of SRAM, tier, host memory, BAR2 buffers and boot flash (R24, R304, R306, R308, R310, spec/11_integrity.md).
From every state whose memories are in canonical form, that is with addresses strictly rising and no entry that equals what an unlisted address reads
as, of data and of syndromes, a step that answers a next state leaves every memory in canonical form, so that equal memories are equal data. -/
def Obligations.MemoriesStayCanonical : Prop :=
  ∀ s t : State, s.m.canonical = true → step s = .next t → t.m.canonical = true

/-- At reset every field has its reset value, every memory is empty and canonical, the queue is empty, and a cold start stands at stage 0 (R18, R385,
R455, R473, R477, R513, spec/20_register_reference.md). In State.reset no command waits, every field of every register of region 0x8 reads its reset
value, every memory is in canonical form and lists nothing, no core runs, the pins hold no reset, a cold start is under way and BUR_STATUS.SERVICE
reads BOOTING, and some fields have the values of their tables: LDO_SET 50, TARGET 10, LIMIT 188 and THRESHOLD 85 of PWR_REGION_CFG, TWIN_SDID 0xFFFF,
timestamp 0. That memory lists nothing, that is reads 0, is the model's choice where the spec gives no contents. -/
def Obligations.ResetHasTheSpecsValues : Prop :=
  let s := State.reset
  s.pending = [] ∧ (∀ v f j, s.m.getF v f j = f.resetAt v j) ∧ s.m.canonical = true ∧ (∀ a, s.m.mem.byte a = 0 ∧ s.m.tier.byte a = 0 ∧ s.m.hostMem.byte a = 0) ∧
  (∀ v, (s.m.stk v).cores = [] ∧ (s.m.stk v).movers = [] ∧ (s.m.stk v).seqs = []) ∧ s.m.host.mbxQueue = [] ∧ s.m.boot.perst = false ∧ s.m.boot.pwrGood = true ∧
  s.m.boot.start = some .cold ∧
  (∀ v, s.m.getF v Reg.BUR_STATUS_SERVICE = 0 ∧ s.m.getF v Reg.BUR_BOOT_STATUS_STAGE = 0 ∧ s.m.getF v Reg.AON_TIMESTAMP_NS = 0 ∧
    s.m.getF v Reg.LNK_TWIN_CFG_TWIN_SDID = 0xFFFF ∧ s.m.getF v Reg.PWR_AVS_TARGET = 10 ∧ s.m.getF v Reg.PWR_REGION_CFG_LIMIT = 188 ∧
    s.m.getF v Reg.PWR_REGION_CFG_THRESHOLD = 85 ∧ ∀ p, p < 864 → s.m.getF v Reg.CORE_POWER_LDO_SET p = 50 ∧ s.m.getF v Reg.CORE_POWER_STATE p = 0)
end

