-- ==== Sys2Proof/Laws/Maps.lean ====
section
/-! SUPPORT. Sparse maps, the stacks of a part and lists with one element changed: what is read after a write. -/

namespace Sys2Proof.Machine

variable {α : Type}

@[simp] theorem SMap.find_put_same (l : SMap α) (k : Nat) (v : α) : SMap.find (SMap.put l k v) k = some v := by
  induction l with
  | nil => simp [SMap.put, SMap.find]
  | cons e r ih =>
    obtain ⟨j, w⟩ := e
    simp only [SMap.put]
    split
    · simp [SMap.find]
    · split
      · simp [SMap.find]
      · simp [SMap.find, *]

theorem SMap.find_put_ne (l : SMap α) {k j : Nat} (v : α) (h : j ≠ k) : SMap.find (SMap.put l k v) j = SMap.find l j := by
  induction l with
  | nil => simp [SMap.put, SMap.find, Ne.symm h]
  | cons e r ih =>
    obtain ⟨i, w⟩ := e
    simp only [SMap.put]
    split
    · subst_vars; simp [SMap.find, Ne.symm h]
    · split
      · simp [SMap.find, Ne.symm h]
      · simp [SMap.find, ih]

theorem SMap.find_put (l : SMap α) (k j : Nat) (v : α) : SMap.find (SMap.put l k v) j = if j = k then some v else SMap.find l j := by
  split
  · subst_vars; simp
  · exact SMap.find_put_ne l v ‹_›

@[simp] theorem SMap.getD_put_same (l : SMap α) (k : Nat) (v d : α) : SMap.getD (SMap.put l k v) k d = v := by simp [SMap.getD]

theorem SMap.getD_put_ne (l : SMap α) {k j : Nat} (v d : α) (h : j ≠ k) : SMap.getD (SMap.put l k v) j d = SMap.getD l j d := by
  simp [SMap.getD, SMap.find_put_ne l v h]

/-- The last of two writes at one key stands. -/
@[simp] theorem SMap.put_put (l : SMap α) (k : Nat) (u v : α) : SMap.put (SMap.put l k u) k v = SMap.put l k v := by
  induction l with
  | nil => simp [SMap.put]
  | cons e r ih =>
    obtain ⟨j, w⟩ := e
    simp only [SMap.put]
    split
    · simp [SMap.put]
    · split
      · simp [SMap.put]
      · rename_i h1 h2
        simp [SMap.put, h1, h2, ih]

@[simp] theorem SMap.find_erase_same (l : SMap α) (k : Nat) : SMap.find (SMap.erase l k) k = none := by
  induction l with
  | nil => simp [SMap.erase, SMap.find]
  | cons e r ih =>
    obtain ⟨j, w⟩ := e
    by_cases h : j = k
    · subst h; simpa [SMap.erase] using ih
    · simpa [SMap.erase, SMap.find, h] using ih

theorem SMap.find_erase_ne (l : SMap α) {k j : Nat} (h : j ≠ k) : SMap.find (SMap.erase l k) j = SMap.find l j := by
  induction l with
  | nil => simp [SMap.erase, SMap.find]
  | cons e r ih =>
    obtain ⟨i, w⟩ := e
    by_cases hi : i = k
    · subst hi; simpa [SMap.erase, SMap.find, Ne.symm h] using ih
    · by_cases hj : i = j
      · subst hj; simp [SMap.erase, SMap.find, hi]
      · simpa [SMap.erase, SMap.find, hi, hj] using ih

theorem Quad.get_modify_same (x : Quad α) (f : α → α) (d : α) {k : Nat} (h : k < 4) : (x.modify f k).get d k = f (x.get d k) := by
  match k, h with
  | 0, _ | 1, _ | 2, _ | 3, _ => rfl

theorem Quad.get_modify_ne (x : Quad α) (f : α → α) (d : α) {k j : Nat} (h : j ≠ k) : (x.modify f k).get d j = x.get d j := by
  match k, j with
  | 0, 0 | 1, 1 | 2, 2 | 3, 3 => exact absurd rfl h
  | 0, 1 | 0, 2 | 0, 3 | 0, n + 4 | 1, 0 | 1, 2 | 1, 3 | 1, n + 4 | 2, 0 | 2, 1 | 2, 3 | 2, n + 4 | 3, 0 | 3, 1 | 3, 2 | 3, n + 4 => rfl
  | n + 4, _ => rfl

theorem Duo.get_modify_same (x : Duo α) (f : α → α) (d : α) {k : Nat} (h : k < 2) : (x.modify f k).get d k = f (x.get d k) := by
  match k, h with
  | 0, _ | 1, _ => rfl

theorem Duo.get_modify_ne (x : Duo α) (f : α → α) (d : α) {k j : Nat} (h : j ≠ k) : (x.modify f k).get d j = x.get d j := by
  match k, j with
  | 0, 0 | 1, 1 => exact absurd rfl h
  | 0, 1 | 0, n + 2 | 1, 0 | 1, n + 2 => rfl
  | n + 2, _ => rfl

end Sys2Proof.Machine
end

