-- ==== Sys2Proof/Laws/State.lean ====
section
/-! SUPPORT. What the updates of the machine change and what they leave: one fact for each part of the state and each update. -/

namespace Sys2Proof.Machine

/-! ## Stacks -/

theorem Mach.stk_updStk_same (m : Mach) {s : Nat} (f : Stack → Stack) (h : s < 4) : (m.updStk s f).stk s = f (m.stk s) :=
  Quad.get_modify_same _ _ _ h

theorem Mach.stk_updStk_ne (m : Mach) {s t : Nat} (f : Stack → Stack) (h : t ≠ s) : (m.updStk s f).stk t = m.stk t :=
  Quad.get_modify_ne _ _ _ h

@[simp] theorem Mach.updStk_mem (m : Mach) (s : Nat) (f : Stack → Stack) : (m.updStk s f).mem = m.mem := rfl
@[simp] theorem Mach.updStk_tier (m : Mach) (s : Nat) (f : Stack → Stack) : (m.updStk s f).tier = m.tier := rfl
@[simp] theorem Mach.updStk_hostMem (m : Mach) (s : Nat) (f : Stack → Stack) : (m.updStk s f).hostMem = m.hostMem := rfl
@[simp] theorem Mach.updStk_host (m : Mach) (s : Nat) (f : Stack → Stack) : (m.updStk s f).host = m.host := rfl
@[simp] theorem Mach.updStk_boot (m : Mach) (s : Nat) (f : Stack → Stack) : (m.updStk s f).boot = m.boot := rfl
@[simp] theorem Mach.updStk_wire (m : Mach) (s : Nat) (f : Stack → Stack) : (m.updStk s f).wire = m.wire := rfl
@[simp] theorem Mach.updStk_freeIx (m : Mach) (s : Nat) (f : Stack → Stack) : (m.updStk s f).freeIx = m.freeIx := rfl

/-! ## Register fields -/

@[simp] theorem Mach.setF_mem (m : Mach) (s : Nat) (f : Fld) (v i : Nat) : (m.setF s f v i).mem = m.mem := rfl
@[simp] theorem Mach.setF_tier (m : Mach) (s : Nat) (f : Fld) (v i : Nat) : (m.setF s f v i).tier = m.tier := rfl
@[simp] theorem Mach.setF_hostMem (m : Mach) (s : Nat) (f : Fld) (v i : Nat) : (m.setF s f v i).hostMem = m.hostMem := rfl
@[simp] theorem Mach.setF_host (m : Mach) (s : Nat) (f : Fld) (v i : Nat) : (m.setF s f v i).host = m.host := rfl
@[simp] theorem Mach.setF_boot (m : Mach) (s : Nat) (f : Fld) (v i : Nat) : (m.setF s f v i).boot = m.boot := rfl
@[simp] theorem Mach.setF_wire (m : Mach) (s : Nat) (f : Fld) (v i : Nat) : (m.setF s f v i).wire = m.wire := rfl
@[simp] theorem Mach.setF_freeIx (m : Mach) (s : Nat) (f : Fld) (v i : Nat) : (m.setF s f v i).freeIx = m.freeIx := rfl

@[simp] theorem Mach.bumpF_mem (m : Mach) (s : Nat) (f : Fld) (i n : Nat) : (m.bumpF s f i n).mem = m.mem := rfl
@[simp] theorem Mach.bumpF_tier (m : Mach) (s : Nat) (f : Fld) (i n : Nat) : (m.bumpF s f i n).tier = m.tier := rfl
@[simp] theorem Mach.bumpF_hostMem (m : Mach) (s : Nat) (f : Fld) (i n : Nat) : (m.bumpF s f i n).hostMem = m.hostMem := rfl
@[simp] theorem Mach.bumpF_host (m : Mach) (s : Nat) (f : Fld) (i n : Nat) : (m.bumpF s f i n).host = m.host := rfl
@[simp] theorem Mach.bumpF_boot (m : Mach) (s : Nat) (f : Fld) (i n : Nat) : (m.bumpF s f i n).boot = m.boot := rfl
@[simp] theorem Mach.bumpF_wire (m : Mach) (s : Nat) (f : Fld) (i n : Nat) : (m.bumpF s f i n).wire = m.wire := rfl
@[simp] theorem Mach.bumpF_freeIx (m : Mach) (s : Nat) (f : Fld) (i n : Nat) : (m.bumpF s f i n).freeIx = m.freeIx := rfl

/-- A field set reads as its value, cut to its width. -/
theorem Mach.getF_setF_same (m : Mach) {s : Nat} (f : Fld) (v i : Nat) (h : s < 4) : (m.setF s f v i).getF s f i = v % 2 ^ f.width := by
  simp [Mach.getF, Mach.setF, Mach.stk_updStk_same, h]

/-- Another field, or another instance, reads as before. -/
theorem Mach.getF_setF_key (m : Mach) (s t : Nat) (f g : Fld) (v i j : Nat) (h : g.key j ≠ f.key i) :
    (m.setF s f v i).getF t g j = m.getF t g j := by
  by_cases e : t = s
  · subst e
    by_cases l : t < 4
    · simp [Mach.getF, Mach.setF, Mach.stk_updStk_same, l, SMap.getD_put_ne _ _ _ h]
    · have : (m.setF t f v i).stk t = m.stk t := by
        obtain ⟨n, rfl⟩ : ∃ n, t = n + 4 := ⟨t - 4, by omega⟩
        rfl
      simp [Mach.getF, this]
  · simp [Mach.getF, Mach.setF, Mach.stk_updStk_ne, e]

/-- A field of another stack reads as before. -/
theorem Mach.getF_setF_stack (m : Mach) {s t : Nat} (f g : Fld) (v i j : Nat) (h : t ≠ s) : (m.setF s f v i).getF t g j = m.getF t g j := by
  simp [Mach.getF, Mach.setF, Mach.stk_updStk_ne, h]

/-- A change of a stack that leaves its registers leaves every field. -/
theorem Mach.getF_updStk (m : Mach) (s t : Nat) (f : Stack → Stack) (g : Fld) (j : Nat) (h : (f (m.stk s)).csr = (m.stk s).csr) :
    (m.updStk s f).getF t g j = m.getF t g j := by
  by_cases e : t = s
  · subst e
    by_cases l : t < 4
    · simp [Mach.getF, Mach.stk_updStk_same, l, h]
    · have : (m.updStk t f).stk t = m.stk t := by
        obtain ⟨n, rfl⟩ : ∃ n, t = n + 4 := ⟨t - 4, by omega⟩
        rfl
      simp [Mach.getF, this]
  · simp [Mach.getF, Mach.stk_updStk_ne, e]

/-- A counter raised reads as its saturated sum. -/
theorem Mach.getF_bumpF_same (m : Mach) {s : Nat} (f : Fld) (i n : Nat) (h : s < 4) :
    (m.bumpF s f i n).getF s f i = satAdd f.width (m.getF s f i) n := by
  have l : satAdd f.width (m.getF s f i) n < 2 ^ f.width := by
    have := Nat.one_le_two_pow (n := f.width)
    simp only [satAdd]; omega
  rw [Mach.bumpF, Mach.getF_setF_same _ _ _ _ h, Nat.mod_eq_of_lt l]

end Sys2Proof.Machine
end

