-- ==== Sys2Proof/Laws/Kernel.lean ====
section
/-! SUPPORT. Kernel instructions: what an issue does when nothing stops it, and what writing a destination changes. -/

namespace Sys2Proof.Machine

/-! ## Cores -/

theorem Mach.core_updCore_same (m : Mach) {s : Nat} (L : Nat) (f : Core → Core) (h : s < 4) :
    (m.updCore s L f).core s L = f (m.core s L) := by
  simp [Mach.core, Mach.updCore, Mach.stk_updStk_same, h]

theorem Mach.core_updCore_ne (m : Mach) {s L t M : Nat} (f : Core → Core) (h : t ≠ s ∨ M ≠ L) :
    (m.updCore s L f).core t M = m.core t M := by
  by_cases e : t = s
  · subst e
    have hM : M ≠ L := by simpa using h
    by_cases l : t < 4
    · simp [Mach.core, Mach.updCore, Mach.stk_updStk_same, l, SMap.getD_put_ne _ _ _ hM]
    · obtain ⟨n, rfl⟩ : ∃ n, t = n + 4 := ⟨t - 4, by omega⟩
      rfl
  · simp [Mach.core, Mach.updCore, Mach.stk_updStk_ne, e]

/-- A change of a core leaves the rest of the machine. -/
@[simp] theorem Mach.noCores_updCore (m : Mach) (s L : Nat) (f : Core → Core) : (m.updCore s L f).noCores = m.noCores := by
  match s with
  | 0 | 1 | 2 | 3 | _ + 4 => rfl

@[simp] theorem Mach.getF_updCore (m : Mach) (s L t : Nat) (f : Core → Core) (g : Fld) (j : Nat) :
    (m.updCore s L f).getF t g j = m.getF t g j := Mach.getF_updStk _ _ _ _ _ _ rfl

@[simp] theorem Mach.updCore_mem (m : Mach) (s L : Nat) (f : Core → Core) : (m.updCore s L f).mem = m.mem := rfl
@[simp] theorem Mach.updCore_tier (m : Mach) (s L : Nat) (f : Core → Core) : (m.updCore s L f).tier = m.tier := rfl
@[simp] theorem Mach.updCore_hostMem (m : Mach) (s L : Nat) (f : Core → Core) : (m.updCore s L f).hostMem = m.hostMem := rfl
@[simp] theorem Mach.updCore_host (m : Mach) (s L : Nat) (f : Core → Core) : (m.updCore s L f).host = m.host := rfl
@[simp] theorem Mach.updCore_boot (m : Mach) (s L : Nat) (f : Core → Core) : (m.updCore s L f).boot = m.boot := rfl
@[simp] theorem Mach.updCore_wire (m : Mach) (s L : Nat) (f : Core → Core) : (m.updCore s L f).wire = m.wire := rfl
@[simp] theorem Mach.updCore_freeIx (m : Mach) (s L : Nat) (f : Core → Core) : (m.updCore s L f).freeIx = m.freeIx := rfl

/-! ## Parts of a stack: their updates leave every register field, and the machine outside the stack -/

@[simp] theorem Mach.getF_updPlan (m : Mach) (s t : Nat) (f : PlanSt → PlanSt) (g : Fld) (j : Nat) :
    (m.updPlan s f).getF t g j = m.getF t g j := Mach.getF_updStk _ _ _ _ _ _ rfl
@[simp] theorem Mach.updPlan_mem (m : Mach) (s : Nat) (f : PlanSt → PlanSt) : (m.updPlan s f).mem = m.mem := rfl
@[simp] theorem Mach.updPlan_tier (m : Mach) (s : Nat) (f : PlanSt → PlanSt) : (m.updPlan s f).tier = m.tier := rfl
@[simp] theorem Mach.updPlan_hostMem (m : Mach) (s : Nat) (f : PlanSt → PlanSt) : (m.updPlan s f).hostMem = m.hostMem := rfl
@[simp] theorem Mach.updPlan_host (m : Mach) (s : Nat) (f : PlanSt → PlanSt) : (m.updPlan s f).host = m.host := rfl
@[simp] theorem Mach.updPlan_wire (m : Mach) (s : Nat) (f : PlanSt → PlanSt) : (m.updPlan s f).wire = m.wire := rfl

@[simp] theorem Mach.getF_updLinks (m : Mach) (s t : Nat) (f : LinkSt → LinkSt) (g : Fld) (j : Nat) :
    (m.updLinks s f).getF t g j = m.getF t g j := Mach.getF_updStk _ _ _ _ _ _ rfl
@[simp] theorem Mach.updLinks_mem (m : Mach) (s : Nat) (f : LinkSt → LinkSt) : (m.updLinks s f).mem = m.mem := rfl
@[simp] theorem Mach.updLinks_tier (m : Mach) (s : Nat) (f : LinkSt → LinkSt) : (m.updLinks s f).tier = m.tier := rfl
@[simp] theorem Mach.updLinks_hostMem (m : Mach) (s : Nat) (f : LinkSt → LinkSt) : (m.updLinks s f).hostMem = m.hostMem := rfl
@[simp] theorem Mach.updLinks_host (m : Mach) (s : Nat) (f : LinkSt → LinkSt) : (m.updLinks s f).host = m.host := rfl
@[simp] theorem Mach.updLinks_wire (m : Mach) (s : Nat) (f : LinkSt → LinkSt) : (m.updLinks s f).wire = m.wire := rfl

@[simp] theorem Mach.getF_updTwin (m : Mach) (s t : Nat) (f : TwinSt → TwinSt) (g : Fld) (j : Nat) :
    (m.updTwin s f).getF t g j = m.getF t g j := Mach.getF_updStk _ _ _ _ _ _ rfl
@[simp] theorem Mach.updTwin_mem (m : Mach) (s : Nat) (f : TwinSt → TwinSt) : (m.updTwin s f).mem = m.mem := rfl
@[simp] theorem Mach.updTwin_tier (m : Mach) (s : Nat) (f : TwinSt → TwinSt) : (m.updTwin s f).tier = m.tier := rfl
@[simp] theorem Mach.updTwin_hostMem (m : Mach) (s : Nat) (f : TwinSt → TwinSt) : (m.updTwin s f).hostMem = m.hostMem := rfl
@[simp] theorem Mach.updTwin_host (m : Mach) (s : Nat) (f : TwinSt → TwinSt) : (m.updTwin s f).host = m.host := rfl
@[simp] theorem Mach.updTwin_wire (m : Mach) (s : Nat) (f : TwinSt → TwinSt) : (m.updTwin s f).wire = m.wire := rfl

@[simp] theorem Mach.updInteg_mem (m : Mach) (s : Nat) (f : Integ → Integ) : (m.updInteg s f).mem = m.mem := rfl
@[simp] theorem Mach.updInteg_tier (m : Mach) (s : Nat) (f : Integ → Integ) : (m.updInteg s f).tier = m.tier := rfl
@[simp] theorem Mach.updInteg_hostMem (m : Mach) (s : Nat) (f : Integ → Integ) : (m.updInteg s f).hostMem = m.hostMem := rfl
@[simp] theorem Mach.updInteg_host (m : Mach) (s : Nat) (f : Integ → Integ) : (m.updInteg s f).host = m.host := rfl
@[simp] theorem Mach.updInteg_wire (m : Mach) (s : Nat) (f : Integ → Integ) : (m.updInteg s f).wire = m.wire := rfl

@[simp] theorem Mach.getF_updCache (m : Mach) (s t : Nat) (f : CacheSt → CacheSt) (g : Fld) (j : Nat) :
    (m.updCache s f).getF t g j = m.getF t g j := Mach.getF_updStk _ _ _ _ _ _ rfl
@[simp] theorem Mach.updCache_mem (m : Mach) (s : Nat) (f : CacheSt → CacheSt) : (m.updCache s f).mem = m.mem := rfl
@[simp] theorem Mach.updCache_tier (m : Mach) (s : Nat) (f : CacheSt → CacheSt) : (m.updCache s f).tier = m.tier := rfl
@[simp] theorem Mach.updCache_hostMem (m : Mach) (s : Nat) (f : CacheSt → CacheSt) : (m.updCache s f).hostMem = m.hostMem := rfl
@[simp] theorem Mach.updCache_host (m : Mach) (s : Nat) (f : CacheSt → CacheSt) : (m.updCache s f).host = m.host := rfl
@[simp] theorem Mach.updCache_wire (m : Mach) (s : Nat) (f : CacheSt → CacheSt) : (m.updCache s f).wire = m.wire := rfl

@[simp] theorem Mach.getF_updVcp (m : Mach) (s t : Nat) (f : Vcp → Vcp) (g : Fld) (j : Nat) :
    (m.updVcp s f).getF t g j = m.getF t g j := Mach.getF_updStk _ _ _ _ _ _ rfl
@[simp] theorem Mach.updVcp_mem (m : Mach) (s : Nat) (f : Vcp → Vcp) : (m.updVcp s f).mem = m.mem := rfl
@[simp] theorem Mach.updVcp_tier (m : Mach) (s : Nat) (f : Vcp → Vcp) : (m.updVcp s f).tier = m.tier := rfl
@[simp] theorem Mach.updVcp_hostMem (m : Mach) (s : Nat) (f : Vcp → Vcp) : (m.updVcp s f).hostMem = m.hostMem := rfl
@[simp] theorem Mach.updVcp_host (m : Mach) (s : Nat) (f : Vcp → Vcp) : (m.updVcp s f).host = m.host := rfl
@[simp] theorem Mach.updVcp_wire (m : Mach) (s : Nat) (f : Vcp → Vcp) : (m.updVcp s f).wire = m.wire := rfl

@[simp] theorem Mach.getF_updNear (m : Mach) (s L t : Nat) (f : NearSt → NearSt) (g : Fld) (j : Nat) :
    (m.updNear s L f).getF t g j = m.getF t g j := Mach.getF_updStk _ _ _ _ _ _ rfl
@[simp] theorem Mach.updNear_mem (m : Mach) (s L : Nat) (f : NearSt → NearSt) : (m.updNear s L f).mem = m.mem := rfl
@[simp] theorem Mach.updNear_tier (m : Mach) (s L : Nat) (f : NearSt → NearSt) : (m.updNear s L f).tier = m.tier := rfl
@[simp] theorem Mach.updNear_hostMem (m : Mach) (s L : Nat) (f : NearSt → NearSt) : (m.updNear s L f).hostMem = m.hostMem := rfl
@[simp] theorem Mach.updNear_host (m : Mach) (s L : Nat) (f : NearSt → NearSt) : (m.updNear s L f).host = m.host := rfl
@[simp] theorem Mach.updNear_wire (m : Mach) (s L : Nat) (f : NearSt → NearSt) : (m.updNear s L f).wire = m.wire := rfl

@[simp] theorem Mach.core_freeIx (m : Mach) (n s L : Nat) : ({ m with freeIx := n } : Mach).core s L = m.core s L := rfl
@[simp] theorem Mach.getF_freeIx (m : Mach) (n s : Nat) (f : Fld) (j : Nat) : ({ m with freeIx := n } : Mach).getF s f j = m.getF s f j := rfl

/-! ## A step of a core's counter -/

theorem Mach.core_stepped_same (m : Mach) {s : Nat} (L : Nat) (h : s < 4) :
    (m.stepped s L).core s L = { m.core s L with steps := (m.core s L).steps + 1 + (m.fresh 16).1 } := by
  simp [Mach.stepped, Mach.core_updCore_same, h, Mach.fresh]

theorem Mach.core_stepped_ne (m : Mach) {s L t M : Nat} (h : t ≠ s ∨ M ≠ L) : (m.stepped s L).core t M = m.core t M := by
  rw [Mach.stepped, Mach.core_updCore_ne _ _ h]; rfl

@[simp] theorem Mach.getF_stepped (m : Mach) (s L t : Nat) (g : Fld) (j : Nat) : (m.stepped s L).getF t g j = m.getF t g j := by
  simp [Mach.stepped, Mach.fresh]

@[simp] theorem Mach.noCores_stepped (m : Mach) (s L : Nat) : (m.stepped s L).noCores = m.noCores := by
  rw [Mach.stepped, Mach.noCores_updCore]; rfl

@[simp] theorem Mach.stepped_mem (m : Mach) (s L : Nat) : (m.stepped s L).mem = m.mem := rfl
@[simp] theorem Mach.stepped_tier (m : Mach) (s L : Nat) : (m.stepped s L).tier = m.tier := rfl
@[simp] theorem Mach.stepped_hostMem (m : Mach) (s L : Nat) : (m.stepped s L).hostMem = m.hostMem := rfl
@[simp] theorem Mach.stepped_host (m : Mach) (s L : Nat) : (m.stepped s L).host = m.host := rfl
@[simp] theorem Mach.stepped_boot (m : Mach) (s L : Nat) : (m.stepped s L).boot = m.boot := rfl
@[simp] theorem Mach.stepped_wire (m : Mach) (s L : Nat) : (m.stepped s L).wire = m.wire := rfl

theorem Core.reg_congr {c d : Core} (h : c.regs = d.regs) (slot lane r : Nat) : c.reg slot lane r = d.reg slot lane r := by
  simp [Core.reg, h]

/-- The registers of every core are those before the step. -/
theorem Mach.regs_stepped (m : Mach) {s : Nat} (L t M : Nat) (h : s < 4) : ((m.stepped s L).core t M).regs = (m.core t M).regs := by
  by_cases e : t = s ∧ M = L
  · obtain ⟨rfl, rfl⟩ := e
    simp [Mach.core_stepped_same, h]
  · rw [Mach.core_stepped_ne]; omega

/-- An operand reads as before the step. -/
theorem KCtx.get_stepped (k : KCtx) (m : Mach) {s : Nat} (L lane r n : Nat) (h : s < 4) : k.get (m.stepped s L) lane r n = k.get m lane r n := by
  simp [KCtx.get, Core.operand, Core.reg, Mach.regs_stepped _ _ _ _ h]

theorem stackCount_le (p : Part) : p.stackCount ≤ 4 := by cases p <;> decide

/-! ## An issue that nothing stops -/

/-- The instruction has its own effect, and then the step is counted. -/
theorem kernel_issues {a : KInstr} {s : State} {cls op : Nat} {k : KCtx} {ord : Option Bool} (body : KCtx → Mach → Mach)
    (h : Issues a s cls op k ord) :
    kernel a s cls op body ord = .next { s with m := (body k s.m).stepped k.s k.L } ∧ k.s = a.stack.val ∧ k.L = a.core.val ∧ k.slot = a.slot.val ∧
      k.s < 4 := by
  obtain ⟨h1, h2, h3, h4, h5, h6, h7, ht, h8, h9, h10, h11, h12, h13, h14, h15⟩ := h
  have hs : k.s = a.stack.val := by rw [h4]; rfl
  have hL : k.L = a.core.val := by rw [h4]; rfl
  have hslot : k.slot = a.slot.val := by rw [h4]; rfl
  have l4 : k.s < 4 := by have := stackCount_le s.fuse.part; omega
  refine ⟨?_, hs, hL, hslot, l4⟩
  simp only [kernel, onStack, h1, if_true, onMach, Mach.issue, h3, Mach.issueOn]
  rw [← h4]
  simp only [h5, h6, h7, ht, h8, ne_eq, not_true_eq_false, Bool.not_true, Bool.false_eq_true, or_self, if_false, h2]
  by_cases hx : Iw.ext k.w = true
  · simp only [hx, (h10 hx).1, (h10 hx).2.1, (h10 hx).2.2, not_true_eq_false, and_false, if_false, Bool.not_true, Bool.false_eq_true]
    simp only [KCtx.run, h9, h11, Bool.not_true, Bool.false_eq_true, or_self, if_false, h14, h15, ne_eq, not_true_eq_false, hs, hL, h12, h13]
  · simp only [hx, false_and, if_false, Bool.false_eq_true]
    simp only [KCtx.run, h9, h11, Bool.not_true, Bool.false_eq_true, or_self, if_false, h14, h15, ne_eq, not_true_eq_false, hs, hL, h12, h13]

/-! ## Registers -/

theorem regKey_inj {s l r s' l' r' : Nat} (hl : l < 32) (hr : r < 256) (hl' : l' < 32) (hr' : r' < 256) :
    regKey s l r = regKey s' l' r' ↔ s = s' ∧ l = l' ∧ r = r' := by
  simp only [regKey]; omega

theorem Core.setReg_reg (c : Core) {s l r s' l' r' : Nat} (v : RegV) (hl : l < 32) (hr : r < 256) (hl' : l' < 32) (hr' : r' < 256) :
    (c.setReg s l r v).reg s' l' r' = if c.copies s s' = true ∧ l' = l ∧ r' = r ∧ r ≠ 255 then v else c.reg s' l' r' := by
  have key : ∀ x : Nat, regKey s' l' r' = regKey x l r ↔ s' = x ∧ l' = l ∧ r' = r := fun x => regKey_inj hl' hr' hl hr
  by_cases h255 : r = 255
  · simp [Core.setReg, h255]
  · by_cases hd : c.launch.dual = true
    · by_cases e1 : regKey s' l' r' = regKey (s + 1) l r
      · obtain ⟨rfl, rfl, rfl⟩ := (key _).1 e1
        simp [Core.setReg, Core.reg, Core.copies, h255, hd]
      · by_cases e0 : regKey s' l' r' = regKey s l r
        · obtain ⟨rfl, rfl, rfl⟩ := (key _).1 e0
          simp [Core.setReg, Core.reg, Core.copies, h255, hd, SMap.getD_put_ne _ _ _ e1]
        · have hn : ¬ (c.copies s s' = true ∧ l' = l ∧ r' = r ∧ r ≠ 255) := by
            rintro ⟨h, h1, h2, -⟩
            simp [Core.copies, hd] at h
            rcases h with h | h
            · exact e0 ((key _).2 ⟨h, h1, h2⟩)
            · exact e1 ((key _).2 ⟨h, h1, h2⟩)
          rw [if_neg hn]
          simp [Core.setReg, Core.reg, h255, hd, SMap.getD_put_ne _ _ _ e0, SMap.getD_put_ne _ _ _ e1]
    · by_cases e0 : regKey s' l' r' = regKey s l r
      · obtain ⟨rfl, rfl, rfl⟩ := (key _).1 e0
        simp [Core.setReg, Core.reg, Core.copies, h255, hd]
      · have hn : ¬ (c.copies s s' = true ∧ l' = l ∧ r' = r ∧ r ≠ 255) := by
          rintro ⟨h, h1, h2, -⟩
          simp [Core.copies, hd] at h
          exact e0 ((key _).2 ⟨h, h1, h2⟩)
        rw [if_neg hn]
        simp [Core.setReg, Core.reg, h255, hd, SMap.getD_put_ne _ _ _ e0]

/-- What a change of registers alone leaves of a core. -/
abbrev Core.regsOnly (c d : Core) : Prop := ∃ r, d = { c with regs := r }

theorem Core.regsOnly_refl (c : Core) : Core.regsOnly c c := ⟨c.regs, rfl⟩

theorem Core.regsOnly_trans {c d e : Core} (h : Core.regsOnly c d) (g : Core.regsOnly d e) : Core.regsOnly c e := by
  obtain ⟨r, rfl⟩ := h
  obtain ⟨q, rfl⟩ := g
  exact ⟨q, rfl⟩

theorem Core.setReg_only (c : Core) (s l r : Nat) (v : RegV) : Core.regsOnly c (c.setReg s l r v) := by
  unfold Core.setReg
  split
  · exact Core.regsOnly_refl c
  · exact ⟨_, rfl⟩

theorem Core.setOperand_only (c : Core) (s l r n v : Nat) : Core.regsOnly c (c.setOperand s l r n v) := by
  unfold Core.setOperand
  induction List.range n generalizing c with
  | nil => exact Core.regsOnly_refl c
  | cons i t ih => exact Core.regsOnly_trans (Core.setReg_only _ _ _ _ _) (ih _)

/-- A change of registers alone leaves the launch, and so which slots hold copies. -/
theorem Core.regsOnly.copies {c d : Core} (h : Core.regsOnly c d) (s x : Nat) : d.copies s x = c.copies s x := by
  obtain ⟨r, rfl⟩ := h; rfl

/-- An operand written reads back register by register; every other register reads as before. -/
theorem Core.setOperand_reg (c : Core) {s l r n s' l' r' : Nat} (v : Nat) (hl : l < 32) (hr : r + n ≤ 256) (hl' : l' < 32) (hr' : r' < 256) :
    (c.setOperand s l r n v).reg s' l' r' =
      if c.copies s s' = true ∧ l' = l ∧ r ≤ r' ∧ r' < r + n ∧ r' ≠ 255 then { val := BitVec.ofNat 32 (v / 2 ^ (32 * (r' - r))) } else c.reg s' l' r' := by
  induction n with
  | zero =>
    rw [if_neg (fun h => absurd h.2.2.2.1 (by omega))]; rfl
  | succ n ih =>
    have step : c.setOperand s l r (n + 1) v = (c.setOperand s l r n v).setReg s l (r + n) { val := BitVec.ofNat 32 (v / 2 ^ (32 * n)) } := by
      simp [Core.setOperand, List.range_succ]
    rw [step, Core.setReg_reg _ _ hl (by omega) hl' hr', ih (by omega), (Core.setOperand_only c s l r n v).copies]
    by_cases hc : c.copies s s' = true
    · by_cases e : l' = l ∧ r' = r + n ∧ r + n ≠ 255
      · obtain ⟨rfl, rfl, h4⟩ := e
        rw [if_pos ⟨hc, rfl, rfl, h4⟩, if_pos ⟨hc, rfl, by omega, by omega, h4⟩, Nat.add_sub_cancel_left]
      · rw [if_neg (fun h => e h.2)]
        by_cases g : l' = l ∧ r ≤ r' ∧ r' < r + n ∧ r' ≠ 255
        · rw [if_pos ⟨hc, g⟩, if_pos ⟨hc, by omega, by omega, by omega, by omega⟩]
        · rw [if_neg (fun h => g h.2), if_neg (fun h => by obtain ⟨-, h1, h2, h3, h4⟩ := h; exact e ⟨h1, by omega, by omega⟩)]
    · rw [if_neg (fun h => hc h.1), if_neg (fun h => hc h.1), if_neg (fun h => hc h.1)]

/-- Operands written in several lanes. -/
theorem Core.setLanes_reg (lanes : List Nat) (c : Core) {s r n s' l' r' : Nat} (f : Nat → Nat) (hl : ∀ l ∈ lanes, l < 32) (hr : r + n ≤ 256)
    (hl' : l' < 32) (hr' : r' < 256) :
    (lanes.foldl (fun c l => c.setOperand s l r n (f l)) c).reg s' l' r' =
      if c.copies s s' = true ∧ l' ∈ lanes ∧ r ≤ r' ∧ r' < r + n ∧ r' ≠ 255 then { val := BitVec.ofNat 32 (f l' / 2 ^ (32 * (r' - r))) }
      else c.reg s' l' r' := by
  induction lanes generalizing c with
  | nil => simp
  | cons x xs ih =>
    have hx : x < 32 := hl x (by simp)
    rw [List.foldl_cons, ih _ (fun l h => hl l (by simp [h])), Core.setOperand_reg _ _ hx hr hl' hr', (Core.setOperand_only c s x r n (f x)).copies]
    by_cases e : c.copies s s' = true ∧ l' ∈ xs ∧ r ≤ r' ∧ r' < r + n ∧ r' ≠ 255
    · rw [if_pos e, if_pos ⟨e.1, List.mem_cons_of_mem _ e.2.1, e.2.2⟩]
    · rw [if_neg e]
      by_cases g : c.copies s s' = true ∧ l' = x ∧ r ≤ r' ∧ r' < r + n ∧ r' ≠ 255
      · obtain ⟨h1, h2, h3⟩ := g
        rw [if_pos ⟨h1, h2, h3⟩, if_pos ⟨h1, by simp [h2], h3⟩, h2]
      · have hno : ¬ (c.copies s s' = true ∧ l' ∈ x :: xs ∧ r ≤ r' ∧ r' < r + n ∧ r' ≠ 255) := by
          rintro ⟨h1, h2, h3⟩
          rcases List.mem_cons.mp h2 with h | h
          · exact g ⟨h1, h, h3⟩
          · exact e ⟨h1, h, h3⟩
        rw [if_neg g, if_neg hno]

theorem Core.setLanes_only (lanes : List Nat) (c : Core) (s r n : Nat) (f : Nat → Nat) :
    Core.regsOnly c (lanes.foldl (fun c l => c.setOperand s l r n (f l)) c) := by
  induction lanes generalizing c with
  | nil => exact Core.regsOnly_refl c
  | cons x xs ih => exact Core.regsOnly_trans (Core.setOperand_only _ _ _ _ _ _) (ih _)

theorem setBits_lt {n w l : Nat} (h : l ∈ setBits n w) : l < w := by
  simp [setBits] at h; exact h.1

/-! ## Groups -/

/-- A group changed: what its core then holds. -/
theorem Mach.core_updGroup_same (m : Mach) {s L slot : Nat} {g : Group} (f : Group → Group) (h : s < 4)
    (hg : SMap.find (m.core s L).groups slot = some g) :
    (m.updGroup s L slot f).core s L = { m.core s L with groups := SMap.put (m.core s L).groups slot (f g) } := by
  simp [Mach.updGroup, Mach.core_updCore_same, h, hg]

theorem Mach.core_updGroup_ne (m : Mach) {s L t M slot : Nat} (f : Group → Group) (h : t ≠ s ∨ M ≠ L) :
    (m.updGroup s L slot f).core t M = m.core t M := Mach.core_updCore_ne _ _ h

@[simp] theorem Mach.getF_updGroup (m : Mach) (s L slot t : Nat) (f : Group → Group) (g : Fld) (j : Nat) :
    (m.updGroup s L slot f).getF t g j = m.getF t g j := Mach.getF_updCore _ _ _ _ _ _ _

/-- A group that may issue is in its slot. -/
theorem Mach.canIssue_find {m : Mach} {s L slot : Nat} {g : Group} (h : m.canIssue s L slot = some g) :
    SMap.find (m.core s L).groups slot = some g := by
  unfold Mach.canIssue at h
  simp only at h
  split at h
  · split at h
    · split at h
      · simp_all
      · cases h
    · cases h
  · cases h

/-- A group that issues is in its slot, on the machine before and after the step is counted. -/
theorem Issues.group {a : KInstr} {s : State} {cls op : Nat} {k : KCtx} {ord : Option Bool} (h : Issues a s cls op k ord) :
    SMap.find (s.m.core k.s k.L).groups k.slot = some k.g := by
  have hc := h.2.2.2.1
  have hs : k.s = a.stack.val := by rw [hc]; rfl
  have hL : k.L = a.core.val := by rw [hc]; rfl
  have hslot : k.slot = a.slot.val := by rw [hc]; rfl
  rw [hs, hL, hslot]
  exact Mach.canIssue_find h.2.2.1

/-- What an instruction that changes its group alone does. -/
theorem moved_spec {k : KCtx} {s : State} (f : Group → Group) (h : k.s < 4) (hg : SMap.find (s.m.core k.s k.L).groups k.slot = some k.g) :
    Moved k s { s with m := (s.m.updGroup k.s k.L k.slot f).stepped k.s k.L } (f k.g) := by
  have hu := Mach.core_updGroup_same s.m f h hg
  have hc := Mach.core_stepped_same (s.m.updGroup k.s k.L k.slot f) k.L h
  rw [hu] at hc
  refine ⟨⟨rfl, rfl, by simp [Mach.updGroup]⟩, ?_, ?_, ?_, ?_, ?_⟩
  · intro u g j; simp
  · intro v M hv
    show ((s.m.updGroup k.s k.L k.slot f).stepped k.s k.L).core v M = _
    rw [Mach.core_stepped_ne _ hv, Mach.core_updGroup_ne _ _ hv]
  · refine ⟨(s.m.core k.s k.L).steps + 1 + (s.m.fresh 16).1, (s.m.core k.s k.L).regs, SMap.put (s.m.core k.s k.L).groups k.slot (f k.g), ?_, by omega⟩
    exact hc
  · show (((s.m.updGroup k.s k.L k.slot f).stepped k.s k.L).core k.s k.L).regs = _
    rw [hc]
  · intro slot
    show SMap.find (((s.m.updGroup k.s k.L k.slot f).stepped k.s k.L).core k.s k.L).groups slot = _
    rw [hc]
    simp only [SMap.find_put]

/-- What an instruction that writes its destination does. -/
theorem writeD_spec {k : KCtx} {s : State} (n : Nat) (f : Nat → Nat) (h : k.s < 4)
    (hg : SMap.find (s.m.core k.s k.L).groups k.slot = some k.g) (hn : Iw.dst k.w + n ≤ 256) :
    Wrote k s { s with m := (k.writeD s.m n f).stepped k.s k.L } n f := by
  obtain ⟨rg, hrg⟩ := Core.setLanes_only k.lanes (s.m.core k.s k.L) k.slot (Iw.dst k.w) n f
  have hreg := fun (sl l r : Nat) => Core.setLanes_reg k.lanes (s.m.core k.s k.L) (s := k.slot) (r := Iw.dst k.w) (n := n)
    (s' := sl) (l' := l) (r' := r) f (fun l hl => setBits_lt hl) hn
  generalize hm : s.m.updCore k.s k.L (fun c => k.lanes.foldl (fun c l => c.setOperand k.slot l (Iw.dst k.w) n (f l)) c) = m1
  have h1 : m1.core k.s k.L = k.lanes.foldl (fun c l => c.setOperand k.slot l (Iw.dst k.w) n (f l)) (s.m.core k.s k.L) := by
    rw [← hm, Mach.core_updCore_same _ _ _ h]
  have hgr : SMap.find (m1.core k.s k.L).groups k.slot = some k.g := by rw [h1, hrg]; exact hg
  have hw : k.writeD s.m n f = m1.updGroup k.s k.L k.slot (fun g => g.goto (g.pc + k.size)) := by
    rw [← hm]; rfl
  have hu := Mach.core_updGroup_same m1 (fun g => g.goto (g.pc + k.size)) h hgr
  have hc := Mach.core_stepped_same (m1.updGroup k.s k.L k.slot (fun g => g.goto (g.pc + k.size))) k.L h
  have hmem : m1.noCores = s.m.noCores := by rw [← hm, Mach.noCores_updCore]
  rw [hw]
  refine ⟨⟨rfl, rfl, by simp [Mach.updGroup, hmem]⟩, ?_, ?_, ?_, ?_, ?_⟩
  · intro u g j; rw [Mach.getF_stepped, Mach.getF_updGroup, ← hm, Mach.getF_updCore]
  · intro v M hv
    show ((m1.updGroup k.s k.L k.slot _).stepped k.s k.L).core v M = _
    rw [Mach.core_stepped_ne _ hv, Mach.core_updGroup_ne _ _ hv, ← hm, Mach.core_updCore_ne _ _ hv]
  · refine ⟨(s.m.core k.s k.L).steps + 1 + (m1.fresh 16).1, rg, SMap.put (s.m.core k.s k.L).groups k.slot (k.g.goto (k.g.pc + k.size)), ?_, by omega⟩
    show ((m1.updGroup k.s k.L k.slot _).stepped k.s k.L).core k.s k.L = _
    rw [hc, hu, h1, hrg]
    rfl
  · intro slot lane r hl hr
    show (((m1.updGroup k.s k.L k.slot _).stepped k.s k.L).core k.s k.L).reg slot lane r = _
    rw [Core.reg_congr (d := m1.core k.s k.L) (by rw [hc, hu]), h1, hreg slot lane r hl hr]
    have hiff : ((s.m.core k.s k.L).copies k.slot slot = true ∧ lane ∈ k.lanes ∧ Iw.dst k.w ≤ r ∧ r < Iw.dst k.w + n ∧ r ≠ 255) ↔
        ((s.m.core k.s k.L).copies k.slot slot = true ∧ k.isDst n lane r = true) := by
      simp [KCtx.isDst, and_assoc]
    by_cases e : (s.m.core k.s k.L).copies k.slot slot = true ∧ k.isDst n lane r = true
    · rw [if_pos (hiff.mpr e), if_pos e]
    · rw [if_neg (fun h => e (hiff.mp h)), if_neg e]
  · intro slot
    show SMap.find (((m1.updGroup k.s k.L k.slot _).stepped k.s k.L).core k.s k.L).groups slot = _
    rw [hc, hu, h1, hrg]
    simp only [SMap.find_put]

/-! ## Encodings -/

theorem Iw.dst_lt (w : Nat) : Iw.dst w < 256 := Nat.mod_lt _ (by decide)

/-- A destination of n registers lies below 256. -/
theorem Issues.dst_fits {a : KInstr} {s : State} {cls op : Nat} {k : KCtx} {ord : Option Bool} (h : Issues a s cls op k ord) {n : Nat}
    (hm : (Iw.dst k.w, n) ∈ (encOf k.w k.x).dsts) (hn : n = 1 ∨ n = 2 ∨ n = 4) : Iw.dst k.w + n ≤ 256 := by
  have h13 := h.2.2.2.2.2.2.2.2.2.2.2.2.2.1
  have hd := Iw.dst_lt k.w
  have : Iw.dst k.w % n = 0 := by
    by_contra hc
    have : regAlign ((encOf k.w k.x).srcs ++ (encOf k.w k.x).dsts) = true := by
      unfold regAlign
      exact List.any_eq_true.mpr ⟨_, List.mem_append_right _ hm, by simpa using hc⟩
    rw [h13] at this
    cases this
  rcases hn with rfl | rfl | rfl <;> omega

/-- The word that issues is the operation's. -/
theorem Issues.word {a : KInstr} {s : State} {cls op : Nat} {k : KCtx} (h : Issues a s cls op k) : Iw.cls k.w = cls ∧ Iw.op k.w = op := by
  have h8 := h.2.2.2.2.2.2.2.2.1
  have h9 := h.2.2.2.2.2.2.2.2.2.1
  simpa [isInstr, h9] using h8

theorem Issues.legal {a : KInstr} {s : State} {cls op : Nat} {k : KCtx} {ord : Option Bool} (h : Issues a s cls op k ord) :
    (encOf k.w k.x).ok = true := h.2.2.2.2.2.2.2.2.2.2.2.1

/-- A word all of whose bits lie in allowed fields has no other bit. -/
theorem bit_of_only {w mask i : Nat} (h : only w mask = true) (hi : i < 64) (hm : (mask ||| fBase).testBit i = false) (hl : mask ||| fBase ≤ 2 ^ 64 - 1) :
    bit w i = false := by
  have h0 : w &&& (2 ^ 64 - 1 - (mask ||| fBase)) = 0 := by simpa [only] using h
  have ht : (w &&& (2 ^ 64 - 1 - (mask ||| fBase))).testBit i = false := by rw [h0]; simp
  have hx : (2 ^ 64 - 1 - (mask ||| fBase)).testBit i = true := by
    have : 2 ^ 64 - 1 - (mask ||| fBase) = 2 ^ 64 - ((mask ||| fBase) + 1) := by omega
    rw [this, Nat.testBit_two_pow_sub_succ (by omega)]
    simp [hi, hm]
  rw [Nat.testBit_and, hx, Bool.and_true] at ht
  simpa [bit, Nat.testBit, Nat.shiftRight_eq_div_pow, Nat.and_one_is_mod, Nat.one_and_eq_mod_two] using ht

/-! ## Predicates -/

theorem Group.settle_preds (n : Nat) (g : Group) (p : SMap Nat) :
    Group.settle n { g with preds := p } = { Group.settle n g with preds := p } := by
  induction n generalizing g with
  | zero => rfl
  | succ n ih =>
    obtain ⟨block, index, pc, active, exited, div, preds, wait, atomN, ordered⟩ := g
    match div with
    | [] => rfl
    | e :: r =>
      simp only [Group.settle]
      split
      · split
        · exact ih ⟨block, index, e.reconv, e.done ||| active, exited, r, preds, wait, atomN, ordered⟩
        · rename_i q qs _
          exact ih ⟨block, index, q.2, q.1, exited, { e with paths := qs, done := e.done ||| active } :: r, preds, wait, atomN, ordered⟩
      · rfl

theorem Group.goto_preds (g : Group) (pc : Nat) (p : SMap Nat) : ({ g with preds := p } : Group).goto pc = { g.goto pc with preds := p } := by
  obtain ⟨block, index, pc0, active, exited, div, preds, wait, atomN, ordered⟩ := g
  exact Group.settle_preds _ ⟨block, index, pc, active, exited, div, preds, wait, atomN, ordered⟩ p

theorem bit_putBit (n : Nat) {l i : Nat} (b : Bool) : bit (putBit n l b) i = if i = l then b else bit n i := by
  have key : ∀ x : Nat, bit x i = x.testBit i := by
    intro x; simp [bit, Nat.testBit, Nat.shiftRight_eq_div_pow, Nat.one_and_eq_mod_two]
  have hp : putBit n l b = n % 2 ^ l + 2 ^ l * (b.toNat + 2 * (n / 2 ^ (l + 1))) := by
    have hb : b.toNat % 2 ^ 1 = b.toNat := by cases b <;> rfl
    unfold putBit putBits
    rw [hb, pow_succ]
    ring
  rw [key, key, hp, Nat.add_comm, Nat.testBit_two_pow_mul_add _ (Nat.mod_lt _ (by positivity))]
  rcases lt_trichotomy i l with h | h | h
  · rw [if_pos h, if_neg (by omega), Nat.testBit_mod_two_pow]; simp [h]
  · subst h
    rw [if_neg (by omega), if_pos rfl, Nat.sub_self]
    cases b <;> simp [Nat.testBit, Nat.one_and_eq_mod_two]
  · rw [if_neg (by omega), if_neg (by omega)]
    obtain ⟨d, hd⟩ : ∃ d, i - l = d + 1 := ⟨i - l - 1, by omega⟩
    have hd2 : i = (l + 1) + d := by omega
    have h2 : (b.toNat + 2 * (n / 2 ^ (l + 1))) / 2 = n / 2 ^ (l + 1) := by cases b <;> simp <;> omega
    rw [hd, Nat.testBit_succ, h2, hd2, Nat.testBit_div_two_pow, Nat.add_comm]

theorem bit_putBits_lanes (lanes : List Nat) (v i : Nat) (f : Nat → Bool) :
    bit (lanes.foldl (fun v l => putBit v l (f l)) v) i = if i ∈ lanes then f i else bit v i := by
  induction lanes generalizing v with
  | nil => simp
  | cons x xs ih =>
    rw [List.foldl_cons, ih, bit_putBit]
    by_cases h : i ∈ xs
    · simp [h]
    · by_cases e : i = x
      · subst e; simp [h]
      · simp [h, e]

/-- Two changes of one core are one. -/
theorem Mach.updCore_updCore (m : Mach) {s : Nat} (L : Nat) (f g : Core → Core) (h : s < 4) :
    (m.updCore s L f).updCore s L g = m.updCore s L (fun c => g (f c)) := by
  unfold Mach.updCore Mach.updStk
  match s, h with
  | 0, _ | 1, _ | 2, _ | 3, _ => simp [Quad.modify]

/-- Two changes of one group are one. -/
theorem Mach.updGroup_updGroup (m : Mach) {s : Nat} (L slot : Nat) (f g : Group → Group) (h : s < 4) :
    (m.updGroup s L slot f).updGroup s L slot g = m.updGroup s L slot (fun x => g (f x)) := by
  unfold Mach.updGroup
  rw [Mach.updCore_updCore _ _ _ _ h]
  congr 1
  funext c
  cases hf : SMap.find c.groups slot with
  | none => simp [hf]
  | some x => simp

/-- What an instruction that writes a predicate does. -/
theorem writeP_spec {k : KCtx} {s : State} (f : Nat → Bool) (h : k.s < 4) (hg : SMap.find (s.m.core k.s k.L).groups k.slot = some k.g) :
    WroteP k s { s with m := (k.writeP s.m f).stepped k.s k.L } f := by
  have hpc : (k.g.setPred (Iw.pd k.w) k.mask f).pc = k.g.pc := by unfold Group.setPred; split <;> rfl
  have hm := moved_spec (k := k) (s := s) (fun g => (g.setPred (Iw.pd k.w) k.mask f).goto ((g.setPred (Iw.pd k.w) k.mask f).pc + k.size)) h hg
  have hcomp : k.writeP s.m f =
      s.m.updGroup k.s k.L k.slot (fun g => (g.setPred (Iw.pd k.w) k.mask f).goto ((g.setPred (Iw.pd k.w) k.mask f).pc + k.size)) :=
    Mach.updGroup_updGroup _ _ _ _ _ h
  rw [hcomp]
  have hset : ∃ p, k.g.setPred (Iw.pd k.w) k.mask f = { k.g with preds := p } ∧ ∀ i lane : Nat, i < 7 → lane < 32 → bit (SMap.getD p i 0) lane =
      if i = Iw.pd k.w ∧ bit k.mask lane = true then f lane else bit (SMap.getD k.g.preds i 0) lane := by
    unfold Group.setPred
    split
    · refine ⟨k.g.preds, rfl, ?_⟩
      intro i lane hi _
      rw [if_neg (by omega)]
    · refine ⟨_, rfl, ?_⟩
      intro i lane _ hl
      by_cases e : i = Iw.pd k.w
      · subst e
        rw [SMap.getD_put_same, bit_putBits_lanes]
        simp [setBits, hl]
      · rw [SMap.getD_put_ne _ _ _ e, if_neg (by simp [e])]
  obtain ⟨p, hp, hb⟩ := hset
  refine ⟨p, ?_, hb⟩
  have : (k.g.setPred (Iw.pd k.w) k.mask f).goto ((k.g.setPred (Iw.pd k.w) k.mask f).pc + k.size) =
      { (k.g.goto (k.g.pc + k.size)) with preds := p } := by
    rw [hpc, hp, Group.goto_preds]
  rw [← this]
  exact hm

end Sys2Proof.Machine
end

