-- ==== Sys2Proof/Laws/Mem.lean ====
section
/-! SUPPORT. Memories: a byte written reads back, every other byte is as before, and every operation keeps the canonical form. -/

namespace Sys2Proof.Machine

/-! ## Lists of cells -/

/-- Every cell of the list lies above address a. -/
def Cells.above (a : Nat) : List Host.Cell → Prop
  | [] => True
  | c :: _ => a < c.1

theorem Cells.wf_cons {c : Host.Cell} {r : List Host.Cell} : Cells.wf (c :: r) = true ↔ c.2 ≠ 0 ∧ Cells.above c.1 r ∧ Cells.wf r = true := by
  cases r with
  | nil => simp [Cells.wf, Cells.above]
  | cons d r => simp [Cells.wf, Cells.above, and_assoc]

theorem Cells.above_trans {a b : Nat} (h : a ≤ b) {l : List Host.Cell} (g : Cells.above b l) : Cells.above a l := by
  cases l with
  | nil => trivial
  | cons c r => exact Nat.lt_of_le_of_lt h g

/-- Nothing below the first cell is listed. -/
theorem Cells.get_above {l : List Host.Cell} {a : Nat} (w : Cells.wf l = true) (h : Cells.above a l) : Cells.get l a = 0 := by
  induction l generalizing a with
  | nil => rfl
  | cons c r ih =>
    obtain ⟨_, h2, h3⟩ := Cells.wf_cons.mp w
    have hc : a < c.1 := h
    rw [Cells.get, if_neg (by omega)]
    exact ih h3 (Cells.above_trans (by omega) h2)

theorem Cells.set_above {l : List Host.Cell} {a b : Nat} {v : Byte} (w : Cells.wf l = true) (h : Cells.above b l) (g : b < a) :
    Cells.above b (Cells.set l a v) := by
  cases l with
  | nil => unfold Cells.set Cells.cons; split <;> simp [Cells.above, g]
  | cons c r =>
    have hc : b < c.1 := h
    have hr : Cells.above b r := Cells.above_trans (Nat.le_of_lt hc) (Cells.wf_cons.mp w).2.1
    unfold Cells.set Cells.cons
    repeat' split
    all_goals first | exact hr | exact hc | exact g

theorem Cells.wf_set {l : List Host.Cell} (a : Nat) (v : Byte) (w : Cells.wf l = true) : Cells.wf (Cells.set l a v) = true := by
  induction l with
  | nil => unfold Cells.set Cells.cons; split <;> simp_all [Cells.wf]
  | cons c r ih =>
    obtain ⟨h1, h2, h3⟩ := Cells.wf_cons.mp w
    unfold Cells.set Cells.cons
    split
    · rename_i e
      split
      · exact h3
      · rename_i hv; exact Cells.wf_cons.mpr ⟨hv, e ▸ h2, h3⟩
    · split
      · split
        · exact w
        · rename_i hv; exact Cells.wf_cons.mpr ⟨hv, by assumption, w⟩
      · exact Cells.wf_cons.mpr ⟨h1, Cells.set_above h3 h2 (by omega), ih h3⟩

theorem Cells.get_cons {a b : Nat} {v : Byte} {r : List Host.Cell} (h : v = 0 → Cells.get r a = 0) :
    Cells.get (Cells.cons a v r) b = if b = a then v else Cells.get r b := by
  unfold Cells.cons
  split
  · rename_i hv
    split
    · rename_i e; rw [e, h hv, hv]
    · rfl
  · by_cases e : b = a
    · simp [Cells.get, e]
    · have : ¬ a = b := fun h => e h.symm
      simp [Cells.get, e, this]

/-- A byte written reads back, and every other byte is as before. -/
theorem Cells.get_set {l : List Host.Cell} (a b : Nat) (v : Byte) (w : Cells.wf l = true) :
    Cells.get (Cells.set l a v) b = if b = a then v else Cells.get l b := by
  induction l with
  | nil => rw [Cells.set, Cells.get_cons (fun _ => rfl)]
  | cons c r ih =>
    obtain ⟨h1, h2, h3⟩ := Cells.wf_cons.mp w
    rw [Cells.set]
    split
    · rename_i e
      rw [Cells.get_cons (fun _ => Cells.get_above h3 (e ▸ h2))]
      by_cases hb : b = a
      · rw [if_pos hb, if_pos hb]
      · have hc : ¬ c.1 = b := by omega
        simp only [hb, if_false, Cells.get, hc]
    · split
      · rename_i _ hlt
        rw [Cells.get_cons (fun _ => Cells.get_above w hlt)]
      · rw [Cells.get, ih h3]
        by_cases hc : c.1 = b
        · have hb : ¬ b = a := by omega
          simp [Cells.get, hc, hb]
        · simp [Cells.get, hc]

/-- A byte written changes no other, canonical or not. -/
theorem Cells.get_set_ne (l : List Host.Cell) {a b : Nat} (v : Byte) (h : b ≠ a) : Cells.get (Cells.set l a v) b = Cells.get l b := by
  have hcons : ∀ r, Cells.get (Cells.cons a v r) b = Cells.get r b := by
    intro r
    unfold Cells.cons
    split
    · rfl
    · simp [Cells.get, Ne.symm h]
  induction l with
  | nil => rw [Cells.set, hcons]
  | cons c r ih =>
    rw [Cells.set]
    split
    · rename_i e
      have : ¬ c.1 = b := by omega
      rw [hcons, Cells.get, if_neg this]
    · split
      · rw [hcons]
      · rw [Cells.get, ih]; rfl

theorem Cells.filter_above {l : List Host.Cell} {a : Nat} (p : Host.Cell → Bool) (w : Cells.wf l = true) (h : Cells.above a l) :
    Cells.above a (l.filter p) := by
  induction l generalizing a with
  | nil => trivial
  | cons c r ih =>
    obtain ⟨_, h2, h3⟩ := Cells.wf_cons.mp w
    rw [List.filter_cons]
    split
    · exact h
    · exact Cells.above_trans (Nat.le_of_lt h) (ih h3 h2)

theorem Cells.wf_filter {l : List Host.Cell} (p : Host.Cell → Bool) (w : Cells.wf l = true) : Cells.wf (l.filter p) = true := by
  induction l with
  | nil => rfl
  | cons c r ih =>
    obtain ⟨h1, h2, h3⟩ := Cells.wf_cons.mp w
    rw [List.filter_cons]
    split
    · exact Cells.wf_cons.mpr ⟨h1, Cells.filter_above p h3 h2, ih h3⟩
    · exact ih h3

theorem Cells.wf_clear {l : List Host.Cell} (lo hi : Nat) (w : Cells.wf l = true) : Cells.wf (Cells.clear l lo hi) = true := Cells.wf_filter _ w

theorem Cells.get_clear {l : List Host.Cell} (lo hi a : Nat) (w : Cells.wf l = true) :
    Cells.get (Cells.clear l lo hi) a = if lo ≤ a ∧ a < hi then 0 else Cells.get l a := by
  induction l with
  | nil => simp [Cells.clear, Cells.get]
  | cons c r ih =>
    obtain ⟨_, h2, h3⟩ := Cells.wf_cons.mp w
    have ih' := ih h3
    simp only [Cells.clear] at ih' ⊢
    rw [List.filter_cons]
    by_cases k : c.1 < lo ∨ hi ≤ c.1
    · have kb : (decide (c.1 < lo) || decide (hi ≤ c.1)) = true := by simpa using k
      rw [if_pos kb, Cells.get, ih']
      by_cases e : c.1 = a
      · simp [Cells.get, e]; omega
      · simp [Cells.get, e]
    · have kb : ¬ (decide (c.1 < lo) || decide (hi ≤ c.1)) = true := by simpa using k
      rw [if_neg kb, ih']
      by_cases e : c.1 = a
      · rw [if_pos (by omega), if_pos (by omega)]
      · simp [Cells.get, e]

/-! ## Memories -/

namespace Mem

theorem wf_iff {m : Mem} : m.wf = true ↔ Cells.wf m.data = true ∧ Cells.wf m.syn = true := by simp [Mem.wf]

theorem wf_put {m : Mem} (a : Nat) (d : Byte) (y : Nat) (w : m.wf = true) : (m.put a d y).wf = true := by
  rw [wf_iff] at w ⊢
  exact ⟨Cells.wf_set _ _ w.1, Cells.wf_set _ _ w.2⟩

theorem byte_put {m : Mem} (a b : Nat) (d : Byte) (y : Nat) (w : m.wf = true) : (m.put a d y).byte b = if b = a then d else m.byte b :=
  Cells.get_set _ _ _ (wf_iff.mp w).1

theorem syndrome_put {m : Mem} (a b : Nat) (d : Byte) (y : Nat) (w : m.wf = true) :
    (m.put a d y).syndrome b = if b = a then y % 4 else m.syndrome b := by
  unfold Mem.syndrome Mem.put
  simp only
  rw [Cells.get_set _ _ _ (wf_iff.mp w).2]
  split
  · simp [BitVec.toNat_ofNat]
  · rfl

theorem wf_putByte {m : Mem} (a : Nat) (d : Byte) (w : m.wf = true) : (m.putByte a d).wf = true := wf_put _ _ _ w
theorem wf_putPoison {m : Mem} (a k : Nat) (w : m.wf = true) : (m.putPoison a k).wf = true := wf_put _ _ _ w
theorem wf_misread {m : Mem} (a b : Nat) (w : m.wf = true) : (m.misread a b).wf = true := wf_put _ _ _ w
theorem wf_disturb {m : Mem} (u : Upset) (w : m.wf = true) : (m.disturb u).wf = true := wf_put _ _ _ w

/-- A misaddressed read of a byte that passes where it is stored passes its check just when the hash bits of the two addresses agree (R304, R306). -/
theorem misread_passes {m : Mem} (a b : Nat) (w : m.wf = true) (h : m.syndrome b = 0) :
    (m.misread a b).syndrome a = 0 ↔ xorEven a = xorEven b ∧ xorOdd a = xorOdd b := by
  rw [Mem.misread, syndrome_put _ _ _ _ w, if_pos rfl, h]
  unfold checkBits
  generalize xorEven a = p, xorOdd a = q, xorEven b = p', xorOdd b = q', xorEven (m.byte b).toNat = d, xorOdd (m.byte b).toNat = e
  revert p q p' q' d e
  decide

/-- A fold of operations each of which keeps the canonical form keeps it. -/
theorem wf_foldl {α : Type} (f : Mem → α → Mem) (h : ∀ m x, m.wf = true → (f m x).wf = true) (l : List α) {m : Mem} (w : m.wf = true) :
    (l.foldl f m).wf = true := by
  induction l generalizing m with
  | nil => exact w
  | cons x r ih => exact ih (h _ _ w)

theorem wf_poisonGranule {m : Mem} (a k : Nat) (w : m.wf = true) : (m.poisonGranule a k).wf = true :=
  wf_foldl _ (fun _ b h => wf_putPoison b k h) _ w

theorem wf_writeBytes {m : Mem} (a : Nat) (bs : List Byte) (w : m.wf = true) : (m.writeBytes a bs).wf = true :=
  wf_foldl _ (fun _ e h => wf_putByte (a + e.2) e.1 h) _ w

theorem wf_write {m : Mem} (a : Nat) (bs : List PByte) (w : m.wf = true) : (m.write a bs).wf = true := by
  have h1 : ((bs.zipIdx).foldl (fun m e => if e.1.poison = 0 then m.putByte (a + e.2) e.1.val else m) m).wf = true :=
    wf_foldl _ (fun m e h => by split; exacts [wf_putByte _ _ h, h]) _ w
  unfold Mem.write
  simp only
  split
  · exact h1
  · exact wf_foldl _ (fun m i h => by split; exacts [h, wf_poisonGranule _ _ h]) _ h1

theorem wf_clear {m : Mem} (lo hi : Nat) (w : m.wf = true) : (m.clear lo hi).wf = true := by
  rw [wf_iff] at w ⊢
  exact ⟨Cells.wf_clear _ _ w.1, Cells.wf_clear _ _ w.2⟩

/-- Bytes written change nothing outside themselves. -/
theorem byte_writeBytes_outside (m : Mem) (a b : Nat) (bs : List Byte) (h : b < a ∨ a + bs.length ≤ b) : (m.writeBytes a bs).byte b = m.byte b := by
  suffices H : ∀ (l : List (Byte × Nat)) (m : Mem), (∀ e ∈ l, a + e.2 ≠ b) →
      (l.foldl (fun m e => m.putByte (a + e.2) e.1) m).byte b = m.byte b by
    refine H _ m (fun e he => ?_)
    have := List.mem_zipIdx he
    omega
  intro l
  induction l with
  | nil => intro m _; rfl
  | cons x r ih =>
    intro m h
    rw [List.foldl_cons, ih _ (fun e he => h e (List.mem_cons_of_mem _ he))]
    exact Cells.get_set_ne _ _ (Ne.symm (h x (by simp)))

end Mem

end Sys2Proof.Machine
end

