-- ==== Sys2Proof/Laws/Reports.lean ====
section
/-! SUPPORT. Reports: what an interrupt source, a log entry, a message and an event change of the machine, and what they all leave. -/

namespace Sys2Proof.Machine

/-! ## The machine without its registers -/

@[simp] theorem Mach.noRegs_setF (m : Mach) (s : Nat) (f : Fld) (v i : Nat) : (m.setF s f v i).noRegs = m.noRegs := by
  match s with
  | 0 | 1 | 2 | 3 | _ + 4 => rfl

@[simp] theorem Mach.noRegs_bumpF (m : Mach) (s : Nat) (f : Fld) (i n : Nat) : (m.bumpF s f i n).noRegs = m.noRegs := Mach.noRegs_setF _ _ _ _ _

@[simp] theorem Mach.bare_setF (m : Mach) (s : Nat) (f : Fld) (v i : Nat) : (m.setF s f v i).bare = m.bare := by
  match s with
  | 0 | 1 | 2 | 3 | _ + 4 => rfl

@[simp] theorem Mach.bare_bumpF (m : Mach) (s : Nat) (f : Fld) (i n : Nat) : (m.bumpF s f i n).bare = m.bare := Mach.bare_setF _ _ _ _ _

theorem Mach.bare_updStk (m : Mach) (s : Nat) (f : Stack → Stack)
    (h : { f (m.stk s) with csr := [], bureau := { (f (m.stk s)).bureau with changeLog := [], errLog := [], latches := [] } } =
      { m.stk s with csr := [], bureau := { (m.stk s).bureau with changeLog := [], errLog := [], latches := [] } }) :
    (m.updStk s f).bare = m.bare := by
  match s, h with
  | 0, h | 1, h | 2, h | 3, h => simp only [Mach.bare, Mach.updStk, Quad.modify, Quad.map, Mach.stk, Quad.get] at h ⊢; rw [h]
  | _ + 4, _ => rfl

/-! ## What a report leaves -/

/-- Machine n is m after reports: nothing outside what a report changes is different. -/
structure Reports (m n : Mach) : Prop where
  bare : n.bare = m.bare
  low  : ∀ a, a < 0x8_0000 → n.host.bar2.byte a = m.host.bar2.byte a
  regs : ∀ v f j, reportPlace (f.key j) = false → n.getF v f j = m.getF v f j

namespace Reports

theorem refl (m : Mach) : Reports m m := ⟨rfl, fun _ _ => rfl, fun _ _ _ _ => rfl⟩

theorem trans {m n p : Mach} (h : Reports m n) (g : Reports n p) : Reports m p :=
  ⟨g.bare.trans h.bare, fun a k => (g.low a k).trans (h.low a k), fun v f j k => (g.regs v f j k).trans (h.regs v f j k)⟩

/-- A field at a place of reports may be set. -/
theorem setF (m : Mach) (s : Nat) (f : Fld) (v i : Nat) (h : reportPlace (f.key i) = true) : Reports m (m.setF s f v i) :=
  ⟨by simp, fun _ _ => rfl, fun u g j k => Mach.getF_setF_key _ _ _ _ _ _ _ _ (fun e => by rw [e, h] at k; exact absurd k (by decide))⟩

theorem bumpF (m : Mach) (s : Nat) (f : Fld) (i n : Nat) (h : reportPlace (f.key i) = true) : Reports m (m.bumpF s f i n) := setF _ _ _ _ _ h

/-- Logs and latches of a Bureau may change. -/
theorem updStk (m : Mach) (s : Nat) (f : Stack → Stack)
    (h : { f (m.stk s) with csr := [], bureau := { (f (m.stk s)).bureau with changeLog := [], errLog := [], latches := [] } } =
      { m.stk s with csr := [], bureau := { (m.stk s).bureau with changeLog := [], errLog := [], latches := [] } })
    (c : (f (m.stk s)).csr = (m.stk s).csr) : Reports m (m.updStk s f) :=
  ⟨Mach.bare_updStk _ _ _ h, fun _ _ => rfl, fun _ _ _ _ => Mach.getF_updStk _ _ _ _ _ _ c⟩

/-- The event ring, its queue and MSI-X may change. -/
theorem host (m : Mach) (h : HostSt)
    (e : { h with bar2 := {}, evQueue := [], evLost := 0, evSerial := 0, msixPend := [], msixSent := [] } =
      { m.host with bar2 := {}, evQueue := [], evLost := 0, evSerial := 0, msixPend := [], msixSent := [] })
    (l : ∀ a, a < 0x8_0000 → h.bar2.byte a = m.host.bar2.byte a) : Reports m { m with host := h } := by
  refine ⟨?_, l, fun _ _ _ _ => rfl⟩
  simp only [Mach.bare]
  rw [e]

theorem key_srcCfg (f : Fld) (hf : f.reg = Reg.INTC_SRC_CFG) (hl : f.lo < 64) (i : Nat) (h : i < 1024) : reportPlace (f.key i) = true := by
  have : f.key i / 64 = 0x4D0_0000 + i * 8 := by
    simp only [Fld.key, hf, RegDef.off, Reg.INTC_SRC_CFG]; omega
  simp only [reportPlace, this]
  have h1 : decide (0x4D0_0000 ≤ 0x4D0_0000 + i * 8) = true := by simp
  have h2 : decide (0x4D0_0000 + i * 8 < 0x4E0_0000) = true := by simp; omega
  rw [h1, h2]; rfl

theorem srcEdgeNow (m : Mach) (s x : Nat) (h : x < 1024) : Reports m (m.srcEdgeNow s x) := by
  unfold Mach.srcEdgeNow
  split
  · exact bumpF _ _ _ _ _ (key_srcCfg _ rfl (by decide) _ h)
  · exact setF _ _ _ _ _ (key_srcCfg _ rfl (by decide) _ h)

theorem srcEdge (m : Mach) (s x : Nat) : Reports m (m.srcEdge s x) := by
  unfold Mach.srcEdge
  split
  · exact refl m
  · split
    · split
      · exact bumpF _ _ _ _ _ (by decide)
      · exact updStk _ _ _ rfl rfl
    · exact srcEdgeNow _ _ _ (by omega)

theorem coreCause (m : Mach) (s p : Nat) (h : p < 864) : Reports m (m.coreCause s p) := by
  have hi : 2 * posRow p + posHalf p < 48 := by
    simp only [posRow, posHalf]; split <;> omega
  refine (setF m s Reg.INTC_CORE_PENDING_CORES _ (2 * posRow p + posHalf p) ?_).trans (srcEdge _ _ _)
  have key : Reg.INTC_CORE_PENDING_CORES.key (2 * posRow p + posHalf p) / 64 = 0x4D0_2200 + (2 * posRow p + posHalf p) * 8 := by
    simp only [Fld.key, RegDef.off, Reg.INTC_CORE_PENDING_CORES, Reg.INTC_CORE_PENDING]; omega
  simp only [reportPlace, key]
  have h1 : decide (0x4D0_0000 ≤ 0x4D0_2200 + (2 * posRow p + posHalf p) * 8) = true := by simp; omega
  have h2 : decide (0x4D0_2200 + (2 * posRow p + posHalf p) * 8 < 0x4E0_0000) = true := by simp; omega
  rw [h1, h2]; rfl

theorem key_next (i : Nat) (h : i < 2) : reportPlace (Reg.LOG_NEXT_SERIAL.key i) = true := by
  match i, h with
  | 0, _ | 1, _ => decide

theorem key_lost (i : Nat) (h : i < 2) : reportPlace (Reg.LOG_LOST_LOST.key i) = true := by
  match i, h with
  | 0, _ | 1, _ => decide

theorem lostIf (m : Mach) (s i : Nat) (p : Prop) [Decidable p] (h : i < 2) : Reports m (if p then m.bumpF s Reg.LOG_LOST_LOST i else m) := by
  split
  · exact bumpF _ _ _ _ _ (key_lost i h)
  · exact refl _

theorem logChange (m : Mach) (s : Nat) (e : ChangeEntry) : Reports m (m.logChange s e) :=
  ((updStk m s (fun k => { k with bureau := { k.bureau with
    changeLog := ringPush 16384 k.bureau.changeLog { e with time := m.now s, serial := m.getF s Reg.LOG_NEXT_SERIAL 0 } } }) rfl rfl).trans
    (lostIf _ s 0 _ (by decide))).trans (setF _ s _ _ 0 (key_next 0 (by decide)))

theorem logError (m : Mach) (s code unit index addr : Nat) (d : List Nat) : Reports m (m.logError s code unit index addr d) :=
  ((updStk m s (fun k => { k with bureau := { k.bureau with
    errLog := ringPush 4096 k.bureau.errLog ⟨m.now s, m.getF s Reg.LOG_NEXT_SERIAL 1, code, s, unit, index, addr, d⟩ } }) rfl rfl).trans
    (lostIf _ s 1 _ (by decide))).trans (setF _ s _ _ 1 (key_next 1 (by decide)))

theorem logBureau (m : Mach) (s addr old new : Nat) : Reports m (m.logBureau s addr old new) := logChange _ _ _
theorem logHost (m : Mach) (s addr old new : Nat) (r : Bool) : Reports m (m.logHost s addr old new r) := logChange _ _ _

theorem sendVector (m : Mach) (v : Nat) : Reports m (m.sendVector v) := by
  refine host m _ ?_ ?_
  · dsimp only; repeat' split
    all_goals rfl
  · intro a _; dsimp only; repeat' split
    all_goals rfl

theorem ringWrite (m : Mach) (e : Event) : Reports m (m.ringWrite e) := by
  unfold Mach.ringWrite
  dsimp only
  generalize m.getF 0 Reg.MBX_EVT_HEAD_HEAD = n
  generalize eventBytes e m.host.evSerial = bs
  have hb : ∀ a, a < 0x8_0000 → (m.host.bar2.writeBytes (0x8_0000 + n % 4096 * 64) bs).byte a = m.host.bar2.byte a :=
    fun a h => Mem.byte_writeBytes_outside _ _ _ _ (Or.inl (by omega))
  generalize m.host.bar2.writeBytes (0x8_0000 + n % 4096 * 64) bs = b at hb
  have h := host m { m.host with bar2 := b, evSerial := m.host.evSerial + 1 } rfl hb
  exact (h.trans (setF _ 0 Reg.MBX_EVT_HEAD_HEAD (n + 1) 0 (by decide))).trans (sendVector _ _)

theorem eventAs (m : Mach) (s tag code : Nat) (args : List Nat) (st : Nat) : Reports m (m.eventAs s tag code args st) := by
  unfold Mach.eventAs
  refine (logError m s st 0 0 0 (code :: args)).trans ?_
  generalize m.logError s st 0 0 0 (code :: args) = n
  dsimp only
  split
  · exact ringWrite _ _
  · split
    · exact (host n { n.host with evQueue := n.host.evQueue ++ [⟨code, st, tag, args, m.now s⟩] } rfl (fun _ _ => rfl)).trans
        (setF _ 0 Reg.MBX_EVT_STATUS_QUEUED _ 0 (by decide))
    · exact ((host n { n.host with evLost := n.host.evLost + 1 } rfl (fun _ _ => rfl)).trans
        (bumpF _ 0 Reg.MBX_EVT_STATUS_LOST 0 1 (by decide))).trans (setF _ 0 Reg.MBX_EVT_STATUS_OVERFLOW 1 0 (by decide))

theorem event (m : Mach) (s code : Nat) (args : List Nat) (st : Nat) : Reports m (m.event s code args st) := eventAs _ _ _ _ _ _

theorem drainEvents (n : Nat) (m : Mach) : Reports m (m.drainEvents n) := by
  induction n generalizing m with
  | zero => exact refl m
  | succ n ih =>
    unfold Mach.drainEvents
    split
    · exact refl m
    · split
      · exact (((host m { m.host with evLost := 0 } rfl (fun _ _ => rfl)).trans (logError _ _ _ _ _ _ _)).trans (ringWrite _ _)).trans (ih _)
      · split
        · exact refl m
        · rename_i r _
          exact (((host m { m.host with evQueue := r } rfl (fun _ _ => rfl)).trans (ringWrite _ _)).trans
            (setF _ 0 Reg.MBX_EVT_STATUS_QUEUED r.length 0 (by decide))).trans (ih _)

end Reports

end Sys2Proof.Machine
end

