-- ==== Sys2Proof/Machine/Package.lean ====
section
/-! DEFINITION. The package as the board sees it: outlines, the contact map of a stack, its placement in a part, pins, rails and ratings
(spec/21_electrical_and_package.md, R534 to R557). No command reads any of it: these are the part's tables. -/

namespace Sys2Proof.Machine

/-! ## Outlines (R534, R557) -/

/-- The outline of a part (Table EL-1): body in mm, contact pitch in tenths of a mm, contact columns and rows, typical mass in g. -/
structure Outline where
  bodyX   : Nat
  bodyY   : Nat
  pitch   : Nat
  columns : Nat
  rows    : Nat
  mass    : Nat
  deriving DecidableEq, Repr

/-- Table EL-1. -/
def Part.outline : Part → Outline
  | .S => ⟨100, 100, 10, 91, 91, 95⟩
  | .D => ⟨150, 115, 8, 182, 91, 210⟩
  | .Q => ⟨150, 150, 8, 182, 182, 290⟩

/-- TDP in W, and the least flow of coolant in tenths of a litre per minute (Table EL-16). -/
def Part.tdp : Part → Nat × Nat
  | .S => (1300, 20)
  | .D => (2550, 40)
  | .Q => (5000, 80)

/-! ## The stack field (R536 to R542) -/

/-- What a contact carries: ground, a rail by its index in Table PW-1, one wire of a link lane or of a PCIe lane, or a named signal. -/
inductive Contact where
  | vss
  | rail (i : Nat)
  | link (n lane : Nat) (tx pos : Bool)
  | pcie (lane : Nat) (tx pos : Bool)
  | lp (channel : Nat) (name : String)
  | signal (name : String)
  deriving DecidableEq, Repr

/-- The first column of the block of link n (R538). -/
def linkColumn (n : Nat) : Nat :=
  let k := n % 12
  if k ≤ 5 then 3 + 7 * k else 46 + 7 * (k - 6)

/-- A contact of the north link zone at (x, y), for links `base` to `base` + 11 (R538): lane m has its pair at columns 2 (m mod 3) and rows 2 ⌊m / 3⌋ of
its block, transmitters from row 0 and receivers from row 6. -/
def linkContact (base x y : Nat) : Contact :=
  match (List.range 12).find? (fun k => linkColumn k ≤ x && x < linkColumn k + 6) with
  | none => .vss
  | some k =>
    if y % 2 = 1 ∨ 12 ≤ y then .vss
    else
      let dx := x - linkColumn k
      .link (base + k) (dx / 2 + 3 * (y % 6 / 2)) (decide (y < 6)) (dx % 2 = 0)

/-- The contacts of one LPDDR5X channel by row and column (Table EL-4). -/
def lpNames : List (List String) :=
  [["VSS", "DQ0", "DQ1", "VSS", "DQ2", "DQ3", "VSS", "DQ4", "DQ5", "VSS", "DQ6", "DQ7"],
   ["WCK0_T", "WCK0_C", "RDQS0_T", "RDQS0_C", "DMI0", "VSS", "DMI1", "RDQS1_T", "RDQS1_C", "WCK1_T", "WCK1_C", "VSS"],
   ["VSS", "DQ8", "DQ9", "VSS", "DQ10", "DQ11", "VSS", "DQ12", "DQ13", "VSS", "DQ14", "DQ15"],
   ["CK_T", "CK_C", "CS", "CA0", "CA1", "CA2", "CA3", "CA4", "CA5", "CA6", "VSS", "VSS"]]

/-- A contact of the LPDDR5X zone of channels `base` to `base` + 15, its column counted from the edge of the field (R539). -/
def lpContact (base x y : Nat) : Contact :=
  let name := (lpNames.getD ((y - 13) % 4) []).getD x "VSS"
  if name = "VSS" then .vss else .lp (base + (y - 13) / 4) name

/-- A contact of the PCIe zone (R540). -/
def pcieContact (x y : Nat) : Contact :=
  let l := (x - 26) / 3
  let k := (x - 26) % 3
  if k = 2 ∨ (y ≠ 72 ∧ y ≠ 74) then .vss else .pcie l (y = 72) (k = 0)

/-- The sense pairs in the order of R541. -/
def senseNames : List String :=
  ["CORE_NW", "CORE_NE", "CORE_SW", "CORE_SE", "CACHE", "SRAM", "LINK", "LINKA", "PCIE", "LPQ", "LP2H", "AON", "IO18"]

/-- The named signals of row 076 from column 014 on; VSS, and the rails VDD_AON and VDD_IO18, by their names (Table EL-5). -/
def sidebandNames : List String :=
  ["VSS", "REFCLK100_P", "REFCLK100_N", "VSS", "LREFCLK156_P", "LREFCLK156_N", "VSS", "RTC_XI", "VSS", "RTC_XO", "VSS", "VDD_AON", "VDD_AON", "VDD_AON",
   "VDD_AON", "PERST_N", "PWR_GOOD", "WAKE_IN_N", "THERMTRIP_N", "ALERT_N", "VSS"] ++
  ["I3C_SCL", "I3C_SDA", "PMBUS_SCL", "PMBUS_SDA", "PMBUS_ALERT_N", "VSS", "AVS_CLK", "AVS_MDATA", "AVS_SDATA", "VSS", "TCK", "TMS", "TDI", "TDO", "TRST_N",
   "TEST_EN", "VSS"] ++
  ["FLASH_CLK", "FLASH_CS_N", "FLASH_IO0", "FLASH_IO1", "FLASH_IO2", "FLASH_IO3", "VSS", "GPIO0", "GPIO1", "GPIO2", "GPIO3", "GPIO4", "GPIO5", "GPIO6",
   "GPIO7", "VSS", "VDD_IO18", "VDD_IO18", "VDD_IO18", "VDD_IO18", "VDD_IO18", "VDD_IO18", "VDD_IO18", "VDD_IO18", "VSS"]

/-- A named contact: ground, a rail of the sideband rows, or a signal. -/
def namedContact (n : String) : Contact :=
  if n = "VSS" then .vss else if n = "VDD_AON" then .rail 8 else if n = "VDD_IO18" then .rail 9 else .signal n

/-- Row 077 of the sideband zone: thermistors, sense pairs, VDD_AON (R541, Table EL-5). -/
def senseContact (x : Nat) : Contact :=
  if 15 ≤ x ∧ x ≤ 29 ∧ x % 2 = 1 then .signal ("THM_IN" ++ toString ((x - 15) / 2))
  else if 31 ≤ x ∧ x ≤ 68 then
    let n := senseNames.getD ((x - 31) / 3) ""
    let k := (x - 31) % 3
    if k = 0 then .signal ("VSNS_" ++ n ++ "_P") else if k = 1 then .signal ("VSNS_" ++ n ++ "_N") else .vss
  else if 70 ≤ x ∧ x ≤ 73 then .rail 8
  else .vss

/-- A contact of the centre zone outside the PCIe zone and row 070 beneath it (R542). -/
def centreContact (x y : Nat) : Contact :=
  if (x + y) % 2 = 0 then .vss else if y % 8 = 5 then .rail 1 else if y % 8 = 1 then .rail 2 else .rail 0

/-- The contact (x, y) of a stack field (R537, Table EL-3). -/
def fieldContact (x y : Nat) : Contact :=
  if y ≤ 11 then linkContact 0 x y
  else if 79 ≤ y then linkContact 12 x (90 - y)
  else if y = 12 ∨ y = 78 then (if x % 3 = 0 then .rail 4 else .rail 3)
  else if y = 77 ∧ (x ≤ 13 ∨ 77 ≤ x) then .vss
  else if x ≤ 11 then lpContact 0 x y
  else if 79 ≤ x then lpContact 16 (90 - x) y
  else if x = 12 ∨ x = 78 then .rail 7
  else if x = 13 then (if y = 13 then .signal "LP_RESET_N_W" else if y = 76 then .signal "LP_ZQ_W" else .rail 6)
  else if x = 77 then (if y = 13 then .signal "LP_RESET_N_E" else if y = 76 then .signal "LP_ZQ_E" else .rail 6)
  else if y = 76 then namedContact (sidebandNames.getD (x - 14) "VSS")
  else if y = 77 then senseContact x
  else if 26 ≤ x ∧ x ≤ 73 ∧ 71 ≤ y then pcieContact x y
  else if 26 ≤ x ∧ x ≤ 73 ∧ y = 70 then .rail 5
  else centreContact x y

/-! ## Placement in a part (R535, R536, Table AR-6) -/

/-- The rotation of a stack from the reference orientation. -/
inductive Rotation where
  | none
  | clockwise
  | anticlockwise
  | half
  deriving DecidableEq, Repr

/-- The rotation of stack s (Table AR-6). -/
def Part.rotation (p : Part) (s : Nat) : Rotation :=
  match p with
  | .S => .none
  | .D => if s = 0 then .none else .half
  | .Q => [Rotation.none, .clockwise, .anticlockwise, .half].getD s .none

/-- OX and OY of stack s (R536): 91 for the east position, and for the south position of a Q part. -/
def Part.fieldOffset (p : Part) (s : Nat) : Nat × Nat :=
  match p with
  | .S => (0, 0)
  | .D => (if s = 1 then 91 else 0, 0)
  | .Q => (if s % 2 = 1 then 91 else 0, if 2 ≤ s then 91 else 0)

/-- Column and row in the part of contact (x, y) of the field of stack s (Table EL-2). -/
def Part.place (p : Part) (s x y : Nat) : Nat × Nat :=
  let o := p.fieldOffset s
  match p.rotation s with
  | .none => (x + o.1, y + o.2)
  | .clockwise => (90 - y + o.1, x + o.2)
  | .anticlockwise => (y + o.1, 90 - x + o.2)
  | .half => (90 - x + o.1, 90 - y + o.2)

/-- A number in three digits. -/
def threeDigits (n : Nat) : String := toString (n / 100 % 10) ++ toString (n / 10 % 10) ++ toString (n % 10)

/-- The name of a contact (R535). -/
def contactName (c : Nat × Nat) : String := "X" ++ threeDigits c.1 ++ "Y" ++ threeDigits c.2

/-! ## Sideband pins (R543 to R545) -/

/-- How a sideband pin is driven. -/
inductive PinKind where
  | input
  | openDrain
  | pushPull
  | bidirectional
  | highZ
  deriving DecidableEq, Repr

/-- An internal pull. -/
inductive Pull where
  | none
  | up
  | down
  deriving DecidableEq, Repr

/-- The sideband signals with their type and internal pull (Table EL-7). -/
def sidebandPins : List (String × PinKind × Pull) :=
  [("PERST_N", .input, .up), ("PWR_GOOD", .input, .down), ("WAKE_IN_N", .input, .up), ("THERMTRIP_N", .openDrain, .none), ("ALERT_N", .openDrain, .none),
   ("I3C_SCL", .openDrain, .none), ("I3C_SDA", .openDrain, .none), ("PMBUS_SCL", .openDrain, .none), ("PMBUS_SDA", .openDrain, .none),
   ("PMBUS_ALERT_N", .input, .up), ("AVS_CLK", .pushPull, .none), ("AVS_MDATA", .pushPull, .none), ("AVS_SDATA", .input, .down)] ++
  [("FLASH_CLK", .pushPull, .none), ("FLASH_CS_N", .pushPull, .up), ("FLASH_IO0", .bidirectional, .up), ("FLASH_IO1", .bidirectional, .up),
   ("FLASH_IO2", .bidirectional, .up), ("FLASH_IO3", .bidirectional, .up)] ++
  (List.range 8).map (fun k => ("GPIO" ++ toString k, .bidirectional, .none)) ++
  [("TCK", .input, .down), ("TRST_N", .input, .down), ("TMS", .input, .up), ("TDI", .input, .up), ("TDO", .highZ, .none), ("TEST_EN", .input, .down)]

/-- The sideband signals that are used on stack 0 only (R543); PCIe lanes are too. -/
def primaryPins : List String :=
  ["PERST_N", "WAKE_IN_N", "RTC_XI", "RTC_XO", "FLASH_CLK", "FLASH_CS_N", "FLASH_IO0", "FLASH_IO1", "FLASH_IO2", "FLASH_IO3", "TCK", "TMS", "TDI", "TDO",
   "TRST_N"]

/-- A contact of the field of stack s is used on a part (R543). -/
def Contact.used (c : Contact) (s : Nat) : Bool :=
  match c with
  | .pcie _ _ _ => s = 0
  | .signal n => s = 0 || !primaryPins.contains n
  | _ => true

/-! ## Rails (R470, R549 to R553) -/

/-- The greatest current of rail i in A at TDP (Table PW-1). -/
def railAmps (i : Nat) : Nat := [1500, 240, 60, 40, 8, 6, 14, 20, 2, 3].getD i 0

/-- Rail i stays on in device Stop (Table PW-1). -/
def railInStop (i : Nat) : Bool := decide (5 ≤ i)

/-- The greatest voltage of rail i in mV beyond which the part may be damaged (Table EL-10); the least is −300 mV for each. -/
def railMaxMv (i : Nat) : Nat := [1000, 900, 950, 1050, 1400, 1050, 600, 1200, 900, 2100].getD i 0

/-- A voltage of rail i in mV lies within its operating tolerance (Table EL-11): ±25 mV for VDD_CORE_IN, ±3% for the others. -/
def Mach.railOperating (m : Mach) (s i mv : Nat) : Bool :=
  let n := m.railNominal s i
  if i = 0 then decide (mv ≤ n + 25) && decide (n ≤ mv + 25) else decide (100 * mv ≤ 103 * n) && decide (97 * n ≤ 100 * mv)

/-- The groups in which the board applies the rails (Table EL-12); it removes them in reverse order. -/
def powerUpGroups : List (List Nat) := [[8, 9], [2, 1], [7, 6, 5], [3, 4], [0]]

/-- The rails of every stack that the board switches off when THERMTRIP_N is asserted (R553). -/
def tripRails : List Nat := [0, 1, 2, 3, 4]

/-! ## Transmitters (R554) -/

/-- Pre-cursor and post-cursor in hundredths that TX_PRESET selects on an optical module (Table EL-14); values from 0x8 act as 0x0. -/
def presetTaps (v : Nat) : Int × Int := [(0, 0), (-5, 0), (-10, 0), (-5, -5), (-10, -5), (-15, -5), (-10, -10), (-15, -10)].getD v (0, 0)

/-- The taps of link n at its next training: those of the preset on an optical module, negotiated on copper. -/
def Mach.opticalTaps (m : Mach) (s n : Nat) : Option (Int × Int) :=
  if m.getB s Reg.LNK_CTRL_MEDIA n then some (presetTaps (m.getF s Reg.LNK_CTRL_TX_PRESET n)) else none

end Sys2Proof.Machine
end

