-- ==== Sys2Proof/Laws/Ops.lean ====
section
/-! SUPPORT. What the shared operations can do: the frames of a meaning, a request that completes, and the canonical form of memory through
reports, reads and writes. -/

namespace Sys2Proof.Machine

/-! ## The frames of a meaning -/

/-- A meaning of the part as a whole always answers its next state. -/
theorem onMach_eq (s : State) (f : Fuse → Mach → Mach) : onMach s f = .next { s with m := f s.fuse s.m } := rfl

/-- A meaning at a stack of the part. -/
theorem onStack_in {s : State} {k : Nat} (f : Fuse → Mach → Mach) (h : k < s.fuse.part.stackCount) :
    onStack s k f = .next { s with m := f s.fuse s.m } := by
  simp [onStack, h, onMach]

/-- At a stack that the part does not have. -/
theorem onStack_out {s : State} {k : Nat} (f : Fuse → Mach → Mach) (h : s.fuse.part.stackCount ≤ k) : onStack s k f = .fault (.noSuchStack k) := by
  simp [onStack, Nat.not_lt.mpr h]

/-- A meaning at a stack can do two things. -/
theorem onStack_cases (s : State) (k : Nat) (f : Fuse → Mach → Mach) :
    (k < s.fuse.part.stackCount ∧ onStack s k f = .next { s with m := f s.fuse s.m }) ∨
    (s.fuse.part.stackCount ≤ k ∧ onStack s k f = .fault (.noSuchStack k)) := by
  rcases Nat.lt_or_ge k s.fuse.part.stackCount with h | h
  · exact .inl ⟨h, onStack_in f h⟩
  · exact .inr ⟨h, onStack_out f h⟩

/-- What is fused and the queue stay as they are in every next state of such a meaning. -/
theorem onStack_next {s t : State} {k : Nat} {f : Fuse → Mach → Mach} (h : onStack s k f = .next t) :
    k < s.fuse.part.stackCount ∧ t = { s with m := f s.fuse s.m } := by
  rcases onStack_cases s k f with ⟨hk, e⟩ | ⟨_, e⟩
  · rw [e] at h; injection h with h; exact ⟨hk, h.symm⟩
  · rw [e] at h; cases h

/-- A Shoser row always answers a next state. -/
theorem shoser_eq (c : Cmd) (s : State) : shoser c s = .next { s with m := Mach.serve s.fuse s.m c } := rfl

/-- A kernel instruction at a stack of the part. -/
theorem kernel_in {a : KInstr} {s : State} (cls op : Nat) (body : KCtx → Mach → Mach) (ord : Option Bool) (h : a.stack.val < s.fuse.part.stackCount) :
    kernel a s cls op body ord = .next { s with m := s.m.issue a cls op ord body } := onStack_in _ h

/-! ## The canonical form (R24) -/

theorem Mach.canonical_iff {m : Mach} : m.canonical = true ↔
    m.mem.wf = true ∧ m.tier.wf = true ∧ m.hostMem.wf = true ∧ m.host.bar2.wf = true ∧ m.host.flash.wf = true := by
  simp [Mach.canonical, and_assoc]

/-- Machines with the same memories are canonical alike. -/
theorem Mach.canonical_congr {m n : Mach} (h1 : n.mem = m.mem) (h2 : n.tier = m.tier) (h3 : n.hostMem = m.hostMem) (h4 : n.host.bar2 = m.host.bar2)
    (h5 : n.host.flash = m.host.flash) : n.canonical = m.canonical := by
  simp only [Mach.canonical, h1, h2, h3, h4, h5]

@[simp] theorem Mach.canonical_setF (m : Mach) (s : Nat) (f : Fld) (v i : Nat) : (m.setF s f v i).canonical = m.canonical := rfl
@[simp] theorem Mach.canonical_bumpF (m : Mach) (s : Nat) (f : Fld) (i n : Nat) : (m.bumpF s f i n).canonical = m.canonical := rfl
@[simp] theorem Mach.canonical_updStk (m : Mach) (s : Nat) (f : Stack → Stack) : (m.updStk s f).canonical = m.canonical := rfl
@[simp] theorem Mach.canonical_updCache (m : Mach) (s : Nat) (f : CacheSt → CacheSt) : (m.updCache s f).canonical = m.canonical := rfl
@[simp] theorem Mach.canonical_updInteg (m : Mach) (s : Nat) (f : Integ → Integ) : (m.updInteg s f).canonical = m.canonical := rfl
@[simp] theorem Mach.canonical_updLine (m : Mach) (s L : Nat) (f : CLine → CLine) : (m.updLine s L f).canonical = m.canonical := rfl
@[simp] theorem Mach.canonical_dropLine (m : Mach) (s L : Nat) : (m.dropLine s L).canonical = m.canonical := rfl
@[simp] theorem Mach.canonical_touch (m : Mach) (s L : Nat) : (m.touch s L).canonical = m.canonical := rfl
@[simp] theorem Mach.canonical_syncPoisonDir (m : Mach) (s : Nat) : (m.syncPoisonDir s).canonical = m.canonical := rfl

/-- A fold of operations each of which keeps the canonical form keeps it. -/
theorem Mach.canonical_foldl {α : Type} (f : Mach → α → Mach) (h : ∀ m x, m.canonical = true → (f m x).canonical = true) (l : List α) {m : Mach}
    (w : m.canonical = true) : (l.foldl f m).canonical = true := by
  induction l generalizing m with
  | nil => exact w
  | cons x r ih => exact ih (h _ _ w)

/-- State.reset's memories list nothing, in canonical form. -/
theorem State.reset_canonical : State.reset.m.canonical = true ∧ State.reset.m.mem = {} ∧ State.reset.m.tier = {} ∧ State.reset.m.hostMem = {} := by
  refine ⟨by decide, rfl, rfl, rfl⟩

/-! ## Reports -/

@[simp] theorem Mach.canonical_srcEdgeNow (m : Mach) (s x : Nat) : (m.srcEdgeNow s x).canonical = m.canonical := by
  unfold Mach.srcEdgeNow; split <;> rfl

@[simp] theorem Mach.canonical_srcEdge (m : Mach) (s x : Nat) : (m.srcEdge s x).canonical = m.canonical := by
  unfold Mach.srcEdge
  split
  · rfl
  · split
    · split <;> rfl
    · simp

@[simp] theorem Mach.canonical_coreCause (m : Mach) (s p : Nat) : (m.coreCause s p).canonical = m.canonical := by simp [Mach.coreCause]

@[simp] theorem Mach.canonical_logChange (m : Mach) (s : Nat) (e : ChangeEntry) : (m.logChange s e).canonical = m.canonical := by
  unfold Mach.logChange; dsimp only; split <;> rfl

@[simp] theorem Mach.canonical_logError (m : Mach) (s code unit index addr : Nat) (d : List Nat) :
    (m.logError s code unit index addr d).canonical = m.canonical := by
  unfold Mach.logError; dsimp only; split <;> rfl

@[simp] theorem Mach.canonical_sendVector (m : Mach) (v : Nat) : (m.sendVector v).canonical = m.canonical := by
  unfold Mach.sendVector
  apply Mach.canonical_congr <;> first | rfl | (dsimp only; repeat' split) <;> rfl

theorem Mach.canonical_ringWrite {m : Mach} (e : Event) (w : m.canonical = true) : (m.ringWrite e).canonical = true := by
  unfold Mach.ringWrite
  dsimp only
  rw [Mach.canonical_sendVector, Mach.canonical_setF]
  obtain ⟨h1, h2, h3, h4, h5⟩ := Mach.canonical_iff.mp w
  exact Mach.canonical_iff.mpr ⟨h1, h2, h3, Mem.wf_writeBytes _ _ h4, h5⟩

theorem Mach.canonical_eventAs {m : Mach} (s tag code : Nat) (args : List Nat) (st : Nat) (w : m.canonical = true) :
    (m.eventAs s tag code args st).canonical = true := by
  unfold Mach.eventAs
  have h : (m.logError s st 0 0 0 (code :: args)).canonical = true := by simpa using w
  generalize m.logError s st 0 0 0 (code :: args) = n at h
  dsimp only
  split
  · exact Mach.canonical_ringWrite _ h
  · split
    · exact h
    · exact h

theorem Mach.canonical_event {m : Mach} (s code : Nat) (args : List Nat) (st : Nat) (w : m.canonical = true) :
    (m.event s code args st).canonical = true := Mach.canonical_eventAs _ _ _ _ _ w

theorem Mach.canonical_counterWrapped {m : Mach} (s : Nat) (f : Fld) (i src : Nat) (w : m.canonical = true) :
    (m.counterWrapped s f i src).canonical = true := Mach.canonical_event _ _ _ _ (by simpa using w)

/-- A message changes the MSI-X state of the host side only (R384). -/
theorem Mach.sendVector_host (m : Mach) (v : Nat) : ∃ p q, (m.sendVector v).host = { m.host with msixPend := p, msixSent := q } := by
  unfold Mach.sendVector
  by_cases h : v ∈ m.host.msixOpen
  · exact ⟨_, _, if_pos h⟩
  · by_cases g : v ∈ m.host.msixPend
    · exact ⟨m.host.msixPend, m.host.msixSent, (if_neg h).trans (if_pos g)⟩
    · exact ⟨_, _, (if_neg h).trans (if_neg g)⟩

/-! ## A request completes (R413) -/

/-- Completing a request changes BAR2, MSI-X and the mailbox registers: the front and the deferred commands, memories and pins stay. -/
theorem Mach.complete_spec (m : Mach) (r : MbxReq) (st : Nat) (p : List Byte) : let t := m.complete r st p
    t.mem = m.mem ∧ t.tier = m.tier ∧ t.hostMem = m.hostMem ∧ t.boot = m.boot ∧ t.wire = m.wire ∧ t.freeIx = m.freeIx ∧
    t.host.mbxQueue = m.host.mbxQueue ∧ t.host.deferred = m.host.deferred ∧ t.host.flash = m.host.flash ∧
    t.host.bar2 = m.host.bar2.writeBytes (responseBuf r.mbox) (responseBytes r st (m.now 0) p) := by
  have key : ∀ (b : Mem) (n : Mach), n = { m with host := { m.host with bar2 := b } } →
      let t := (((n.setF 0 Reg.MBX_STATUS_RESP_SEQ r.seq r.mbox).setF 0 Reg.MBX_STATUS_DONE 1 r.mbox).setF 0 Reg.MBX_STATUS_BUSY 0 r.mbox).sendVector r.mbox
      t.mem = m.mem ∧ t.tier = m.tier ∧ t.hostMem = m.hostMem ∧ t.boot = m.boot ∧ t.wire = m.wire ∧ t.freeIx = m.freeIx ∧
      t.host.mbxQueue = m.host.mbxQueue ∧ t.host.deferred = m.host.deferred ∧ t.host.flash = m.host.flash ∧ t.host.bar2 = b := by
    intro b n e
    have hx : ∀ k : Mach, k.host = n.host → ∃ p q, (k.sendVector r.mbox).host = { n.host with msixPend := p, msixSent := q } := by
      intro k h; rw [← h]; exact Mach.sendVector_host k r.mbox
    obtain ⟨p, q, h⟩ := hx (((n.setF 0 Reg.MBX_STATUS_RESP_SEQ r.seq r.mbox).setF 0 Reg.MBX_STATUS_DONE 1 r.mbox).setF 0 Reg.MBX_STATUS_BUSY 0 r.mbox) rfl
    subst e
    dsimp only
    rw [h]
    exact ⟨rfl, rfl, rfl, rfl, rfl, rfl, rfl, rfl, rfl, rfl⟩
  exact key _ _ rfl

theorem Mach.canonical_complete {m : Mach} (r : MbxReq) (st : Nat) (p : List Byte) (w : m.canonical = true) : (m.complete r st p).canonical = true := by
  obtain ⟨h1, h2, h3, h4, h5⟩ := Mach.canonical_iff.mp w
  obtain ⟨e1, e2, e3, -, -, -, -, -, e5, e4⟩ := Mach.complete_spec m r st p
  refine Mach.canonical_iff.mpr ⟨by rw [e1]; exact h1, by rw [e2]; exact h2, by rw [e3]; exact h3, ?_, by rw [e5]; exact h5⟩
  rw [e4]; exact Mem.wf_writeBytes _ _ h4

theorem Mach.canonical_settleMbx (n k : Nat) {m : Mach} (w : m.canonical = true) : (m.settleMbx n k).canonical = true := by
  induction k generalizing m with
  | zero => exact w
  | succ k ih =>
    unfold Mach.settleMbx
    split
    · exact w
    · dsimp only
      split
      · exact ih (Mach.canonical_complete (m := { m with host := { m.host with mbxQueue := _ } }) _ _ _ w)
      · exact w

theorem Mach.canonical_popReq (n : Nat) {m : Mach} (w : m.canonical = true) : (m.popReq n).canonical = true :=
  Mach.canonical_settleMbx (m := { m with host := { m.host with mbxQueue := m.host.mbxQueue.drop 1 } }) _ _ w

theorem Mach.canonical_defer {m : Mach} (r : MbxReq) (w : m.canonical = true) : (m.defer r).canonical = true := w

theorem Mach.canonical_respond {m : Mach} (bs : List PByte) (w : m.canonical = true) : (m.respond bs).canonical = true := w

/-! ## Reads and writes at their homes (R104, R270, R310, R395) -/

@[simp] theorem Mach.canonical_detect (m : Mach) (s k i : Nat) : (m.detect s k i).canonical = m.canonical := by
  unfold Mach.detect
  dsimp only
  split
  · rfl
  · split <;> rfl

theorem Mach.canonical_detectSorted {m : Mach} (s : Nat) (l : List (Nat × Nat)) (w : m.canonical = true) : (m.detectSorted s l).canonical = true :=
  Mach.canonical_foldl _ (fun m d h => by simpa using h) _ w

theorem Mach.canonical_detectRead {m : Mach} (a n : Nat) (w : m.canonical = true) : (m.detectRead a n).canonical = true :=
  Mach.canonical_detectSorted _ _ w

theorem Mach.canonical_detectHome {m : Mach} (a n : Nat) (w : m.canonical = true) : (m.detectHome a n).canonical = true :=
  Mach.canonical_detectSorted _ _ w

theorem Mach.canonical_sramWrite {m : Mach} (a : Nat) (bs : List PByte) (w : m.canonical = true) : (m.sramWrite a bs).canonical = true := by
  unfold Mach.sramWrite
  split
  · exact w
  · obtain ⟨h1, h2, h3, h4, h5⟩ := Mach.canonical_iff.mp w
    exact Mach.canonical_iff.mpr ⟨Mem.wf_write _ _ h1, h2, h3, h4, h5⟩

/-- Bytes written to the tier. -/
theorem Mach.canonical_tierWrite {m : Mach} (a : Nat) (bs : List PByte) (w : m.canonical = true) :
    ({ m with tier := m.tier.write a bs } : Mach).canonical = true := by
  obtain ⟨h1, h2, h3, h4, h5⟩ := Mach.canonical_iff.mp w
  exact Mach.canonical_iff.mpr ⟨h1, Mem.wf_write _ _ h2, h3, h4, h5⟩

theorem Mach.canonical_dirFull {m : Mach} (s : Nat) (w : m.canonical = true) : (m.dirFull s).canonical = true :=
  Mach.canonical_event _ _ _ _ (by simpa using w)

theorem Mach.canonical_writeback {m : Mach} (s : Nat) (c : CLine) (w : m.canonical = true) : (m.writeback s c).canonical = true := by
  have full : ∀ d : Mach, d.canonical = true → (((d.updLine s c.line (fun c => { c with held := true })).dirFull s).syncPoisonDir s).canonical = true := by
    intro d h
    rw [Mach.canonical_syncPoisonDir]; exact Mach.canonical_dirFull _ (by simpa using h)
  have done : ∀ (d : Mach) (a : Nat) (bs : List PByte), d.canonical = true →
      ((({ d with tier := d.tier.write a bs } : Mach).updLine s c.line (fun c => { c with dirty := false, held := false })).syncPoisonDir s).canonical = true := by
    intro d a bs h
    rw [Mach.canonical_syncPoisonDir, Mach.canonical_updLine]; exact Mach.canonical_tierWrite _ _ h
  unfold Mach.writeback
  split
  · exact w
  · dsimp only
    split
    · exact full _ (Mach.canonical_detectRead _ _ w)
    · exact done _ _ _ (Mach.canonical_detectRead _ _ w)

theorem Mach.canonical_makeRoom (k : Nat) {m : Mach} (s : Nat) (h : Home) (w : m.canonical = true) : (Mach.makeRoom k m s h).canonical = true := by
  induction k generalizing m with
  | zero => exact w
  | succ k ih =>
    unfold Mach.makeRoom
    split
    · exact w
    · split
      · exact w
      · rename_i c _
        have hb := Mach.canonical_writeback s c w
        split
        · exact w
        · dsimp only
          split
          · split
            · exact ih hb
            · exact hb
          · exact hb

theorem Mach.canonical_install {m : Mach} (s L : Nat) (bs : List PByte) (d p : Bool) (w : m.canonical = true) : (m.install s L bs d p).canonical = true := by
  have hr := Mach.canonical_makeRoom 17 s (m.home s L) w
  unfold Mach.install
  dsimp only
  split
  · exact hr
  · rw [Mach.canonical_updCache]; exact Mach.canonical_sramWrite _ _ hr

theorem Mach.canonical_fill {m : Mach} (s L : Nat) (w : m.canonical = true) : (m.fill s L).canonical = true := Mach.canonical_install _ _ _ _ _ w

theorem Mach.canonical_count48 {m : Mach} (s : Nat) (f o : Fld) (i src n : Nat) (w : m.canonical = true) : (m.count48 s f o i src n).canonical = true := by
  unfold Mach.count48
  dsimp only
  split
  · exact Mach.canonical_counterWrapped _ _ _ _ (by simpa using w)
  · simpa using w

theorem Mach.canonical_countLookup {m : Mach} (s L : Nat) (hit : Bool) (w : m.canonical = true) : (m.countLookup s L hit).canonical = true := by
  unfold Mach.countLookup
  dsimp only
  rw [Mach.canonical_updCache]
  split
  · exact Mach.canonical_count48 _ _ _ _ _ _ (Mach.canonical_count48 _ _ _ _ _ _ w)
  · exact Mach.canonical_count48 _ _ _ _ _ _ w

theorem Mach.canonical_countAccess {m : Mach} (s L : Nat) (hit : Bool) (w : m.canonical = true) : (m.countAccess s L hit).canonical = true := by
  unfold Mach.countAccess
  split
  · split
    · exact w
    · exact Mach.canonical_countLookup _ _ _ w
  · exact Mach.canonical_countLookup _ _ _ w

theorem Mach.canonical_lookup {m : Mach} (s L : Nat) (w : m.canonical = true) : (m.lookup s L).canonical = true := by
  have hc := Mach.canonical_countAccess s L true w
  unfold Mach.lookup
  split
  · rw [Mach.canonical_touch]; exact hc
  · exact Mach.canonical_fill _ _ hc

/-- An access to a dead line counts where it allocates. -/
theorem Mach.canonical_countIf {m : Mach} (alloc : Bool) (s L : Nat) (w : m.canonical = true) :
    (if alloc then m.countAccess s L false else m).canonical = true := by
  split
  · exact Mach.canonical_countAccess _ _ _ w
  · exact w

theorem Mach.canonical_readLine {m : Mach} (alloc : Bool) (a : Nat) (w : m.canonical = true) : (m.readLine alloc a).canonical = true := by
  unfold Mach.readLine
  dsimp only
  split
  · simpa using Mach.canonical_countIf alloc _ _ w
  · split
    · exact Mach.canonical_lookup _ _ w
    · exact w

/-- A read at its homes keeps every memory in canonical form. -/
theorem Mach.canonical_performRead {m : Mach} (alloc : Bool) (a n : Nat) (w : m.canonical = true) : (m.performRead alloc a n).1.canonical = true := by
  unfold Mach.performRead
  dsimp only
  refine Mach.canonical_detectHome _ _ ?_
  split
  · exact Mach.canonical_foldl _ (fun m x h => Mach.canonical_readLine alloc x h) _ w
  · exact w

theorem Mach.canonical_through {m : Mach} (o : Nat) (bs : List PByte) (w : m.canonical = true) : (m.through o bs).canonical = true := by
  unfold Mach.through
  split
  · obtain ⟨h1, h2, h3, h4, h5⟩ := Mach.canonical_iff.mp w
    exact Mach.canonical_iff.mpr ⟨h1, h2, Mem.wf_writeBytes _ _ h3, h4, h5⟩
  · exact w

theorem Mach.canonical_writeLine {m : Mach} (alloc : Bool) (a : Nat) (bs : List PByte) (w : m.canonical = true) : (m.writeLine alloc a bs).canonical = true := by
  have hl : (if alloc then m.lookup (daStack a) (daOff a / 128) else m).canonical = true := by
    split
    · exact Mach.canonical_lookup _ _ w
    · exact w
  have hc := Mach.canonical_countIf alloc (daStack a) (daOff a / 128) w
  unfold Mach.writeLine
  dsimp only
  generalize (if alloc then m.countAccess (daStack a) (daOff a / 128) false else m) = m0 at hc ⊢
  generalize (if alloc then m.lookup (daStack a) (daOff a / 128) else m) = m1 at hl ⊢
  split
  · split
    · refine Mach.canonical_through _ _ ?_
      rw [Mach.canonical_updLine]
      refine Mach.canonical_sramWrite _ _ ?_
      split
      · exact Mach.canonical_sramWrite _ _ (by simpa using hc)
      · exact Mach.canonical_install _ _ _ _ _ (by simpa using hc)
    · exact w
  · split
    · refine Mach.canonical_through _ _ ?_
      rw [Mach.canonical_updLine]
      exact Mach.canonical_sramWrite _ _ hl
    · split
      · exact Mach.canonical_through _ _ hl
      · rw [Mach.canonical_syncPoisonDir]; exact Mach.canonical_tierWrite _ _ hl

/-- A write at its homes keeps every memory in canonical form. -/
theorem Mach.canonical_performWrite {m : Mach} (alloc : Bool) (a : Nat) (bs : List PByte) (w : m.canonical = true) :
    (m.performWrite alloc a bs).canonical = true := by
  have h1 : ∀ (n : Mach) (p : Nat × List PByte), n.canonical = true → (n.writeLine alloc p.1 p.2).canonical = true :=
    fun n p h => Mach.canonical_writeLine alloc p.1 p.2 h
  have h2 : ∀ (n : Mach) (p : Nat × List PByte), n.canonical = true → (n.sramWrite p.1 p.2).canonical = true :=
    fun n p h => Mach.canonical_sramWrite p.1 p.2 h
  unfold Mach.performWrite
  generalize cutLines (bs.length / 128 + 2) a bs = l
  split
  · refine Mach.canonical_foldl _ ?_ l w
    exact h1
  · refine Mach.canonical_foldl _ ?_ l w
    exact h2

/-! ## The package -/

/-- A contact of a stack field lies in the grid of its part (R534, R536). -/
theorem Part.place_in_grid (p : Part) (s x y : Nat) (hs : s < p.stackCount) (hx : x < 91) (hy : y < 91) :
    (p.place s x y).1 < p.outline.columns ∧ (p.place s x y).2 < p.outline.rows := by
  have hs' : s < 4 := by cases p <;> simp [Part.stackCount] at hs <;> omega
  match s, hs' with
  | 0, _ | 1, _ | 2, _ | 3, _ => cases p <;> simp [Part.place, Part.rotation, Part.fieldOffset, Part.outline, Part.stackCount] at hs ⊢ <;> omega
end Sys2Proof.Machine
end

