-- ==== Sys2Proof/Laws/Writes.lean ====
section
/-! SUPPORT. What a write of clean bytes leaves in memory: every byte, of the written range and outside it. -/

namespace Sys2Proof.Machine

namespace Mem

/-- Bytes written one after another. -/
theorem writeBytes_cons (m : Mem) (a : Nat) (b : Byte) (bs : List Byte) : m.writeBytes a (b :: bs) = (m.putByte a b).writeBytes (a + 1) bs := by
  have h : ∀ (l : List Byte) (k : Nat) (m : Mem), (l.zipIdx (k + 1)).foldl (fun m e => m.putByte (a + e.2) e.1) m =
      (l.zipIdx k).foldl (fun m e => m.putByte (a + 1 + e.2) e.1) m := by
    intro l
    induction l with
    | nil => intro k m; rfl
    | cons x r ih =>
      intro k m
      simp only [List.zipIdx_cons, List.foldl_cons]
      rw [show a + (k + 1) = a + 1 + k by omega]
      exact ih (k + 1) _
  simp only [writeBytes, List.zipIdx_cons, List.foldl_cons]
  exact h bs 0 _

theorem writeBytes_append (m : Mem) (a : Nat) (xs ys : List Byte) :
    m.writeBytes a (xs ++ ys) = (m.writeBytes a xs).writeBytes (a + xs.length) ys := by
  induction xs generalizing m a with
  | nil => rfl
  | cons x r ih =>
    rw [List.cons_append, writeBytes_cons, writeBytes_cons, ih, List.length_cons]
    congr 1; omega

/-- Every byte after bytes written from a. -/
theorem byte_writeBytes (m : Mem) (a b : Nat) (bs : List Byte) (w : m.wf = true) :
    (m.writeBytes a bs).byte b = if a ≤ b ∧ b < a + bs.length then bs.getD (b - a) 0 else m.byte b := by
  induction bs generalizing m a with
  | nil => simp [writeBytes]
  | cons x r ih =>
    rw [writeBytes_cons, ih _ _ (wf_putByte _ _ w)]
    have hp : (m.putByte a x).byte b = if b = a then x else m.byte b := byte_put _ _ _ _ w
    rw [hp]
    by_cases e : b = a
    · subst e
      rw [if_neg (by omega), if_pos rfl, if_pos (by simp)]
      simp
    · rw [if_neg e]
      by_cases g : a + 1 ≤ b ∧ b < a + 1 + r.length
      · rw [if_pos g, if_pos (by simp only [List.length_cons]; omega)]
        obtain ⟨n, rfl⟩ : ∃ n, b = a + 1 + n := ⟨b - (a + 1), by omega⟩
        rw [show a + 1 + n - (a + 1) = n by omega, show a + 1 + n - a = n + 1 by omega, List.getD_cons_succ]
      · rw [if_neg g, if_neg (by simp only [List.length_cons]; omega)]

/-- Every syndrome after bytes written from a: those of the range are clean. -/
theorem syndrome_writeBytes (m : Mem) (a b : Nat) (bs : List Byte) (w : m.wf = true) :
    (m.writeBytes a bs).syndrome b = if a ≤ b ∧ b < a + bs.length then 0 else m.syndrome b := by
  induction bs generalizing m a with
  | nil => simp [writeBytes]
  | cons x r ih =>
    rw [writeBytes_cons, ih _ _ (wf_putByte _ _ w)]
    have hp : (m.putByte a x).syndrome b = if b = a then 0 % 4 else m.syndrome b := syndrome_put _ _ _ _ w
    rw [hp]
    by_cases e : b = a
    · subst e
      rw [if_neg (by omega), if_pos rfl, if_pos (by simp)]
    · rw [if_neg e]
      by_cases g : a + 1 ≤ b ∧ b < a + 1 + r.length
      · rw [if_pos g, if_pos (by simp only [List.length_cons]; omega)]
      · rw [if_neg g, if_neg (by simp only [List.length_cons]; omega)]

/-- Clean bytes are written as they are (R310). -/
theorem write_clean (m : Mem) (a : Nat) (bs : List Byte) : m.write a (PByte.clean bs) = m.writeBytes a bs := by
  have hall : (PByte.clean bs).all (·.poison = 0) = true := by simp [PByte.clean]
  unfold write
  simp only [hall, if_true]
  have h : ∀ (l : List Byte) (k : Nat) (m : Mem), ((PByte.clean l).zipIdx k).foldl (fun m e => if e.1.poison = 0 then m.putByte (a + e.2) e.1.val else m) m =
      (l.zipIdx k).foldl (fun m e => m.putByte (a + e.2) e.1) m := by
    intro l
    induction l with
    | nil => intro k m; rfl
    | cons x r ih =>
      intro k m
      simp only [PByte.clean, List.map_cons, List.zipIdx_cons, List.foldl_cons]
      exact ih (k + 1) _
  exact h bs 0 m

end Mem

/-- A write of clean bytes to SRAM cells of rows that have not failed leaves just those bytes (R104, R310, R333). -/
theorem Mach.performWrite_clean (m : Mach) (alloc : Bool) (a : Nat) (bs : List Byte) (h4 : daRegion a ≠ 4)
    (hr : ∀ i, i < bs.length → m.rowFailed (a + i) = false) :
    m.performWrite alloc a (PByte.clean bs) = { m with mem := m.mem.writeBytes a bs } := by
  have key : ∀ (k : Nat) (a : Nat) (bs : List Byte) (x : Mem), bs.length + a % 128 ≤ 128 * k → (∀ i, i < bs.length → m.rowFailed (a + i) = false) →
      (cutLines k a (PByte.clean bs)).foldl (fun m p => m.sramWrite p.1 p.2) { m with mem := x } = { m with mem := x.writeBytes a bs } := by
    intro k
    induction k with
    | zero =>
      intro a bs x hl _
      have : bs = [] := List.length_eq_zero_iff.mp (by omega)
      subst this; rfl
    | succ k ih =>
      intro a bs x hl hr
      match bs, hl, hr with
      | [], _, _ => rfl
      | b :: r, hl, hr =>
        have hne : PByte.clean (b :: r) ≠ [] := by simp [PByte.clean]
        have hc : ∀ n, (PByte.clean (b :: r)).take n = PByte.clean ((b :: r).take n) := fun n => by simp [PByte.clean, List.map_take]
        have hd : ∀ n, (PByte.clean (b :: r)).drop n = PByte.clean ((b :: r).drop n) := fun n => by simp [PByte.clean, List.map_drop]
        unfold cutLines
        rw [if_neg hne]
        dsimp only
        rw [hc, hd]
        simp only [List.foldl_cons]
        have h0 : ({ m with mem := x } : Mach).rowFailed a = false := hr 0 (by simp)
        have hs : ({ m with mem := x } : Mach).sramWrite a (PByte.clean ((b :: r).take (128 - a % 128))) =
            { m with mem := x.writeBytes a ((b :: r).take (128 - a % 128)) } := by
          unfold Mach.sramWrite
          rw [if_neg (by rw [h0]; decide), Mem.write_clean]
        rw [hs, ih]
        · have e : (b :: r).take (128 - a % 128) ++ (b :: r).drop (128 - a % 128) = b :: r := List.take_append_drop _ _
          by_cases hlen : (b :: r).length ≤ 128 - a % 128
          · rw [List.drop_eq_nil_of_le hlen, List.take_of_length_le hlen]; rfl
          · have ht : ((b :: r).take (128 - a % 128)).length = 128 - a % 128 := List.length_take_of_le (by omega)
            conv_rhs => rw [← e, Mem.writeBytes_append, ht]
        · have := Nat.mod_lt a (show 0 < 128 by decide)
          simp only [List.length_drop]
          by_cases hlen : (b :: r).length ≤ 128 - a % 128
          · rw [show (a + (128 - a % 128)) % 128 = 0 by omega]; omega
          · rw [show (a + (128 - a % 128)) % 128 = 0 by omega]; omega
        · intro i hi
          rw [List.length_drop] at hi
          rw [Nat.add_assoc]
          exact hr _ (by omega)
  unfold Mach.performWrite
  rw [if_neg h4]
  have hlen : (PByte.clean bs).length = bs.length := by simp [PByte.clean]
  rw [hlen]
  exact key _ a bs m.mem (by have := Nat.mod_lt a (show 0 < 128 by decide); omega) hr

end Sys2Proof.Machine
end

