-- ==== Sys2Proof/Machine/Views.lean ====
section
/-! DEFINITION. What the outside sees of the state without a command of the table: output pins, the I3C status window, the identity of the
function and of the TAP, and the priorities of requests (spec/13_host_and_memory.md, R378;
spec/15_events_and_arbitration.md, R440, R441; spec/18_thermal.md, R503; spec/21_electrical_and_package.md, R546,
R555, R556). -/

namespace Sys2Proof.Machine

/-! ## Identity -/

/-- Vendor ID, device ID, revision ID and class code of the function (R6, R7, R378). -/
def Fuse.pciIdentity (f : Fuse) : Nat × Nat × Nat × Nat := (0x1D7B, f.part.deviceId, f.revision, 0x12_0000)

/-- The IDCODE register of a TAP (R556): stepping letter, device ID, manufacturer code, 1. -/
def Fuse.idcode (f : Fuse) : BitVec 32 :=
  BitVec.ofNat 4 (f.revision / 16) ++ BitVec.ofNat 16 f.part.deviceId ++ BitVec.ofNat 11 0x4EB ++ BitVec.ofNat 1 1

/-- What the data path of the TAP of stack s shifts out of an identity register: IDCODE while that instruction is in effect; BYPASS
shifts its single bit, and a boundary scan shifts pins (R555). -/
def Mach.tapIdentity (f : Fuse) (m : Mach) (s : Nat) : Option (BitVec 32) := if m.boot.taps.get 0xFF s = 1 then some f.idcode else none

/-! ## Pins -/

/-- THERMTRIP_N of stack s is asserted: it goes with the latch TRIPPED (R503). -/
def Mach.thermtrip (m : Mach) (s : Nat) : Bool := m.getB s Reg.THM_STATUS_TRIPPED

/-! ## The I3C status window (R546) -/

/-- Byte o of the window of stack s; in Stop TEMP reads 0x8000. -/
def Mach.i3cByte (m : Mach) (s o : Nat) : Byte :=
  if o = 0 then BitVec.ofNat 8 (m.getF s Reg.BUR_STATUS_SERVICE)
  else if o = 1 then BitVec.ofNat 8 (m.getF s Reg.THM_STATUS_STACK_BAND)
  else if o = 2 then BitVec.ofNat 8 (m.getF s Reg.THM_STATUS_HOTTEST)
  else if o = 3 then
    BitVec.ofNat 8 (m.getF s Reg.THM_STATUS_STOP_HOLD + 2 * m.getF s Reg.THM_STATUS_TRIPPED + 4 * (m.alert s).toNat)
  else
    let t := if m.getF s Reg.BUR_STATUS_SERVICE = 5 then 0x8000 else m.getF s Reg.THM_CH_STATUS_TEMP ((o - 4) / 2)
    BitVec.ofNat 8 (t >>> (8 * ((o - 4) % 2)))

/-- The n bytes of a private read from stack s: they begin at the read offset, and the window wraps at its end. -/
def Mach.i3cRead (m : Mach) (s n : Nat) : List Byte := (List.range n).map (fun k => m.i3cByte s ((m.boot.i3c.get 0 s + k) % 132))

/-! ## Priorities in the fabric of the cache die (R440, R441) -/

/-- The priority that the requests of a real-time master of class k carry, by the fill of its buffer in percent and its measured latency in units of
10 ns: the larger of its two levels decides. -/
def Mach.masterPriority (m : Mach) (s k fill latency : Nat) : Nat :=
  classPriority (m.getF s Reg.REG_CLASS_CFG_BASE k) (max (levelOf fill 100) (levelOf latency (max 10 (m.getF s Reg.REG_CLASS_CFG_TARGET k))))

/-- The fixed priority of cores, movers or the Bureau, by their field of REG_ORDINARY: values outside 1 to 4 act as 4, or as 1 for 0. -/
def Mach.ordinaryPriority (m : Mach) (s : Nat) (f : Fld) : Nat :=
  let v := m.getF s f
  if v = 0 then 1 else min v 4

end Sys2Proof.Machine
end

