-- ==== Sys2Proof/Tests/Slice0.lean ====
section
/-! SUPPORT. Tests: for the hypotheses of each statement a state and operands that meet them together, commands that are not well formed, and
small results that the spec's words or tables give. -/

namespace Sys2Proof.Tests
open Sys2Proof Sys2Proof.Machine
set_option Elab.async false

/-! ## Small states -/

/-- The group slot 0 of core 0 of stack 0. -/
def ka : KInstr := { stack := 0, core := 0, slot := 0 }

/-- Instruction words laid down from offset 0 of the local memory of core 0. -/
def text (ws : List Nat) : List Host.Cell :=
  ((ws.zipIdx).flatMap (fun e => (List.range 8).map (fun i => (localAddr 0 0 0 + 8 * e.2 + i, BitVec.ofNat 8 (e.1 / 2 ^ (8 * i)))))).filter (fun c => c.2 ≠ 0)

/-- A group at the first word. -/
def grp : Group := { block := 0, index := 0, pc := 0 }

/-- A core that runs one block of one group, with the registers (lane, register, value) listed. -/
def core0 (rs : List (Nat × Nat × Nat)) (g : Group) : Core :=
  { running := true, groups := [(0, g)], launch := { active := true, blocks := 1, regs := 64, slots := [(0, 0)] },
    regs := rs.foldl (fun m e => SMap.put m (regKey 0 e.1 e.2.1) { val := BitVec.ofNat 32 e.2.2 }) [] }

/-- Stack 0 with index 0 at position 0 and a loaded core directory. -/
def baseM : Mach :=
  let m := (State.reset.m.setF 0 Reg.BUR_LOGICAL_MAP_HOME 0 0).setF 0 Reg.BUR_LOGICAL_MAP_EXEC 0 0
  m.updStk 0 (fun k => { k with plan := { k.plan with plan := { k.plan.plan with cores := [⟨0, 0, 1, 0, 64, 0, 0, 0⟩] } } })

/-- The words at offset 0 of the local memory of core 0, and that core. -/
def mk (ws : List Nat) (c : Core) : State :=
  { State.reset with m := { baseM with mem := { data := text ws } }.updCore 0 0 (fun _ => c) }

/-- An instruction word by the fields of Table KF-1: CLASS, OP, DST, SRCA, SRCB, guard p7, and the rest. -/
def iw (cls op : Nat) (d a b : Nat := 0) (rest : Nat := 0) : Nat := cls + op * 2 ^ 6 + d * 2 ^ 14 + a * 2 ^ 22 + b * 2 ^ 30 + 7 * 2 ^ 38 + rest

/-- What the group of ka sees. -/
def kx (s : State) : KCtx := s.m.ctx 0 0 0 (((s.m.canIssue 0 0 0)).getD grp)

/-- Whether an operation issues. -/
def issues (s : State) (cls op : Nat) (ord : Option Bool := none) : Bool := decide (Issues ka s cls op (kx s) ord)

/-- 64 bytes with the fields (offset, size, value) listed, and zeros. -/
def desc (fs : List (Nat × Nat × Nat)) : List Nat :=
  (List.range 64).map (fun i => fs.foldl (fun x f => if f.1 ≤ i ∧ i < f.1 + f.2.1 then f.2.2 / 2 ^ (8 * (i - f.1)) % 256 else x) 0)

/-- Bytes at an address of SRAM, above the words. -/
def withBytes (s : State) (a : Nat) (bs : List Nat) : State :=
  { s with m := { s.m with mem := { s.m.mem with data := s.m.mem.data ++
    ((bs.zipIdx).map (fun e => (a + e.2, BitVec.ofNat 8 e.1))).filter (fun c => c.2 ≠ 0) } } }

/-- State s with stack u changed by f. -/
def onStk (s : State) (u : Nat) (f : Stack → Stack) : State := { s with m := s.m.updStk u f }

/-- State s with the fields listed. -/
def flds (s : State) (l : List FieldVal) : State := { s with m := l.foldl (fun m e => m.setF e.1 e.2.1 e.2.2.2 e.2.2.1) s.m }

/-- State s with its cache partition, or its integrity part, of stack 0 changed. -/
def onCache (s : State) (f : CacheSt → CacheSt) : State := { s with m := s.m.updCache 0 f }
def onInteg (s : State) (f : Integ → Integ) : State := onStk s 0 (fun k => { k with integ := f k.integ })

/-- A D part at reset. -/
def dPart : State := { State.reset with fuse := { part := .D } }

/-- A plan in a state of BUR_PLAN_STATE on stack 0. -/
def planState (s : State) (n : Nat) : State := flds s [(0, Reg.BUR_PLAN_STATE_STATE, 0, n)]

/-! ## Kernel instructions -/

/-- Registers v2 to v5 of lane 0. -/
def regs4 : List (Nat × Nat × Nat) := [(0, 2, 7), (0, 3, 5), (0, 4, 3), (0, 5, 0)]

/-- A group whose lane 0 alone is active. -/
def grp1 : Group := { grp with active := 1, exited := 0xFFFF_FFFE }

/-- The machine with one word and lane 0 of v2:v3 holding x. -/
def at64 (w x : Nat) (g : Group := grp1) (more : List (Nat × Nat × Nat) := []) : State :=
  mk [w] (core0 ([(0, 2, x % 2 ^ 32), (0, 3, x / 2 ^ 32)] ++ more) g)

theorem hyp_IntegerSumsAndProducts : (∀ o ∈ List.range 5, issues (mk [iw 1 o 10 2 4] (core0 regs4 grp)) 1 o = true) ∧
    issues (mk [iw 1 5 10 2 4 (6 * 2 ^ 52)] (core0 regs4 grp)) 1 5 = true ∧
    -- 64-bit operands, and a destination v255 that discards
    issues (mk [iw 1 0 10 2 4 (2 ^ 42)] (core0 regs4 grp)) 1 0 = true ∧ issues (mk [iw 1 0 255 2 4] (core0 regs4 grp)) 1 0 = true := by decide +kernel

theorem hyp_IntegerDivisionDefined : ∀ o ∈ [6, 7, 8, 9], issues (mk [iw 1 o 10 2 5] (core0 regs4 grp)) 1 o = true := by decide +kernel

theorem hyp_IntegerMinMaxAndLogic : (∀ o ∈ [0xA, 0xB, 0xC, 0xD, 0xE, 0xF, 0x10], issues (mk [iw 1 o 10 2 4 (2 ^ 42)] (core0 regs4 grp)) 1 o = true) ∧
    issues (mk [iw 1 0x11 10 2] (core0 regs4 grp)) 1 0x11 = true := by decide +kernel

theorem hyp_ShiftsAndBitCounts : (∀ o ∈ [0x12, 0x13, 0x14], issues (mk [iw 1 o 10 2 4] (core0 regs4 grp)) 1 o = true) ∧
    (∀ o ∈ [0x15, 0x16, 0x17], issues (mk [iw 1 o 10 2] (core0 regs4 grp)) 1 o = true) := by decide +kernel

theorem hyp_Binary32Operations : (∀ o ∈ [0, 1, 2, 4, 5], issues (mk [iw 2 o 10 2 4] (core0 regs4 grp)) 2 o = true) ∧
    issues (mk [iw 2 3 10 2 4 (6 * 2 ^ 52)] (core0 regs4 grp)) 2 3 = true ∧ Fmt.fp32.decode 0x7F80_0001 = .nan := by decide +kernel

theorem hyp_PackedBf16AndTranscendentals : (∀ o ∈ [0, 1, 3, 4], issues (mk [iw 3 o 10 2 4] (core0 regs4 grp)) 3 o = true) ∧
    issues (mk [iw 3 2 10 2 4 (6 * 2 ^ 52)] (core0 regs4 grp)) 3 2 = true ∧
    (∀ o ∈ List.range 6, issues (mk [iw 4 o 10 2] (core0 regs4 grp)) 4 o = true) := by decide +kernel

theorem hyp_ConversionsOfKernels : ∀ o ∈ List.range 17, issues (mk [iw 5 o 10 2] (core0 regs4 grp)) 5 o = true := by decide +kernel

theorem hyp_MovesAndSpecialRegisters : issues (mk [iw 6 0 10 2] (core0 regs4 grp)) 6 0 = true ∧
    (∀ o ∈ [1, 2, 3], issues (mk [iw 6 o 10 2 4] (core0 regs4 grp)) 6 o = true) ∧
    issues (mk [iw 6 4 10 0 0 (9 * 2 ^ 52)] (core0 regs4 grp)) 6 4 = true ∧
    issues (mk [iw 8 3 10 2] (core0 regs4 grp)) 8 3 = true ∧ issues (mk [iw 8 4 10 2 4] (core0 regs4 grp)) 8 4 = true ∧
    bit ((mk [] (core0 [] grp)).m.plan 0).determinism 1 = false := by decide +kernel

theorem hyp_PredicatesOfALane : (∀ o ∈ [0, 1, 2], issues (mk [iw 7 o 0 2 4] (core0 regs4 grp)) 7 o = true) ∧
    issues (mk [iw 8 0] (core0 regs4 grp)) 8 0 = true ∧ (∀ o ∈ [1, 2], issues (mk [iw 8 o 0 2] (core0 regs4 grp)) 8 o = true) ∧
    -- the destination p7, which discards
    issues (mk [iw 7 0 7 2 4] (core0 regs4 grp)) 7 0 = true := by decide +kernel

/-- BRA to the word 16 on, reconvergence 3 words on; with guard p7, or p0. -/
def bra (p : Nat) : Nat := iw 0 1 0 12 0 (2 * 2 ^ 52) - (7 - p) * 2 ^ 38

theorem hyp_ControlFlowOfAGroup_nop : issues (mk [iw 0 0] (core0 [] grp)) 0 0 = true := by decide +kernel

theorem hyp_ControlFlowOfAGroup_bra :
    (let s := mk [bra 0] (core0 [] grp); issues s 0 1 = true ∧ (kx s).mask = 0) ∧
    (let s := mk [bra 7] (core0 [] grp); issues s 0 1 = true ∧ (kx s).mask ≠ 0 ∧ (kx s).mask = (kx s).g.active) ∧
    (let s := mk [bra 0] (core0 [] { grp with preds := [(0, 1)] }); issues s 0 1 = true ∧ (kx s).mask ≠ 0 ∧ (kx s).mask < (kx s).g.active ∧
      (kx s).g.div.length < 32) := by decide +kernel

/-- The lanes that a BRX of v2 sends elsewhere than to the next instruction. -/
def jumps (s : State) : List (Nat × Nat) :=
  let k := kx s
  (k.lanes.map (fun l => (l, k.a s.m l))).filter (fun e => e.2 ≠ k.g.pc + k.size)

/-- BRX by v2, reconvergence 3 words on. -/
def brx (rs : List (Nat × Nat × Nat)) (g : Group) : State := mk [iw 0 2 0 2 0 (2 ^ 51), 3 * 2 ^ 32] (core0 rs g)

theorem hyp_ControlFlowOfAGroup_brx :
    (let s := brx [(0, 2, 16)] grp1; issues s 0 2 = true ∧ pathsOf (jumps s) = []) ∧
    (let s := brx [(0, 2, 24), (1, 2, 16)] { grp with active := 3 }; issues s 0 2 = true ∧ pathsOf (jumps s) = [(1, 24)] ∧
      (kx s).g.active - ofBits ((jumps s).map (·.1)) ≠ 0 ∧ (kx s).g.div.length < 32) ∧
    (let s := brx [(0, 2, 24)] grp1; issues s 0 2 = true ∧ pathsOf (jumps s) = [(1, 24)] ∧ (kx s).g.active - ofBits ((jumps s).map (·.1)) = 0) ∧
    (let s := brx [(0, 2, 32), (1, 2, 24)] { grp with active := 3 }; issues s 0 2 = true ∧ pathsOf (jumps s) = [(2, 24), (1, 32)] ∧
      (kx s).g.active - ofBits ((jumps s).map (·.1)) = 0) := by decide +kernel

theorem hyp_ControlFlowOfAGroup_exit :
    (let s := mk [iw 0 3] (core0 [] { grp with active := 1 }); issues s 0 3 = true ∧ (kx s).g.exited ||| (kx s).mask ≠ 0xFFFF_FFFF) ∧
    (let s := mk [iw 0 3] (core0 [] grp1); issues s 0 3 = true ∧ (kx s).g.exited ||| (kx s).mask = 0xFFFF_FFFF) ∧
    (let s := mk [iw 0 4 0 0 0 (6 * 2 ^ 52)] (core0 [] grp); issues s 0 4 = true ∧ (kx s).lowest = some 0) := by decide +kernel

/-- The faults of a LD (none) or ST (some false). -/
def memFaults (s : State) (st : Option Bool) : Option (Nat × Nat × Nat) :=
  let k := kx s
  let fs := k.lanes.map (fun l => (l, k.form s.m l (memOffset k.w k.x false false)))
  firstFault (fs.flatMap (fun e => k.accessFaults s.m s.fuse.part.stackCount 8 (2 ^ bits k.w 42 3) st e.1 e.2))

/-- The place of local memory that the tests read and write: the last 4 bytes of it. -/
def lastWord : Nat := localAddr 0 0 0x7_FFFC

theorem hyp_LoadsStoresAndFences_st : let s := at64 (iw 9 1 0 2 4 (2 * 2 ^ 42)) lastWord; issues s 9 1 = true ∧ memFaults s (some false) = none := by
  decide +kernel

theorem hyp_LoadsStoresAndFences_ld : let s := at64 (iw 9 0 10 2 0 (2 * 2 ^ 42)) lastWord
    issues s 9 0 = true ∧ memFaults s none = none ∧ s.m.accessHeld true lastWord 4 = false := by decide +kernel

theorem hyp_LoadsStoresAndFences_dead : let s := at64 (iw 12 0 0 2) (devAddr 0 4 0x80)
    let k := kx s
    issues s 12 0 = true ∧ (k.lanes.map (fun l => match k.form s.m l (memOffset k.w k.x false false) with
      | .ok x => some x
      | _ => none)) = [some (devAddr 0 4 0x80)] ∧
    devAddr 0 4 0x80 % 128 = 0 ∧ daRegion (devAddr 0 4 0x80) = 4 ∧ readDeny (.kernel 0) (s.m.place 1 (devAddr 0 4 0x80)) = none ∧
    s.m.readOnly (devAddr 0 4 0x80) = false := by decide +kernel

theorem hyp_LoadsStoresAndFences_fence : ∀ o ∈ [6, 7, 8], (let s := mk [iw 11 o] (core0 [] grp); issues s 11 o = true ∧ (s.m.core 0 0).stores = []) ∧
    (let s := mk [iw 11 o] { core0 [] grp with stores := [⟨0, lastWord, [1, 2, 3, 4]⟩] }
     issues s 11 o = true ∧ (s.m.drain 2 0 0 0).2 = true) := by decide +kernel

/-- The same machine with DETERMINISM bits set in the plan. -/
def det (s : State) (d : Nat) : State :=
  { s with m := s.m.updStk 0 (fun k => { k with plan := { k.plan with plan := { k.plan.plan with determinism := d } } }) }

/-- An atomic of 32 bits at the last word of local memory. -/
def atom (o : Nat) : State := det (at64 (iw 10 o 10 2 4 (2 * 2 ^ 42)) lastWord) 1

theorem hyp_AtomicsSendTheirRequests : (∀ o ∈ List.range 11, let s := atom o
      issues s 10 o (some false) = true ∧ (kx s).atomFault s.m 1 false = none ∧ ((kx s).atomInstr s.m false).reqs ≠ []) ∧
    -- every request already in the journal
    (let s := { atom 0 with m := (atom 0).m.updCore 0 0 (fun c => { c with journal := [⟨0, 0, 0, 5⟩] }) }
     issues s 10 0 (some false) = true ∧ (kx s).atomFault s.m 1 false = none ∧ ((kx s).atomInstr s.m false).reqs = []) := by decide +kernel

theorem hyp_AtomicsSendTheirRequests_ord :
    let s := mk [iw 10 0 10 2 4 (2 * 2 ^ 42 + 2 ^ 47 + 2 ^ 51), 6 * 2 ^ 48] (core0 [(0, 2, lastWord % 2 ^ 32), (0, 3, lastWord / 2 ^ 32), (0, 6, 64)] grp1)
    issues s 10 0 (some true) = true ∧ (kx s).atomFault s.m 1 true = none ∧ ((kx s).atomInstr s.m true).reqs ≠ [] := by decide +kernel

theorem hyp_BarriersWaitsAndStagedSignals_barrier :
    let s := mk [iw 11 0 0 0 0 (3 * 2 ^ 52)] { core0 [] grp with groups := [(0, grp), (1, { grp with index := 1 })]
                                                                 launch := { (core0 [] grp).launch with groups := 2 } }
    let k := kx s
    let j := (s.m.core 0 0).launch.blockSlot k.g.block
    issues s 11 0 = true ∧ k.mask = 0xFFFF_FFFF - k.g.exited ∧ k.g.exited ≤ 0xFFFF_FFFF ∧ (s.m.core 0 0).stores = [] ∧
    (∃ gi ∈ (s.m.core 0 0).liveGroups j, gi ≠ k.g.index ∧ bit ((s.m.core 0 0).launch.arrivedAt j (Iw.imm12 k.w)) gi = false) ∧
    (∀ b, b < 4 → b ≠ Iw.imm12 k.w → (s.m.core 0 0).launch.arrivedAt j b = 0) := by decide +kernel

/-- A wait of lane 0 on object 64 of the stack, whose SDID is 0xFFFF, for threshold t. -/
def waitS (o t : Nat) : State := mk [iw 11 o 0 2 4] (core0 [(0, 2, 0xFFFF_0040), (0, 4, t % 2 ^ 32), (0, 5, t / 2 ^ 32)] grp)

theorem hyp_BarriersWaitsAndStagedSignals_wait : ∀ o ∈ [1, 2], ∀ t ∈ [0, 1], let s := waitS o t
    let k := kx s
    let h := k.a s.m 0
    issues s 11 o = true ∧ k.lowest = some 0 ∧ handleBad h = false ∧ handleSdid h = s.m.sdid 0 ∧ handleObj h = 64 ∧
    k.get s.m 0 (Iw.srcB k.w) 2 % 2 ^ 48 = t ∧ satisfies (s.m.count 0 64) t = decide (t = 0) ∧ s.m.count 0 64 = 0 := by decide +kernel

/-- SIGNAL, SIGNAL_FAIL or CLEAR_FAIL of object 64 by n with code f. -/
def sigS (w n f : Nat) : State := mk [w] (core0 [(0, 2, 0xFFFF_0040), (0, 4, n), (0, 6, f)] grp)

theorem hyp_BarriersWaitsAndStagedSignals_staged :
    (∀ n ∈ [1, 65535], let s := sigS (iw 11 3 0 2 4) n 0; issues s 11 3 = true ∧ (kx s).get s.m 0 (Iw.srcB (kx s).w) 1 = n) ∧
    (∀ f ∈ [1, 0xFFFF], let s := sigS (iw 11 4 0 2 4 (6 * 2 ^ 52)) 1 f; issues s 11 4 = true ∧ (kx s).c s.m 0 = f) ∧
    (let s := sigS (iw 11 5 0 2) 0 0; issues s 11 5 = true ∧ handleSdid ((kx s).a s.m 0) = s.m.sdid 0 ∧ 64 ≤ handleObj ((kx s).a s.m 0)) := by
  decide +kernel

theorem hyp_SatisfiesIsSignedDifference : satisfies 0 (2 ^ 48 - 1) = true ∧ satisfies (2 ^ 48 - 1) 0 = false := by decide +kernel

/-! ## Instructions with descriptors -/

/-- An instruction of lane 0 that names the descriptor at offset 0x1000 of local memory. -/
def dsc (cls op : Nat) (fs : List (Nat × Nat × Nat)) : State :=
  withBytes (at64 (iw cls op 0 2) (localAddr 0 0 0x1000)) (localAddr 0 0 0x1000) (desc fs)

/-- Whether a solo form of the group passes. -/
def ready {σ : Type} (s : State) (st : σ) (chk : Mach → σ → List Byte → Option σ) (more : Mach → List Byte → List (Nat × Nat)) : Bool :=
  let k := kx s
  let d := s.m.drain ((s.m.core k.s k.L).stores.length + 1) k.s k.L k.slot
  let r := k.readDescs d.1 s.fuse.part.stackCount k.lanes
  d.2 && !k.descsHeld d.1 k.lanes && decide (descPoison r.2 ++ r.2.flatMap (fun d => more r.1 (PByte.vals d.bytes)) = []) &&
    decide (firstFault ((r.2.filter (fun d => !d.ok)).map (fun d => (0x0A, d.lane, d.addr)) ++ descFault (chk r.1) st r.2) = none)

theorem soloReady_of_ready {σ : Type} {s : State} {st : σ} {chk : Mach → σ → List Byte → Option σ} {more : Mach → List Byte → List (Nat × Nat)}
    (h : ready s st chk more = true) : SoloReady (kx s) s.m s.fuse.part.stackCount st chk more := by
  simp only [ready, Bool.and_eq_true, Bool.not_eq_true', decide_eq_true_eq] at h
  exact ⟨h.1.1.1, h.1.1.2, h.1.2, h.2⟩

/-- Descriptors of a full tile, of rows that fill the accumulator, and of their drain, in FP8 and FP32. -/
def loadwD : List (Nat × Nat × Nat) := [(0, 1, 1), (1, 1, 0), (2, 1, 32), (3, 1, 64), (4, 4, 0x2000), (8, 4, 64)]
def streamD : List (Nat × Nat × Nat) := [(0, 1, 2), (1, 1, 0), (2, 2, 512), (4, 4, 0x8000), (8, 4, 64), (19, 1, 1)]
def drainD : List (Nat × Nat × Nat) := [(0, 1, 3), (1, 1, 0), (2, 2, 512), (4, 4, 0x2_0000), (8, 4, 256), (17, 1, 64)]

/-- A core whose active bank will hold a tile of format 0. -/
def loaded (s : State) : State := { s with m := s.m.updCore 0 0 (fun c => { c with mx := { c.mx with trackA := 0 } }) }

theorem hyp_MatrixInstructionsIssueTheirOperations_solo :
    (let s := dsc 0x10 0 loadwD; issues s 0x10 0 = true ∧ (s.m.core 0 0).mx.queue = [] ∧ ready s ((kx s).mxTags s.m) (fun _ => chkLoadw true) noMore = true) ∧
    (let s := loaded (dsc 0x10 2 streamD); issues s 0x10 2 = true ∧ ready s ((kx s).mxTags s.m) (fun _ => chkStream true) noMore = true) ∧
    (let s := loaded (dsc 0x10 3 drainD); issues s 0x10 3 = true ∧ ready s ((kx s).mxTags s.m) (fun _ => chkDrain true) noMore = true) := by
  decide +kernel

theorem hyp_MatrixInstructionsIssueTheirOperations_swap_wait :
    issues (mk [iw 0x10 1] (core0 [] grp)) 0x10 1 = true ∧ issues (mk [iw 0x10 4] (core0 [] grp)) 0x10 4 = true ∧
    (let s := mk [iw 0x10 4] { core0 [] grp with mx := { queue := [{ id := 0, kind := .swap }], nextId := 1 } }
     issues s 0x10 4 = true ∧ ¬((s.m.core 0 0).mx.queue = [] ∧ (s.m.core 0 0).mx.run = [])) := by decide +kernel

/-- A group-wide form: all lanes act, lane 0 names the descriptor, the fragment begins at v8. -/
def mxg (o : Nat) (fs : List (Nat × Nat × Nat)) : State :=
  loaded (withBytes (mk [iw 0x11 o 0 2 8] { core0 [(0, 2, (localAddr 0 0 0x1000) % 2 ^ 32), (0, 3, localAddr 0 0 0x1000 / 2 ^ 32)] grp with
      launch := { (core0 [] grp).launch with regs := 128 } })
    (localAddr 0 0 0x1000) (desc fs))

theorem hyp_MatrixInstructionsIssueTheirOperations_group : ∀ c ∈ [(0, chkLoadw false, [(0, 1, 1), (2, 1, 32), (3, 1, 64)]),
      (1, chkStream false, [(0, 1, 2), (2, 2, 32), (19, 1, 1)]), (2, chkDrain false, [(0, 1, 3), (2, 2, 32), (17, 1, 64)])],
    let s := mxg c.1 c.2.2
    let k := kx s
    let r := k.readDescs s.m 1 [0]
    let b := PByte.vals (r.2.flatMap (·.bytes))
    issues s 0x11 c.1 = true ∧ k.mask = 0xFFFF_FFFF ∧ (s.m.core 0 0).stores = [] ∧ k.descsHeld s.m [0] = false ∧
    r.2.length = 1 ∧ (r.2.all (fun d => d.ok && d.addr % 64 = 0 && d.bytes.all (fun b => b.poison = 0))) = true ∧
    (c.2.1 (k.mxTags s.m) b).isSome = true ∧ 8 + fragRegs c.1 b ≤ (s.m.core 0 0).launch.regs ∧ r.1.core 0 0 = s.m.core 0 0 ∧
    (s.m.core 0 0).fragPending 0 = [] ∧ (∀ lane, lane < 32 → ∀ i, i < fragRegs c.1 b → ((s.m.core 0 0).reg 0 lane (8 + i)).poison = 0) := by
  decide +kernel

def biasD : List (Nat × Nat × Nat) := [(0, 1, 0x11), (1, 1, 7), (4, 4, 0x7_F800)]
def scoreD : List (Nat × Nat × Nat) :=
  [(0, 1, 0x12), (1, 1, 1), (2, 2, 256), (6, 2, 256), (8, 1, 1), (11, 1, 0xFF), (16, 4, 0x2000), (20, 4, 128), (24, 4, 0x1_8000), (36, 4, 64)]
def normD : List (Nat × Nat × Nat) := [(0, 1, 0x13), (2, 2, 512), (6, 1, 1), (7, 1, 3), (8, 4, 0x2000), (12, 4, 256), (16, 4, 0x4_0000), (20, 4, 0x5_0000), (24, 4, 0x7_FFFC)]
def packD : List (Nat × Nat × Nat) := [(0, 1, 0x14), (1, 1, 1), (2, 2, 512), (4, 4, 0x3000), (8, 4, 0x4000), (12, 4, 512)]

/-- A pack list entry whose bias is absent. -/
def packRow : List Nat := (desc [(25, 1, 0xFF)]).take 32

theorem hyp_AttentionInstructionsIssueTheirOperations :
    (let s := dsc 0x12 0 biasD; issues s 0x12 0 = true ∧ (s.m.core 0 0).att.queue = [] ∧ ready s (s.m.attTrack 0 0) (fun _ => chkBias) noMore = true) ∧
    (let s := dsc 0x12 1 scoreD; issues s 0x12 1 = true ∧ ready s (s.m.attTrack 0 0) (fun _ => chkScore) noMore = true) ∧
    (let s := dsc 0x12 2 normD; issues s 0x12 2 = true ∧ ready s (s.m.attTrack 0 0) (fun _ => chkNorm) noMore = true) ∧
    (let s := withBytes (dsc 0x12 3 packD) (localAddr 0 0 0x3000) packRow
     issues s 0x12 3 = true ∧ ready s (s.m.attTrack 0 0) (fun m => chkPack m 0 0) (fun m => packPoison m 0 0) = true) := by decide +kernel

theorem hyp_AttentionInstructionsIssueTheirOperations_wait : issues (mk [iw 0x12 4] (core0 [] grp)) 0x12 4 = true ∧
    (let s := mk [iw 0x12 4] { core0 [] grp with att := { queue := [{ id := 0, desc := [] }], nextId := 1 } }
     issues s 0x12 4 = true ∧ ¬((s.m.core 0 0).att.queue = [] ∧ (s.m.core 0 0).att.run = none)) := by decide +kernel

/-- Descriptors of keyed operations of sequence 32,767 and of a gather of 256 positions. -/
def forkD : List (Nat × Nat × Nat) := [(0, 1, 0x23), (4, 2, 32767), (6, 2, 1)]
def freeD : List (Nat × Nat × Nat) := [(0, 1, 0x24), (1, 1, 1), (4, 2, 32767)]
def truncD : List (Nat × Nat × Nat) := [(0, 1, 0x25), (4, 2, 32767)]
def hintD : List (Nat × Nat × Nat) := [(0, 1, 0x26), (1, 1, 1), (12, 4, 1), (16, 2, 1)]
def gatherD : List (Nat × Nat × Nat) := [(0, 1, 0x22), (1, 1, 1), (2, 2, 256), (0x0C, 4, 0x7_FFF8), (0x10, 4, 0x2000), (0x14, 4, 512), (0x1C, 4, 512)]
def appendD : List (Nat × Nat × Nat) := [(0, 1, 0x21), (2, 2, 1), (0x10, 4, 0x2000), (0x14, 4, 0x3000), (0x18, 4, 512), (0x1C, 4, 0x4000)]

theorem hyp_KvInstructionsStageOrSend :
    (∀ c ∈ [(2, forkD, kvForkOk), (3, freeD, kvFreeOk), (4, truncD, kvTruncOk), (1, gatherD, kvGatherOk), (5, hintD, kvHintOk)],
      let s := dsc 0x13 c.1 c.2.1; issues s 0x13 c.1 = true ∧ ready s () (plainCheck c.2.2) noMore = true) ∧
    (let s := dsc 0x13 0 appendD
     issues s 0x13 0 = true ∧ ready s () (plainCheck kvAppendOk) (fun m b => m.kvPoison (localAddr 0 (m.homeOfIndex 0 0) 0) b) = true) := by decide +kernel

theorem hyp_KvInstructionsStageOrSend_wait : issues (mk [iw 0x13 6] (core0 [] grp)) 0x13 6 = true ∧
    (let s := mk [iw 0x13 6] { core0 [] grp with kv := { gathers := [⟨0, [], none⟩], nextId := 1 } }
     issues s 0x13 6 = true ∧ (s.m.core 0 0).kv.gathers ≠ []) := by decide +kernel

/-! ## The cache die -/

/-- The machine after one store of four bytes at the end of local memory has been issued. -/
def storing : State := mk [] { core0 [] grp with stores := [⟨0, localAddr 0 0 0x7_FFFC, [1, 2, 3, 4]⟩] }

theorem hyp_RequestsPerformedAtHome_store : storing.m.mem.wf = true ∧ (storing.m.core 0 0).stores[0]? = some ⟨0, localAddr 0 0 0x7_FFFC, [1, 2, 3, 4]⟩ ∧
    daRegion (localAddr 0 0 0x7_FFFC) ≤ 2 ∧ storing.m.storeHeld 0 0 ⟨0, localAddr 0 0 0x7_FFFC, [1, 2, 3, 4]⟩ = false ∧
    (∀ i, i < 4 → storing.m.rowFailed (localAddr 0 0 0x7_FFFC + i) = false) := by decide +kernel

/-- A host access of the last 8 bytes of placed memory of bay 0. -/
def acc (d : Option (List Byte)) : MemAcc := { unit := .host, addr := BitVec.ofNat 52 (devAddr 0 0 0x1F_FFF8), len := 8, data := d }

theorem hyp_RequestsPerformedAtHome_access : State.reset.m.mem.wf = true ∧ ∀ d ∈ [none, some [1, 2, 3, 4, 5, 6, 7, 8]], let x := accessOf (acc d) true
    State.reset.m.accessDeny 1 x = none ∧ daRegion x.addr ≤ 2 ∧ State.reset.m.holds x = false ∧
    (∀ i, i < 8 → State.reset.m.rowFailed (x.addr + i) = false ∧ State.reset.m.mem.detects (x.addr + i) = false) := by decide +kernel

/-- A host access to region 0xF, which Table RG-2 excludes. -/
theorem hyp_RequestsPerformedAtHome_refused :
    (State.reset.m.accessDeny 1 (accessOf { unit := .host, addr := BitVec.ofNat 52 (devAddr 0 15 0), len := 8 } true)).isSome = true := by decide +kernel

/-- Line 0 of the tier. -/
def lineAcc (unit : Requester) (d : Option (List Byte)) : MemAcc := { unit := unit, addr := BitVec.ofNat 52 (devAddr 0 4 0x78), len := 8, data := d }

/-- One sixteenth of each half as cache, as a start leaves it. -/
def cached (f : CacheSt → CacheSt) : State :=
  onCache (flds State.reset [(0, Reg.CDIE_PART_STATUS_CACHE_NOW, 0, 1), (0, Reg.CDIE_PART_STATUS_CACHE_NOW, 1, 1)]) f

/-- The premises of every clause. -/
def inLine (s : State) (al : Bool) : Bool :=
  let x := accessOf (lineAcc .host none) al
  x.oneLine && decide (s.m.accessDeny 1 x = none) && !s.m.isDead 0 0 && decide ((s.m.stk 0).cache.change = none) && !s.m.getB 0 Reg.VCP_RESET_STATUS_IN_RESET && decide (s.m.host.bar4 = [])

theorem hyp_CacheHitsMissesFillsAndWritebacks_hit :
    let s := cached (fun k => { k with lines := [⟨0, 0, true, false, false⟩] })
    let c := cellAddr 0 (s.m.home 0 0) 0
    inLine s true = true ∧ s.m.lineBusy 0 0 = false ∧ s.m.cline 0 0 = some ⟨0, 0, true, false, false⟩ ∧ s.m.rowTesting c = false ∧
    (∀ i, i < 8 → s.m.mem.detects (c + 0x78 + i) = false) ∧ s.m.getF 0 Reg.CDIE_LOOKUPS_LOOKUPS (s.m.home 0 0).half + 1 < 2 ^ 48 ∧
    s.m.getF 0 Reg.CDIE_HITS_HITS (s.m.home 0 0).half + 1 < 2 ^ 48 := by decide +kernel

theorem hyp_CacheHitsMissesFillsAndWritebacks_miss : let s := cached id
    inLine s true = true ∧ inLine s false = true ∧ s.m.lineBusy 0 0 = false ∧ s.m.cline 0 0 = none ∧ (s.m.freeWay 0 (s.m.home 0 0)).isSome = true ∧ 0x78 < 2 ^ 45 := by decide +kernel

/-- Sixteen lines whose set is that of line 0, the oldest dirty. -/
def fullSet : List CLine :=
  [39955, 79911, 119866, 159822, 199777, 239733, 279688, 319644, 359599, 399555, 439510, 479466, 519421, 559377, 599332, 639288].zipIdx.map
    (fun e => ⟨e.1, e.2, true, false, false⟩)

theorem hyp_CacheHitsMissesFillsAndWritebacks_victim : let s := cached (fun k => { k with lines := fullSet })
    inLine s true = true ∧ s.m.cline 0 0 = none ∧ s.m.lineBusy 0 0 = false ∧ s.m.lineBusy 0 639288 = false ∧ s.m.freeWay 0 (s.m.home 0 0) = none ∧
    s.m.victim 0 (s.m.home 0 0) = some ⟨639288, 15, true, false, false⟩ := by decide +kernel

theorem hyp_CacheHitsMissesFillsAndWritebacks_fill : let x := accessOf (lineAcc .host none) true
    let s := cached (fun k => { k with outst := [⟨0, .fill, [x]⟩] })
    let h := s.m.home 0 0
    inLine s true = true ∧ (∀ o ∈ (s.m.stk 0).cache.outst, o.line = 0 → o.kind = .fill) ∧ s.m.rowTesting (cellAddr 0 h 0) = false ∧ s.m.outstOf 0 0 .fill = some ⟨0, .fill, [x]⟩ ∧ s.m.cline 0 0 = none ∧ s.m.freeWay 0 h = some 0 ∧ s.m.mem.wf = true ∧
    s.m.rowFailed (cellAddr 0 h 0) = false ∧ s.m.getF 0 Reg.CDIE_LOOKUPS_LOOKUPS h.half + 1 < 2 ^ 48 := by decide +kernel

theorem hyp_CacheHitsMissesFillsAndWritebacks_writeback :
    let s := cached (fun k => { k with lines := [⟨0, 0, true, false, false⟩], outst := [⟨0, .writeback, []⟩] })
    inLine s true = true ∧ s.m.outstOf 0 0 .writeback = some ⟨0, .writeback, []⟩ ∧ s.m.cline 0 0 = some ⟨0, 0, true, false, false⟩ ∧
    s.m.dirBlocks 0 0 (s.m.lineBytes 0 ⟨0, 0, true, false, false⟩) = false ∧
    (∀ i, i < 128 → s.m.mem.detects (cellAddr 0 (s.m.home 0 0) 0 + i) = false) := by decide +kernel

theorem hyp_DeadLinesWindowsShelvesAndPartitions_dead : let s := planState (cached (fun k => { k with lines := [⟨0, 0, true, false, false⟩] })) 2
    s.m.planOn 0 = true ∧ s.m.deadHeld 0 0 = false ∧ s.m.isDead 0 0 = false ∧ s.m.getF 0 Reg.CDIE_LOOKUPS_LOOKUPS 0 = 0 ∧ s.m.getF 0 Reg.CDIE_HITS_HITS 0 = 0 ∧ s.m.deadCount 0 (s.m.home 0 0).half < 32768 ∧ s.m.cline 0 0 = some ⟨0, 0, true, false, false⟩ := by
  decide +kernel

/-- A quiet half, a half whose run ends, and one that fires. -/
theorem hyp_DeadLinesWindowsShelvesAndPartitions_window :
    let s := flds (cached (fun k => { k with winLook := ⟨0, 256⟩, winHits := ⟨0, 0⟩ })) [(0, Reg.CDIE_THRASH_CFG_RUN_LEN, 1, 1), (0, Reg.CDIE_THRASH_CFG_THRESHOLD, 1, 255)]
    (∀ h, h < 2 → s.m.getF 0 Reg.CDIE_THRASH_STATUS_RUN h < 16 ∧ s.m.getF 0 Reg.CDIE_THRASH_STATUS_LAST_RATIO h < 256) ∧
    (s.m.stk 0).cache.winLook.get 0 1 = 256 ∧ 0 * 256 < s.m.getF 0 Reg.CDIE_THRASH_CFG_THRESHOLD 1 * 256 := by decide +kernel

theorem hyp_DeadLinesWindowsShelvesAndPartitions_shelf :
    let s := cached (fun k => { k with lines := [⟨0, 0, true, false, false⟩], shelves := [⟨63, 0, 128⟩], pinning := [63] })
    (s.m.stk 0).cache.shelves.find? (fun k => k.id = 63) = some ⟨63, 0, 128⟩ ∧ (s.m.stk 0).cache.pinning.contains 63 = true ∧
    (s.m.stk 0).cache.change = none ∧ (∀ L ∈ (⟨63, 0, 128⟩ : Shelf).lineList, (s.m.cline 0 L).isSome = true ∧ s.m.lineBusy 0 L = false) := by decide +kernel

theorem hyp_DeadLinesWindowsShelvesAndPartitions_partition : let s := cached (fun k => { k with change := some (16, 1) })
    (s.m.stk 0).cache.change = some (16, 1) ∧ (s.m.stk 0).cache.lines.any (·.dirty) = false ∧ (s.m.stk 0).cache.shelves = [] ∧
    (s.m.stk 0).cache.outst.flatMap (·.held) = [] ∧ (s.m.stk 0).cache.heldAll = [] ∧ s.m.host.bar4 = [] := by decide +kernel

/-! ## Integrity -/

/-- A Skipper test of row 0 of slice 0 of bay 0, and one of the last coupler group. -/
def rowTest : SkTest := ⟨1, rowIndex 0, 0⟩
def groupTest : SkTest := ⟨2, 27647, 0⟩

theorem hyp_SkipperHawkmothScrubAndRestoration_start : ∀ t ∈ [rowTest, groupTest], let s := onInteg State.reset (fun g => { g with queue := [t] })
    (s.m.stk 0).integ.running.length < 16 ∧ (s.m.stk 0).integ.queue.find? (s.m.testMayStart 0) = some t ∧ (t.index < 27648 ∨ t.kind ≠ 2) := by decide +kernel

theorem hyp_SkipperHawkmothScrubAndRestoration_end :
    (let s := onInteg State.reset (fun g => { g with running := [rowTest] })
     (s.m.stk 0).integ.running[0]? = some rowTest ∧ (s.m.stk 0).integ.history = [] ∧ s.m.rowAddr 0 1 (rowIndex 0) = some 0 ∧
     s.m.failingGranules 0 [] = [] ∧ (s.m.stk 0).integ.held = [] ∧ s.m.host.bar4 = [] ∧ s.m.host.bar0 = []) ∧
    (let s := onInteg State.reset (fun g => { g with running := [groupTest], history := [⟨2, 27647, 0⟩, ⟨2, 27647, 1⟩] })
     (s.m.stk 0).integ.running[0]? = some groupTest ∧ groupTest.index < 27648 ∧
     ((s.m.stk 0).integ.history.filter (fun h => decide (s.m.now 0 < h.time + historySpan) && (h.kind = 2 && h.index = 27647))).length < 3 ∧
     s.m.getB 0 Reg.VCP_GROUP_RETIRED 27647 = false ∧ s.m.getB 0 Reg.VCP_PORT_RETIRED 863 = false ∧ (s.m.stk 0).integ.held = [] ∧ s.m.host.bar4 = [] ∧
     s.m.host.bar0 = []) := by
  decide +kernel

/-- Hawkmoth at the first row, the last row, and a spare row. -/
def hawk (row slice rank : Nat) : State :=
  flds State.reset [(0, Reg.CDIE_SCRUB_CFG_ENABLE, 0, 1), (0, Reg.CDIE_SCRUB_STATUS_ROW, 0, row), (0, Reg.CDIE_SCRUB_STATUS_SLICE, 0, slice), (0, Reg.CDIE_SCRUB_STATUS_RANK, 0, rank)]

/-- An error in the first granule of bay 0. -/
def flipped : State := let s := hawk 0 0 0; { s with m := { s.m with mem := { data := [(0, 1)], syn := [(0, 1)] } } }

theorem hyp_SkipperHawkmothScrubAndRestoration_hawkmoth :
    (∀ c ∈ [(0, 0, 0), (511, 15, 431), (512, 0, 0), (519, 15, 431)], let s := hawk c.1 c.2.1 c.2.2
      s.m.getB 0 Reg.CDIE_SCRUB_CFG_ENABLE 0 = true ∧ s.m.getB 0 Reg.CDIE_SCRUB_STATUS_RANGE_ACTIVE 0 = false ∧
      s.m.getF 0 Reg.CDIE_SCRUB_STATUS_ROW 0 = c.1 ∧ s.m.getF 0 Reg.CDIE_SCRUB_STATUS_RANK 0 = c.2.2 ∧ s.m.rowTesting (devAddr 0 0 0) = false ∧
      s.m.failingGranules (devAddr 0 0 0) [] = []) ∧
    flipped.m.failingGranules (devAddr 0 0 0) [] ≠ [] ∧ flipped.m.rowTesting (devAddr 0 0 0) = false ∧ (flipped.m.stk 0).integ.queue = [] := by
  decide +kernel

/-- A range of one line, from mailbox 3. -/
def range1 : Scrub := { mbox := some 3, start := 0, len := 128 }

/-- The range's only line is in half 0, so it ends there; a range of both halves goes on. -/
theorem hyp_SkipperHawkmothScrubAndRestoration_range :
    (let s := onInteg State.reset (fun g => { g with scrubs := [range1] })
     s.m.served 0 0 = some range1 ∧ range1.scanned.contains 0 = false ∧ s.m.markedIn 0 0 128 = [] ∧
     ({ range1 with checked := 1, scanned := [0], done := [0] } : Scrub).halves = []) ∧
    (let w : Scrub := { mbox := some 3, start := 0, len := 864 * 0x20_0000 }
     w.halves = [0, 1] ∧ ({ w with scanned := [0], done := [0] } : Scrub).halves ≠ []) := by decide +kernel

/-- A granule of the text, read with poison by core 0. -/
theorem hyp_SkipperHawkmothScrubAndRestoration_restoration : let c : Consumed := ⟨0, localAddr 0 0 0, 1, false⟩
    let s := onInteg (mk [] (core0 [] grp)) (fun g => { g with consumed := [c] })
    s.m.restorable 0 = [c] ∧ c.asked = false ∧ daRegion (c.addr / 8 * 8) ≠ 4 ∧ s.m.rowFailed (c.addr / 8 * 8) = false ∧
    (match s.m.sourceOf 0 0 (c.addr / 8 * 8) with
     | .bytes _ => true
     | _ => false) = true := by decide +kernel

theorem hyp_BureauWatchdogAndRestart :
    (State.reset.m.getB 0 Reg.BUR_STATUS_HALTED = false ∧ (State.reset.m.stk 0).bureau.restarting = false ∧
     State.reset.m.getF 0 Reg.AON_WAKE_STATUS_STATE ≠ 2 ∧ (State.reset.m.stk 0).integ.resets = []) ∧
    (let s := onStk State.reset 0 (fun k => { k with bureau := { k.bureau with restarting := true } })
     s.m.getB 0 Reg.BUR_STATUS_HALTED = false ∧ (s.m.stk 0).bureau.restarting = true ∧ (s.m.stk 0).bureau.interrupted = [] ∧
     (s.m.stk 0).bureau.latches = []) := by decide +kernel

/-! ## Vertical coupling -/

/-- The last group of the read and of the write direction of position p, in service. -/
def inServiceAt (p : Nat) (s : State) : State := flds s [(0, Reg.VCP_PORT_READ_ACTIVE, p, 0x8000), (0, Reg.VCP_PORT_WRITE_ACTIVE, p, 0x8000)]
def inService : State := inServiceAt 863 State.reset

/-- No test of kind k of structure i runs or waits. -/
def freshTest (s : State) (k i : Nat) : Bool :=
  let g := (s.m.stk 0).integ
  !g.running.any (fun t => t.kind = k && t.index = i) && !g.queue.any (fun t => t.kind = k && t.index = i) && decide (g.queue.length < 1024)

/-- The first and the last granule of the first row of bay 0: the only group in service carries both. -/
theorem hyp_ChunksAndHandshakes_read : inService.m.getB 0 Reg.VCP_RESET_STATUS_IN_RESET = false ∧
    (∀ c ∈ [0, 0xF8], inService.m.portCell 0 (devAddr 0 0 c) = some c ∧ inService.m.chunkGroup 0 863 0 (c % 256 / 8) = some 15 ∧
      inService.m.mem.detects c = false ∧
      ((List.range 8).map (fun i => inService.m.sramByte (c + i))).all (fun b => b.poison = 0) = true ∧ (portBytes 0 ((List.range 8).map (fun i => inService.m.sramByte (c + i)))
        [(1, 0)]).portClass 0 = (2, true)) ∧
    flipDetected 1 0 = true ∧ freshTest inService 2 (groupIndex 863 15) = true ∧ freshTest inService 3 863 = true := by decide +kernel

/-- A granule in poison form of kind 1, one byte of which is changed. -/
theorem hyp_ChunksAndHandshakes_poisoned : let bs := (List.range 8).map (fun _ => (⟨0, 1⟩ : PByte))
    (portBytes 0 bs [(1, 0)]).portClass 0 = (1, true) ∧ (portBytes 0 bs []).portClass 0 = (1, false) := by decide +kernel

/-- Two bytes at the start of a row, the second poisoned; and one that its check shows changed. -/
theorem hyp_ChunksAndHandshakes_write : daRegion (devAddr 0 0 0) = 0 ∧ (inService.m.chunkGroup 0 863 1 0).isSome = true ∧
    inService.m.accessHeld true (devAddr 0 0 0) 2 true = false ∧ inService.m.accessHeld true (devAddr 0 0 0) 1 true = false ∧
    writeErrors 0 [wbyte 7 0, wbyte 0 3] none = [] ∧ (∀ i, i < 2 → inService.m.rowFailed (devAddr 0 0 0 + i) = false) ∧ inService.m.mem.wf = true ∧
    (inService.m.core 0 (inService.m.getF 0 Reg.CORE_IDENT_LOGICAL 863)).stores = [] ∧
    writeErrors 0 [wbyte 7 1] none = [(0, 1)] ∧ inService.m.chunkGroup 0 863 1 0 = some 31 ∧ freshTest inService 2 (groupIndex 863 31) = true := by
  decide +kernel

/-- Core 0 at position 0 with a store on its way. -/
def writing : State := flds (inServiceAt 0 (mk [] { core0 [] grp with stores := [⟨0, devAddr 0 0 0xFC, [1, 2, 3, 4]⟩] })) [(0, Reg.CORE_IDENT_LOGICAL, 0, 0)]

theorem hyp_ChunksAndHandshakes_store : let a := devAddr 0 0 0xFC
    writing.m.getF 0 Reg.CORE_IDENT_LOGICAL 0 = 0 ∧ daRegion a = 0 ∧ daStack a = 0 ∧ (writing.m.chunkGroup 0 0 1 0).isSome = true ∧
    writing.m.accessHeld true a 4 true = false ∧
    (writing.m.core 0 0).stores.findIdx? (fun q => q.addr = a && q.data = [1, 2, 3, 4]) = some 0 ∧ 4 ≤ 256 - a % 256 := by decide +kernel

/-- Position 863 executes no index; core 0 goes and has not aborted yet. -/
theorem hyp_ChunksAndHandshakes_abort : inService.m.getF 0 Reg.CORE_IDENT_LOGICAL 863 = 0x3FF ∧
    writing.m.coreGoes 0 0 = true ∧ (writing.m.core 0 0).aborts + 1 < 8 ∧ freshTest writing 2 (groupIndex 0 31) = true := by decide +kernel

/-- A read and a write group in use; a row of the inbox that the token unit writes, and another row. -/
theorem hyp_ChunksAndHandshakes_timeout : inService.m.groupUsed 0 863 15 = true ∧ inService.m.groupUsed 0 863 31 = true ∧
    (∀ e ∈ [(devAddr 0 0 (830 * 0x20_0000 + 0x10_0000), true), (devAddr 0 0 0, false)], (daRegion e.1 = 0 && (reservedOff (daOff e.1)).isSome) = e.2) := by decide +kernel

theorem hyp_SparesPortResetsAndRelocation_spare : let i := groupIndex 863 31
    let s := onStk State.reset 0 (fun k => { k with vcp := { k.vcp with mapping := [(i, [83])] } })
    (s.m.stk 0).vcp.mapping.find? (fun e => e.1 = i) = some (i, [83]) ∧ s.m.getB 0 Reg.VCP_RESET_STATUS_IN_RESET = false ∧
    (∀ j, j < 4 → s.m.carries 0 i j ≠ 83) ∧ s.m.freeSpares 0 i [83] = [0, 1, 2, 3] ∧ s.m.getB 0 Reg.VCP_GROUP_RETIRED i = false ∧
    s.m.getB 0 Reg.VCP_PORT_RETIRED 863 = false := by decide +kernel

/-- The last group awaited, and one of two. -/
theorem hyp_SparesPortResetsAndRelocation_resync : let i := groupIndex 863 31
    ∀ l ∈ [[i], [0, i]], let s := flds (onStk inService 0 (fun k => { k with vcp := { k.vcp with resync := l } })) [(0, Reg.VCP_RESET_STATUS_IN_RESET, 0, 1)]
    s.m.getB 0 Reg.VCP_RESET_STATUS_IN_RESET = true ∧ (s.m.stk 0).vcp.resync.contains i = true ∧ freshTest s 2 i = true ∧
    (s.m.stk 0).integ.held = [] ∧ s.m.host.bar4 = [] := by decide +kernel

theorem hyp_SparesPortResetsAndRelocation_reset : inService.m.groupsInService 0 ≠ [] ∧ inService.m.writesOnWay 0 0 = [] ∧
    (inService.m.stk 0).vcp.unwritten = [] := by
  refine ⟨List.ne_nil_of_mem (a := 27647) ?_, by decide +kernel⟩
  exact List.mem_filter.2 ⟨List.mem_range.2 (by decide), by decide +kernel⟩

/-- Index 0 on its way from position 0 to the chrysalis core 40, which runs. -/
def moving : State :=
  flds (onStk (mk [] { core0 [] grp with halt := .moving }) 0 (fun k => { k with map := { k.map with relocating := [(0, 40)] } })) [(0, Reg.CORE_POWER_STATE, 40, 2)]

theorem hyp_SparesPortResetsAndRelocation_relocation : (moving.m.stk 0).map.relocating.find? (fun r => r.1 = 0) = some (0, 40) ∧
    moving.m.inRun 0 40 = true ∧ moving.m.getF 0 Reg.BUR_LOGICAL_MAP_HOME 0 = 0 ∧ moving.m.planRunning 0 = false ∧ (moving.m.stk 0).map.held = [] ∧
    moving.m.host.bar4 = [] ∧ moving.m.physOf 0 0 < 864 ∧ 40 ≠ moving.m.physOf 0 0 := by decide +kernel

/-! ## Scripts, tokens and work units -/

/-- Routes: index 0 channel 63 to its own channel 63, over a ring of depth 255; and index 0 channel 0 to it from mover channel 63. -/
def loopRoute : Route := ⟨0, 0, 63, 255, 0xFFFF, 0, 0, 63, 0, 5, 0x3FFF, 0xFFFF⟩
def moverRoute : Route := ⟨0, 0, 0, 2, 0xFFFF, 0, 0x3FF, 0, 0, 5, 0x3FFF, 0xFFFF⟩

/-- A RUNNING plan with these routes, a script entry at offset 0 of local memory with the fields listed, a launch record at 0x100, and core c. -/
def scripted (fs : List (Nat × Nat × Nat)) (c : Core) : State :=
  let s := onStk (mk [] c) 0 (fun k => { k with plan := { k.plan with plan := { k.plan.plan with routes := [loopRoute, moverRoute] } } })
  let s := withBytes s (localAddr 0 0 0) ((desc fs).take 32)
  planState (withBytes s (localAddr 0 0 0x100) ((desc [(4, 2, 1), (6, 1, 1), (7, 1, 255), (0x14, 4, 0x7_FFF0)]).take 32)) 2

/-- The entry names the record and channel 63, and carries COMMIT. -/
def entry63 : List (Nat × Nat × Nat) := [(0, 8, 2 ^ 63), (8, 8, 2 ^ 63), (16, 4, 0x100), (20, 2, 1)]

/-- A core with one token accepted on channel 63; the token is an end token when f is true. -/
def tokened (f : Bool) : Core := { ins := [(63, { accepted := 1, ends := if f then [0] else [] })] }

theorem hyp_ScriptEntriesBlocksAndLoops_start : let s := scripted entry63 (tokened false)
    let e := s.m.entryAt 0 0 0
    let b := PByte.vals (s.m.homeBytes (localAddr 0 0 0x100) 32)
    s.m.beforeEntry 0 0 = true ∧ s.m.accessHeld true (s.m.entryAddr 0 0 0) 32 = false ∧ s.m.poisonAt (s.m.entryAddr 0 0 0) 32 = [] ∧
    s.m.endingLoop 0 0 0 = none ∧ s.m.tokensHere 0 0 e = true ∧ s.m.creditsHere 0 0 e = true ∧ e.entry = 0x100 ∧
    s.m.poisonAt (localAddr 0 0 0x100) 32 = [] ∧ (LRecord.of b).fault b (popCount e.inMask 64 + popCount e.outMask 64) false = none ∧
    s.m.homeOfIndex 0 0 < 864 ∧ s.m.mem.wf = true := by decide +kernel

/-- The entry loops back to itself until an end token. -/
theorem hyp_ScriptEntriesBlocksAndLoops_loopEnd : let s := scripted [(0, 8, 2 ^ 63), (16, 4, 0x100), (20, 2, 5), (24, 4, 0xFFFF_FFFF)] (tokened true)
    s.m.beforeEntry 0 0 = true ∧ s.m.endingLoop 0 0 0 = some 0 ∧ lowestBit (s.m.entryAt 0 0 0).inMask 64 = some 63 ∧
    s.m.poisonAt (s.m.entryAddr 0 0 0) 32 = [] := by decide +kernel

theorem hyp_ScriptEntriesBlocksAndLoops_dispatch : let s := scripted entry63 { running := true, launch := { active := true, blocks := 1 } }
    let c := s.m.core 0 0
    s.m.coreGoes 0 0 = true ∧ c.launch.active = true ∧ c.launch.next < c.launch.blocks ∧ SMap.find c.launch.slots (c.launch.blockSlot c.launch.next) = none := by
  decide +kernel

/-- The last iteration of a counted loop, and one before it. -/
theorem hyp_ScriptEntriesBlocksAndLoops_end : ∀ n ∈ [1, 2], let s := scripted entry63 { running := true, launch := { active := true, blocks := 1, next := 1 },
                                                                                          entry := { flags := 5, count := n } }
    s.m.coreGoes 0 0 = true ∧ (s.m.core 0 0).launch.active = true ∧ (s.m.core 0 0).launchDone = true := by decide +kernel

theorem hyp_CommitTokensAndCredits_commit : let s := scripted entry63 { committing := some 7, loopEnd := some (2 ^ 63) }
    let c := s.m.core 0 0
    c.committing = some 7 ∧ s.m.planRunning 0 = true ∧ c.halt = .none ∧ c.mx.numerical = false ∧ c.stores = [] ∧
    (setBits (c.loopEnd.getD 0) 64).all (fun ch => s.m.creditHere 0 0 ch) = true := by decide +kernel

/-- The next token, one accepted already, and an end token of channel 63. -/
theorem hyp_CommitTokensAndCredits_token : ∀ x ∈ [(1, false), (0, false), (1, true)], let s := scripted entry63 (tokened false)
    let w := loopRoute.token x.1 x.2
    let i := s.m.inChan 0 0 63
    s.m.planOn 0 = true ∧ bits w 16 6 = 63 ∧ s.m.inRoute 0 0 63 = some loopRoute ∧ bits w 0 4 = loopRoute.typ ∧ bits w 4 10 = loopRoute.src ∧
    bits w 14 2 = loopRoute.srcStack ∧ (bits w 42 14 = loopRoute.buffer ∨ bits w 42 14 = 0x3FFF) ∧ bits w 22 20 = x.1 % 2 ^ 20 ∧ bits w 56 8 = x.1 % 255 ∧
    i.cur ≤ i.accepted ∧ i.accepted - i.cur < 255 ∧ i.waiting = [] ∧ i.base + i.accepted = 1 ∧ w < 2 ^ 64 ∧ s.m.wire = [] ∧
    (s.m.stackOf loopRoute.srcSdid).any (fun v => s.m.cut 1 v 0) = false ∧ s.m.inboxHeld 0 0 = false := by decide +kernel

/-- A token and a credit of another plan, and of no plan, to the last index number. -/
theorem hyp_CommitTokensAndCredits_otherPlan : ∀ w ∈ [(loopRoute.token 0 false), (loopRoute.credit 0)], ∀ pl ∈ [some 7, none],
    let x : Msg := .token pl 0xFFFF 0 1023 w
    let s := scripted entry63 (tokened false)
    let s : State := { s with m := { s.m with wire := [x] } }
    w < 2 ^ 64 ∧ x ∈ s.m.wire ∧ (pl = none ∨ pl ≠ s.m.planTag 0) ∧ (s.m.stackOf 0xFFFF).any (fun v => s.m.cut 1 v 0) = false ∧
    s.m.inboxHeld 0 1023 = false := by decide +kernel

/-- A credit of a core's channel, and of a mover's. -/
theorem hyp_CommitTokensAndCredits_credit :
    (let s := scripted entry63 { outs := [(63, { sent := 1 })] }
     let w := loopRoute.credit 0
     let o := s.m.prodChan 0 0 63
     s.m.planOn 0 = true ∧ bits w 0 4 = 2 ∧ bits w 16 6 = 63 ∧ s.m.outRoute 0 0 63 = some loopRoute ∧ bits w 4 10 = 0 ∧ s.m.consumerSdid 0 loopRoute = 0xFFFF ∧
     bits w 42 14 = 5 ∧ bits w 22 20 = o.oldest ∧ bits w 56 8 = o.oldest ∧ o.oldest < o.sent ∧ o.waiting = [] ∧ s.m.wire = [] ∧
     (s.m.stackOf 0xFFFF).any (fun v => s.m.cut 1 v 0) = false ∧ s.m.inboxHeld 0 0 = false) ∧
    (let s := onStk (scripted entry63 {}) 0 (fun k => { k with movers := [(63, { outs := [(0, { sent := 1 })] })] })
     let w := moverRoute.credit 0
     let o := s.m.prodChan 0 0x3FF 0
     bits w 0 4 = 2 ∧ bits w 16 6 = 0 ∧ s.m.outRoute 0 0x3FF 0 = some moverRoute ∧ bits w 4 10 = 0 ∧ bits w 42 14 = 5 ∧ bits w 22 20 = o.oldest ∧
     o.oldest < o.sent ∧ o.waiting = [] ∧ s.m.consumerSdid 0 moverRoute = 0xFFFF ∧ s.m.inboxHeld 0 0x3FF = false) := by decide +kernel

/-- The third abort, and a fourth that waits for nothing. -/
theorem hyp_CommitTokensAndCredits_replay : ∀ n ∈ [2, 3], let s := scripted entry63 { halt := .aborted, aborts := n }
    s.m.planRunning 0 = true ∧ (s.m.core 0 0).halt = .aborted ∧ (s.m.stk 0).integ.consumed = [] ∧ (s.m.stk 0).integ.queue = [] ∧
    (s.m.stk 0).integ.running = [] ∧ s.m.poisonedSlots 0 0 = [] ∧ (s.m.stk 0).link.xfers = [] := by decide +kernel

theorem hyp_AbortsFaultsAndCompletion :
    (let s := planState (mk [] (core0 [] grp)) 4; s.m.getF 0 Reg.BUR_PLAN_STATE_STATE = 4 ∧ (s.m.core 0 0).halt ≠ .stopped) ∧
    (let s := planState (mk [] { core0 [] grp with halt := .fault }) 2; (s.m.core 0 0).halt = .fault ∧ (List.range 4).any s.m.planOn = true) ∧
    (let s := planState (mk [] { ended := true }) 2; s.m.planRunning 0 = true ∧ s.m.planDone 0 = true) := by decide +kernel

/-! ## Sync objects, phases and barriers -/

/-- Handle 64 of the stack by two signals, one failing; handle 63; and a signal from another stack while a plan runs. -/
theorem hyp_SignalsStallsAndPhases_signal : ∀ o ∈ [64, 8191, 63, 0], let s := planState dPart 2
    let h := 0xFFFF_0000 + o
    handleBad h = false ∧ handleSdid h = s.m.sdid 0 ∧ handleObj h = o ∧ s.m.planOn 0 = true ∧ s.m.getF 0 Reg.SYNC_STATUS_FAIL_CODE o < 2 ^ 16 := by decide +kernel

/-- A signal on its way from stack 1 that carries the plan; and one to a stack that runs none. -/
theorem hyp_SignalsStallsAndPhases_between : (let s := planState dPart 2
      let s : State := { s with m := { s.m with wire := [.signal (s.m.planTag 0) 1 0xFFFF_0040 1 0] } }
      s.m.cut dPart.fuse.part.stackCount 1 0 = false ∧ s.m.planOn 0 = true ∧ s.m.planTag 0 = some 0) ∧
    (dPart.m.planOn 0 = false ∧ dPart.m.cut dPart.fuse.part.stackCount 1 0 = false ∧ handleSdid 0xFFFF_0040 = dPart.m.sdid 0 ∧ dPart.fuse.part.stackCount = 2) := by
  decide +kernel

theorem hyp_SignalsStallsAndPhases_stall : let s := flds State.reset [(0, Reg.SYNC_FWD_STRIDE_TIMEOUT_MS, 8191, 1), (0, Reg.SYNC_STATUS_WAITERS, 8191, 1)]
    s.m.getF 0 Reg.SYNC_FWD_STRIDE_TIMEOUT_MS 8191 ≠ 0 ∧ s.m.getF 0 Reg.SYNC_STATUS_WAITERS 8191 ≠ 0 ∧ (s.m.stk 0).plan.stallDone.contains 8191 = false ∧
    s.m.getF 0 Reg.SYNC_STATUS_STALLED 8191 ≤ 1 := by decide +kernel

/-- A plan of two phases; the RELEASE object of phase 0 is object 64 with count c, and its reshard descriptors number n. -/
def phased (n c : Nat) (f : PlanSt → PlanSt) : State :=
  let s := planState (flds State.reset [(0, Reg.SYNC_COUNT_COUNT, 64, c)]) 2
  onStk s 0 (fun k => { k with plan := f { k.plan with plan := { k.plan.plan with
    phases := [⟨0, 0xFFFF_0040, 0xFFFF_0040, 0xFFFF_0041, 0, n, 0⟩, ⟨1, 0xFFFF_0040, 0xFFFF_0040, 0xFFFF_0041, 0, 0, 0⟩]
    reshards := [⟨0xFFFF, 0, devAddr 0 0 0, devAddr 0 0 0x10_0000, 128⟩, ⟨0xFFFF, 0, devAddr 0 0 0, devAddr 0 0 0x10_0000, 128⟩] } } })

theorem hyp_SignalsStallsAndPhases_turning : ((phased 0 1 (fun p => { p with turning := [1] })).m.stk 0).plan.turning ≠ [] := by decide +kernel

theorem hyp_SignalsStallsAndPhases_reshard : ∀ n ∈ [0, 2], let s := phased n 1 id
    s.m.phaseNow 0 = 0 ∧ ((s.m.plan 0).phase 0).isSome = true ∧ ((s.m.plan 0).phase 1).isSome = true ∧ s.m.planRunning 0 = true ∧
    (s.m.stk 0).plan.switching = false ∧ (s.m.stk 0).plan.turning = [] ∧ satisfies (s.m.count 0 (handleObj 0xFFFF_0040)) 1 = true ∧
    0 + 1 < 2 ^ Reg.BUR_PLAN_STATE_PHASE.width := by decide +kernel

theorem hyp_SignalsStallsAndPhases_pull : let s := phased 2 1 (fun p => { p with pulling := [0, 1], switching := true })
    ((s.m.plan 0).phase (s.m.phaseNow 0)).isSome = true ∧ (s.m.plan 0).reshards[1]? = some ⟨0xFFFF, 0, devAddr 0 0 0, devAddr 0 0 0x10_0000, 128⟩ ∧
    (s.m.stk 0).plan.pulling.contains 1 = true ∧ (s.m.stackOf 0xFFFF).isSome = true ∧ s.m.anyHeld [(devAddr 0 0 0, 128)] = false ∧
    s.m.anyHeld [(devAddr 0 0 0x10_0000, convLen 0 128)] = false ∧ (s.m.stk 0).plan.pulling.any (fun j => j ≠ 1) = true ∧ s.m.sdid 0 < 2 ^ 16 := by decide +kernel

theorem hyp_BarrierStallsWatchdogsAndAtomicsAtHome_barrier :
    let s := mk [] { core0 [] grp with groups := [(0, grp), (1, { grp with index := 1 })]
                                       launch := { (core0 [] grp).launch with groups := 2, arrived := [(3, 1)] } }
    let c := s.m.core 0 0
    s.m.getF 0 Reg.CORE_BAR_WATCHDOG_SHIFT (s.m.physOf 0 0) ≠ 0 ∧ c.launch.arrivedAt 0 3 ≠ 0 ∧ c.missing 0 3 ≠ [] ∧ c.launch.stalled.contains (0 * 4 + 3) = false ∧
    (c.missing 0 3).all (fun gi => c.inWait (c.launch.slotOf 0 gi)) = false ∧ s.m.physOf 0 0 < 864 := by decide +kernel

theorem hyp_BarrierStallsWatchdogsAndAtomicsAtHome_watchdog : let s := planState (mk [] { core0 [] grp with aborts := 6 }) 2
    s.m.coreGoes 0 0 = true ∧ (s.m.core 0 0).aborts < 7 ∧ s.m.physOf 0 0 < 864 ∧ (s.m.stk 0).integ.running = [] ∧ (s.m.stk 0).integ.queue = [] := by decide +kernel

/-- An atomic with one or two requests, at the last place of accumulator memory. -/
def atomic (n : Nat) : State :=
  let a := accAddr 0 0 0x1_FFFC
  mk [] { core0 [] { grp with wait := .atomic } with
    atoms := [(0, { op := .add, wide := false, mask := 1, dst := 10, size := 8, reqs := List.replicate n ⟨a, [(0, 1, 0)], some 0⟩ })] }

theorem hyp_BarrierStallsWatchdogsAndAtomicsAtHome_atomic : ∀ n ∈ [1, 2], let s := atomic n
    let a := accAddr 0 0 0x1_FFFC
    ((SMap.find (s.m.core 0 0).atoms 0).map (fun a => (a.reqs.length, a.ord, a.dead.length))) = some (n, none, 0) ∧ (s.m.core 0 0).stores = [] ∧ s.m.portHeld 0 0 a = false ∧ (SMap.find (s.m.core 0 0).groups 0).isSome = true ∧
    daRegion a ≠ 4 ∧ s.m.accessHeld true a 4 true = false ∧ a + 4 ≤ 2 ^ 52 ∧ s.m.mem.wf = true ∧ (∀ i, i < 4 → s.m.rowFailed (a + i) = false) ∧
    (∀ i, i < 4 → s.m.mem.kindAt (a + i) = 0 ∧ s.m.mem.detects (a + i) = false) := by decide +kernel

/-! ## The array, the softmax and bias unit, the Cabinets -/

/-- A core whose array holds a tile of one row of 64 weights of format f, with a queue and operations in progress. -/
def arr (f w : Nat) (q : List MxOp) (r : List MxRun) : Core :=
  { core0 [] grp with mx := { active := ({ fmt := f, kRows := 1, nCols := 64, rows := [List.replicate 64 w] } : Bank).withSums, queue := q, run := r, nextId := 3 } }

/-- A stream of one row of format f at offset 0x2000 into the last accumulator row, with FIRST. -/
def streamOp (f accFmt : Nat) : MxOp :=
  { id := 0, kind := .stream, desc := { fmt := f, rows := 1, addr := 0x2000, stride := 64, accRow := if accFmt = 2 then 510 else 511, accFmt := accFmt, mode := 1 } }

/-- The core with 0x38 at offset 0x2000 of its local memory. -/
def arrS (c : Core) : State := withBytes (mk [] c) (localAddr 0 0 0x2000) [0x38]

/-- What the clauses about a row rest on: the row's input, what it gives with flips, and its judgement. -/
def judged (s : State) (r : MxRun) (fl : List (Nat × Nat)) : RowCheck × RowHold :=
  let x := (s.m.core 0 0).mx
  let rg := rowRanges (localAddr 0 0 0) r.op x.active.kRows r.row
  let inp := rowInput r.op x.active.kRows r.row (rg.map (fun e => s.m.bytesAt e.1 e.2))
  let out := x.rowOut r.op.desc inp fl
  (x.active.judge r.op.desc.fmt r.op.desc.accFmt inp out.codes out.ints, ⟨inp.codes, inp.scales, out.codes, x.active.checkBits r.op.desc.fmt inp⟩)

/-- Whether the bytes read and the accumulator slots of a row are clean and not held. -/
def rowReady (s : State) (r : MxRun) : Bool :=
  let d := r.op.desc
  let rg := rowRanges (localAddr 0 0 0) r.op (s.m.core 0 0).mx.active.kRows r.row
  let old := (if mxComplex d.fmt then [0, 1] else [0]).flatMap (fun q => (slotsRead d).map (fun l =>
    (accValueAddr (accAddr 0 0 0) d.accFmt d.accRow (slotIndex d q r.row l), 64 * accWidth d.accFmt)))
  s.m.mem.wf && rg.all (fun e => decide (s.m.Clean e.1 e.2)) && !s.m.anyHeld rg && old.all (fun e => decide (s.m.Clean e.1 e.2)) &&
    decide (d.accFmt ≤ 2) && decide (d.accRow + d.rows ≤ 1024) && s.m.arrayGoes 0 0 && decide (s.m.homeOfIndex 0 0 < 864) &&
    decide (((s.m.core 0 0).groups.map (·.1)).Nodup) && decide (s.m.getF 0 Reg.CORE_MX_ROWS_ROWS (s.m.physOf 0 0) + 1 < 2 ^ 48)

theorem hyp_MatrixArrayAtWork_start : ∀ k ∈ [MxKind.loadw, .swap, .stream, .drain], let s := arrS (arr 0 0x38 [{ id := 0, kind := k }] [])
    s.m.arrayGoes 0 0 = true ∧ ((s.m.core 0 0).mx.queue.map (fun o => (o.kind, (s.m.core 0 0).mx.mayStart o))) = [(k, true)] := by decide +kernel

theorem hyp_MatrixArrayAtWork_loadw : let d : MxDesc := { fmt := 0, rows := 1, cols := 64, addr := 0x2000, stride := 64 }
    let s := arrS (arr 0 0x38 [] [{ op := { id := 0, kind := .loadw, desc := d } }])
    ((s.m.core 0 0).mx.run.find? (fun r => r.op.kind = .loadw)).isSome = true ∧ s.m.Clean (localAddr 0 0 0x2000) 64 ∧
    s.m.accessHeld true (localAddr 0 0 0x2000) 64 = false := by decide +kernel

/-- A row that matches, one whose check is skipped (W48 here: an infinite weight), in FP8 and in INT8. -/
theorem hyp_MatrixArrayAtWork_row : ∀ c ∈ [(0, 0x38, 0, RowCheck.ok), (6, 1, 1, .ok), (0, 0x7F, 0, .skipped)],
    let r : MxRun := { op := streamOp c.1 c.2.2.1 }
    let s := arrS (arr c.1 c.2.1 [] [r])
    rowReady s r = true ∧ (s.m.core 0 0).mx.run = [r] ∧ r.row < r.op.desc.rows ∧ (judged s r []).1 = c.2.2.2 := by decide +kernel

/-- Flips that the check sees: of a floating and of an integer root. -/
theorem hyp_MatrixArrayAtWork_mismatch : (let r : MxRun := { op := streamOp 0 0 }
      let s := arrS (arr 0 0x38 [] [r])
      rowReady s r = true ∧ (judged s r [(0, 2 ^ 31)]).1 ≠ .ok ∧ (judged s r [(0, 2 ^ 31)]).1 ≠ .skipped) ∧
    (let r : MxRun := { op := streamOp 6 1 }
     let s := arrS (arr 6 1 [] [r])
     rowReady s r = true ∧ (judged s r [(63, 1)]).1 ≠ .ok ∧ (judged s r [(63, 1)]).1 ≠ .skipped ∧ (s.m.core 0 0).aborts < 7) := by decide +kernel

/-- A held row: the same values again, and others. -/
theorem hyp_MatrixArrayAtWork_recompute : let r0 : MxRun := { op := streamOp 0 0 }
    let s0 := arrS (arr 0 0x38 [] [r0])
    let h := (judged s0 r0 [(0, 2 ^ 31)]).2
    let r : MxRun := { r0 with hold := some h }
    let s := arrS (arr 0 0x38 [] [r])
    let x := (s.m.core 0 0).mx
    rowReady s r = true ∧ x.run.find? (fun r => r.op.kind = .stream && r.hold.isSome) = some r ∧ (s.m.core 0 0).aborts < 7 ∧
    h.root = (x.rowOut r.op.desc ⟨h.acts, h.scales⟩ [(0, 2 ^ 31)]).codes ∧ h.root ≠ (x.rowOut r.op.desc ⟨h.acts, h.scales⟩ []).codes ∧
    h.c = x.active.checkBits r.op.desc.fmt ⟨h.acts, h.scales⟩ := by decide +kernel

theorem hyp_MatrixArrayAtWork_done : let r : MxRun := { op := streamOp 0 0, row := 1 }
    (arrS (arr 0 0x38 [] [r])).m.arrayGoes 0 0 = true ∧ r.rowsDone = true ∧ r.op.kind = .stream := by decide +kernel

theorem hyp_MatrixArrayAtWork_drain : let d : MxDesc := { fmt := 0, rows := 1, cols := 64, addr := 0x7_FF00, stride := 256, accRow := 511, mode := 1 }
    let o : MxOp := { id := 0, kind := .drain, desc := d }
    let s := arrS (arr 0 0x38 [] [{ op := o }])
    let read := (drainSlotsOf d).map (fun e => (accValueAddr (accAddr 0 0 0) d.accFmt d.accRow (drainIndex d e.1 e.2.1 e.2.2), 64 * accWidth d.accFmt))
    s.m.mem.wf = true ∧ (∀ e ∈ read, s.m.Clean e.1 e.2) ∧ s.m.anyHeld read = false ∧ s.m.anyHeld (o.writes.map (fun w => (localAddr 0 0 0 + w.1, w.2))) = false ∧
    d.outBytes ≤ d.stride ∧ d.addr + d.rows * d.stride ≤ 0x8_0000 := by decide +kernel

/-- A core whose unit runs an operation with the descriptor listed. -/
def attS (fs : List (Nat × Nat × Nat)) (l : List PackRow := []) : State :=
  mk [] { core0 [] grp with att := { run := some { id := 0, desc := (desc fs).map (BitVec.ofNat 8), list := l }, nextId := 1 } }

/-- The premises of every clause of an operation that ends. -/
def attGoes (s : State) (op : Nat) : Bool :=
  s.m.coreGoes 0 0 && decide (s.m.homeOfIndex 0 0 < 864) && decide (((s.m.core 0 0).groups.map (·.1)).Nodup) && !s.m.accessHeld true (localAddr 0 0 0) 1 &&
    (match (s.m.core 0 0).att.run with
     | some o => decide (fieldAt o.desc 0 1 = op)
     | none => false)

theorem hyp_SoftmaxUnitAtWork_start : let s := mk [] { core0 [] grp with att := { queue := [{ id := 0, desc := [] }], nextId := 1 } }
    s.m.coreGoes 0 0 = true ∧ (s.m.core 0 0).att.run = none ∧ (s.m.core 0 0).att.queue = [{ id := 0, desc := [] }] := by decide +kernel

theorem hyp_SoftmaxUnitAtWork_bias : let s := attS [(0, 1, 0x11), (1, 1, 7), (4, 4, 0x7_F800)]
    attGoes s 0x11 = true ∧ s.m.Quiet (localAddr 0 0 0x7_F800) 2048 := by decide +kernel

theorem hyp_SoftmaxUnitAtWork_score :
    let fs := [(0, 1, 0x12), (1, 1, 1), (2, 2, 1), (6, 2, 511), (8, 1, 1), (11, 1, 0xFF), (16, 4, 0x2000), (20, 4, 128), (24, 4, 0x1_8000), (36, 4, 1)]
    let s := attS fs
    let d := ScoreD.of ((desc fs).map (BitVec.ofNat 8))
    attGoes s 0x12 = true ∧ d.m = 1 ∧ ((List.range d.m).foldl (Mach.scoreStep 0 0 d (s.m.core 0 0).att.bias ((s.m.core 0 0).att.pack.getD [])) (s.m, [])).2 = [] := by
  decide +kernel

theorem hyp_SoftmaxUnitAtWork_norm :
    let fs := [(0, 1, 0x13), (2, 2, 1), (6, 1, 1), (7, 1, 3), (8, 4, 0x2000), (12, 4, 256), (16, 4, 0x4_0000), (20, 4, 0x5_0000), (24, 4, 0x7_FFFC)]
    let s := attS fs
    let d := NormD.of ((desc fs).map (BitVec.ofNat 8))
    attGoes s 0x13 = true ∧ ((List.range d.m).foldl (Mach.normStep 0 0 d) (s.m, [], 0, 0)).2.1 = [] ∧ d.count = true ∧ d.cntDst + 4 ≤ 0x8_0000 ∧
    s.m.mem.wf = true := by decide +kernel

theorem hyp_SoftmaxUnitAtWork_pack : let fs := [(0, 1, 0x14), (1, 1, 1), (2, 2, 64), (4, 4, 0x3000), (8, 4, 0x7_FFC0), (12, 4, 64)]
    let s := attS fs [⟨0x2000, 0, 0, 0, 0, 0, 0, 0xFF⟩]
    let d := PackD.of ((desc fs).map (BitVec.ofNat 8))
    attGoes s 0x14 = true ∧ s.m.Clean (localAddr 0 0 0x2000) d.bytes ∧ s.m.mem.wf = true ∧ d.bytes ≤ d.stride ∧ d.dst + 1 * d.stride ≤ 0x8_0000 ∧
    d.dst % 8 = 0 ∧ d.stride % 8 = 0 ∧ d.bytes % 8 = 0 ∧ 0x2000 + d.bytes ≤ d.dst := by decide +kernel

/-- Cabinet W with 32 frames and 16 map blocks, sequences 0 and 1 LIVE, and operations waiting in its queue. -/
def kvS (q : List KOp) (x : Seq := {}) (pages : SMap KPage := []) : State :=
  let s := flds State.reset [(0, Reg.CAB_POOL_CFG_FRAMES, 0, 32), (0, Reg.CAB_POOL_CFG_MAP_BLOCKS, 0, 16), (0, Reg.CAB_POOL_CFG_INTAKE, 0, 1)]
  onStk s 0 (fun k => { k with seqs := [(0, x), (1, {})], cabs := ⟨{ queue := q, pages := pages }, {}⟩ })

/-- An operation with key 0 on sequence 0. -/
def kop (kind : Nat) (n : Nat := 0) : KOp := { kind := kind, key := 0, seq := 0, seq2 := if kind = 0x23 then 1 else 0, n := n, streams := 1,
                                               data := if kind = 0x21 then List.replicate (kvEntry 0 0) ⟨0, 0⟩ else [] }

/-- What the three clauses about an arrival tell apart: whether the operation is known, and whether the intake lacks room. -/
def arrives (s : State) (o : KOp) : Bool × Bool :=
  (decide (o.key < s.m.getF 0 Reg.CAB_ORDER_NEXT_KEY 0) || (s.m.cab 0 0).queue.any (fun p => p.key = o.key),
   decide (o.key ≠ s.m.getF 0 Reg.CAB_ORDER_NEXT_KEY 0) &&
     decide (s.m.getF 0 Reg.CAB_POOL_CFG_INTAKE 0 * 2 ^ 20 - 262144 < (s.m.cab 0 0).intakeUsed + o.data.length))

/-- A duplicate, the next key, the last key of the window, and one for which the intake has no room. -/
theorem hyp_KeyedOperationsInOrder_arrival :
    ({ (kvS []).m with wire := [.keyed 0 0 (kop 0x24)] }).keyedOnWay 0 0 = [kop 0x24] ∧
    arrives (kvS [kop 0x24]) (kop 0x24) = (true, false) ∧ arrives (kvS []) (kop 0x24) = (false, false) ∧
    arrives (kvS []) { kop 0x24 with key := 4095 } = (false, false) ∧
    arrives (flds (kvS []) [(0, Reg.CAB_POOL_CFG_INTAKE, 0, 0)]) { kop 0x21 with key := 4095 } = (false, true) := by decide +kernel

/-- The premises of an operation that is performed: its sequence LIVE, the map's ids unique. -/
def kvGoes (s : State) (f : Mach) (o : KOp) : Bool :=
  decide (s.m.nextOp 0 0 o.kind = some o) && !s.m.cabHeld 0 0 && !s.m.refillWaits 0 0 o && (s.m.journalPut f 0).isSome && decide (cabOf o.seq = 0) &&
    (match s.m.seq 0 o.seq with
     | some x => (x.map.all (fun e => (s.m.page 0 0 e.2).isSome)) && decide ((x.map.map (·.1)).Nodup)
     | none => false) && decide (((s.m.cab 0 0).pages.map (·.1)).Nodup)

theorem hyp_KeyedOperationsInOrder_append : (let o := kop 0x21 1
      let s := kvS [o]
      kvGoes s (s.m.performAppend 0 0) o = true ∧ s.m.appendCheck 0 0 o {} = 0 ∧ (s.m.append 0 0 o {}).2 = 0) ∧
    (let o := { kop 0x21 1 with fmt := 1 }
     let s := kvS [o]
     kvGoes s (s.m.performAppend 0 0) o = true ∧ s.m.appendCheck 0 0 o {} ≠ 0) := by decide +kernel

theorem hyp_KeyedOperationsInOrder_others :
    (let s := kvS [kop 0x23]; kvGoes s (s.m.performFork 0 0) (kop 0x23) = true ∧ (s.m.seq 0 1).isSome = true ∧ (s.m.fork 0 0 0 1 0 {} {}).2 = 0) ∧
    (∀ fl ∈ [0, 1], let o := { kop 0x24 with flags := fl }; let s := kvS [o]; kvGoes s (s.m.performFree 0 0) o = true) ∧
    (let s := kvS [kop 0x25]; kvGoes s (s.m.performTrunc 0 0) (kop 0x25) = true) ∧
    (let s := kvS [kop 0x26 1]; kvGoes s (s.m.performHint 0 0) (kop 0x26 1) = true) ∧
    -- a sequence that is not LIVE
    (let o := { kop 0x24 with seq := 9 }; (kvS [o]).m.nextOp 0 0 0x24 = some o ∧ (kvS [o]).m.seq 0 9 = none) := by decide +kernel

theorem hyp_KeyedOperationsInOrder_chest : let s := onStk State.reset 0 (fun k => { k with cabs := ⟨{ copying := [(0, 0)] }, {}⟩ })
    (s.m.cab 0 0).copying = [(0, 0)] := by decide +kernel

/-- A gather of one position of sequence 0: a core that waits for it. -/
def gatherS (fs : List (Nat × Nat × Nat)) (x : Seq := {}) : State :=
  let g : KGather := ⟨0, (desc fs).map (BitVec.ofNat 8), none⟩
  onStk (mk [] { core0 [] { grp with wait := .kv 1 } with kv := { gathers := [g], nextId := 1 } }) 0 (fun k => { k with seqs := [(0, x)] })

def gatherGoes (s : State) : Bool :=
  s.m.coreGoes 0 0 && !s.m.cabHeld 0 0 && !s.m.accessHeld true (localAddr 0 0 0) 1 && decide (((s.m.core 0 0).groups.map (·.1)).Nodup) &&
    decide (s.m.homeOfIndex 0 0 < 864) && s.m.mem.wf && decide ((s.m.twin 0).logSent + jCloseSize ≤ jLogSize)

/-- A sequence of another format; one whose position is empty. -/
theorem hyp_GathersWriteDataThenStatus_mismatch :
    let s := gatherS [(0, 1, 0x22), (1, 1, 1), (2, 2, 1), (0x0C, 4, 0x7_FFF8), (0x10, 4, 0x2000), (0x14, 4, 8), (0x20, 1, 1)]
    gatherGoes s = true ∧ s.m.seq 0 0 = some {} ∧ 0x7_FFF8 + 8 ≤ 0x8_0000 ∧ ({} : Seq).fmt ≠ 1 := by decide +kernel

theorem hyp_GathersWriteDataThenStatus_keys :
    let fs := [(0, 1, 0x22), (1, 1, 1), (2, 2, 1), (0x0C, 4, 0x7_FFF8), (0x10, 4, 0x2000), (0x14, 4, 8)]
    let s := gatherS fs
    let g : KGather := ⟨0, (desc fs).map (BitVec.ofNat 8), none⟩
    (s.m.core 0 0).kv.gathers = [g] ∧ gatherGoes s = true ∧ s.m.gatherScan 0 0 g {} = s.m ∧ fieldAt g.desc 1 1 = 1 ∧ fieldAt g.desc 0x20 1 = 0 ∧
    fieldAt g.desc 0x21 1 = 0 ∧ 2 * 1 ≤ fieldAt g.desc 0x14 4 ∧ fieldAt g.desc 0x10 4 + kvDim 0 * fieldAt g.desc 0x14 4 ≤ 0x8_0000 ∧
    localAddr 0 0 0x2000 + (kvDim 0 - 1) * 8 + 2 ≤ localAddr 0 0 0x7_FFF8 := by decide +kernel

/-! ## Device links, twins -/

/-- Link n of stack 0 in state st, with the link's own part f. -/
def lnkS (st : Nat) (n : Nat := 23) (f : Link → Link := id) (s : State := State.reset) : State :=
  let t := flds s [(0, Reg.LNK_STATUS_STATE, n, st), (0, Reg.LNK_STATUS_SPARE_FOR, n, 15)]
  { t with m := t.m.updLnk 0 n f }

theorem hyp_LinksTrainFailOverAndRetrain_training : ∀ st ∈ [1, 3], let s := lnkS st
    s.m.getF 0 Reg.LNK_STATUS_STATE 23 = st ∧ (s.m.lnk 0 23).testLane = none ∧ (s.m.lnk 0 23).asked = false ∧ 0x1234 ≠ s.m.sdid 0 ∧ s.m.sdid 0 = 0xFFFF ∧
    s.m.getB 0 Reg.LNK_CTRL_SPARE_EN 23 = true ∧ s.m.getF 0 Reg.LNK_STATUS_SPARE_FOR 23 = 15 ∧ (s.m.lnk 0 23).scan = none ∧ s.m.getB 0 Reg.LNK_PAT_CFG_CHECK 23 = false ∧
    (flds s [(0, Reg.LNK_SDID_SDID, 0, 5)]).m.sdid 0 = 5 ∧ (s.m.lnk 0 23).fails < 2 := by decide +kernel

/-- No route is VALID in a state that differs from reset in no route: at its last label. -/
theorem hyp_LinksTrainFailOverAndRetrain_failed : let s := lnkS 1 23 (fun l => { l with fails := 2 })
    2 ≤ (s.m.lnk 0 23).fails ∧ s.m.getB 0 Reg.LNK_ROUTE_VALID 16383 = false ∧ (s.m.stk 0).link.openX = [] ∧ s.m.twinState 0 = 0 := by decide +kernel

theorem hyp_LinksTrainFailOverAndRetrain_bridge : bridgePresent .D 0 = true ∧
    (∀ st ∈ [1, 2, 3], (flds dPart [(0, Reg.LNK_BRIDGE_STATUS_STATE, 0, st)]).m.getF 0 Reg.LNK_BRIDGE_STATUS_STATE 0 = st) := by decide +kernel

/-- Route 5 over link 23, with ALT that is UP, and with none. -/
theorem hyp_LinksTrainFailOverAndRetrain_routes : ∀ alt ∈ [3, 0x1F],
    let s := planState (flds (lnkS 2 3 id (lnkS 2)) [(0, Reg.LNK_ROUTE_VALID, 5, 1), (0, Reg.LNK_ROUTE_HOP, 5, 23), (0, Reg.LNK_ROUTE_ALT, 5, alt)]) 2
    s.m.getF 0 Reg.LNK_STATUS_STATE 23 = 2 ∧ s.m.getB 0 Reg.LNK_ROUTE_VALID 5 = true ∧ s.m.getF 0 Reg.LNK_ROUTE_HOP 5 = 23 ∧
    (s.m.stk 0).link.failed.contains 5 = false ∧ (s.m.stk 0).link.onAlt.contains 5 = false ∧ s.m.planOn 0 = true ∧
    (decide (alt < 24) && decide (alt ≠ 23) && s.m.linkUp 0 alt) = decide (alt = 3) := by decide +kernel

theorem hyp_LinksTrainFailOverAndRetrain_window : (lnkS 4).m.getF 0 Reg.LNK_STATUS_STATE 23 = 4 ∧
    (let s := lnkS 2 23 (fun l => { l with window := true })
     (s.m.lnk 0 23).window = true ∧ s.m.linkUp 0 23 = true ∧ s.m.getF 0 Reg.LNK_CTRL_LANE_LIMIT 23 ≤ 0xFFFF_FFFF ∧ s.m.twinState 0 = 0 ∧
     (s.m.lnk 0 23).scan ≠ some 8 ∧ (bit (s.m.getF 0 Reg.LNK_PAT_CFG_LANES 23) 8 && s.m.getB 0 Reg.LNK_PAT_CFG_CHECK 23) = false) := by decide +kernel

/-- The flit 0 of link 23 of stack 0. -/
def fh : FlitHead := { stack := 0, link := 23, seq := 0, ack := 0 }

/-- A flit of route 7 with address a and payload p. -/
def flit (a : Nat) (p : List Nat) : FlitIn := { head := fh, len := Fin.ofNat 513 p.length, route := 7, addr := BitVec.ofNat 52 a, payload := p.map (BitVec.ofNat 8) }

/-- Link 23 UP, route 7 VALID with the hop given, the peer's plan announced, link state f. -/
def routeS (hop : Nat) (f : LinkSt → LinkSt := id) (ann : Option Nat := some 0) : State :=
  let s := planState (flds (lnkS 2 23 (fun l => { l with announced := ann })) [(0, Reg.LNK_ROUTE_VALID, 7, 1), (0, Reg.LNK_ROUTE_HOP, 7, hop), (0, Reg.LNK_ROUTE_ALT, 7, 3)]) 2
  { s with m := s.m.updLinks 0 f }

theorem hyp_FlitsInSequenceAndRouted_head : let s := routeS 0x1F
    fh.stack.val < s.fuse.part.stackCount ∧ s.m.linkUp 0 23 = true ∧ fh.crcOk = true ∧ { fh with crcOk := false }.crcOk = false ∧ (s.m.lnk 0 23).unacked = [] ∧
    (s.m.lnk 0 23).queue = [] ∧ (s.m.lnk 0 23).opened = none ∧ fh.seq.val = (s.m.lnk 0 23).recvSeq ∧ { fh with seq := 4095 }.seq.val ≠ (s.m.lnk 0 23).recvSeq ∧ fh.nak = false ∧
    (lnkS 2 23 (fun l => { l with unacked := [(4095, { src := 7, flit := { typ := 1 } })] })).m.lnk 0 23 ≠ {} := by decide +kernel

/-- A flit of another plan, of a label that is not VALID, one to forward, and one for here. -/
theorem hyp_FlitsInSequenceAndRouted_route :
    (routeS 0x1F id none).m.announcedOk 0 23 = false ∧ (routeS 0x1F).m.announcedOk 0 23 = true ∧ (routeS 0x1F).m.getB 0 Reg.LNK_ROUTE_VALID 8 = false ∧
    (routeS 0x1F).m.getB 0 Reg.LNK_ROUTE_VALID 7 = true ∧ (routeS 3).m.getF 0 Reg.LNK_ROUTE_HOP 7 ≠ 0x1F ∧ (routeS 0x1F).m.getF 0 Reg.LNK_ROUTE_HOP 7 = 0x1F := by decide +kernel

theorem hyp_FlitsInSequenceAndRouted_write : let s := routeS 0x1F
    let a := devAddr 0 0 0x100
    let f := flit a [1, 2, 3, 4]
    s.m.announcedOk 0 23 = true ∧ (s.m.stk 0).link.poison.find? (fun p => p.label = 7) = none ∧ s.m.accessHeld false a (flitBytes f).length = false ∧
    s.m.writeDeny (.mover 63) (s.m.place 1 a) a = none ∧ daRegion a ≠ 4 ∧ s.m.mem.wf = true ∧ (∀ i, i < (flitBytes f).length → s.m.rowFailed (a + i) = false) := by decide +kernel

theorem hyp_FlitsInSequenceAndRouted_ack_and_answers :
    (let s := routeS 23 (fun k => { k with xfers := [⟨false, 7, 0x80, 0, 0, 0, false, .push⟩] })
     (s.m.stk 0).link.xfers = [⟨false, 7, 0x80, 0, 0, 0, false, .push⟩] ∧ (flit 0x80 []).addr.toNat % 2 ^ 16 = 0x80 ∧ s.m.routeLink 0 7 = 23) ∧
    (let s := routeS 0x1F
     let src := devAddr 0 0 0
     let f := flit 0 ((leBytes 8 src ++ leBytes 4 256 ++ leBytes 4 9).map (·.toNat))
     fieldAt f.payload 0 8 = src ∧ fieldAt f.payload 8 4 = 256 ∧ s.m.accessHeld false src 256 = false ∧ readDeny (.mover 63) (s.m.place 1 src) = none ∧
     ∀ i, i < 256 → s.m.mem.kindAt (src + i) = 0) ∧
    (let x : Xfer := { read := true, route := 7, tag := 9, dst := devAddr 0 0 0x100, len := 4, left := 4, owner := .mover 3 }
     let s := routeS 0x1F (fun k => { k with xfers := [x] })
     let f := flit (9 * 2 ^ 16) [1, 2, 3, 4]
     let ad := x.dst + f.addr.toNat % 2 ^ 16
     (s.m.stk 0).link.xfers = [x] ∧ x.tag = f.addr.toNat / 2 ^ 16 ∧ s.m.accessHeld false ad 4 = false ∧ s.m.writeDeny (.mover 63) (s.m.place 1 ad) ad = none ∧
     daRegion ad ≠ 4 ∧ x.left ≤ (flitBytes f).length) := by decide +kernel

/-- A signal of 1 to object 64. -/
theorem hyp_FlitsInSequenceAndRouted_message : let s := routeS 0x1F
    let f := flit 0 ((leBytes 8 (0xFFFF_0040 + 2 ^ 32) ++ leBytes 8 2).map (·.toNat))
    let e := f.payload.take f.len
    let w := fieldAt e 0 8
    s.m.announcedOk 0 23 = true ∧ e.length = 16 ∧ fieldAt e 8 1 = 2 ∧ handleBad (bits w 0 32) = false ∧ s.m.stackOf (handleSdid (bits w 0 32)) = some 0 ∧
    64 ≤ handleObj (bits w 0 32) ∧ bits w 32 16 ≠ 0 := by decide +kernel

/-- A LINK_TEST, and a LINK_MARGIN, of link 23 of stack 0 under way. -/
def deferred (s : State) (op : Nat) (p : List Nat) (st : Nat := 0) : State :=
  { s with m := { s.m with host := { s.m.host with deferred := [{ mbox := 3, seq := 1, opcode := op, stack := st, cookie := 0, payload := p.map (BitVec.ofNat 8) }] } } }

theorem hyp_PatternTestsAndMarginScansEnd : let s := flds State.reset [(0, Reg.LNK_PAT_CFG_CHECK, 23, 1), (0, Reg.LNK_PAT_CFG_LANES, 23, 0x1FF)]
    s.m.getB 0 Reg.LNK_PAT_CFG_CHECK 23 = true ∧ s.m.host.deferred.find? (fun r => r.opcode = 0x0901 && onLink 0 23 r) = none ∧
    ((deferred s 0x0901 [23, 0, 0xFF, 1, 1, 0, 0, 0]).m.host.deferred.find? (fun r => r.opcode = 0x0901 && onLink 0 23 r)).isSome = true ∧
    (∀ lane ∈ [0, 8], ((lnkS 6 23 (fun l => { l with scan := some lane })).m.lnk 0 23).scan = some lane) := by decide +kernel

/-- Stack 0 paired over links 22 and 23 in the twin state st, the twin's SDID 7. -/
def twinS (st : Nat) (f : TwinSt → TwinSt := id) : State :=
  let s := flds (lnkS 2) [(0, Reg.LNK_TWIN_STATUS_STATE, 0, st), (0, Reg.LNK_TWIN_CFG_TWIN_SDID, 0, 7), (0, Reg.LNK_TWIN_CFG_LINK_A, 0, 22), (0, Reg.LNK_TWIN_CFG_LINK_B, 0, 23),
    (0, Reg.LNK_PEER_SDID, 23, 7), (0, Reg.LNK_SDID_SDID, 0, 9)]
  { s with m := s.m.updTwin 0 f }

theorem hyp_TwinTrafficAndTakeover_flit : ∀ st ∈ [0, 1, 2, 3, 4, 5, 6], let s := twinS st
    s.m.twinState 0 = st ∧ s.m.linkUp 0 fh.link = true ∧ fh.crcOk = true ∧ (s.m.lnk 0 fh.link).unacked = [] ∧ fh.seq.val = (s.m.lnk 0 fh.link).recvSeq ∧
    (s.m.helloMatches 0 (9 * 2 ^ 16 + 7) = true) ∧ bit (9 * 2 ^ 16 + 7) 32 = false ∧ (s.m.twin 0).serving = false ∧ (s.m.stk 0).seqs = [] ∧ (2 ≤ st → fh.link.val ∈ s.m.twinLinks 0) ∧
    s.m.getF 0 Reg.LNK_PEER_SDID fh.link = s.m.getF 0 Reg.LNK_TWIN_CFG_TWIN_SDID ∧ s.m.host.deferred = [] := by decide +kernel

/-- Bytes of the open epoch at the end of the journal area, the open epoch being number 7; a heartbeat that closes it. -/
theorem hyp_TwinTrafficAndTakeover_journal : ∀ st ∈ [2, 6], let s := flds (twinS st) [(0, Reg.LNK_TWIN_STATUS_EPOCH, 0, 6)]
    let f := flit (jSize - 4) [1, 2, 3, 4]
    let w := s.m.twin 0
    let a := devAddr 0 4 (w.base + f.addr.toNat)
    jLog ≤ f.addr.toNat ∧ f.addr.toNat + (f.payload.take f.len).length ≤ jSize ∧ w.base + jSize ≤ 2 ^ 40 ∧ w.close = none ∧ s.m.tier.wf = true ∧
    f.route.val = (s.m.getF 0 Reg.LNK_TWIN_STATUS_EPOCH + 1) % 2 ^ 14 ∧ w.logGot = [] ∧
    s.m.accessHeld false a 4 = false ∧ (∀ i, i < 4 → s.m.isDead 0 ((w.base + f.addr.toNat + i) / 128) = false ∧ s.m.cline 0 ((w.base + f.addr.toNat + i) / 128) = none) ∧
    (7 : Nat) = s.m.getF 0 Reg.LNK_TWIN_CFG_TWIN_SDID ∧ 7 = (s.m.getF 0 Reg.LNK_TWIN_STATUS_EPOCH + 1) % 2 ^ 32 ∧ w.logBytes < jLogSize := by decide +kernel

theorem hyp_TwinTrafficAndTakeover_end_of_pair : (∀ st ∈ [2, 3, 6], (twinS st).m.twinState 0 = st) ∧ bit 1 0 = true ∧ ((twinS 6).m.twin 0).serving = false ∧ (twinS 6).m.planOn 0 = false ∧ (planState (twinS 6) 2).m.planOn 0 = true ∧
    (twinS 4 (fun w => { w with serving := true })).m.twinState 0 = 4 ∧ (twinS 4).m.servesAny 0 = false ∧ bit ((twinS 3).m.features 0) 0 = false ∧
    (∀ k, k < 4 → ((twinS 6).m.stk k).cache.dead = []) ∧
    (∀ n ∈ [0, 1], (flds (twinS 2) [(0, Reg.LNK_TWIN_CFG_AUTO_TAKEOVER, 0, n)]).m.getB 0 Reg.LNK_TWIN_CFG_AUTO_TAKEOVER = decide (n = 1)) ∧
    23 ∈ (twinS 2).m.twinLinks 0 := by decide +kernel

theorem hyp_TwinTrafficAndTakeover_install :
    (∀ n ∈ [0, 2], let s := planState (twinS 4 (fun t => { t with held := [65535], installing := true })) n
      (s.m.twin 0).held = [65535] ∧ s.m.planOn 0 = decide (n = 2)) ∧
    (let s := twinS 4 (fun t => { t with installing := true, fresh := 1 }); (s.m.twin 0).held = [] ∧ (s.m.twin 0).installing = true) := by decide +kernel

/-- The worked example after Table LK-5: the header of the first flit of a transfer, with SEQ 0x123 and ACK 0x0FE. -/
theorem test_flit_header : leBytes 14 (({ typ := 1, first := true, len := 256, route := 0x40, addr := 0x191_0000 } : Flit).header 0x123 0xFE false) =
    [0x31, 0x12, 0xFE, 0x00, 0x50, 0x00, 0x01, 0x00, 0x00, 0x91, 0x01, 0x00, 0x00, 0x00].map (BitVec.ofNat 8) := by decide +kernel

/-- IEEE 802.3's CRC-32 of the digits 1 to 9, a value published with the standard's parameters. -/
theorem test_crc32 : crc32 ((List.range 9).map (fun i => BitVec.ofNat 8 (0x31 + i))) = 0xCBF43926 := by decide +kernel

/-! ## Host window, interrupts, movers and registers -/

/-- A part that has started: nothing under way, stage 7, SERVICE READY. -/
def readyOf (s : State) : State :=
  let t := flds s ((List.range 4).flatMap (fun v => [(v, Reg.BUR_BOOT_STATUS_STAGE, 0, 7), (v, Reg.BUR_STATUS_SERVICE, 0, 1)]))
  { t with m := { t.m with boot := { t.m.boot with start := none } } }

/-- A started S part whose index 0 is at position 0. -/
def up0 : State := readyOf (mk [] {})

theorem hyp_HostWindowAndVectors : State.reset.m.bar4Serves = false ∧ up0.m.bar4Serves = true ∧
    (let s := flds up0 [(0, Reg.HOST_BAR4_BASE_BASE, 0, 0)]
     let o := localAddr 0 0 0
     let a := s.m.bar4Addr o
     a = o ∧ o < 2 ^ 52 ∧ a % 0x1_0000 + 8 ≤ 0x1_0000 ∧ readDeny .host (s.m.place 1 a) = none ∧ s.m.accessHeld true a 8 = false ∧ s.m.mem.wf = true ∧
     (∀ i, i < 8 → s.m.mem.kindAt (a + i) = 0) ∧ s.m.writeDeny .host (s.m.place 1 a) a = none ∧ daRegion a = 1 ∧ s.m.host.bar4 = [] ∧ s.m.cut 1 0 (daStack a) = false) := by decide +kernel

/-- An access that its home holds: the slot's index moves to a chrysalis core. And a stack that no port reaches: every bridge link of a D part FAILED. -/
theorem hyp_HostWindowAndVectors_held : (let s := onStk up0 0 (fun k => { k with map := { k.map with relocating := [(0, 40)] } })
      let a := localAddr 0 0 0
      s.m.accessHeld true a 8 = true ∧ readDeny .host (s.m.place 1 a) = none ∧ s.m.cut 1 0 0 = false) ∧
    (let s := flds dPart ((List.range 2).flatMap (fun v => (List.range 8).map (fun b => (v, Reg.LNK_BRIDGE_STATUS_STATE, b, 5))))
     s.m.cut s.fuse.part.stackCount 0 1 = true) := by decide +kernel

/-- BAR4 at local memory through HOST_BAR4_BASE: offset 0 of the last GiB of region 1; and an address that nothing holds. -/
theorem hyp_HostWindowAndVectors_window :
    (let s := flds up0 [(0, Reg.HOST_BAR4_BASE_BASE, 0, localAddr 0 0 0 / 2 ^ 30)]
     let a := s.m.bar4Addr (localAddr 0 0 0 % 2 ^ 30)
     a = localAddr 0 0 0 ∧ readDeny .host (s.m.place 1 a) = none) ∧
    (let s := flds up0 [(0, Reg.HOST_BAR4_BASE_BASE, 0, 2 ^ 22 - 1)]
     let a := s.m.bar4Addr (2 ^ 30 - 8)
     (readDeny .host (s.m.place 1 a)).isSome = true ∧ (s.m.writeDeny .host (s.m.place 1 a) a).isSome = true ∧ a % 0x1_0000 + 8 ≤ 0x1_0000) := by decide +kernel

theorem hyp_HostWindowAndVectors_vectors : ({ State.reset.m.host with msixPend := [2047] }).msixPend.contains 2047 = true ∧
    State.reset.m.host.msixPend.contains 2047 = false := by decide +kernel

/-- Source 1022 pending, enabled and aimed at target 3, alone; and no source claimable. -/
theorem hyp_SourcesClaimsAndCompletions :
    let s := flds State.reset [(0, Reg.INTC_SRC_CFG_PENDING, 2, 1), (0, Reg.INTC_SRC_CFG_ENABLE, 2, 1), (0, Reg.INTC_SRC_CFG_TARGETS, 2, 8)]
    let can (s : State) (i : Nat) : Bool := decide (s.m.getF 0 Reg.INTC_SRC_CFG_PENDING i ≠ 0) && decide (s.m.getF 0 Reg.INTC_SRC_CFG_ENABLE i ≠ 0) &&
      decide (s.m.getF 0 Reg.INTC_SRC_CFG_ACTIVE i = 0) && bit (s.m.getF 0 Reg.INTC_SRC_CFG_TARGETS i) 3
    can s 2 = true ∧ (∀ j, j < 2 → can s j = false) ∧ (∀ i, i < 1023 → can State.reset i = false) ∧ sourceListed 2 = true ∧ s.m.bureauClockStopped 0 = false := by
  decide +kernel

theorem hyp_CompletionOfASource : ∀ x ∈ [0, 1023], (flds State.reset [(0, Reg.INTC_SRC_CFG_ACTIVE, x, 1)]).m.getF 0 Reg.INTC_SRC_CFG_ACTIVE x ≠ 0 ∧
    State.reset.m.getF 0 Reg.INTC_SRC_CFG_ACTIVE x = 0 ∧ State.reset.m.getF 0 Reg.INTC_STATUS_INVALID_COMPLETIONS ≤ 0xFFFF := by decide +kernel

theorem hyp_LatchesCrossingsClassesAndTimers :
    (let s := flds State.reset [(0, Reg.AON_WAKE_STATUS_STATE, 0, 2)]; s.m.bureauClockStopped 0 = true ∧ (s.m.stk 0).bureau.latches.contains 2 = false) ∧
    max 10 (State.reset.m.getF 0 Reg.REG_CLASS_CFG_TARGET 3) ≤ 0xFFFF ∧ (flds State.reset [(0, Reg.REG_OWNER_OWNER, 71, 1)]).m.getF 0 Reg.REG_OWNER_OWNER 71 ≠ 0 ∧
    State.reset.m.getF 0 Reg.REG_OWNER_OWNER 71 = 0 ∧ (1 : StackNo) ≠ 0 ∧ (1 : StackNo).val < dPart.fuse.part.stackCount := by decide +kernel

/-- Channel 63 of stack 0, bound to a plan, with its descriptor, the fields fs, at offset 0 of the stack memory; ch is where the channel stands. -/
def movS (ph : MovPhase) (fs : List (Nat × Nat × Nat)) (held : Bool := false) : State :=
  let s := flds up0 [(0, Reg.MOV_CH_CTRL_BUSY, 63, 1), (0, Reg.MOV_CH_CTRL_BOUND, 63, 1)]
  let t := { s with m := { s.m with mem := { s.m.mem with data := ((desc fs).zipIdx.map (fun e => (devAddr 0 0 0 + e.2, BitVec.ofNat 8 e.1))).filter (fun c => c.2 ≠ 0) } } }
  onStk t 0 (fun k => { k with
    movers := [(63, { phase := ph, cur := devAddr 0 0 0, desc := if held then MDesc.of ((desc fs).map (BitVec.ofNat 8)) else {} })]
    plan := { k.plan with plan := { k.plan.plan with routes := [⟨0, 0, 0, 2, 0xFFFF, 0, 0x3FF, 0, 0, 5, 0x3FFF, 0xFFFF⟩], bufs := [⟨5, 0, 2, 64, localAddr 0 0 0x100, 0, 0, 0⟩] } } })

/-- The descriptor at the channel's address, what it asks for and whether it is read, fits, may go on and has a credit. -/
def movReads (s : State) : Bool :=
  let k := s.m.mov 0 63
  let r := s.m.performRead true k.cur 64
  decide (k.phase = .fetch) && s.m.getB 0 Reg.MOV_CH_CTRL_BUSY 63 && decide (k.cur % 64 = 0) && decide (daRegion k.cur = 0) && decide (k.cur < 2 ^ 52) &&
    decide (readDeny (.mover 63) (s.m.place 1 k.cur) = none) && !s.m.accessHeld true k.cur 64 && decide (r.1.mem = s.m.mem) && r.2.all (fun e => decide (e.poison = 0)) &&
    (MDesc.of (PByte.vals r.2)).formOk (PByte.vals r.2) && s.m.descFits 0 63 (MDesc.of (PByte.vals r.2))

/-- Source rows in the stack memory, destination rows in local memory: 2 rows of 8 bytes. -/
def mv (kind flags : Nat) (rest : List (Nat × Nat × Nat) := []) : List (Nat × Nat × Nat) :=
  [(0, 1, kind), (1, 1, flags), (4, 2, 0xFFFF), (6, 2, 2), (8, 8, if kind = 3 then 0 else devAddr 0 0 0x1000), (0x10, 8, localAddr 0 0 0x100), (0x18, 4, 8), (0x1C, 4, 8), (0x20, 4, 8)] ++ rest

theorem hyp_MoverChainsStartRunAndStop_form :
    (∀ k ∈ [1, 2, 3], movReads (movS .fetch (mv k 1)) = true) ∧ movReads (movS .fetch (mv 1 0)) = true ∧ movReads (movS .fetch (mv 1 1 [(7, 1, 0), (0x18, 4, 4)])) = false ∧
    (let s := movS .fetch (mv 1 17 [(0x28, 4, 0xFFFF_0040), (0x30, 8, 1)])
     movReads s = true ∧ s.m.movWaitMet 0 (MDesc.of ((desc (mv 1 17 [(0x28, 4, 0xFFFF_0040), (0x30, 8, 1)])).map (BitVec.ofNat 8))) = false) := by decide +kernel

theorem hyp_MoverChainsStartRunAndStop_credit :
    (let fs := mv 1 3 [(0x10, 8, 0)]
     let s := movS .fetch fs
     let d := MDesc.of ((desc fs).map (BitVec.ofNat 8))
     movReads s = true ∧ d.token = true ∧ s.m.movWaitMet 0 d = true ∧ s.m.movCredit 0 63 d = true ∧ (s.m.movRoute 0 63 d).isSome = true ∧
     ((s.m.plan 0).buf 0 5).isSome = true ∧
     (let t := onStk s 0 (fun k => { k with movers := [(63, { (s.m.mov 0 63) with outs := [(0, { sent := 2 })] })] }); t.m.movCredit 0 63 d = false ∧ movReads t = true)) ∧
    (∀ ph ∈ [MovPhase.waitObj, .waitCredit], (movS ph (mv 1 1) true).m.mov 0 63 = { phase := ph, cur := devAddr 0 0 0, desc := MDesc.of ((desc (mv 1 1)).map (BitVec.ofNat 8)) }) := by
  decide +kernel

/-- The sources and destinations of each kind of descriptor, legal, clean and not held. -/
theorem hyp_MoverChainsStartRunAndStop_data : ∀ kind ∈ [1, 2, 3],
    let fs := mv kind 1 [(2, 1, if kind = 2 then 2 else 0)]
    let s := movS .fetch fs
    let d := MDesc.of ((desc fs).map (BitVec.ofNat 8))
    let rows := if kind = 2 then d.rowBytes / d.esize else d.rows
    let len := if kind = 2 then d.rows * d.esize else d.rowBytes
    s.m.movCut 1 0 d d.dst false = false ∧ s.m.movHeld d d.dst false = false ∧ daRegion d.src ≠ 4 ∧ s.m.mem.wf = true ∧ rows = 2 ∧ len ≤ d.dstStride ∧
    (∀ r, r < d.rows → kind = 3 ∨ s.m.movReadDeny 1 63 (d.src + r * d.srcStride) d.rowBytes = none) ∧
    (∀ r, r < rows → s.m.movWriteDeny 1 63 (d.dst + r * d.dstStride) len = none ∧ daRegion (d.dst + r * d.dstStride) = 1) := by decide +kernel

theorem hyp_MoverChainsStartRunAndStop_ends :
    (∀ fl ∈ [0, 1, 9], let s := movS .writes (mv 1 fl) true
      (s.m.mov 0 63).phase = .writes ∧ (s.m.stk 0).link.xfers = [] ∧ (s.m.mov 0 63).desc.last = decide (fl ≠ 0) ∧ (s.m.stackOf (handleSdid 0xFFFF_0040)).isSome = true) ∧
    up0.m.getB 0 Reg.MOV_CH_CTRL_BUSY 63 = false ∧ up0.m.getF 0 Reg.REG_OWNER_OWNER (72 + 63) = 0 ∧ (movS .writes (mv 1 1) true).m.getB 0 Reg.MOV_CH_CTRL_BUSY 63 = true ∧
    (movS .writes (mv 1 1) true).m.getF 0 Reg.MOV_CH_CTRL_BUSY 63 = 1 := by decide +kernel

/-! ## Register writes -/

/-- BAR0 answers at each register of the statements, for stack 0. -/
theorem hyp_RegisterWrites_answers : ∀ o ∈ [Reg.MBX_DOORBELL.off 63, Reg.MBX_EVT_TAIL.base, Reg.SYNC_SIGNAL.off 8191, Reg.SYNC_STATUS.off 8191, Reg.HOST_STACK_SEL.base,
      Reg.CDIE_PART_CFG.off 1, Reg.CAB_POOL_CFG.off 1, Reg.CAB_POOL_BASE.off 1, Reg.CAB_LP_CFG.off 1, Reg.CAB_LP_BASE.off 1, Reg.CAB_CLASS_CFG.off 1,
      Reg.LNK_SDID.base, Reg.LNK_CTRL.off 23, Reg.LNK_PAT_CFG.off 23, Reg.LNK_MARGIN.off 23, Reg.CORE_POWER.off 863, Reg.THM_CH_CFG.off 63, Reg.THM_DIAG.base,
      Reg.REG_GPIO.base, Reg.AON_RTC_ALARM.base, Reg.HOST_BAR4_BASE.base, Reg.INTC_SRC_CFG.off 1023], Answers up0 o ∧ up0.m.getF 0 Reg.HOST_STACK_SEL_STACK = 0 := by decide +kernel

/-- A whole-register write of value v. -/
def wr (v : Nat) : RegW := ⟨.full, BitVec.ofNat 64 v⟩

theorem hyp_MailboxSyncAndPoolRegisterWrites : up0.m.bar2Open = true ∧ (wr 0).half ≠ .hi ∧ up0.m.stageOneOver = true ∧ up0.m.getB 0 Reg.MBX_STATUS_BUSY 63 = false ∧
    (flds up0 [(0, Reg.MBX_STATUS_BUSY, 63, 1)]).m.getB 0 Reg.MBX_STATUS_BUSY 63 = true ∧
    (let s := flds up0 [(0, Reg.MBX_EVT_HEAD_HEAD, 0, 5)]
     s.m.ringUsed = 5 ∧ (bits (regData (wr 5)) 0 32 + 2 ^ 32 - s.m.getF 0 Reg.MBX_EVT_TAIL_TAIL) % 2 ^ 32 = 5 ∧
     (bits (regData (wr 6)) 0 32 + 2 ^ 32 - s.m.getF 0 Reg.MBX_EVT_TAIL_TAIL) % 2 ^ 32 = 6) ∧
    bits (regData (wr 0x1_0000)) 16 16 ≠ 0 ∧ bits (regData (wr 1)) 0 16 ≠ 0 ∧ up0.m.partOk 0 2 3 = true ∧ up0.m.partOk 0 9 3 = false := by decide +kernel

/-- Writes that set and do not set STALLED; a pool that passes, one that does not. -/
theorem hyp_MailboxSyncAndPoolRegisterWrites_more : Reg.SYNC_STATUS_STALLED.hit (wr (2 ^ Reg.SYNC_STATUS_STALLED.lo)) = true ∧ Reg.SYNC_STATUS_STALLED.hit (wr 0) = false ∧
    (let p := { up0.m.poolSet 0 1 with spill := 3 }; up0.m.poolOk 0 1 p = true ∧ up0.m.chestOk 0 p = true) ∧
    up0.m.poolOk 0 1 { up0.m.poolSet 0 1 with frames := 40961 } = false ∧ up0.m.chestOk 0 { up0.m.poolSet 0 1 with slots := 1 } = false ∧ up0.m.host.mbxQueue.any (fun q => q.1 = 63) = false ∧ up0.m.host.bar2.wf = true ∧
    ({ up0.m.host with mbxQueue := [(63, 1)] }).mbxQueue.any (fun q => q.1 = 63) = true := by decide +kernel

theorem hyp_LinkPowerThermalAndPinRegisterWrites_links :
    (planState up0 2).m.planOn 0 = true ∧ up0.m.planOn 0 = false ∧ (∀ k, k < 24 → up0.m.getB 0 Reg.LNK_STATUS_SDID_CLASH k = false) ∧
    (∀ st ∈ [2, 5], let s := flds up0 [(0, Reg.LNK_STATUS_STATE, 7, st), (0, Reg.LNK_CTRL_ENABLE, 7, 1)]
      s.m.linkHeld 0 7 = false ∧ s.m.getB 0 Reg.LNK_CTRL_ENABLE 7 = true ∧ s.m.getB 0 Reg.LNK_CTRL_TEST 7 = false ∧ s.m.testBarred 0 7 = false) ∧
    (let s := flds up0 [(0, Reg.LNK_STATUS_STATE, 7, 2), (0, Reg.LNK_CTRL_ENABLE, 7, 1), (0, Reg.LNK_TWIN_STATUS_STATE, 0, 2), (0, Reg.LNK_TWIN_CFG_LINK_A, 0, 7)]
     s.m.testBarred 0 7 = true) ∧
    (let s := flds up0 [(0, Reg.LNK_STATUS_STATE, 7, 6)]
     s.m.lanesFree 0 7 0xFF = true ∧ s.m.getF 0 Reg.REG_OWNER_OWNER 7 = 0 ∧ s.m.lanesFree 0 7 (2 ^ 7) = true ∧ (s.m.lnk 0 7).scan = none ∧ up0.m.lanesFree 0 7 0xFF = false) ∧
    (bit (regData (wr (2 ^ 12 + 0xFF * 8))) 12 || bit (regData (wr (2 ^ 12 + 0xFF * 8))) 13) = true ∧ bits (regData (wr (2 ^ 12 + 0xFF * 8))) 3 9 = 0xFF := by decide +kernel

/-- A core in Run, one in Stop; limits, the diagnostic channel, pins. -/
theorem hyp_LinkPowerThermalAndPinRegisterWrites_power :
    (let s := flds up0 [(0, Reg.CORE_POWER_STATE, 863, 2), (0, Reg.CORE_POWER_LDO_NOW, 863, 60), (0, Reg.CORE_IDENT_LOGICAL, 863, 831)]
     s.m.serviceTesting 0 863 = false ∧ s.m.inRun 0 863 = true ∧ s.m.powerFree 0 863 = true ∧ s.m.getF 0 Reg.CORE_POWER_STOP_REQ 863 = 0 ∧
     min (min 40 60) (s.m.getF 0 Reg.THM_THROTTLE_LIMIT_CODE (region 863)) ≤ s.m.getF 0 Reg.CORE_POWER_LDO_NOW 863 ∧ (planState s 2).m.powerFree 0 863 = false) ∧
    (let s := flds up0 [(0, Reg.CORE_POWER_STOP_REQ, 863, 1), (0, Reg.CORE_IDENT_LOGICAL, 863, 831)]
     s.m.inRun 0 863 = false ∧ s.m.getF 0 Reg.CORE_POWER_STOP_REQ 863 = 1 ∧ s.m.powerFree 0 863 = true ∧ s.m.getB 0 Reg.THM_STATUS_STOP_HOLD = false ∧
     s.m.getF 0 Reg.CORE_POWER_STATE 863 = 0) ∧
    (onInteg up0 (fun g => { g with running := [⟨3, 863, 0⟩] })).m.serviceTesting 0 863 = true ∧
    limitsOk 55 0x0300 0x0340 = true ∧ limitsOk 55 0x0340 0x0300 = false ∧ bit (regData (wr 64)) 6 = true ∧ up0.m.getF 0 Reg.REG_OWNER_OWNER 136 = 0 ∧
    up0.m.getF 0 Reg.REG_OWNER_OWNER 63 = 0 ∧ bit (regData (wr 5)) 48 = false := by decide +kernel

theorem hyp_PlainRegistersReadsAndPins : up0.m.bar0Open Reg.HOST_BAR4_BASE.base = true ∧ Reg.find (0x100_0000 - 8) = none ∧ up0.m.bar0Open (0x100_0000 - 8) = true ∧
    (Reg.find (Reg.HOST_ERR_COUNT.off 0)).isSome = true ∧ 0x1_0000 ≤ Reg.HOST_ERR_COUNT.base ∧
    (let s := flds up0 [(0, Reg.AON_RTC_ALARM_ALARM, 0, 1), (0, Reg.AON_RTC_SECONDS, 0, 1)]
     s.m.boot.aon = true ∧ s.m.getF 0 Reg.AON_RTC_ALARM_ALARM ≠ 0 ∧ s.m.getF 0 Reg.AON_RTC_ALARM_ALARM ≤ s.m.getF 0 Reg.AON_RTC_SECONDS) ∧ up0.m.awake = true := by decide +kernel

/-! ## Power, temperature, resets and starts -/

/-- The power state of stack 0 changed. -/
def onPw (s : State) (f : PowerSt → PowerSt) : State := onStk s 0 (fun k => { k with power := f k.power })

theorem hyp_PowerEventsOfAStack_settling :
    (State.reset.m.pw 0).rising = [] ∧
    (let s := onPw (flds State.reset [(0, Reg.CORE_POWER_STATE, 863, 2)]) (fun k => { k with rising := [863] })
     (s.m.pw 0).rising = [863] ∧ s.m.inRun 0 863 = true ∧ s.m.ldoWanted 0 863 ≤ s.m.getF 0 Reg.PWR_AVS_TARGET + 50) ∧
    (let s := flds State.reset [(0, Reg.PWR_AVS_TARGET, 0, 20)]
     (s.m.pw 0).rising = [] ∧ s.m.getF 0 Reg.PWR_AVS_TARGET = 20) := by decide +kernel

/-- With every core in Stop the need is at most the lowest target, so that a higher target may fall. -/
theorem hyp_PowerEventsOfAStack_fall : (flds State.reset [(0, Reg.PWR_AVS_TARGET, 0, 20)]).m.avsNeed 0 < 20 := by decide +kernel

theorem hyp_PowerEventsOfAStack_wake :
    (let s := onPw State.reset (fun k => { k with toWake := [863] })
     (s.m.pw 0).toWake.contains 863 = true ∧ (s.m.pw 0).toWake.any (fun q => decide (region q = region 863) && decide (q < 863)) = false ∧
     s.m.getB 0 Reg.THM_STATUS_STOP_HOLD = false ∧ ((s.m.pw 0).waking.filter (fun x => decide (region x.core = region 863) && x.waiting)).length < 6) ∧
    (let s := onPw State.reset (fun k => { k with waking := [⟨863, true⟩] })
     (s.m.pw 0).waking.contains ⟨863, true⟩ = true ∧ s.m.hotNear 0 863 = false) ∧
    (let s := flds (onPw State.reset (fun k => { k with waking := [⟨863, true⟩] })) [(0, Reg.PWR_REGION_STATUS_HOT, region 863, 1)]
     s.m.hotNear 0 863 = true) ∧
    (let s := onPw (flds State.reset [(0, Reg.CORE_IDENT_LOGICAL, 863, 831)]) (fun k => { k with waking := [⟨863, false⟩] })
     (s.m.pw 0).waking.contains ⟨863, false⟩ = true ∧ s.m.getF 0 Reg.CORE_IDENT_LOGICAL 863 < 832 ∧ s.m.getB 0 Reg.CORE_POWER_STOP_REQ 863 = false) := by decide +kernel

theorem hyp_PowerEventsOfAStack_rails :
    up0.m.getB 0 Reg.BUR_STATUS_HALTED = false ∧ up0.m.getF 0 Reg.AON_WAKE_STATUS_STATE = 0 ∧ up0.m.starting 0 = false ∧ up0.m.getB 0 Reg.THM_STATUS_STOP_HOLD = false ∧
    (∀ l ∈ [[], [9]], let s := onPw (flds up0 [(0, Reg.PWR_RAIL_ENABLED, 9, 1)]) (fun k => { k with railOut := l })
      (s.m.getB 0 Reg.PWR_RAIL_ENABLED 9 && s.m.railOut 0 9 0) = true ∧ (s.m.pw 0).railOut.contains 9 = decide (l = [9])) ∧
    (let s := flds up0 [(0, Reg.PWR_STATUS_FAULT, 0, 1)]
     (s.m.getB 0 Reg.PWR_RAIL_ENABLED 9 && s.m.railOut 0 9 0) = false ∧ s.m.getB 0 Reg.PWR_STATUS_FAULT = true) := by decide +kernel

/-- Readings below and at 115 °C; a channel that governs its region; one served fast, one that is not. -/
theorem hyp_ThermalSamplesFaultsAndTrip : readingOk 55 0x0100 = true ∧ State.reset.m.getB 0 Reg.THM_CH_STATUS_FAULT 55 = false ∧
    degrees 0x0100 < 920 ∧ 920 ≤ degrees 0x0398 ∧ readingOk 3 0x0398 = true ∧
    (flds State.reset [(0, Reg.THM_CH_CFG_THROTTLE, 3, 0x0340)]).m.getF 0 Reg.THM_CH_CFG_THROTTLE 3 ≠ 0x7FFF ∧
    State.reset.m.fastServed 0 55 = false ∧ (flds State.reset [(0, Reg.THM_DIAG_EN, 0, 1), (0, Reg.THM_DIAG_CHANNEL, 0, 55)]).m.fastServed 0 55 = true ∧
    degrees (State.reset.m.getF 0 Reg.THM_CH_STATUS_TEMP 3) < 920 := by decide +kernel

/-- A machine with the start, pins and wake state given. -/
def bootS (f : BootSt → BootSt) (wake : Nat := 0) : State :=
  let s := flds State.reset [(0, Reg.AON_WAKE_STATUS_STATE, 0, wake)]
  { s with m := { s.m with boot := f s.m.boot } }

theorem hyp_ResetsPowerPinsAndColdStart :
    State.reset.m.boot.aon = true ∧ (bootS (fun b => { b with aon := false })).m.boot.aon = false ∧
    (let b := (bootS (fun b => { b with perst := true })).m.boot; b.perst = true ∧ b.pwrGood = true ∧ b.aon = true) ∧
    (let b := (bootS (fun b => { b with pwrGood := false })).m.boot; b.pwrGood = false ∧ b.perst = false ∧ b.aon = true) ∧
    (∀ en ∈ [0, 1], let s := flds (bootS id 2) [(0, Reg.AON_WAKE_CFG_PCIE_EN, 0, en)]
      s.m.boot.perst = false ∧ s.m.boot.pwrGood = true ∧ s.m.getF 0 Reg.AON_WAKE_STATUS_STATE = 2 ∧ s.m.getB 0 Reg.AON_WAKE_CFG_PCIE_EN = decide (en = 1)) ∧
    (∀ st ∈ [none, some .cold, some .warm, some .wake], let s := bootS (fun b => { b with start := st })
      s.m.getF 0 Reg.AON_WAKE_STATUS_STATE ≠ 2 ∧ s.m.boot.start = st ∧ s.m.boot.perst = false ∧ s.m.boot.pwrGood = true) := by decide +kernel

/-- A start that stands at stage k of stack 0. -/
def staged (st : StartForm) (k : Nat) (f : BootSt → BootSt := id) : State := flds (bootS (fun b => f { b with start := some st })) [(0, Reg.BUR_BOOT_STATUS_STAGE, 0, k)]

theorem hyp_StagesOfAStartAndAWake_stages :
    (∀ st ∈ [StartForm.cold, .warm], ∀ k ∈ [0, 1, 4], let s := staged st k
      s.m.boot.start = some st ∧ s.m.booting 1 = [0] ∧ s.m.boot.left = [] ∧ s.m.getF 0 Reg.BUR_BOOT_STATUS_STAGE = k ∧
      (∀ v ∈ s.m.booting 1, (s.m.stk v).therm.holds = [] ∧ (s.m.stk v).bureau.restarting = false) ∧ s.fuse.part = .S ∧
      s.m.starting 0 = true) ∧
    (let s := onStk (staged .cold 1) 0 (fun k => { k with therm := { k.therm with holds := [.hot] } }); ∃ v ∈ s.m.booting 1, (s.m.stk v).therm.holds ≠ []) ∧
    Mach.bootSlot State.reset.fuse State.reset.m = none := by decide +kernel

/-- A firmware image of 8 bytes in slot A: its header's magic, format and IMAGE_SIZE. -/
def fwFlash : List Host.Cell := (((desc [(0, 4, 0x4957464B), (4, 2, 1), (0x0C, 4, 8)]).zipIdx).map (fun e => (e.2, BitVec.ofNat 8 e.1))).filter (fun c => c.2 ≠ 0)

/-- It is accepted where its signature verifies, which is free (no key of the part is known): so its hypotheses can be met under that reading. -/
theorem hyp_StagesOfAStartAndAWake_slot (h : ∀ c k m s p, Config.signatureVerifies c k m s p = true) :
    Mach.bootSlot {} { State.reset.m with host := { State.reset.m.host with flash := { data := fwFlash } } } = some 0 := by
  have e : Mach.slotStatus {} { State.reset.m with host := { State.reset.m.host with flash := { data := fwFlash } } } 0 0 = 0 := by
    unfold Mach.slotStatus fwStatus
    simp only [h, Bool.not_true, Bool.false_eq_true, or_false]
    decide +kernel
  exact if_pos e

/-- The block that stack 1 of a D part asks for next; a report of stack 1; the steps of a wake. -/
theorem hyp_StagesOfAStartAndAWake_more :
    (let s := flds { dPart with m := { dPart.m with boot := { dPart.m.boot with start := some .cold } } } [(1, Reg.BUR_BOOT_STATUS_STAGE, 0, 1)]
     s.m.starting 1 = true ∧ s.m.getF 1 Reg.BUR_BOOT_STATUS_STAGE = 1 ∧ SMap.getD s.m.boot.blocks 1 0 = 0 ∧ s.m.boot.reports.contains 1 = false) ∧
    ({ State.reset.m with host := { State.reset.m.host with flash := { data := fwFlash } } }).imageBlocks 0 = 1 ∧
    (let s := onStk (flds (bootS id 2) [(0, Reg.AON_WAKE_CFG_RTC_EN, 0, 1)]) 0 (fun k => { k with bureau := { k.bureau with latches := [2] } })
     (s.m.getB 0 Reg.AON_WAKE_CFG_RTC_EN && (s.m.stk 0).bureau.latches.contains 2) = true ∧ s.m.getF 0 Reg.AON_WAKE_STATUS_STATE = 2) ∧
    (bootS id 3).m.getF 0 Reg.AON_WAKE_STATUS_STATE = 3 ∧
    (∀ k ∈ [0, 1, 2, 3, 4], let s := staged .wake 1 (fun b => { b with wakeStep := k }); s.m.boot.start = some .wake ∧ s.m.boot.wakeStep = k ∧ 0 ∈ s.m.booting 1) := by
  decide +kernel

theorem hyp_IdleStepTicksTheClocks : State.reset.pending = [] ∧ State.reset.m.boot.aon = true ∧ (bootS (fun b => { b with aon := false })).m.boot.aon = false := by
  decide +kernel

/-- A memory in canonical form from which a step answers a next state. -/
theorem hyp_MemoriesStayCanonical : State.reset.m.canonical = true ∧ ∃ t, step { State.reset with m := { State.reset.m with boot := { State.reset.m.boot with aon := false } } } = .next t := by
  refine ⟨by decide +kernel, _, rfl⟩

theorem hyp_StepRunsTheFrontCommand : { State.reset with pending := [Instr.flr, .identify] }.pending = .flr :: [.identify] := by decide +kernel

/-! ## Shoser commands -/

/-- A request in mailbox 3, at the front of the doorbell order: header and payload of Table BU-3. -/
def mbx (s : State) (op stack : Nat) (p : List Nat) (h : List (Nat × Nat × Nat) := []) : State :=
  let hd := (desc ([(0, 1, 2), (1, 1, 1), (2, 2, op), (4, 2, 1), (8, 4, p.length), (0x0C, 1, stack)] ++ h)).take 32
  { s with m := { s.m with host := { s.m.host with
    mbxQueue := [(3, 1)]
    bar2 := { data := (((hd ++ p).zipIdx).map (fun e => (requestBuf 3 + e.2, BitVec.ofNat 8 e.1))).filter (fun c => c.2 ≠ 0) } } } }

/-- Payload bytes with the fields listed. -/
def pay (n : Nat) (fs : List (Nat × Nat × Nat)) : List Nat := (List.range n).map (fun i => fs.foldl (fun x f => if f.1 ≤ i ∧ i < f.1 + f.2.1 then f.2.2 / 2 ^ (8 * (i - f.1)) % 256 else x) 0)

/-- The request of mailbox 3 as it is copied. -/
def req (s : State) : MbxReq := s.m.request s.fuse.part.stackCount 3 1

/-- It is served, and its payload has the length n. -/
def served (s : State) (op n : Nat) : Bool := decide (Served s op (req s)) && decide ((req s).payload.length = n)

/-- Each command with a payload of its length on a stack that is ready; a header of another version; a payload too short; ROM recovery mode; a stack that
boots, and one whose Bureau restarts. -/
theorem hyp_ShoserReadsAndChecks_checks :
    served (mbx up0 0x0003 0 []) 0x0003 0 = true ∧ (req (mbx up0 0x0003 0 [] [(1, 1, 2)])).status = 1 ∧ served (mbx up0 0x0004 0 [0]) 0x0004 1 = true ∧
    (let s := mbx (flds up0 [(0, Reg.BUR_STATUS_SERVICE, 0, 6)]) 0x0003 0 []
     s.m.serves = true ∧ (s.m.frontReq 1 0x0003).isSome = true ∧ s.m.romMode 0 = true) ∧
    (let s := mbx (flds up0 [(0, Reg.BUR_STATUS_SERVICE, 0, 3)]) 0x0003 0 []
     decide (AtFront s 0x0003 (req s)) = true ∧ s.m.notReady 0 = true) ∧
    (let t := flds { dPart with m := { dPart.m with boot := { dPart.m.boot with start := none } } } ((List.range 2).map (fun v => (v, Reg.BUR_STATUS_SERVICE, 0, 1)))
     let s := mbx (onStk t 1 (fun k => { k with bureau := { k.bureau with restarting := true } })) 0x0003 1 []
     decide (AtFront s 0x0003 (req s)) = true ∧ s.m.notReady 1 = false ∧ s.m.bureauClockStopped 1 = true) := by decide +kernel

theorem hyp_ShoserReadsAndChecks_reads :
    (∀ op ∈ [0x0001, 0x0002, 0x0003, 0x0005, 0x0204, 0x0102, 0x0802], served (mbx up0 op 0 []) op 0 = true) ∧
    (let s := mbx up0 0x0306 0 [0, 0]; served s 0x0306 2 = true ∧ s.m.detachedId 0 0 = false ∧ s.m.seq 0 0 = none) ∧
    (let s := mbx (readyOf (twinS 5 (fun w => { w with detached := true }))) 0x0306 0 [0, 0x40]; served s 0x0306 2 = true ∧ s.m.detachedId 0 0x4000 = true) ∧
    (let s := mbx (onStk up0 0 (fun k => { k with seqs := [(0, {})] })) 0x0306 0 [0, 0]; served s 0x0306 2 = true ∧ (s.m.seq 0 0).isSome = true) ∧
    (let s := mbx up0 0x0B01 0 (pay 4 [(0, 2, 1), (2, 2, 23)]); served s 0x0B01 4 = true) ∧
    (let s := mbx up0 0x0A01 0 (pay 16 [(4, 4, 63)])
     served s 0x0A01 16 = true ∧ (req s).arg 0 1 ≤ 1 ∧ (req s).arg 1 3 = 0 ∧ 1 ≤ (req s).arg 4 4 ∧ (req s).arg 4 4 ≤ 63) := by decide +kernel

/-- A licence of 144 bytes for feature 2 of the part, and one whose magic is wrong. -/
def lic (magic : Nat) : List Nat := pay 144 [(0, 4, magic), (4, 2, 1), (6, 2, 2)]

theorem hyp_ShoserSettingsStoresAndPower_settings :
    served (mbx up0 0x0004 0 (pay 2 [(0, 2, 5)])) 0x0004 2 = true ∧ served (mbx (planState up0 2) 0x0004 0 (pay 2 [])) 0x0004 2 = true ∧
    (planState up0 2).m.planOn 0 = true ∧ up0.m.planOn 0 = false ∧ (∀ k, k < 24 → up0.m.getB 0 Reg.LNK_STATUS_SDID_CLASH k = false) ∧
    (let s := mbx up0 0x0702 0xFF (pay 8 [(0, 8, 2 ^ 48 - 1)]); served s 0x0702 8 = true ∧ (req s).arg 0 8 < 2 ^ 48) ∧
    (let s := mbx up0 0x0801 0 (pay 6 [(0, 1, 55), (2, 2, 0x0300), (4, 2, 0x0340)])
     served s 0x0801 6 = true ∧ (req s).arg 1 1 = 0 ∧ limitsOk ((req s).arg 0 1) ((req s).arg 2 2) ((req s).arg 4 2) = true) ∧
    (let s := mbx up0 0x0801 0 (pay 6 [(0, 1, 63)]); served s 0x0801 6 = true ∧ limitsOk ((req s).arg 0 1) ((req s).arg 2 2) ((req s).arg 4 2) = false) ∧
    (let s := mbx up0 0x0A02 0 (pay 4 [(0, 2, 0x13), (2, 2, 2047)])
     served s 0x0A02 4 = true ∧ 1 ≤ (req s).arg 0 2 ∧ (req s).arg 0 2 ≤ 0x13 ∧ 64 ≤ (req s).arg 2 2 ∧ (req s).arg 2 2 ≤ 2047) := by decide +kernel

theorem hyp_ShoserSettingsStoresAndPower_binding : ∀ th ∈ [0, 1], let s := mbx up0 0x0A03 0 (pay 16 [(0, 4, 0xFFFF_0040), (4, 2, 2047), (8, 8, th)])
    let r := req s
    served s 0x0A03 16 = true ∧ r.arg 6 2 = 0 ∧ handleBad (r.arg 0 4) = false ∧ handleSdid (r.arg 0 4) = s.m.sdid 0 ∧ r.arg 4 2 ≤ 2047 ∧ r.arg 8 8 < 2 ^ 48 ∧
    (s.m.stk 0).bureau.binds = [] ∧ satisfies (s.m.count 0 (handleObj (r.arg 0 4))) (r.arg 8 8) = decide (th = 0) := by decide +kernel

/-- 4,096 bindings are held. -/
theorem hyp_ShoserSettingsStoresAndPower_full : 4096 ≤ (List.replicate 4096 (⟨0, 0, 0⟩ : SyncBind)).length := Nat.le_of_eq List.length_replicate.symm

theorem hyp_ShoserSettingsStoresAndPower_flash :
    (∀ op ∈ [0x0101, 0x0103, 0x0C01], (deferred up0 op []).m.flashUser.isSome = true) ∧ up0.m.flashUser = none ∧ up0.m.serves = true ∧
    (let s := mbx (deferred up0 0x0C01 []) 0x0101 0xFF (lic 0); s.m.flashUser.isSome = true ∧ served s 0x0101 144 = true) ∧
    (let s := mbx (deferred up0 0x0C01 []) 0x0103 0xFF (pay 2 [(0, 2, 5)]); served s 0x0103 2 = true ∧ (req s).arg 0 2 = 5) ∧
    (let s := mbx up0 0x0101 0xFF (lic 0); served s 0x0101 144 = true ∧ Mach.installStatus s.fuse s.m (req s).payload = 0x0070) ∧
    (let s := mbx up0 0x0103 0xFF (pay 2 [(0, 2, 5)]); served s 0x0103 2 = true ∧ s.m.host.licences = []) ∧
    (let s := mbx up0 0x0103 0xFF (pay 2 [(0, 2, 2)])
     let t := { s with m := { s.m with host := { s.m.host with licences := [(lic 0).map (BitVec.ofNat 8)] } } }
     served t 0x0103 2 = true ∧ ∃ b ∈ t.m.host.licences, licFeature b = (req t).arg 0 2) ∧
    (let s := mbx up0 0x0C01 0xFF (pay 9 [(0, 1, 1), (4, 4, 0xF_F000)])
     served s 0x0C01 9 = true ∧ (req s).arg 0 1 ≤ 1 ∧ (req s).arg 1 3 = 0 ∧ (req s).arg 4 4 % 4096 = 0 ∧ (req s).arg 4 4 + 1 ≤ 0x10_0000) := by decide +kernel

/-- A licence removed while no plan is on: links 8 to 23 lie still and no Chest is on, so nothing else changes; and with one on, features 0 and 2 end. -/
theorem hyp_ShoserSettingsStoresAndPower_removed : let r : MbxReq := { mbox := 3, seq := 1, opcode := 0x0103, stack := 0xFF, cookie := 0, payload := [2, 0] }
    let s := { up0 with m := { up0.m with host := { up0.m.host with deferred := [r] } } }
    s.m.serves = true ∧ s.m.flashUser = some r ∧ licMask s.fuse [] = 0 ∧ (∀ k, k < 1 → s.m.planOn k = false) ∧
    (∀ i, i < 24 → s.m.getF 0 Reg.LNK_STATUS_STATE i = 0) ∧ (∀ c, c < 2 → s.m.getF 0 Reg.CAB_LP_CFG_CHEST_SLOTS c = 0 ∧ s.m.getF 0 Reg.CAB_LP_CFG_CHEST_EN c = 0) ∧
    (∀ c, c < 2 → ((s.m.stk 0).cabs.get {} c).pages = [] ∧ ((s.m.stk 0).cabs.get {} c).blocks = []) ∧ s.m.getF 0 Reg.LNK_TWIN_STATUS_STATE = 0 := by decide +kernel

/-- A licence of the right form is accepted where its signature verifies, which is free. -/
theorem hyp_ShoserSettingsStoresAndPower_install (h : ∀ c k m s p, Config.signatureVerifies c k m s p = true) :
    Mach.installStatus {} up0.m ((lic 0x4E43494C).map (BitVec.ofNat 8)) = 0 := by
  unfold Mach.installStatus licStatus
  simp only [h, Bool.not_true, Bool.false_eq_true, or_false]
  decide +kernel

/-- A slot without an image is refused with its status; one with an image is accepted where its signature verifies. -/
theorem hyp_ShoserSettingsStoresAndPower_activate : let s := mbx up0 0x0C02 0xFF [1]
    served s 0x0C02 1 = true ∧ (req s).arg 0 1 = 1 ∧ ([0].map (fun k => Mach.slotStatus s.fuse s.m k 1)).find? (· ≠ 0) = some 0x0080 := by decide +kernel

theorem hyp_ShoserSettingsStoresAndPower_power :
    (∀ st ∈ [0, 1], let s := mbx up0 0x0701 0xFF (pay 8 [(1, 1, st)])
      served s 0x0701 8 = true ∧ (req s).arg 0 1 = 0 ∧ (req s).arg 2 6 = 0 ∧ (req s).arg 1 1 = st ∧ (req s).stack = 0xFF ∧ s.m.mayStop 1 = true) ∧
    (up0.m.stopFlush 1).stopWaits 1 = false ∧
    (planState up0 2).m.mayStop 1 = false ∧
    (∀ st ∈ [0, 1], let s := mbx (flds up0 [(0, Reg.BUR_CORE_SUMMARY_LOGICAL_COUNT, 0, 832)]) 0x0701 0xFF (pay 112 [(0, 1, 1), (1, 1, st), (8 + 103, 1, 0x80)])
      served s 0x0701 112 = true ∧ (req s).arg 0 1 = 1 ∧ (req s).arg 1 1 = st ∧ (req s).arg 2 6 = 0 ∧ coreMask (req s) = [831] ∧
      831 < s.m.getF 0 Reg.BUR_CORE_SUMMARY_LOGICAL_COUNT ∧ s.m.planOn 0 = false ∧ s.m.getB 0 Reg.THM_STATUS_STOP_HOLD = false) := by decide +kernel

/-- SEQ_CREATE with its first id, its last, and one of the twin's. -/
theorem hyp_ShoserSequencesPoolsShelvesAndPartitions_create : ∀ q ∈ [0, 65535], let s := mbx up0 0x0301 0 (pay 24 [(0, 2, q), (4, 2, 1), (8, 4, 0xFFFF_0040)])
    let r := req s
    served s 0x0301 24 = true ∧ r.arg 2 1 ≤ 2 ∧ r.arg 3 1 ≤ 2 ∧ 1 ≤ r.arg 4 2 ∧ r.arg 4 2 ≤ 4096 ∧ r.arg 6 1 ≤ 3 ∧ r.arg 7 1 ≤ 1 ∧ r.arg 12 4 = 0 ∧
    handleBad (r.arg 8 4) = false ∧ s.m.detachedId 0 q = false ∧ (s.m.twin 0).held = [] ∧ s.m.servedId 0 q = false ∧ s.m.twinState 0 = 0 ∧ s.m.seq 0 q = none ∧ s.m.journals 0 = false := by decide +kernel

/-- Two LIVE sequences, the first with a page at block 0. -/
def twoSeqs : State := onStk (readyOf (kvS [] { length := 8, map := [(0, 16)] } [(16, { loc := 1, refs := 1 })])) 0 id

theorem hyp_ShoserSequencesPoolsShelvesAndPartitions_others :
    (let s := mbx twoSeqs 0x0302 0 (pay 8 [(2, 2, 1), (4, 4, 0)])
     served s 0x0302 8 = true ∧ s.m.detachedId 0 0 = false ∧ s.m.planRunning 0 = false ∧ s.m.cabHeld 0 0 = false ∧ (s.m.seq 0 0).isSome = true ∧ (s.m.seq 0 1).isSome = true) ∧
    (∀ fl ∈ [0, 1], let s := mbx twoSeqs 0x0303 0 (pay 4 [(2, 1, fl)]); served s 0x0303 4 = true ∧ (req s).arg 2 1 = fl ∧ (req s).arg 3 1 = 0 ∧ (s.m.twin 0).held.contains 0 = false) ∧
    (let s := mbx twoSeqs 0x0303 0 (pay 4 [])
     let t := { s with m := s.m.updTwin 0 (fun w => { w with held := [0] }) }
     served t 0x0303 4 = true ∧ (t.m.twin 0).held.contains 0 = true) ∧
    (∀ n ∈ [0, 8, 9], let s := mbx twoSeqs 0x0304 0 (pay 8 [(4, 4, n)]); served s 0x0304 8 = true ∧ (req s).arg 2 2 = 0 ∧ (req s).arg 4 4 = n ∧ ((s.m.seq 0 0).map (·.length)) = some 8) ∧
    (let s := mbx twoSeqs 0x0305 0 (pay 4 [(2, 1, 3), (3, 1, 1)]); served s 0x0305 4 = true ∧ (req s).arg 2 1 = 3 ∧ (req s).arg 3 1 = 1) ∧
    (let s := mbx twoSeqs 0x0305 0 (pay 4 [(0, 2, 9)]); served s 0x0305 4 = true ∧ s.m.seq 0 9 = none) ∧
    (let s := mbx (planState twoSeqs 2) 0x0305 0 (pay 4 []); served s 0x0305 4 = true ∧ s.m.planRunning 0 = true) ∧
    (let s := mbx (readyOf (twinS 5 (fun w => { w with detached := true }))) 0x0303 0 (pay 4 [(0, 2, 0x4000)]); served s 0x0303 4 = true ∧ s.m.detachedId 0 0x4000 = true) := by decide +kernel

/-- A fork of the whole sequence that takes its page. -/
theorem hyp_ShoserSequencesPoolsShelvesAndPartitions_fork : let x : Seq := { length := 8, map := [(0, 16)] }
    twoSeqs.m.seq 0 0 = some x ∧ twoSeqs.m.seq 0 1 = some {} ∧ (x.map.map (·.1)).Nodup ∧ 8 ≤ x.length ∧ (twoSeqs.m.fork 0 0 0 1 8 x {}).2 = 0 ∧
    x.map.filter (fun e => decide (e.1 / x.streams * kvPositions x.fmt x.hd < 8)) ≠ [] ∧ x.map.filter (fun e => decide (e.1 / x.streams * kvPositions x.fmt x.hd < 0)) = [] := by
  decide +kernel

theorem hyp_ShoserSequencesPoolsShelvesAndPartitions_settings :
    (let s := mbx up0 0x0307 0 (pay 32 [(0, 1, 1), (6, 1, 1)])
     let r := req s
     served s 0x0307 32 = true ∧ r.arg 0 1 ≤ 1 ∧ r.arg 1 1 ≤ 1 ∧ r.arg 7 1 < 16 ∧ r.arg 28 1 < 16 ∧ r.arg 29 3 = 0 ∧ 1 ≤ r.arg 6 1) ∧
    (∀ w ∈ [2, 9], let s := mbx up0 0x0403 0 (pay 2 [(0, 1, w), (1, 1, 3)]); served s 0x0403 2 = true ∧ s.m.partOk 0 ((req s).arg 0 1) ((req s).arg 1 1) = decide (w = 2)) ∧
    (let s := mbx up0 0x0401 0 (pay 24 [(0, 1, 63), (16, 8, 128)])
     let r := req s
     served s 0x0401 24 = true ∧ r.arg 0 1 < 64 ∧ r.arg 1 7 = 0 ∧ r.arg 8 8 % 128 = 0 ∧ r.arg 16 8 % 128 = 0 ∧ 0 < r.arg 16 8 ∧ s.m.shelfStatus 0 ⟨63, 0, 128⟩ = 0) ∧
    (let s := mbx (onCache up0 (fun c => { c with shelves := [⟨63, 0, 128⟩] })) 0x0401 0 (pay 24 [(0, 1, 63), (16, 8, 128)])
     served s 0x0401 24 = true ∧ s.m.shelfStatus 0 ⟨63, 0, 128⟩ ≠ 0) ∧
    (let s := mbx (onCache up0 (fun c => { c with shelves := [⟨63, 0, 128⟩] })) 0x0402 0 [63]
     served s 0x0402 1 = true ∧ (s.m.stk 0).cache.shelves.find? (fun x => x.id = (req s).arg 0 1) = some ⟨63, 0, 128⟩ ∧
     s.m.host.deferred.find? (fun d => d.opcode = 0x0401 && d.stack = 0 && d.arg 0 1 = 63) = none) ∧
    (deferred up0 0x0401 (pay 24 [(0, 1, 63)])).m.host.deferred.find? (fun d => d.opcode = 0x0401 && d.stack = 0 && d.arg 0 1 = 63) ≠ none ∧
    (let s := mbx up0 0x0402 0 [5]; served s 0x0402 1 = true ∧ (s.m.stk 0).cache.shelves = []) ∧
    (let s := mbx up0 0x0501 0 (pay 16 [(0, 8, devAddr 0 0 0x6BFF_FF80), (8, 8, 128)])
     let r := req s
     served s 0x0501 16 = true ∧ r.arg 0 8 < 2 ^ 52 ∧ daStack (r.arg 0 8) = 0 ∧ daRegion (r.arg 0 8) = 0 ∧ r.arg 0 8 % 128 = 0 ∧ r.arg 8 8 % 128 = 0 ∧
     daOff (r.arg 0 8) + r.arg 8 8 ≤ 0x6C00_0000) := by decide +kernel

/-! ## Plans, pairs and tests by command; the event ring -/

/-- An image of one core with a script of one entry, for a stack of SDID 9: its fields, with the SHA-384 of the image at 0x10. -/
def imageBytes : List Nat := pay 0x300 [(0x0, 4, 0x504E5248), (0x4, 2, 0x100), (0x6, 2, 0x100), (0x8, 8, 0x300), (0x40, 8, 0x7), (0x48, 2, 0x9), (0x4A, 6, 0xFFFFFFFFFFFF), (0x50, 2, 0x1), (0x60, 8, 0x100), (0x68, 8, 0x20), (0x70, 8, 0x200), (0x78, 8, 0x20), (0x102, 2, 0x1), (0x108, 4, 0x20), (0x10C, 4, 0x10000), (0x214, 2, 0x1),
  (0x10, 48, 0xF8E44D7053505422B4B295CEBC022371E8BC946DA13A7E575372FF351B7F75AF890EE0BD6E1ADD6379C2EA76F77BD74C)]

/-- A started part of SDID 9 with 832 indices and the image at offset 0 of its stack memory; core 0 is in Run when r is 2. -/
def imageS (r : Nat) : State :=
  let s := flds up0 [(0, Reg.LNK_SDID_SDID, 0, 9), (0, Reg.BUR_CORE_SUMMARY_LOGICAL_COUNT, 0, 832), (0, Reg.CORE_POWER_STATE, 0, r)]
  mbx { s with m := { s.m with mem := { data := ((imageBytes.zipIdx).map (fun e => (devAddr 0 0 0 + e.2, BitVec.ofNat 8 e.1))).filter (fun c => c.2 ≠ 0) } } }
    0x0201 0 (pay 16 [(0, 8, devAddr 0 0 0), (8, 8, 0x300)])

/-- The image passes every check of Table EX-9 (its hash is that of the published SHA-384). -/
theorem hyp_PlanCommandsAndRouteLoad_image : (imageS 2).m.imageStatus 1 (imageBytes.map (BitVec.ofNat 8)) 0x300 [0] = 0 := by decide +kernel

theorem hyp_PlanCommandsAndRouteLoad_load : ∀ r ∈ [0, 2], let s := imageS r
    let a := devAddr 0 0 0
    let rd := s.m.performRead false a 0x300
    served s 0x0201 16 = true ∧ (req s).arg 0 8 = a ∧ (req s).arg 8 8 = 0x300 ∧ s.m.imageThere 1 a 0x300 = true ∧
    loadStacks (req s) 1 (PByte.vals (s.m.homeBytes a 0x100)) = [0] ∧ s.m.loadBusy 0 = false ∧ s.m.accessHeld false a 0x300 = false ∧
    PByte.vals rd.2 = imageBytes.map (BitVec.ofNat 8) ∧ decide (rd.1.stoppedCores [0] (planOf (imageBytes.map (BitVec.ofNat 8))) = []) = decide (r = 2) ∧
    rd.1.anyHeld [(devAddr 0 0 0x1_0000, 32)] = false := by decide +kernel

/-- A stack that is busy; an image that is none; plans LOADED and RUNNING. -/
theorem hyp_PlanCommandsAndRouteLoad_others : (planState (imageS 2) 2).m.loadBusy 0 = true ∧
    (imageS 2).m.imageStatus 1 (List.replicate 256 0) 256 [0] ≠ 0 ∧
    (∀ st ∈ [0, 1, 2], let s := mbx (planState up0 st) 0x0202 0 (pay 8 [])
      served s 0x0202 8 = true ∧ decide (s.m.planStacks (req s) 1 (fun k => s.m.planOn k && !s.m.planRunning k) false = []) = decide (st ≠ 1) ∧
      served (mbx (planState up0 st) 0x0203 0 (pay 8 [])) 0x0203 8 = true ∧
      decide (s.m.planStacks (req s) 1 s.m.planOn true = []) = decide (st = 0)) ∧
    (∀ st ∈ [0, 2], let s := mbx (planState up0 st) 0x0205 0 (pay 24 [(8, 2, 16383), (10, 2, 1), (16, 8, 0x1F + 0x1E * 32)])
      let r := req s
      served s 0x0205 24 = true ∧ 1 ≤ r.arg 10 2 ∧ r.arg 10 2 ≤ 500 ∧ r.arg 12 4 = 0 ∧ r.arg 8 2 + r.arg 10 2 ≤ 16384 ∧ (∀ e ∈ routeEntries r, lk6Ok e.2 = true) ∧
      s.m.planOn 0 = decide (st ≠ 0)) := by decide +kernel

/-- A started stack with two links UP to stack 7 of another part, licensed for pairs, in twin state st. -/
def pairS (st : Nat) (lic : Nat := 8) (f : TwinSt → TwinSt := id) : State :=
  let s := readyOf (flds (lnkS 2 22 id (lnkS 2)) [(0, Reg.LNK_TWIN_STATUS_STATE, 0, st), (0, Reg.LNK_PEER_SDID, 23, 7), (0, Reg.LNK_PEER_SDID, 22, 7), (0, Reg.LNK_PEER_SERIAL_LO, 23, 1),
    (0, Reg.LNK_PEER_SERIAL_LO, 22, 1), (0, Reg.LNK_SDID_SDID, 0, 9), (0, Reg.LIC_STATUS_FEATURES, 0, lic), (0, Reg.BUR_CORE_SUMMARY_LOGICAL_COUNT, 0, 832)])
  { s with m := s.m.updTwin 0 f }

/-- A TWIN_PAIR with stack 7 over links 22 and 23. -/
def pairCmd (s : State) : State := mbx s 0x0601 0 (pay 16 [(0, 2, 7), (2, 1, 22), (3, 1, 23), (8, 8, 0x1_0000)])

theorem hyp_TwinAndLinkCommands_pair :
    (∀ st ∈ [0, 1, 2, 3, 4, 5, 6], let s := pairCmd (pairS st)
      let r := req s
      served s 0x0601 16 = true ∧ r.arg 2 1 < 24 ∧ r.arg 3 1 < 24 ∧ r.arg 2 1 ≠ r.arg 3 1 ∧ r.arg 4 1 ≤ 1 ∧ r.arg 5 3 = 0 ∧ r.arg 8 8 % 0x1_0000 = 0 ∧ s.m.twinState 0 = st) ∧
    (let s := pairCmd (pairS 0); Mach.pairStatus s.fuse s.m 0 (req s) = 0 ∧ (s.m.twin 0).hello = none) ∧
    (let s := pairCmd (pairS 0 0); Mach.pairStatus s.fuse s.m 0 (req s) ≠ 0) ∧
    (let x := 9 * 2 ^ 16 + 7
     bits x 0 16 = 7 ∧ bits x 16 16 = (pairS 0).m.sdid 0 ∧ bit x 32 = false ∧ bit x 33 = false ∧ ((pairS 0 8 (fun t => { t with hello := some x })).m.twin 0).hello = some x ∧ ((pairS 0).m.twin 0).serving = false ∧ ((pairS 0).m.stk 0).seqs = []) ∧
    ((deferred (pairS 1) 0x0601 []).m.host.deferred.find? (fun x => x.opcode = 0x0601)).isSome = true ∧ (pairS 1).m.host.deferred = [] := by decide +kernel

theorem hyp_TwinAndLinkCommands_states :
    (∀ op ∈ [0x0602, 0x0603, 0x0604, 0x0605], ∀ st ∈ [0, 3, 6], let s := mbx (pairS st) op 0 []; served s op 0 = true ∧ s.m.twinState 0 = st) ∧
    (planState (pairS 6) 2).m.planOn 0 = true ∧ (deferred (pairS 6) 0x0604 []).m.deferredOn 0x0604 0 ≠ none ∧ (pairS 6).m.deferredOn 0x0604 0 = none ∧
    ((pairS 6).m.twin 0).rejoinYou = false ∧ ((pairS 2).m.twin 0).theirs = 0 ∧ (pairS 4).m.servesAny 0 = false ∧ (pairS 4 8 (fun t => { t with held := [0] })).m.servesAny 0 = true ∧
    bit ((pairS 2).m.features 0) 0 = false ∧ bit ((pairS 2 9).m.features 0) 0 = true ∧ (pairS 3).m.deferredOn 0x0604 0 = none := by decide +kernel

theorem hyp_TwinAndLinkCommands_mirror : ∀ st ∈ [0, 2], let s := mbx (pairS st) 0x0606 0 (pay 6 [(0, 1, 1), (2, 2, 831), (4, 2, 1)])
    let r := req s
    served s 0x0606 6 = true ∧ r.arg 0 1 = 1 ∧ r.arg 1 1 = 0 ∧ r.arg 4 2 = 1 ∧ r.arg 2 2 + r.arg 4 2 ≤ 832 ∧ s.m.twinState 0 = st ∧
    s.m.accessHeld false (devAddr 0 4 ((s.m.twin 0).base + 0x2_1000 + 16 * 831)) 16 = false := by decide +kernel

/-- Tests and scans: a link held by licence, lanes that are not free, a test of the link already, a claim refused, and one taken. -/
theorem hyp_TwinAndLinkCommands_tests :
    (let s := mbx up0 0x0901 0 (pay 8 [(0, 1, 23), (2, 2, 0xFF), (4, 4, 1)])
     let r := req s
     served s 0x0901 8 = true ∧ r.arg 0 1 < 24 ∧ r.arg 1 1 ≤ 7 ∧ 1 ≤ r.arg 2 2 ∧ r.arg 2 2 < 512 ∧ 1 ≤ r.arg 4 4 ∧ r.arg 4 4 ≤ 60000 ∧ s.m.linkHeld 0 23 = true) ∧
    (let s := mbx up0 0x0902 0 [23, 7]; served s 0x0902 2 = true ∧ (req s).arg 0 1 < 24 ∧ (req s).arg 1 1 ≤ 8) ∧
    (let s := flds up0 [(0, Reg.LNK_STATUS_STATE, 23, 6), (0, Reg.LIC_STATUS_FEATURES, 0, 1)]
     s.m.linkHeld 0 23 = false ∧ s.m.lanesFree 0 23 0xFF = true ∧ s.m.lanesFree 0 23 (2 ^ 7) = true ∧ s.m.claimKind 0 23 (req (mbx s 0x0901 0 [])).owner 3 ≠ .refused ∧
     (s.m.lnk 0 23).scan = none ∧ s.m.host.deferred.any (fun d => d.opcode = 0x0901 && onLink 0 23 d) = false ∧
     (deferred s 0x0901 [23]).m.host.deferred.any (fun d => d.opcode = 0x0901 && onLink 0 23 d) = true) ∧
    (let s := flds up0 [(0, Reg.LNK_STATUS_STATE, 23, 6), (0, Reg.REG_OWNER_OWNER, 23, 0x50), (0, Reg.REG_OWNER_CLASS, 23, 1)]
     s.m.claimKind 0 23 (req (mbx s 0x0901 0 [])).owner 3 = .refused) ∧
    (flds up0 [(0, Reg.LNK_STATUS_STATE, 7, 2)]).m.lanesFree 0 7 0xFF = false ∧ up0.m.linkHeld 0 7 = false := by decide +kernel

/-- Room in the ring, a full ring, and room that a write of TAIL makes after two events were lost. -/
theorem hyp_EventsReachTheRingTheQueueOrTheLostCount :
    (State.reset.m.ringUsed < 4096 ∧ State.reset.m.host.evQueue = [] ∧ State.reset.m.host.evLost = 0 ∧ State.reset.m.host.bar2.wf = true) ∧
    (let s := flds up0 [(0, Reg.MBX_EVT_HEAD_HEAD, 0, 4096)]
     let t := { s with m := { s.m with host := { s.m.host with evLost := 2 } } }
     ¬s.m.ringUsed < 4096 ∧ s.m.host.evQueue.length < 1024 ∧ t.m.bar2Open = true ∧ 0 < t.m.host.evLost ∧ t.m.getF 0 Reg.MBX_EVT_HEAD_HEAD < 2 ^ 32 ∧
     t.m.getF 0 Reg.MBX_EVT_TAIL_TAIL < 2 ^ 32 ∧ (bits (regData (wr 1)) 0 32 + 2 ^ 32 - t.m.getF 0 Reg.MBX_EVT_TAIL_TAIL) % 2 ^ 32 ≤ t.m.ringUsed ∧
     (t.m.getF 0 Reg.MBX_EVT_HEAD_HEAD + 2 ^ 32 - bits (regData (wr 1)) 0 32) % 2 ^ 32 < 4096) := by decide +kernel

/-! ## Views -/

/-- R556: AQZ-832S-A0 reads 0x0083_29D7, and every stack of an AQZ-832Q-A0 reads 0x0083_49D7. -/
theorem test_idcode : ({ part := .S } : Fuse).idcode = 0x0083_29D7 ∧ ({ part := .Q } : Fuse).idcode = 0x0083_49D7 := by decide +kernel

/-- R546: the window wraps after byte 0x83; at reset SERVICE is BOOTING (0), the band reads 7, and TEMP reads 0x8000. -/
theorem test_i3c_window : ({ State.reset.m with boot := { State.reset.m.boot with i3c := ⟨131, 0, 0, 0⟩ } } : Mach).i3cRead 0 4 = [0x80, 0, 7, 0] := by
  decide +kernel

/-! ## Commands that are not well formed -/

/-- A command that names a stack is well formed on the parts that have it, and on no other (R8). -/
theorem test_absent_stack_is_ill_formed : ∀ e ∈ ([(0, 1, true), (1, 1, false), (1, 2, true), (3, 2, false), (3, 4, true)] : List (StackNo × Nat × Bool)), let k := e.1
    (
    [Instr.nop, Instr.bra, Instr.brx, Instr.exit, Instr.trap, Instr.iadd, Instr.isub, Instr.imulLo, Instr.imulHiU, Instr.imulHiS, Instr.imad,
     Instr.idivU, Instr.idivS, Instr.iremU, Instr.iremS, Instr.iminS, Instr.iminU, Instr.imaxS, Instr.imaxU, Instr.and, Instr.or, Instr.xor,
     Instr.not, Instr.shl, Instr.shrU, Instr.shrS, Instr.popc, Instr.clz, Instr.brev, Instr.fadd, Instr.fsub, Instr.fmul, Instr.ffma, Instr.fmin,
     Instr.fmax, Instr.hadd2, Instr.hmul2, Instr.hfma2, Instr.hmin2, Instr.hmax2, Instr.ex2, Instr.lg2, Instr.rcp, Instr.rsq, Instr.sin, Instr.cos,
     Instr.f32S32, Instr.f32U32, Instr.s32F32, Instr.u32F32, Instr.bf16F32, Instr.f32Bf16, Instr.f16F32, Instr.f32F16, Instr.e4m3F32, Instr.e4m3Bf16,
     Instr.e4m3F16, Instr.e5m2F32, Instr.e5m2Bf16, Instr.f32E4m3, Instr.f32E5m2, Instr.bf16E4m3, Instr.bf16E5m2, Instr.mov, Instr.sel, Instr.pack2,
     Instr.pack4, Instr.s2r, Instr.isetp, Instr.fsetp, Instr.plop, Instr.elect, Instr.voteAny, Instr.voteAll, Instr.ballot, Instr.shfl, Instr.ld,
     Instr.st, Instr.atomAdd, Instr.atomMinS, Instr.atomMinU, Instr.atomMaxS, Instr.atomMaxU, Instr.atomAnd, Instr.atomOr, Instr.atomXor,
     Instr.atomXch, Instr.atomCas, Instr.atomFadd, Instr.atomOrd, Instr.barSync, Instr.waitGe, Instr.waitEq, Instr.signal, Instr.signalFail,
     Instr.clearFail, Instr.fenceCore, Instr.fenceStack, Instr.fenceSystem, Instr.cacheDead, Instr.mxLoadw, Instr.mxSwap, Instr.mxStream,
     Instr.mxDrain, Instr.mxWait, Instr.mxgLoadw, Instr.mxgStream, Instr.mxgDrain, Instr.attBias, Instr.attScore, Instr.attNorm, Instr.attPack,
     Instr.attWait, Instr.kvAppend, Instr.kvGather, Instr.kvFork, Instr.kvFree, Instr.kvTrunc, Instr.kvHint, Instr.kvWait].map (fun c => c { stack := k, core := 831, slot := 47 }) ++
    [Instr.scriptEntryStart, Instr.blockDispatch, Instr.scriptEntryEnd, Instr.loopEnd, Instr.commit, Instr.workUnitReplay, Instr.coreAbort,
     Instr.kernelFault, Instr.handshakeWatchdog, Instr.mxOpStart, Instr.loadwDone, Instr.streamDone, Instr.drainDone, Instr.attOpStart,
     Instr.attOpDone, Instr.gatherDone].map (fun c => c { stack := k, core := 831 }) ++
    [Instr.tokenArrival ⟨k, 1023, 0, 0⟩, Instr.creditArrival ⟨k, 1023, 0, 0⟩] ++
    [Instr.planComplete, Instr.nearCacheInvalidate, Instr.reshardStart, Instr.thrashWindow, Instr.partitionChangeDone, Instr.skipperTestStart,
     Instr.restoration, Instr.bureauWatchdogMiss, Instr.bureauRestartDone, Instr.heartbeatSend, Instr.heartbeatLoss, Instr.twinInstall,
     Instr.twinInstalled, Instr.periodicRetrain, Instr.voutSettled, Instr.avsTargetFall, Instr.rtcAlarmFire, Instr.stageLate].map (fun c => c ⟨k⟩) ++
    [Instr.syncSignalArrival ⟨k, 0, [(1, 0)], 0⟩] ++
    [Instr.syncStall ⟨k, 8191⟩] ++
    [Instr.reshardDescriptorDone ⟨k, 0⟩] ++
    [Instr.barrierStall ⟨k, 831, 15, 3⟩] ++
    [Instr.atomicAtHome ⟨k, 831, 47⟩] ++
    [Instr.accessAtHome (.store k 0 0)] ++
    [Instr.lineFillDone ⟨k, 0⟩, Instr.writebackDone ⟨k, 0⟩, Instr.deadDeclaration ⟨k, 0⟩] ++
    [Instr.shelfPinDone ⟨k, 63⟩] ++
    [Instr.rowRoot { stack := k, core := 0 }, Instr.rowRecompute { stack := k, core := 0 }] ++
    [Instr.keyedOpArrival ⟨k, 1, 0⟩] ++
    [Instr.appendPerform, Instr.forkPerform, Instr.freePerform, Instr.truncPerform, Instr.hintPerform, Instr.chestWriteDone].map (fun c => c ⟨k, 1⟩) ++
    [Instr.chunkReceive { stack := k, position := 863, addr := 0 }] ++
    [Instr.writeChunkReceive { stack := k, position := 863, addr := 0, bytes := [] }] ++
    [Instr.handshakeTimeout ⟨k, 863, 33, none⟩, Instr.spareMapDone ⟨k, 863, 31, []⟩, Instr.resyncDone ⟨k, 863, 31⟩, Instr.resyncTimeout ⟨k, 863, 31⟩] ++
    [Instr.skipperTestEnd ⟨k, 0, .pass, 0⟩] ++
    [Instr.relocationDone ⟨k, 863⟩, Instr.coreWake ⟨k, 863⟩, Instr.coreWakeDone ⟨k, 863⟩] ++
    [Instr.portReset { stack := k }] ++
    [Instr.hawkmothStep { stack := k, half := 1 }] ++
    [Instr.scrubRangeDone ⟨k, 1⟩] ++
    [Instr.linkTrainingDone ⟨k, .device 23, true, [], 0, 0, 0, 0⟩, Instr.retrainDone ⟨k, .device 23, true, [], 0, 0, 0, 0⟩] ++
    [Instr.peerSignalLoss ⟨k, .device 23⟩] ++
    [Instr.signalDetectRetry ⟨k, 23, true⟩] ++
    [Instr.laneWindowEnd ⟨k, 23, [], 0⟩] ++
    [Instr.idle ⟨{ fh with stack := k }, 0⟩] ++
    [Instr.write, Instr.writeAck, Instr.readReq, Instr.readRsp, Instr.message, Instr.poison, Instr.journal].map (fun c => c { flit 0 [] with head := { fh with stack := k } }) ++
    [Instr.heartbeat ⟨{ fh with stack := k }, 0, 0, 0, 0⟩] ++
    [Instr.planAnnounce, Instr.pairHello, Instr.controlDetach, Instr.controlStop, Instr.controlConflict, Instr.controlRejoin].map (fun c => c ⟨{ fh with stack := k }, 0⟩) ++
    [Instr.patternTestDone ⟨k, 23, []⟩] ++
    [Instr.marginScanDone ⟨k, 23, 0, 0, 0, 0⟩] ++
    [Instr.movStart ⟨k, 63⟩, Instr.movStop ⟨k, 63⟩, Instr.moverWritesDone ⟨k, 63⟩] ++
    [Instr.moverCopy, Instr.moverTranspose, Instr.moverZero, Instr.moverWaitMet, Instr.moverCreditReady].map (fun c => c ⟨k, 63, .ok⟩) ++
    [Instr.refreshDue ⟨k, 31, 0⟩] ++
    [Instr.intcSourceEdge ⟨k, 1023⟩] ++
    [Instr.intcClaim ⟨k, 3⟩] ++
    [Instr.intcComplete ⟨k, 3, 1023⟩] ++
    [Instr.crossingResync ⟨k, 29, 0, 0⟩] ++
    [Instr.latencyMiss ⟨k, 3, 0, 0⟩] ++
    [Instr.regionAverage ⟨k, 15, 0⟩] ++
    [Instr.wakeWaitEnd ⟨k, 863, 200⟩] ++
    [Instr.pmbusAlert ⟨k, 9, 0, 0, false⟩] ++
    [Instr.adcSample ⟨k, .rail 9 0⟩] ++
    [Instr.diodeRatioCheck ⟨k, []⟩] ++
    [Instr.hardwareTrip ⟨k, 47⟩] ++
    [Instr.bootImageBlock ⟨k, 255, true⟩] ++
    [Instr.stageMessage ⟨k, true, true⟩] ++
    [Instr.bureauBridgeMessage ⟨k, 0⟩] ++
    [Instr.i3cPrivateWrite ⟨k, 0⟩] ++
    [Instr.boundaryScanInstruction ⟨k, 0⟩] ++
    [Instr.bureauTimerExpiry ⟨k, 7⟩]).all (fun i => i.wf e.2.1 == e.2.2) = true := by decide +kernel

/-- The lists that a command carries: each check refuses one that is too long, empty or repeats, and accepts its bound. -/
theorem test_lists_that_do_not_fit :
    (Instr.rowRoot ⟨0, 0, [(127, 1), (127, 2)]⟩).wf 1 = false ∧ (Instr.rowRecompute ⟨0, 0, [(127, 1), (127, 2)]⟩).wf 1 = false ∧
    (Instr.rowRoot ⟨0, 0, [(126, 1), (127, 2)]⟩).wf 1 = true ∧
    (Instr.syncSignalArrival ⟨0, 0, [], 0⟩).wf 1 = false ∧ (Instr.syncSignalArrival ⟨0, 0, [(1, 0)], 1⟩).wf 1 = false ∧
    (Instr.allocatingAccess ⟨.host, 0, 2, some [0]⟩).wf 1 = false ∧ (Instr.streamingAccess ⟨.host, 0, 2, some [0]⟩).wf 1 = false ∧
    (Instr.accessAtHome (.access ⟨.host, 0, 2, some [0]⟩)).wf 1 = false ∧ (Instr.accessAtHome (.access ⟨.host, 0, 1, some [0]⟩)).wf 1 = true ∧
    (Instr.chunkReceive ⟨0, 0, 0, List.replicate 257 (0, 0), false, false⟩).wf 1 = false ∧ (Instr.writeChunkReceive ⟨0, 0, 0, List.replicate 257 (0, 0), none, false, false⟩).wf 1 = false ∧
    (Instr.idle ⟨fh, 9⟩).wf 1 = false ∧ (Instr.idle ⟨fh, 10⟩).wf 1 = true ∧
    (Instr.linkTrainingDone ⟨0, .device 0, true, [3, 3], 0, 0, 0, 0⟩).wf 1 = false ∧ (Instr.retrainDone ⟨0, .device 0, true, [3, 3], 0, 0, 0, 0⟩).wf 1 = false ∧
    (Instr.laneWindowEnd ⟨0, 0, List.replicate 10 0, 0⟩).wf 1 = false ∧ (Instr.laneWindowEnd ⟨0, 0, List.replicate 9 0, 0⟩).wf 1 = true ∧
    (Instr.patternTestDone ⟨0, 0, List.replicate 10 0⟩).wf 1 = false := by decide +kernel

theorem test_payloads_that_do_not_fit :
    ([Instr.write, .writeAck, .readReq, .readRsp, .message, .poison, .journal].map (fun c => c { flit 0 [1] with len := 2 })).all (fun i => !i.wf 1) = true ∧
    (Instr.bar4Write ⟨0, [], false⟩).wf 1 = false ∧ (Instr.bar4Write ⟨0, List.replicate 4097 0, false⟩).wf 1 = false ∧ (Instr.bar4Write ⟨0, List.replicate 4096 0, false⟩).wf 1 = true ∧
    (Instr.diodeRatioCheck ⟨0, [47, 47]⟩).wf 1 = false ∧ (Instr.stageStart ⟨List.replicate 5 {}⟩).wf 1 = false ∧ (Instr.wakeStep ⟨List.replicate 5 {}, []⟩).wf 1 = false ∧
    (Instr.wakeStep ⟨[], List.replicate 5 []⟩).wf 1 = false ∧ (Instr.requestBufferWrite ⟨0, 0, [], false⟩).wf 1 = false ∧
    (Instr.requestBufferWrite ⟨0, 4095, [1, 2], false⟩).wf 1 = false ∧ (Instr.requestBufferWrite ⟨0, 4095, [1], false⟩).wf 1 = true ∧
    (Instr.skipperTestEnd ⟨0, 0, .fails [7, 7], 0⟩).wf 1 = false ∧ (Instr.skipperTestEnd ⟨0, 0, .couplers [87, 87], 0⟩).wf 1 = false ∧
    (Instr.skipperTestEnd ⟨0, 0, .couplers [86, 87], 0⟩).wf 1 = true := by decide +kernel

/-! ## Small results -/

/-- Register v10 of lane 0 after an instruction with operands v2, v4 and v6 of one lane. -/
def v10 (i : KInstr → Instr) (w a b : Nat) (c : Nat := 0) : Option Nat :=
  match exec (i ka) (mk [w] (core0 [(0, 2, a), (0, 4, b), (0, 6, c)] grp1)) with
  | .next t => some ((t.m.core 0 0).reg 0 0 10).val.toNat
  | _ => none

/-- Table KF-3 and R129: wrapping sums, the signed high product, and the shifts of the full width. -/
theorem test_integer_results : v10 .iadd (iw 1 0 10 2 4) 0xFFFF_FFFF 1 = some 0 ∧ v10 .isub (iw 1 1 10 2 4) 0 1 = some 0xFFFF_FFFF ∧
    v10 .imulHiS (iw 1 4 10 2 4) 0xFFFF_FFFF 1 = some 0xFFFF_FFFF ∧ v10 .imulHiU (iw 1 3 10 2 4) 0xFFFF_FFFF 2 = some 1 ∧
    v10 .shl (iw 1 0x12 10 2 4) 1 32 = some 0 ∧ v10 .shl (iw 1 0x12 10 2 4) 1 0x101 = some 2 ∧ v10 .shrS (iw 1 0x14 10 2 4) 0x8000_0000 32 = some 0xFFFF_FFFF ∧
    v10 .shrU (iw 1 0x13 10 2 4) 0x8000_0000 31 = some 1 := by decide +kernel

/-- Table KF-3: the division corners that it states. -/
theorem test_division_corners : v10 .idivU (iw 1 6 10 2 4) 7 0 = some 0xFFFF_FFFF ∧ v10 .idivS (iw 1 7 10 2 4) 7 0 = some 0xFFFF_FFFF ∧
    v10 .idivS (iw 1 7 10 2 4) 0xFFFF_FFF9 0 = some 1 ∧ v10 .idivS (iw 1 7 10 2 4) 0x8000_0000 0xFFFF_FFFF = some 0x8000_0000 ∧
    v10 .iremS (iw 1 9 10 2 4) 0x8000_0000 0xFFFF_FFFF = some 0 ∧ v10 .iremU (iw 1 8 10 2 4) 7 0 = some 7 ∧
    v10 .idivS (iw 1 7 10 2 4) 0xFFFF_FFF9 2 = some 0xFFFF_FFFD ∧ v10 .iremS (iw 1 9 10 2 4) 0xFFFF_FFF9 2 = some 0xFFFF_FFFF := by decide +kernel

/-- Table KF-3: bit counts; minimum and maximum by sign. -/
theorem test_bit_results : v10 .clz (iw 1 0x16 10 2) 0 0 = some 32 ∧ v10 .popc (iw 1 0x15 10 2) 0xF000_000F 0 = some 8 ∧ v10 .brev (iw 1 0x17 10 2) 1 0 = some 0x8000_0000 ∧
    v10 .iminS (iw 1 0xA 10 2 4) 0xFFFF_FFFF 1 = some 0xFFFF_FFFF ∧ v10 .iminU (iw 1 0xB 10 2 4) 0xFFFF_FFFF 1 = some 1 := by decide +kernel

/-- IEEE 754-2019 binary32 (R130): a tie to even, the fused product that a rounded one would lose, signed zeros and the default NaN. -/
theorem test_binary32_results : v10 .fadd (iw 2 0 10 2 4) 0x3F80_0000 0x3380_0000 = some 0x3F80_0000 ∧ v10 .fadd (iw 2 0 10 2 4) 0x3F80_0001 0x3380_0000 = some 0x3F80_0002 ∧
    v10 .fmul (iw 2 2 10 2 4) 0x7F80_0000 0 = some 0x7FC0_0000 ∧ v10 .fsub (iw 2 1 10 2 4) 0x3F80_0000 0x3F80_0000 = some 0 ∧
    v10 .ffma (iw 2 3 10 2 4 (6 * 2 ^ 52)) 0x3F80_0001 0x3F80_0001 0xBF80_0002 = some 0x2880_0000 := by decide +kernel

/-- Table KF-7: BF16 to nearest even; a magnitude above 448 in E4M3; a NaN. -/
theorem test_conversion_results : v10 .bf16F32 (iw 5 4 10 2) 0x3F80_8000 0 = some 0x3F80 ∧ v10 .bf16F32 (iw 5 4 10 2) 0x3F81_8000 0 = some 0x3F82 ∧
    v10 .e4m3F32 (iw 5 8 10 2) 0x4400_0000 0 = some 0x7E ∧ v10 .e4m3F32 (iw 5 8 10 2) 0x7FC0_0000 0 = some 0x7F := by decide +kernel

/-- SHA-384 of the empty message (FIPS 180-4), by which R50's image hash is checked. -/
theorem test_sha384_empty : ((Sha.sha384 []).take 4).map (·.toNat) = [0x38, 0xB0, 0x60, 0xA7] := by decide +kernel

/-- No word spells a command: the table gives no row any bits. -/
theorem test_no_word_spells_a_command : ∀ n ∈ [8, 16, 32, 64], decodeTableWord n 0 = none := by decide

/-- A command that names a stack which the part does not have stops with the fault of its name (R8). -/
theorem test_absent_stack_faults : exec (.iadd { ka with stack := 3 }) State.reset = .fault (.noSuchStack 3) := by rfl

/-- The worked example of a link lane (R536, R538, Table EL-17): where LK3_TX8_P lies in the field and on the parts. -/
theorem test_link_lane_contact : fieldContact 28 4 = .link 3 8 true true ∧ fieldContact 29 4 = .link 3 8 true false ∧ fieldContact 28 10 = .link 3 8 false true ∧
    fieldContact 26 4 = .link 3 7 true true ∧ fieldContact 30 4 = .vss ∧ Part.place .D 1 28 4 = (153, 86) ∧ Part.place .Q 1 28 4 = (177, 28) ∧
    Part.place .Q 2 28 4 = (4, 153) ∧ Part.place .Q 3 28 4 = (153, 177) := by decide +kernel

/-- Contacts of a stack field by kind, on the rows of each zone (Table EL-6): 31 of VDDA_LINK on a link rail row, 72 of one side of the links. -/
theorem test_contact_counts : ((List.range 91).filter (fun x => fieldContact x 12 = .rail 4)).length = 31 ∧
    ((List.range 91).filter (fun x => fieldContact x 0 ≠ .vss)).length = 72 ∧ ((List.range 91).filter (fun x => fieldContact x 70 = .rail 5)).length = 48 := by
  decide +kernel

/-- The receive traffic of link 7 (Table EV-3): its priority at each row of the table. -/
theorem test_link_priority : [(30, 0), (55, 60), (60, 100), (70, 150), (92, 170), (93, 180), (94, 200), (88, 0)].map (fun e =>
    State.reset.m.masterPriority 0 0 e.1 e.2) = [4, 5, 5, 6, 7, 7, 7, 6] := by decide +kernel

end Sys2Proof.Tests
end

section
/-! SUPPORT. The reset state, what every command answers, and two statements that a register value out of range refutes. -/

namespace Sys2Proof.Machine

/-! ## The reset state -/

/-- No field of a register has been set at reset, so each reads as its reset value (R18). -/
theorem State.reset_getF (v : Nat) (f : Fld) (j : Nat) : State.reset.m.getF v f j = f.resetAt v j := by
  match v with
  | 0 | 1 | 2 | 3 | _ + 4 => rfl

theorem State.reset_stk (v : Nat) : State.reset.m.stk v = {} := by
  match v with
  | 0 | 1 | 2 | 3 | _ + 4 => rfl

/-- Settles O60: no field has been set and no memory lists a cell, so each reads as its default. -/
theorem resetHasTheSpecsValues : Obligations.ResetHasTheSpecsValues := by
  obtain ⟨canonical, -, -, -⟩ := State.reset_canonical
  refine ⟨rfl, State.reset_getF, canonical, fun _ => ⟨rfl, rfl, rfl⟩, ?_, rfl, rfl, rfl, rfl, ?_⟩
  · intro v
    rw [State.reset_stk]
    exact ⟨rfl, rfl, rfl⟩
  · intro v
    simp only [State.reset_getF]
    exact ⟨rfl, rfl, rfl, rfl, rfl, rfl, rfl, fun _ _ => ⟨rfl, rfl⟩⟩

/-! ## What every command answers (R8, R516; log entry 15) -/

/-- Command c runs as a meaning of the part as a whole, or as one at a stack, which the part has when c is well formed. -/
def AtItsStack (c : Instr) (s : State) : Prop :=
  (∃ n, exec c s = .next { s with m := n }) ∨
  (∃ k f, exec c s = onStack s k f ∧ (c.wf s.fuse.part.stackCount = true → k < s.fuse.part.stackCount))

theorem lt_of_inPart {n : Nat} {k : StackNo} (h : inPart n k = true) : k.val < n := of_decide_eq_true h

theorem lt_of_inPart_and {n : Nat} {k : StackNo} {b : Bool} (h : (inPart n k && b) = true) : k.val < n := lt_of_inPart (Bool.and_elim_left h)

theorem exec_atItsStack (c : Instr) (s : State) : AtItsStack c s := by
  cases c with
  | accessAtHome a =>
    cases a with
    | store k c i => exact .inr ⟨k.val, _, rfl, lt_of_inPart⟩
    | access x => exact .inl ⟨_, rfl⟩
  | allocatingAccess | streamingAccess | bar4Read | bar4Write | flr | msixUnmask | mbxDoorbell | mbxEvtTail | syncSignal | syncStatus | hostStackSel
  | cdiePartCfg | cabPoolCfg | cabPoolBase | cabLpCfg | cabLpBase | cabClassCfg | lnkSdid | lnkCtrlRetrain | lnkCtrlTest | lnkPatCfg | lnkMarginStart
  | ldoSet | stopReq | thmChCfg | thmDiag | regGpio | aonRtcAlarm | registerWrite | readClear | wakeEvent | wakeStep | perstNAssert | perstNDeassert
  | pwrGoodFall | pwrGoodRise | vddAonLoss | vddAonApply | pcieLinkTrained | requestBufferWrite | stageStart | pairTimeout | flashWriteDone
  | identify | getState | getCoreMap | setSdid | getTime | licInstall | licList | licRemove | planLoad | planStart | planAbort | planStatus | routeLoad
  | seqCreate | seqFork | seqFree | seqTrunc | seqPriority | seqRead | kvPoolCfg | shelfPin | shelfUnpin | partSet | scrubRange | twinPair | twinUnpair
  | twinDetach | twinRejoin | twinTakeover | twinJournalRead | powerStateDevice | powerStateCores | rtcAlarm | thermalLimits | thermalRead | linkTest
  | linkMargin | logRead | eventBind | syncBind | resourceQuery | fwWrite | fwActivate => exact .inl ⟨_, rfl⟩
  | syncSignalArrival => exact .inr ⟨_, _, rfl, fun h => lt_of_inPart_and (Bool.and_elim_left h)⟩
  | rowRoot | rowRecompute | chunkReceive | writeChunkReceive | skipperTestEnd | linkTrainingDone | retrainDone | laneWindowEnd | idle | write | writeAck
  | readReq | readRsp | message | poison | journal | patternTestDone | diodeRatioCheck => exact .inr ⟨_, _, rfl, lt_of_inPart_and⟩
  | _ => exact .inr ⟨_, _, rfl, lt_of_inPart⟩

/-- What a command can answer: its next state has the fused facts and the queue of before; the one other answer names an absent stack, and none is made
to a command that is well formed. -/
theorem exec_cases (c : Instr) (s : State) :
    (∃ t, exec c s = .next t ∧ t.fuse = s.fuse ∧ t.pending = s.pending) ∨
    (∃ k, exec c s = .fault (.noSuchStack k) ∧ s.fuse.part.stackCount ≤ k ∧ ¬ c.wf s.fuse.part.stackCount = true) := by
  rcases exec_atItsStack c s with ⟨n, h⟩ | ⟨k, f, h, wf⟩
  · exact .inl ⟨_, h, rfl, rfl⟩
  · rcases onStack_cases s k f with ⟨_, e⟩ | ⟨absent, e⟩
    · exact .inl ⟨_, h.trans e, rfl, rfl⟩
    · exact .inr ⟨k, h.trans e, absent, fun w => absurd (wf w) (by omega)⟩

/-- Settles O58: an idle step is a period of the clock, and every command is one meaning of the part or of a stack. -/
theorem everyStepCompletesOrNamesAnAbsentStack : Obligations.EveryStepCompletesOrNamesAnAbsentStack := by
  intro s
  constructor
  · cases h : s.pending with
    | nil =>
      have idles : step s = .next (idle s) := by rw [step, h]
      rw [idles]
      exact ⟨rfl, h⟩
    | cons c rest =>
      have runs : step s = exec c { s with pending := rest } := by rw [step, h]
      rw [runs]
      rcases exec_cases c { s with pending := rest } with ⟨t, e, fuse, pending⟩ | ⟨k, e, absent, _⟩
      · rw [e]; exact ⟨fuse, pending⟩
      · rw [e]; exact ⟨k, rfl, absent⟩
  · intro c wf
    rcases exec_cases c s with ⟨t, e, -, -⟩ | ⟨_, _, _, bad⟩
    · exact ⟨t, e⟩
    · exact absurd wf bad

/-! ## A request completes: the registers outside of the mailboxes (R413) -/

/-- The place of a register of a mailbox. -/
def mbxPlace (p : Nat) : Bool := decide (0x521_0000 ≤ p / 64) && decide (p / 64 < 0x521_1000)

theorem mbxPlace_status (f : Fld) (hf : f.reg = Reg.MBX_STATUS) (hl : f.lo < 64) (i : Nat) : mbxPlace (f.key i) = true := by
  have h : f.key i / 64 = 0x521_0008 + i % 64 * 32 := by
    simp only [Fld.key, hf, RegDef.off, Reg.MBX_STATUS]; omega
  simp only [mbxPlace, h, Bool.and_eq_true, decide_eq_true_eq]
  omega

theorem Mach.getF_setF_status (m : Mach) (f g : Fld) (hf : f.reg = Reg.MBX_STATUS) (hl : f.lo < 64) (v s i j : Nat) (h : mbxPlace (g.key j) = false) :
    (m.setF 0 f v i).getF s g j = m.getF s g j :=
  Mach.getF_setF_key _ _ _ _ _ _ _ _ fun e => by rw [e, mbxPlace_status f hf hl] at h; cases h

/-- A request that completes changes no field outside the mailbox registers (R413). -/
theorem Mach.getF_complete (m : Mach) (r : MbxReq) (st : Nat) (p : List Byte) (s : Nat) (g : Fld) (j : Nat) (h : mbxPlace (g.key j) = false) :
    (m.complete r st p).getF s g j = m.getF s g j := by
  unfold Mach.complete
  show ((((_ : Mach).setF 0 Reg.MBX_STATUS_RESP_SEQ r.seq r.mbox).setF 0 Reg.MBX_STATUS_DONE 1 r.mbox).setF 0 Reg.MBX_STATUS_BUSY 0 r.mbox).getF s g j = _
  rw [Mach.getF_setF_status _ _ _ rfl (by decide) _ _ _ _ h, Mach.getF_setF_status _ _ _ rfl (by decide) _ _ _ _ h,
    Mach.getF_setF_status _ _ _ rfl (by decide) _ _ _ _ h]
  rfl

theorem Mach.getF_settleMbx (n k : Nat) (m : Mach) (s : Nat) (g : Fld) (j : Nat) (h : mbxPlace (g.key j) = false) :
    (m.settleMbx n k).getF s g j = m.getF s g j := by
  induction k generalizing m with
  | zero => rfl
  | succ k ih =>
    unfold Mach.settleMbx
    split
    · rfl
    · dsimp only
      split
      · rw [ih, Mach.getF_complete _ _ _ _ _ _ _ h]; rfl
      · rfl

theorem Mach.getF_popReq (n : Nat) (m : Mach) (s : Nat) (g : Fld) (j : Nat) (h : mbxPlace (g.key j) = false) :
    (m.popReq n).getF s g j = m.getF s g j := Mach.getF_settleMbx n _ _ s g j h

/-- A request that completes leaves every field outside the mailbox registers as the command's own effect left it. -/
theorem Completed.getF_eq {s t : State} {r : MbxReq} {st : Nat} {p : List Byte} {m : Mach} (c : Completed s t r st p m) (v : Nat) (g : Fld) (j : Nat)
    (h : mbxPlace (g.key j) = false) : t.m.getF v g j = m.getF v g j := by
  rw [c]
  exact (Mach.getF_popReq _ _ _ _ _ h).trans (Mach.getF_complete _ _ _ _ _ _ _ h)

/-! ## A source whose PENDING is out of its range (R434) -/

/-- A part in service, whose INTC_SRC_CFG.PENDING of source x holds 2: a value that the one-bit field cannot be given by a step, but that a state as plain
data can hold. -/
def pendingTwo (x : Nat) : State :=
  { m := { stackSet := ⟨{ csr := [(Reg.INTC_SRC_CFG_PENDING.key x, 2), (Reg.BUR_STATUS_SERVICE.key 0, 1)] }, {}, {}, {}⟩
           boot := { start := none } } }

/-- A SYNC_BIND of object 64 with threshold 0, vector 64, in mailbox 0 (Table BU-3): the count 0 satisfies it at once. -/
def bindRequested : State :=
  let s := pendingTwo 7
  { s with m := { s.m with host := { s.m.host with
    mbxQueue := [(0, 1)]
    bar2 := { data := [(0, 2), (1, 1), (2, 3), (3, 0x0A), (4, 1), (8, 16), (32, 0x40), (34, 0xFF), (35, 0xFF), (36, 0x40)] } } } }

def bindReq : MbxReq := bindRequested.m.request 1 0 1

/-- Refutes O45: where PENDING of source 4 holds 2, PCIE_LINK_TRAINED counts a merge and PENDING stays 2, though the statement has it read 1. -/
theorem not_plainRegistersReadsAndPins : ¬ Obligations.PlainRegistersReadsAndPins := by
  intro h
  obtain ⟨-, -, -, -, -, trained⟩ := h (pendingTwo 4) (by decide)
  obtain ⟨t, runs, -, raised⟩ := trained (by decide) 0 0 false
  have stays : t.m.getF 0 Reg.INTC_SRC_CFG_PENDING 4 = 2 := by
    injection runs with e; rw [← e]; decide +kernel
  rw [Raised, if_neg (by decide), stays] at raised
  exact absurd raised.1 (by decide)

/-- Refutes O51: where PENDING of source 7 holds 2, a SYNC_BIND that its count satisfies counts a merge and PENDING stays 2, though the statement has it
read 1. -/
theorem not_shoserSettingsStoresAndPower : ¬ Obligations.ShoserSettingsStoresAndPower := by
  intro h
  obtain ⟨-, -, -, -, bind, -⟩ := h bindRequested
  have served : Served bindRequested 0x0A03 bindReq := by decide +kernel
  obtain ⟨-, room⟩ := bind bindReq served (by decide +kernel) (by decide +kernel) (by decide +kernel) (by decide +kernel) (by decide +kernel)
    (by decide +kernel) (by decide +kernel)
  have unbound : (bindRequested.m.stk bindReq.stack).bureau.binds = [] := by decide +kernel
  obtain ⟨-, fires⟩ := room (by decide +kernel) (fun b m => by rw [unbound] at m; cases m)
  obtain ⟨t, runs, -, m, raised, -, done⟩ := fires (by decide +kernel)
  have stays : t.m.getF 0 Reg.INTC_SRC_CFG_PENDING 7 = 2 := by
    injection runs with e; rw [← e]; decide +kernel
  rw [Completed.getF_eq done 0 _ 7 (by decide)] at stays
  have stack : bindReq.stack = 0 := by decide +kernel
  rw [stack, Raised, if_neg (by decide)] at raised
  exact absurd (stays.symm.trans raised.1) (by decide)

end Sys2Proof.Machine
end

section
/-! SUPPORT. Fields set one after another, and what a host write through BAR0 or BAR2 leaves once its register's rule is known. -/

namespace Sys2Proof.Machine

/-! ## Fields set one after another -/

/-- The fields listed set to the values listed, in order. -/
def Mach.setFs (m : Mach) (fs : List FieldVal) : Mach := fs.foldl (fun m e => m.setF e.1 e.2.1 e.2.2.2 e.2.2.1) m

/-- Where the fields of a list are held. -/
abbrev placesOf (fs : List FieldVal) : List Nat := fs.map (fun e => e.2.1.key e.2.2.1)

theorem Mach.setFs_cons (m : Mach) (e : FieldVal) (fs : List FieldVal) : m.setFs (e :: fs) = (m.setF e.1 e.2.1 e.2.2.2 e.2.2.1).setFs fs := rfl

@[simp] theorem Mach.setFs_nil (m : Mach) : m.setFs [] = m := rfl

/-- A field that is not listed reads as before. -/
theorem Mach.getF_setFs_notListed (fs : List FieldVal) (m : Mach) {v : Nat} {f : Fld} {j : Nat} (h : NotListed fs v f j) :
    (m.setFs fs).getF v f j = m.getF v f j := by
  induction fs generalizing m with
  | nil => rfl
  | cons e r ih =>
    rw [Mach.setFs_cons, ih _ (fun x mem => h x (List.mem_cons_of_mem _ mem))]
    have first := h e List.mem_cons_self
    by_cases same : v = e.1
    · exact Mach.getF_setF_key _ _ _ _ _ _ _ _ fun k => first ⟨same.symm, k.symm⟩
    · exact Mach.getF_setF_stack _ _ _ _ _ _ same

/-- Fields at different places each read as the value given to them. -/
theorem Mach.getF_setFs_listed (fs : List FieldVal) (m : Mach) (different : (placesOf fs).Nodup) (within : ∀ e ∈ fs, e.1 < 4) (e : FieldVal) (mem : e ∈ fs) :
    (m.setFs fs).getF e.1 e.2.1 e.2.2.1 = e.2.2.2 % 2 ^ e.2.1.width := by
  induction fs generalizing m with
  | nil => cases mem
  | cons x r ih =>
    obtain ⟨fresh, rest⟩ := List.nodup_cons.mp different
    rw [Mach.setFs_cons]
    rcases List.mem_cons.mp mem with rfl | mem
    · rw [Mach.getF_setFs_notListed, Mach.getF_setF_same _ _ _ _ (within e List.mem_cons_self)]
      exact fun y my k => fresh (List.mem_map.mpr ⟨y, my, k.2⟩)
    · exact ih _ rest (fun y my => within y (List.mem_cons_of_mem _ my)) mem

theorem Mach.noRegs_setFs (fs : List FieldVal) (m : Mach) : (m.setFs fs).noRegs = m.noRegs := by
  induction fs generalizing m with
  | nil => rfl
  | cons e r ih => rw [Mach.setFs_cons, ih, Mach.noRegs_setF]

theorem Mach.bare_setFs (fs : List FieldVal) (m : Mach) : (m.setFs fs).bare = m.bare := by
  induction fs generalizing m with
  | nil => rfl
  | cons e r ih => rw [Mach.setFs_cons, ih, Mach.bare_setF]

theorem Mach.setFs_host (fs : List FieldVal) (m : Mach) : (m.setFs fs).host = m.host := by
  induction fs generalizing m with
  | nil => rfl
  | cons e r ih => rw [Mach.setFs_cons, ih, Mach.setF_host]

/-- The registers of n read as those of m. -/
abbrev SameFields (m n : Mach) : Prop := ∀ v f j, n.getF v f j = m.getF v f j

/-- Every register is as before but for the fields listed, and the rest of the machine is changed by g. -/
theorem Sets.of_setFs {s : State} {n : Mach} {fs : List FieldVal} {g : Mach → Mach} (rest : n.noRegs = g s.m.noRegs) (regs : SameFields (s.m.setFs fs) n)
    (different : (placesOf fs).Nodup) (within : ∀ e ∈ fs, e.1 < 4) : Sets s { s with m := n } fs g :=
  ⟨rfl, rfl, rest, fun e mem => (regs _ _ _).trans (Mach.getF_setFs_listed fs s.m different within e mem),
    fun _ _ _ h => (regs _ _ _).trans (Mach.getF_setFs_notListed fs s.m h)⟩

theorem Ends.of_setFs {s : State} {n : Mach} {fs : List FieldVal} {g : Mach → Mach} (rest : n.bare = g s.m.bare) (bar2 : n.host.bar2 = s.m.host.bar2)
    (regs : SameFields (s.m.setFs fs) n) (different : (placesOf fs).Nodup) (within : ∀ e ∈ fs, e.1 < 4) : Ends s { s with m := n } fs g :=
  ⟨rfl, rfl, rest, fun e mem => (regs _ _ _).trans (Mach.getF_setFs_listed fs s.m different within e mem), fun _ _ => by rw [bar2],
    fun _ _ _ _ h => (regs _ _ _).trans (Mach.getF_setFs_notListed fs s.m h)⟩

/-- A command that sets fields and nothing else. -/
theorem Ends.setFs (s : State) (fs : List FieldVal) (different : (placesOf fs).Nodup) (within : ∀ e ∈ fs, e.1 < 4) :
    Ends s { s with m := s.m.setFs fs } fs :=
  Ends.of_setFs (Mach.bare_setFs _ _) (by rw [Mach.setFs_host]) (fun _ _ _ => rfl) different within

theorem Ends.refl (s : State) : Ends s s [] := Ends.setFs s [] List.nodup_nil (fun _ h => by cases h)

/-- None of the fields listed lies where a report changes registers. -/
abbrev NoReport (fs : List FieldVal) : Prop := ∀ p ∈ placesOf fs, reportPlace p = false

/-- Reports after a command leave what it has done. -/
theorem Ends.reports {s : State} {m n : Mach} {fs : List FieldVal} {g : Mach → Mach} (e : Ends s { s with m := m } fs g) (r : Reports m n) (h : NoReport fs) :
    Ends s { s with m := n } fs g := by
  obtain ⟨-, -, rest, holds, low, regs⟩ := e
  exact ⟨rfl, rfl, r.bare.trans rest, fun x mem => (r.regs _ _ _ (h _ (List.mem_map_of_mem mem))).trans (holds x mem), fun a l => (r.low a l).trans (low a l),
    fun v f j p l => (r.regs v f j p).trans (regs v f j p l)⟩

/-- A machine that reports leave is changed by nothing else. -/
theorem Ends.of_reports {s : State} {n : Mach} (r : Reports s.m n) : Ends s { s with m := n } [] :=
  (Ends.refl s).reports r (fun _ h => by cases h)

/-! ## The change log -/

/-- An entry is the newest of its log. -/
theorem Mach.logChange_newest (m : Mach) {v : Nat} (e : ChangeEntry) (h : v < 4) :
    ∃ l, ((m.logChange v e).stk v).bureau.changeLog = { e with time := m.now v, serial := m.getF v Reg.LOG_NEXT_SERIAL 0 } :: l := by
  unfold Mach.logChange
  dsimp only
  refine ⟨(m.stk v).bureau.changeLog.take 16383, ?_⟩
  have kept : ∀ n : Mach, ((n.setF v Reg.LOG_NEXT_SERIAL (m.getF v Reg.LOG_NEXT_SERIAL 0 + 1) 0).stk v).bureau = (n.stk v).bureau := by
    intro n; rw [Mach.setF, Mach.stk_updStk_same _ _ h]
  rw [kept]
  split
  · rw [Mach.bumpF, Mach.setF, Mach.stk_updStk_same _ _ h, Mach.stk_updStk_same _ _ h]; rfl
  · rw [Mach.stk_updStk_same _ _ h]; rfl

theorem Logged.of_logHost (s : State) (m : Mach) {v : Nat} (o old new : Nat) (r : Bool) (h : v < 4) :
    Logged { s with m := m.logHost v o old new r } v o r := by
  obtain ⟨l, e⟩ := Mach.logChange_newest m ⟨0, 0, 1, r.toNat, 0xFF, v, 0, o, old, new⟩ h
  exact ⟨_, _, e, rfl, rfl, rfl⟩

/-! ## Host writes -/

/-- Host writes through BAR0 that a stack answers are performed at once, but for those of a core's block (R379, R525). -/
theorem bar0Reg_eq {s : State} {r : RegDef} (l : List Fld) {i : Nat} (w : RegW) (answers : Answers s (r.off i)) (notCore : 0x1_0000 ≤ r.base) :
    Mach.bar0Reg s.fuse s.m r l i w = Mach.hostWrite s.fuse s.m (s.m.bar0Stack (r.off i)) r l i w := by
  obtain ⟨opened, idle, near, here⟩ := answers
  have free : s.m.coreHeld (s.m.bar0Stack (r.off i)) r i = false := by
    simp only [Mach.coreHeld, decide_eq_false (Nat.not_lt.mpr notCore), Bool.false_and]
  simp [Mach.bar0Reg, Mach.bar0Store, opened, idle, near, here, free]

/-- A host write to region 0x8 ends as its rule does, with its entry in the change log (R427). -/
theorem hostWrite_ends {s : State} {v : Nat} {r : RegDef} {l : List Fld} {i : Nat} {w : RegW} {m : Mach} {refused : Bool} {fs : List FieldVal} {g : Mach → Mach}
    (rule : s.m.regWrite s.fuse.part.stackCount v r l i w = (m, refused)) (e : Ends s { s with m := m } fs g) (h : NoReport fs) (lt : v < 4) :
    Ends s { s with m := Mach.hostWrite s.fuse s.m v r l i w } fs g ∧
    Logged { s with m := Mach.hostWrite s.fuse s.m v r l i w } v (r.off i) refused := by
  unfold Mach.hostWrite
  dsimp only
  rw [rule]
  exact ⟨e.reports (Reports.logHost _ _ _ _ _ _) h, Logged.of_logHost _ _ _ _ _ _ lt⟩

/-- A register command lands where its rule ends, with its entry in the change log. -/
theorem bar0_lands {s : State} {c : Instr} {r : RegDef} {l : List Fld} {i : Nat} {w : RegW} {m : Mach} {refused : Bool} {fs : List FieldVal} {g : Mach → Mach}
    {v : Nat} (runs : exec c s = .next { s with m := Mach.bar0Reg s.fuse s.m r l i w }) (answers : Answers s (r.off i)) (notCore : 0x1_0000 ≤ r.base)
    (stack : s.m.bar0Stack (r.off i) = v) (lt : v < 4) (rule : s.m.regWrite s.fuse.part.stackCount v r l i w = (m, refused))
    (e : Ends s { s with m := m } fs g) (h : NoReport fs) : Lands c s (fun t => Ends s t fs g ∧ Logged t v (r.off i) refused) := by
  rw [bar0Reg_eq l w answers notCore, stack] at runs
  exact ⟨_, runs, hostWrite_ends rule e h lt⟩

end Sys2Proof.Machine
end

section
/-! SUPPORT. Frames: the registers and memories that the shared operations leave as they were. -/

namespace Sys2Proof.Machine

/-! ## Frames -/

/-- Every register field but those at a place of P reads as before. -/
def RegsKept (P : Nat → Bool) (m n : Mach) : Prop := ∀ v f j, P (f.key j) = false → n.getF v f j = m.getF v f j

/-- SRAM, tier and host memory are as before. -/
abbrev SameStores (m n : Mach) : Prop := n.mem = m.mem ∧ n.tier = m.tier ∧ n.hostMem = m.hostMem

/-- Registers at places of P may have changed, and what is neither register nor memory. -/
structure Frame (P : Nat → Bool) (m n : Mach) : Prop where
  regs   : RegsKept P m n
  stores : SameStores m n

namespace RegsKept
variable {P : Nat → Bool}

theorem refl (m : Mach) : RegsKept P m m := fun _ _ _ _ => rfl

theorem trans {m n p : Mach} (h : RegsKept P m n) (g : RegsKept P n p) : RegsKept P m p := fun v f j k => (g v f j k).trans (h v f j k)

theorem setF (m : Mach) (s : Nat) (f : Fld) (v i : Nat) (h : P (f.key i) = true) : RegsKept P m (m.setF s f v i) :=
  fun _ _ _ k => Mach.getF_setF_key _ _ _ _ _ _ _ _ fun e => by rw [e, h] at k; cases k

theorem bumpF (m : Mach) (s : Nat) (f : Fld) (i n : Nat) (h : P (f.key i) = true) : RegsKept P m (m.bumpF s f i n) := setF _ _ _ _ _ h

/-- A change of a stack that is none of its registers. -/
theorem updStk (m : Mach) (s : Nat) (f : Stack → Stack) (h : (f (m.stk s)).csr = (m.stk s).csr) : RegsKept P m (m.updStk s f) :=
  fun _ _ _ _ => Mach.getF_updStk _ _ _ _ _ _ h

theorem of_reports {m n : Mach} (h : ∀ p, reportPlace p = true → P p = true) (r : Reports m n) : RegsKept P m n :=
  fun v f j k => r.regs v f j (Bool.eq_false_iff.mpr fun t => by rw [h _ t] at k; cases k)

theorem mono {Q : Nat → Bool} {m n : Mach} (h : ∀ p, P p = true → Q p = true) (r : RegsKept P m n) : RegsKept Q m n :=
  fun v f j k => r v f j (Bool.eq_false_iff.mpr fun t => by rw [h _ t] at k; cases k)

theorem foldl {α : Type} (f : Mach → α → Mach) (l : List α) (h : ∀ m x, x ∈ l → RegsKept P m (f m x)) (m : Mach) : RegsKept P m (l.foldl f m) := by
  induction l generalizing m with
  | nil => exact refl m
  | cons x r ih => exact (h m x List.mem_cons_self).trans (ih (fun n y my => h n y (List.mem_cons_of_mem _ my)) _)

end RegsKept

theorem Reports.stores {m n : Mach} (r : Reports m n) : SameStores m n :=
  ⟨(congrArg Mach.mem r.bare :), (congrArg Mach.tier r.bare :), (congrArg Mach.hostMem r.bare :)⟩

namespace Frame
variable {P : Nat → Bool}

theorem refl (m : Mach) : Frame P m m := ⟨RegsKept.refl m, rfl, rfl, rfl⟩

theorem trans {m n p : Mach} (h : Frame P m n) (g : Frame P n p) : Frame P m p :=
  ⟨h.regs.trans g.regs, g.stores.1.trans h.stores.1, g.stores.2.1.trans h.stores.2.1, g.stores.2.2.trans h.stores.2.2⟩

theorem setF (m : Mach) (s : Nat) (f : Fld) (v i : Nat) (h : P (f.key i) = true) : Frame P m (m.setF s f v i) :=
  ⟨RegsKept.setF _ _ _ _ _ h, rfl, rfl, rfl⟩

theorem updStk (m : Mach) (s : Nat) (f : Stack → Stack) (h : (f (m.stk s)).csr = (m.stk s).csr) : Frame P m (m.updStk s f) :=
  ⟨RegsKept.updStk _ _ _ h, rfl, rfl, rfl⟩

theorem of_reports {m n : Mach} (h : ∀ p, reportPlace p = true → P p = true) (r : Reports m n) : Frame P m n :=
  ⟨RegsKept.of_reports h r, r.stores⟩

theorem foldl {α : Type} (f : Mach → α → Mach) (l : List α) (h : ∀ m x, x ∈ l → Frame P m (f m x)) (m : Mach) : Frame P m (l.foldl f m) := by
  induction l generalizing m with
  | nil => exact refl m
  | cons x r ih => exact (h m x List.mem_cons_self).trans (ih (fun n y my => h n y (List.mem_cons_of_mem _ my)) _)

/-- What is chosen between two machines is framed when both are. -/
theorem ite {m n p : Mach} (c : Prop) [Decidable c] (h : Frame P m n) (g : Frame P m p) : Frame P m (if c then n else p) := by
  split <;> assumption

end Frame

/-! ## Flits and messages on their way -/

section Sending
variable {P : Nat → Bool}

theorem Frame.updLinks (m : Mach) (s : Nat) (f : LinkSt → LinkSt) : Frame P m (m.updLinks s f) := Frame.updStk _ _ _ rfl
theorem Frame.updLnk (m : Mach) (s n : Nat) (f : Link → Link) : Frame P m (m.updLnk s n f) := Frame.updLinks _ _ _
theorem Frame.updPlan (m : Mach) (s : Nat) (f : PlanSt → PlanSt) : Frame P m (m.updPlan s f) := Frame.updStk _ _ _ rfl
theorem Frame.updCore (m : Mach) (s L : Nat) (f : Core → Core) : Frame P m (m.updCore s L f) := Frame.updStk _ _ _ rfl
theorem Frame.updGroup (m : Mach) (s L slot : Nat) (f : Group → Group) : Frame P m (m.updGroup s L slot f) := Frame.updCore _ _ _ _

theorem Frame.closeDead (m : Mach) (s n : Nat) : Frame P m (m.closeDead s n) := by
  unfold Mach.closeDead
  split
  · exact Frame.ite _ (Frame.refl m) (Frame.updLnk _ _ _ _)
  · exact Frame.refl m

/-- Flits put on a link, and sent as far as it sends them, change the state of links alone. -/
theorem Frame.pump (m : Mach) (s n : Nat) : Frame P m (m.pump s n) :=
  Frame.ite _ ((Frame.closeDead m s n).trans (Frame.updLnk _ _ _ _)) (Frame.refl m)

theorem Frame.linkPush (m : Mach) (s n : Nat) (fs : List OutFlit) : Frame P m (m.linkPush s n fs) := (Frame.updLnk m s n _).trans (Frame.pump _ _ _)

theorem Frame.sendEntry (m : Mach) (s r word kind : Nat) : Frame P m (m.sendEntry s r word kind) := Frame.linkPush _ _ _ _

theorem Frame.send (m : Mach) (x : Msg) : Frame P m (m.send x) := ⟨fun _ _ _ _ => rfl, rfl, rfl, rfl⟩

theorem Frame.sendSignal (m : Mach) (s h n f : Nat) : Frame P m (m.sendSignal s h n f) := by
  unfold Mach.sendSignal
  split
  · exact Frame.send _ _
  · split
    · exact Frame.sendEntry _ _ _ _ _
    · exact Frame.refl m

theorem Frame.signalRun (k : Nat) (m : Mach) (s h n f : Nat) : Frame P m (Mach.signalRun k m s h n f) := by
  induction k generalizing m n with
  | zero => exact Frame.refl m
  | succ k ih => exact Frame.ite _ (Frame.refl m) ((Frame.sendSignal m s h _ f).trans (ih _ _))

end Sending

/-! ## An update of a sync object (R64, R66) -/

/-- A place of the registers that an update of an object changes beside its own COUNT, FAILED and FAIL_CODE: those of reports, PHASE, and WAITERS. -/
def updatePlace (p : Nat) : Bool :=
  reportPlace p || decide (p / 64 = 0x520_0200) || (decide (0x440_0000 ≤ p / 64) && decide (p / 64 < 0x448_0000) && decide (p % 64 = 24))

theorem updatePlace_of_report (p : Nat) (h : reportPlace p = true) : updatePlace p = true := by simp [updatePlace, h]

theorem updatePlace_waiters (o : Nat) : updatePlace (Reg.SYNC_STATUS_WAITERS.key o) = true := by
  have place : Reg.SYNC_STATUS_WAITERS.key o = (0x440_0010 + o % 8192 * 64) * 64 + 24 := by
    simp only [Fld.key, RegDef.off, Reg.SYNC_STATUS_WAITERS, Reg.SYNC_STATUS]; omega
  simp only [updatePlace, place, Bool.or_eq_true, Bool.and_eq_true, decide_eq_true_eq]
  omega

theorem Frame.forward (m : Mach) (s o c n : Nat) : Frame updatePlace m (m.forward s o c n) := by
  have goes : ∀ (m : Mach) (t k a f : Nat), Frame updatePlace m (if t = 0xFFFF_FFFF then m else Mach.signalRun k m s t a f) :=
    fun m t k a f => Frame.ite _ (Frame.refl m) (Frame.signalRun _ _ _ _ _ _)
  exact (goes m _ _ _ _).trans (goes _ _ _ _ _)

theorem Frame.releaseWait (m : Mach) (s L slot o pd rd mask : Nat) : Frame updatePlace m (m.releaseWait s L slot o pd rd mask) :=
  (Frame.updCore m s L _).trans (Frame.updGroup _ _ _ _ _)

theorem Frame.releaseOne (m : Mach) (s o : Nat) (e : Nat × Nat × Group) : Frame updatePlace m (m.releaseOne s o e) := by
  unfold Mach.releaseOne
  split
  · exact Frame.ite _ (Frame.releaseWait _ _ _ _ _ _ _ _) (Frame.refl m)
  · split
    · exact Frame.ite _ (Frame.updGroup _ _ _ _ _) (Frame.refl m)
    · exact Frame.refl m
  · exact Frame.refl m

theorem Frame.syncWaiters (m : Mach) (s o : Nat) : Frame updatePlace m (m.syncWaiters s o) :=
  Frame.ite _ ((Frame.setF m s _ _ _ (updatePlace_waiters o)).trans (Frame.updPlan _ _ _)) (Frame.setF m s _ _ _ (updatePlace_waiters o))

theorem Frame.releaseWaiters (m : Mach) (s o : Nat) : Frame updatePlace m (m.releaseWaiters s o) :=
  (Frame.foldl _ _ (fun m e _ => Frame.releaseOne m s o e) m).trans (Frame.syncWaiters _ s o)

theorem Reports.foldl {α : Type} (f : Mach → α → Mach) (h : ∀ m x, Reports m (f m x)) (l : List α) (m : Mach) : Reports m (l.foldl f m) := by
  induction l generalizing m with
  | nil => exact Reports.refl m
  | cons x r ih => exact (h m x).trans (ih _)

theorem Frame.fireBinds (m : Mach) (s o : Nat) : Frame updatePlace m (m.fireBinds s o) :=
  (Frame.updStk m s _ rfl).trans (Frame.of_reports updatePlace_of_report
    (Reports.foldl _ (fun m (b : SyncBind) => (Reports.srcEdge m s 7).trans (Reports.sendVector _ b.vector)) _ _))

theorem Frame.releaseReached (m : Mach) (s o : Nat) : Frame updatePlace m (m.releaseReached s o) := by
  unfold Mach.releaseReached
  dsimp only
  split
  · exact Frame.ite _ (Frame.updPlan _ _ _) (Frame.refl m)
  · exact Frame.refl m

theorem Frame.phaseSettle (m : Mach) (s : Nat) : Frame updatePlace m (m.phaseSettle s) := by
  unfold Mach.phaseSettle
  dsimp only
  split
  · exact Frame.ite _ (((Frame.setF m s Reg.BUR_PLAN_STATE_PHASE _ 0 (by decide)).trans (Frame.updPlan _ _ _)).trans (Frame.updStk _ _ _ rfl)) (Frame.refl m)
  · exact Frame.refl m

/-- What one update of an object from 64 on does: COUNT, FAILED and FAIL_CODE are set, and then what hangs on the count follows. -/
theorem Mach.applySignals_cases (m : Mach) (s o : Nat) (l : List (Nat × Nat)) (h : 64 ≤ o) :
    let n := l.foldl (fun t e => t + e.1) 0
    let fs := (l.map (·.2)).filter (· ≠ 0)
    let code := fs.foldl (fun x f => if x = 0 then f else min x f) (m.getF s Reg.SYNC_STATUS_FAIL_CODE o)
    let m1 := m.setF s Reg.SYNC_COUNT_COUNT ((m.count s o + n) % 2 ^ 48) o
    let m2 := if fs = [] then m1 else (m1.setF s Reg.SYNC_STATUS_FAILED 1 o).setF s Reg.SYNC_STATUS_FAIL_CODE code o
    Frame updatePlace m2 (m.applySignals s o l) := by
  unfold Mach.applySignals
  rw [if_neg (by omega)]
  refine Frame.ite _ (Frame.refl _) ?_
  exact (((((Frame.updPlan _ _ _).trans (Frame.forward _ _ _ _ _)).trans (Frame.releaseWaiters _ _ _)).trans (Frame.fireBinds _ _ _)).trans
    (Frame.releaseReached _ _ _)).trans (Frame.phaseSettle _ _)

end Sys2Proof.Machine
end

section
/-! SUPPORT. Host writes of mailbox, sync object, stack selector, partition and Cabinet registers, each by its rule. -/

namespace Sys2Proof.Machine

/-! ## Places -/

/-- The offset of a field's register, from its place. -/
theorem Fld.key_div (f : Fld) (i : Nat) (h : f.lo < 64) : f.key i / 64 = f.reg.off i := by simp only [Fld.key]; omega

theorem reportPlace_eq_false {p : Nat} : reportPlace p = false ↔ (p / 64 < 0x4D0_0000 ∨ 0x4E0_0000 ≤ p / 64) ∧ p / 64 ≠ 0x521_1000 ∧ p / 64 ≠ 0x521_1010 ∧
    (p / 64 < 0x550_0000 ∨ 0x550_0020 ≤ p / 64) := by
  simp only [reportPlace, Bool.or_eq_false_iff, Bool.and_eq_false_iff, decide_eq_false_iff_not, beq_eq_false_iff_ne]
  omega

theorem reportPlace_of_mbxPlace {p : Nat} (h : mbxPlace p = true) : reportPlace p = false := by
  simp only [mbxPlace, Bool.and_eq_true, decide_eq_true_eq] at h
  rw [reportPlace_eq_false]
  omega

/-- Outside the HOST_ block, BAR0 shows the stack that HOST_STACK_SEL selects (R379). -/
theorem Mach.bar0Stack_eq (m : Mach) {o : Nat} (h : o < 0x4C0_0000 ∨ 0x4D0_0000 ≤ o) : m.bar0Stack o = m.getF 0 Reg.HOST_STACK_SEL_STACK := by
  rw [Mach.bar0Stack, if_neg (by omega)]

/-- A write of the whole register or of its low half covers the fields of the low half. -/
theorem covers_low {f : Fld} {h : RegHalf} (low : h ≠ .hi) (l : f.lo + f.width ≤ 32) : covers h f = true := by
  cases h with
  | lo => exact decide_eq_true l
  | hi => exact absurd rfl low
  | full => rfl

/-! ## The registers' rules -/

theorem Mach.regWrite_doorbell (m : Mach) (n s : Nat) (l : List Fld) (i : Nat) (w : RegW) : m.regWrite n s Reg.MBX_DOORBELL l i w = m.writeDoorbell i w := rfl
theorem Mach.regWrite_tail (m : Mach) (n s : Nat) (l : List Fld) (i : Nat) (w : RegW) : m.regWrite n s Reg.MBX_EVT_TAIL l i w = m.writeTail w := rfl
theorem Mach.regWrite_signal (m : Mach) (n s : Nat) (l : List Fld) (i : Nat) (w : RegW) : m.regWrite n s Reg.SYNC_SIGNAL l i w = m.writeSignal s i w := rfl
theorem Mach.regWrite_syncStatus (m : Mach) (n s : Nat) (l : List Fld) (i : Nat) (w : RegW) :
    m.regWrite n s Reg.SYNC_STATUS l i w = m.writeSyncStatus s i w := rfl
theorem Mach.regWrite_stackSel (m : Mach) (n s : Nat) (l : List Fld) (i : Nat) (w : RegW) : m.regWrite n s Reg.HOST_STACK_SEL l i w = m.writeStackSel n w := rfl
theorem Mach.regWrite_partCfg (m : Mach) (n s : Nat) (l : List Fld) (i : Nat) (w : RegW) : m.regWrite n s Reg.CDIE_PART_CFG l i w = m.writePartCfg s i w := rfl
theorem Mach.regWrite_poolCfg (m : Mach) (n s : Nat) (l : List Fld) (i : Nat) (w : RegW) : m.regWrite n s Reg.CAB_POOL_CFG l i w = m.writePoolCfg s i w := rfl
theorem Mach.regWrite_poolBase (m : Mach) (n s : Nat) (l : List Fld) (i : Nat) (w : RegW) : m.regWrite n s Reg.CAB_POOL_BASE l i w = m.writePoolBase s i w := rfl
theorem Mach.regWrite_lpCfg (m : Mach) (n s : Nat) (l : List Fld) (i : Nat) (w : RegW) : m.regWrite n s Reg.CAB_LP_CFG l i w = m.writeLpCfg s i w := rfl
theorem Mach.regWrite_lpBase (m : Mach) (n s : Nat) (l : List Fld) (i : Nat) (w : RegW) : m.regWrite n s Reg.CAB_LP_BASE l i w = m.writeLpBase s i w := rfl
theorem Mach.regWrite_classCfg (m : Mach) (n s : Nat) (l : List Fld) (i : Nat) (w : RegW) : m.regWrite n s Reg.CAB_CLASS_CFG l i w = m.writeClassCfg s i w := rfl

/-! ## BAR2 (R411, R412) -/

/-- A write through BAR2 that is taken has no entry in the change log. -/
theorem bar2Write_taken {fu : Fuse} {m n : Mach} {r : RegDef} {l : List Fld} {i : Nat} {w : RegW} (rule : m.regWrite fu.part.stackCount 0 r l i w = (n, false)) :
    Mach.bar2Write fu m r l i w = n := by
  simp [Mach.bar2Write, rule]

/-- One that is ignored has its entry. -/
theorem bar2Write_refused {fu : Fuse} {m n : Mach} {r : RegDef} {l : List Fld} {i : Nat} {w : RegW} (rule : m.regWrite fu.part.stackCount 0 r l i w = (n, true)) :
    Mach.bar2Write fu m r l i w = n.logHost 0 (r.off i) (Mach.regValue fu m 0 l i) (Mach.regValue fu n 0 l i) true := by
  simp [Mach.bar2Write, rule]

/-! ## MBX_DOORBELL (R412) -/

/-- Where MBX_STATUS reads BUSY, a doorbell is counted and no more. -/
theorem Mach.writeDoorbell_busy {m : Mach} {b : Nat} {w : RegW} (low : w.half ≠ .hi) (busy : m.getB 0 Reg.MBX_STATUS_BUSY b = true) :
    m.writeDoorbell b w = (m.bumpF 0 Reg.MBX_STATUS_REFUSED b, true) := by
  have c : covers w.half Reg.MBX_DOORBELL_SEQ = true := covers_low low (by decide)
  simp [Mach.writeDoorbell, c, busy]

/-- A request put last in the doorbell order. -/
def Mach.rung (m : Mach) (b : Nat) (w : RegW) : Mach := { m with host := { m.host with mbxQueue := m.host.mbxQueue ++ [(b, bits (regData w) 0 16)] } }

theorem Mach.writeDoorbell_free {m : Mach} {b : Nat} {w : RegW} (low : w.half ≠ .hi) (free : m.getB 0 Reg.MBX_STATUS_BUSY b = false) :
    m.writeDoorbell b w = ((m.rung b w).setF 0 Reg.MBX_STATUS_BUSY 1 b, false) := by
  have c : covers w.half Reg.MBX_DOORBELL_SEQ = true := covers_low low (by decide)
  simp [Mach.writeDoorbell, c, free]
  rfl

theorem doorbell_runs_bar2 {s : State} {b : Fin 64} {w : RegW} (opened : s.m.bar2Open = true) :
    exec (.mbxDoorbell ⟨b, w, true⟩) s = .next { s with m := Mach.bar2Write s.fuse s.m Reg.MBX_DOORBELL Reg.MBX_DOORBELL_fields b w } := by
  show onMach s (fun fu m => Mach.doorbell fu m b w true) = _
  simp [onMach, Mach.doorbell, opened]

theorem doorbell_runs_bar0 {s : State} {b : Fin 64} {w : RegW} (opened : s.m.bar2Open = true) (past : s.m.stageOneOver = true) :
    exec (.mbxDoorbell ⟨b, w, false⟩) s = .next { s with m := Mach.bar0Reg s.fuse s.m Reg.MBX_DOORBELL Reg.MBX_DOORBELL_fields b w } := by
  show onMach s (fun fu m => Mach.doorbell fu m b w false) = _
  simp [onMach, Mach.doorbell, opened, past]

theorem doorbell_stack (m : Mach) (b : Nat) : m.bar0Stack (Reg.MBX_DOORBELL.off b) = m.getF 0 Reg.HOST_STACK_SEL_STACK :=
  m.bar0Stack_eq (.inr (by simp only [RegDef.off, Reg.MBX_DOORBELL]; omega))

theorem mbxDoorbell_lands {s : State} (b : Fin 64) (w : RegW) (bar2 : Bool) (opened : s.m.bar2Open = true)
    (bar0 : bar2 = false → s.m.stageOneOver = true ∧ Answers s (Reg.MBX_DOORBELL.off b) ∧ s.m.getF 0 Reg.HOST_STACK_SEL_STACK = 0) (low : w.half ≠ .hi) :
    (s.m.getB 0 Reg.MBX_STATUS_BUSY b = false → Lands (.mbxDoorbell ⟨b, w, bar2⟩) s (fun t =>
      let fs := [(0, Reg.MBX_STATUS_BUSY, b.val, 1)]
      if bar2 then Sets s t fs (fun m => m.rung b w) else Ends s t fs (fun m => m.rung b w) ∧ Logged t 0 (Reg.MBX_DOORBELL.off b) false)) ∧
    (s.m.getB 0 Reg.MBX_STATUS_BUSY b = true → Lands (.mbxDoorbell ⟨b, w, bar2⟩) s (fun t =>
      Ends s t [up s 0 Reg.MBX_STATUS_REFUSED b] ∧ Logged t 0 (Reg.MBX_DOORBELL.off b) true)) := by
  have quiet : ∀ (f : Fld) (v : Nat), f.reg = Reg.MBX_STATUS → f.lo < 64 → NoReport [(0, f, b.val, v)] := fun f v hf hl p mem => by
    rw [List.mem_singleton.mp mem]; exact reportPlace_of_mbxPlace (mbxPlace_status f hf hl _)
  have within : ∀ (f : Fld) (v : Nat), ∀ e ∈ [((0, f, b.val, v) : FieldVal)], e.1 < 4 := fun f v e mem => by rw [List.mem_singleton.mp mem]; exact Nat.succ_pos 3
  constructor
  · intro free
    have rule : ∀ n v, s.m.regWrite n v Reg.MBX_DOORBELL Reg.MBX_DOORBELL_fields b w = ((s.m.rung b w).setF 0 Reg.MBX_STATUS_BUSY 1 b, false) :=
      fun _ _ => Mach.writeDoorbell_free low free
    cases bar2 with
    | true =>
      refine ⟨_, doorbell_runs_bar2 opened, ?_⟩
      rw [bar2Write_taken (rule _ _)]
      show Sets s { s with m := (s.m.rung b w).setF 0 Reg.MBX_STATUS_BUSY 1 b } [(0, Reg.MBX_STATUS_BUSY, b.val, 1)] (fun m => m.rung b w)
      exact Sets.of_setFs ((Mach.noRegs_setF _ _ _ _ _).trans rfl) (fun _ _ _ => rfl) (List.nodup_singleton _) (within _ _)
    | false =>
      obtain ⟨past, answers, sel⟩ := bar0 rfl
      have stack := (doorbell_stack s.m b).trans sel
      have ends : Ends s { s with m := (s.m.rung b w).setF 0 Reg.MBX_STATUS_BUSY 1 b } [(0, Reg.MBX_STATUS_BUSY, b.val, 1)] (fun m => m.rung b w) :=
        Ends.of_setFs ((Mach.bare_setF _ _ _ _ _).trans rfl) rfl (fun _ _ _ => rfl) (List.nodup_singleton _) (within _ _)
      exact bar0_lands (doorbell_runs_bar0 opened past) answers (by decide) stack (by decide) (rule _ _) ends (quiet _ _ rfl (by decide))
  · intro busy
    have rule : ∀ n v, s.m.regWrite n v Reg.MBX_DOORBELL Reg.MBX_DOORBELL_fields b w = (s.m.bumpF 0 Reg.MBX_STATUS_REFUSED b, true) :=
      fun _ _ => Mach.writeDoorbell_busy low busy
    have ends : Ends s { s with m := s.m.bumpF 0 Reg.MBX_STATUS_REFUSED b } [up s 0 Reg.MBX_STATUS_REFUSED b] :=
      Ends.setFs s [up s 0 Reg.MBX_STATUS_REFUSED b] (List.nodup_singleton _) (within _ _)
    cases bar2 with
    | true =>
      refine ⟨_, doorbell_runs_bar2 opened, ?_⟩
      rw [bar2Write_refused (rule _ _)]
      exact ⟨ends.reports (Reports.logHost _ _ _ _ _ _) (quiet _ _ rfl (by decide)), Logged.of_logHost _ _ _ _ _ _ (by decide)⟩
    | false =>
      obtain ⟨past, answers, sel⟩ := bar0 rfl
      have stack := (doorbell_stack s.m b).trans sel
      exact bar0_lands (doorbell_runs_bar0 opened past) answers (by decide) stack (by decide) (rule _ _) ends (quiet _ _ rfl (by decide))

end Sys2Proof.Machine
end

section
/-! SUPPORT. MBX_EVT_TAIL and SYNC_SIGNAL: the ring tail, and one update of a sync object with all that hangs on it (R63, R64, R511). -/

namespace Sys2Proof.Machine

/-- A place of none of the registers of reports, given its offset. -/
theorem reportPlace_key {f : Fld} {i : Nat} (h : f.lo < 64) (o : f.reg.off i < 0x4D0_0000 ∨ (0x4E0_0000 ≤ f.reg.off i ∧ f.reg.off i < 0x521_1000)) :
    reportPlace (f.key i) = false := by
  rw [reportPlace_eq_false, f.key_div i h]
  omega

theorem NoReport.singleton {e : FieldVal} (h : reportPlace (e.2.1.key e.2.2.1) = false) : NoReport [e] := fun p mem => by
  rw [List.mem_singleton.mp mem]; exact h

theorem within_singleton {e : FieldVal} (h : e.1 < 4) : ∀ x ∈ [e], x.1 < 4 := fun x mem => by
  rw [List.mem_singleton.mp mem]; exact h

/-! ## MBX_EVT_TAIL (R511) -/

/-- How far a write of v moves the ring's tail. -/
abbrev Mach.tailMove (m : Mach) (v : Nat) : Nat := (v + 2 ^ 32 - m.getF 0 Reg.MBX_EVT_TAIL_TAIL) % 2 ^ 32

theorem Mach.writeTail_taken {m : Mach} {w : RegW} (low : w.half ≠ .hi) (h : m.tailMove (bits (regData w) 0 32) ≤ m.ringUsed) :
    m.writeTail w = (Mach.drainEvents (m.host.evQueue.length + 1) (m.setF 0 Reg.MBX_EVT_TAIL_TAIL (bits (regData w) 0 32)), false) := by
  have c : covers w.half Reg.MBX_EVT_TAIL_TAIL = true := covers_low low (by decide)
  unfold Mach.writeTail
  exact if_pos (by rw [c, Bool.true_and, decide_eq_true_eq]; exact h)

theorem Mach.writeTail_past {m : Mach} {w : RegW} (h : m.ringUsed < m.tailMove (bits (regData w) 0 32)) : m.writeTail w = (m, true) := by
  unfold Mach.writeTail
  exact if_neg (by rw [Bool.and_eq_true, decide_eq_true_eq]; exact fun x => absurd (Nat.lt_of_lt_of_le h x.2) (Nat.lt_irrefl _))

theorem tail_runs_bar2 {s : State} {w : RegW} (opened : s.m.bar2Open = true) :
    exec (.mbxEvtTail ⟨w, true⟩) s = .next { s with m := Mach.bar2Write s.fuse s.m Reg.MBX_EVT_TAIL Reg.MBX_EVT_TAIL_fields 0 w } := by
  show onMach s (fun fu m => if m.bar2Open then Mach.bar2Write fu m Reg.MBX_EVT_TAIL Reg.MBX_EVT_TAIL_fields 0 w else m) = _
  simp [onMach, opened]

theorem tail_runs_bar0 (s : State) (w : RegW) :
    exec (.mbxEvtTail ⟨w, false⟩) s = .next { s with m := Mach.bar0Reg s.fuse s.m Reg.MBX_EVT_TAIL Reg.MBX_EVT_TAIL_fields 0 w } := rfl

theorem reportPlace_tail (v : Nat) : NoReport [(0, Reg.MBX_EVT_TAIL_TAIL, 0, v)] :=
  NoReport.singleton (show reportPlace (Reg.MBX_EVT_TAIL_TAIL.key 0) = false by decide)

theorem tail_ends {s : State} (v k : Nat) :
    Ends s { s with m := Mach.drainEvents k (s.m.setF 0 Reg.MBX_EVT_TAIL_TAIL v) } [(0, Reg.MBX_EVT_TAIL_TAIL, 0, v)] :=
  (Ends.setFs s [(0, Reg.MBX_EVT_TAIL_TAIL, 0, v)] (List.nodup_singleton _) (within_singleton (by exact Nat.succ_pos 3))).reports (Reports.drainEvents k _)
    (reportPlace_tail v)

theorem mbxEvtTail_lands {s : State} (w : RegW) (bar2 : Bool) (opened : bar2 = true → s.m.bar2Open = true)
    (bar0 : bar2 = false → Answers s Reg.MBX_EVT_TAIL.base ∧ s.m.getF 0 Reg.HOST_STACK_SEL_STACK = 0) (low : w.half ≠ .hi) :
    let v := bits (regData w) 0 32
    (s.m.tailMove v ≤ s.m.ringUsed → Lands (.mbxEvtTail ⟨w, bar2⟩) s (fun t =>
      Ends s t [(0, Reg.MBX_EVT_TAIL_TAIL, 0, v)] ∧ (bar2 = false → Logged t 0 Reg.MBX_EVT_TAIL.base false))) ∧
    (s.m.ringUsed < s.m.tailMove v → Lands (.mbxEvtTail ⟨w, bar2⟩) s (fun t => Ends s t [] ∧ Logged t 0 Reg.MBX_EVT_TAIL.base true)) := by
  intro v
  have stack : bar2 = false → s.m.bar0Stack (Reg.MBX_EVT_TAIL.off 0) = 0 := fun h => (s.m.bar0Stack_eq (.inr (by decide))).trans (bar0 h).2
  constructor
  · intro taken
    have rule := fun n u => (Mach.regWrite_tail s.m n u Reg.MBX_EVT_TAIL_fields 0 w).trans (Mach.writeTail_taken low taken)
    cases bar2 with
    | true =>
      refine ⟨_, tail_runs_bar2 (opened rfl), ?_, fun h => by cases h⟩
      rw [bar2Write_taken (rule _ _)]
      exact tail_ends _ _
    | false =>
      obtain ⟨t, runs, ends, logged⟩ := bar0_lands (tail_runs_bar0 s w) (bar0 rfl).1 (by decide) (stack rfl) (by decide) (rule _ _) (tail_ends _ _)
        (reportPlace_tail _)
      exact ⟨t, runs, ends, fun _ => logged⟩
  · intro past
    have rule := fun n u => (Mach.regWrite_tail s.m n u Reg.MBX_EVT_TAIL_fields 0 w).trans (Mach.writeTail_past past)
    cases bar2 with
    | true =>
      refine ⟨_, tail_runs_bar2 (opened rfl), ?_⟩
      rw [bar2Write_refused (rule _ _)]
      exact ⟨Ends.of_reports (Reports.logHost _ _ _ _ _ _), Logged.of_logHost _ _ _ _ _ _ (by decide)⟩
    | false =>
      exact bar0_lands (tail_runs_bar0 s w) (bar0 rfl).1 (by decide) (stack rfl) (by decide) (rule _ _) (Ends.refl s) (fun _ h => by cases h)

/-! ## SYNC_SIGNAL and SYNC_STATUS (R63, R67) -/

theorem Mach.writeSignal_eq {m : Mach} {u o : Nat} {w : RegW} (low : w.half ≠ .hi) (h : bits (regData w) 0 16 ≠ 0 ∨ bits (regData w) 16 16 ≠ 0) :
    m.writeSignal u o w = (m.applySignals u o [(bits (regData w) 0 16, bits (regData w) 16 16)], decide (o < 64)) := by
  unfold Mach.writeSignal
  exact if_neg (fun x => x.elim low (fun y => h.elim (absurd y.1) (absurd y.2)))

theorem syncSignal_stack (m : Mach) (o : Nat) : m.bar0Stack (Reg.SYNC_SIGNAL.off o) = m.getF 0 Reg.HOST_STACK_SEL_STACK :=
  m.bar0Stack_eq (.inl (by simp only [RegDef.off, Reg.SYNC_SIGNAL]; omega))

theorem syncSignal_lands_low {s : State} {u : Nat} (sel : s.m.getF 0 Reg.HOST_STACK_SEL_STACK = u) (lt : u < 4) (o : Fin 8192) (w : RegW) (low : w.half ≠ .hi)
    (answers : Answers s (Reg.SYNC_SIGNAL.off o)) (h : bits (regData w) 0 16 ≠ 0 ∨ bits (regData w) 16 16 ≠ 0) (firmware : o.val < 64) :
    Lands (.syncSignal ⟨o, w⟩) s (fun t => Ends s t [up s u Reg.SYNC_DROPPED_DROPPED]) := by
  have stack := (syncSignal_stack s.m o).trans sel
  have ends : Ends s { s with m := s.m.applySignals u o [(bits (regData w) 0 16, bits (regData w) 16 16)] } [up s u Reg.SYNC_DROPPED_DROPPED] := by
    rw [Mach.applySignals, if_pos firmware]
    exact Ends.setFs s [up s u Reg.SYNC_DROPPED_DROPPED] (List.nodup_singleton _) (within_singleton lt)
  have rule := fun n => (Mach.regWrite_signal s.m n u Reg.SYNC_SIGNAL_fields o w).trans (Mach.writeSignal_eq low h)
  have quiet : NoReport [up s u Reg.SYNC_DROPPED_DROPPED] := NoReport.singleton (show reportPlace (Reg.SYNC_DROPPED_DROPPED.key 0) = false by decide)
  obtain ⟨t, runs, e, -⟩ := bar0_lands (c := .syncSignal ⟨o, w⟩) rfl answers (by decide) stack lt (rule _) ends quiet
  exact ⟨t, runs, e⟩

theorem count_key (o : Nat) : Reg.SYNC_COUNT_COUNT.key o = (0x440_0000 + o % 8192 * 64) * 64 := by
  simp only [Fld.key, RegDef.off, Reg.SYNC_COUNT_COUNT, Reg.SYNC_COUNT]; omega

theorem syncStatus_key {f : Fld} (h : f.reg = Reg.SYNC_STATUS) (o : Nat) : f.key o = (0x440_0010 + o % 8192 * 64) * 64 + f.lo := by
  simp only [Fld.key, h, RegDef.off, Reg.SYNC_STATUS]; omega

theorem failed_key (o : Nat) : Reg.SYNC_STATUS_FAILED.key o = (0x440_0010 + o % 8192 * 64) * 64 + 16 := syncStatus_key rfl o
theorem failCode_key (o : Nat) : Reg.SYNC_STATUS_FAIL_CODE.key o = (0x440_0010 + o % 8192 * 64) * 64 + 0 := syncStatus_key rfl o

theorem updatePlace_count (x : Nat) : updatePlace (Reg.SYNC_COUNT_COUNT.key x) = false := by
  rw [count_key]
  simp only [updatePlace, Bool.or_eq_false_iff, Bool.and_eq_false_iff, decide_eq_false_iff_not, reportPlace_eq_false]
  omega

theorem updatePlace_failed (x : Nat) : updatePlace (Reg.SYNC_STATUS_FAILED.key x) = false := by
  rw [failed_key]
  simp only [updatePlace, Bool.or_eq_false_iff, Bool.and_eq_false_iff, decide_eq_false_iff_not, reportPlace_eq_false]
  omega

/-- The registers in which one update of an object sets COUNT, FAILED and FAIL_CODE. -/
def updateFields (m : Mach) (u o k f : Nat) : List FieldVal :=
  (u, Reg.SYNC_COUNT_COUNT, o, (m.count u o + k) % 2 ^ 48) ::
    if f = 0 then []
    else [(u, Reg.SYNC_STATUS_FAILED, o, 1), (u, Reg.SYNC_STATUS_FAIL_CODE, o,
      if m.getF u Reg.SYNC_STATUS_FAIL_CODE o = 0 then f else min (m.getF u Reg.SYNC_STATUS_FAIL_CODE o) f)]

/-- One signal at an object from 64 on: its fields are set, and then what hangs on the count follows. -/
theorem Mach.applySignals_one (m : Mach) (u o k f : Nat) (h : 64 ≤ o) : Frame updatePlace (m.setFs (updateFields m u o k f)) (m.applySignals u o [(k, f)]) := by
  have cases := Mach.applySignals_cases m u o [(k, f)] h
  simp only [List.foldl_cons, List.foldl_nil, Nat.zero_add, List.map_cons, List.map_nil] at cases
  unfold updateFields
  by_cases z : f = 0
  · simpa [z, Mach.setFs] using cases
  · simpa [z, Mach.setFs] using cases

theorem Mach.setFs_stores (fs : List FieldVal) (m : Mach) : SameStores m (m.setFs fs) := by
  induction fs generalizing m with
  | nil => exact ⟨rfl, rfl, rfl⟩
  | cons e r ih => exact ih _

theorem updateFields_different (m : Mach) (u o k f : Nat) : (placesOf (updateFields m u o k f)).Nodup := by
  unfold updateFields
  split
  · exact List.nodup_singleton _
  · simp only [placesOf, List.map_cons, List.map_nil, count_key, failed_key, failCode_key, List.nodup_cons, List.mem_cons, List.not_mem_nil, or_false, not_false_eq_true,
      List.nodup_nil, and_true]
    omega

theorem updateFields_stack {m : Mach} {u o k f : Nat} : ∀ e ∈ updateFields m u o k f, e.1 = u := by
  intro e mem
  unfold updateFields at mem
  split at mem
  · rw [List.mem_singleton.mp mem]
  · simp only [List.mem_cons, List.not_mem_nil, or_false] at mem
    rcases mem with rfl | rfl | rfl <;> rfl

/-- What one signal at an object from 64 on leaves: its count and failure, the other counts, and the memories. -/
theorem Mach.applySignals_spec (m : Mach) {u o : Nat} (k f : Nat) (lt : u < 4) (h : 64 ≤ o) (bound : o < 8192) : let n := m.applySignals u o [(k, f)]
    SameStores m n ∧ n.count u o = (m.count u o + k) % 2 ^ 48 ∧ (f ≠ 0 → n.getB u Reg.SYNC_STATUS_FAILED o = true) ∧
    ∀ x, x < 8192 → x ≠ o → n.count u x = m.count u x := by
  obtain ⟨regs, stores⟩ := Mach.applySignals_one m u o k f h
  have set := Mach.getF_setFs_listed _ m (updateFields_different m u o k f) (fun e mem => (updateFields_stack e mem).symm ▸ lt)
  refine ⟨?_, ?_, ?_, ?_⟩
  · obtain ⟨a, b, c⟩ := Mach.setFs_stores (updateFields m u o k f) m
    exact ⟨stores.1.trans a, stores.2.1.trans b, stores.2.2.trans c⟩
  · rw [Mach.count, regs _ _ _ (updatePlace_count o), set (u, Reg.SYNC_COUNT_COUNT, o, (m.count u o + k) % 2 ^ 48) List.mem_cons_self]
    exact Nat.mod_mod _ _
  · intro fails
    rw [Mach.getB, regs _ _ _ (updatePlace_failed o), set (u, Reg.SYNC_STATUS_FAILED, o, 1) (by simp [updateFields, fails])]
    exact decide_eq_true (by decide : 1 % 2 ^ 1 ≠ 0)
  · intro x lx ne
    rw [Mach.count, regs _ _ _ (updatePlace_count x), Mach.getF_setFs_notListed]
    · rfl
    · intro e mem same
      unfold updateFields at mem
      have place := same.2
      rw [count_key x] at place
      rcases List.mem_cons.mp mem with rfl | mem
      · dsimp only at place; rw [count_key] at place; omega
      · split at mem
        · cases mem
        · simp only [List.mem_cons, List.not_mem_nil, or_false] at mem
          rcases mem with rfl | rfl
          · dsimp only at place; rw [failed_key] at place; omega
          · dsimp only at place; rw [failCode_key] at place; omega

end Sys2Proof.Machine
end

section
/-! SUPPORT. SYNC_STATUS, HOST_STACK_SEL, CDIE_PART_CFG and the request buffer, each written by its rule (R67, R281, R412). -/

namespace Sys2Proof.Machine

theorem syncSignal_lands {s : State} {u : Nat} (sel : s.m.getF 0 Reg.HOST_STACK_SEL_STACK = u) (lt : u < 4) (o : Fin 8192) (w : RegW) (low : w.half ≠ .hi)
    (answers : Answers s (Reg.SYNC_SIGNAL.off o)) (h : bits (regData w) 0 16 ≠ 0 ∨ bits (regData w) 16 16 ≠ 0) (host : 64 ≤ o.val) :
    Lands (.syncSignal ⟨o, w⟩) s (fun t => t.fuse = s.fuse ∧ t.pending = s.pending ∧ t.m.mem = s.m.mem ∧ t.m.tier = s.m.tier ∧ t.m.hostMem = s.m.hostMem ∧
      t.m.count u o = (s.m.count u o + bits (regData w) 0 16) % 2 ^ 48 ∧ (bits (regData w) 16 16 ≠ 0 → t.m.getB u Reg.SYNC_STATUS_FAILED o = true) ∧
      ∀ x, x < 8192 → x ≠ o.val → t.m.count u x = s.m.count u x) := by
  have stack := (syncSignal_stack s.m o).trans sel
  have rule := (Mach.regWrite_signal s.m s.fuse.part.stackCount u Reg.SYNC_SIGNAL_fields o w).trans (Mach.writeSignal_eq low h)
  have runs : exec (.syncSignal ⟨o, w⟩) s = .next { s with m := Mach.bar0Reg s.fuse s.m Reg.SYNC_SIGNAL Reg.SYNC_SIGNAL_fields o w } := rfl
  rw [bar0Reg_eq Reg.SYNC_SIGNAL_fields w answers (by decide), stack] at runs
  refine ⟨_, runs, rfl, rfl, ?_⟩
  unfold Mach.hostWrite
  dsimp only
  rw [rule]
  obtain ⟨stores, count, failed, others⟩ := Mach.applySignals_spec s.m (bits (regData w) 0 16) (bits (regData w) 16 16) lt host o.isLt
  generalize s.m.applySignals u o [(bits (regData w) 0 16, bits (regData w) 16 16)] = n at stores count failed others
  have logged := fun old new r => Reports.logHost n u (Reg.SYNC_SIGNAL.off o) old new r
  have kept : ∀ old new r x, (n.logHost u (Reg.SYNC_SIGNAL.off o) old new r).count u x = n.count u x :=
    fun old new r x => RegsKept.of_reports updatePlace_of_report (logged old new r) _ _ _ (updatePlace_count x)
  have same := fun old new r => (logged old new r).stores
  refine ⟨(same _ _ _).1.trans stores.1, (same _ _ _).2.1.trans stores.2.1, (same _ _ _).2.2.trans stores.2.2, (kept _ _ _ _).trans count, ?_, ?_⟩
  · intro fails
    rw [Mach.getB, RegsKept.of_reports updatePlace_of_report (logged _ _ _) _ _ _ (updatePlace_failed o)]
    exact failed fails
  · exact fun x lx ne => (kept _ _ _ _).trans (others x lx ne)

/-- What a clear of STALLED sets: the flag, and one object less among those stalled when it was set. -/
def clearedStall (m : Mach) (u o : Nat) : List FieldVal :=
  [(u, Reg.SYNC_STATUS_STALLED, o, 0),
   (u, Reg.SYNC_DROPPED_STALLED_OBJECTS, 0, m.getF u Reg.SYNC_DROPPED_STALLED_OBJECTS - (m.getB u Reg.SYNC_STATUS_STALLED o).toNat)]

theorem Mach.bare_updPlan (m : Mach) (u : Nat) (f : PlanSt → PlanSt) : (m.updPlan u f).bare = m.bare.updPlan u f := by
  match u with
  | 0 | 1 | 2 | 3 | _ + 4 => rfl

theorem Mach.bare_updCache (m : Mach) (u : Nat) (f : CacheSt → CacheSt) : (m.updCache u f).bare = m.bare.updCache u f := by
  match u with
  | 0 | 1 | 2 | 3 | _ + 4 => rfl

theorem syncStatus_lands {s : State} {u : Nat} (sel : s.m.getF 0 Reg.HOST_STACK_SEL_STACK = u) (lt : u < 4) (o : Fin 8192) (w : RegW)
    (answers : Answers s (Reg.SYNC_STATUS.off o)) :
    (Reg.SYNC_STATUS_STALLED.hit w = true → Lands (.syncStatus ⟨o, w⟩) s (fun t => Ends s t (clearedStall s.m u o)
      (fun m => m.updPlan u (fun p => { p with stallDone := p.stallDone.filter (· ≠ o.val) })) ∧ Logged t u (Reg.SYNC_STATUS.off o) false)) ∧
    (Reg.SYNC_STATUS_STALLED.hit w = false → Lands (.syncStatus ⟨o, w⟩) s (fun t => Ends s t [] ∧ Logged t u (Reg.SYNC_STATUS.off o) true)) := by
  have stack : s.m.bar0Stack (Reg.SYNC_STATUS.off o) = u :=
    (s.m.bar0Stack_eq (.inl (by simp only [RegDef.off, Reg.SYNC_STATUS]; omega))).trans sel
  have runs : exec (.syncStatus ⟨o, w⟩) s = .next { s with m := Mach.bar0Reg s.fuse s.m Reg.SYNC_STATUS Reg.SYNC_STATUS_fields o w } := rfl
  have stalled : Reg.SYNC_STATUS_STALLED.key o = (0x440_0010 + o % 8192 * 64) * 64 + 17 := syncStatus_key rfl o
  have objects : Reg.SYNC_DROPPED_STALLED_OBJECTS.key 0 = 0x448_0000 * 64 + 32 := rfl
  constructor
  · intro hit
    have rule : s.m.regWrite s.fuse.part.stackCount u Reg.SYNC_STATUS Reg.SYNC_STATUS_fields o w =
        ((s.m.setFs (clearedStall s.m u o)).updPlan u (fun p => { p with stallDone := p.stallDone.filter (· ≠ o.val) }), false) := by
      rw [Mach.regWrite_syncStatus, Mach.writeSyncStatus, if_pos hit]; rfl
    have ends : Ends s { s with m := (s.m.setFs (clearedStall s.m u o)).updPlan u (fun p => { p with stallDone := p.stallDone.filter (· ≠ o.val) }) }
        (clearedStall s.m u o) (fun m => m.updPlan u (fun p => { p with stallDone := p.stallDone.filter (· ≠ o.val) })) := by
      refine Ends.of_setFs ?_ ?_ (fun _ _ _ => Mach.getF_updPlan _ _ _ _ _ _) ?_ ?_
      · rw [Mach.bare_updPlan, Mach.bare_setFs]
      · rw [Mach.updPlan_host, Mach.setFs_host]
      · simp only [placesOf, clearedStall, List.map_cons, List.map_nil, stalled, objects, List.nodup_cons, List.mem_singleton, List.not_mem_nil,
          not_false_eq_true, List.nodup_nil, and_true]
        omega
      · exact List.forall_mem_cons.mpr ⟨lt, within_singleton lt⟩
    refine bar0_lands runs answers (by decide) stack lt rule ends (List.forall_mem_cons.mpr ⟨?_, List.forall_mem_singleton.mpr ?_⟩)
    · show reportPlace (Reg.SYNC_STATUS_STALLED.key o) = false
      rw [stalled, reportPlace_eq_false]; omega
    · show reportPlace (Reg.SYNC_DROPPED_STALLED_OBJECTS.key 0) = false
      decide
  · intro miss
    have rule : s.m.regWrite s.fuse.part.stackCount u Reg.SYNC_STATUS Reg.SYNC_STATUS_fields o w = (s.m, true) := by
      rw [Mach.regWrite_syncStatus, Mach.writeSyncStatus, if_neg (by rw [miss]; decide)]
    exact bar0_lands runs answers (by decide) stack lt rule (Ends.refl s) (fun _ h => by cases h)

/-! ## HOST_STACK_SEL (R379) -/

theorem hostStackSel_lands {s : State} (w : RegW) (low : w.half ≠ .hi) (answers : Answers s Reg.HOST_STACK_SEL.base) :
    let v := bits (regData w) 0 2
    Lands (.hostStackSel w) s (fun t => Ends s t (if v < s.fuse.part.stackCount then [(0, Reg.HOST_STACK_SEL_STACK, 0, v)] else []) ∧
      Logged t 0 Reg.HOST_STACK_SEL.base (decide (s.fuse.part.stackCount ≤ v))) := by
  intro v
  have runs : exec (.hostStackSel w) s = .next { s with m := Mach.bar0Reg s.fuse s.m Reg.HOST_STACK_SEL Reg.HOST_STACK_SEL_fields 0 w } := rfl
  have stack : s.m.bar0Stack (Reg.HOST_STACK_SEL.off 0) = 0 := by rw [Mach.bar0Stack, if_pos (by decide)]
  have quiet : NoReport [(0, Reg.HOST_STACK_SEL_STACK, 0, v)] := NoReport.singleton (show reportPlace (Reg.HOST_STACK_SEL_STACK.key 0) = false by decide)
  by_cases h : v < s.fuse.part.stackCount
  · rw [if_pos h, decide_eq_false (Nat.not_le.mpr h)]
    have rule : s.m.regWrite s.fuse.part.stackCount 0 Reg.HOST_STACK_SEL Reg.HOST_STACK_SEL_fields 0 w = (s.m.setFs [(0, Reg.HOST_STACK_SEL_STACK, 0, v)], false) := by
      rw [Mach.regWrite_stackSel, Mach.writeStackSel, if_neg (fun x => x.elim low (Nat.not_le.mpr h))]; rfl
    exact bar0_lands runs answers (by decide) stack (by decide) rule (Ends.setFs s _ (List.nodup_singleton _) (within_singleton (by exact Nat.succ_pos 3))) quiet
  · rw [if_neg h, decide_eq_true (Nat.not_lt.mp h)]
    have rule : s.m.regWrite s.fuse.part.stackCount 0 Reg.HOST_STACK_SEL Reg.HOST_STACK_SEL_fields 0 w = (s.m, true) := by
      rw [Mach.regWrite_stackSel, Mach.writeStackSel, if_pos (.inr (Nat.not_lt.mp h))]
    exact bar0_lands runs answers (by decide) stack (by decide) rule (Ends.refl s) (fun _ h => by cases h)

/-! ## CDIE_PART_CFG (R281) -/

/-- The fields that an accepted change of the cache partition sets. -/
def partFields (u cw ce : Nat) : List FieldVal :=
  [(u, Reg.CDIE_PART_CFG_CACHE, 0, cw), (u, Reg.CDIE_PART_CFG_CACHE, 1, ce), (u, Reg.CDIE_PART_STATUS_BUSY, 0, 1), (u, Reg.CDIE_PART_STATUS_BUSY, 1, 1)]

theorem partStart_ends {s : State} {u : Nat} (cw ce : Nat) (lt : u < 4) :
    Ends s { s with m := s.m.partStart u cw ce } (partFields u cw ce) (fun m => m.updCache u (fun k => { k with change := some (cw, ce) })) := by
  refine Ends.of_setFs ((Mach.bare_updCache _ _ _).trans (congrArg (fun n : Mach => n.updCache u _) (Mach.bare_setFs (partFields u cw ce) s.m))) rfl
    (fun _ _ _ => Mach.getF_updCache _ _ _ _ _ _) ?_ ?_
  · show [Reg.CDIE_PART_CFG_CACHE.key 0, Reg.CDIE_PART_CFG_CACHE.key 1, Reg.CDIE_PART_STATUS_BUSY.key 0, Reg.CDIE_PART_STATUS_BUSY.key 1].Nodup
    decide
  · intro e mem
    simp only [partFields, List.mem_cons, List.not_mem_nil, or_false] at mem
    rcases mem with rfl | rfl | rfl | rfl <;> exact lt

theorem partFields_noReport (u cw ce : Nat) : NoReport (partFields u cw ce) := by
  show ∀ p ∈ [Reg.CDIE_PART_CFG_CACHE.key 0, Reg.CDIE_PART_CFG_CACHE.key 1, Reg.CDIE_PART_STATUS_BUSY.key 0, Reg.CDIE_PART_STATUS_BUSY.key 1], reportPlace p = false
  decide

theorem cdiePartCfg_lands {s : State} {u : Nat} (sel : s.m.getF 0 Reg.HOST_STACK_SEL_STACK = u) (lt : u < 4) (h : Fin 2) (w : RegW) (low : w.half ≠ .hi)
    (answers : Answers s (Reg.CDIE_PART_CFG.off h)) :
    let v := bits (regData w) 0 4
    let o := s.m.getF u Reg.CDIE_PART_CFG_CACHE (1 - h.val)
    let cw := if h.val = 0 then v else o
    let ce := if h.val = 0 then o else v
    (s.m.partOk u cw ce = true → Lands (.cdiePartCfg ⟨h, w⟩) s (fun t =>
      Ends s t (partFields u cw ce) (fun m => m.updCache u (fun k => { k with change := some (cw, ce) })))) ∧
    (s.m.partOk u cw ce = false → Lands (.cdiePartCfg ⟨h, w⟩) s (fun t =>
      Ends s t [(u, Reg.CDIE_PART_STATUS_REFUSED, h.val, 1)] ∧ Logged t u (Reg.CDIE_PART_CFG.off h) true)) := by
  intro v o cw ce
  have stack : s.m.bar0Stack (Reg.CDIE_PART_CFG.off h) = u :=
    (s.m.bar0Stack_eq (.inl (by simp only [RegDef.off, Reg.CDIE_PART_CFG]; omega))).trans sel
  have runs : exec (.cdiePartCfg ⟨h, w⟩) s = .next { s with m := Mach.bar0Reg s.fuse s.m Reg.CDIE_PART_CFG Reg.CDIE_PART_CFG_fields h w } := rfl
  have c : covers w.half Reg.CDIE_PART_CFG_CACHE = true := covers_low low (by decide)
  have rule : s.m.regWrite s.fuse.part.stackCount u Reg.CDIE_PART_CFG Reg.CDIE_PART_CFG_fields h w =
      if s.m.partOk u cw ce then (s.m.partStart u cw ce, false) else (s.m.setF u Reg.CDIE_PART_STATUS_REFUSED 1 h, true) := by
    rw [Mach.regWrite_partCfg, Mach.writePartCfg, c]; rfl
  constructor
  · intro ok
    rw [if_pos ok] at rule
    obtain ⟨t, r, e, -⟩ := bar0_lands runs answers (by decide) stack lt rule (partStart_ends cw ce lt) (partFields_noReport u cw ce)
    exact ⟨t, r, e⟩
  · intro no
    rw [if_neg (by rw [no]; decide)] at rule
    have quiet : ∀ x : Fin 2, reportPlace (Reg.CDIE_PART_STATUS_REFUSED.key x) = false := by decide
    exact bar0_lands runs answers (by decide) stack lt rule
      (Ends.setFs s [(u, Reg.CDIE_PART_STATUS_REFUSED, h.val, 1)] (List.nodup_singleton _) (within_singleton lt)) (NoReport.singleton (quiet h))

/-! ## REQUEST_BUFFER_WRITE (R412) -/

theorem requestBufferWrite_lands {s : State} (b : Fin 64) (o : Fin 4096) (d : List Byte) (opened : s.m.bar2Open = true) (fits : o.val + d.length ≤ 4096) :
    (s.m.host.mbxQueue.any (fun q => q.1 = b.val) = true →
      Lands (.requestBufferWrite ⟨b, o, d, false⟩) s (fun t => Sets s t [up s 0 Reg.MBX_STATUS_REFUSED b])) ∧
    (s.m.host.mbxQueue.any (fun q => q.1 = b.val) = false → s.m.host.bar2.wf = true → Lands (.requestBufferWrite ⟨b, o, d, false⟩) s (fun t =>
      t = { s with m := { s.m with host := { s.m.host with bar2 := t.m.host.bar2 } } } ∧
      ∀ a, t.m.host.bar2.byte a = if requestBuf b + o.val ≤ a ∧ a < requestBuf b + o.val + d.length then d.getD (a - (requestBuf b + o.val)) 0
        else s.m.host.bar2.byte a)) := by
  have runs : exec (.requestBufferWrite ⟨b, o, d, false⟩) s = .next { s with m := s.m.requestWrite b o d false } := rfl
  have whole : d.take (4096 - o.val) = d := List.take_of_length_le (by omega)
  constructor
  · intro waits
    have eq : s.m.requestWrite b o d false = s.m.bumpF 0 Reg.MBX_STATUS_REFUSED b := by simp [Mach.requestWrite, opened, waits]
    refine ⟨_, runs, ?_⟩
    rw [eq]
    exact Sets.of_setFs (fs := [up s 0 Reg.MBX_STATUS_REFUSED b]) (Mach.noRegs_bumpF _ _ _ _ _) (fun _ _ _ => rfl) (List.nodup_singleton _)
      (within_singleton (by exact Nat.succ_pos 3))
  · intro free wf
    have eq : s.m.requestWrite b o d false = { s.m with host := { s.m.host with bar2 := s.m.host.bar2.writeBytes (requestBuf b + o) d } } := by
      simp [Mach.requestWrite, opened, free, whole]
    refine ⟨_, runs, ?_, ?_⟩
    · rw [eq]
    · rw [eq]
      exact fun a => Mem.byte_writeBytes _ _ _ _ wf

end Sys2Proof.Machine
end

section
/-! SUPPORT. What a configuration of a Cabinet sets of its registers, and when it may (R12, R231 to R233). -/

namespace Sys2Proof.Machine

/-! ## Cabinet registers (R12, R231 to R233) -/

/-- What a report leaves of a stack: all but its registers, and the logs and latches of its Bureau. -/
theorem Reports.stk_eq {m n : Mach} (r : Reports m n) (v : Nat) :
    { n.stk v with csr := [], bureau := { (n.stk v).bureau with changeLog := [], errLog := [], latches := [] } } =
    { m.stk v with csr := [], bureau := { (m.stk v).bureau with changeLog := [], errLog := [], latches := [] } } := by
  have cleared : ∀ k : Mach, k.bare.stk v = { k.stk v with csr := [], bureau := { (k.stk v).bureau with changeLog := [], errLog := [], latches := [] } } := by
    intro k
    match v with
    | 0 | 1 | 2 | 3 | _ + 4 => rfl
  rw [← cleared, ← cleared, r.bare]

theorem Reports.cab_eq {m n : Mach} (r : Reports m n) (v c : Nat) : n.cab v c = m.cab v c :=
  (congrArg (fun k : Stack => k.cabs.get {} c) (r.stk_eq v) :)

theorem Mach.setFs_append (m : Mach) (fs gs : List FieldVal) : m.setFs (fs ++ gs) = (m.setFs fs).setFs gs := List.foldl_append

theorem Mach.cab_setFs (fs : List FieldVal) (m : Mach) (v c : Nat) : (m.setFs fs).cab v c = m.cab v c := by
  induction fs generalizing m with
  | nil => rfl
  | cons e r ih =>
    rw [Mach.setFs_cons, ih, Mach.cab, Mach.setF]
    by_cases same : v = e.1
    · subst same
      by_cases lt : e.1 < 4
      · rw [Mach.stk_updStk_same _ _ lt]; rfl
      · obtain ⟨n, h⟩ : ∃ n, e.1 = n + 4 := ⟨e.1 - 4, by omega⟩
        rw [h]; rfl
    · rw [Mach.stk_updStk_ne _ _ same]; rfl

theorem Mach.syncCab_eq (m : Mach) (u c : Nat) : m.syncCab u c = m.setFs (cabFields m u c) := rfl

theorem Mach.setPool_eq (m : Mach) (u c : Nat) (p : PoolSet) :
    m.setPool u c p = m.setFs (poolFields u c p ++ cabFields (m.setFs (poolFields u c p)) u c) := by
  rw [Mach.setFs_append, ← Mach.syncCab_eq]; rfl

/-- The counts of a Cabinet's status follow its pages and its configuration, whatever else changes. -/
theorem cabFields_congr {m n : Mach} {u c : Nat} (cab : n.cab u c = m.cab u c) (frames : n.frames u c = m.frames u c) (blocks : n.mapBlocks u c = m.mapBlocks u c)
    (slots : n.chestSlots u c = m.chestSlots u c) : cabFields n u c = cabFields m u c := by
  simp only [cabFields, cab, frames, blocks, slots]

/-- The places of the registers that a configuration of Cabinet c sets. -/
def poolPlaces (c : Nat) : List Nat :=
  [Reg.CAB_POOL_CFG_FRAMES, Reg.CAB_POOL_CFG_MAP_BLOCKS, Reg.CAB_POOL_CFG_INTAKE, Reg.CAB_POOL_BASE_BASE, Reg.CAB_LP_CFG_CHEST_SLOTS, Reg.CAB_LP_CFG_CHEST_EN,
   Reg.CAB_LP_BASE_BASE, Reg.CAB_CLASS_CFG_SPILL, Reg.CAB_CLASS_CFG_DROP, Reg.CAB_STATUS_FREE_FRAMES, Reg.CAB_STATUS_SPARES, Reg.CAB_STATUS_CHEST_FREE,
   Reg.CAB_STATUS_MAP_FREE, Reg.CAB_ORDER_QUEUED].map (fun f => f.key c)

theorem placesOf_pool (m : Mach) (u c : Nat) (p : PoolSet) : placesOf (poolFields u c p ++ cabFields m u c) = poolPlaces c := rfl

theorem poolPlaces_different : ∀ c : Fin 2, (poolPlaces c).Nodup := by decide
theorem poolPlaces_noReport : ∀ c : Fin 2, ∀ p ∈ poolPlaces c, reportPlace p = false := by decide

theorem poolFields_stack (m : Mach) {u : Nat} (lt : u < 4) (c : Nat) (p : PoolSet) : ∀ e ∈ poolFields u c p ++ cabFields m u c, e.1 < 4 := by
  intro e mem
  simp only [poolFields, cabFields, List.cons_append, List.nil_append, List.mem_cons, List.not_mem_nil, or_false] at mem
  rcases mem with rfl | rfl | rfl | rfl | rfl | rfl | rfl | rfl | rfl | rfl | rfl | rfl | rfl | rfl <;> exact lt

/-- The status fields after a configuration are those of the configured machine, also once it has reported. -/
theorem cabFields_after {m n : Mach} (u : Nat) (c : Fin 2) (p : PoolSet) (r : Reports (m.setPool u c p) n) :
    cabFields n u c = cabFields (m.setFs (poolFields u c p)) u c := by
  have kept : ∀ f : Fld, reportPlace (f.key c) = false → NotListed (cabFields (m.setFs (poolFields u c p)) u c) u f c →
      n.getF u f c = (m.setFs (poolFields u c p)).getF u f c := by
    intro f quiet apart
    rw [r.regs u f c quiet, Mach.setPool_eq, Mach.setFs_append, Mach.getF_setFs_notListed _ _ apart]
  have apart : ∀ f : Fld, (∀ x ∈ placesOf (cabFields (m.setFs (poolFields u c p)) u c), x ≠ f.key c) →
      NotListed (cabFields (m.setFs (poolFields u c p)) u c) u f c := fun f h e mem same => h _ (List.mem_map_of_mem mem) same.2
  have places : ∀ x : Fin 2, ∀ f ∈ [Reg.CAB_POOL_CFG_FRAMES, Reg.CAB_POOL_CFG_MAP_BLOCKS, Reg.CAB_LP_CFG_CHEST_SLOTS], reportPlace (f.key x) = false ∧
      ∀ y ∈ (poolPlaces x).drop 9, y ≠ f.key x := by decide
  have here : ∀ f ∈ [Reg.CAB_POOL_CFG_FRAMES, Reg.CAB_POOL_CFG_MAP_BLOCKS, Reg.CAB_LP_CFG_CHEST_SLOTS], n.getF u f c = (m.setFs (poolFields u c p)).getF u f c :=
    fun f mem => kept f (places c f mem).1 (apart f (places c f mem).2)
  refine cabFields_congr ?_ (here _ (by simp)) (here _ (by simp)) (here _ (by simp))
  rw [r.cab_eq, Mach.setPool_eq, Mach.cab_setFs, Mach.cab_setFs]

theorem setPool_ends {s : State} {u : Nat} (lt : u < 4) (c : Fin 2) (p : PoolSet) :
    Ends s { s with m := s.m.setPool u c p } (poolFields u c p ++ cabFields (s.m.setFs (poolFields u c p)) u c) := by
  rw [Mach.setPool_eq]
  exact Ends.setFs s _ (poolPlaces_different c) (poolFields_stack _ lt c p)

/-- An entry of the change log leaves the error log. -/
theorem Mach.errLog_logChange (m : Mach) {v : Nat} (e : ChangeEntry) (h : v < 4) : ((m.logChange v e).stk v).bureau.errLog = (m.stk v).bureau.errLog := by
  unfold Mach.logChange
  dsimp only
  rw [Mach.setF, Mach.stk_updStk_same _ _ h]
  split
  · rw [Mach.bumpF, Mach.setF, Mach.stk_updStk_same _ _ h, Mach.stk_updStk_same _ _ h]
  · rw [Mach.stk_updStk_same _ _ h]

/-- The newest entry of the error log. -/
theorem Mach.logError_newest (m : Mach) {v : Nat} (code unit index addr : Nat) (d : List Nat) (h : v < 4) :
    ∃ l, ((m.logError v code unit index addr d).stk v).bureau.errLog = ⟨m.now v, m.getF v Reg.LOG_NEXT_SERIAL 1, code, v, unit, index, addr, d⟩ :: l := by
  unfold Mach.logError
  dsimp only
  refine ⟨(m.stk v).bureau.errLog.take 4095, ?_⟩
  rw [Mach.setF, Mach.stk_updStk_same _ _ h]
  split
  · rw [Mach.bumpF, Mach.setF, Mach.stk_updStk_same _ _ h, Mach.stk_updStk_same _ _ h]; rfl
  · rw [Mach.stk_updStk_same _ _ h]; rfl

/-- A write of a Cabinet register that leads to configuration p, which takes effect when ok holds; otherwise the machine is n, which only reports. -/
theorem pool_lands {s : State} {i : Instr} {r : RegDef} {l : List Fld} {w : RegW} {u : Nat} (c : Fin 2) {p : PoolSet} {ok : Bool} {n : Mach}
    (runs : exec i s = .next { s with m := Mach.bar0Reg s.fuse s.m r l c w }) (answers : Answers s (r.off c)) (notCore : 0x1_0000 ≤ r.base)
    (stack : s.m.bar0Stack (r.off c) = u) (lt : u < 4)
    (rule : s.m.regWrite s.fuse.part.stackCount u r l c w = if ok then (s.m.setPool u c p, false) else (n, true)) (reports : Reports s.m n) :
    Lands i s (fun t => Ends s t (if ok then poolFields u c p ++ cabFields t.m u c else []) ∧ Logged t u (r.off c) (!ok) ∧
      (ok = false → (t.m.stk u).bureau.errLog = (n.stk u).bureau.errLog)) := by
  rw [bar0Reg_eq l w answers notCore, stack] at runs
  refine ⟨_, runs, ?_⟩
  cases ok with
  | true =>
    obtain ⟨ends, logged⟩ := hostWrite_ends rule (setPool_ends lt c p) (poolPlaces_noReport c) lt
    have hw : Reports (s.m.setPool u c p) (Mach.hostWrite s.fuse s.m u r l c w) := by
      rw [Mach.hostWrite, rule]; exact Reports.logHost _ _ _ _ _ _
    refine ⟨?_, logged, fun x => by cases x⟩
    rw [if_pos rfl, cabFields_after u c p hw]
    exact ends
  | false =>
    obtain ⟨ends, logged⟩ := hostWrite_ends rule (Ends.of_reports reports) (fun _ h => by cases h) lt
    refine ⟨ends, logged, fun _ => ?_⟩
    rw [Mach.hostWrite, rule]
    exact Mach.errLog_logChange _ _ lt

end Sys2Proof.Machine
end

section
/-! SUPPORT. The Cabinet registers, and the statement about host writes to mailboxes, sync objects and pools. -/

namespace Sys2Proof.Machine

theorem Mach.poolOk_planOn {m : Mach} {u c : Nat} {p : PoolSet} (on : m.planOn u = true) : m.poolOk u c p = false := by simp [Mach.poolOk, on]

/-- CAB_POOL_CFG: INTAKE is no 0, and the configuration is accepted. -/
theorem Mach.writePoolCfg_eq (m : Mach) (u c : Nat) (w : RegW) :
    let p := { m.poolSet u c with frames := m.after u Reg.CAB_POOL_CFG_FRAMES c w, blocks := m.after u Reg.CAB_POOL_CFG_MAP_BLOCKS c w
                                  intake := m.after u Reg.CAB_POOL_CFG_INTAKE c w }
    m.writePoolCfg u c w = if decide (m.after u Reg.CAB_POOL_CFG_INTAKE c w ≠ 0) && m.poolOk u c p then (m.setPool u c p, false) else (m, true) := by
  intro p
  unfold Mach.writePoolCfg Mach.writePool
  by_cases z : m.after u Reg.CAB_POOL_CFG_INTAKE c w = 0
  · simp [z]
  · rw [if_neg z, decide_eq_true z, Bool.true_and]

/-- CAB_POOL_BASE: the base is aligned and of region 0x0, and the configuration is accepted. -/
theorem Mach.writePoolBase_eq (m : Mach) (u c : Nat) (w : RegW) :
    let b := m.after u Reg.CAB_POOL_BASE_BASE c w
    m.writePoolBase u c w = if decide (b % 0x4000 = 0 ∧ daRegion b = 0) && m.poolOk u c { m.poolSet u c with base := b }
      then (m.setPool u c { m.poolSet u c with base := b }, false) else (m, true) := by
  intro b
  unfold Mach.writePoolBase Mach.writePool
  by_cases z : b % 0x4000 = 0 ∧ daRegion b = 0
  · rw [if_neg (fun x => x.elim (absurd z.1) (absurd z.2)), decide_eq_true z, Bool.true_and]
  · rw [if_pos (not_and_or.mp z), decide_eq_false z, Bool.false_and, if_neg Bool.false_ne_true]

theorem Mach.writeLpBase_eq (m : Mach) (u c : Nat) (w : RegW) :
    let b := m.after u Reg.CAB_LP_BASE_BASE c w
    m.writeLpBase u c w = if decide (b % 0x4000 = 0 ∧ daRegion b = 4) && m.poolOk u c { m.poolSet u c with lpBase := b }
      then (m.setPool u c { m.poolSet u c with lpBase := b }, false) else (m, true) := by
  intro b
  unfold Mach.writeLpBase Mach.writePool
  by_cases z : b % 0x4000 = 0 ∧ daRegion b = 4
  · rw [if_neg (fun x => x.elim (absurd z.1) (absurd z.2)), decide_eq_true z, Bool.true_and]
  · rw [if_pos (not_and_or.mp z), decide_eq_false z, Bool.false_and, if_neg Bool.false_ne_true]

theorem Mach.writeClassCfg_eq (m : Mach) (u c : Nat) (w : RegW) :
    let p := { m.poolSet u c with spill := m.after u Reg.CAB_CLASS_CFG_SPILL c w, drop := m.after u Reg.CAB_CLASS_CFG_DROP c w }
    m.writeClassCfg u c w = if true && m.poolOk u c p then (m.setPool u c p, false) else (m, true) := rfl

/-- What a write of CAB_LP_CFG that asks for an unlicensed Chest leaves: an entry of the error log, but while a plan is on (log entry 117). -/
def Mach.chestRefused (m : Mach) (u c : Nat) (p : PoolSet) : Mach :=
  if m.planOn u = false ∧ m.chestOk u p = false then m.unlicensedWrite u (Reg.CAB_LP_CFG.off c) else m

theorem Reports.chestRefused (m : Mach) (u c : Nat) (p : PoolSet) : Reports m (m.chestRefused u c p) := by
  unfold Mach.chestRefused
  split
  · exact Reports.logError _ _ _ _ _ _ _
  · exact Reports.refl m

/-- CAB_LP_CFG: the Chest is licensed or asked for nothing, and the configuration is accepted. -/
theorem Mach.writeLpCfg_eq (m : Mach) (u c : Nat) (w : RegW) :
    let p := { m.poolSet u c with slots := m.after u Reg.CAB_LP_CFG_CHEST_SLOTS c w, chest := decide (m.after u Reg.CAB_LP_CFG_CHEST_EN c w ≠ 0) }
    m.writeLpCfg u c w = if m.chestOk u p && m.poolOk u c p then (m.setPool u c p, false) else (m.chestRefused u c p, true) := by
  intro p
  show (if !m.planOn u && !m.chestOk u p then (m.unlicensedWrite u (Reg.CAB_LP_CFG.off c), true) else m.writePool u c p) = _
  unfold Mach.writePool Mach.chestRefused
  cases on : m.planOn u <;> cases chest : m.chestOk u p
  · rfl
  · rfl
  · simp [Mach.poolOk_planOn on]
  · rfl

theorem cab_stack (m : Mach) (r : RegDef) (c : Fin 2) (h : r ∈ [Reg.CAB_POOL_CFG, Reg.CAB_POOL_BASE, Reg.CAB_LP_CFG, Reg.CAB_LP_BASE, Reg.CAB_CLASS_CFG]) :
    m.bar0Stack (r.off c) = m.getF 0 Reg.HOST_STACK_SEL_STACK := by
  have low : ∀ x : Fin 2, ∀ q ∈ [Reg.CAB_POOL_CFG, Reg.CAB_POOL_BASE, Reg.CAB_LP_CFG, Reg.CAB_LP_BASE, Reg.CAB_CLASS_CFG], q.off x < 0x4C0_0000 := by decide
  exact m.bar0Stack_eq (.inl (low c r h))

/-- The Cabinet registers, each with the configuration that a write of it leads to and what it asks for beside R232. -/
theorem cabinet_lands {s : State} {u : Nat} (sel : s.m.getF 0 Reg.HOST_STACK_SEL_STACK = u) (lt : u < 4) (h : Fin 2) (w : RegW) :
    ∀ (i : Instr) (o : Nat) (p : PoolSet) (pre : Bool), let q := s.m.poolSet u h
      let nv (f : Fld) : Nat := s.m.after u f h w
      (i, o, p, pre) ∈ [
        (Instr.cabPoolCfg ⟨h, w⟩, Reg.CAB_POOL_CFG.off h, { q with frames := nv Reg.CAB_POOL_CFG_FRAMES, blocks := nv Reg.CAB_POOL_CFG_MAP_BLOCKS
                                                                   intake := nv Reg.CAB_POOL_CFG_INTAKE }, decide (nv Reg.CAB_POOL_CFG_INTAKE ≠ 0)),
        (.cabPoolBase ⟨h, w⟩, Reg.CAB_POOL_BASE.off h, { q with base := nv Reg.CAB_POOL_BASE_BASE },
          decide (nv Reg.CAB_POOL_BASE_BASE % 0x4000 = 0 ∧ daRegion (nv Reg.CAB_POOL_BASE_BASE) = 0)),
        (.cabLpCfg ⟨h, w⟩, Reg.CAB_LP_CFG.off h, { q with slots := nv Reg.CAB_LP_CFG_CHEST_SLOTS, chest := decide (nv Reg.CAB_LP_CFG_CHEST_EN ≠ 0) },
          s.m.chestOk u { q with slots := nv Reg.CAB_LP_CFG_CHEST_SLOTS, chest := decide (nv Reg.CAB_LP_CFG_CHEST_EN ≠ 0) }),
        (.cabLpBase ⟨h, w⟩, Reg.CAB_LP_BASE.off h, { q with lpBase := nv Reg.CAB_LP_BASE_BASE },
          decide (nv Reg.CAB_LP_BASE_BASE % 0x4000 = 0 ∧ daRegion (nv Reg.CAB_LP_BASE_BASE) = 4)),
        (.cabClassCfg ⟨h, w⟩, Reg.CAB_CLASS_CFG.off h, { q with spill := nv Reg.CAB_CLASS_CFG_SPILL, drop := nv Reg.CAB_CLASS_CFG_DROP }, true)] →
      Answers s o →
      (let ok := pre && s.m.poolOk u h p
       Lands i s (fun t => Ends s t (if ok then poolFields u h p ++ cabFields t.m u h else []) ∧ Logged t u o (!ok) ∧
         (o = Reg.CAB_LP_CFG.off h → pre = false → s.m.planOn u = false → ∃ e l, (t.m.stk u).bureau.errLog = e :: l ∧ e.code = 0x0008 ∧ e.addr = o))) := by
  intro i o p pre q nv mem answers ok
  have stack : ∀ r ∈ [Reg.CAB_POOL_CFG, Reg.CAB_POOL_BASE, Reg.CAB_LP_CFG, Reg.CAB_LP_BASE, Reg.CAB_CLASS_CFG], s.m.bar0Stack (r.off h) = u :=
    fun r mem => (cab_stack s.m r h mem).trans sel
  have apart : ∀ x : Fin 2, ∀ r ∈ [Reg.CAB_POOL_CFG, Reg.CAB_POOL_BASE, Reg.CAB_LP_BASE, Reg.CAB_CLASS_CFG], r.off x ≠ Reg.CAB_LP_CFG.off x := by decide
  simp only [List.mem_cons, Prod.mk.injEq, List.not_mem_nil, or_false] at mem
  rcases mem with ⟨rfl, rfl, rfl, rfl⟩ | ⟨rfl, rfl, rfl, rfl⟩ | ⟨rfl, rfl, rfl, rfl⟩ | ⟨rfl, rfl, rfl, rfl⟩ | ⟨rfl, rfl, rfl, rfl⟩
  · obtain ⟨t, runs, ends, logged, -⟩ := pool_lands h (i := .cabPoolCfg ⟨h, w⟩) rfl answers (by decide) (stack _ (by simp)) lt
      ((Mach.regWrite_poolCfg _ _ _ _ _ _).trans (Mach.writePoolCfg_eq _ _ _ _)) (Reports.refl _)
    exact ⟨t, runs, ends, logged, fun x => absurd x (apart h _ (by simp))⟩
  · obtain ⟨t, runs, ends, logged, -⟩ := pool_lands h (i := .cabPoolBase ⟨h, w⟩) rfl answers (by decide) (stack _ (by simp)) lt
      ((Mach.regWrite_poolBase _ _ _ _ _ _).trans (Mach.writePoolBase_eq _ _ _ _)) (Reports.refl _)
    exact ⟨t, runs, ends, logged, fun x => absurd x (apart h _ (by simp))⟩
  · obtain ⟨t, runs, ends, logged, errors⟩ := pool_lands h (i := .cabLpCfg ⟨h, w⟩) rfl answers (by decide) (stack _ (by simp)) lt
      ((Mach.regWrite_lpCfg _ _ _ _ _ _).trans (Mach.writeLpCfg_eq _ _ _ _)) (Reports.chestRefused _ _ _ _)
    refine ⟨t, runs, ends, logged, fun _ unlicensed off => ?_⟩
    rw [errors (by rw [unlicensed]; rfl), Mach.chestRefused, if_pos ⟨off, unlicensed⟩]
    obtain ⟨l, e⟩ := s.m.logError_newest 0x0008 0 0 (Reg.CAB_LP_CFG.off h) [] lt
    exact ⟨_, l, e, rfl, rfl⟩
  · obtain ⟨t, runs, ends, logged, -⟩ := pool_lands h (i := .cabLpBase ⟨h, w⟩) rfl answers (by decide) (stack _ (by simp)) lt
      ((Mach.regWrite_lpBase _ _ _ _ _ _).trans (Mach.writeLpBase_eq _ _ _ _)) (Reports.refl _)
    exact ⟨t, runs, ends, logged, fun x => absurd x (apart h _ (by simp))⟩
  · obtain ⟨t, runs, ends, logged, -⟩ := pool_lands h (i := .cabClassCfg ⟨h, w⟩) rfl answers (by decide) (stack _ (by simp)) lt
      ((Mach.regWrite_classCfg _ _ _ _ _ _).trans (Mach.writeClassCfg_eq _ _ _ _)) (Reports.refl _)
    exact ⟨t, runs, ends, logged, fun x => absurd x (apart h _ (by simp))⟩

/-- Settles O43, register by register. -/
theorem mailboxSyncAndPoolRegisterWrites : Obligations.MailboxSyncAndPoolRegisterWrites := by
  intro s u n lt
  have lt4 : u < 4 := Nat.lt_of_lt_of_le lt (stackCount_le _)
  refine ⟨?_, ?_, ?_, ?_, ?_, ?_⟩
  · exact fun b w bar2 opened bar0 low => mbxDoorbell_lands b w bar2 opened bar0 low
  · exact fun w bar2 opened bar0 low => mbxEvtTail_lands w bar2 opened bar0 low
  · intro o w low k f
    refine ⟨fun answers h => ⟨?_, ?_⟩, fun answers => ?_, fun answers => ?_⟩
    · exact syncSignal_lands_low rfl lt4 o w low answers h
    · exact syncSignal_lands rfl lt4 o w low answers h
    · exact (syncStatus_lands rfl lt4 o w answers).1
    · exact (syncStatus_lands rfl lt4 o w answers).2
  · exact fun w low answers => hostStackSel_lands w low answers
  · exact fun h w => ⟨fun low answers => cdiePartCfg_lands rfl lt4 h w low answers, cabinet_lands rfl lt4 h w⟩
  · exact fun b o d opened fits => requestBufferWrite_lands b o d opened fits

end Sys2Proof.Machine
end

section
/-! SUPPORT. What an operation keeps of the registers of plans, routes and links, and of one part of each stack. -/

namespace Sys2Proof.Machine

/-! ## Zones of registers -/

/-- A place in one of some ranges of register offsets. -/
def inZone (z : List (Nat × Nat)) (p : Nat) : Bool := z.any (fun e => decide (e.1 ≤ p / 64) && decide (p / 64 < e.2))

/-- The places outside a zone. -/
abbrev outside (z : List (Nat × Nat)) (p : Nat) : Bool := !inZone z p

/-- Every copy of a field lies outside a zone: its register's copies are evenly spaced, all below or all above each range. -/
def clearOf (z : List (Nat × Nat)) (f : Fld) : Bool :=
  decide (f.lo < 64) && decide (f.reg.outer = 0) && decide (0 < f.reg.inner) &&
    z.all (fun e => decide (f.reg.base + (f.reg.inner - 1) * f.reg.stride < e.1) || decide (e.2 ≤ f.reg.base))

theorem key_place {f : Fld} (lo : f.lo < 64) (flat : f.reg.outer = 0) (i : Nat) :
    f.key i / 64 = f.reg.base + i % f.reg.inner * f.reg.stride := by
  rw [f.key_div i lo, RegDef.off, flat, Nat.mul_zero, Nat.add_zero]

theorem copy_le (r : RegDef) (some : 0 < r.inner) (i : Nat) : i % r.inner * r.stride ≤ (r.inner - 1) * r.stride :=
  Nat.mul_le_mul_right _ (Nat.le_pred_of_lt (Nat.mod_lt _ some))

theorem outside_key {z : List (Nat × Nat)} {f : Fld} (h : clearOf z f = true) (i : Nat) : outside z (f.key i) = true := by
  simp only [clearOf, Bool.and_eq_true, decide_eq_true_eq, List.all_eq_true, Bool.or_eq_true] at h
  obtain ⟨⟨⟨lo, flat⟩, some⟩, apart⟩ := h
  have last := copy_le f.reg some i
  simp only [outside, inZone, Bool.not_eq_true', List.any_eq_false, Bool.and_eq_true, decide_eq_true_eq, key_place lo flat]
  rintro e mem ⟨above, below⟩
  rcases apart e mem with h | h <;> omega

/-- Every copy of a field lies in a range of a zone. -/
def insideOf (z : List (Nat × Nat)) (f : Fld) : Bool :=
  decide (f.lo < 64) && decide (f.reg.outer = 0) && decide (0 < f.reg.inner) &&
    z.any (fun e => decide (e.1 ≤ f.reg.base) && decide (f.reg.base + (f.reg.inner - 1) * f.reg.stride < e.2))

theorem inZone_key {z : List (Nat × Nat)} {f : Fld} (h : insideOf z f = true) (i : Nat) : inZone z (f.key i) = true := by
  simp only [insideOf, Bool.and_eq_true, decide_eq_true_eq, List.any_eq_true] at h
  obtain ⟨⟨⟨lo, flat⟩, some⟩, e, mem, below, above⟩ := h
  simp only [inZone, List.any_eq_true, Bool.and_eq_true, decide_eq_true_eq, key_place lo flat]
  have := copy_le f.reg some i
  exact ⟨e, mem, by omega, by omega⟩

/-- The registers of links, routes and the SDID, LIC_STATUS, and the plan state with the plan's id. -/
def planZone : List (Nat × Nat) := [(0x480_0000, 0x4A0_0000), (0x510_1000, 0x510_1008), (0x520_0200, 0x520_0210)]

/-- BUR_PLAN_STATE. -/
def stateZone : List (Nat × Nat) := [(0x520_0200, 0x520_0208)]

theorem outside_of_report (p : Nat) (h : reportPlace p = true) : outside planZone p = true := by
  simp only [reportPlace, Bool.or_eq_true, Bool.and_eq_true, decide_eq_true_eq, beq_iff_eq] at h
  simp only [outside, inZone, planZone, Bool.not_eq_true', List.any_eq_false, Bool.and_eq_true, decide_eq_true_eq, List.mem_cons, List.not_mem_nil, or_false]
  rintro e (rfl | rfl | rfl) ⟨above, below⟩ <;> dsimp only at above below <;> omega

theorem outside_stateZone (p : Nat) (h : outside planZone p = true) : outside stateZone p = true := by
  simp only [outside, inZone, planZone, stateZone, Bool.not_eq_true', List.any_cons, List.any_nil, Bool.or_false, Bool.or_eq_false_iff, Bool.and_eq_false_iff,
    decide_eq_false_iff_not] at h ⊢
  omega

/-! ## What is kept -/

/-- A part of a stack that neither its registers nor its Bureau, caches or integrity state belong to. -/
structure View (β : Type) where
  of     : Stack → β
  csr    : ∀ k c, of { k with csr := c } = of k
  bureau : ∀ k b, of { k with bureau := b } = of k
  cache  : ∀ k c, of { k with cache := c } = of k
  integ  : ∀ k g, of { k with integ := g } = of k

def planView : View PlanSt := ⟨Stack.plan, fun _ _ => rfl, fun _ _ => rfl, fun _ _ => rfl, fun _ _ => rfl⟩

/-- The status that the last plan ended with. -/
def endView : View Nat := ⟨fun k => k.plan.endStatus, fun _ _ => rfl, fun _ _ => rfl, fun _ _ => rfl, fun _ _ => rfl⟩

/-- Every register field inside zone z, and part V of every stack, are as before. -/
structure Steady {β : Type} (z : List (Nat × Nat)) (V : View β) (m n : Mach) : Prop where
  regs : RegsKept (outside z) m n
  part : ∀ k, V.of (n.stk k) = V.of (m.stk k)

theorem Mach.stk_updStk_beyond (m : Mach) {s : Nat} (f : Stack → Stack) (h : ¬ s < 4) (k : Nat) : (m.updStk s f).stk k = m.stk k := by
  obtain ⟨n, rfl⟩ : ∃ n, s = n + 4 := ⟨s - 4, by omega⟩
  rfl

namespace Steady
variable {β : Type} {z : List (Nat × Nat)} {V : View β}

theorem refl (m : Mach) : Steady z V m m := ⟨RegsKept.refl m, fun _ => rfl⟩

theorem trans {m n p : Mach} (h : Steady z V m n) (g : Steady z V n p) : Steady z V m p := ⟨h.regs.trans g.regs, fun k => (g.part k).trans (h.part k)⟩

/-- `trans` with the last operation named first, so that the machine between is the one that it works on. -/
theorem after {m n p : Mach} (g : Steady z V n p) (h : Steady z V m n) : Steady z V m p := h.trans g

/-- A field whose copies lie in the zone reads as before. -/
theorem getF {m n : Mach} (h : Steady z V m n) (v : Nat) (f : Fld) (j : Nat) (i : insideOf z f = true) : n.getF v f j = m.getF v f j :=
  h.regs v f j (by rw [outside, inZone_key i]; rfl)

theorem updStk (m : Mach) (s : Nat) (f : Stack → Stack) (c : (f (m.stk s)).csr = (m.stk s).csr) (h : V.of (f (m.stk s)) = V.of (m.stk s)) :
    Steady z V m (m.updStk s f) := by
  refine ⟨RegsKept.updStk _ _ _ c, fun k => ?_⟩
  by_cases e : k = s
  · subst e
    by_cases l : k < 4
    · rw [Mach.stk_updStk_same _ _ l, h]
    · rw [Mach.stk_updStk_beyond _ _ l]
  · rw [Mach.stk_updStk_ne _ _ e]

/-- Any change of a stack's registers leaves what is no register. -/
theorem part_csr (m : Mach) (s : Nat) (f : Stack → SMap Nat) (k : Nat) : V.of ((m.updStk s (fun k => { k with csr := f k })).stk k) = V.of (m.stk k) := by
  by_cases e : k = s
  · subst e
    by_cases l : k < 4
    · rw [Mach.stk_updStk_same _ _ l, V.csr]
    · rw [Mach.stk_updStk_beyond _ _ l]
  · rw [Mach.stk_updStk_ne _ _ e]

theorem setF (m : Mach) (s : Nat) (f : Fld) (v i : Nat) (h : clearOf z f = true) : Steady z V m (m.setF s f v i) :=
  ⟨RegsKept.setF _ _ _ _ _ (outside_key h i), part_csr m s (fun k => SMap.put k.csr (f.key i) (v % 2 ^ f.width))⟩

theorem bumpF (m : Mach) (s : Nat) (f : Fld) (i n : Nat) (h : clearOf z f = true) : Steady z V m (m.bumpF s f i n) := setF _ _ _ _ _ h

theorem of_reports {m n : Mach} (p : ∀ p, reportPlace p = true → outside z p = true) (r : Reports m n) : Steady z V m n := by
  refine ⟨RegsKept.of_reports p r, fun k => ?_⟩
  have same := congrArg V.of (r.stk_eq k)
  rw [V.bureau { n.stk k with csr := [] }, V.bureau { m.stk k with csr := [] }, V.csr (n.stk k), V.csr (m.stk k)] at same
  exact same

theorem mono {w : List (Nat × Nat)} {m n : Mach} (h : ∀ p, outside w p = true → outside z p = true) (g : Steady w V m n) : Steady z V m n :=
  ⟨g.regs.mono h, g.part⟩

theorem foldl {α : Type} (f : Mach → α → Mach) (l : List α) (h : ∀ m x, x ∈ l → Steady z V m (f m x)) (m : Mach) : Steady z V m (l.foldl f m) := by
  induction l generalizing m with
  | nil => exact refl m
  | cons x r ih => exact (h m x List.mem_cons_self).trans (ih (fun n y my => h n y (List.mem_cons_of_mem _ my)) _)

/-- What is chosen between two machines is steady when both are. -/
theorem ite {m n p : Mach} (c : Prop) [Decidable c] (h : Steady z V m n) (g : Steady z V m p) : Steady z V m (if c then n else p) := by
  split <;> assumption

theorem onStacks (m : Mach) (n : Nat) (f : Mach → Nat → Mach) (h : ∀ m x, Steady z V m (f m x)) : Steady z V m (m.onStacks n f) :=
  foldl f _ (fun m x _ => h m x) m

theorem updCache (m : Mach) (s : Nat) (f : CacheSt → CacheSt) : Steady z V m (m.updCache s f) := updStk _ _ _ rfl (V.cache _ _)

/-- What is no stack may change. -/
theorem of_stackSet {m n : Mach} (h : n.stackSet = m.stackSet) : Steady z V m n := by
  have same : ∀ k, n.stk k = m.stk k := fun k => by rw [Mach.stk, Mach.stk, h]
  exact ⟨fun v f j _ => by rw [Mach.getF, Mach.getF, same], fun k => by rw [same]⟩

end Steady

theorem SMap.find_filter {α : Type} (l : SMap α) (p : Nat × α → Bool) (k : Nat) (h : ∀ v, p (k, v) = true) : SMap.find (l.filter p) k = SMap.find l k := by
  induction l with
  | nil => rfl
  | cons e r ih =>
    obtain ⟨i, v⟩ := e
    by_cases same : i = k
    · subst same
      rw [List.filter_cons, if_pos (h v)]
      simp only [SMap.find, if_true]
    · rw [List.filter_cons]
      split <;> simp only [SMap.find, if_neg same, ih]

/-- A change of a stack's registers that keeps the entry of a field leaves the field. -/
theorem Mach.getF_updCsr (m : Mach) (s : Nat) (f : SMap Nat → SMap Nat) (v : Nat) (g : Fld) (j : Nat)
    (h : SMap.find (f (m.stk s).csr) (g.key j) = SMap.find (m.stk s).csr (g.key j)) :
    (m.updStk s (fun k => { k with csr := f k.csr })).getF v g j = m.getF v g j := by
  rw [Mach.getF, Mach.getF]
  by_cases e : v = s
  · subst e
    by_cases l : v < 4
    · rw [Mach.stk_updStk_same _ _ l]; simp only [SMap.getD, h]
    · rw [Mach.stk_updStk_beyond _ _ l]
  · rw [Mach.stk_updStk_ne _ _ e]

namespace Steady
variable {β : Type} {z : List (Nat × Nat)} {V : View β}

theorem resetF (m : Mach) (s : Nat) (f : Fld) (i : Nat) (h : clearOf z f = true) : Steady z V m (m.resetF s f i) := by
  refine ⟨fun v g j o => ?_, part_csr m s (fun k => SMap.erase k.csr (f.key i))⟩
  exact m.getF_updCsr s (fun c => SMap.erase c (f.key i)) v g j (SMap.find_erase_ne _ (fun e => by rw [e, outside_key h i] at o; cases o))

/-- A range of offsets returned to reset values leaves a zone that lies below or above it. -/
theorem resetRange (m : Mach) (s lo hi : Nat) (h : ∀ e ∈ z, e.2 ≤ lo ∨ hi ≤ e.1) : Steady z V m (m.resetRange s lo hi) := by
  refine ⟨fun v g j o => ?_, part_csr m s _⟩
  refine m.getF_updCsr s (fun c => c.filter (fun e => decide (e.1 < lo * 64) || decide (hi * 64 ≤ e.1) || false)) v g j (SMap.find_filter _ _ _ fun _ => ?_)
  simp only [outside, inZone, Bool.not_eq_false', List.any_eq_true, Bool.and_eq_true, decide_eq_true_eq] at o
  obtain ⟨e, mem, above, below⟩ := o
  simp only [Bool.or_false, Bool.or_eq_true, decide_eq_true_eq]
  have := h e mem
  omega

end Steady

end Sys2Proof.Machine
end

section
/-! SUPPORT. Accesses at their homes keep the registers of plans and links: a read or a write of memory changes memory, caches, detections and counters. -/

namespace Sys2Proof.Machine

namespace Steady
variable {β : Type} {V : View β}

/-! ## Reports and counters -/

theorem reports {m n : Mach} (r : Reports m n) : Steady planZone V m n := of_reports outside_of_report r

theorem counterWrapped (m : Mach) (s : Nat) (ovf : Fld) (i src : Nat) (h : clearOf planZone ovf = true) : Steady planZone V m (m.counterWrapped s ovf i src) :=
  ((setF _ _ _ _ _ h).trans (reports (Reports.srcEdge _ _ _))).trans (reports (Reports.event _ _ _ _ _))

theorem count48 (m : Mach) (s : Nat) (f ovf : Fld) (i src n : Nat) (h : clearOf planZone f = true) (o : clearOf planZone ovf = true) :
    Steady planZone V m (m.count48 s f ovf i src n) :=
  ite _ ((setF _ _ _ _ _ h).trans (counterWrapped _ _ _ _ _ o)) (setF _ _ _ _ _ h)

/-! ## Detections (R315, R323) -/

theorem updInteg (m : Mach) (s : Nat) (f : Integ → Integ) : Steady planZone V m (m.updInteg s f) :=
  ((updStk m s _ rfl (V.integ _ _)).trans (setF _ s Reg.BUR_SKIPPER_STATUS_ACTIVE _ 0 (by decide))).trans
    (setF _ s Reg.BUR_SKIPPER_STATUS_QUEUED _ 0 (by decide))

theorem detect (m : Mach) (s kind index : Nat) : Steady planZone V m (m.detect s kind index) :=
  ite _ (updInteg _ _ _) (ite _ (bumpF _ _ _ _ _ (by decide)) (updInteg _ _ _))

theorem detectSorted (m : Mach) (s : Nat) (l : List (Nat × Nat)) : Steady planZone V m (m.detectSorted s l) := foldl _ _ (fun _ _ _ => detect _ _ _ _) m

theorem detectRead (m : Mach) (a n : Nat) : Steady planZone V m (m.detectRead a n) := detectSorted _ _ _

theorem detectHome (m : Mach) (a n : Nat) : Steady planZone V m (m.detectHome a n) := detectSorted _ _ _

/-! ## Lines -/

theorem sramWrite (m : Mach) (a : Nat) (bs : List PByte) : Steady planZone V m (m.sramWrite a bs) := ite _ (refl m) (of_stackSet rfl)

theorem updLine (m : Mach) (s L : Nat) (f : CLine → CLine) : Steady planZone V m (m.updLine s L f) := updCache _ _ _

theorem dropLine (m : Mach) (s L : Nat) : Steady planZone V m (m.dropLine s L) := updCache _ _ _

theorem setTier (m : Mach) (t : Mem) : Steady planZone V m { m with tier := t } := of_stackSet rfl

theorem syncPoisonDir (m : Mach) (s : Nat) : Steady planZone V m (m.syncPoisonDir s) :=
  (setF m s Reg.LPD_POISON_DIR_ENTRIES _ 0 (by decide)).trans (setF _ s Reg.LPD_POISON_DIR_HELD _ 0 (by decide))

theorem dirFull (m : Mach) (s : Nat) : Steady planZone V m (m.dirFull s) :=
  ((setF m s Reg.LPD_POISON_DIR_FULL 1 0 (by decide)).trans (reports (Reports.srcEdge _ _ _))).trans (reports (Reports.event _ _ _ _ _))

theorem writeback (m : Mach) (s : Nat) (c : CLine) : Steady planZone V m (m.writeback s c) := by
  unfold Mach.writeback
  dsimp only
  split
  · exact refl m
  · split
    · exact after (syncPoisonDir _ _) (after (dirFull _ _) (after (updLine _ _ _ _) (detectRead m _ _)))
    · exact after (syncPoisonDir _ _) (after (updLine _ _ _ _) ((detectRead m (cellAddr s (m.home s c.line) c.way) 128).trans (setTier _ _)))

theorem makeRoom (k : Nat) (m : Mach) (s : Nat) (h : Home) : Steady planZone V m (Mach.makeRoom k m s h) := by
  induction k generalizing m with
  | zero => exact refl m
  | succ k ih =>
    unfold Mach.makeRoom
    dsimp only
    split
    · exact refl m
    · split
      · exact refl m
      · split
        · exact refl m
        · split
          · split
            · exact after (ih _) (writeback _ _ _)
            · exact after (dropLine _ _ _) (writeback _ _ _)
          · exact writeback _ _ _

theorem install (m : Mach) (s L : Nat) (bs : List PByte) (dirty pinned : Bool) : Steady planZone V m (m.install s L bs dirty pinned) := by
  unfold Mach.install
  dsimp only
  split
  · exact makeRoom _ _ _ _
  · exact after (updCache _ _ _) (after (sramWrite _ _ _) (makeRoom _ _ _ _))

theorem countLookup (m : Mach) (s L : Nat) (hit : Bool) : Steady planZone V m (m.countLookup s L hit) := by
  unfold Mach.countLookup
  dsimp only
  have looked := count48 (V := V) m s Reg.CDIE_LOOKUPS_LOOKUPS Reg.CDIE_LOOKUPS_OVF (m.home s L).half (10 + (m.home s L).half) 1 (by decide) (by decide)
  exact after (updCache _ _ _) (looked.trans (ite _ (count48 _ s Reg.CDIE_HITS_HITS Reg.CDIE_HITS_OVF _ _ _ (by decide) (by decide)) (refl _)))

theorem countAccess (m : Mach) (s L : Nat) (hit : Bool) : Steady planZone V m (m.countAccess s L hit) := by
  unfold Mach.countAccess
  split
  · exact ite _ (refl m) (countLookup _ _ _ _)
  · exact countLookup _ _ _ _

theorem lookup (m : Mach) (s L : Nat) : Steady planZone V m (m.lookup s L) := by
  unfold Mach.lookup
  split
  · exact (countAccess _ _ _ _).trans (updCache _ _ _)
  · exact (countAccess _ _ _ _).trans (install _ _ _ _ _ _)

/-! ## Reads and writes -/

theorem readLine (m : Mach) (alloc : Bool) (la : Nat) : Steady planZone V m (m.readLine alloc la) :=
  ite _ ((ite _ (countAccess _ _ _ _) (refl m)).trans (bumpF _ _ _ _ _ (by decide))) (ite _ (lookup _ _ _) (refl m))

theorem performRead (m : Mach) (alloc : Bool) (a n : Nat) : Steady planZone V m (m.performRead alloc a n).1 :=
  (ite _ (foldl _ _ (fun _ _ _ => readLine _ _ _) m) (refl m)).trans (detectHome _ _ _)

theorem through (m : Mach) (o : Nat) (bs : List PByte) : Steady planZone V m (m.through o bs) := ite _ (of_stackSet rfl) (refl m)

theorem writeLine (m : Mach) (alloc : Bool) (a : Nat) (bs : List PByte) : Steady planZone V m (m.writeLine alloc a bs) := by
  unfold Mach.writeLine
  dsimp only
  split
  · split
    · refine after (through _ _ _) (after (updLine _ _ _ _) (after (sramWrite _ _ _) ?_))
      have revived := ite (alloc = true) (countAccess (V := V) m (daStack a) (daOff a / 128) false) (refl m)
      split
      · exact after (sramWrite _ _ _) (after (setF _ _ _ _ _ (by decide)) (after (updCache _ _ _) revived))
      · exact after (install _ _ _ _ _ _) (after (setF _ _ _ _ _ (by decide)) (after (updCache _ _ _) revived))
    · exact refl m
  · have looked := ite (alloc = true) (lookup (V := V) m (daStack a) (daOff a / 128)) (refl m)
    split
    · exact after (through _ _ _) (after (updLine _ _ _ _) (after (sramWrite _ _ _) looked))
    · exact ite _ (after (through _ _ _) looked) (after (syncPoisonDir _ _) (looked.trans (setTier _ _)))

theorem performWrite (m : Mach) (alloc : Bool) (a : Nat) (bs : List PByte) : Steady planZone V m (m.performWrite alloc a bs) :=
  ite _ (foldl _ _ (fun _ _ _ => writeLine _ _ _ _) m) (foldl _ _ (fun _ _ _ => sramWrite _ _ _) m)

end Steady

end Sys2Proof.Machine
end

section
/-! SUPPORT. Serving a request at the front: what a Shoser command answers once its effect is known. -/

namespace Sys2Proof.Machine

/-! ## The request at the front (R409, R415, R416) -/

theorem Mach.frontReq_eq_some {m : Mach} {n op : Nat} {r : MbxReq} (h : m.frontReq n op = some r) :
    ∃ q rest, m.host.mbxQueue = q :: rest ∧ m.request n q.1 q.2 = r ∧ r.status = 0 ∧ r.opcode = op := by
  unfold Mach.frontReq at h
  split at h
  · cases h
  · rename_i q rest queue
    dsimp only at h
    split at h
    · rename_i passes
      cases h
      exact ⟨q, rest, queue, rfl, passes.1, passes.2⟩
    · cases h

/-- A request that passes its checks stays at the front. -/
theorem Mach.settleMbx_front {m : Mach} {n op : Nat} {r : MbxReq} (h : m.frontReq n op = some r) (k : Nat) : m.settleMbx n k = m := by
  obtain ⟨q, rest, queue, same, passes, -⟩ := Mach.frontReq_eq_some h
  cases k with
  | zero => rfl
  | succ k =>
    unfold Mach.settleMbx
    simp only [queue, same, passes]
    rfl

/-- The stack that a request which passes its checks addresses: one of the part, or all where its opcode allows it. -/
theorem Mach.request_stack {m : Mach} {n box seq : Nat} (h : (m.request n box seq).status = 0) :
    let r := m.request n box seq
    r.stack < n ∨ (r.stack = 0xFF ∧ ∃ e ∈ shoserOpcodes, e.1 = r.opcode ∧ e.2 = true) := by
  intro r
  have checked : ∀ (bad worse : Prop) [Decidable bad] [Decidable worse] (x : Option (Nat × Bool)) (k : Nat),
      (if bad then 0x0004 else if worse then 0x0001 else
        match x with
        | none => 0x0002
        | some e => if k < n ∨ (k = 0xFF ∧ e.2) then 0 else 0x0006) = 0 → ∃ e, x = some e ∧ (k < n ∨ (k = 0xFF ∧ e.2)) := by
    intro bad worse _ _ x k zero
    split at zero
    · cases zero
    · split at zero
      · cases zero
      · split at zero
        · cases zero
        · split at zero
          · exact ⟨_, rfl, by assumption⟩
          · cases zero
  obtain ⟨e, found, stack⟩ := checked _ _ _ _ h
  have opcode := List.find?_some found
  rcases stack with one | ⟨all, allowed⟩
  · exact .inl one
  · exact .inr ⟨all, e, List.mem_of_find?_eq_some found, of_decide_eq_true opcode, allowed⟩

theorem Mach.frontReq_stack {m : Mach} {n op : Nat} {r : MbxReq} (h : m.frontReq n op = some r) :
    r.stack < n ∨ (r.stack = 0xFF ∧ ∃ e ∈ shoserOpcodes, e.1 = op ∧ e.2 = true) := by
  obtain ⟨q, rest, -, rfl, passes, rfl⟩ := Mach.frontReq_eq_some h
  exact Mach.request_stack passes

/-- The stacks that a request at the front addresses are stacks of the part. -/
theorem Mach.frontReq_stackSet {m : Mach} {n op : Nat} {r : MbxReq} (h : m.frontReq n op = some r) : ∀ k ∈ r.stackSet n, k < n := by
  intro k mem
  unfold MbxReq.stackSet at mem
  split at mem
  · exact List.mem_range.mp mem
  · rename_i one
    rw [List.mem_singleton.mp mem]
    exact (Mach.frontReq_stack h).resolve_right fun all => one all.1

/-! ## The answer (R409, R413, R416, R421) -/

/-- A command whose request is served has its effect. -/
theorem tryCmd_served {s : State} {c : Cmd} {r : MbxReq} (h : Served s c.op r) (fits : c.fits s.m s.fuse.part.stackCount r = true) :
    Mach.tryCmd s.fuse s.m c r = c.act s.fuse s.m r := by
  obtain ⟨⟨-, -, rom0, rom⟩, ready⟩ := h
  have noRom : (r.stackSet s.fuse.part.stackCount).any s.m.romMode = false := List.any_eq_false.mpr fun k mem => by rw [rom k mem]; decide
  have noWait : (r.stackSet s.fuse.part.stackCount).any s.m.notReady = false := List.any_eq_false.mpr fun k mem => by rw [(ready k mem).1]; decide
  have noStop : (r.stackSet s.fuse.part.stackCount).any s.m.bureauClockStopped = false :=
    List.any_eq_false.mpr fun k mem => by rw [(ready k mem).2]; decide
  simp [Mach.tryCmd, rom0, noRom, noWait, noStop, fits]

/-- The machine after a request r, of a part of n stacks, has its reply. -/
def Reply.result (n : Nat) (r : MbxReq) : Reply → Mach
  | .wait x => x
  | .done x st p => (x.complete r st p).popReq n
  | .later x => x.popReq n

theorem shoser_served {s : State} {c : Cmd} {r : MbxReq} (h : Served s c.op r) (mine : c.mine r = true)
    (fits : c.fits s.m s.fuse.part.stackCount r = true) :
    shoser c s = .next { s with m := (c.act s.fuse s.m r).result s.fuse.part.stackCount r } := by
  have acts := tryCmd_served h fits
  obtain ⟨⟨serves, front, rom0, -⟩, -⟩ := h
  have all : Mach.serve s.fuse s.m c = (Mach.tryCmd s.fuse s.m c r).result s.fuse.part.stackCount r := by
    have settled : ({ s.m with host := { s.m.host with mbxQueue := s.m.host.mbxQueue } } : Mach).settleMbx s.fuse.part.stackCount s.m.host.mbxQueue.length = s.m :=
      Mach.settleMbx_front front _
    have unqueued : ∀ m : Mach, ({ m with host := { m.host with mbxQueue := m.host.mbxQueue ++ [] } } : Mach) = m := fun m => by rw [List.append_nil]
    simp only [Mach.serve, serves, rom0, Bool.not_true, Bool.false_eq_true, if_false, settled, front, mine, unqueued]
    cases Mach.tryCmd s.fuse s.m c r <;> rfl
  rw [shoser, onMach, all, acts]

/-! ## The change log (R427) -/

theorem Reports.logShoser (m : Mach) (r : MbxReq) (s addr old new : Nat) (command refused : Bool) :
    Reports m (m.logShoser r s addr old new command refused) := Reports.logChange _ _ _

theorem Reports.fresh (m : Mach) (w : Nat) : Reports m (m.fresh w).2 := ⟨rfl, fun _ _ => rfl, fun _ _ _ _ => rfl⟩

theorem Reports.logCmd (m : Mach) (n : Nat) (r : MbxReq) (refused : Bool) : Reports m (m.logCmd n r refused) :=
  Reports.foldl _ (fun m _ => ((Reports.fresh m 64).trans (Reports.fresh _ 64)).trans (Reports.logShoser _ _ _ _ _ _ _ _)) _ m

theorem Reports.logRegs (f : Fuse) (m0 m : Mach) (r : MbxReq) (s : Nat) (l : List (List Fld × Nat)) : Reports m (Mach.logRegs f m0 m r s l) := by
  refine Reports.foldl _ (fun x e => ?_) l m
  split
  · exact Reports.refl x
  · dsimp only
    split
    · exact Reports.refl x
    · exact Reports.logShoser _ _ _ _ _ _ _ _

/-- A command that is refused changes nothing but the logs. -/
theorem lands_noLogged {s : State} {i : Instr} {c : Cmd} {r : MbxReq} {st : Nat} {p : List Byte} (runs : exec i s = shoser c s) (h : Served s c.op r)
    (mine : c.mine r = true) (fits : c.fits s.m s.fuse.part.stackCount r = true)
    (acts : c.act s.fuse s.m r = s.m.noLogged s.fuse.part.stackCount r st p) : Lands i s (fun t => Completes s t r st p) :=
  ⟨_, runs.trans (shoser_served h mine fits), _, Ends.of_reports (Reports.logCmd _ _ _ _), by rw [acts]; rfl⟩

/-- A command that waits and has done nothing leaves the state. -/
theorem lands_wait {s : State} {i : Instr} {c : Cmd} {r : MbxReq} {m : Mach} (runs : exec i s = shoser c s) (h : Served s c.op r)
    (mine : c.mine r = true) (fits : c.fits s.m s.fuse.part.stackCount r = true) (acts : c.act s.fuse s.m r = .wait m) :
    Lands i s (fun t => t = { s with m := m }) :=
  ⟨_, runs.trans (shoser_served h mine fits), by rw [acts]; rfl⟩

/-- A command that completes does so once its own effect has been made. -/
theorem lands_done {s : State} {i : Instr} {c : Cmd} {r : MbxReq} {m : Mach} {st : Nat} {p : List Byte} (runs : exec i s = shoser c s)
    (h : Served s c.op r) (mine : c.mine r = true) (fits : c.fits s.m s.fuse.part.stackCount r = true) (acts : c.act s.fuse s.m r = .done m st p) :
    Lands i s (fun t => Completed s t r st p m) :=
  ⟨_, runs.trans (shoser_served h mine fits), by rw [acts]; rfl⟩

end Sys2Proof.Machine
end

section
/-! SUPPORT. ROUTE_LOAD: the table written, the links chosen, the peers told (R350, R352, R354). -/

namespace Sys2Proof.Machine

/-! ## Entries of the table -/

theorem route_key {f : Fld} (h : f ∈ Reg.LNK_ROUTE_fields) (i : Nat) : f.key i = (0x49C_0000 + i % 16384 * 8) * 64 + f.lo ∧ f.lo < 64 := by
  simp only [Reg.LNK_ROUTE_fields, List.mem_cons, List.not_mem_nil, or_false] at h
  rcases h with rfl | rfl | rfl | rfl | rfl | rfl <;> refine ⟨?_, by decide⟩ <;>
    simp only [Fld.key, RegDef.off, Reg.LNK_ROUTE, Reg.LNK_ROUTE_HOP, Reg.LNK_ROUTE_ALT, Reg.LNK_ROUTE_LABEL, Reg.LNK_ROUTE_DST_SDID,
      Reg.LNK_ROUTE_CONVERT, Reg.LNK_ROUTE_VALID] <;> omega

theorem bits_lt (v lo w : Nat) : bits v lo w < 2 ^ w := Nat.mod_lt _ (Nat.two_pow_pos w)

/-- The fields of an entry of value v. -/
def routeFields (s i v : Nat) : List FieldVal := Reg.LNK_ROUTE_fields.map (fun f => (s, f, i, bits v f.lo f.width))

theorem Mach.setRoute_eq (m : Mach) (s i v : Nat) : m.setRoute s i v = m.setFs (routeFields s i v) := rfl

theorem Mach.setRoute_same (m : Mach) {s i v : Nat} (lt : s < 4) {f : Fld} (h : f ∈ Reg.LNK_ROUTE_fields) :
    (m.setRoute s i v).getF s f i = bits v f.lo f.width := by
  have different : (placesOf (routeFields s i v)).Nodup := by
    have spaced : ∀ k : Nat, [k * 64 + 0, k * 64 + 5, k * 64 + 16, k * 64 + 32, k * 64 + 48, k * 64 + 63].Nodup := by intro k; simp
    exact spaced _
  have listed : (s, f, i, bits v f.lo f.width) ∈ routeFields s i v := List.mem_map_of_mem h
  have reads := Mach.getF_setFs_listed (routeFields s i v) m different (fun e mem => by
    obtain ⟨g, -, rfl⟩ := List.mem_map.mp mem; exact lt) _ listed
  rw [Mach.setRoute_eq, reads, Nat.mod_eq_of_lt (bits_lt _ _ _)]

theorem Mach.setRoute_other (m : Mach) (s v u : Nat) {i : Nat} {g : Fld} {j : Nat} (h : ∀ f ∈ Reg.LNK_ROUTE_fields, f.key i ≠ g.key j) :
    (m.setRoute s i v).getF u g j = m.getF u g j := by
  rw [Mach.setRoute_eq]
  refine Mach.getF_setFs_notListed _ m fun e mem same => ?_
  obtain ⟨f, member, rfl⟩ := List.mem_map.mp mem
  exact h f member same.2

/-- The table after c entries from index `first` on have been written. -/
theorem Mach.setRoutes_getF (m : Mach) {s : Nat} (lt : s < 4) (first : Nat) (v : Nat → Nat) {f : Fld} (h : f ∈ Reg.LNK_ROUTE_fields) {i : Nat} (bound : i < 16384)
    (c : Nat) (fits : first + c ≤ 16384) :
    (((List.range c).map (fun i => (first + i, v i))).foldl (fun m e => m.setRoute s e.1 e.2) m).getF s f i =
      if first ≤ i ∧ i < first + c then bits (v (i - first)) f.lo f.width else m.getF s f i := by
  induction c with
  | zero => rw [if_neg (by omega)]; rfl
  | succ c ih =>
    rw [List.range_succ, List.map_append, List.foldl_append, List.map_cons, List.map_nil, List.foldl_cons, List.foldl_nil]
    by_cases last : i = first + c
    · subst last
      rw [Mach.setRoute_same _ lt h, if_pos (by omega), Nat.add_sub_cancel_left]
    · rw [Mach.setRoute_other, ih (by omega)]
      · exact if_congr (by omega) rfl rfl
      · intro g member same
        dsimp only at same
        obtain ⟨one, lo⟩ := route_key member (first + c)
        obtain ⟨two, lo'⟩ := route_key h i
        omega

/-- A table written keeps every register that is no entry of it. -/
theorem Mach.setRoutes_other (l : List (Nat × Nat)) (m : Mach) (s u : Nat) {g : Fld} {j : Nat} (h : ∀ f ∈ Reg.LNK_ROUTE_fields, ∀ i, f.key i ≠ g.key j) :
    (l.foldl (fun m e => m.setRoute s e.1 e.2) m).getF u g j = m.getF u g j := by
  induction l generalizing m with
  | nil => rfl
  | cons e r ih => rw [List.foldl_cons, ih, Mach.setRoute_other _ _ _ _ fun f mem => h f mem e.1]

theorem SMap.find_filter_none {α : Type} (l : SMap α) (p : Nat × α → Bool) (k : Nat) (h : ∀ v, p (k, v) = false) : SMap.find (l.filter p) k = none := by
  induction l with
  | nil => rfl
  | cons e r ih =>
    obtain ⟨i, v⟩ := e
    rw [List.filter_cons]
    split
    · rename_i kept
      have other : i ≠ k := fun same => by subst same; rw [h v] at kept; cases kept
      rw [SMap.find, if_neg other, ih]
    · exact ih

/-- A range of offsets returned to reset values. -/
theorem Mach.getF_resetRange (m : Mach) {s : Nat} (lt : s < 4) (lo hi : Nat) {f : Fld} {j : Nat} (above : lo * 64 ≤ f.key j) (below : f.key j < hi * 64) :
    (m.resetRange s lo hi).getF s f j = f.resetAt s j := by
  rw [Mach.getF, Mach.resetRange, Mach.stk_updStk_same _ _ lt, SMap.getD, SMap.find_filter_none]
  · rfl
  · intro v
    simp only [Bool.or_false, Bool.or_eq_false_iff, decide_eq_false_iff_not]
    omega

/-! ## The links that a table uses (R352, R354) -/

/-- The table's plan, its routes on ALT, and those that have failed. -/
def routeView : View (Option Nat × List Nat × List Nat) :=
  ⟨fun k => (k.link.tablePlan, k.link.onAlt, k.link.failed), fun _ _ => rfl, fun _ _ => rfl, fun _ _ => rfl, fun _ _ => rfl⟩

/-- No register is in a report, nor any part of the table: links alone have changed, beside memory kept. -/
structure LinksOnly (m n : Mach) : Prop where
  frame : Frame (fun _ => false) m n
  part  : ∀ k, routeView.of (n.stk k) = routeView.of (m.stk k)

namespace LinksOnly

theorem refl (m : Mach) : LinksOnly m m := ⟨Frame.refl m, fun _ => rfl⟩

theorem trans {m n p : Mach} (h : LinksOnly m n) (g : LinksOnly n p) : LinksOnly m p := ⟨h.frame.trans g.frame, fun k => (g.part k).trans (h.part k)⟩

theorem updLnk (m : Mach) (s n : Nat) (f : Link → Link) : LinksOnly m (m.updLnk s n f) :=
  ⟨Frame.updLnk _ _ _ _, (Steady.updStk (z := []) (V := routeView) m s (fun k => { k with link := { k.link with
    links := SMap.put k.link.links n (f (SMap.getD k.link.links n {})) } }) rfl rfl).part⟩

theorem closeDead (m : Mach) (s n : Nat) : LinksOnly m (m.closeDead s n) := by
  unfold Mach.closeDead
  split
  · split
    · exact refl m
    · exact updLnk _ _ _ _
  · exact refl m

theorem pump (m : Mach) (s n : Nat) : LinksOnly m (m.pump s n) := by
  unfold Mach.pump
  split
  · exact (closeDead m s n).trans (updLnk _ _ _ _)
  · exact refl m

theorem linkPush (m : Mach) (s n : Nat) (fs : List OutFlit) : LinksOnly m (m.linkPush s n fs) := (updLnk m s n _).trans (pump _ _ _)

theorem announce (m : Mach) (s n : Nat) : LinksOnly m (m.announce s n) := by
  unfold Mach.announce
  split
  · exact linkPush _ _ _ _
  · exact refl m

theorem foldl {α : Type} (f : Mach → α → Mach) (h : ∀ m x, LinksOnly m (f m x)) (l : List α) (m : Mach) : LinksOnly m (l.foldl f m) := by
  induction l generalizing m with
  | nil => exact refl m
  | cons x r ih => exact (h m x).trans (ih _)

theorem getF {m n : Mach} (h : LinksOnly m n) (v : Nat) (f : Fld) (j : Nat) : n.getF v f j = m.getF v f j := h.frame.regs v f j rfl

end LinksOnly

/-- Route r of a table just loaded is to use ALT: its HOP is down and its ALT is UP. -/
def Mach.wantsAlt (m : Mach) (s r : Nat) : Bool :=
  m.getB s Reg.LNK_ROUTE_VALID r && decide (m.getF s Reg.LNK_ROUTE_HOP r ≠ 0x1F) && !m.linkGoes s (m.getF s Reg.LNK_ROUTE_HOP r) &&
    decide (m.getF s Reg.LNK_ROUTE_ALT r < 24) && m.linkUp s (m.getF s Reg.LNK_ROUTE_ALT r)

theorem Mach.wantsAlt_congr {m n : Mach} (h : SameFields m n) (s r : Nat) : n.wantsAlt s r = m.wantsAlt s r := by
  simp only [Mach.wantsAlt, Mach.linkGoes, Mach.linkUp, Mach.getB, h]

theorem Mach.chooseHop_eq (m : Mach) (s r : Nat) :
    m.chooseHop s r = if m.wantsAlt s r then m.moveRoute s r (m.getF s Reg.LNK_ROUTE_HOP r) (m.getF s Reg.LNK_ROUTE_ALT r) true else m := rfl

/-- A route moved to its ALT enters the list of those on it, and nothing else of the table changes. -/
theorem Mach.moveRoute_alt (m : Mach) {s : Nat} (lt : s < 4) (r n d : Nat) :
    Frame (fun _ => false) m (m.moveRoute s r n d true) ∧
    routeView.of ((m.moveRoute s r n d true).stk s) = ((m.stk s).link.tablePlan, (m.stk s).link.onAlt ++ [r], (m.stk s).link.failed) := by
  unfold Mach.moveRoute
  dsimp only
  refine ⟨((Frame.updLnk _ _ _ _).trans (Frame.updLinks _ _ _)).trans (Frame.linkPush _ _ _ _), ?_⟩
  rw [(LinksOnly.linkPush _ _ _ _).part, Mach.updLinks, Mach.stk_updStk_same _ _ lt, Mach.updLnk, Mach.updLinks, Mach.stk_updStk_same _ _ lt]
  rfl

/-- Each route of a list that is to use ALT is on it afterwards, and nothing else of the table changes. -/
theorem Mach.chooseHops (l : List Nat) (m : Mach) {s : Nat} (lt : s < 4) :
    Frame (fun _ => false) m (l.foldl (fun m i => m.chooseHop s i) m) ∧
    routeView.of ((l.foldl (fun m i => m.chooseHop s i) m).stk s) =
      ((m.stk s).link.tablePlan, (m.stk s).link.onAlt ++ l.filter (m.wantsAlt s), (m.stk s).link.failed) := by
  induction l generalizing m with
  | nil => exact ⟨Frame.refl m, by rw [List.filter_nil, List.append_nil]; rfl⟩
  | cons i r ih =>
    rw [List.foldl_cons, Mach.chooseHop_eq, List.filter_cons]
    split
    · obtain ⟨frame, part⟩ := m.moveRoute_alt lt i (m.getF s Reg.LNK_ROUTE_HOP i) (m.getF s Reg.LNK_ROUTE_ALT i)
      obtain ⟨frames, parts⟩ := ih (m.moveRoute s i (m.getF s Reg.LNK_ROUTE_HOP i) (m.getF s Reg.LNK_ROUTE_ALT i) true)
      have same : ∀ x, Mach.wantsAlt (m.moveRoute s i (m.getF s Reg.LNK_ROUTE_HOP i) (m.getF s Reg.LNK_ROUTE_ALT i) true) s x = m.wantsAlt s x :=
        fun x => Mach.wantsAlt_congr (fun v f j => frame.regs v f j rfl) s x
      refine ⟨frame.trans frames, parts.trans ?_⟩
      simp only [routeView, Prod.mk.injEq] at part
      obtain ⟨plan, alt, failed⟩ := part
      rw [plan, alt, failed, funext same, List.append_assoc]; rfl
    · exact ih m

/-! ## ROUTE_LOAD -/

/-- The table of stack s before entries are written: as it is, or cleared where it is another plan's. -/
def Mach.tableStart (m : Mach) (s id : Nat) : Mach :=
  if (m.stk s).link.tablePlan = some id then m
  else (m.resetRange s Reg.LNK_ROUTE.base (Reg.LNK_ROUTE.base + 16384 * 8)).setF s Reg.LNK_ROUTE_STATUS_FAILED_ROUTES 0

/-- The entries of request r written. -/
def Mach.tableWritten (m : Mach) (r : MbxReq) : Mach :=
  (routeEntries r).foldl (fun m e => m.setRoute r.stack e.1 e.2) (m.tableStart r.stack (r.arg 0 8))

/-- The table is that of the request's plan, and each of its routes uses a link. -/
def Mach.tableChosen (m : Mach) (r : MbxReq) : Mach :=
  (List.range 16384).foldl (fun m i => m.chooseHop r.stack i)
    ((m.tableWritten r).updLinks r.stack (fun k => { k with tablePlan := some (r.arg 0 8), onAlt := [], failed := [] }))

/-- Its entries are counted. -/
def Mach.tableCounted (m : Mach) (r : MbxReq) : Mach :=
  let n := m.tableChosen r
  (n.setF r.stack Reg.LNK_ROUTE_STATUS_ENTRIES ((List.range 16384).filter (fun i => n.getB r.stack Reg.LNK_ROUTE_VALID i)).length).setF r.stack
    Reg.LNK_ROUTE_STATUS_LOADED 1

/-- Every peer is told. -/
def Mach.tableTold (m : Mach) (r : MbxReq) : Mach :=
  (List.range 24).foldl (fun n k => if n.linkUp r.stack k then n.announce r.stack k else n) (m.tableCounted r)

theorem Mach.routeLoad_off (f : Fuse) (m : Mach) (r : MbxReq) (off : m.planOn r.stack = false) : ∃ n, m.routeLoad f r = .done n 0 [] ∧ Reports (m.tableTold r) n := by
  have shape : ∃ l, Mach.routeLoad f m r = .done (Mach.logRegs f m
      (if (m.stk r.stack).link.tablePlan = some (r.arg 0 8) then m.tableTold r else (m.tableTold r).logCmd f.part.stackCount r false) r r.stack l) 0 [] := by
    refine ⟨(Reg.LNK_ROUTE_STATUS_fields, 0) :: (routeEntries r).map (fun e => (Reg.LNK_ROUTE_fields, e.1)), ?_⟩
    exact if_neg (c := m.planOn r.stack = true) (by rw [off]; decide)
  obtain ⟨l, e⟩ := shape
  refine ⟨_, e, Reports.trans ?_ (Reports.logRegs _ _ _ _ _ _)⟩
  split
  · exact Reports.refl _
  · exact Reports.logCmd _ _ _ _

/-- The place of LNK_ROUTE_STATUS. -/
def statusPlace (p : Nat) : Bool := decide (p / 64 = 0x499_0008)

theorem Mach.tableChosen_spec (m : Mach) (r : MbxReq) (lt : r.stack < 4) :
    Frame (fun _ => false) (m.tableWritten r) (m.tableChosen r) ∧
    routeView.of ((m.tableChosen r).stk r.stack) = (some (r.arg 0 8), (List.range 16384).filter ((m.tableWritten r).wantsAlt r.stack), []) := by
  unfold Mach.tableChosen
  generalize eq : (m.tableWritten r).updLinks r.stack (fun k => { k with tablePlan := some (r.arg 0 8), onAlt := [], failed := [] }) = n
  obtain ⟨frame, part⟩ := n.chooseHops (List.range 16384) lt
  have first : Frame (fun _ => false) (m.tableWritten r) n := eq ▸ Frame.updLinks _ _ _
  have link : (n.stk r.stack).link = { ((m.tableWritten r).stk r.stack).link with tablePlan := some (r.arg 0 8), onAlt := [], failed := [] } := by
    rw [← eq]
    exact congrArg Stack.link (Mach.stk_updStk_same _ _ lt)
  refine ⟨first.trans frame, part.trans ?_⟩
  rw [link, funext (Mach.wantsAlt_congr (fun v f j => first.regs v f j rfl) r.stack), List.nil_append]

/-- Counting a table's entries and telling its peers changes LNK_ROUTE_STATUS alone, beside links. -/
theorem Mach.tableTold_spec (m : Mach) (r : MbxReq) (lt : r.stack < 4) :
    let n := m.tableTold r
    Frame statusPlace (m.tableWritten r) n ∧
    routeView.of (n.stk r.stack) = (some (r.arg 0 8), (List.range 16384).filter ((m.tableWritten r).wantsAlt r.stack), []) ∧
    n.getF r.stack Reg.LNK_ROUTE_STATUS_LOADED = 1 ∧
    n.getF r.stack Reg.LNK_ROUTE_STATUS_ENTRIES =
      ((List.range 16384).filter (fun i => (m.tableWritten r).getB r.stack Reg.LNK_ROUTE_VALID i)).length % 2 ^ Reg.LNK_ROUTE_STATUS_ENTRIES.width := by
  obtain ⟨frame, part⟩ := m.tableChosen_spec r lt
  have told : LinksOnly (m.tableCounted r) (m.tableTold r) := LinksOnly.foldl _ (fun n k => by
    split
    · exact LinksOnly.announce _ _ _
    · exact LinksOnly.refl _) _ _
  have widen : ∀ {a b : Mach}, Frame (fun _ => false) a b → Frame statusPlace a b := fun h => ⟨h.regs.mono fun _ x => (by cases x), h.stores⟩
  have counted : Frame statusPlace (m.tableChosen r) (m.tableCounted r) := (Frame.setF _ _ _ _ 0 (by decide)).trans (Frame.setF _ _ _ _ 0 (by decide))
  refine ⟨((widen frame).trans counted).trans (widen told.frame), (told.part _).trans (Eq.trans ?_ part), (told.getF _ _ _).trans ?_, (told.getF _ _ _).trans ?_⟩
  · exact ((Steady.setF (z := []) (V := routeView) _ _ _ _ 0 (by decide)).trans (Steady.setF _ _ _ _ 0 (by decide))).part _
  · exact Mach.getF_setF_same _ _ _ _ lt
  · have valid : ∀ i, (m.tableChosen r).getB r.stack Reg.LNK_ROUTE_VALID i = (m.tableWritten r).getB r.stack Reg.LNK_ROUTE_VALID i := fun i => by
      rw [Mach.getB, Mach.getB, frame.regs _ _ _ rfl]
    show ((Mach.setF _ _ Reg.LNK_ROUTE_STATUS_ENTRIES _ 0).setF _ Reg.LNK_ROUTE_STATUS_LOADED 1 0).getF _ _ 0 = _
    rw [Mach.getF_setF_key _ _ _ _ _ _ _ _ (by decide), Mach.getF_setF_same _ _ _ _ lt, funext valid]

/-- Writing the table keeps memory and the states of the links. -/
theorem Mach.tableWritten_keeps (m : Mach) (r : MbxReq) :
    SameStores m (m.tableWritten r) ∧ ∀ i, (m.tableWritten r).getF r.stack Reg.LNK_STATUS_STATE i = m.getF r.stack Reg.LNK_STATUS_STATE i := by
  have clear : ∀ f ∈ Reg.LNK_ROUTE_fields, clearOf [(0x480_0000, 0x499_0000)] f = true := by decide
  constructor
  · refine (Frame.trans (P := fun _ => true) ?_ (Frame.foldl _ _ (fun n e _ => Frame.foldl _ _ (fun n f _ => Frame.setF _ _ _ _ _ rfl) n) _)).stores
    exact Frame.ite _ (Frame.refl m) ⟨fun _ _ _ x => (by cases x), rfl, rfl, rfl⟩
  · intro i
    refine Steady.getF (z := [(0x480_0000, 0x499_0000)]) (V := planView) ?_ _ _ _ (by decide)
    refine Steady.trans ?_ (Steady.foldl _ _ (fun n e _ => Steady.foldl _ _ (fun n f mem => Steady.setF _ _ _ _ _ (clear f mem)) n) _)
    exact Steady.ite _ (Steady.refl m) ((Steady.resetRange _ _ _ _ (by decide)).trans (Steady.setF _ _ _ _ _ (by decide)))

/-- An entry of the table written: the request's, else the one before, or a cleared one. -/
theorem Mach.tableWritten_getF (m : Mach) (r : MbxReq) (lt : r.stack < 4) (fits : r.arg 8 2 + r.arg 10 2 ≤ 16384) {f : Fld} (h : f ∈ Reg.LNK_ROUTE_fields)
    {i : Nat} (bound : i < 16384) : (m.tableWritten r).getF r.stack f i =
      if r.arg 8 2 ≤ i ∧ i < r.arg 8 2 + r.arg 10 2 then bits (r.arg (16 + 8 * (i - r.arg 8 2)) 8) f.lo f.width
      else if (m.stk r.stack).link.tablePlan = some (r.arg 0 8) then m.getF r.stack f i else f.resetAt r.stack i := by
  have start : (m.tableStart r.stack (r.arg 0 8)).getF r.stack f i =
      if (m.stk r.stack).link.tablePlan = some (r.arg 0 8) then m.getF r.stack f i else f.resetAt r.stack i := by
    obtain ⟨key, lo⟩ := route_key h i
    unfold Mach.tableStart
    split
    · rfl
    · have apart : f.key i ≠ Reg.LNK_ROUTE_STATUS_FAILED_ROUTES.key 0 := by
        rw [key, show Reg.LNK_ROUTE_STATUS_FAILED_ROUTES.key 0 = 0x499_0008 * 64 + 16 by decide]; omega
      have base : Reg.LNK_ROUTE.base = 0x49C_0000 := rfl
      rw [Mach.getF_setF_key _ _ _ _ _ _ _ _ apart, Mach.getF_resetRange _ lt] <;> omega
  rw [← start]
  exact Mach.setRoutes_getF _ lt _ (fun i => r.arg (16 + 8 * i) 8) h bound _ fits

theorem Mach.wantsAlt_iff (m : Mach) (s r : Nat) : m.wantsAlt s r = true ↔
    m.getB s Reg.LNK_ROUTE_VALID r = true ∧ m.getF s Reg.LNK_ROUTE_HOP r ≠ 0x1F ∧ m.linkGoes s (m.getF s Reg.LNK_ROUTE_HOP r) = false ∧
      m.getF s Reg.LNK_ROUTE_ALT r < 24 ∧ m.linkUp s (m.getF s Reg.LNK_ROUTE_ALT r) = true := by
  simp only [Mach.wantsAlt, Bool.and_eq_true, decide_eq_true_eq, Bool.not_eq_true', and_assoc]

/-- A ROUTE_LOAD addresses one stack. -/
theorem routeLoad_stack {m : Mach} {n : Nat} {r : MbxReq} (h : m.frontReq n 0x0205 = some r) : r.stack < n :=
  (Mach.frontReq_stack h).resolve_right fun all => absurd all.2 (by decide)

/-- What ROUTE_LOAD leaves, once its request is served on a stack without a plan. -/
theorem routeLoad_done {s : State} {r : MbxReq} {m : Mach} (rep : Reports (s.m.tableTold r) m) (lt : r.stack < 4)
    (fits : r.arg 8 2 + r.arg 10 2 ≤ 16384) :
    let k := r.stack
    let first := r.arg 8 2
    let same : Prop := (s.m.stk k).link.tablePlan = some (r.arg 0 8)
    m.getF k Reg.LNK_ROUTE_STATUS_LOADED = 1 ∧
    m.getF k Reg.LNK_ROUTE_STATUS_ENTRIES = ((List.range 16384).filter (fun i => m.getB k Reg.LNK_ROUTE_VALID i)).length % 2 ^ Reg.LNK_ROUTE_STATUS_ENTRIES.width ∧
    (m.stk k).link.tablePlan = some (r.arg 0 8) ∧ (∀ i, i ∈ (m.stk k).link.onAlt ↔ i < 16384 ∧ m.getB k Reg.LNK_ROUTE_VALID i = true ∧ m.getF k Reg.LNK_ROUTE_HOP i ≠ 0x1F ∧
      s.m.linkGoes k (m.getF k Reg.LNK_ROUTE_HOP i) = false ∧ m.getF k Reg.LNK_ROUTE_ALT i < 24 ∧ s.m.linkUp k (m.getF k Reg.LNK_ROUTE_ALT i) = true) ∧
    (m.stk k).link.failed = [] ∧ m.mem = s.m.mem ∧ m.tier = s.m.tier ∧
    ∀ i, i < 16384 → ∀ f ∈ Reg.LNK_ROUTE_fields,
      (first ≤ i → i < first + r.arg 10 2 → m.getF k f i = bits (r.arg (16 + 8 * (i - first)) 8) f.lo f.width) ∧
      (i < first ∨ first + r.arg 10 2 ≤ i → (same → m.getF k f i = s.m.getF k f i) ∧ (¬same → m.getF k f i = f.resetAt k i)) := by
  intro k first same
  obtain ⟨frame, part, loaded, entries⟩ := s.m.tableTold_spec r lt
  obtain ⟨stores, states⟩ := s.m.tableWritten_keeps r
  change ∀ i, (s.m.tableWritten r).getF k Reg.LNK_STATUS_STATE i = s.m.getF k Reg.LNK_STATUS_STATE i at states
  have logged : Steady planZone routeView (s.m.tableTold r) m := Steady.of_reports outside_of_report rep
  have table : ∀ f ∈ Reg.LNK_ROUTE_fields, ∀ i, m.getF k f i = (s.m.tableWritten r).getF k f i := by
    intro f mem i
    have inside : ∀ f ∈ Reg.LNK_ROUTE_fields, insideOf planZone f = true := by decide
    refine (logged.getF k f i (inside f mem)).trans (frame.regs k f i ?_)
    obtain ⟨key, lo⟩ := route_key mem i
    simp only [statusPlace, key, decide_eq_false_iff_not]
    omega
  have valid : ∀ i, m.getB k Reg.LNK_ROUTE_VALID i = (s.m.tableWritten r).getB k Reg.LNK_ROUTE_VALID i := fun i => by
    rw [Mach.getB, Mach.getB, table _ (by decide)]
  have part : routeView.of (m.stk k) = _ := (logged.part k).trans part
  simp only [routeView, Prod.mk.injEq] at part
  obtain ⟨plan, onAlt, failed⟩ := part
  have goes : ∀ n, (s.m.tableWritten r).linkGoes k n = s.m.linkGoes k n := fun n => by simp only [Mach.linkGoes, Mach.linkUp, states]
  have ups : ∀ n, (s.m.tableWritten r).linkUp k n = s.m.linkUp k n := fun n => by simp only [Mach.linkUp, states]
  refine ⟨(logged.getF _ _ _ (by decide)).trans loaded, ?_, plan, fun i => ?_, failed,
    rep.stores.1.trans (frame.stores.1.trans stores.1), rep.stores.2.1.trans (frame.stores.2.1.trans stores.2.1), fun i bound f mem => ?_⟩
  · rw [logged.getF _ _ _ (by decide), entries, funext valid]
  · rw [onAlt, List.mem_filter, List.mem_range, Mach.wantsAlt_iff, goes, ups, valid, table _ (by decide), table _ (by decide)]
  · rw [table f mem, Mach.tableWritten_getF _ _ lt fits mem bound]
    refine ⟨fun above below => if_pos ⟨above, below⟩, fun away => ?_⟩
    rw [if_neg (by omega)]
    exact ⟨fun same => if_pos same, fun other => if_neg other⟩

theorem routeLoad_lands {s : State} {r : MbxReq} (h : Served s 0x0205 r) (some : 1 ≤ r.arg 10 2) (most : r.arg 10 2 ≤ 500)
    (length : r.payload.length = 16 + 8 * r.arg 10 2) (zero : r.arg 12 4 = 0) (fits : r.arg 8 2 + r.arg 10 2 ≤ 16384)
    (entries : ∀ e ∈ routeEntries r, lk6Ok e.2 = true) :
    (s.m.planOn r.stack = true → Lands .routeLoad s (fun t => Completes s t r 0x0010)) ∧
    (s.m.planOn r.stack = false → Lands .routeLoad s (fun t => ∃ m, Completed s t r 0 [] m ∧ Reports (s.m.tableTold r) m)) := by
  have fit : (decide (16 ≤ r.payload.length) && decide (1 ≤ r.arg 10 2) && decide (r.arg 10 2 ≤ 500) && r.len (16 + 8 * r.arg 10 2) &&
      r.arg 12 4 = 0 && decide (r.arg 8 2 + r.arg 10 2 ≤ 16384) && (routeEntries r).all (fun e => lk6Ok e.2)) = true := by
    simp only [Bool.and_eq_true, decide_eq_true_eq, List.all_eq_true, MbxReq.len]
    exact ⟨⟨⟨⟨⟨⟨by omega, some⟩, most⟩, length⟩, zero⟩, fits⟩, entries⟩
  have runs : exec .routeLoad s = execRouteLoad s := rfl
  unfold execRouteLoad at runs
  constructor
  · intro on
    exact lands_noLogged runs h rfl fit (if_pos on)
  · intro off
    obtain ⟨m, acts, rep⟩ := s.m.routeLoad_off s.fuse r off
    obtain ⟨t, e, done⟩ := lands_done runs h rfl fit acts
    exact ⟨t, e, m, done, rep⟩

end Sys2Proof.Machine
end

section
/-! SUPPORT. PLAN_START and PLAN_ABORT: what starting or ending a plan keeps of the plan states of the other stacks (R45, R76). -/

namespace Sys2Proof.Machine

/-- What f brings about for its element, and keeps for every other, holds for each element of a list in the end. -/
theorem foldl_establishes {α : Type} {Q : α → Mach → Prop} (f : Mach → α → Mach) (l : List α) (make : ∀ m x, x ∈ l → Q x (f m x))
    (keep : ∀ m x y, x ∈ l → Q y m → Q y (f m x)) (m : Mach) : ∀ x ∈ l, Q x (l.foldl f m) := by
  have kept : ∀ (r : List α) (m : Mach) (y : α), (∀ x ∈ r, x ∈ l) → Q y m → Q y (r.foldl f m) := by
    intro r
    induction r with
    | nil => exact fun _ _ _ h => h
    | cons x r ih => exact fun m y sub h => ih _ y (fun z mem => sub z (List.mem_cons_of_mem _ mem)) (keep _ _ _ (sub x List.mem_cons_self) h)
  have made : ∀ (r : List α) (m : Mach), (∀ x ∈ r, x ∈ l) → ∀ x ∈ r, Q x (r.foldl f m) := by
    intro r
    induction r with
    | nil => exact fun _ _ _ h => by cases h
    | cons x r ih =>
      intro m sub y mem
      have rest : ∀ z ∈ r, z ∈ l := fun z mem => sub z (List.mem_cons_of_mem _ mem)
      rcases List.mem_cons.mp mem with rfl | mem
      · exact kept r _ _ rest (make _ _ (sub y List.mem_cons_self))
      · exact ih _ rest y mem
  exact made l m fun _ h => h

theorem Mach.planStacks_lt {m : Mach} {n op : Nat} {r : MbxReq} (h : m.frontReq n op = some r) (on : Nat → Bool) (anyId : Bool) :
    ∀ k ∈ m.planStacks r n on anyId, k < n ∧ on k = true := by
  intro k mem
  obtain ⟨addressed, picked⟩ := List.mem_filter.mp mem
  exact ⟨Mach.frontReq_stackSet h k addressed, Bool.and_elim_left picked⟩

/-! ## PLAN_START (R45) -/

theorem Steady.fetchText {β : Type} {V : View β} (m : Mach) (c : CoreDir) : Steady planZone V m (m.fetchText c) :=
  (Steady.performRead m false (m.textHome c) c.textSize).trans (Steady.performWrite _ _ _ _)

theorem Steady.syncScript {β : Type} {V : View β} (m : Mach) (s L : Nat) : Steady planZone V m (m.syncScript s L) :=
  ((Steady.setF m s Reg.CORE_SCRIPT_STATE_SCRIPT_INDEX _ _ (by decide)).trans
    (Steady.setF _ s Reg.CORE_SCRIPT_STATE_WAITING_TOKEN _ _ (by decide))).trans (Steady.setF _ s Reg.CORE_SCRIPT_STATE_WAITING_CREDIT _ _ (by decide))

/-- A view that nothing shows in. -/
def noView : View Unit := ⟨fun _ => (), fun _ _ => rfl, fun _ _ => rfl, fun _ _ => rfl, fun _ _ => rfl⟩

/-- A start at stack s is steady up to its plan's state, which it sets. -/
theorem Mach.startOn_steady (m : Mach) (s : Nat) : ∃ a, Steady planZone noView m a ∧ Steady planZone noView (a.setF s Reg.BUR_PLAN_STATE_STATE 2) (m.startOn s) := by
  unfold Mach.startOn
  refine ⟨_, ?_, Steady.foldl _ _ (fun _ _ _ => Steady.syncScript _ _ _) _⟩
  exact (Steady.foldl _ _ (fun _ _ _ => Steady.fetchText _ _) m).trans (Steady.updStk _ _ _ rfl rfl)

theorem Mach.startOn_state (m : Mach) {s : Nat} (lt : s < 4) : (m.startOn s).getF s Reg.BUR_PLAN_STATE_STATE = 2 := by
  obtain ⟨a, -, after⟩ := m.startOn_steady s
  rw [after.getF _ _ _ (by decide), Mach.getF_setF_same _ _ _ _ lt]
  rfl

theorem Mach.startOn_state_other (m : Mach) {s k : Nat} (h : k ≠ s) : (m.startOn s).getF k Reg.BUR_PLAN_STATE_STATE = m.getF k Reg.BUR_PLAN_STATE_STATE := by
  obtain ⟨a, before, after⟩ := m.startOn_steady s
  rw [after.getF _ _ _ (by decide), Mach.getF_setF_stack _ _ _ _ _ _ h, before.getF _ _ _ (by decide)]

theorem Mach.startAll_state (l : List Nat) (m : Mach) (lt : ∀ k ∈ l, k < 4) : ∀ k ∈ l, (l.foldl Mach.startOn m).getF k Reg.BUR_PLAN_STATE_STATE = 2 := by
  refine foldl_establishes (Q := fun k m => m.getF k Reg.BUR_PLAN_STATE_STATE = 2) _ l (fun m s mem => m.startOn_state (lt s mem)) (fun m s k mem h => ?_) m
  by_cases same : k = s
  · subst same; exact m.startOn_state (lt k mem)
  · exact (m.startOn_state_other same).trans h

theorem planStart_lands {s : State} {r : MbxReq} (h : Served s 0x0202 r) (length : r.payload.length = 8) : let n := s.fuse.part.stackCount
    let l := s.m.planStacks r n (fun k => s.m.planOn k && !s.m.planRunning k) false
    let spans := l.flatMap (fun k => ((s.m.plan k).cores.filter (fun c => c.stack = k)).flatMap (fun c =>
      [(s.m.textHome c, c.textSize), (localAddr k (s.m.homeOfIndex k c.index) c.loadAddr, c.textSize)]))
    (l = [] → Lands .planStart s (fun t => Completes s t r (if s.m.planStacks r n s.m.planRunning false = [] then 0x0017 else 0x0010))) ∧
    (l ≠ [] → s.m.anyHeld spans = true → Lands .planStart s (fun t => t = s)) ∧
    (l ≠ [] → s.m.anyHeld spans = false → Lands .planStart s (fun t => ∃ m, Completed s t r 0 [] m ∧ ∀ k ∈ l, m.getF k Reg.BUR_PLAN_STATE_STATE = 2)) := by
  intro n l spans
  have fit : r.len 8 = true := decide_eq_true length
  have runs : exec .planStart s = execPlanStart s := rfl
  unfold execPlanStart at runs
  refine ⟨fun empty => ?_, fun listed held => ?_, fun listed free => ?_⟩
  · exact lands_noLogged runs h rfl fit (if_pos empty)
  · exact lands_wait runs h rfl fit ((if_neg listed).trans (if_pos held))
  · obtain ⟨t, e, done⟩ := lands_done runs h rfl fit ((if_neg listed).trans (if_neg (c := s.m.anyHeld spans = true) (by rw [free]; decide)))
    refine ⟨t, e, _, done, fun k mem => ?_⟩
    have lt : ∀ k ∈ l, k < 4 := fun k mem => Nat.lt_of_lt_of_le (Mach.planStacks_lt h.1.2.1 _ _ k mem).1 (stackCount_le _)
    have logged : Reports (l.foldl Mach.startOn s.m) _ := (Reports.foldl _ (fun x j => Reports.logRegs s.fuse s.m x r j [(Reg.BUR_PLAN_STATE_fields, 0)]) l _).trans
      (Reports.logCmd _ n r false)
    exact (logged.regs k Reg.BUR_PLAN_STATE_STATE 0 (by decide)).trans (Mach.startAll_state l s.m lt k mem)

/-! ## PLAN_ABORT (R76) -/

namespace Steady

theorem stopChain (m : Mach) (s c status : Nat) (last : Bool) : Steady planZone endView m (m.stopChain s c status last) := by
  unfold Mach.stopChain
  have status := (setF (z := planZone) (V := endView) m s Reg.MOV_CH_STATUS_STATUS status c (by decide)).trans (setF _ s Reg.MOV_CH_CTRL_BUSY 0 c (by decide))
  have released : ∀ n : Mach, Steady planZone endView n (n.release s (72 + c)) := fun n =>
    (setF n s Reg.REG_OWNER_OWNER 0 _ (by decide)).trans (setF _ s Reg.REG_OWNER_CLASS 0 _ (by decide))
  exact after (reports (Reports.srcEdge _ _ _)) (after (setF _ _ _ _ _ (by decide)) (after (released _) (after (updStk _ _ _ rfl rfl) status)))

theorem abortChain (m : Mach) (s c : Nat) : Steady planZone endView m (m.abortChain s c) :=
  ite _ (((setF m s Reg.MOV_CH_CTRL_ERROR 1 c (by decide)).trans (reports (Reports.logError _ _ _ _ _ _ _))).trans (stopChain _ _ _ _ _)) (refl m)

theorem clearDead {β : Type} {V : View β} (m : Mach) (s : Nat) : Steady planZone V m (m.clearDead s) := by
  unfold Mach.clearDead
  have revived := foldl (z := planZone) (V := V) (fun m L => match m.cline s L with
    | some c => (m.sramWrite (cellAddr s (m.home s L) c.way) (m.backing s L)).updLine s L (fun c => { c with dirty := false })
    | none => m) (m.stk s).cache.dead (fun m L _ => by
      split
      · exact (sramWrite _ _ _).trans (updLine _ _ _ _)
      · exact refl m) m
  exact after (setF _ _ _ _ _ (by decide)) (after (setF _ _ _ _ _ (by decide)) (after (updCache _ _ _) revived))

theorem dropKeyed {β : Type} {V : View β} (cabs : ∀ k c, V.of { k with cabs := c } = V.of k) (m : Mach) (s : Nat) : Steady planZone V m (m.dropKeyed s) := by
  unfold Mach.dropKeyed
  dsimp only
  refine after (onStacks _ 2 _ fun n c => (setF n s Reg.CAB_ORDER_QUEUED 0 c (by decide)).trans (setF _ s Reg.CAB_ORDER_INTAKE_WAIT 0 c (by decide))) ?_
  exact after (updStk _ _ _ rfl (cabs _ _)) (of_stackSet rfl)

/-! Links change with the licences in effect: what follows keeps the plan state alone. -/

theorem of_planZone {β : Type} {V : View β} {m n : Mach} (h : Steady planZone V m n) : Steady stateZone V m n := mono outside_stateZone h

theorem linkBegin (m : Mach) (s n : Nat) : Steady stateZone endView m (m.linkBegin s n) := ite _ (setF _ _ _ _ _ (by decide)) (refl m)

theorem linkDisable (m : Mach) (s n : Nat) : Steady stateZone endView m (m.linkDisable s n) := by
  unfold Mach.linkDisable
  have off := (setF (z := stateZone) (V := endView) m s Reg.LNK_STATUS_STATE 0 n (by decide)).trans
    (updStk _ s (fun k => { k with link := { k.link with links := k.link.links.filter (fun e => e.1 ≠ n) } }) rfl rfl)
  have down := off.trans (setF _ s Reg.LNK_STATUS_DOWN_EVENT 1 n (by decide))
  exact ite _ (down.trans (of_planZone (reports ((Reports.srcEdge _ _ _).trans (Reports.event _ _ _ _ _))))) off

theorem linksSettle (m : Mach) (s l : Nat) : Steady stateZone endView m (m.linksSettle s l) :=
  foldl _ _ (fun m n _ => ite _ (linkBegin m s n) (ite _ (linkDisable m s n) (refl m))) m

theorem licencesSettle (m : Mach) (s l : Nat) : Steady stateZone endView m (m.licencesSettle s l) := by
  unfold Mach.licencesSettle
  have settled := linksSettle m s l
  refine ite _ settled (after (onStacks _ 2 _ fun n c => ?_) settled)
  exact ite _ ((setF n s Reg.CAB_LP_CFG_CHEST_SLOTS 0 c (by decide)).trans (setF _ s Reg.CAB_LP_CFG_CHEST_EN 0 c (by decide))) (refl n)

theorem planEnded (m : Mach) (s : Nat) : Steady stateZone endView m (m.planEnded s) := by
  unfold Mach.planEnded
  have stopped := foldl (z := planZone) (V := endView) (fun m c =>
    if m.getB s Reg.MOV_CH_CTRL_BOUND c then (m.abortChain s c).setF s Reg.MOV_CH_CTRL_BOUND 0 c else m) (List.range 64)
    (fun m c _ => ite _ ((abortChain m s c).trans (setF _ s Reg.MOV_CH_CTRL_BOUND 0 c (by decide))) (refl m)) m
  have cleared := of_planZone (stopped.trans (clearDead _ s))
  exact after (licencesSettle _ _ _) (after (setF _ _ _ _ _ (by decide)) (after (updStk _ _ _ rfl rfl) cleared))

end Steady

/-- What is left of a plan that has ended with a code on stack k. -/
def EndedWith (code k : Nat) (m : Mach) : Prop := m.getF k Reg.BUR_PLAN_STATE_STATE = 4 ∧ (m.stk k).plan.endStatus = code

/-- The plan of stack k, if one is LOADED or RUNNING, ends with a code. -/
def Mach.endOne (code : Nat) (m : Mach) (k : Nat) : Mach :=
  if m.planOn k then (((m.setF k Reg.BUR_PLAN_STATE_STATE 4).updPlan k (fun p => { p with endStatus := code })).planEnded k).dropKeyed k else m

theorem Mach.endPlan_eq {m : Mach} {s k : Nat} (lt : k < 4) (on : m.planOn k = true) (code : Nat) :
    m.endPlan s code = ((List.range 4).foldl (Mach.endOne code) m).event s 0x0002 [m.getF s Reg.BUR_PLAN_ID_PLAN_ID] code :=
  if_pos (List.any_eq_true.mpr ⟨k, List.mem_range.mpr lt, on⟩)

theorem Mach.endOne_steady (code : Nat) (m : Mach) {k : Nat} (on : m.planOn k = true) : Steady stateZone endView
    ((m.setF k Reg.BUR_PLAN_STATE_STATE 4).updPlan k (fun p => { p with endStatus := code })) (m.endOne code k) := by
  rw [Mach.endOne, if_pos on]
  exact (Steady.planEnded _ _).trans (Steady.of_planZone (Steady.dropKeyed (fun _ _ => rfl) _ _))

theorem Mach.endOne_same (code : Nat) (m : Mach) {k : Nat} (lt : k < 4) (on : m.planOn k = true) : EndedWith code k (m.endOne code k) := by
  have steady := m.endOne_steady code on
  refine ⟨(steady.getF _ _ _ (by decide)).trans ?_, (steady.part k).trans ?_⟩
  · rw [Mach.getF_updPlan, Mach.getF_setF_same _ _ _ _ lt]; rfl
  · exact congrArg endView.of (Mach.stk_updStk_same _ _ lt)

theorem Mach.endOne_other (code : Nat) (m : Mach) {k j : Nat} (h : k ≠ j) :
    (m.endOne code j).getF k Reg.BUR_PLAN_STATE_STATE = m.getF k Reg.BUR_PLAN_STATE_STATE ∧ ((m.endOne code j).stk k).plan.endStatus = (m.stk k).plan.endStatus := by
  cases on : m.planOn j
  · rw [Mach.endOne, if_neg (by rw [on]; decide)]
    exact ⟨rfl, rfl⟩
  · have steady := m.endOne_steady code on
    refine ⟨(steady.getF _ _ _ (by decide)).trans ?_, (steady.part k).trans ?_⟩
    · rw [Mach.getF_updPlan, Mach.getF_setF_stack _ _ _ _ _ _ h]
    · exact congrArg endView.of ((Mach.stk_updStk_ne _ _ h).trans (Mach.stk_updStk_ne _ _ h))

theorem Mach.endOthers (code : Nat) (l : List Nat) (m : Mach) {k : Nat} (away : k ∉ l) (h : EndedWith code k m) : EndedWith code k (l.foldl (Mach.endOne code) m) := by
  induction l generalizing m with
  | nil => exact h
  | cons j r ih =>
    obtain ⟨apart, rest⟩ := not_or.mp (mt List.mem_cons.mpr away)
    obtain ⟨state, status⟩ := m.endOne_other code apart
    exact ih _ rest ⟨state.trans h.1, status.trans h.2⟩

/-- Every stack of a list on which a plan was LOADED or RUNNING holds one that has ended with the code. -/
theorem Mach.endAll (code : Nat) (l : List Nat) (m : Mach) (different : l.Nodup) (within : ∀ k ∈ l, k < 4) :
    ∀ k ∈ l, m.planOn k = true → EndedWith code k (l.foldl (Mach.endOne code) m) := by
  induction l generalizing m with
  | nil => exact fun _ h => by cases h
  | cons j r ih =>
    intro k mem on
    obtain ⟨fresh, rest⟩ := List.nodup_cons.mp different
    rcases List.mem_cons.mp mem with rfl | mem
    · exact Mach.endOthers code r _ fresh (m.endOne_same code (within k List.mem_cons_self) on)
    · have apart : k ≠ j := fun same => fresh (same ▸ mem)
      refine ih _ rest (fun x h => within x (List.mem_cons_of_mem _ h)) k mem ?_
      rw [Mach.planOn, (m.endOne_other code apart).1]
      exact on

theorem Mach.endPlan_ends (m : Mach) (s code : Nat) {k : Nat} (lt : k < 4) (on : m.planOn k = true) : EndedWith code k (m.endPlan s code) := by
  obtain ⟨state, status⟩ := m.endAll code (List.range 4) List.nodup_range (fun _ => List.mem_range.mp) k (List.mem_range.mpr lt) on
  have told : Steady planZone endView ((List.range 4).foldl (Mach.endOne code) m) (m.endPlan s code) := by
    rw [Mach.endPlan_eq lt on]
    exact Steady.reports (Reports.event _ _ _ _ _)
  exact ⟨(told.getF _ _ _ (by decide)).trans state, (told.part k).trans status⟩

theorem planAbort_lands {s : State} {r : MbxReq} (h : Served s 0x0203 r) (length : r.payload.length = 8) :
    let l := s.m.planStacks r s.fuse.part.stackCount s.m.planOn true
    (l = [] → Lands .planAbort s (fun t => Completes s t r 0x0017)) ∧
    (l ≠ [] → Lands .planAbort s (fun t => ∃ m, Completed s t r 0 [] m ∧ ∀ k, k < 4 → s.m.planOn k = true →
      m.getF k Reg.BUR_PLAN_STATE_STATE = 4 ∧ (m.stk k).plan.endStatus = 0x0020)) := by
  intro l
  have fit : r.len 8 = true := decide_eq_true length
  have runs : exec .planAbort s = execPlanAbort s := rfl
  unfold execPlanAbort at runs
  cases addressed : l with
  | nil => exact ⟨fun _ => lands_noLogged runs h rfl fit (by simp only [l] at addressed; simp only [addressed]), fun listed => absurd rfl listed⟩
  | cons j rest =>
    refine ⟨fun empty => absurd empty (List.cons_ne_nil _ _), fun _ => ?_⟩
    have logged : ∀ m : Mach, Reports m (((List.range s.fuse.part.stackCount).foldl (fun x j => Mach.logRegs s.fuse s.m x r j
        [(Reg.BUR_PLAN_STATE_fields, 0), (Reg.LNK_SDID_fields, 0)]) m).logCmd s.fuse.part.stackCount r false) := fun m =>
      (Reports.foldl _ (fun x j => Reports.logRegs _ _ _ _ _ _) _ _).trans (Reports.logCmd _ _ _ _)
    obtain ⟨t, e, done⟩ := lands_done (m := ((List.range s.fuse.part.stackCount).foldl (fun x j => Mach.logRegs s.fuse s.m x r j
        [(Reg.BUR_PLAN_STATE_fields, 0), (Reg.LNK_SDID_fields, 0)]) (s.m.endPlan j 0x0020)).logCmd s.fuse.part.stackCount r false) (st := 0) (p := []) runs h rfl fit
      (by simp only [l] at addressed; simp only [addressed]; rfl)
    refine ⟨t, e, _, done, fun k lt on => ?_⟩
    obtain ⟨state, status⟩ := s.m.endPlan_ends j 0x0020 lt on
    have steady : Steady planZone endView _ _ := Steady.reports (logged (s.m.endPlan j 0x0020))
    exact ⟨(steady.getF _ _ _ (by decide)).trans state, (steady.part k).trans status⟩

end Sys2Proof.Machine
end

section
/-! SUPPORT. PLAN_LOAD: the wakes that it asks for, and what it leaves on each stack that it acts on (R45, R49, R50, R482). -/

namespace Sys2Proof.Machine

theorem loadStacks_lt {m : Mach} {n op : Nat} {r : MbxReq} (h : m.frontReq n op = some r) (b : List Byte) : ∀ k ∈ loadStacks r n b, k < n := by
  intro k mem
  unfold loadStacks at mem
  split at mem
  · rename_i one
    rw [List.mem_singleton.mp mem]
    exact (Mach.frontReq_stack h).resolve_right fun all => one all.1
  · dsimp only at mem
    split at mem
    · exact List.mem_range.mp mem
    · exact List.mem_range.mp (List.mem_of_mem_filter mem)

/-! ## Cores to be woken (R482) -/

/-- n has asked for wakes that m has not: what the host waits for, the tier and the states of cores are as before, and none waits for its turn no more. -/
structure Asked (m n : Mach) : Prop where
  queue  : n.host.mbxQueue = m.host.mbxQueue
  tier   : n.tier = m.tier
  states : ∀ u p, n.getF u Reg.CORE_POWER_STATE p = m.getF u Reg.CORE_POWER_STATE p
  turns  : ∀ u p, p ∈ (m.pw u).toWake → p ∈ (n.pw u).toWake

theorem Asked.trans {m n p : Mach} (h : Asked m n) (g : Asked n p) : Asked m p :=
  ⟨g.queue.trans h.queue, g.tier.trans h.tier, fun u q => (g.states u q).trans (h.states u q), fun u q t => g.turns u q (h.turns u q t)⟩

/-- A wake of core p of stack s asked for. -/
theorem Mach.requestWake_asked (m : Mach) {s : Nat} (lt : s < 4) (p : Nat) :
    Asked m (m.requestWake s p) ∧ (m.getF s Reg.CORE_POWER_STATE p = 0 → p ∈ ((m.requestWake s p).pw s).toWake) := by
  have stateKey : ∀ i j, Reg.CORE_POWER_STATE.key i ≠ Reg.CORE_POWER_STOP_REQ.key j := by
    intro i j
    simp only [Fld.key, Reg.CORE_POWER_STATE, Reg.CORE_POWER_STOP_REQ]; omega
  have asked : Asked m (m.setF s Reg.CORE_POWER_STOP_REQ 0 p) := by
    refine ⟨rfl, rfl, fun u q => Mach.getF_setF_key _ _ _ _ _ _ _ _ (stateKey _ _), fun u q turn => ?_⟩
    by_cases same : u = s
    · subst same; rw [Mach.pw, Mach.setF, Mach.stk_updStk_same _ _ lt]; exact turn
    · rw [Mach.pw, Mach.setF, Mach.stk_updStk_ne _ _ same]; exact turn
  unfold Mach.requestWake
  dsimp only
  split
  · have turn : ((Mach.updPw (m.setF s Reg.CORE_POWER_STOP_REQ 0 p) s (fun k => { k with toWake := k.toWake.filter (· ≠ p) ++ [p] })).pw s).toWake =
        ((m.setF s Reg.CORE_POWER_STOP_REQ 0 p).pw s).toWake.filter (· ≠ p) ++ [p] := by rw [Mach.pw, Mach.updPw, Mach.stk_updStk_same _ _ lt]; rfl
    refine ⟨asked.trans ⟨rfl, rfl, fun u q => Mach.getF_updStk _ _ _ _ _ _ rfl, fun u q waits => ?_⟩, fun _ => by rw [turn]; simp⟩
    by_cases same : u = s
    · subst same
      rw [turn, List.mem_append, List.mem_filter, List.mem_singleton]
      by_cases this : q = p
      · exact .inr this
      · exact .inl ⟨waits, decide_eq_true this⟩
    · rw [Mach.pw, Mach.updPw, Mach.stk_updStk_ne _ _ same]; exact waits
  · exact ⟨asked, fun zero => absurd zero (by assumption)⟩

/-- The wake of a core asked for, unless it waits for its turn already. -/
def Mach.wakeOne (m : Mach) (e : Nat × Nat) : Mach := if (m.pw e.1).toWake.contains e.2 then m else m.requestWake e.1 e.2

theorem Mach.wakeOne_asked (m : Mach) {e : Nat × Nat} (lt : e.1 < 4) :
    Asked m (m.wakeOne e) ∧ (m.getF e.1 Reg.CORE_POWER_STATE e.2 = 0 → e.2 ∈ ((m.wakeOne e).pw e.1).toWake) := by
  unfold Mach.wakeOne
  split
  · rename_i waits
    exact ⟨⟨rfl, rfl, fun _ _ => rfl, fun _ _ h => h⟩, fun _ => List.contains_iff_mem.mp waits⟩
  · exact m.requestWake_asked lt e.2

/-- Each core of a list that is in Stop waits for its turn to wake. -/
theorem Mach.wakeFor_asked (l : List (Nat × Nat)) (m : Mach) (lt : ∀ e ∈ l, e.1 < 4) :
    Asked m (m.wakeFor l) ∧ ∀ e ∈ l, m.getF e.1 Reg.CORE_POWER_STATE e.2 = 0 → e.2 ∈ ((m.wakeFor l).pw e.1).toWake := by
  have step : ∀ (n : Mach) (e : Nat × Nat) (r : List (Nat × Nat)), n.wakeFor (e :: r) = (n.wakeOne e).wakeFor r := fun _ _ _ => rfl
  induction l generalizing m with
  | nil => exact ⟨⟨rfl, rfl, fun _ _ => rfl, fun _ _ h => h⟩, fun _ h => by cases h⟩
  | cons e r ih =>
    obtain ⟨first, turn⟩ := m.wakeOne_asked (lt e List.mem_cons_self)
    obtain ⟨others, turns⟩ := ih (m.wakeOne e) fun x mem => lt x (List.mem_cons_of_mem _ mem)
    rw [step]
    refine ⟨first.trans others, fun x mem zero => ?_⟩
    rcases List.mem_cons.mp mem with rfl | mem
    · exact others.turns _ _ (turn zero)
    · exact turns x mem ((first.states _ _).trans zero)

/-! ## What a load does to a stack before its plan's registers are set (R49, R57, R236, R531) -/

namespace Steady
variable {β : Type} {V : View β}

theorem dropWire (m : Mach) (s : Nat) : Steady planZone V m (m.dropWire s) := by
  unfold Mach.dropWire
  dsimp only
  refine after (bumpF _ _ _ _ _ (by decide)) (after (foldl _ _ (fun _ _ _ => reports (Reports.logError _ _ _ _ _ _ _)) _) (of_stackSet rfl))

theorem syncPinned (m : Mach) (s : Nat) : Steady planZone V m (m.syncPinned s) :=
  onStacks m 2 _ fun n h => setF n s Reg.CDIE_PART_STATUS_PINNED_LINES _ h (by decide)

theorem dropWindow (m : Mach) (s : Nat) : Steady planZone V m (m.dropWindow s) := after (syncPinned _ _) (foldl _ _ (fun _ _ _ => dropLine _ _ _) m)

theorem fireBinds (m : Mach) (s o : Nat) : Steady planZone V m (m.fireBinds s o) :=
  (updStk m s _ rfl (V.bureau _ _)).trans (reports (Reports.foldl _ (fun m (b : SyncBind) => (Reports.srcEdge m s 7).trans (Reports.sendVector _ b.vector)) _ _))

theorem loadSyncs (m : Mach) (s : Nat) (pl : Plan) : Steady planZone V m (m.loadSyncs s pl) := by
  unfold Mach.loadSyncs
  dsimp only
  refine after (foldl _ _ (fun _ _ _ => fireBinds _ _ _) _) (after (foldl _ _ (fun _ _ _ => setF _ _ _ _ _ (by decide)) _) (after (foldl _ _ ?_ _) ?_))
  · intro m e _
    exact after (setF _ _ _ _ _ (by decide)) (after (setF _ _ _ _ _ (by decide)) (after (setF _ _ _ _ _ (by decide)) (after (setF _ _ _ _ _ (by decide))
      (after (setF _ _ _ _ _ (by decide)) (setF _ _ _ _ _ (by decide))))))
  · exact after (setF _ _ _ _ _ (by decide)) (resetRange _ _ _ _ (by decide))

theorem coreCauseSettle (m : Mach) (s p : Nat) : Steady planZone V m (m.coreCauseSettle s p) := ite _ (refl m) (setF _ _ _ _ _ (by decide))

theorem clearLaunchRegs (m : Mach) (s L : Nat) : Steady planZone V m (m.clearLaunchRegs s L) := by
  have clear : ∀ f ∈ Reg.CORE_MX_STATUS_fields ++ Reg.CORE_ATT_STATUS_fields.take 5, clearOf planZone f = true := by decide
  unfold Mach.clearLaunchRegs
  dsimp only
  exact after (foldl _ _ (fun _ f mem => resetF _ _ _ _ (clear f mem)) _) (after (setF _ _ _ _ _ (by decide)) (after (setF _ _ _ _ _ (by decide))
    (setF _ _ _ _ _ (by decide))))

theorem loadRegs (m : Mach) (s : Nat) : Steady planZone V m (m.loadRegs s) := by
  unfold Mach.loadRegs
  dsimp only
  refine after (foldl _ _ (fun _ _ _ => clearLaunchRegs _ _ _) _) (foldl _ _ (fun n p _ => after (coreCauseSettle _ _ _) (foldl _ _ (fun _ f mem => ?_) n)) m)
  have clear : ∀ f ∈ [Reg.CORE_FAULT_INFO_CAUSE, Reg.CORE_FAULT_INFO_VALID, Reg.CORE_FAULT_INFO_MULTIPLE, Reg.CORE_SCRIPT_STATE_REPLAYS,
    Reg.CORE_BAR_STATUS_STALL_COUNT, Reg.CORE_ATOMIC_STATUS_JOURNAL_PEAK, Reg.CORE_ATOMIC_STATUS_JOURNAL_USED, Reg.CORE_SCRIPT_STATE_SCRIPT_INDEX,
    Reg.CORE_SCRIPT_STATE_WAITING_TOKEN, Reg.CORE_SCRIPT_STATE_WAITING_CREDIT], clearOf planZone f = true := by decide
  exact resetF _ _ _ _ (clear f mem)

end Steady

/-- What the last plan left on its way to stack s is dropped, and the texts of the new one are in their home bays. -/
def Mach.loadTexts (m : Mach) (s : Nat) (pl : Plan) : Mach :=
  (pl.cores.filter (fun c => c.stack = s)).foldl (fun m c => m.performWrite true (m.textHome c) (PByte.clean (pl.coreText c)))
    (((m.dropWire s).dropKeyed s).dropWindow s)

/-- Stack s holds the tables of the plan, and its cores and movers those of no unit. -/
def Mach.loadTables (m : Mach) (s : Nat) (pl : Plan) : Mach :=
  m.updStk s (fun k => { k with
    plan := { plan := pl.forStack s, turning := k.plan.turning, features := m.getF s Reg.LIC_STATUS_FEATURES }
    cores := k.cores.map (fun e => (e.1, { regs := e.2.regs, steps := e.2.steps }))
    movers := k.movers.map (fun e => (e.1, { e.2 with outs := [], lastDone := false })) })

/-- All of a load on stack s but for the registers of the plan itself. -/
def Mach.loadBody (m : Mach) (s : Nat) (pl : Plan) : Mach :=
  let n := (((m.loadTexts s pl).loadTables s pl).loadRegs s).loadSyncs s (pl.forStack s)
  (n.setF s Reg.CAB_ORDER_NEXT_KEY 0 0).setF s Reg.CAB_ORDER_NEXT_KEY 0 1

/-- The registers of a plan just loaded. -/
def planFields (s : Nat) (pl : Plan) : List FieldVal :=
  [(s, Reg.BUR_PLAN_STATE_STATE, 0, 1), (s, Reg.BUR_PLAN_STATE_PHASE, 0, 0), (s, Reg.BUR_PLAN_STATE_OUTSIDE_GUARANTEE, 0, (decide (pl.determinism ≠ 0)).toNat),
   (s, Reg.BUR_PLAN_STATE_PLAN_ID_LO, 0, pl.id % 2 ^ 32), (s, Reg.BUR_PLAN_ID_PLAN_ID, 0, pl.id), (s, Reg.LNK_SDID_LOCKED, 0, 1)]

theorem Mach.loadOn_eq (m : Mach) (s : Nat) (pl : Plan) : m.loadOn s pl = (m.loadBody s pl).setFs (planFields s pl) := rfl

theorem Mach.loadTexts_steady {β : Type} {V : View β} (cabs : ∀ k c, V.of { k with cabs := c } = V.of k) (m : Mach) (s : Nat) (pl : Plan) :
    Steady planZone V m (m.loadTexts s pl) :=
  (((Steady.dropWire m s).trans (Steady.dropKeyed cabs _ s)).trans (Steady.dropWindow _ s)).trans (Steady.foldl _ _ (fun _ _ _ => Steady.performWrite _ _ _ _) _)

theorem Mach.loadBody_rest {β : Type} {V : View β} (m : Mach) (s : Nat) (pl : Plan) :
    Steady planZone V ((m.loadTexts s pl).loadTables s pl) (m.loadBody s pl) :=
  (((Steady.loadRegs _ s).trans (Steady.loadSyncs _ s _)).trans (Steady.setF _ s Reg.CAB_ORDER_NEXT_KEY 0 0 (by decide))).trans
    (Steady.setF _ s Reg.CAB_ORDER_NEXT_KEY 0 1 (by decide))

/-- A load keeps the registers of links, routes and licences everywhere. -/
theorem Mach.loadBody_regs (m : Mach) (s : Nat) (pl : Plan) : Steady planZone noView m (m.loadBody s pl) :=
  ((m.loadTexts_steady (fun _ _ => rfl) s pl).trans (Steady.updStk _ _ _ rfl rfl)).trans (m.loadBody_rest s pl)

theorem Mach.loadBody_plan_other (m : Mach) {s k : Nat} (pl : Plan) (h : k ≠ s) : ((m.loadBody s pl).stk k).plan = (m.stk k).plan := by
  have before := (m.loadTexts_steady (V := planView) (fun _ _ => rfl) s pl).part k
  have after := (m.loadBody_rest (V := planView) s pl).part k
  rw [Mach.loadTables, Mach.stk_updStk_ne _ _ h] at after
  exact after.trans before

theorem Mach.loadBody_plan (m : Mach) {s : Nat} (lt : s < 4) (pl : Plan) :
    ((m.loadBody s pl).stk s).plan.plan = pl.forStack s ∧ ((m.loadBody s pl).stk s).plan.features = m.getF s Reg.LIC_STATUS_FEATURES := by
  have after := (m.loadBody_rest (V := planView) s pl).part s
  rw [Mach.loadTables, Mach.stk_updStk_same _ _ lt] at after
  have licences := (m.loadTexts_steady (V := planView) (fun _ _ => rfl) s pl).getF s Reg.LIC_STATUS_FEATURES 0 (by decide)
  exact ⟨congrArg PlanSt.plan after, (congrArg PlanSt.features after).trans licences⟩

/-! ## A plan loaded on each stack -/

/-- The registers of links, routes and LIC_STATUS. -/
def linkZone : List (Nat × Nat) := [(0x480_0000, 0x499_0000), (0x499_0008, 0x4A0_0000), (0x510_1000, 0x510_1008)]

theorem outside_linkZone (p : Nat) (h : outside planZone p = true) : outside linkZone p = true := by
  simp only [outside, inZone, planZone, linkZone, Bool.not_eq_true', List.any_cons, List.any_nil, Bool.or_false, Bool.or_eq_false_iff, Bool.and_eq_false_iff,
    decide_eq_false_iff_not] at h ⊢
  omega

/-- Stack k holds the plan LOADED, with the licences that it has. -/
def LoadedOn (pl : Plan) (k : Nat) (m : Mach) : Prop :=
  m.getF k Reg.BUR_PLAN_STATE_STATE = 1 ∧ m.getF k Reg.BUR_PLAN_STATE_PHASE = 0 ∧ m.getF k Reg.BUR_PLAN_ID_PLAN_ID = pl.id % 2 ^ 64 ∧
  m.getF k Reg.LNK_SDID_LOCKED = 1 ∧ (m.stk k).plan.plan = pl.forStack k ∧ (m.stk k).plan.features = m.getF k Reg.LIC_STATUS_FEATURES

theorem LoadedOn.steady {pl : Plan} {k : Nat} {m n : Mach} (h : LoadedOn pl k m) (g : Steady planZone planView m n) : LoadedOn pl k n := by
  obtain ⟨state, phase, id, locked, plan, features⟩ := h
  have same : (n.stk k).plan = (m.stk k).plan := g.part k
  refine ⟨(g.getF _ _ _ (by decide)).trans state, (g.getF _ _ _ (by decide)).trans phase, (g.getF _ _ _ (by decide)).trans id,
    (g.getF _ _ _ (by decide)).trans locked, same ▸ plan, ?_⟩
  rw [same, features, g.getF _ _ _ (by decide)]

theorem planFields_different (s : Nat) (pl : Plan) : (placesOf (planFields s pl)).Nodup := by
  show [Reg.BUR_PLAN_STATE_STATE.key 0, Reg.BUR_PLAN_STATE_PHASE.key 0, Reg.BUR_PLAN_STATE_OUTSIDE_GUARANTEE.key 0, Reg.BUR_PLAN_STATE_PLAN_ID_LO.key 0,
    Reg.BUR_PLAN_ID_PLAN_ID.key 0, Reg.LNK_SDID_LOCKED.key 0].Nodup
  decide

theorem planFields_stack {s : Nat} {pl : Plan} : ∀ e ∈ planFields s pl, e.1 = s := by
  intro e mem
  simp only [planFields, List.mem_cons, List.not_mem_nil, or_false] at mem
  rcases mem with rfl | rfl | rfl | rfl | rfl | rfl <;> rfl

/-- Fields set leave what is no register. -/
theorem Mach.plan_setFs (fs : List FieldVal) (m : Mach) (k : Nat) : ((m.setFs fs).stk k).plan = (m.stk k).plan := by
  induction fs generalizing m with
  | nil => rfl
  | cons e r ih => rw [Mach.setFs_cons, ih]; exact Steady.part_csr (V := planView) m e.1 (fun k => SMap.put k.csr (e.2.1.key e.2.2.1) (e.2.2.2 % 2 ^ e.2.1.width)) k

theorem Mach.loadOn_links (m : Mach) (s : Nat) (pl : Plan) : Steady linkZone noView m (m.loadOn s pl) := by
  have sets : ∀ fs : List FieldVal, (∀ e ∈ fs, clearOf linkZone e.2.1 = true) → ∀ n : Mach, Steady linkZone noView n (n.setFs fs) := fun fs clear n =>
    Steady.foldl _ fs (fun m e mem => Steady.setF _ _ _ _ _ (clear e mem)) n
  rw [Mach.loadOn_eq]
  refine ((m.loadBody_regs s pl).mono outside_linkZone).trans (sets _ (fun e mem => ?_) _)
  have clear : ∀ f ∈ (planFields s pl).map (fun e => e.2.1), clearOf linkZone f = true := by
    show ∀ f ∈ [Reg.BUR_PLAN_STATE_STATE, Reg.BUR_PLAN_STATE_PHASE, Reg.BUR_PLAN_STATE_OUTSIDE_GUARANTEE, Reg.BUR_PLAN_STATE_PLAN_ID_LO,
      Reg.BUR_PLAN_ID_PLAN_ID, Reg.LNK_SDID_LOCKED], clearOf linkZone f = true
    decide
  exact clear _ (List.mem_map_of_mem mem)

theorem Mach.loadOn_same (m : Mach) {s : Nat} (lt : s < 4) (pl : Plan) : LoadedOn pl s (m.loadOn s pl) := by
  have reads := Mach.getF_setFs_listed (planFields s pl) (m.loadBody s pl) (planFields_different s pl) (fun e mem => by rw [planFields_stack e mem]; exact lt)
  obtain ⟨plan, features⟩ := m.loadBody_plan lt pl
  have licences := (m.loadOn_links s pl).getF s Reg.LIC_STATUS_FEATURES 0 (by decide)
  rw [Mach.loadOn_eq] at licences ⊢
  refine ⟨?_, ?_, ?_, ?_, ?_, ?_⟩
  · exact reads (s, Reg.BUR_PLAN_STATE_STATE, 0, 1) (by simp [planFields])
  · exact reads (s, Reg.BUR_PLAN_STATE_PHASE, 0, 0) (by simp [planFields])
  · exact reads (s, Reg.BUR_PLAN_ID_PLAN_ID, 0, pl.id) (by simp [planFields])
  · exact reads (s, Reg.LNK_SDID_LOCKED, 0, 1) (by simp [planFields])
  · rw [Mach.plan_setFs, plan]
  · rw [Mach.plan_setFs, features, licences]

theorem Mach.loadOn_other (m : Mach) {s k : Nat} (pl pl' : Plan) (apart : k ≠ s) (h : LoadedOn pl' k m) : LoadedOn pl' k (m.loadOn s pl) := by
  obtain ⟨state, phase, id, locked, plan, features⟩ := h
  have regs : ∀ f j, insideOf planZone f = true → (m.loadOn s pl).getF k f j = m.getF k f j := by
    intro f j inside
    rw [Mach.loadOn_eq, Mach.getF_setFs_notListed, (m.loadBody_regs s pl).getF _ _ _ inside]
    exact fun e mem same => apart (same.1 ▸ (planFields_stack e mem))
  have kept : ((m.loadOn s pl).stk k).plan = (m.stk k).plan := by rw [Mach.loadOn_eq, Mach.plan_setFs, m.loadBody_plan_other pl apart]
  exact ⟨(regs _ _ (by decide)).trans state, (regs _ _ (by decide)).trans phase, (regs _ _ (by decide)).trans id, (regs _ _ (by decide)).trans locked,
    kept ▸ plan, by rw [kept, features, regs _ _ (by decide)]⟩

theorem Mach.loadAll (pl : Plan) (l : List Nat) (m : Mach) (lt : ∀ k ∈ l, k < 4) : ∀ k ∈ l, LoadedOn pl k (l.foldl (fun m s => m.loadOn s pl) m) := by
  refine foldl_establishes (Q := LoadedOn pl) _ l (fun m s mem => m.loadOn_same (lt s mem) pl) (fun m s k mem h => ?_) m
  by_cases same : k = s
  · subst same; exact m.loadOn_same (lt k mem) pl
  · exact m.loadOn_other pl pl same h

/-! ## The routes that a plan uses (R355) -/

theorem foldl_fixed {α β : Type} (f : β → α → β) (b : β) (l : List α) (h : ∀ x ∈ l, f b x = b) : l.foldl f b = b := by
  induction l with
  | nil => rfl
  | cons x r ih => rw [List.foldl_cons, h x List.mem_cons_self, ih fun y mem => h y (List.mem_cons_of_mem _ mem)]

/-- A route of the table is not valid, is local, or has a link that goes or is to go. -/
def Mach.routeGoes (m : Mach) (k i : Nat) : Prop := i < 16384 → m.getB k Reg.LNK_ROUTE_VALID i = true → m.getF k Reg.LNK_ROUTE_HOP i = 0x1F ∨
  m.linkGoes k (m.getF k Reg.LNK_ROUTE_HOP i) = true ∨ m.linkGoes k (m.getF k Reg.LNK_ROUTE_ALT i) = true

theorem Mach.checkRoute_goes {m : Mach} {k i : Nat} (h : m.routeGoes k i) : m.checkRoute k i = m := by
  refine if_neg ?_
  rintro ⟨bound, valid, far, down, gone⟩
  rw [Bool.not_eq_true'] at down gone
  rcases h bound valid with same | up | up
  · exact far same
  · rw [down] at up; cases up
  · rw [gone] at up; cases up

theorem Mach.routeGoes_steady {β : Type} {V : View β} {m n : Mach} (h : Steady linkZone V m n) (k i : Nat) (g : m.routeGoes k i) : n.routeGoes k i := by
  have states : ∀ j, n.getF k Reg.LNK_STATUS_STATE j = m.getF k Reg.LNK_STATUS_STATE j := fun j => h.getF _ _ _ (by decide)
  have goes : ∀ j, n.linkGoes k j = m.linkGoes k j := fun j => by rw [Mach.linkGoes, Mach.linkGoes, Mach.linkUp, Mach.linkUp, states]
  rw [Mach.routeGoes, Mach.getB, h.getF _ _ _ (by decide), h.getF _ _ _ (by decide), h.getF _ _ _ (by decide), goes, goes]
  exact g

/-- Where every route of the plans loaded goes, checking them changes nothing. -/
theorem Mach.checkRoutes_go (m : Mach) (l : List Nat) (h : ∀ k ∈ l, ∀ e ∈ (m.plan k).routes, m.routeGoes k e.route) :
    l.foldl (fun m s => ((m.plan s).routes.map (·.route)).eraseDups.foldl (fun m i => m.checkRoute s i) m) m = m := by
  refine foldl_fixed _ _ _ fun k mem => foldl_fixed _ _ _ fun i route => Mach.checkRoute_goes ?_
  obtain ⟨e, listed, rfl⟩ := List.mem_map.mp (List.mem_eraseDups.mp route)
  exact h k mem e listed

/-! ## PLAN_LOAD -/

theorem planLoad_lands {s : State} {r : MbxReq} (h : Served s 0x0201 r) (length : r.payload.length = 16) (most : r.arg 8 8 ≤ 2 ^ 28) (whole : r.arg 8 8 % 256 = 0)
    (there : s.m.imageThere s.fuse.part.stackCount (r.arg 0 8) (r.arg 8 8) = true) :
    let n := s.fuse.part.stackCount
    let a := r.arg 0 8
    let size := r.arg 8 8
    let l := loadStacks r n (PByte.vals (s.m.homeBytes a 0x100))
    let rd := s.m.performRead false a size
    let b := PByte.vals rd.2
    let pl := planOf b
    let st := rd.1.imageStatus n b size l
    let asleep := rd.1.stoppedCores l pl
    let texts := (pl.cores.filter (fun c => l.contains c.stack)).map (fun c => (rd.1.textHome c, c.textSize))
    ((∃ k ∈ l, s.m.loadBusy k = true) → Lands .planLoad s (fun t => Completes s t r 0x0010)) ∧
    ((∀ k ∈ l, s.m.loadBusy k = false) →
      (s.m.accessHeld false a size = true → Lands .planLoad s (fun t => t = s)) ∧
      (s.m.accessHeld false a size = false →
        (st ≠ 0 → Lands .planLoad s (fun t => ∃ m, Ends { s with m := rd.1 } { s with m := m } [] ∧ Completed s t r st [] m)) ∧
        (st = 0 →
          (asleep ≠ [] → Lands .planLoad s (fun t => t.fuse = s.fuse ∧ t.pending = s.pending ∧ t.m.host.mbxQueue = s.m.host.mbxQueue ∧ t.m.tier = s.m.tier ∧
            ∀ e ∈ asleep, s.m.getF e.1 Reg.CORE_POWER_STATE e.2 = 0 → e.2 ∈ (t.m.pw e.1).toWake)) ∧
          (asleep = [] → rd.1.anyHeld texts = true → Lands .planLoad s (fun t => t = s)) ∧
          (asleep = [] → rd.1.anyHeld texts = false →
            (∀ k ∈ l, ∀ e ∈ pl.routes, s.m.routeGoes k e.route) →
            Lands .planLoad s (fun t => ∃ m, Completed s t r 0 (leBytes 8 pl.id) m ∧ ∀ k ∈ l, LoadedOn pl k m ∧
              m.getF k Reg.LIC_STATUS_FEATURES = s.m.getF k Reg.LIC_STATUS_FEATURES))))) := by
  intro n a size l rd b pl st asleep texts
  have fit : (r.len 16 && decide (r.arg 8 8 ≤ 2 ^ 28) && r.arg 8 8 % 256 = 0 && s.m.imageThere n (r.arg 0 8) (r.arg 8 8)) = true := by
    simp only [Bool.and_eq_true, decide_eq_true_eq, MbxReq.len]
    exact ⟨⟨⟨length, most⟩, whole⟩, there⟩
  have runs : exec .planLoad s = execPlanLoad s := rfl
  unfold execPlanLoad at runs
  have lt : ∀ k ∈ l, k < 4 := fun k mem => Nat.lt_of_lt_of_le (loadStacks_lt h.1.2.1 _ k mem) (stackCount_le _)
  refine ⟨fun busy => lands_noLogged runs h rfl fit (if_pos (List.any_eq_true.mpr busy)), fun idle => ?_⟩
  have ready : ¬ l.any s.m.loadBusy = true := fun busy => by
    obtain ⟨k, mem, on⟩ := List.any_eq_true.mp busy
    rw [idle k mem] at on; cases on
  refine ⟨fun held => lands_wait runs h rfl fit ((if_neg ready).trans (if_pos held)), fun free => ?_⟩
  have opened : ¬ s.m.accessHeld false a size = true := by rw [free]; decide
  refine ⟨fun bad => ?_, fun good => ?_⟩
  · obtain ⟨t, e, done⟩ := lands_done runs h rfl fit ((if_neg ready).trans ((if_neg opened).trans (if_pos bad)))
    exact ⟨t, e, _, Ends.of_reports (Reports.logCmd _ _ _ _), done⟩
  have accepted : ¬ st ≠ 0 := not_not_intro good
  refine ⟨fun sleeping => ?_, fun awake held => ?_, fun awake free goes => ?_⟩
  · obtain ⟨t, e, rfl⟩ := lands_wait runs h rfl fit ((if_neg ready).trans ((if_neg opened).trans ((if_neg accepted).trans (if_pos sleeping))))
    have within : ∀ e ∈ asleep, e.1 < 4 := by
      intro e mem
      obtain ⟨c, listed, rfl⟩ := List.mem_map.mp (List.mem_of_mem_filter mem)
      exact lt _ (List.contains_iff_mem.mp (List.mem_filter.mp listed).2)
    obtain ⟨asked, turns⟩ := Mach.wakeFor_asked asleep s.m within
    exact ⟨_, e, rfl, rfl, asked.queue, asked.tier, turns⟩
  · exact lands_wait runs h rfl fit ((if_neg ready).trans ((if_neg opened).trans ((if_neg accepted).trans ((if_neg (not_not_intro awake)).trans (if_pos held)))))
  · let m2 := l.foldl (fun m k => m.loadOn k pl) rd.1
    let m3 := l.foldl (fun x k => Mach.logRegs s.fuse rd.1 x r k (loadedRegs pl)) m2
    have logged : Reports m2 m3 := Reports.foldl _ (fun _ _ => Reports.logRegs _ _ _ _ _ _) _ _
    have links : Steady linkZone noView s.m m3 :=
      (((Steady.performRead s.m false a size).mono outside_linkZone).trans (Steady.foldl _ _ (fun m k _ => m.loadOn_links k pl) _)).trans
        ((Steady.reports logged).mono outside_linkZone)
    have loaded : ∀ k ∈ l, LoadedOn pl k m3 := fun k mem => (Mach.loadAll pl l rd.1 lt k mem).steady (Steady.reports logged)
    have checked := m3.checkRoutes_go l fun k mem e route => by
      obtain ⟨-, -, -, -, plan, -⟩ := loaded k mem
      rw [Mach.plan, plan] at route
      exact Mach.routeGoes_steady links k e.route (goes k mem e route)
    obtain ⟨t, e, done⟩ := lands_done (m := m3.logCmd n r false) (st := 0) (p := leBytes 8 pl.id) runs h rfl fit ((if_neg ready).trans ((if_neg opened).trans
      ((if_neg accepted).trans ((if_neg (not_not_intro awake)).trans ((if_neg (c := rd.1.anyHeld texts = true) (by rw [free]; decide)).trans
        (congrArg (fun m : Mach => m.okLogged n r (leBytes 8 pl.id)) checked))))))
    have told := Reports.logCmd m3 n r false
    exact ⟨t, e, _, done, fun k mem => ⟨(loaded k mem).steady (Steady.reports told),
      (told.regs _ _ _ (by decide)).trans (links.getF _ _ _ (by decide))⟩⟩

/-- Settles O53, command by command: a load is a fold over its stacks, each of which keeps what the others hold, and every access to memory keeps the registers
of plans and links. -/
theorem planCommandsAndRouteLoad : Obligations.PlanCommandsAndRouteLoad := by
  intro s r n
  refine ⟨fun h length most whole there => ?_, fun h length => planStart_lands h length, fun h length => planAbort_lands h length,
    fun h some most length zero fits entries => ?_⟩
  · obtain ⟨busy, idle⟩ := planLoad_lands h length most whole there
    refine ⟨busy, fun ready => ⟨(idle ready).1, fun free => ⟨((idle ready).2 free).1, fun good => ?_⟩⟩⟩
    obtain ⟨sleeps, held, loads⟩ := ((idle ready).2 free).2 good
    refine ⟨sleeps, held, fun awake free goes => ?_⟩
    obtain ⟨t, runs, m, done, loaded⟩ := loads awake free goes
    refine ⟨t, runs, m, done, fun k mem => ?_⟩
    obtain ⟨⟨state, phase, id, locked, plan, features⟩, licences⟩ := loaded k mem
    exact ⟨state, phase, id, locked, plan, features.trans licences⟩
  · obtain ⟨busy, loads⟩ := routeLoad_lands h some most length zero fits entries
    refine ⟨busy, fun off => ?_⟩
    obtain ⟨t, runs, m, done, rep⟩ := loads off
    exact ⟨t, runs, m, done, routeLoad_done rep (Nat.lt_of_lt_of_le (routeLoad_stack h.1.2.1) (stackCount_le _)) fits⟩

end Sys2Proof.Machine
end

section
/-! SUPPORT. The canonical form of the memories as a predicate with one rule for each way in which an operation is put together. -/

namespace Sys2Proof.Machine

/-- Every memory of the machine is in canonical form: the form in which the model lists bytes (log entry 12). -/
def Mach.Canon (m : Mach) : Prop := m.canonical = true

/-- The machine that an operation answers, if it answers one, has its memories in canonical form. -/
def AllCanon (o : Option Mach) : Prop := ∀ n ∈ o, n.Canon

/-- The machine that serving a command leaves. -/
def Reply.mach : Reply → Mach
  | .wait m | .later m => m
  | .done m _ _ => m

/-- The next state that a meaning answers, if it answers one, has its memories in canonical form. -/
def NextCanon (o : Out) : Prop := ∀ t, o = .next t → t.m.Canon

/-- The memories of the machine. -/
def Mach.memories (m : Mach) : Mem × Mem × Mem × Mem × Mem := (m.mem, m.tier, m.hostMem, m.host.bar2, m.host.flash)

namespace Mach.Canon
variable {m : Mach}

theorem mem (w : m.Canon) : m.mem.wf = true := (canonical_iff.mp w).1
theorem tier (w : m.Canon) : m.tier.wf = true := (canonical_iff.mp w).2.1
theorem hostMem (w : m.Canon) : m.hostMem.wf = true := (canonical_iff.mp w).2.2.1
theorem bar2 (w : m.Canon) : m.host.bar2.wf = true := (canonical_iff.mp w).2.2.2.1
theorem flash (w : m.Canon) : m.host.flash.wf = true := (canonical_iff.mp w).2.2.2.2

/-! ## Parts of the machine replaced -/

/-- A machine with the same memories, whatever else differs. -/
theorem same {n : Mach} (w : m.Canon) (e : n.memories = m.memories := by rfl) : n.Canon := by
  simp only [memories, Prod.mk.injEq] at e
  obtain ⟨mem, tier, hostMem, bar2, flash⟩ := e
  exact (canonical_congr mem tier hostMem bar2 flash).trans w

theorem withMem {x : Mem} (w : m.Canon) (h : x.wf = true) : ({ m with mem := x } : Mach).Canon :=
  canonical_iff.mpr ⟨h, w.tier, w.hostMem, w.bar2, w.flash⟩

theorem withTier {x : Mem} (w : m.Canon) (h : x.wf = true) : ({ m with tier := x } : Mach).Canon :=
  canonical_iff.mpr ⟨w.mem, h, w.hostMem, w.bar2, w.flash⟩

theorem withBoot {x : BootSt} (w : m.Canon) : ({ m with boot := x } : Mach).Canon := w.same

/-- The host side replaced by one whose BAR2 buffers and boot flash are in canonical form. -/
theorem withHost {x : HostSt} (w : m.Canon) (bar2 : x.bar2.wf = true) (flash : x.flash.wf = true) : ({ m with host := x } : Mach).Canon :=
  canonical_iff.mpr ⟨w.mem, w.tier, w.hostMem, bar2, flash⟩

theorem withBar2 {x : Mem} (w : m.Canon) (h : x.wf = true) : ({ m with host := { m.host with bar2 := x } } : Mach).Canon := w.withHost h w.flash

theorem withFlash {x : Mem} (w : m.Canon) (h : x.wf = true) : ({ m with host := { m.host with flash := x } } : Mach).Canon := w.withHost w.bar2 h

/-- A run of a Cabinet operation on the machine. -/
theorem inRun {busy keep stand : List Nat} {fail : Nat} (w : m.Canon) : (KvRun.mk m busy keep stand fail).m.Canon := w

theorem done {st : Nat} {p : List Byte} (w : m.Canon) : (Reply.done m st p).mach.Canon := w

/-- Mailboxes, event ring and MSI-X at their reset values: BAR2 is empty, the boot flash is kept. -/
theorem restart (w : m.Canon) : ({ m with host := m.host.restarted } : Mach).Canon := w.withHost rfl w.flash

/-! ## Choices -/

section Choices
variable {α : Type} {c : Prop} [Decidable c]

theorem ite {a b : Mach} (h : a.Canon) (g : b.Canon) : (if c then a else b).Canon := by split <;> assumption
theorem iteFst {a b : Mach × α} (h : a.1.Canon) (g : b.1.Canon) : (if c then a else b).1.Canon := by split <;> assumption
theorem iteM {a b : KvRun} (h : a.m.Canon) (g : b.m.Canon) : (if c then a else b).m.Canon := by split <;> assumption
theorem iteReply {a b : Reply} (h : a.mach.Canon) (g : b.mach.Canon) : (if c then a else b).mach.Canon := by split <;> assumption

end Choices

/-! ## Folds -/

theorem foldl {α : Type} {f : Mach → α → Mach} {l : List α} (w : m.Canon) (keeps : ∀ n x, n.Canon → (f n x).Canon) : (l.foldl f m).Canon :=
  canonical_foldl f keeps l w

/-- A fold over what holds a machine beside other things: a pair, a run of a Cabinet operation, a mover's read. -/
theorem foldlVia {α ρ : Type} (via : ρ → Mach) {f : ρ → α → ρ} {l : List α} {r : ρ} (w : (via r).Canon)
    (keeps : ∀ q x, (via q).Canon → (via (f q x)).Canon) : (via (l.foldl f r)).Canon := by
  induction l generalizing r with
  | nil => exact w
  | cons x l ih => exact ih (keeps r x w)

end Mach.Canon

/-! ## Machines that an operation may answer -/

namespace AllCanon

theorem none : AllCanon none := fun _ e => by cases e
theorem some {m : Mach} (w : m.Canon) : AllCanon (some m) := fun _ e => by cases e; exact w
theorem ite {c : Prop} [Decidable c] {a b : Option Mach} (h : AllCanon a) (g : AllCanon b) : AllCanon (if c then a else b) := by split <;> assumption

theorem map {α : Type} {o : Option α} {f : α → Mach} (keeps : ∀ x ∈ o, (f x).Canon) : AllCanon (o.map f) := by
  intro n e
  obtain ⟨x, there, rfl⟩ := Option.map_eq_some_iff.mp e
  exact keeps x there

theorem bind {α : Type} {o : Option α} {f : α → Option Mach} (keeps : ∀ x ∈ o, AllCanon (f x)) : AllCanon (o.bind f) := by
  intro n e
  obtain ⟨x, there, made⟩ := Option.bind_eq_some_iff.mp e
  exact keeps x there n made

theorem foldl {α : Type} {f : Option Mach → α → Option Mach} {l : List α} {o : Option Mach} (w : AllCanon o)
    (keeps : ∀ p x, AllCanon p → AllCanon (f p x)) : AllCanon (l.foldl f o) := by
  induction l generalizing o with
  | nil => exact w
  | cons x r ih => exact ih (keeps o x w)

theorem getD {o : Option Mach} {m : Mach} (h : AllCanon o) (w : m.Canon) : (o.getD m).Canon := by
  cases o with
  | none => exact w
  | some n => exact h n rfl

end AllCanon

end Sys2Proof.Machine
end

section
/-! SUPPORT. Registers, reports, accesses of the memories and the end of a plan keep the canonical form. -/

namespace Sys2Proof.Machine
-- A thread per theorem takes more memory than the check has: in each section the theorems are checked one after another.
set_option Elab.async false
variable {m m0 : Mach} {s v i n lo hi k src p code unit index addr old new tag status c r o kind a L l slot block lane cause pc word h f e d : Nat}

/-! ## Csr -/

theorem Mach.Canon.updStk {f : Stack → Stack} (ok : m.Canon) : (m.updStk s f).Canon := ok.same
theorem Mach.Canon.setF {f : Fld} (ok : m.Canon) : (m.setF s f v i).Canon := ok.updStk
theorem Mach.Canon.bumpF {f : Fld} (ok : m.Canon) : (m.bumpF s f i n).Canon := ok.setF
theorem Mach.Canon.resetF {f : Fld} (ok : m.Canon) : (m.resetF s f i).Canon := ok.updStk
theorem Mach.Canon.resetRange {keep : Nat → Bool} (ok : m.Canon) : (m.resetRange s lo hi keep).Canon := ok.updStk

/-! ## Ops -/

theorem NextCanon.onMach {s : State} {f : Fuse → Mach → Mach} (ok : s.m.Canon) (keeps : ∀ fu n, n.Canon → (f fu n).Canon) :
    NextCanon (onMach s f) := by
  intro t e
  cases e
  exact keeps _ _ ok

theorem NextCanon.onStack {s : State} {k : Nat} {f : Fuse → Mach → Mach} (ok : s.m.Canon) (keeps : ∀ fu n, n.Canon → (f fu n).Canon) :
    NextCanon (onStack s k f) := by
  intro t e
  obtain ⟨-, rfl⟩ := onStack_next e
  exact keeps _ _ ok

theorem Mach.Canon.fresh (ok : m.Canon) : (m.fresh k).2.Canon := ok.same
theorem Mach.Canon.srcEdgeNow (ok : m.Canon) : (m.srcEdgeNow s src).Canon := .ite ok.bumpF ok.setF
theorem Mach.Canon.srcEdge (ok : m.Canon) : (m.srcEdge s src).Canon := .ite ok (.ite (.ite ok.bumpF ok.updStk) ok.srcEdgeNow)
theorem Mach.Canon.coreCause (ok : m.Canon) : (m.coreCause s p).Canon := ok.setF.srcEdge
theorem Mach.Canon.coreCauseSettle (ok : m.Canon) : (m.coreCauseSettle s p).Canon := .ite ok ok.setF
theorem Mach.Canon.logChange {e : ChangeEntry} (ok : m.Canon) : (m.logChange s e).Canon := .setF (.ite ok.updStk.bumpF ok.updStk)

theorem Mach.Canon.logError {detail : List Nat} (ok : m.Canon) : (m.logError s code unit index addr detail).Canon :=
  .setF (.ite ok.updStk.bumpF ok.updStk)

theorem Mach.Canon.logBureau (ok : m.Canon) : (m.logBureau s addr old new).Canon := ok.logChange
theorem Mach.Canon.bureauChange {l : List Fld} (ok : m.Canon) : (m.bureauChange m0 s l i).Canon := ok.logBureau
theorem Mach.Canon.logHost {refused : Bool} (ok : m.Canon) : (m.logHost s addr old new refused).Canon := ok.logChange
theorem Mach.Canon.sendVector (ok : m.Canon) : (m.sendVector v).Canon := (canonical_sendVector m v).trans ok
theorem Mach.Canon.ringWrite {e : Event} (ok : m.Canon) : (m.ringWrite e).Canon := canonical_ringWrite e ok

theorem Mach.Canon.drainEvents {fuel : Nat} (ok : m.Canon) : (Mach.drainEvents fuel m).Canon := by
  induction fuel generalizing m with
  | zero => exact ok
  | succ fuel ih =>
    refine .ite ok (.ite (ih ok.same.logError.ringWrite) ?_)
    split
    · exact ok
    · exact ih ok.same.ringWrite.setF

theorem Mach.Canon.eventAs {args : List Nat} (ok : m.Canon) : (m.eventAs s tag code args status).Canon :=
  .ite ok.logError.ringWrite (.ite ok.logError.same.setF ok.logError.same.bumpF.setF)

theorem Mach.Canon.event {args : List Nat} (ok : m.Canon) : (m.event s code args status).Canon := ok.eventAs
theorem Mach.Canon.partEvent {args : List Nat} (ok : m.Canon) : (m.partEvent code args).Canon := ok.eventAs
theorem Mach.Canon.aer (ok : m.Canon) : (m.aer c).Canon := ok.same
theorem Mach.Canon.counterWrapped {ovf : Fld} (ok : m.Canon) : (m.counterWrapped s ovf i src).Canon := ok.setF.srcEdge.event

theorem Mach.Canon.claim (ok : m.Canon) : (m.claim s r o c).Canon := by
  unfold Mach.claim
  split
  · exact ok.setF.setF
  · exact ok.bumpF.setF.setF
  · exact ok.bumpF

theorem Mach.Canon.release (ok : m.Canon) : (m.release s r).Canon := ok.setF.setF
theorem Mach.Canon.onStacks {f : Mach → Nat → Mach} (ok : m.Canon) (keeps : ∀ n s, n.Canon → (f n s).Canon) : (m.onStacks n f).Canon := ok.foldl keeps

theorem Mach.Canon.openBytes {n : Nat} (ok : m.Canon) : (m.openBytes n).1.Canon := by
  induction n with
  | zero => exact ok
  | succ n ih => exact (ih.fresh (k := 8))

/-! ## Access -/

theorem Mach.Canon.updCache {f : CacheSt → CacheSt} (ok : m.Canon) : (m.updCache s f).Canon := ok.updStk
theorem Mach.Canon.updInteg {f : Integ → Integ} (ok : m.Canon) : (m.updInteg s f).Canon := ok.updStk.setF.setF
theorem Mach.Canon.detect (ok : m.Canon) : (m.detect s kind index).Canon := .ite ok.updInteg (.ite ok.bumpF ok.updInteg)
theorem Mach.Canon.detectSorted {l : List (Nat × Nat)} (ok : m.Canon) : (m.detectSorted s l).Canon := ok.foldl fun _ _ h => h.detect
theorem Mach.Canon.detectRead (ok : m.Canon) : (m.detectRead a n).Canon := ok.detectSorted
theorem Mach.Canon.sramWrite {bs : List PByte} (ok : m.Canon) : (m.sramWrite a bs).Canon := canonical_sramWrite a bs ok
theorem Mach.Canon.syncPoisonDir (ok : m.Canon) : (m.syncPoisonDir s).Canon := ok.setF.setF
theorem Mach.Canon.updLine {f : CLine → CLine} (ok : m.Canon) : (m.updLine s L f).Canon := ok.updCache
theorem Mach.Canon.writeback {c : CLine} (ok : m.Canon) : (m.writeback s c).Canon := canonical_writeback s c ok
theorem Mach.Canon.dropLine (ok : m.Canon) : (m.dropLine s L).Canon := ok.updCache

theorem Mach.Canon.install {bs : List PByte} {dirty : Bool} {pinned : Bool} (ok : m.Canon) : (m.install s L bs dirty pinned).Canon :=
  canonical_install s L bs dirty pinned ok

theorem Mach.Canon.fill (ok : m.Canon) : (m.fill s L).Canon := ok.install
theorem Mach.Canon.count48 {f : Fld} {ovf : Fld} (ok : m.Canon) : (m.count48 s f ovf i src n).Canon := .ite ok.setF.counterWrapped ok.setF
theorem Mach.Canon.countLookup {hit : Bool} (ok : m.Canon) : (m.countLookup s L hit).Canon := .updCache (.ite ok.count48.count48 ok.count48)
theorem Mach.Canon.countAccess {hit : Bool} (ok : m.Canon) : (m.countAccess s L hit).Canon := canonical_countAccess s L hit ok
theorem Mach.Canon.detectHome (ok : m.Canon) : (m.detectHome a n).Canon := ok.detectSorted
theorem Mach.Canon.performRead {alloc : Bool} (ok : m.Canon) : (m.performRead alloc a n).1.Canon := canonical_performRead alloc a n ok

theorem Mach.Canon.performWrite {alloc : Bool} {bs : List PByte} (ok : m.Canon) : (m.performWrite alloc a bs).Canon :=
  canonical_performWrite alloc a bs ok

theorem Mach.Canon.refuse {d : Deny} (ok : m.Canon) : (m.refuse n a d).Canon := by
  refine .logError ?_
  split
  · exact ok.bumpF
  · exact ok.bumpF
  · exact ok.bumpF
  · exact ok.bumpF
  · exact ok.bumpF
  · exact ok.bumpF
  · exact ok

/-! ## Abort -/

theorem Mach.Canon.updCore {f : Core → Core} (ok : m.Canon) : (m.updCore s L f).Canon := ok.updStk
theorem Mach.Canon.updPlan {f : PlanSt → PlanSt} (ok : m.Canon) : (m.updPlan s f).Canon := ok.updStk
theorem Mach.Canon.send {x : Msg} (ok : m.Canon) : (m.send x).Canon := ok.same
theorem Mach.Canon.receive {x : Msg} (ok : m.Canon) : (m.receive x).Canon := ok.same
theorem Mach.Canon.updMov {f : MovCh → MovCh} (ok : m.Canon) : (m.updMov s c f).Canon := ok.updStk
theorem Mach.Canon.stopChain {last : Bool} (ok : m.Canon) : (m.stopChain s c status last).Canon := ok.setF.setF.updMov.release.setF.srcEdge
theorem Mach.Canon.abortChain (ok : m.Canon) : (m.abortChain s c).Canon := .ite ok.setF.logError.stopChain ok
theorem Mach.Canon.linkBegin (ok : m.Canon) : (m.linkBegin s n).Canon := .ite ok.setF ok
theorem Mach.Canon.linkDisable (ok : m.Canon) : (m.linkDisable s n).Canon := .ite ok.setF.updStk.setF.srcEdge.event ok.setF.updStk
theorem Mach.Canon.linksSettle (ok : m.Canon) : (m.linksSettle s l).Canon := ok.foldl fun _ _ h => .ite h.linkBegin (.ite h.linkDisable h)

theorem Mach.Canon.licencesSettle (ok : m.Canon) : (m.licencesSettle s l).Canon :=
  .ite ok.linksSettle (ok.linksSettle.onStacks fun _ _ h => .ite h.setF.setF h)

theorem Mach.Canon.clearDead (ok : m.Canon) : (m.clearDead s).Canon := by
  refine .setF (.setF (.updCache (ok.foldl fun _ _ h => ?_)))
  split
  · exact h.sramWrite.updLine
  · exact h

theorem Mach.Canon.planEnded (ok : m.Canon) : (m.planEnded s).Canon :=
  .licencesSettle (.setF (.updStk (.clearDead (ok.foldl fun _ _ h => .ite h.abortChain.setF h))))

theorem Mach.Canon.dropKeyed (ok : m.Canon) : (m.dropKeyed s).Canon := ok.same.updStk.onStacks fun _ _ h => h.setF.setF

theorem Mach.Canon.endPlan (ok : m.Canon) : (m.endPlan s code).Canon :=
  .ite (.event (ok.onStacks fun _ _ h => .ite h.setF.updPlan.planEnded.dropKeyed h)) ok

theorem Mach.Canon.syncWaiters (ok : m.Canon) : (m.syncWaiters s o).Canon := .ite ok.setF.updPlan ok.setF
theorem Mach.Canon.discardUnit {h : CoreHalt} (ok : m.Canon) : (m.discardUnit s L h).Canon := ok.updCore.foldl fun _ _ h => h.syncWaiters
theorem Mach.Canon.clearLaunchRegs (ok : m.Canon) : (m.clearLaunchRegs s L).Canon := ok.setF.setF.setF.foldl fun _ _ h => h.resetF
theorem Mach.Canon.endPlanLogged (ok : m.Canon) : (m.endPlanLogged s L code addr kind).Canon := ok.logError.endPlan

theorem Mach.Canon.consume {addrs : List Nat} (ok : m.Canon) : (m.consume s L kind addrs).Canon := by
  unfold Mach.consume
  extract_lets p m1 m2 m3 m4
  have aborted : m3.Canon := ok.bumpF.setF.discardUnit.clearLaunchRegs.updCore
  have noted : m4.Canon := aborted.updInteg
  exact .ite aborted.updCore.endPlanLogged (.ite noted.bumpF.updCore.endPlanLogged noted)

theorem Mach.Canon.abortUnit {h : CoreHalt} (ok : m.Canon) : (m.abortUnit s L h).Canon := by
  unfold Mach.abortUnit
  extract_lets m1 m2
  have aborted : m2.Canon := ok.discardUnit.clearLaunchRegs.updCore
  exact .ite aborted.bumpF.updCore.endPlanLogged aborted

theorem Mach.Canon.keepCommitted (ok : m.Canon) : (m.keepCommitted s L a n).Canon := .ite ok.updCore ok
theorem Mach.Canon.performStore {p : PStore} (ok : m.Canon) : (m.performStore s L p).Canon := ok.keepCommitted.performWrite

theorem Mach.Canon.drain {fuel slot : Nat} (ok : m.Canon) : (Mach.drain fuel m s L slot).1.Canon := by
  induction fuel generalizing m with
  | zero => exact ok
  | succ fuel ih =>
    unfold Mach.drain
    dsimp only
    split
    · exact ok
    · exact .iteFst ok (ih ok.performStore.updCore)

theorem Mach.Canon.recordFault (ok : m.Canon) : (m.recordFault s L slot block lane cause pc addr word code).Canon := by
  unfold Mach.recordFault
  extract_lets p c again a b c' d m1 m2 late
  have recorded : m1.Canon := .ite ok ok.setF.setF.setF.setF.setF.setF.setF.setF.setF.setF
  have counted : m2.Canon := .ite recorded.setF recorded
  exact counted.discardUnit.clearLaunchRegs.updCore.coreCause

end Sys2Proof.Machine
end

section
/-! SUPPORT. The operands of a kernel, control, links, synchronisation objects, loads, atomics and descriptors keep the canonical form. -/

namespace Sys2Proof.Machine
set_option Elab.async false
variable {m : Mach} {s n k p code addr c r o kind a L l slot lane cause word cls op first reconv len dst back h f route dstStack core pd rd mask size g e st owner : Nat}

/-! ## Operands -/

theorem Mach.Canon.updGroup {f : Machine.Group → Machine.Group} (ok : m.Canon) : (m.updGroup s L slot f).Canon := ok.updCore
theorem Mach.Canon.next {k : KCtx} (ok : m.Canon) : (k.next m).Canon := ok.updGroup
theorem Mach.Canon.writeD {k : KCtx} {f : Nat → Nat} (ok : m.Canon) : (k.writeD m n f).Canon := ok.updCore.next
theorem Mach.Canon.writeP {k : KCtx} {f : Nat → Bool} (ok : m.Canon) : (k.writeP m f).Canon := ok.updGroup.next

theorem Mach.Canon.fenced {k : KCtx} {f : Mach → Mach} (ok : m.Canon) (keeps : ∀ n, n.Canon → (f n).Canon) : (k.fenced m f).Canon :=
  .ite (keeps _ ok.drain) ok.drain

theorem Mach.Canon.record {k : KCtx} (ok : m.Canon) : (k.record m cause lane addr code).Canon := ok.recordFault
theorem Mach.Canon.fault {k : KCtx} (ok : m.Canon) : (k.fault m cause lane addr code).Canon := ok.fenced fun _ h => h.record
theorem Mach.Canon.consumeRegs {k : KCtx} {p : List (Nat × Nat)} (ok : m.Canon) : (k.consume m p).Canon := ok.detectSorted.consume
theorem Mach.Canon.mismatch {k : KCtx} (ok : m.Canon) : (k.mismatch m lane).Canon := ok.bumpF.setF.setF.setF.logError.coreCause.abortUnit.detect

theorem Mach.Canon.run {k : KCtx} {disagree : Option (Fin 32)} {body : KCtx → Mach → Mach} (ok : m.Canon) (keeps : ∀ k n, n.Canon → (body k n).Canon)
    :
    (k.run m disagree body).Canon := by
  refine .ite ok (.ite ok.consumeRegs (.ite ok.fault (.ite ok.fault (.ite ok.fault ?_))))
  split
  · exact .ite ok.mismatch (keeps _ _ ok)
  · exact keeps _ _ ok

theorem Mach.Canon.stepped (ok : m.Canon) : (m.stepped s L).Canon := ok.fresh.updCore

theorem Mach.Canon.issueOn {a : KInstr} {ord : Option Bool} {body : KCtx → Mach → Mach} {g : Machine.Group} (ok : m.Canon) (keeps : ∀ k n, n.Canon →
    (body k n).Canon) :
    (m.issueOn a cls op ord body g).Canon := by
  refine .ite ok.fault (.ite ok (.ite ok.detectRead.consume (.ite ok (.ite ok.fault (.ite ok ?_)))))
  exact .ite ok.detectRead.consume (ok.run keeps).stepped

theorem Mach.Canon.issueLate {a : KInstr} {ord : Option Bool} {body : KCtx → Mach → Mach} (ok : m.Canon) (keeps : ∀ k n, n.Canon → (body k n).Canon) :
    (m.issueLate a cls op ord body).Canon := by
  unfold Mach.issueLate
  dsimp only
  split
  · exact ok
  · refine .ite ok ?_
    split
    · exact ok
    · exact .updCore (.ite (ok.updCore.issueOn keeps) ok)

theorem Mach.Canon.issue {a : KInstr} {ord : Option Bool} {body : KCtx → Mach → Mach} (ok : m.Canon) (keeps : ∀ k n, n.Canon → (body k n).Canon) :
    (m.issue a cls op ord body).Canon := by
  unfold Mach.issue
  split
  · exact ok.issueOn keeps
  · exact ok.issueLate keeps

theorem NextCanon.kernel {a : KInstr} {s : State} {body : KCtx → Mach → Mach} {ord : Option Bool} (ok : s.m.Canon) (keeps : ∀ k n, n.Canon → (body k
    n).Canon) :
    NextCanon (kernel a s cls op body ord) := .onStack ok fun _ _ h => h.issue keeps

/-! ## Ctrl -/

theorem Mach.Canon.syncLaunch (ok : m.Canon) : (m.syncLaunch s L).Canon := ok.setF.setF.setF.setF.setF.setF
theorem Mach.Canon.diverge {k : KCtx} {rest : List (Nat × Nat)} (ok : m.Canon) : (k.diverge m first reconv rest).Canon := .ite ok.fault ok.updGroup

/-! ## Link -/

theorem Mach.Canon.updLinks {f : LinkSt → LinkSt} (ok : m.Canon) : (m.updLinks s f).Canon := ok.updStk
theorem Mach.Canon.updLnk {f : Link → Link} (ok : m.Canon) : (m.updLnk s n f).Canon := ok.updLinks
theorem Mach.Canon.updTwin {f : TwinSt → TwinSt} (ok : m.Canon) : (m.updTwin s f).Canon := ok.updLinks

theorem Mach.Canon.closeDead (ok : m.Canon) : (m.closeDead s n).Canon := by
  unfold Mach.closeDead
  split
  · exact .ite ok ok.updLnk
  · exact ok

theorem Mach.Canon.pump (ok : m.Canon) : (m.pump s n).Canon := .ite ok.closeDead.updLnk ok
theorem Mach.Canon.linkPush {fs : List OutFlit} (ok : m.Canon) : (m.linkPush s n fs).Canon := ok.updLnk.pump
theorem Mach.Canon.routeSend {fs : List Flit} {via : Option Nat} (ok : m.Canon) : (m.routeSend s r fs via).Canon := ok.linkPush

theorem Mach.Canon.sendWrite {bs : List PByte} {compress : Bool} {owner : XferFor} (ok : m.Canon) : (m.sendWrite s r addr bs compress owner).Canon :=
  ok.updLinks.routeSend

theorem Mach.Canon.sendRead {owner : XferFor} (ok : m.Canon) : (m.sendRead s r addr len dst back owner).Canon := ok.updLinks.routeSend
theorem Mach.Canon.sendReads {owner : XferFor} (ok : m.Canon) : (m.sendReads s r addr len dst c owner).Canon := ok.foldl fun _ _ h => h.sendRead
theorem Mach.Canon.sendEntry (ok : m.Canon) : (m.sendEntry s r word kind).Canon := ok.routeSend

theorem Mach.Canon.sendSignal (ok : m.Canon) : (m.sendSignal s h n f).Canon := by
  unfold Mach.sendSignal
  split
  · exact ok.send
  · split
    · exact ok.sendEntry
    · exact ok

theorem Mach.Canon.sendWord (ok : m.Canon) : (m.sendWord s route dstStack core word).Canon := .ite ok.send ok.sendEntry

/-! ## SyncObj -/

theorem Mach.Canon.signalRun {fuel h n f : Nat} (ok : m.Canon) : (Mach.signalRun fuel m s h n f).Canon := by
  induction fuel generalizing m n with
  | zero => exact ok
  | succ fuel ih => exact .ite ok (ih ok.sendSignal)

theorem Mach.Canon.forward (ok : m.Canon) : (m.forward s o c n).Canon := .ite (.ite ok ok.signalRun) (.signalRun (.ite ok ok.signalRun))
theorem Mach.Canon.releaseWait (ok : m.Canon) : (m.releaseWait s L slot o pd rd mask).Canon := ok.updCore.updGroup

theorem Mach.Canon.releaseOne {e : Nat × Nat × Machine.Group} (ok : m.Canon) : (m.releaseOne s o e).Canon := by
  unfold Mach.releaseOne
  split
  · exact .ite ok.releaseWait ok
  · split
    · exact .ite ok.updGroup ok
    · exact ok
  · exact ok

theorem Mach.Canon.releaseWaiters (ok : m.Canon) : (m.releaseWaiters s o).Canon := .syncWaiters (ok.foldl fun _ _ h => h.releaseOne)
theorem Mach.Canon.fireBinds (ok : m.Canon) : (m.fireBinds s o).Canon := ok.updStk.foldl fun _ _ h => h.srcEdge.sendVector

theorem Mach.Canon.releaseReached (ok : m.Canon) : (m.releaseReached s o).Canon := by
  unfold Mach.releaseReached
  dsimp only
  split
  · exact .ite ok.updPlan ok
  · exact ok

theorem Mach.Canon.phaseSettle (ok : m.Canon) : (m.phaseSettle s).Canon := by
  unfold Mach.phaseSettle
  dsimp only
  split
  · exact .ite ok.setF.updPlan.updStk ok
  · exact ok

theorem Mach.Canon.applySignals {l : List (Nat × Nat)} (ok : m.Canon) : (m.applySignals s o l).Canon := by
  unfold Mach.applySignals
  extract_lets c n fs m1 old code m2 m3
  have counted : m2.Canon := .ite ok.setF ok.setF.setF.setF
  have settled : m3.Canon := counted.updPlan
  exact .ite ok.bumpF (.ite counted settled.forward.releaseWaiters.fireBinds.releaseReached.phaseSettle)

/-! ## MemOps -/

theorem Mach.Canon.refusedTarget (ok : m.Canon) : (m.refusedTarget n cause a).Canon := .ite ok.refuse (.ite ok.refuse (.ite ok.refuse ok))
theorem Mach.Canon.memFault {k : KCtx} {f : Nat × Nat × Nat} (ok : m.Canon) : (k.memFault m n f).Canon := ok.fenced fun _ h => h.refusedTarget.record
theorem Mach.Canon.throughPort {bs : List PByte} (ok : m.Canon) : (m.throughPort s L a bs).1.Canon := .iteFst ok.updStk ok
theorem Mach.Canon.updNear {f : NearSt → NearSt} (ok : m.Canon) : (m.updNear s L f).Canon := ok.updCore

theorem Mach.Canon.coreRead (ok : m.Canon) : (m.coreRead s L a n).1.Canon := by
  refine .iteFst ok.performRead.throughPort ?_
  split
  · exact .ite ok.performRead.throughPort.updNear ok.performRead.throughPort
  · exact .iteFst (.ite ok.updNear.detect.performRead.throughPort.updNear ok.updNear.detect.performRead.throughPort) ok.updNear

theorem Mach.Canon.loadBytes {k : KCtx} (ok : m.Canon) : (k.loadBytes m a n).1.Canon := ok.coreRead
theorem Mach.Canon.loadLane {k : KCtx} (ok : m.Canon) : (k.loadLane m size lane a).Canon := ok.loadBytes.updCore
theorem Mach.Canon.loadLost {k : KCtx} (ok : m.Canon) : (k.loadLost m size lane a).Canon := ok.updCore

theorem Mach.Canon.loadLanes {k : KCtx} {fs : List (Nat × Nat)} (ok : m.Canon) : (k.loadLanes m n size fs).Canon :=
  ok.foldl fun _ _ h => .ite h.loadLost h.loadLane

/-! ## Atom -/

theorem Mach.Canon.syncJournal (ok : m.Canon) : (m.syncJournal s L).Canon := ok.setF.setF
theorem Mach.Canon.atomFinish {a : AInstr} (ok : m.Canon) : (m.atomFinish s L slot a).Canon := ok.updCore.updGroup

theorem Mach.Canon.atomPerform (ok : m.Canon) : (m.atomPerform s L slot).Canon := by
  unfold Mach.atomPerform
  split
  · split
    · exact ok
    · extract_lets _ _ d dead rd kd old res m0 m1 m2 a' m3
      have read : rd.1.Canon := ok.drain.performRead
      have written : m1.Canon := .performWrite (.ite read.keepCommitted read)
      have journaled : m2.Canon := by
        unfold m2
        split
        · exact written.updCore.syncJournal
        · exact written
      refine .ite ok (.ite ok.drain (.ite read.consume (.ite ?_ journaled.updCore)))
      split
      · exact journaled.atomFinish.syncWaiters.applySignals
      · exact journaled.atomFinish
  · exact ok

theorem Mach.Canon.atomic {k : KCtx} {ord : Bool} (ok : m.Canon) : (k.atomic m n ord).Canon := by
  unfold KCtx.atomic
  split
  · exact .ite ok.memFault ok.fault
  · exact .ite ok.updCore.updGroup.atomFinish (.ite ok.updCore.updGroup.updCore.updGroup.syncWaiters ok.updCore.updGroup.updCore.updGroup)

/-! ## Desc -/

theorem Mach.Canon.readDescs {k : KCtx} {lanes : List Nat} (ok : m.Canon) : (k.readDescs m n lanes).1.Canon := by
  refine .foldlVia Prod.fst ok fun _ _ h => ?_
  split
  · exact h
  · exact .iteFst h h.loadBytes

theorem Mach.Canon.detectAll {l : List (Nat × Nat)} (ok : m.Canon) : (m.detectAll l).Canon := ok.foldl fun _ _ h => h.detectHome

theorem Mach.Canon.solo {σ : Type} {k : KCtx} {st : σ} {chk : Mach → σ → List Byte → Option σ} {iss : Mach → List Byte → Mach} {go : Mach → Mach}
    {more : Mach → List Byte → List (Nat × Nat)} (ok : m.Canon) (keeps : ∀ n b, n.Canon → (iss n b).Canon) (goes : ∀ n, n.Canon → (go n).Canon) :
    (k.solo m n st chk iss go more).Canon := by
  refine ok.fenced fun _ h => .ite h (.ite h.readDescs.detectAll.consumeRegs ?_)
  dsimp only
  split
  · exact .ite h.readDescs.memFault h.readDescs.fault
  · exact goes _ (h.readDescs.foldl fun _ _ h' => keeps _ _ h')

end Sys2Proof.Machine
end

section
/-! SUPPORT. Matrix and softmax units, mailboxes and firmware keep the canonical form. -/

namespace Sys2Proof.Machine
set_option Elab.async false
variable {m : Mach} {s i n k p old status r o kind a L l op f id accFmt part residual b d t : Nat}

/-! ## MxIssue -/

theorem Mach.Canon.updMx {f : MxSt → MxSt} (ok : m.Canon) : (m.updMx s L f).Canon := ok.updCore
theorem Mach.Canon.syncMx (ok : m.Canon) : (m.syncMx s L).Canon := ok.setF.setF.setF.setF.setF.setF.setF

theorem Mach.Canon.mxIssue {kind : MxKind} {d : MxDesc} {frag : Option (List (List Byte))} {out : Option (Nat × Nat × Nat)} (ok : m.Canon) :
    (m.mxIssue s L kind d frag out).Canon :=
  ok.updMx.syncMx

theorem Mach.Canon.mxNext {k : KCtx} (ok : m.Canon) : (k.mxNext m).Canon := .ite ok.next ok.updGroup

theorem Mach.Canon.mxg {k : KCtx} {chk : Nat × Nat → List Byte → Option (Nat × Nat)} {iss : Mach → List Byte → Nat → Nat → Mach} (ok : m.Canon) (keeps
    : ∀ n b F R, n.Canon → (iss n b F R).Canon) :
    (k.mxg m n op chk iss).Canon := by
  refine .ite ok (ok.fenced fun _ h => .ite h (.ite h.readDescs.consumeRegs ?_))
  split
  · exact .ite h.readDescs.memFault h.readDescs.fault
  · exact .ite h.readDescs ((keeps _ _ _ _ h.readDescs).next)

/-! ## MxArray -/

theorem Mach.Canon.mxRelease (ok : m.Canon) : (m.mxRelease s L).Canon := by
  refine .syncMx (ok.foldl fun _ _ h => ?_)
  split
  · exact .ite h.updGroup h
  · exact .ite h.updGroup h
  · exact h

theorem Mach.Canon.mxComplete (ok : m.Canon) : (m.mxComplete s L id).Canon := ok.updMx.mxRelease

theorem Mach.Canon.mxStart (ok : m.Canon) : (m.mxStart s L).Canon := by
  unfold Mach.mxStart
  dsimp only
  split
  · exact ok
  · exact .ite ok (.ite ok.updMx.mxRelease ok.updMx.mxRelease)

theorem Mach.Canon.mxRead (ok : m.Canon) : (m.mxRead a n).1.Canon := ok.performRead
theorem Mach.Canon.mxReads {l : List (Nat × Nat)} (ok : m.Canon) : (m.mxReads l).1.Canon := .foldlVia Prod.fst ok fun _ _ h => h.mxRead
theorem Mach.Canon.consumeAll {p : List (Nat × Nat)} (ok : m.Canon) : (m.consumeAll s L p).Canon := ok.consume

theorem Mach.Canon.mxLoad (ok : m.Canon) : (m.mxLoad s L).Canon := by
  unfold Mach.mxLoad
  split
  · exact ok
  · exact .ite ok (.ite ok.mxReads.consumeAll ok.mxReads.updMx.mxComplete)

theorem Mach.Canon.countAcc (ok : m.Canon) : (m.countAcc s p accFmt n).Canon := .ite ok (.ite ok.bumpF ok.bumpF)

theorem Mach.Canon.accumulatePart {d : MxDesc} {vals : List Int} {old : List (Nat × List Nat)} (ok : m.Canon) :
    (m.accumulatePart s L d part i vals old).Canon :=
  .countAcc (ok.foldl fun _ _ h => h.sramWrite)

theorem Mach.Canon.accumulateRow {d : MxDesc} {vals : List Int} {exact : List Fv} (ok : m.Canon) : (m.accumulateRow s L d i vals exact).1.Canon :=
  .iteFst ok.mxReads.consumeAll (.countAcc (ok.mxReads.foldl fun _ _ h => h.accumulatePart))

theorem Mach.Canon.mxMismatch {d : MxDesc} (ok : m.Canon) : (m.mxMismatch s L d i kind residual).Canon := ok.setF.setF.setF.setF.setF.setF

theorem Mach.Canon.mxFault {o : MxOp} (ok : m.Canon) : (m.mxFault s L o i residual).Canon :=
  (ok.withMem (Mem.wf_foldl _ (fun _ _ h => Mem.wf_poisonGranule _ _ h) _ ok.mem)).mxMismatch.bumpF.logError.coreCause.abortUnit.detect

theorem Mach.Canon.mxCountRow (ok : m.Canon) : (m.mxCountRow s L).Canon := .ite ok.setF.setF.event.coreCause ok.setF
theorem Mach.Canon.updMxRun {f : MxRun → MxRun} (ok : m.Canon) : (m.updMxRun s L id f).Canon := ok.updMx

theorem Mach.Canon.mxDeliver {o : MxOp} {vals : List Int} {exact : List Fv} (ok : m.Canon) : (m.mxDeliver s L o i vals exact).Canon :=
  .ite ok.accumulateRow.updMxRun ok.accumulateRow

theorem Mach.Canon.mxRow {fl : List (Nat × Nat)} (ok : m.Canon) : (m.mxRow s L fl).Canon := by
  unfold Mach.mxRow
  dsimp only
  split
  · exact ok
  · refine .ite ok (.ite ok.mxCountRow.mxReads.consumeAll ?_)
    split
    · exact ok.mxCountRow.mxReads.mxDeliver
    · exact ok.mxCountRow.mxReads.bumpF.mxDeliver
    · exact .ite ok.mxCountRow.mxReads.mxFault ok.mxCountRow.mxReads.mxMismatch.updMxRun.syncMx

theorem Mach.Canon.mxRecompute {fl : List (Nat × Nat)} (ok : m.Canon) : (m.mxRecompute s L fl).Canon := by
  unfold Mach.mxRecompute
  dsimp only
  split
  · exact ok
  · split
    · exact ok
    · refine .ite ok (.ite ok.mxCountRow.bumpF.updMx.mxDeliver.syncMx ?_)
      split
      · exact ok.mxCountRow.mxFault
      · exact ok.mxCountRow.mxFault

theorem Mach.Canon.mxStreamDone (ok : m.Canon) : (m.mxStreamDone s L).Canon := by
  unfold Mach.mxStreamDone
  split
  · exact .ite ok.mxComplete ok
  · exact ok

theorem Mach.Canon.mxDrain (ok : m.Canon) : (m.mxDrain s L).Canon := by
  unfold Mach.mxDrain
  split
  · exact ok
  · refine .ite ok (.ite ok.mxReads.consumeAll (.mxComplete (.countAcc (.ite (.foldl (ok.mxReads.foldl fun _ _ h => ?_) fun _ _ h => h.sramWrite)
      (ok.mxReads.foldl fun _ _ h => ?_)))))
    · split
      · exact h.performWrite
      · exact h.updCore
    · split
      · exact h.performWrite
      · exact h.updCore

/-! ## Att -/

theorem Mach.Canon.updAtt {f : AttSt → AttSt} (ok : m.Canon) : (m.updAtt s L f).Canon := ok.updCore
theorem Mach.Canon.syncAtt (ok : m.Canon) : (m.syncAtt s L).Canon := ok.setF.setF.setF.setF.setF
theorem Mach.Canon.attIssue {b : List Byte} {list : List PackRow} {t : AttTrack} (ok : m.Canon) : (m.attIssue s L b list t).Canon := ok.updAtt.syncAtt
theorem Mach.Canon.attNext {k : KCtx} (ok : m.Canon) : (k.attNext m).Canon := .ite ok.next ok.updGroup

theorem Mach.Canon.att {k : KCtx} {chk : Mach → AttTrack → List Byte → Option AttTrack} {more : Mach → List Byte → List (Nat × Nat)} (ok : m.Canon) :
    (k.att m n chk more).Canon := by
  refine .ite ok (ok.solo (fun _ _ h => ?_) fun _ h => h.attNext)
  dsimp only
  split
  · exact h.attIssue
  · exact h

theorem Mach.Canon.scoreStep {d : ScoreD} {slots : Machine.SMap BiasSlot} {pack : List PackRow} {t : Mach × List (Nat × Nat)} (ok : t.1.Canon) :
    (Mach.scoreStep s L d slots pack t i).1.Canon := by
  unfold Mach.scoreStep
  refine .iteFst ok (.iteFst ok (.sramWrite ?_))
  split
  · exact .sramWrite (ok.foldl fun _ _ h => h.sramWrite)
  · exact ok.foldl fun _ _ h => h.sramWrite

theorem Mach.Canon.normStep {d : NormD} {t : Mach × List (Nat × Nat) × Nat × Nat} (ok : t.1.Canon) : (Mach.normStep s L d t i).1.Canon := by
  obtain ⟨n, x⟩ := t
  replace ok : n.Canon := ok
  unfold Mach.normStep
  dsimp only
  generalize n.normRow s L d i = r
  exact .iteFst ok (.iteFst ok (.ite ok.sramWrite.sramWrite ok.sramWrite))

theorem Mach.Canon.attRelease (ok : m.Canon) : (m.attRelease s L).Canon := by
  refine .syncAtt (ok.foldl fun _ _ h => ?_)
  split
  · exact .ite h.updGroup h
  · exact .ite h.updGroup h
  · exact h

theorem Mach.Canon.attStart (ok : m.Canon) : (m.attStart s L).Canon := by
  unfold Mach.attStart
  dsimp only
  split
  · exact .ite ok.updAtt.attRelease ok
  · exact ok

theorem Mach.Canon.attLoadBias {b : List Byte} (ok : m.Canon) : (m.attLoadBias s L b).Canon := ok.detectHome.updAtt
theorem Mach.Canon.attPack {o : AttOp} (ok : m.Canon) : (m.attPack s L o).Canon := .updAtt (ok.foldl fun _ _ h => h.detectHome.sramWrite)
theorem Mach.Canon.attComplete (ok : m.Canon) : (m.attComplete s L).Canon := ok.updAtt.attRelease

theorem Mach.Canon.attDone (ok : m.Canon) : (m.attDone s L).Canon := by
  unfold Mach.attDone
  extract_lets x
  split
  · exact ok
  · refine .ite ok ?_
    extract_lets b d t d' t' e f m1 m2 m3 m4
    split
    · exact ok.attLoadBias.attComplete
    · have rows : t.1.Canon := .foldlVia Prod.fst ok fun _ _ h => h.scoreStep
      exact .ite rows.detectAll.consumeAll rows.attComplete
    · have rows : t'.1.Canon := .foldlVia Prod.fst ok fun _ _ h => h.normStep
      have counted : m1.Canon := rows.bumpF.bumpF
      have empties : m2.Canon := .ite counted.setF counted
      have nonfinite : m3.Canon := .ite empties.setF empties
      have stored : m4.Canon := .ite nonfinite.sramWrite nonfinite
      exact .ite rows.detectAll.consumeAll stored.attComplete
    · exact ok.attPack.attComplete

/-! ## Mbx -/

theorem Mach.Canon.complete {r : MbxReq} {payload : List Byte} (ok : m.Canon) : (m.complete r status payload).Canon :=
  canonical_complete r status payload ok

theorem Mach.Canon.settleMbx {k : Nat} (ok : m.Canon) : (m.settleMbx n k).Canon := canonical_settleMbx n k ok
theorem Mach.Canon.popReq (ok : m.Canon) : (m.popReq n).Canon := ok.same.settleMbx
theorem Mach.Canon.defer {r : MbxReq} (ok : m.Canon) : (m.defer r).Canon := ok.same

theorem Mach.Canon.completeDeferred {p : MbxReq → Bool} {payload : List Byte} (ok : m.Canon) : (m.completeDeferred op p status payload).Canon := by
  unfold Mach.completeDeferred
  split
  · exact ok
  · exact ok.same.complete

/-! ## Firmware -/

theorem Mach.Canon.syncLicences {f : Fuse} (ok : m.Canon) : (Mach.syncLicences f m).Canon := ok.onStacks fun _ _ h => h.setF.setF
theorem Mach.Canon.checkStore {f : Fuse} (ok : m.Canon) : (Mach.checkStore f m).Canon := ok.syncLicences.onStacks fun _ _ h => h.bumpF

end Sys2Proof.Machine
end

section
/-! SUPPORT. The Cabinet, its journal and its operations keep the canonical form. -/

namespace Sys2Proof.Machine
set_option Elab.async false
variable {m m0 m1 : Mach} {s v i n src p code c r o kind L l cls len dst f id q b g stream pos off e d t : Nat}

/-! ## Cabinet -/

theorem Mach.Canon.updCab {f : Cab → Cab} (ok : m.Canon) : (m.updCab s c f).Canon := ok.updStk

theorem Mach.Canon.updSeq {f : Machine.Seq → Machine.Seq} (ok : m.Canon) : (m.updSeq s q f).Canon := by
  unfold Mach.updSeq
  split
  · exact ok.updStk
  · exact ok

theorem Mach.Canon.setPage {p : Option KPage} (ok : m.Canon) : (m.setPage s c id p).Canon := ok.updCab.performWrite

theorem Mach.Canon.updPage {f : KPage → KPage} (ok : m.Canon) : (m.updPage s c id f).Canon := by
  unfold Mach.updPage
  split
  · exact ok.setPage
  · exact ok

theorem Mach.Canon.syncCab (ok : m.Canon) : (m.syncCab s c).Canon := ok.setF.setF.setF.setF.setF
theorem Mach.Canon.writeEntry (ok : m.Canon) : (m.writeEntry s c b i v).Canon := ok.performWrite

theorem Mach.Canon.takeBlock (ok : m.Canon) : ∀ t ∈ m.takeBlock s c, t.1.Canon := by
  intro t e
  unfold Mach.takeBlock at e
  split at e
  · cases e
  · cases e
    exact ok.updCab.withMem (Mem.wf_clear _ _ ok.updCab.mem)

theorem Mach.Canon.needBlocks (ok : m.Canon) : AllCanon (m.needBlocks s c q g) := by
  unfold Mach.needBlocks
  split
  · exact .none
  · extract_lets r1
    have first : AllCanon r1 := by
      unfold r1
      split
      · exact .some ok
      · exact .map fun t e => (ok.takeBlock t e).updSeq
    clear_value r1
    split
    · exact .none
    · next m1 =>
      split
      · exact .some (first m1 rfl)
      · exact .map fun t taken => ((first m1 rfl).takeBlock t taken).updSeq.writeEntry

theorem Mach.Canon.mapPut (ok : m.Canon) : (m.mapPut s c q g id).Canon := ok.updSeq.writeEntry

theorem Mach.Canon.trimBlocks (ok : m.Canon) : (m.trimBlocks s c q).Canon := by
  unfold Mach.trimBlocks
  split
  · exact ok
  · exact .updCab (.updSeq (ok.foldl fun _ _ h => h.writeEntry))

theorem Mach.Canon.releasePage {pinned : Bool} (ok : m.Canon) : (m.releasePage s c id pinned).Canon := by
  unfold Mach.releasePage
  split
  · exact ok
  · exact .ite ok.setPage ok.setPage

theorem Mach.Canon.unmap {drop : Nat → Bool} (ok : m.Canon) : (m.unmap s c q drop).Canon := by
  unfold Mach.unmap
  split
  · exact ok
  · exact .trimBlocks (.updSeq (ok.foldl fun _ _ h => h.releasePage.writeEntry))

theorem Mach.Canon.moveOut {keep : List Nat} {p : KPage} (ok : m.Canon) : (m.moveOut s c keep id p).Canon :=
  .ite (.ite ok.bumpF.setPage ok.bumpF.performRead.performRead.performWrite.performWrite.setPage.updCab) ok.bumpF.setPage

theorem Mach.Canon.frame {r : KvRun} (ok : r.m.Canon) : (r.frame s c cls).1.m.Canon := by
  unfold KvRun.frame
  split
  · exact ok
  · split
    · exact ok
    · exact ok.moveOut

theorem Mach.Canon.zeroFrame (ok : m.Canon) : (m.zeroFrame s c f).Canon := ok.updCab.withMem (Mem.wf_clear _ _ (Mem.wf_clear _ _ ok.updCab.mem))
theorem Mach.Canon.errorDrop (ok : m.Canon) : (m.errorDrop s c id f).Canon := ok.updPage.bumpF

theorem Mach.Canon.bringBack (ok : m.Canon) : (m.bringBack s c id f).1.Canon := by
  unfold Mach.bringBack
  split
  · exact ok
  · exact .iteFst ok.performRead.performRead.performWrite.performWrite.setPage.bumpF ok.performRead.performRead.zeroFrame.errorDrop

theorem Mach.Canon.newPage {r : KvRun} {x : Machine.Seq} {copyOf : Option (Nat × KPage)} (ok : r.m.Canon) : (r.newPage s c q g x copyOf).m.Canon := by
  unfold KvRun.newPage
  split
  · exact ok
  · next m1 e =>
    have needed : m1.Canon := ok.needBlocks m1 e
    split
    · exact needed
    · extract_lets t
      have framed : t.1.m.Canon := Mach.Canon.frame (r := { r with m := m1 }) needed
      clear_value t
      split
      · exact framed
      · extract_lets m2 m3 pg
        have zeroed : m2.Canon := framed.zeroFrame
        have copied : m3.Canon := by
          unfold m3
          split
          · exact zeroed
          · exact zeroed.performRead.performRead.performWrite.performWrite.setPage.bumpF
        clear_value m3
        exact copied.setPage.mapPut.inRun

theorem Mach.Canon.refillError {r : KvRun} {p : KPage} (ok : r.m.Canon) : (r.refillError s c id p).m.Canon := by
  unfold KvRun.refillError
  refine .iteM ok.zeroFrame.setPage.inRun ?_
  extract_lets m1
  split
  · exact ok.updCab.zeroFrame.setPage.inRun
  · exact ok.updCab.setPage.inRun

theorem Mach.Canon.visit {x : Machine.Seq} {refill : Bool} {r : KvRun} (ok : r.m.Canon) : (KvRun.visit s c q x refill r g).m.Canon := by
  unfold KvRun.visit
  refine .iteM ok ?_
  split
  · exact ok.newPage
  · split
    · exact ok
    · refine .iteM (.iteM ok (.iteM ok.refillError ?_)) ?_
      · extract_lets t
        have framed : t.1.m.Canon := ok.frame
        clear_value t
        split
        · exact framed
        · exact framed.zeroFrame.setPage.inRun
      · extract_lets t _ r1
        have brought : r1.m.Canon := by
          have framed : t.1.m.Canon := ok.frame
          clear_value t
          unfold r1
          split
          · split
            · exact framed
            · exact .iteM framed.bringBack.inRun framed.bringBack.inRun
          · exact ok
        clear_value r1
        exact .iteM brought brought.newPage

theorem Mach.Canon.frameBack (ok : m.Canon) : (m.frameBack m0 s c f).Canon := ok.performWrite.performWrite

theorem Mach.Canon.undo {r : KvRun} {gs : List Nat} (ok : r.m.Canon) : (r.undo s c q m0 gs).Canon := by
  unfold KvRun.undo
  dsimp only
  split
  · refine ok.foldl fun _ _ h => .ite h ?_
    split
    · exact .ite h.setPage.frameBack h.setPage
    · exact h.setPage
  · refine .foldl (.updCab (.updSeq (ok.foldl fun _ _ h => .ite h ?_))) fun _ _ h => ?_
    · split
      · exact .ite h.setPage.frameBack h.setPage
      · exact h.setPage
    · split
      · exact h.writeEntry
      · split
        · exact h.writeEntry
        · exact h

theorem Mach.Canon.writePosition {x : Machine.Seq} {e : List PByte} (ok : m.Canon) : (m.writePosition s c q x stream pos e).Canon := by
  unfold Mach.writePosition
  split
  · exact ok
  · split
    · exact ok
    · exact .setPage (.ite ok.performWrite.performWrite ok.performWrite.performWrite.performWrite.performWrite)

theorem Mach.Canon.append {o : KOp} {x : Machine.Seq} (ok : m.Canon) : (m.append s c o x).1.Canon := by
  unfold Mach.append
  extract_lets code P gs busy r adv f m1
  have visited : r.m.Canon := .foldlVia KvRun.m ok fun _ _ h => h.visit
  have written : m1.Canon := visited.foldl fun _ _ h => h.writePosition
  exact .iteFst ok (.iteFst visited.undo (.ite written.updSeq written))

theorem Mach.Canon.countAppend (ok : m.Canon) : (m.countAppend s c).Canon :=
  .ite ok.setF (.ite (ok.setF.setF.foldl fun _ _ h => .ite h.setPage h) ok.setF.setF)

theorem Mach.Canon.fork {x : Machine.Seq} {d : Machine.Seq} (ok : m.Canon) : (m.fork s c src dst len x d).1.Canon := by
  unfold Mach.fork
  refine .iteFst ok (.iteFst ok ?_)
  extract_lets P l r
  have made : AllCanon r := .foldl (.some ok) fun p x h => .bind fun m1 e => .map fun m2 needed => ((h m1 e).needBlocks m2 needed).mapPut.updPage
  clear_value r
  refine .iteFst ok ?_
  split
  · exact ok
  · next m1 => exact (made m1 rfl).updSeq

theorem Mach.Canon.trunc {x : Machine.Seq} (ok : m.Canon) : (m.trunc s c q len x).1.Canon := .iteFst ok ok.unmap.updSeq
theorem Mach.Canon.freeSeq {keep : Bool} (ok : m.Canon) : (m.freeSeq s c q keep).Canon := .ite ok.unmap.updSeq ok.unmap.updSeq.updStk

theorem Mach.Canon.prefetch {r : KvRun} (ok : r.m.Canon) : (KvRun.prefetch s c cls r id).m.Canon := by
  unfold KvRun.prefetch
  refine .iteM ok ?_
  split
  · exact ok
  · refine .iteM ok ?_
    extract_lets t
    have framed : t.1.m.Canon := ok.frame
    clear_value t
    split
    · exact framed
    · exact .inRun (.ite framed.bringBack.updPage framed.bringBack)

theorem Mach.Canon.hint {o : KOp} {x : Machine.Seq} (ok : m.Canon) : (m.hint s c o x).Canon := by
  unfold Mach.hint
  extract_lets ids m1 r
  have stamped : m1.Canon := .ite (ok.foldl fun _ _ h => h.updPage) ok
  have fetched : r.m.Canon := .foldlVia KvRun.m stamped fun _ _ h => h.prefetch
  exact .ite (.ite fetched.bumpF.srcEdge fetched) stamped

theorem Mach.Canon.kvOutcome {o : KOp} {fork : Bool} (ok : m.Canon) : (m.kvOutcome s c o q code fork).Canon := by
  unfold Mach.kvOutcome
  extract_lets hard m1
  have raised : m1.Canon := .ite ok.bumpF.srcEdge ok
  clear_value m1
  split
  · exact raised.logError
  · exact .ite (.sendSignal (.ite raised raised.updSeq)) (.ite raised raised.updSeq)

theorem Mach.Canon.keyDone {o : KOp} (ok : m.Canon) : (m.keyDone s c o).Canon := ok.updCab.setF.syncCab

/-! ## Journal -/

theorem Mach.Canon.journalRec {bs : List Byte} (ok : m.Canon) : (m.journalRec s off bs).Canon := ok.linkPush.updTwin
theorem Mach.Canon.journalDiff (ok : m.Canon) : (m.journalDiff m0 s).Canon := .foldl (ok.foldl fun _ _ h => h.journalRec) fun _ _ h => h.journalRec
theorem Mach.Canon.journalPut (ok1 : m1.Canon) : AllCanon (m.journalPut m1 s) := .ite (.ite .none (.some ok1.journalDiff)) (.some ok1)

theorem Mach.Canon.journaled {f : Mach → Mach} (ok : m.Canon) (keeps : ∀ n, n.Canon → (f n).Canon) : (m.journaled s f).Canon :=
  (Mach.Canon.journalPut (keeps _ ok)).getD ok

theorem Mach.Canon.journalClose (ok : m.Canon) : (m.journalClose s).Canon :=
  .journalRec (.foldl (ok.foldl fun _ _ h => h.journalRec.updTwin) fun _ _ h => h.journalRec.updTwin)

theorem Mach.Canon.beat (ok : m.Canon) : (m.beat s e b).Canon := ok.foldl fun _ _ h => .ite h.linkPush h
theorem Mach.Canon.closeEpoch (ok : m.Canon) : (m.closeEpoch s).Canon := ok.journalClose.beat.updTwin

theorem Mach.Canon.journalMany {l : List (Nat × List Byte)} (ok : m.Canon) : (m.journalMany s l).Canon :=
  ok.foldl fun _ _ h => .journalRec (.ite h.closeEpoch h)

theorem Mach.Canon.journalAll (ok : m.Canon) : (m.journalAll s).Canon := ok.journalMany.updTwin

/-! ## Kv -/

theorem Mach.Canon.kvStage {o : KOp} (ok : m.Canon) : (m.kvStage s L o).Canon := ok.updCore
theorem Mach.Canon.kvAppend {b : List Byte} (ok : m.Canon) : (m.kvAppend s L b).Canon := ok.performWrite.kvStage
theorem Mach.Canon.kvGather {b : List Byte} (ok : m.Canon) : (m.kvGather s L b).Canon := ok.updCore

theorem Mach.Canon.keyedArrive {o : KOp} (ok : m.Canon) : (m.keyedArrive s c o).Canon :=
  .ite ok.receive.bumpF (.ite ok (.ite ok.setF ok.receive.updCab.setF.syncCab))

theorem Mach.Canon.perform {f : Mach → KOp → Mach} (ok : m.Canon) (keeps : ∀ n o, n.Canon → (f n o).Canon) : (m.perform s c kind f).Canon := by
  unfold Mach.perform
  split
  · exact ok
  · exact .ite ok ((keeps _ _ ok).keyDone)

theorem Mach.Canon.performAppend (ok : m.Canon) : (m.performAppend s c).Canon := by
  refine ok.perform fun _ _ h => .countAppend (.kvOutcome (.bumpF ?_))
  split
  · exact h.append
  · exact h

theorem Mach.Canon.performFork (ok : m.Canon) : (m.performFork s c).Canon := by
  refine ok.perform fun _ _ h => .kvOutcome ?_
  split
  · exact h.fork
  · exact h

theorem Mach.Canon.performFree (ok : m.Canon) : (m.performFree s c).Canon := by
  refine ok.perform fun _ _ h => ?_
  split
  · exact h.kvOutcome.freeSeq
  · exact h.kvOutcome

theorem Mach.Canon.performTrunc (ok : m.Canon) : (m.performTrunc s c).Canon := by
  refine ok.perform fun _ _ h => .kvOutcome ?_
  split
  · exact h.trunc
  · exact h

theorem Mach.Canon.performHint (ok : m.Canon) : (m.performHint s c).Canon := by
  refine ok.perform fun _ _ h => ?_
  split
  · exact h.hint.updSeq
  · exact h

theorem Mach.Canon.kvRelease (ok : m.Canon) : (m.kvRelease s L).Canon := by
  refine ok.foldl fun _ _ h => ?_
  split
  · exact .ite h.updGroup h
  · exact h

theorem Mach.Canon.gatherError {p : KPage} (ok : m.Canon) : (m.gatherError s c id p).Canon := .ite ok.setPage.bumpF ok.errorDrop

theorem Mach.Canon.gatherScan {g : KGather} {x : Machine.Seq} (ok : m.Canon) : (m.gatherScan s c g x).Canon := by
  refine ok.foldl fun _ _ h => .ite h ?_
  split
  · exact h
  · split
    · exact h
    · exact .ite h (.ite (.gatherError (h.foldl fun _ _ h' => h'.detectHome)) (h.foldl fun _ _ h' => h'.detectHome))

theorem Mach.Canon.gatherDone (ok : m.Canon) : (m.gatherDone s L).Canon := by
  unfold Mach.gatherDone
  split
  · exact ok
  · extract_lets b q c base n pos0 fl status finish
    have told : ∀ {n code pos}, n.Canon → (finish (status n code pos)).Canon := fun h => h.performWrite.updCore.kvRelease
    refine .ite ok ?_
    split
    · exact told ok
    · extract_lets m1 l po m2 m3 bad
      have scanned : m1.Canon := ok.gatherScan
      have keys : m2.Canon := .ite (scanned.foldl fun _ _ h => h.performWrite) scanned
      have values : m3.Canon := .ite (keys.foldl fun _ _ h => h.performWrite) keys
      clear_value m1 m2 m3 bad
      refine .ite (told ok) (.ite scanned.detectAll.consumeAll ?_)
      split
      · exact told values
      · exact told values

end Sys2Proof.Machine
end

section
/-! SUPPORT. Scripts, commits, phases and the reserved area keep the canonical form. -/

namespace Sys2Proof.Machine
set_option Elab.async false
variable {m m0 : Mach} {s i n k w src r o a L l h f id e stack buffer depth sdid ch j d : Nat}

/-! ## Script -/

theorem Mach.Canon.syncScript (ok : m.Canon) : (m.syncScript s L).Canon := ok.setF.setF.setF
theorem Mach.Canon.takeTokens {e : SEntry} (ok : m.Canon) : (m.takeTokens s L e).Canon := ok.updCore

theorem Mach.Canon.launchStart {e : SEntry} {r : LRecord} (ok : m.Canon) : (m.launchStart s L e r).Canon :=
  ok.performWrite.takeTokens.updCore.syncLaunch.syncMx.syncAtt.syncScript

theorem Mach.Canon.entryStart (ok : m.Canon) : (m.entryStart s L).Canon := by
  unfold Mach.entryStart
  dsimp only
  refine .ite ok (.ite ok.detectHome.consumeAll (.ite ok.syncScript (.ite ok.detectHome.consumeAll ?_)))
  split
  · exact ok.recordFault
  · exact ok.launchStart

theorem Mach.Canon.blockDispatch (ok : m.Canon) : (m.blockDispatch s L).Canon := .ite ok ok.updCore.syncLaunch
theorem Mach.Canon.entryEnd (ok : m.Canon) : (m.entryEnd s L).Canon := .ite ok ok.updCore.syncLaunch.syncScript

theorem Mach.Canon.loopEnd (ok : m.Canon) : (m.loopEnd s L).Canon := by
  refine .ite ok ?_
  split
  · exact .ite ok.detectHome.consumeAll ok.updCore.syncScript
  · exact ok

/-! ## Commit -/

theorem Mach.Canon.farSlot (ok : m.Canon) : (m.farSlot s stack buffer depth n).1.Canon := by
  unfold Mach.farSlot
  split
  · exact ok
  · exact ok.fresh (k := 52)

theorem Mach.Canon.pushSlot {r : Route} (ok : m.Canon) : (m.pushSlot k s r n).Canon := by
  refine .ite ok ?_
  split
  · exact ok
  · refine .ite (.ite ok.performRead ?_) ok.performRead.farSlot.sendWrite
    split
    · exact ok.performRead.performWrite
    · exact ok.performRead

theorem Mach.Canon.sendToken {r : Route} {fin : Bool} (ok : m.Canon) : (m.sendToken k s r n fin).Canon := .sendWord (.ite ok ok.pushSlot)

theorem Mach.Canon.sendOut {x : OutTok} (ok : m.Canon) : (m.sendOut k s L x).Canon := by
  refine .ite ?_ ?_
  · split
    · exact ok.sendWord
    · exact ok
  · split
    · exact ok.sendToken
    · exact ok

theorem Mach.Canon.dropTraffic (ok : m.Canon) : (m.dropTraffic s).Canon := ok.logError
theorem Mach.Canon.afterPhase (ok : m.Canon) : (m.afterPhase m0 s).Canon := .ite ok (ok.foldl fun _ _ h => h.syncScript)
theorem Mach.Canon.dropSignals (ok : m.Canon) : (m.dropSignals s n).Canon := .ite ok ok.bumpF.dropTraffic

theorem Mach.Canon.takeSignals {l : List (Nat × Nat)} (ok : m.Canon) : (m.takeSignals s h l).Canon :=
  .ite ok (.ite ok.bumpF ok.applySignals.afterPhase)

theorem Mach.Canon.takeMsg {is : Msg → Option (Option Nat)} (ok : m.Canon) : (m.takeMsg s is).1.Canon := by
  unfold Mach.takeMsg
  split
  · exact ok.receive
  · exact ok

theorem Mach.Canon.clearFail (ok : m.Canon) : (m.clearFail s h).Canon := .setF (.setF (.ite ok ok.same.takeSignals))

theorem Mach.Canon.performStaged {x : Staged} (ok : m.Canon) : (m.performStaged s x).Canon := by
  unfold Mach.performStaged
  split
  · exact ok.sendSignal
  · exact ok.clearFail
  · exact ok.send
  · exact .ite ok.performRead.send ok.send

theorem Mach.Canon.drainAll (ok : m.Canon) : (m.drainAll s L).1.Canon := .foldlVia Prod.fst ok fun _ _ h => h.drain
theorem Mach.Canon.swapStates (ok : m.Canon) : (m.swapStates s L).Canon := ok.foldl fun _ _ h => h.updPlan

theorem Mach.Canon.signalGather (ok : m.Canon) : (m.signalGather s k).Canon := by
  unfold Mach.signalGather
  split
  · exact ok.sendSignal
  · exact ok

theorem Mach.Canon.commitUnit (ok : m.Canon) : (m.commitUnit k s L id).Canon := by
  unfold Mach.commitUnit
  extract_lets c p ends box m1 m2 m3 m4 m6 m7
  have sent : m4.Canon := ok.swapStates.updCore.syncJournal.foldl fun _ _ h => h.sendOut
  have staged : m6.Canon := sent.foldl fun _ _ h => h.performStaged
  have phase : m7.Canon := .ite (staged.signalGather.foldl fun _ _ h => h.syncWaiters) staged
  exact phase.bumpF.syncScript

theorem Mach.Canon.commit (ok : m.Canon) : (m.commit k s L).Canon := by
  unfold Mach.commit
  dsimp only
  split
  · exact ok
  · exact .ite ok (.ite ok (.ite ok.setF.detect (.ite ok.drainAll.commitUnit ok.drainAll)))

theorem Mach.Canon.routeFault (ok : m.Canon) : (m.routeFault s L).Canon := .ite ok.logError.setF ok.logError
theorem Mach.Canon.duplicate (ok : m.Canon) : (m.duplicate s L).Canon := .ite ok.bumpF ok

theorem Mach.Canon.takeToken (ok : m.Canon) : (m.takeToken s L sdid w).Canon := by
  refine .ite ok.logError ?_
  split
  · exact ok.updCore.routeFault
  · dsimp only
    split
    · exact ok.updCore.routeFault
    · exact ok.duplicate
    · exact .ite ok.duplicate ok.updCore.syncScript

theorem Mach.Canon.updProd {f : OutChan → OutChan} (ok : m.Canon) : (m.updProd s L ch f).Canon := .ite ok.updCore ok.updMov

theorem Mach.Canon.takeCredit (ok : m.Canon) : (m.takeCredit s L sdid w).Canon := by
  unfold Mach.takeCredit
  dsimp only
  split
  · exact ok.updProd.routeFault
  · split
    · exact ok.updProd.routeFault
    · exact ok.duplicate
    · exact .ite ok.duplicate (.ite ok.updProd.syncScript ok.updProd)

theorem Mach.Canon.takeWord {plan : Option Nat} (ok : m.Canon) : (m.takeWord plan s L sdid w).Canon :=
  .ite ok.dropTraffic (.ite ok.takeCredit ok.takeToken)

theorem Mach.Canon.refetchSlot {e : Route × Nat} (ok : m.Canon) : (m.refetchSlot k s L e).Canon := by
  unfold Mach.refetchSlot
  dsimp only
  split
  · exact ok
  · refine .ite ok (.ite ?_ ok.farSlot.sendReads)
    split
    · exact .ite ok ok.performRead.performWrite
    · exact ok

theorem Mach.Canon.replay (ok : m.Canon) : (m.replay k s L).Canon := by
  unfold Mach.replay
  extract_lets c p g waits m1 m2
  have fetched : m1.Canon := .ite ok (.updCore (ok.foldl fun _ _ h => h.refetchSlot))
  exact .ite ok (.ite fetched fetched.updCore.bumpF.bumpF.syncScript)

theorem Mach.Canon.coreAbort (ok : m.Canon) : (m.coreAbort s L).Canon := .ite ok.discardUnit.clearLaunchRegs.syncScript ok
theorem Mach.Canon.kernelFault (ok : m.Canon) : (m.kernelFault s L).Canon := .ite ok (.ite ok.updCore.logError.endPlan.event ok.updCore.logError)
theorem Mach.Canon.planComplete (ok : m.Canon) : (m.planComplete s).Canon := .ite ok (.ite ok.setF.planEnded.event ok.setF.planEnded)
theorem Mach.Canon.wordArrives (ok : m.Canon) : (m.wordArrives n s L sdid w).Canon := .ite ok ok.takeMsg.takeWord

/-! ## Phases -/

theorem Mach.Canon.signalsArrive {l : List (Nat × Nat)} (ok : m.Canon) : (m.signalsArrive src s h l).Canon :=
  .takeSignals (.dropSignals (.foldlVia Prod.fst ok fun _ _ h => h.takeMsg))

theorem Mach.Canon.syncStall (ok : m.Canon) : (m.syncStall s o).Canon := .ite ok (.event (.srcEdge (.ite ok.updPlan ok.updPlan.setF.bumpF)))
theorem Mach.Canon.ncInvalidate (ok : m.Canon) : (m.ncInvalidate s).Canon := .ite ok (.updPlan (.updStk (.updStk (ok.foldl fun _ _ h => h.bumpF))))

theorem Mach.Canon.pullRemote {d : Reshard} (ok : m.Canon) : (m.pullRemote s i d).Canon := by
  unfold Mach.pullRemote
  split
  · exact ok.sendReads
  · exact ok

theorem Mach.Canon.reshardStart (ok : m.Canon) : (m.reshardStart s).Canon := by
  unfold Mach.reshardStart
  dsimp only
  split
  · refine .ite ok (.afterPhase (.phaseSettle (ok.updPlan.foldl fun _ _ h => ?_)))
    split
    · exact h.pullRemote
    · exact h
  · exact ok

theorem Mach.Canon.pullLocal {d : Reshard} (ok : m.Canon) : (m.pullLocal n s d).Canon := by
  unfold Mach.pullLocal
  dsimp only
  split
  · exact .refuse (.iteFst ok ok.performRead)
  · exact .performWrite (.iteFst ok ok.performRead)

theorem Mach.Canon.reshardDone (ok : m.Canon) : (m.reshardDone n s i).Canon := by
  unfold Mach.reshardDone
  split
  · exact .ite ok (.ite ok (.ite ok (.afterPhase (.phaseSettle (.sendSignal (.updPlan (.ite ok.pullLocal ok)))))))
  · exact ok

theorem Mach.Canon.barrierStall (ok : m.Canon) : (m.barrierStall s L j n).Canon :=
  .ite ok (.event (.coreCause (.bumpF (.ite ok.updCore ok.updCore.setF.setF.setF.setF))))

theorem Mach.Canon.watchdogTrip (ok : m.Canon) : (m.watchdogTrip s L).Canon := .ite ok ok.bumpF.setF.abortUnit.coreCause.detect

/-! ## Reserved -/

theorem Mach.Canon.reservedView {l : List PByte} (ok : m.Canon) : (m.reservedView a l).1.Canon := by
  unfold Mach.reservedView
  split
  · exact .ite ok.openBytes ok
  · exact ok

end Sys2Proof.Machine
end

section
/-! SUPPORT. The cache and the record of a test keep the canonical form. -/

namespace Sys2Proof.Machine
set_option Elab.async false
variable {m : Mach} {s n k index c kind a L l h id q cw ce outcome dur d : Nat}

/-! ## Cache -/

theorem Mach.Canon.doAccess {x : Access} (ok : m.Canon) : (m.doAccess x).Canon := by
  unfold Mach.doAccess
  split
  · exact ok.performWrite
  · exact ok.performRead.reservedView.same

theorem Mach.Canon.answerRefused {x : Access} (ok : m.Canon) : (m.answerRefused x).Canon := by
  unfold Mach.answerRefused
  split
  · exact ok.same
  · exact ok

theorem Mach.Canon.holdAccess {x : Access} (ok : m.Canon) : (m.holdAccess x).Canon :=
  .ite ok.updStk (.ite (.ite ok.updCache (.ite ok.updCache (.ite ok ok.updStk))) (.ite ok.updStk ok.updStk))

theorem Mach.Canon.accessHome {x : Access} (ok : m.Canon) : (m.accessHome n x).Canon := by
  unfold Mach.accessHome
  split
  · exact ok.refuse.answerRefused
  · exact .ite ok.holdAccess ok.doAccess

theorem Mach.Canon.runHeld {l : List Access} (ok : m.Canon) : (m.runHeld n l).Canon := ok.foldl fun _ _ h => h.accessHome

theorem Mach.Canon.storeHome (ok : m.Canon) : (m.storeHome s L k).Canon := by
  unfold Mach.storeHome
  dsimp only
  split
  · exact ok
  · exact .ite ok ok.performStore.updCore

theorem Mach.Canon.bar4Refuse {d : Deny} (ok : m.Canon) : (m.bar4Refuse n a d).Canon := .bumpF (.ite ok.logError ok.refuse)
theorem Mach.Canon.respond {bs : List PByte} (ok : m.Canon) : (m.respond bs).Canon := ok.same
theorem Mach.Canon.respondOnes (ok : m.Canon) : (m.respondOnes n).Canon := ok.respond

theorem Mach.Canon.bar4Load {q : BarReq} (ok : m.Canon) : (m.bar4Load k q).Canon := by
  unfold Mach.bar4Load
  extract_lets ps r m1 m2
  have parts : r.1.Canon := .foldlVia Prod.fst ok fun _ _ h => by
    split
    · exact h
    · exact h.performRead
  have answered : m2.Canon := .ite parts.respond.logError parts.respond
  split
  · exact answered.bar4Refuse
  · exact answered

theorem Mach.Canon.bar4Store {q : BarReq} {bs : List Byte} (ok : m.Canon) : (m.bar4Store k q bs).Canon := by
  unfold Mach.bar4Store
  extract_lets ps data r m1
  have parts : r.1.Canon := .foldlVia Prod.fst ok fun _ _ h => by
    split
    · exact h
    · exact h.performWrite
  have counted : m1.Canon := .ite parts.bumpF.aer parts
  split
  · exact counted.bar4Refuse
  · exact counted

theorem Mach.Canon.bar4Perform {q : BarReq} (ok : m.Canon) : (m.bar4Perform k q).Canon := by
  unfold Mach.bar4Perform
  split
  · exact .ite ok ok.bar4Store
  · exact ok.bar4Load

theorem Mach.Canon.bar4Run {fuel k : Nat} (ok : m.Canon) : (Mach.bar4Run fuel m k).Canon := by
  induction fuel generalizing m with
  | zero => exact ok
  | succ fuel ih =>
    unfold Mach.bar4Run
    split
    · exact ok
    · exact .ite ok (ih ok.same.bar4Perform)

theorem Mach.Canon.bar4Drain (ok : m.Canon) : (m.bar4Drain k).Canon := ok.bar4Run
theorem Mach.Canon.runTested (ok : m.Canon) : (m.runTested n s).Canon := ok.updStk.runHeld.bar4Drain

theorem Mach.Canon.bar4Request {q : BarReq} (ok : m.Canon) : (m.bar4Request k q).Canon :=
  .ite (.ite ok ok.respondOnes) (.ite ok.bar4Perform ok.same.bar4Drain)

theorem Mach.Canon.addOutst {k : OutKind} {held : List Access} (ok : m.Canon) : (m.addOutst s L k held).Canon := ok.updCache

theorem Mach.Canon.allocating {x : Access} (ok : m.Canon) : (m.allocating n x).Canon := by
  refine .ite ok.accessHome ?_
  split
  · exact ok.refuse.answerRefused
  · refine .ite (.ite ok.holdAccess ok.doAccess) (.addOutst ?_)
    split
    · exact .ite ok.addOutst ok
    · exact ok

theorem Mach.Canon.streaming {x : Access} (ok : m.Canon) : (m.streaming n x).Canon := by
  unfold Mach.streaming
  split
  · exact ok.refuse.answerRefused
  · exact .ite ok.holdAccess ok.doAccess

theorem Mach.Canon.dropOutst {k : OutKind} (ok : m.Canon) : (m.dropOutst s L k).Canon := ok.updCache

theorem Mach.Canon.fillDone (ok : m.Canon) : (m.fillDone n s L).Canon := by
  unfold Mach.fillDone
  split
  · exact ok
  · exact .ite ok (.ite (.runHeld (.ite ok.dropOutst ok.dropOutst.countLookup.fill)) ok)

theorem Mach.Canon.writebackDone (ok : m.Canon) : (m.writebackDone n s L).Canon := by
  unfold Mach.writebackDone
  split
  · exact ok
  · refine .runHeld ?_
    split
    · exact ok.dropOutst
    · dsimp only
      split
      · exact .ite ok.dropOutst.writeback ok.dropOutst.writeback.dropLine
      · exact ok.dropOutst.writeback

theorem Mach.Canon.declareDead (ok : m.Canon) : (m.declareDead a).Canon := by
  unfold Mach.declareDead
  extract_lets s L h m1 m2 m3
  have counted : m1.Canon := ok.countAccess.bumpF
  have dropped : m2.Canon := by
    unfold m2
    split
    · exact .ite counted.updLine counted.dropLine
    · exact counted
  exact .ite ok (.ite ok.dropTraffic (.ite ok (.ite counted.setF.srcEdge.logError.endPlan dropped.updCache.syncPoisonDir.setF)))

theorem Mach.Canon.closeWindow (ok : m.Canon) : (m.closeWindow s h).Canon :=
  .ite ok.updCache (.ite ok.updCache.setF.setF.setF.bumpF.srcEdge.event ok.updCache.setF.setF)

theorem Mach.Canon.syncPinned (ok : m.Canon) : (m.syncPinned s).Canon := ok.onStacks fun _ _ h => h.setF

theorem Mach.Canon.pinLine (ok : m.Canon) : (m.pinLine s L).Canon := by
  refine .ite ok ?_
  split
  · exact ok.updLine
  · exact ok.install

theorem Mach.Canon.shelfPinDone (ok : m.Canon) : (m.shelfPinDone s id).Canon := by
  unfold Mach.shelfPinDone
  split
  · exact ok
  · extract_lets m1
    have pinned : m1.Canon := .syncPinned (ok.foldl fun _ _ h => h.pinLine)
    exact .ite ok (.ite pinned.updCache.completeDeferred pinned)

theorem Mach.Canon.partStart (ok : m.Canon) : (m.partStart s cw ce).Canon := ok.setF.setF.setF.setF.updCache
theorem Mach.Canon.writebackAll (ok : m.Canon) : (m.writebackAll s).Canon := ok.foldl fun _ _ h => h.writeback
theorem Mach.Canon.syncLost (ok : m.Canon) : (m.syncLost s).Canon := ok.updCache
theorem Mach.Canon.setGeometry (ok : m.Canon) : (m.setGeometry s h c).Canon := ok.setF.setF.setF.syncLost

theorem Mach.Canon.partDone (ok : m.Canon) : (m.partDone n s).Canon := by
  unfold Mach.partDone
  split
  · exact ok
  · extract_lets m1 waiting all m2 m3 m4 m5 m6
    have parted : m4.Canon := ok.writebackAll.updCache.setF.setF.syncPoisonDir.setGeometry.setGeometry.bureauChange.bureauChange
    clear_value m4
    have repinned : m5.Canon := .syncPinned (parted.foldl fun _ _ h => h.pinLine)
    exact .ite ok.writebackAll repinned.setF.setF.srcEdge.srcEdge.runHeld.bar4Drain.completeDeferred

/-! ## Skip -/

theorem Mach.Canon.keepOutcome (ok : m.Canon) : (m.keepOutcome s kind index).1.Canon := by
  unfold Mach.keepOutcome
  dsimp only
  exact ok.updInteg

theorem Mach.Canon.testEnded (ok : m.Canon) : (m.testEnded s kind index outcome dur).Canon := by
  unfold Mach.testEnded
  extract_lets a b c d
  have told : d.Canon := ok.setF.setF.setF.setF.setF.bumpF.logError
  exact .ite told told.bumpF.updInteg

end Sys2Proof.Machine
end

section
/-! SUPPORT. The links keep the canonical form. -/

namespace Sys2Proof.Machine
set_option Elab.async false
variable {m : Mach} {s n k tag r a lane h b e outcome d st ack typ stackSet lost : Nat}

/-! ## Links -/

theorem Mach.Canon.announce (ok : m.Canon) : (m.announce s n).Canon := by
  unfold Mach.announce
  split
  · exact ok.linkPush
  · exact ok

theorem Mach.Canon.linkUpNow (ok : m.Canon) : (m.linkUpNow s n).Canon := ok.setF.updLnk.updLinks.announce.pump
theorem Mach.Canon.patRelease (ok : m.Canon) : (m.patRelease s n).Canon := ok.release.setF

theorem Mach.Canon.scanAbort (ok : m.Canon) : (m.scanAbort s n).Canon := by
  unfold Mach.scanAbort
  split
  · exact ok
  · exact .srcEdge (.completeDeferred (.setF (.setF (.ite ok.updLnk.patRelease.release ok.updLnk.patRelease))))

theorem Mach.Canon.patAbort (ok : m.Canon) : (m.patAbort s n).Canon :=
  .completeDeferred (.ite ok.setF.setF.patRelease.release ok.setF.setF.patRelease)

theorem Mach.Canon.preemptSpare (ok : m.Canon) : (m.preemptSpare s n).Canon := .ite (.patAbort (.ite ok.scanAbort ok)) (.ite ok.scanAbort ok)
theorem Mach.Canon.takeSpare (ok : m.Canon) : AllCanon (m.takeSpare s n k) := .ite (.none) (.some ok.preemptSpare.claim.setF.bureauChange)
theorem Mach.Canon.dropSpare (ok : m.Canon) : (m.dropSpare s n).Canon := ok.setF.release

theorem Mach.Canon.qualify {failed : List Nat} (ok : m.Canon) : AllCanon (m.qualify s n failed) := by
  unfold Mach.qualify
  dsimp only
  split
  · exact .some ok
  · exact .ite (.none) ok.takeSpare
  · exact .none

theorem Mach.Canon.moveRoute {alt : Bool} (ok : m.Canon) : (m.moveRoute s r n d alt).Canon := ok.updLnk.updLinks.linkPush
theorem Mach.Canon.linkPoison (ok : m.Canon) : (m.linkPoison a n).Canon := ok.performWrite

theorem Mach.Canon.routeFail (ok : m.Canon) : (m.routeFail s r n).Canon :=
  .endPlan (.logError (.bumpF (.updLinks (ok.foldl fun _ _ h => h.linkPoison))))

theorem Mach.Canon.failoverRoute (ok : m.Canon) : (m.failoverRoute s n r).Canon :=
  .ite ok (.ite (.ite ok (.ite ok.moveRoute ok.routeFail)) (.ite ok (.ite ok.moveRoute ok.routeFail)))

theorem Mach.Canon.chooseHop (ok : m.Canon) : (m.chooseHop s r).Canon := .ite ok.moveRoute ok
theorem Mach.Canon.checkRoute (ok : m.Canon) : (m.checkRoute s r).Canon := .ite ok.routeFail ok
theorem Mach.Canon.poisonOne {x : OpenXfer} (ok : m.Canon) : (m.poisonOne s x).Canon := .ite ok (.ite ok.fresh.linkPoison.updLinks ok.fresh)
theorem Mach.Canon.poisonOpen (ok : m.Canon) : (m.poisonOpen s).Canon := ok.foldl fun _ _ h => h.poisonOne
theorem Mach.Canon.failover (ok : m.Canon) : (m.failover s n).Canon := .poisonOpen (ok.foldl fun _ _ h => h.failoverRoute)

theorem Mach.Canon.twinMoves (ok : m.Canon) : (m.twinMoves s n).Canon := by
  unfold Mach.twinMoves
  split
  · exact .ite ok ok.updLnk.linkPush
  · exact ok

theorem Mach.Canon.linkDown (ok : m.Canon) : (m.linkDown s n st).Canon :=
  .ite ok.setF.setF.srcEdge.event.twinMoves ok.setF.setF.srcEdge.event.twinMoves.failover

theorem Mach.Canon.testInRetrain {lane : Option Nat} (ok : m.Canon) : (m.testInRetrain s n lane).Canon := by
  unfold Mach.testInRetrain
  split
  · exact ok.preemptSpare.updLnk
  · exact ok

theorem Mach.Canon.retrain {asked : Bool} {lane : Option Nat} (ok : m.Canon) : (m.retrain s n asked lane).Canon :=
  ok.linkDown.updLnk.bumpF.bureauChange.testInRetrain

theorem Mach.Canon.peerKnown {a : TrainResult} (ok : m.Canon) : (m.peerKnown s n a).Canon :=
  .ite ok.setF.setF.setF.setF.setF.setF.srcEdge ok.setF.setF.setF.setF.setF.linkUpNow

theorem Mach.Canon.attemptFailed (ok : m.Canon) : (m.attemptFailed s n).Canon := .ite ok.updLnk.linkDown ok.updLnk
theorem Mach.Canon.laneOutcome (ok : m.Canon) : (m.laneOutcome s n lane outcome).Canon := ok.fresh.testEnded

theorem Mach.Canon.lanePassed (ok : m.Canon) : AllCanon (m.lanePassed s n k) := by
  unfold Mach.lanePassed
  extract_lets h
  have kept : h.1.Canon := ok.keepOutcome
  exact .ite (.some kept.laneOutcome) (.map fun m1 e => (kept.takeSpare m1 e).laneOutcome)

theorem Mach.Canon.trainDone {a : TrainResult} (ok : m.Canon) : (m.trainDone s n a).Canon := by
  unfold Mach.trainDone
  extract_lets failed l k m0 lost
  have dropped : m0.Canon := .ite ok.dropSpare ok
  have down : ∀ {n : Mach}, n.Canon → (lost n).Canon := fun h => by
    unfold lost
    split
    · exact h.laneOutcome.linkDown
    · exact h.linkDown
  clear_value m0 lost
  refine .ite ok.attemptFailed ?_
  split
  · exact down dropped
  · next m1 e =>
    have qualified : m1.Canon := dropped.qualify m1 e
    split
    · exact qualified.peerKnown
    · refine .ite qualified.laneOutcome.peerKnown ?_
      split
      · next m2 e => exact (qualified.lanePassed m2 e).peerKnown
      · exact down qualified

theorem Mach.Canon.bridgeState (ok : m.Canon) : (m.bridgeState s b st).Canon := .ite ok.setF.srcEdge.logError.endPlan ok.setF.srcEdge

theorem Mach.Canon.bridgeTrained {a : TrainResult} (ok : m.Canon) : (m.bridgeTrained s b a).Canon := by
  refine .ite ok.bridgeState ?_
  split
  · exact ok.bridgeState
  · exact .ite ok.bridgeState ok.claim.setF.bureauChange.bridgeState

theorem Mach.Canon.acked {nak : Bool} (ok : m.Canon) : (m.acked s n ack nak).Canon := by
  unfold Mach.acked
  split
  · exact ok
  · exact .ite (.ite ok.updLnk.bumpF.updLnk.retrain ok.updLnk.bumpF.updLnk.pump) ok.updLnk.pump

theorem Mach.Canon.flit {h : FlitHead} {k : Mach → Option Mach} (ok : m.Canon) (keeps : ∀ n, n.Canon → AllCanon (k n)) : (m.flit h k).Canon := by
  refine .ite ok (.ite ok.updLnk (.ite ok.acked.updLnk ?_))
  split
  · next m2 e => exact keeps _ ok.acked.updLnk m2 e
  · exact ok

theorem Mach.Canon.dropMark (ok : m.Canon) : (m.dropMark s r).Canon := ok.updLinks

theorem Mach.Canon.routed {a : FlitIn} {guarded : Bool} {deliver : Mach → Option Mach} (ok : m.Canon) (keeps : ∀ n, n.Canon → AllCanon (deliver n)) :
    AllCanon (m.routed a typ guarded deliver) :=
  .ite (.some ok.dropMark.bumpF.logError) (.ite (.some ok.dropMark.bumpF) (.ite (keeps _ ok) (.some ok.routeSend)))

theorem Mach.Canon.sendBack {fs : List Flit} (ok : m.Canon) : (m.sendBack s r fs).Canon := ok.linkPush

theorem Mach.Canon.marked {bs : List Byte} (ok : m.Canon) : (m.marked s r bs).1.Canon := by
  unfold Mach.marked
  split
  · exact ok
  · exact ok.dropMark

theorem Mach.Canon.linkWrite {bs : List PByte} (ok : m.Canon) : (m.linkWrite stackSet a bs).Canon := by
  unfold Mach.linkWrite
  split
  · exact ok.refuse
  · exact ok.performWrite

theorem Mach.Canon.writeFlit {a : FlitIn} (ok : m.Canon) : AllCanon (m.writeFlit stackSet a) :=
  .ite (.none) (.ite (.some ok.marked.linkWrite.updLinks.sendBack) (.some ok.marked.linkWrite.updLinks))

theorem Mach.Canon.writeAck (ok : m.Canon) : (m.writeAck s n tag).Canon := by
  unfold Mach.writeAck
  dsimp only
  split
  · exact ok.updLinks
  · exact ok

theorem Mach.Canon.readReq {a : FlitIn} (ok : m.Canon) : AllCanon (m.readReq stackSet a) := by
  refine .ite (.none) (.some (.sendBack ?_))
  split
  · exact ok.refuse.openBytes
  · exact ok.performRead

theorem Mach.Canon.readRsp {a : FlitIn} (ok : m.Canon) : AllCanon (m.readRsp stackSet a) := by
  unfold Mach.readRsp
  dsimp only
  split
  · exact .some ok
  · exact .ite (.none) (.some ok.marked.linkWrite.updLinks)

theorem Mach.Canon.takeEntry {e : List Byte} (ok : m.Canon) : (m.takeEntry k s n e).Canon := by
  unfold Mach.takeEntry
  dsimp only
  split
  · split
    · exact .ite ok ok.takeWord
    · exact ok.logError
  · exact .ite ok (.ite ok.takeSignals ok.dropSignals)
  · exact .ite ok (.ite ok.takeSignals ok.dropSignals)
  · exact ok

theorem Mach.Canon.takeMessage {bs : List Byte} (ok : m.Canon) : (m.takeMessage k s n bs).Canon := ok.foldl fun _ _ h => h.takeEntry

theorem Mach.Canon.laneWindow {lanes : List Nat} (ok : m.Canon) : (m.laneWindow s n lanes lost).Canon := by
  unfold Mach.laneWindow
  extract_lets l m1 m2 m3 w up h
  have counted : m2.Canon := .bumpF (.bumpF (ok.foldl fun _ _ h => h.bumpF))
  clear_value m2
  have taken : m3.Canon := counted.updLnk
  clear_value m3
  have kept : h.1.Canon := taken.keepOutcome
  clear_value h
  refine .ite counted (.ite (.ite kept.laneOutcome ?_) (.ite taken.retrain taken.testInRetrain))
  split
  · next m4 e =>
    have spared : m4.Canon := kept.takeSpare m4 e
    exact .ite spared.laneOutcome.retrain spared.laneOutcome
  · exact kept.laneOutcome.linkDown

end Sys2Proof.Machine
end

section
/-! SUPPORT. Movers, the power of cores, the core map and twins keep the canonical form. -/

namespace Sys2Proof.Machine
set_option Elab.async false
variable {m : Mach} {s v i n k w p c r kind a L l dst h f q b off e d st owner us role logical home ex arg count t : Nat}

/-! ## Movers -/

theorem Mach.Canon.movError (ok : m.Canon) : (m.movError s c st).Canon := .stopChain (.logError (.setF (.ite ok.sendSignal ok)))

theorem Mach.Canon.row {d : MDesc} {reply : HostReply} {r : MRead} (ok : r.m.Canon) : (MRead.row n c d reply r i).m.Canon := by
  unfold MRead.row
  dsimp only
  split
  · exact ok
  · split
    · exact ok
    · split
      · exact ok.refuse
      · split
        · split
          · exact .ite ok ok.bumpF.aer
          · exact ok.performRead
        · split
          · exact ok.performRead.bumpF.aer
          · exact ok.performRead

theorem Mach.Canon.windowWrite {alloc : Bool} {bs : List PByte} (ok : m.Canon) : (m.windowWrite alloc a bs).1.Canon :=
  ok.foldl fun _ _ h => h.performWrite

theorem Mach.Canon.movWrite {d : MDesc} {t : Mach × Nat} {w : Nat × List PByte} (ok : t.1.Canon) : (Mach.movWrite n c d t w).1.Canon := by
  refine .iteFst ok ?_
  split
  · exact ok.refuse
  · exact .iteFst ok.windowWrite ok.performWrite

theorem Mach.Canon.movDest {d : MDesc} (ok : m.Canon) : (m.movDest s c d).1.Canon := by
  refine .iteFst ok ?_
  split
  · exact ok
  · exact ok.farSlot

theorem Mach.Canon.noteFill {d : MDesc} (ok : m.Canon) : (m.noteFill s d dst).Canon := .ite ok.updPlan ok

theorem Mach.Canon.movData {reply : HostReply} (ok : m.Canon) : (m.movData n s c reply).Canon := by
  unfold Mach.movData
  extract_lets d go t remote r ws w st
  refine .ite ok.updMov (.ite ok.movDest.movError (.ite ok ?_))
  have rows : r.m.Canon := .foldlVia MRead.m ok.movDest fun _ _ h => h.row
  clear_value r remote
  split
  · extract_lets m1
    have sent : m1.Canon := rows.foldl fun _ _ h => h.sendWrite
    exact .ite rows.movError (.ite sent.movError sent.updMov)
  · have written : w.1.Canon := .foldlVia Prod.fst rows fun _ _ h => h.movWrite
    exact .ite written.movError written.noteFill.updMov

theorem Mach.Canon.movStep3 {reply : HostReply} (ok : m.Canon) : (m.movStep3 n s c reply).Canon := .ite ok.updMov ok.movData

theorem Mach.Canon.movFetch {reply : HostReply} (ok : m.Canon) : (m.movFetch n s c kind reply).Canon := by
  refine .ite ok (.ite ok.movError ?_)
  split
  · exact ok.refuse.movError
  · exact .ite ok (.ite ok (.ite ok.performRead.movError (.ite ok.performRead.updMov.movError (.ite ok.performRead.updMov.movStep3
      ok.performRead.updMov))))

theorem Mach.Canon.movDone (ok : m.Canon) : (m.movDone s c).Canon := by
  unfold Mach.movDone
  extract_lets k d mine o m1 m2 m3
  have tokens : m1.Canon := by
    refine .ite ?_ ok
    split
    · exact ok
    · exact ok.updProd.sendWord
  have signalled : m2.Canon := .ite tokens.sendSignal tokens
  have counted : m3.Canon := signalled.setF.bumpF
  exact .ite ok (.ite ok.updLinks.movError (.ite ok (.ite counted.stopChain counted.updMov)))

theorem Mach.Canon.movStart (ok : m.Canon) : (m.movStart s c owner).1.Canon := .iteFst ok.bumpF ok.claim.setF.setF.setF.updMov
theorem Mach.Canon.movStop (ok : m.Canon) : (m.movStop s c).Canon := .ite ok ok.updLinks.movError

/-! ## PowerOps -/

theorem Mach.Canon.updPw {f : PowerSt → PowerSt} (ok : m.Canon) : (m.updPw s f).Canon := ok.updStk
theorem Mach.Canon.ldoSettle (ok : m.Canon) : (m.ldoSettle s p).Canon := .ite ok (.ite ok.setF.updPw (.ite ok.updPw.setF.setF ok.updPw))
theorem Mach.Canon.ldoSettleAll (ok : m.Canon) : (m.ldoSettleAll s).Canon := ok.foldl fun _ _ h => h.ldoSettle
theorem Mach.Canon.voutSettled (ok : m.Canon) : (m.voutSettled s).Canon := ok.setF.updPw.foldl fun _ _ h => h.ldoSettle
theorem Mach.Canon.avsFall (ok : m.Canon) : (m.avsFall s).Canon := .ite ok (.ite ok.setF.updPw.setF ok.setF.updPw)
theorem Mach.Canon.syncPower (ok : m.Canon) : (m.syncPower s).Canon := ok.setF.setF
theorem Mach.Canon.clearSlot (ok : m.Canon) : (m.clearSlot s h).Canon := ok.withMem (Mem.wf_clear _ _ (Mem.wf_clear _ _ ok.mem))
theorem Mach.Canon.loseCore (ok : m.Canon) : (m.loseCore s p).Canon := .ite ok ok.discardUnit.clearSlot.updCore
theorem Mach.Canon.coreStop (ok : m.Canon) : (m.coreStop s p).Canon := ok.loseCore.resetRange.setF.setF.updPw
theorem Mach.Canon.requestWake (ok : m.Canon) : (m.requestWake s p).Canon := .ite ok.setF.updPw ok.setF
theorem Mach.Canon.requestStop (ok : m.Canon) : (m.requestStop s p).Canon := .ite ok.setF ok.setF.coreStop.syncPower

theorem Mach.Canon.coreWake (ok : m.Canon) : (m.coreWake s p).Canon :=
  .ite ok (.syncPower (.ite ok.updPw.setF.setF.setF.setF.bumpF ok.updPw.setF.setF.setF.setF))

theorem Mach.Canon.wakeWaitEnd (ok : m.Canon) : (m.wakeWaitEnd s p us).Canon := .ite ok (.ite ok.updPw.setF ok.updPw.setF.setF.bumpF)

theorem Mach.Canon.coreWakeDone (ok : m.Canon) : (m.coreWakeDone s p).Canon := by
  unfold Mach.coreWakeDone
  extract_lets m1 m2 m3 m4
  have awake : m4.Canon := ok.updPw.loseCore.setF.bumpF.setF.ldoSettle
  exact .ite ok (.syncPower (.ite awake.coreStop awake))

theorem Mach.Canon.regionAverage (ok : m.Canon) : (m.regionAverage s r v).Canon := ok.updPw.setF.setF.setF

/-! ## CoreMap -/

theorem Mach.Canon.syncMap (ok : m.Canon) : (m.syncMap s).Canon := ok.setF.setF.setF
theorem Mach.Canon.setIdent (ok : m.Canon) : (m.setIdent s p role logical home).Canon := ok.setF.setF.setF.setF
theorem Mach.Canon.setLogical (ok : m.Canon) : (m.setLogical s L home ex).Canon := ok.setF.setF.setF
theorem Mach.Canon.setService (ok : m.Canon) : (m.setService s v).Canon := .ite ok ok.setF.event
theorem Mach.Canon.relocate (ok : m.Canon) : (m.relocate s h).Canon := .syncMap (.ite ok.updStk.requestWake ok.updStk)

theorem Mach.Canon.retireCore (ok : m.Canon) : (m.retireCore s p).Canon := by
  unfold Mach.retireCore
  extract_lets role h L target m1 m2
  have stopped : m2.Canon := ok.setIdent.bureauChange.requestStop
  clear_value target
  refine .ite ok ?_
  split
  · exact stopped.relocate
  · exact .ite stopped.syncMap stopped.discardUnit.clearLaunchRegs.relocate

theorem Mach.Canon.releaseSlot (ok : m.Canon) : (m.releaseSlot n s h).Canon := ok.updStk.foldl fun _ _ h => h.accessHome

theorem Mach.Canon.renumber (ok : m.Canon) : (m.renumber s).Canon :=
  .setF (.foldl (ok.foldl fun _ _ h => .ite h.setLogical h.setLogical.setIdent) fun _ _ h => h.setF.setF.setF)

theorem Mach.Canon.degrade (ok : m.Canon) : (m.degrade n s h).Canon :=
  ok.endPlan.updStk.renumber.setF.syncMap.bureauChange.setService.event.releaseSlot

theorem Mach.Canon.resend {x : Staged} (ok : m.Canon) : (m.resend s x).Canon := by
  unfold Mach.resend
  split
  · exact ok.send
  · exact ok

theorem Mach.Canon.moveIndex (ok : m.Canon) : (m.moveIndex n s h c).Canon := by
  unfold Mach.moveIndex
  split
  · exact ok
  · extract_lets old m1 m2 m3 m4 k m5 m6
    have moved : m4.Canon := ok.setLogical.setIdent.setF.bureauChange.updStk.syncMap
    clear_value m4
    have resent : m5.Canon := .ite (.foldl (moved.foldl fun _ _ h => h.sendOut) fun _ _ h => h.resend) moved
    exact resent.updCore.syncScript.releaseSlot

theorem Mach.Canon.relocationDone (ok : m.Canon) : (m.relocationDone n s h).Canon := by
  unfold Mach.relocationDone
  split
  · exact ok
  · exact .ite ok.degrade.bar4Drain (.ite ok.moveIndex.bar4Drain ok)

/-! ## Twin -/

theorem Mach.Canon.setTwin (ok : m.Canon) : (m.setTwin s st).Canon := ok.setF
theorem Mach.Canon.twinControl (ok : m.Canon) : (m.twinControl s kind arg).Canon := ok.foldl fun _ _ h => .ite h.linkPush h
theorem Mach.Canon.setPair {l : List Nat} (ok : m.Canon) : (m.setPair s l).Canon := ok.setTwin.setF.setF.setF.setF.setF.updTwin
theorem Mach.Canon.pairFails (ok : m.Canon) : (m.pairFails s st).Canon := .completeDeferred (.updTwin (.ite ok ok.setPair))
theorem Mach.Canon.wipeJournal (ok : m.Canon) : (m.wipeJournal s).Canon := ok.updCache.withTier (Mem.wf_clear _ _ ok.updCache.tier)

theorem Mach.Canon.pairDone (ok : m.Canon) : (m.pairDone s).Canon := by
  refine .ite ok ?_
  split
  · exact ok
  · exact .ite ok (.ite ok.pairFails (.completeDeferred (.journalAll (.setTwin (.setF (.updTwin (.ite ok.wipeJournal ok)))))))

theorem Mach.Canon.heartbeatSend (ok : m.Canon) : (m.heartbeatSend s).Canon := .ite ok.closeEpoch (.ite ok.beat ok)

theorem Mach.Canon.applyLog {p b fuel : Nat} (ok : m.Canon) : (m.applyLog s p b fuel).Canon := by
  induction fuel generalizing m p with
  | zero => exact ok
  | succ fuel ih => exact .ite ok (ih (.ite ok.performRead.performWrite ok.performRead))

theorem Mach.Canon.applyEpoch (ok : m.Canon) : (m.applyEpoch s).Canon := by
  unfold Mach.applyEpoch
  split
  · exact ok
  · exact .ite ok ok.applyLog.performWrite.setF.updTwin

theorem Mach.Canon.journalIn {bs : List Byte} (ok : m.Canon) : AllCanon (m.journalIn s n e off bs) :=
  .ite (.some ok) (.ite (.ite (.none) (.some ok)) (.ite (.none) (.ite (.some ok) (.some ok.performWrite.updTwin.applyEpoch))))

theorem Mach.Canon.rejoinStops (ok : m.Canon) : (m.rejoinStops s).Canon := ok.updTwin.completeDeferred
theorem Mach.Canon.takeover {announced : Bool} (ok : m.Canon) : (m.takeover s announced).Canon := ok.updTwin.setTwin.rejoinStops.event
theorem Mach.Canon.announcedEnd (ok : m.Canon) : (m.announcedEnd s).Canon := .ite ok.takeover ok

theorem Mach.Canon.heartbeatLoss (ok : m.Canon) : (m.heartbeatLoss s).Canon :=
  .ite ok (.ite ok.bumpF.setTwin.rejoinStops.event.takeover ok.bumpF.setTwin.rejoinStops.event)

/-- The definition takes its name's place as a whole: at the name's application the kernel would evaluate the match on the fold. -/
theorem Mach.Canon.installSeq (ok : m.Canon) : (m.installSeq s q).Canon := by
  generalize e : Mach.installSeq = f
  delta Mach.installSeq at e
  subst e
  beta_reduce
  extract_lets c d x put r
  have placed : ∀ y, (put y).Canon := fun _ => ok.updStk
  clear_value put
  have made : AllCanon r := .foldl (.some (placed x)) fun p g h => .bind fun m1 there => .bind fun m2 needed =>
    .map fun id _ => ((h m1 there).needBlocks m2 needed).setPage.mapPut
  clear_value r x d
  split
  · next m1 => exact .ite (placed _).syncCab (made m1 rfl).syncCab
  · exact placed _

theorem Mach.Canon.twinInstall (ok : m.Canon) : (m.twinInstall s).Canon := by
  unfold Mach.twinInstall
  split
  · exact ok
  · exact .ite ok ok.installSeq.updTwin

theorem Mach.Canon.freeTwin (ok : m.Canon) : (m.freeTwin s).Canon := .updTwin (ok.foldl fun _ _ h => .ite h.freeSeq.syncCab h)
theorem Mach.Canon.finalEpoch (ok : m.Canon) : (m.finalEpoch s).Canon := .ite ok.closeEpoch ok
theorem Mach.Canon.detach (ok : m.Canon) : (m.detach s).Canon := ok.finalEpoch.twinControl.setTwin.updTwin

theorem Mach.Canon.conflict {theirs : Bool} (ok : m.Canon) : (m.conflict s theirs).Canon := by
  unfold Mach.conflict
  extract_lets st raise m1
  have told : m1.Canon := ok.event.twinControl.updTwin
  exact .ite (.ite told.freeTwin.detach told) (.ite ok.event.twinControl.endPlan.detach ok)

theorem Mach.Canon.heartbeatIn (ok : m.Canon) : (m.heartbeatIn s e b st).Canon :=
  .ite ok.updTwin.conflict (.ite ok.updTwin.updTwin.applyEpoch ok.updTwin)

theorem Mach.Canon.twinStop (ok : m.Canon) : (m.twinStop s).Canon := .ite ok.finalEpoch.twinControl ok
theorem Mach.Canon.unpair (ok : m.Canon) : (m.unpair s).Canon := ok.setTwin.setF.setF.updTwin.linksSettle
theorem Mach.Canon.rejoinSend (ok : m.Canon) : (m.rejoinSend s arg).Canon := ok.linkPush
theorem Mach.Canon.installedEvent (ok : m.Canon) : (m.installedEvent s n).Canon := ok.updTwin.event

theorem Mach.Canon.handBack (ok : m.Canon) : (m.handBack s).Canon := by
  unfold Mach.handBack
  extract_lets t m0 m1
  have installed : m0.Canon := ok.foldl fun _ _ h => h.twinInstall
  have told : m1.Canon := .ite installed.installedEvent installed
  exact .ite ok told.journalMany.closeEpoch.rejoinSend

theorem Mach.Canon.rejoined (ok : m.Canon) : (m.rejoined s count).Canon := ok.setTwin.journalAll.updTwin.completeDeferred

theorem Mach.Canon.rejoinIn (ok : m.Canon) : (m.rejoinIn s arg).Canon := by
  unfold Mach.rejoinIn
  extract_lets ids m1 n
  have installed : m1.Canon := ok.foldl fun _ _ h => h.installSeq
  exact .ite (.ite ok ok.unpair) (.ite ok (.ite (.ite ok.rejoinSend ok.updTwin.handBack) (.ite ok.updTwin.completeDeferred
    (.ite installed.installedEvent.rejoined.rejoinSend (.ite ok.freeTwin.rejoined ok)))))

theorem Mach.Canon.fromTwin {h : FlitHead} {k : Mach → Option Mach} (ok : m.Canon) (keeps : ∀ n, n.Canon → AllCanon (k n)) : (m.fromTwin h k).Canon :=
  ok.flit fun _ h => .ite (keeps _ h) (.some h)

end Sys2Proof.Machine
end

section
/-! SUPPORT. Power, temperature and the vertical ports keep the canonical form. -/

namespace Sys2Proof.Machine
set_option Elab.async false
variable {m : Mach} {s v i n p c r kind a l word f b g mv iout band site mr4 coupler dir row t : Nat}

/-! ## Power -/

theorem Mach.Canon.setLevel (ok : m.Canon) : (m.setLevel s r l).Canon := .ite ok.setF.bumpF ok.setF

theorem Mach.Canon.syncThrottle (ok : m.Canon) : (m.syncThrottle s).Canon :=
  .ldoSettleAll (.foldl (ok.foldl fun _ _ h => .ite h.setF h) fun _ _ h => h.setF)

theorem Mach.Canon.updTherm {f : ThermSt → ThermSt} (ok : m.Canon) : (m.updTherm s f).Canon := ok.updStk
theorem Mach.Canon.stopCores (ok : m.Canon) : (m.stopCores s).Canon := .syncPower (ok.foldl fun _ _ h => h.coreStop)

theorem Mach.Canon.stopNow {c : StopCause} (ok : m.Canon) : (m.stopNow s c).Canon :=
  .updTherm (.bumpF (.setF (.stopCores (.twinStop (.endPlan (.syncThrottle (ok.foldl fun _ _ h => h.setLevel)))))))

theorem Mach.Canon.orderlyStop {c : StopCause} (ok : m.Canon) : (m.orderlyStop s c).Canon := .ite ok (.ite ok.updTherm (.ite ok.updTherm ok.stopNow))
theorem Mach.Canon.causeEnded {c : StopCause} (ok : m.Canon) : (m.causeEnded s c).Canon := .ite ok.updTherm.setF ok.updTherm
theorem Mach.Canon.railFault (ok : m.Canon) : (m.railFault s i).Canon := ok.setF.setF.setF.srcEdge.orderlyStop
theorem Mach.Canon.railSettle (ok : m.Canon) : (m.railSettle s).Canon := .ite ok ok.updTherm.causeEnded

theorem Mach.Canon.railSample (ok : m.Canon) : (m.railSample s i mv).Canon :=
  .ite (.ite ok.setF.updPw.railFault ok.setF.updPw) ok.setF.updPw.railSettle

theorem Mach.Canon.pmbusAlert {fault : Bool} (ok : m.Canon) : (m.pmbusAlert s i word iout fault).Canon :=
  .ite ok.srcEdge.setF.setF.railFault ok.srcEdge.setF.setF

theorem Mach.Canon.setRails {l : List Nat} {on : Bool} (ok : m.Canon) : (m.setRails s l on).Canon := ok.foldl fun _ _ h => h.setF.setF

/-! ## Thermal -/

theorem Mach.Canon.thermal (ok : m.Canon) : (m.thermal s c band kind).Canon := ok.srcEdge.event
theorem Mach.Canon.chEvent (ok : m.Canon) : (m.chEvent s c kind).Canon := ok.setF.thermal
theorem Mach.Canon.syncPulse (ok : m.Canon) : (m.syncPulse s).Canon := .ite ok ok.setF

theorem Mach.Canon.syncBand (ok : m.Canon) : (m.syncBand s).Canon := by
  unfold Mach.syncBand
  extract_lets l b h m1 m2
  have held : m1.Canon := ok.setF.setF.syncPulse
  have assisted : m2.Canon := .ite held held.setF
  exact .ite assisted assisted.thermal

theorem Mach.Canon.syncFaults (ok : m.Canon) : (m.syncFaults s).Canon := ok.setF

theorem Mach.Canon.setFast {l : Machine.SMap Nat} (ok : m.Canon) : (m.setFast s l).Canon := by
  unfold Mach.setFast
  extract_lets m1 m2 m3
  have counted : m3.Canon := .setF (ok.updTherm.foldl fun _ _ h => h.setF)
  exact .ite counted.claim.setF (.ite counted.release counted)

theorem Mach.Canon.rankFast (ok : m.Canon) : (m.rankFast s).Canon := ok.setFast

theorem Mach.Canon.fastSample (ok : m.Canon) : (m.fastSample s c).Canon := by
  unfold Mach.fastSample
  dsimp only
  split
  · exact .ite ok.updTherm (.ite ok.setFast ok.updTherm)
  · exact ok.setFast
  · exact ok

theorem Mach.Canon.govern (ok : m.Canon) : (m.govern s r).Canon := .ite ok.setLevel (.ite ok.setLevel ok)
theorem Mach.Canon.governBy (ok : m.Canon) : (m.governBy s c).Canon := .ite ok (.syncThrottle (ok.foldl fun _ _ h => h.govern))
theorem Mach.Canon.channelsSettle (ok : m.Canon) : (m.channelsSettle s).Canon := .ite ok ok.updTherm.causeEnded

theorem Mach.Canon.chFault (ok : m.Canon) : (m.chFault s c).Canon := by
  unfold Mach.chFault
  extract_lets a b d e
  have cleared : b.Canon := ok.setF.setF.updTherm
  have raised : e.Canon := cleared.setF.syncFaults.chEvent.syncBand.syncThrottle.setFast
  exact .ite cleared (.ite raised.orderlyStop raised)

theorem Mach.Canon.stopLimit {t : Int} (ok : m.Canon) : (m.stopLimit s c t).Canon :=
  .ite ok (.ite (.ite ok.updTherm.orderlyStop ok.updTherm) ok.updTherm)

theorem Mach.Canon.coolDown (ok : m.Canon) : (m.coolDown s).Canon := .ite ok.updTherm (.ite ok.updTherm.causeEnded ok.updTherm)

theorem Mach.Canon.chTemp (ok : m.Canon) : (m.chTemp s c v).Canon := by
  unfold Mach.chTemp
  extract_lets t old was top a b reach warn thr d e f
  have measured : b.Canon := .ite ok.setF.setF.setF ok.setF.setF
  have warned : d.Canon := .ite measured.chEvent measured
  have throttled : e.Canon := .ite warned.chEvent warned
  have stopped : f.Canon := .ite throttled.chEvent throttled
  exact stopped.syncBand.governBy.stopLimit.coolDown

theorem Mach.Canon.chRecover (ok : m.Canon) : (m.chRecover s c v).Canon := .ite ok.updTherm ok.updTherm.setF.syncFaults.chTemp.chEvent.channelsSettle

theorem Mach.Canon.reference {good : Bool} (ok : m.Canon) : (m.reference s good).Canon := by
  refine .ite (.ite (.ite ok.updTherm.updTherm ok.updTherm.updTherm.setF.syncFaults.chEvent) ok.updTherm) ?_
  exact .syncBand (.chFault (.updTherm (ok.foldl fun _ _ h => .ite h h.setF.setF)))

theorem Mach.Canon.chSample {fast : Bool} {r : Reading} (ok : m.Canon) : (m.chSample s c fast r).Canon := by
  refine .ite ok ?_
  split
  · exact .ite ok.reference ok
  · extract_lets m1 m2
    have noted : m1.Canon := .ite ok ok.updTherm
    have taken : m2.Canon := .ite noted.chFault (.ite noted.chRecover noted.chTemp)
    exact .ite ok (.ite taken.fastSample taken.rankFast)
  · exact .ite ok (.ite ok.chFault.fastSample ok.chFault.rankFast)

theorem Mach.Canon.ratioCheck {failed : List Nat} (ok : m.Canon) : (m.ratioCheck s failed).Canon := ok.foldl fun _ _ h => h.chFault
theorem Mach.Canon.trip (ok : m.Canon) : (m.trip s site).Canon := .stopCores (.ite ok ok.setF.setF)
theorem Mach.Canon.refresh (ok : m.Canon) : (m.refresh s mr4).Canon := ok.setF

/-! ## Vertical -/

theorem Mach.Canon.updVcp {f : Vcp → Vcp} (ok : m.Canon) : (m.updVcp s f).Canon := ok.updStk
theorem Mach.Canon.setActive {b : Bool} (ok : m.Canon) : (m.setActive s p g b).Canon := .ite ok.setF ok.setF
theorem Mach.Canon.syncTesting (ok : m.Canon) : (m.syncTesting s p).Canon := ok.setF
theorem Mach.Canon.vcpEvent (ok : m.Canon) : (m.vcpEvent s p g coupler kind).Canon := ok.setF.setF.setF.setF.setF.bumpF.srcEdge

theorem Mach.Canon.vcpError (ok : m.Canon) : (m.vcpError s p g kind).Canon :=
  .ite ok.bumpF.vcpEvent.logError.detect ok.updVcp.vcpEvent.logError.detect

theorem Mach.Canon.arrive {l : List (Nat × Nat × List PByte)} (ok : m.Canon) : (m.arrive s l).Canon := ok.updVcp

theorem Mach.Canon.chunkReceive {flips : List (Byte × BitVec 2)} {mismatch : Bool} (ok : m.Canon) : (m.chunkReceive s p a flips mismatch).Canon := by
  unfold Mach.chunkReceive
  extract_lets g8
  split
  · exact ok
  · split
    · exact ok
    · extract_lets m0 bs w k got m1
      have read : m0.Canon := ok.detectRead
      have kept : m1.Canon := .updVcp (.ite read read.arrive)
      exact .ite read.arrive.updVcp.vcpError (.ite kept.vcpError kept)

theorem Mach.Canon.writeRefused {tokenUnit : Bool} (ok : m.Canon) : (m.writeRefused s p tokenUnit).Canon := .ite ok.updVcp (.ite ok ok.abortUnit)

theorem Mach.Canon.writePerformed {l : List WByte} {tokenUnit : Bool} (ok : m.Canon) : (m.writePerformed s p a l tokenUnit).Canon := by
  unfold Mach.writePerformed
  extract_lets L bytes carried m1
  have written : m1.Canon := ok.foldl fun _ _ h => by
    split
    · exact h.performWrite
    · exact h
  clear_value m1
  split
  · exact ok.storeHome
  · exact .ite written.updVcp written

theorem Mach.Canon.writeChunk {bytes : List (Byte × BitVec 2)} {mis : Option Nat} {tokenUnit : Bool} (ok : m.Canon) :
    (m.writeChunk s p a bytes mis tokenUnit).Canon := by
  refine .ite ok ?_
  split
  · exact ok.writePerformed
  · exact .writeRefused (ok.foldl fun _ _ h => h.vcpError)

theorem Mach.Canon.serviceChunk {flips : List (Byte × BitVec 2)} {mismatch : Bool} (ok : m.Canon) : (m.serviceChunk s p dir flips mismatch).Canon :=
  .ite ok ok.vcpError

theorem Mach.Canon.handshakeTimeout {row : Option Nat} (ok : m.Canon) : (m.handshakeTimeout s p g row).Canon := by
  refine .ite ok ?_
  split
  · exact ok.vcpError
  · exact .ite ok.vcpError.arrive (.ite ok.vcpError.writeRefused ok.vcpError)

theorem Mach.Canon.syncVcp (ok : m.Canon) : (m.syncVcp s).Canon := ok.setF.setF.setF

theorem Mach.Canon.retirePort (ok : m.Canon) : (m.retirePort s p g kind).Canon :=
  ok.setF.setF.setF.updVcp.updInteg.vcpEvent.syncVcp.bureauChange.retireCore

theorem Mach.Canon.groupBack (ok : m.Canon) : (m.groupBack s p g).Canon := .syncTesting (.ite ok.setF ok.setF.setActive)

theorem Mach.Canon.retireGroup (ok : m.Canon) : (m.retireGroup s p g).Canon := by
  unfold Mach.retireGroup
  extract_lets i m1
  have idle : m1.Canon := ok.setF.setActive.syncTesting
  exact .ite idle (.ite idle.retirePort idle.setF.vcpEvent.syncVcp.bureauChange)

theorem Mach.Canon.dropSpares {failed : List Nat} (ok : m.Canon) : (m.dropSpares s i failed).Canon := .updVcp (ok.foldl fun _ _ h => h.setF)
theorem Mach.Canon.mapSpares {failed : List Nat} (ok : m.Canon) : (m.mapSpares s i failed).Canon := .setF (ok.dropSpares.foldl fun _ _ h => h.setF)

theorem Mach.Canon.spareMapDone {more : List Nat} (ok : m.Canon) : (m.spareMapDone s p g more).Canon := by
  unfold Mach.spareMapDone
  dsimp only
  split
  · exact ok
  · exact .ite ok (.ite (.syncVcp (.groupBack (ok.updVcp.mapSpares.bureauChange.foldl fun _ _ h => h.vcpEvent))) ok.updVcp.retireGroup)

theorem Mach.Canon.groupTestEnd {failed : List Nat} (ok : m.Canon) : (m.groupTestEnd s i failed).Canon :=
  .ite ok.groupBack (.ite ok.vcpEvent.updVcp ok.vcpEvent.retireGroup)

theorem Mach.Canon.resetSettle (ok : m.Canon) : (m.resetSettle n s).Canon := .ite ok.setF.setF.runTested ok

theorem Mach.Canon.portReset {reads : List (Nat × Nat)} (ok : m.Canon) : (m.portReset n s reads).Canon := by
  unfold Mach.portReset
  extract_lets m1 lose m2 m3 back
  have reset : m1.Canon := ok.bumpF.setF.updVcp.arrive
  have lost : m2.Canon := reset.onStacks fun _ _ h => h.foldl fun _ _ h => .abortUnit (h.foldl fun _ _ h => h.bumpF.logError)
  have queued : m3.Canon := lost.foldl fun _ _ h => h.bumpF.logError
  exact queued.updInteg.resetSettle

theorem Mach.Canon.resyncDone (ok : m.Canon) : (m.resyncDone n s p g).Canon := .ite ok.updVcp.resetSettle ok
theorem Mach.Canon.resyncTimeout (ok : m.Canon) : (m.resyncTimeout n s p g).Canon := .ite ok.updVcp.detect.resetSettle ok

end Sys2Proof.Machine
end

section
/-! SUPPORT. Restoration, tests, scrubs, the watchdog and resets keep the canonical form. -/

namespace Sys2Proof.Machine
set_option Elab.async false
variable {m : Mach} {s i n p index c r kind a l h f b off d us bay slice row nth source t : Nat}

/-! ## Restore -/

theorem Mach.Canon.poisonFailing {l : List Nat} (ok : m.Canon) : (m.poisonFailing l).Canon :=
  ok.withMem (Mem.wf_foldl _ (fun _ g h => Mem.wf_poisonGranule g 1 h) _ ok.mem)

theorem Mach.Canon.restoreRow {l : List Nat} (ok : m.Canon) : (m.restoreRow s l).Canon := by
  refine ok.foldl fun _ _ h => ?_
  split
  · exact h.sramWrite.bumpF
  · exact h.logError.bumpF

theorem Mach.Canon.syncSpares {f : Fuse} (ok : m.Canon) : (Mach.syncSpares f m s).Canon := ok.onStacks fun _ _ h => h.setF.setF.setF
theorem Mach.Canon.mapSpare {r : RowSpare} (ok : m.Canon) : (m.mapSpare s r).Canon := ok.updInteg

theorem Mach.Canon.failRow (ok : m.Canon) : (m.failRow s bay slice row).Canon := by
  unfold Mach.failRow
  extract_lets r ways hit m1 m2
  have failed : m2.Canon := .syncLost (.updInteg (ok.foldl fun _ _ h => h.writeback.dropLine))
  exact .ite failed.setService failed

theorem Mach.Canon.spareBayRow {f : Fuse} (ok : m.Canon) : (Mach.spareBayRow f m s index).1.Canon := by
  unfold Mach.spareBayRow
  dsimp only
  split
  · exact ok.mapSpare.syncSpares.bureauChange
  · exact ok.failRow.syncSpares

theorem Mach.Canon.disableRow (ok : m.Canon) : (m.disableRow s p row).Canon := .ite ok.updInteg.updNear ok.updInteg

theorem Mach.Canon.spareCoreRow (ok : m.Canon) : (m.spareCoreRow s kind index).1.Canon := by
  unfold Mach.spareCoreRow
  dsimp only
  split
  · exact ok.mapSpare.logBureau
  · exact .iteFst ok.disableRow ok.retireCore

theorem Mach.Canon.restoreBytes {b : List PByte} (ok : m.Canon) : (m.restoreBytes a b).Canon := .ite ok ok.sramWrite
theorem Mach.Canon.rerunLocal {d : Reshard} (ok : m.Canon) : (m.rerunLocal n s d a).Canon := .restoreBytes (.iteFst ok ok.performRead)

theorem Mach.Canon.rerunRemote {d : Reshard} (ok : m.Canon) : (m.rerunRemote s i d a).Canon := by
  unfold Mach.rerunRemote
  split
  · exact ok.sendReads
  · exact ok

theorem Mach.Canon.refill {f : MFill} (ok : m.Canon) : (m.refill n f a).Canon :=
  .foldl (.foldlVia MRead.m ok fun _ _ h => h.row) fun _ _ h => .ite h.restoreBytes h

theorem Mach.Canon.dataLost {c : Consumed} (ok : m.Canon) : (m.dataLost s c).Canon := ok.logError.bumpF.endPlan

theorem Mach.Canon.restoration (ok : m.Canon) : (m.restoration n s).Canon := by
  unfold Mach.restoration
  dsimp only
  split
  · exact ok
  · refine .ite ok.updInteg.bumpF ?_
    split
    · exact ok.updInteg
    · exact ok.updInteg.restoreBytes.bumpF
    · split
      · exact .ite (.ite ok ok.updInteg.rerunLocal.bumpF) (.ite ok.updInteg ok.updInteg.rerunRemote)
      · exact ok.updInteg
    · exact ok.updInteg.refill.bumpF
    · exact .ite ok.updInteg.dataLost ok.updInteg

/-! ## Integrity -/

theorem Mach.Canon.testBegin {t : SkTest} (ok : m.Canon) : (m.testBegin s t).Canon := .ite ok.updInteg.setF.setActive.syncTesting ok.updInteg

theorem Mach.Canon.testStart (ok : m.Canon) : (m.testStart s).Canon := by
  refine .ite ok ?_
  split
  · exact ok.testBegin
  · exact ok

theorem Mach.Canon.badFrames (ok : m.Canon) : (m.badFrames s index).Canon := ok.onStacks fun _ _ h => .ite h h.updCab

theorem Mach.Canon.rowTestEnd {f : Fuse} {t : SkTest} {fails : Bool} {more : List Nat} (ok : m.Canon) :
    (Mach.rowTestEnd f m s t fails more us).Canon := by
  unfold Mach.rowTestEnd
  extract_lets a bad again first k lasting r m1 m2 fixed m3
  have kept : k.1.Canon := .iteFst ok ok.keepOutcome
  clear_value k
  have spared : r.1.Canon := .iteFst kept (.iteFst kept.badFrames.spareBayRow kept.spareCoreRow)
  clear_value r
  have poisoned : m1.Canon := .ite spared spared.poisonFailing
  have refetched : m2.Canon := .ite poisoned.restoreRow poisoned
  clear_value m2
  have counted : m3.Canon := by
    unfold m3 a
    split
    · exact .ite refetched.updInteg refetched
    · exact refetched
  exact counted.testEnded

theorem Mach.Canon.unitTestEnd {t : SkTest} {fails : Bool} (ok : m.Canon) : (m.unitTestEnd s t fails us).Canon := by
  unfold Mach.unitTestEnd
  extract_lets p L k lasting m1 a m2
  have kept : k.1.Canon := .iteFst ok ok.keepOutcome
  clear_value k
  have retired : m1.Canon := .ite (.ite kept.retirePort (.retireCore (.ite kept.abortUnit kept))) (.ite kept.updCore.setF kept)
  have freed : m2.Canon := .ite (.coreCauseSettle (.ite retired.setF.updCore retired.setF)) retired
  exact freed.testEnded

theorem Mach.Canon.couplerTestEnd {t : SkTest} {failed : List Nat} (ok : m.Canon) : (m.couplerTestEnd s t failed us).Canon := by
  unfold Mach.couplerTestEnd
  extract_lets k room
  have kept : k.1.Canon := .iteFst ok.keepOutcome ok
  exact .ite kept.retireGroup.testEnded kept.groupTestEnd.testEnded

theorem Mach.Canon.testEnd {f : Fuse} {r : TestResult} (ok : m.Canon) : (Mach.testEnd f m s nth r us).Canon := by
  unfold Mach.testEnd
  split
  · exact ok
  · extract_lets m1 fails more
    have ended : m1.Canon := ok.updInteg
    split
    iterate 5 exact ended.rowTestEnd.runTested
    · exact ended.couplerTestEnd
    · exact ended.unitTestEnd

theorem Mach.Canon.hawkNext (ok : m.Canon) : (m.hawkNext s h).Canon :=
  .ite ok.setF (.ite ok.setF.setF (.ite ok.setF.setF.setF ok.setF.setF.setF.setF))

theorem Mach.Canon.checkRow (ok : m.Canon) : (m.checkRow s h off).Canon := .ite ok ok.bumpF.detect

theorem Mach.Canon.hawkStep {f : Fuse} {spareFails : Bool} (ok : m.Canon) : (Mach.hawkStep f m s h spareFails).Canon := by
  unfold Mach.hawkStep
  split
  · exact .ite ok (.ite (.ite ok.setF ok.setF.checkRow.hawkNext) (.hawkNext (.ite ok.updInteg.bumpF.syncSpares ok)))

theorem Mach.Canon.syncScrubs (ok : m.Canon) : (m.syncScrubs s).Canon := ok.onStacks fun _ _ h => h.setF
theorem Mach.Canon.scrubScan {x : Scrub} (ok : m.Canon) : (m.scrubScan s h x).1.Canon := ok.foldl fun _ _ h => h.bumpF.detect

theorem Mach.Canon.scrubDone (ok : m.Canon) : (m.scrubDone s h).Canon := by
  unfold Mach.scrubDone
  split
  · exact ok
  · extract_lets r mine left y m1
    have scanned : r.1.Canon := .iteFst ok ok.scrubScan
    clear_value r
    refine .ite scanned.updInteg (.ite scanned.updInteg.syncScrubs ?_)
    split
    · exact scanned.updInteg.syncScrubs
    · exact scanned.updInteg.syncScrubs.completeDeferred

theorem Mach.Canon.quietAbort (ok : m.Canon) : (m.quietAbort s).Canon := .ite ok.setF.updPlan.planEnded.dropKeyed ok

theorem Mach.Canon.sequencerStop (ok : m.Canon) : (m.sequencerStop s).Canon := by
  unfold Mach.sequencerStop
  extract_lets m1 m2 m3
  have quiet : m2.Canon := .quietAbort (.syncThrottle (ok.foldl fun _ _ h => h.setLevel))
  have stopped : m3.Canon := .stopCores (.ite quiet.twinControl quiet)
  exact stopped.setF.bumpF.updTherm

theorem Mach.Canon.bureauHeld (ok : m.Canon) : (m.bureauHeld n s).Canon := by
  unfold Mach.bureauHeld
  extract_lets m1 running id m2 m3
  have told : m3.Canon := ok.setF.sequencerStop.event
  exact .ite (ok.setF.onStacks fun _ _ h => h.sequencerStop) (.ite told.endPlan (.ite told.event told))

theorem Mach.Canon.interrupt (ok : m.Canon) : (m.interrupt n s).Canon := .ite ok.same.updStk ok.same.updStk

theorem Mach.Canon.watchdogMiss (ok : m.Canon) : (m.watchdogMiss n s).Canon := by
  unfold Mach.watchdogMiss
  extract_lets t l m1 m2
  have counted : m2.Canon := ok.updInteg.updStk.interrupt.bumpF
  exact .ite ok (.ite counted.bureauHeld counted)

theorem Mach.Canon.restartDone (ok : m.Canon) : (m.restartDone s).Canon := by
  unfold Mach.restartDone
  extract_lets b m1 m2 m3 m4
  have told : m4.Canon := .event (.foldl (ok.updStk.foldl fun _ _ h => h.srcEdgeNow) fun _ _ h => h.complete)
  exact .ite ok (.ite told.setF told)

/-! ## Resets -/

theorem Mach.Canon.resetCsr {keep : Nat → Bool} (ok : m.Canon) : (m.resetCsr s keep).Canon := ok.updStk
theorem Mach.Canon.clearSram (ok : m.Canon) : (m.clearSram s).Canon := ok.withMem (Mem.wf_clear _ _ ok.mem)
theorem Mach.Canon.coldStack (ok : m.Canon) : (m.coldStack s).Canon := ok.updStk

theorem Mach.Canon.coldReset (ok : m.Canon) : (m.coldReset).Canon := by
  have cold : (m.onStacks 4 fun m s => m.coldStack s).Canon := ok.onStacks fun _ _ h => h.coldStack
  exact .setF (canonical_iff.mpr ⟨rfl, rfl, cold.hostMem, rfl, ok.flash⟩)

theorem Mach.Canon.beginStart {f : StartForm} (ok : m.Canon) : (m.beginStart n f).Canon := by
  unfold Mach.beginStart
  extract_lets held image boot m1
  have begun : m1.Canon := ok.same
  refine begun.onStacks fun m s h => ?_
  extract_lets a b c
  have cleared : c.Canon := h.setF.setF.setF.setF.setF.foldl fun _ _ h => h.setF.setF
  exact .ite h (.ite cleared.setF cleared)

theorem Mach.Canon.coldStart (ok : m.Canon) : (m.coldStart n).Canon := ok.same.beginStart
theorem Mach.Canon.hostReset (ok : m.Canon) : (m.hostReset).Canon := ok.resetRange.bumpF.srcEdge

theorem Mach.Canon.recoverStack (ok : m.Canon) : (m.recoverStack s).Canon := by
  unfold Mach.recoverStack
  extract_lets bad ch own m1 m2 m3
  have kept : m2.Canon := ok.writebackAll.resetCsr.foldl fun _ _ h => h.setF.setF
  have failed : m3.Canon := .ite kept.setF.setF kept
  exact failed.updStk.clearSram

theorem Mach.Canon.flr (ok : m.Canon) : (m.flr n).Canon := by
  unfold Mach.flr
  extract_lets held m1 m2 m3
  have chains : m1.Canon := ok.endPlan.onStacks fun _ _ h => h.foldl fun _ _ h => h.abortChain
  have recovered : m2.Canon := (chains.onStacks fun _ _ h => .ite h h.twinStop).onStacks fun _ _ h => .ite h h.recoverStack
  have restarted : m3.Canon := recovered.restart.same.hostReset
  exact .ite ok.restart.hostReset restarted.beginStart.setF

theorem Mach.Canon.beginWake {atEntry : Bool} (ok : m.Canon) : (m.beginWake n source atEntry).Canon := by
  unfold Mach.beginWake
  extract_lets a b held
  have counted : b.Canon := ok.setF.setF.setF.bumpF
  exact counted.same

theorem Mach.Canon.functionReset (ok : m.Canon) : (m.functionReset n).Canon := by
  refine .ite ok (.ite (.ite ok.srcEdge.bumpF.beginWake ok.srcEdge.bumpF) ?_)
  split
  · exact ok.same.hostReset
  · exact ok.bumpF.srcEdge
  · exact ok.flr

theorem Mach.Canon.stopFlush (ok : m.Canon) : (m.stopFlush n).Canon := by
  refine ok.onStacks fun _ _ h => ?_
  exact .writebackAll (.clearDead (.updStk (h.foldl fun _ _ h => h.abortChain)))

theorem Mach.Canon.enterStop (ok : m.Canon) : (m.enterStop n).Canon := by
  unfold Mach.enterStop
  extract_lets m1 m2 m3
  have flushed : m1.Canon := ok.stopFlush.onStacks fun _ _ h => h.updCache.setF
  have stopped : m3.Canon := flushed.partEvent.onStacks fun m s h => by
    extract_lets a b
    have down : b.Canon := (h.stopCores.foldl fun _ _ h => h.setF).foldl fun _ _ h => h.setF
    exact down.setRails.updStk.clearSram
  exact stopped.same.setF.bumpF

end Sys2Proof.Machine
end

section
/-! SUPPORT. A start and a wake keep the canonical form. -/

namespace Sys2Proof.Machine
set_option Elab.async false
variable {m : Mach} {s i n k src p r l f us bay slice row : Nat}

/-! ## Boot -/

theorem Mach.Canon.romRecovery (ok : m.Canon) : (m.romRecovery s).Canon := ok.setF.setF.event.withBoot
theorem Mach.Canon.startFailed (ok : m.Canon) : (m.startFailed s).Canon := ok.setF.event.withBoot

theorem Mach.Canon.endBureau {f : Fuse} (ok : m.Canon) : (Mach.endBureau f m s).Canon := by
  unfold Mach.endBureau
  split
  · exact .ite ok.setF.setF.setF.setF.setF ok.romRecovery
  · exact ok.romRecovery

theorem Mach.Canon.trainGroup {failed : List Nat} {fused : Bool} (ok : m.Canon) : (m.trainGroup s i failed fused).Canon :=
  .ite (.ite ok.mapSpares.setF ok.mapSpares) ok.setF.setActive

theorem Mach.Canon.trainPort {fails : Bool} (ok : m.Canon) : (m.trainPort s p fails).Canon := .ite ok.setF.setF.setF ok.setF.setF.setF

theorem Mach.Canon.endFabric {f : Fuse} {form : StartForm} {r : StackStage} (ok : m.Canon) : (Mach.endFabric f m s form r).Canon := by
  unfold Mach.endFabric
  extract_lets cold fused m1 m2 m3 m4
  have fusedOff : m1.Canon := ok.foldl fun _ _ h => h.trainGroup
  have groups : m2.Canon := .ite (fusedOff.foldl fun _ _ h => h.trainGroup) fusedOff
  have ports : m3.Canon := groups.foldl fun _ _ h => h.trainPort
  have trained : m4.Canon := ports.syncVcp.syncPulse.setF
  exact .ite trained trained.startFailed

theorem Mach.Canon.marchRow {f : Fuse} (ok : m.Canon) : (Mach.marchRow f m s bay slice row).Canon := .ite ok.spareBayRow ok.updInteg

theorem Mach.Canon.marchSample {f : Fuse} {rows : List (Fin 864 × Fin 16 × Fin 520)} (ok : m.Canon) : (Mach.marchSample f m s rows).Canon :=
  ok.foldl fun _ _ h => h.marchRow

theorem Mach.Canon.endMemory {f : Fuse} {form : StartForm} {r : StackStage} (ok : m.Canon) : (Mach.endMemory f m s form r).Canon := by
  unfold Mach.endMemory
  extract_lets m0 c m1 half m2 m3
  have sampled : (Mach.syncSpares f (Mach.marchSample f m0 s r.rows) s).Canon := ok.clearSram.marchSample.syncSpares
  have tested : m1.Canon := .ite sampled.setF.setF.setF (.ite sampled ok.clearSram.syncSpares)
  have split : m2.Canon := tested.setGeometry.setGeometry.syncPoisonDir
  have served : m3.Canon := .ite split.startFailed split
  split
  · exact served.setF.setF.srcEdge.startFailed
  · exact .ite served.startFailed served.setF

theorem Mach.Canon.beginLinks {p : Machine.Part} {form : StartForm} (ok : m.Canon) : (Mach.beginLinks p m s form).Canon :=
  .foldl (ok.foldl fun _ _ h => .ite h h.linkBegin) fun _ _ h => .ite h h.bridgeState

theorem Mach.Canon.writeMap {l : List (Nat × Nat)} {bad : List Nat} (ok : m.Canon) : (m.writeMap s l bad).Canon := by
  unfold Mach.writeMap
  extract_lets used m1 m2 m3
  have idle : m1.Canon := ok.foldl fun _ _ h => .ite h.setIdent (.ite h.setIdent (.ite h h.setIdent))
  have mapped : m2.Canon := idle.foldl fun _ _ h => h.setLogical.setIdent
  exact .setF (.setF (mapped.foldl fun _ _ h => h.setLogical))

theorem Mach.Canon.powerCores (ok : m.Canon) : (m.powerCores s).Canon := .syncPower (ok.foldl fun _ _ h => .ite h.setF.bumpF.setF h.setF.setF)

theorem Mach.Canon.endCores {form : StartForm} {r : StackStage} (ok : m.Canon) : (m.endCores s form r).Canon := by
  unfold Mach.endCores
  extract_lets fresh rows m1 old bad now free goes lost m2 m3 m4
  have spared : m1.Canon := .foldlVia Prod.fst ok fun _ _ h => .iteFst h.spareCoreRow h
  have mapped : m3.Canon := spared.writeMap.updStk
  have told : m4.Canon := .ite mapped.setF mapped
  exact told.syncMap.powerCores

theorem Mach.Canon.endFinal {f : Fuse} {form : StartForm} (ok : m.Canon) : (Mach.endFinal f m s form).Canon := by
  unfold Mach.endFinal
  extract_lets m0 m1 m2 m3 ready
  have stored : m0.Canon := .ite ok.checkStore ok
  have links : m1.Canon := .ite (stored.foldl fun _ _ h => .ite h h.linkBegin) stored
  have cores : m3.Canon := .ite (.syncPower (links.updCache.foldl fun _ _ h => .ite h.coreStop h)) links.updCache
  exact cores.setF.setF

theorem Mach.Canon.stageBegin {p : Machine.Part} {form : StartForm} (ok : m.Canon) : (Mach.stageBegin p m s k form).Canon :=
  .ite ok.setF.setF.setF (.ite ok.setF.setF.beginLinks ok.setF.setF)

theorem Mach.Canon.stageFinish {f : Fuse} {form : StartForm} {r : StackStage} (ok : m.Canon) : (Mach.stageFinish f m s k form r).Canon := by
  unfold Mach.stageFinish
  extract_lets m1 m2
  have told : m2.Canon := .ite ok.setF.setF ok.setF
  split
  · exact told.endBureau
  · exact told.endFabric
  · exact told.endMemory
  · exact .ite told told.startFailed
  · exact told.endCores
  · exact told.endFinal
  · exact told

theorem Mach.Canon.startEnded {form : StartForm} (ok : m.Canon) : (m.startEnded n us form).Canon := by
  unfold Mach.startEnded
  extract_lets boot m1 m2 part m3 m4 m5
  have timed : m2.Canon := Mach.Canon.onStacks ok.same fun _ _ h => .ite h h.setF
  have awake : m3.Canon := .ite timed.setF timed
  have warm : m4.Canon := .ite awake.setF awake
  have told : m5.Canon := warm.foldl fun _ _ h => .ite h h.event
  exact .ite told told.partEvent

theorem Mach.Canon.stageStep {f : Fuse} {form : StartForm} {results : List StackStage} (ok : m.Canon) : (Mach.stageStep f m form results).Canon := by
  unfold Mach.stageStep
  extract_lets n st k cur waits res m1 us boot m2 go m3
  have ended : m1.Canon := .ite ok (ok.foldl fun _ _ h => h.stageFinish)
  have timed : m2.Canon := ended.same
  have begun : m3.Canon := timed.foldl fun _ _ h => h.stageBegin
  exact .ite ok (.ite timed.startEnded (.ite begun begun.partEvent))

theorem Mach.Canon.stageStart {f : Fuse} {results : List StackStage} (ok : m.Canon) : (Mach.stageStart f m results).Canon := by
  unfold Mach.stageStart
  split
  · exact ok.stageStep
  · exact ok.stageStep
  · exact ok

theorem Mach.Canon.stageLate (ok : m.Canon) : (m.stageLate s).Canon := .ite ok ok.setF

theorem Mach.Canon.imageBlock {f : Fuse} {good : Bool} (ok : m.Canon) : (Mach.imageBlock f m s i good).Canon := by
  unfold Mach.imageBlock
  split
  · exact .ite ok.same ok
  · exact ok

theorem Mach.Canon.stageMessage {release good : Bool} (ok : m.Canon) : (m.stageMessage s release good).Canon := .ite ok ok.same

theorem Mach.Canon.wakeEvent {src : WakeSource} {atEntry : Bool} (ok : m.Canon) : (m.wakeEvent n src atEntry).Canon := by
  unfold Mach.wakeEvent
  extract_lets st m1 on code
  have woken : m1.Canon := by
    unfold m1
    split
    · exact ok
    · exact ok.srcEdge
    · exact ok
  exact .ite (.ite woken.beginWake woken) (.ite woken ok)

theorem Mach.Canon.emptyDirectory (ok : m.Canon) : (m.emptyDirectory s).Canon := by
  refine ok.foldl fun _ _ h => ?_
  exact h.fresh.withTier (Mem.wf_putByte _ _ (h.fresh (k := 8)).tier)

theorem Mach.Canon.wakeStack {failed : List SavedItem} (ok : m.Canon) : (m.wakeStack s failed).Canon := by
  unfold Mach.wakeStack
  extract_lets t on tab a b c d e
  have kept : b.Canon := .ite ok.resetCsr.updStk.emptyDirectory ok.resetCsr.updStk
  have rails : c.Canon := kept.setF.foldl fun _ _ h => .ite h.setRails h
  have latched : e.Canon := rails.setF.setF.updStk.foldl fun _ _ h => h.srcEdgeNow
  exact .ite latched latched.setF.setF

theorem Mach.Canon.wakeNext {f : Fuse} {results : List StackStage} {failed : List (List SavedItem)} (ok : m.Canon) :
    (Mach.wakeNext f m results failed).Canon := by
  unfold Mach.wakeNext
  extract_lets n goes lost host' host boot' boot m1 m2
  have gone : ∀ {m k}, m.Canon → (goes m k).Canon := fun h => h.same
  clear_value goes
  refine .ite ok ?_
  split
  · exact gone (ok.onStacks fun _ _ h => h.setRails)
  · exact gone (ok.onStacks fun _ _ h => h.setRails)
  · exact gone (ok.onStacks fun _ _ h => h.setRails)
  · have woken : m1.Canon := .foldl (canonical_iff.mpr ⟨ok.mem, ok.tier, ok.hostMem, rfl, ok.flash⟩) fun _ _ h => h.wakeStack
    have checked : m2.Canon := .ite woken.checkStore woken
    exact gone checked.setF.stageStep
  · exact .ite ok (gone ok.stageStep)

end Sys2Proof.Machine
end

section
/-! SUPPORT. Conversions, integer operations, the interrupt controller and the registers keep the canonical form. -/

namespace Sys2Proof.Machine
set_option Elab.async false
variable {m : Mach} {s v i n k w p c r o l lane h f size q b owner t : Nat}

/-! ## Cvt -/

theorem Mach.Canon.cvt {k : KCtx} {f : Nat → Nat} (ok : m.Canon) : (k.cvt m f).Canon := ok.writeD

/-! ## IntOps -/

theorem Mach.Canon.int2 {k : KCtx} {f : Nat → Nat → Nat → Nat} (ok : m.Canon) : (k.int2 m f).Canon := ok.writeD
theorem Mach.Canon.int1 {k : KCtx} {f : Nat → Nat → Nat} (ok : m.Canon) : (k.int1 m f).Canon := ok.writeD

/-! ## Intc -/

theorem Mach.Canon.intcClaim (ok : m.Canon) : (m.intcClaim s t).1.Canon := by
  unfold Mach.intcClaim
  split
  · exact ok
  · exact ok.setF.setF.setF

theorem Mach.Canon.intcComplete (ok : m.Canon) : (m.intcComplete s i).Canon := .ite ok.setF ok.bumpF.setF

/-! ## RegEffect -/

theorem Mach.Canon.writeFields {l : List Fld} {w : RegW} (ok : m.Canon) : (m.writeFields s l i w).Canon := by
  refine ok.foldl fun _ _ h => .ite h ?_
  split
  · exact h.setF
  · exact .ite h.setF h
  · exact h

theorem Mach.Canon.setPool {p : PoolSet} (ok : m.Canon) : (m.setPool s c p).Canon := ok.setF.setF.setF.setF.setF.setF.setF.setF.setF.syncCab
theorem Mach.Canon.unlicensedWrite (ok : m.Canon) : (m.unlicensedWrite s o).Canon := ok.logError
theorem Mach.Canon.writePool {p : PoolSet} (ok : m.Canon) : (m.writePool s c p).1.Canon := .iteFst ok.setPool ok
theorem Mach.Canon.writePoolCfg {w : RegW} (ok : m.Canon) : (m.writePoolCfg s c w).1.Canon := .iteFst ok ok.writePool
theorem Mach.Canon.writePoolBase {w : RegW} (ok : m.Canon) : (m.writePoolBase s c w).1.Canon := .iteFst ok ok.writePool
theorem Mach.Canon.writeLpCfg {w : RegW} (ok : m.Canon) : (m.writeLpCfg s c w).1.Canon := .iteFst ok.unlicensedWrite ok.writePool
theorem Mach.Canon.writeLpBase {w : RegW} (ok : m.Canon) : (m.writeLpBase s c w).1.Canon := .iteFst ok ok.writePool
theorem Mach.Canon.writeClassCfg {w : RegW} (ok : m.Canon) : (m.writeClassCfg s c w).1.Canon := ok.writePool
theorem Mach.Canon.writeDoorbell {w : RegW} (ok : m.Canon) : (m.writeDoorbell b w).1.Canon := .iteFst ok (.iteFst ok.bumpF ok.same.setF)
theorem Mach.Canon.writeTail {w : RegW} (ok : m.Canon) : (m.writeTail w).1.Canon := .iteFst ok.setF.drainEvents ok
theorem Mach.Canon.writeSignal {w : RegW} (ok : m.Canon) : (m.writeSignal s o w).1.Canon := .iteFst ok ok.applySignals
theorem Mach.Canon.writeSyncStatus {w : RegW} (ok : m.Canon) : (m.writeSyncStatus s o w).1.Canon := .iteFst ok.setF.setF.updPlan ok
theorem Mach.Canon.writePartCfg {w : RegW} (ok : m.Canon) : (m.writePartCfg s h w).1.Canon := .iteFst ok (.iteFst ok.partStart ok.setF)
theorem Mach.Canon.setSdid (ok : m.Canon) : (m.setSdid s v).Canon := ok.setF.foldl fun _ _ h => .ite h.setF.linkUpNow h
theorem Mach.Canon.writeSdid {w : RegW} (ok : m.Canon) : (m.writeSdid s w).1.Canon := .iteFst ok.setSdid ok
theorem Mach.Canon.askRetrain (ok : m.Canon) : (m.askRetrain s n).Canon := .ite ok.retrain (.ite ok.bumpF ok)

theorem Mach.Canon.patEnd (ok : m.Canon) : (m.patEnd s n).Canon :=
  .ite (.release (.ite ok.patAbort.patRelease ok.patAbort)) (.ite ok.patAbort.patRelease ok.patAbort)

theorem Mach.Canon.linkMode {en0 : Bool} {te0 : Bool} (ok : m.Canon) : (m.linkMode s n en0 te0).Canon :=
  .ite (.ite ok.scanAbort.patEnd.setF ok) (.ite (.ite ok ok.setF) (.ite ok.scanAbort.patEnd.linkBegin (.ite ok.linkBegin ok)))

theorem Mach.Canon.writeLnkCtrl {w : RegW} (ok : m.Canon) : (m.writeLnkCtrl s n w).1.Canon :=
  .iteFst ok (.ite ok.writeFields.linkMode.askRetrain ok.writeFields.linkMode)

theorem Mach.Canon.claimTest {spare : Bool} (ok : m.Canon) : (m.claimTest s n owner spare).1.Canon :=
  .iteFst ok.claim (.iteFst ok.claim (.ite ok.claim.setF.claim ok.claim.setF))

theorem Mach.Canon.writePatCfg {w : RegW} (ok : m.Canon) : (m.writePatCfg s n w).1.Canon :=
  .iteFst ok (.iteFst (.iteFst ok (.iteFst ok.claimTest.writeFields ok.claimTest)) (.writeFields (.ite ok.patEnd ok)))

theorem Mach.Canon.scanStart (ok : m.Canon) : (m.scanStart s n lane owner).1.Canon := .iteFst ok (.iteFst ok.claimTest.updLnk.setF.setF ok.claimTest)

theorem Mach.Canon.writeMargin {w : RegW} (ok : m.Canon) : (m.writeMargin s n w).1.Canon :=
  .iteFst ok (.iteFst (.iteFst ok.scanStart.setF ok.scanStart) ok.setF)

theorem Mach.Canon.writeMovHead {w : RegW} (ok : m.Canon) : (m.writeMovHead s c w).1.Canon := .iteFst ok ok.writeFields

theorem Mach.Canon.writeMovCtrl {w : RegW} (ok : m.Canon) : (m.writeMovCtrl s c w).1.Canon :=
  .iteFst ok (.iteFst (.ite ok.writeFields.movStop.bumpF ok.writeFields.movStop) (.iteFst ok.writeFields.movStart ok.writeFields))

theorem Mach.Canon.writePower {w : RegW} (ok : m.Canon) : (m.writePower s p w).1.Canon :=
  .iteFst ok (.iteFst ok (.ldoSettle (.ite (.ite ok.setF.requestStop ok.setF.requestWake) ok.setF)))

theorem Mach.Canon.writeCore {l : List Fld} {w : RegW} (ok : m.Canon) : (m.writeCore s p l w).1.Canon := .iteFst ok ok.writeFields.coreCauseSettle
theorem Mach.Canon.writeChCfg {w : RegW} (ok : m.Canon) : (m.writeChCfg s c w).1.Canon := .iteFst ok ok.writeFields

theorem Mach.Canon.writeDiag {w : RegW} (ok : m.Canon) : (m.writeDiag s w).1.Canon :=
  .iteFst ok (.iteFst (.iteFst ok.claim ok.setF.claim.setF) (.iteFst ok.setF.release.setF ok.setF))

theorem Mach.Canon.writeOe {v : Bool} (ok : m.Canon) : (m.writeOe s k v).Canon := .ite ok (.ite ok.release.setF (.ite ok.claim ok.claim.setF))
theorem Mach.Canon.writeGpio {w : RegW} (ok : m.Canon) : (m.writeGpio s w).1.Canon := .iteFst ok (ok.setF.setF.foldl fun _ _ h => h.writeOe)
theorem Mach.Canon.writeAlarm {w : RegW} (ok : m.Canon) : (m.writeAlarm s w).1.Canon := ok.writeFields
theorem Mach.Canon.writePwrStatus {w : RegW} (ok : m.Canon) : (m.writePwrStatus s w).1.Canon := .iteFst ok.setF.railSettle ok
theorem Mach.Canon.writeStackSel {w : RegW} (ok : m.Canon) : (m.writeStackSel n w).1.Canon := .iteFst ok ok.setF
theorem Mach.Canon.writeComplete {w : RegW} (ok : m.Canon) : (m.writeComplete s w).1.Canon := .iteFst ok.intcComplete ok

/-! ## RegWrite -/

theorem Mach.Canon.clearRc {l : List Fld} {h : RegHalf} (ok : m.Canon) : (m.clearRc s l i h).Canon :=
  ok.foldl fun _ _ h => .ite (.ite h.resetF h.setF) h

theorem Mach.Canon.regRead {fu : Fuse} {r : RegDef} {l : List Fld} {h : RegHalf} (ok : m.Canon) : (Mach.regRead fu m s r l i h).1.Canon :=
  .iteFst (.iteFst ok.intcClaim ok) (.iteFst ok.same (.ite ok.clearRc.coreCauseSettle ok.clearRc))

theorem Mach.Canon.bar0Load {fu : Fuse} (ok : m.Canon) : (Mach.bar0Load fu m o size).Canon := by
  unfold Mach.bar0Load
  dsimp only
  split
  · exact ok.logError.respondOnes
  · refine .ite ok.logError.respondOnes (.ite ok.respond ?_)
    split
    · exact ok.respond
    · exact ok.regRead.respond

theorem Mach.Canon.regWrite {r : RegDef} {l : List Fld} {w : RegW} (ok : m.Canon) : (m.regWrite n s r l i w).1.Canon :=
  .iteFst ok.unlicensedWrite (.iteFst ok (.iteFst ok.writeDoorbell (.iteFst ok.writeTail (.iteFst ok.writeSignal (.iteFst ok.writeSyncStatus (.iteFst
    ok.writePartCfg (.iteFst ok.writePoolCfg (.iteFst ok.writePoolBase (.iteFst ok.writeLpCfg (.iteFst ok.writeLpBase (.iteFst ok.writeClassCfg
    (.iteFst ok.writeSdid (.iteFst ok.writeLnkCtrl (.iteFst ok.writePatCfg (.iteFst ok.writeMargin (.iteFst ok.writeMovHead (.iteFst ok.writeMovCtrl
    (.iteFst ok.writePower (.iteFst ok.writeCore (.iteFst ok.writeChCfg (.iteFst ok.writeDiag (.iteFst ok.writeGpio (.iteFst ok.writeAlarm (.iteFst
    ok.writePwrStatus (.iteFst ok.writeStackSel (.iteFst ok.writeComplete (.iteFst ok.writeFields.syncPulse ok.writeFields)))))))))))))))))))))))))))

theorem Mach.Canon.hostWrite {fu : Fuse} {r : RegDef} {l : List Fld} {w : RegW} (ok : m.Canon) : (Mach.hostWrite fu m s r l i w).Canon :=
  ok.regWrite.logHost

theorem Mach.Canon.bar0Store {fu : Fuse} {r : RegDef} {l : List Fld} {w : RegW} (ok : m.Canon) : (Mach.bar0Store fu m r l i w).Canon :=
  .ite ok.logHost (.ite ok.logHost ok.hostWrite)

theorem Mach.Canon.bar0Perform {fu : Fuse} {q : Bar0Req} (ok : m.Canon) : (Mach.bar0Perform fu m q).Canon := by
  unfold Mach.bar0Perform
  dsimp only
  split
  · exact ok.bar0Load
  · split
    · exact ok.logError.logHost
    · split
      · exact ok.bar0Store
      · exact ok.logHost

theorem Mach.Canon.holdBar0 {q : Bar0Req} (ok : m.Canon) : (m.holdBar0 q).Canon := ok.same

theorem Mach.Canon.bar0Run {fu : Fuse} {fuel : Nat} (ok : m.Canon) : (Mach.bar0Run fu fuel m).Canon := by
  induction fuel generalizing m with
  | zero => exact ok
  | succ fuel ih =>
    unfold Mach.bar0Run
    split
    · exact ok
    · exact .ite ok (ih ok.same.bar0Perform)

theorem Mach.Canon.bar0Drain {fu : Fuse} (ok : m.Canon) : (Mach.bar0Drain fu m).Canon := ok.bar0Run
theorem Mach.Canon.bar0Request {fu : Fuse} {q : Bar0Req} (ok : m.Canon) : (Mach.bar0Request fu m q).Canon := .ite ok.bar0Perform ok.holdBar0
theorem Mach.Canon.bar0Read {fu : Fuse} (ok : m.Canon) : (Mach.bar0Read fu m o size).Canon := .ite ok.respondOnes ok.bar0Request
theorem Mach.Canon.bar0Write {fu : Fuse} {v : Dword} (ok : m.Canon) : (Mach.bar0Write fu m o size v).Canon := .ite ok ok.bar0Request

theorem Mach.Canon.bar0Reg {fu : Fuse} {r : RegDef} {l : List Fld} {w : RegW} (ok : m.Canon) : (Mach.bar0Reg fu m r l i w).Canon :=
  .ite ok (.ite ok.holdBar0 ok.bar0Store)

theorem Mach.Canon.bar2Read {fu : Fuse} (ok : m.Canon) : (Mach.bar2Read fu m o size).Canon := by
  refine .ite ok.respondOnes ?_
  split
  · split
    · exact ok.regRead.respond
    · exact ok.respond
  · exact .ite ok.respond (.ite ok.fresh.respond (.ite ok.respond.logError ok.respond))

theorem Mach.Canon.bar2Write {fu : Fuse} {r : RegDef} {l : List Fld} {w : RegW} (ok : m.Canon) : (Mach.bar2Write fu m r l i w).Canon :=
  .ite ok.regWrite.logHost ok.regWrite

theorem Mach.Canon.doorbell {fu : Fuse} {w : RegW} {bar2 : Bool} (ok : m.Canon) : (Mach.doorbell fu m b w bar2).Canon :=
  .ite ok (.ite ok.bar0Reg (.ite ok (.ite ok.bar2Write ok.hostWrite)))

theorem Mach.Canon.requestWrite {bs : List Byte} {ep : Bool} (ok : m.Canon) : (m.requestWrite b o bs ep).Canon := by
  unfold Mach.requestWrite
  extract_lets d
  refine .ite ok (.ite ok.bumpF (.ite ?_ ?_))
  · exact (ok.withBar2 (Mem.wf_write _ _ ok.bar2)).bumpF.aer
  · exact ok.withBar2 (Mem.wf_writeBytes _ _ ok.bar2)

theorem Mach.Canon.bar2Store {fu : Fuse} {v : Dword} (ok : m.Canon) : (Mach.bar2Store fu m o size v).Canon := by
  refine .ite ok (.ite ok.requestWrite (.ite (ok.withBar2 (Mem.wf_writeBytes _ _ ok.bar2)) ?_))
  split
  · split
    · exact .ite ok.doorbell ok.bar2Write
    · exact ok
  · exact ok

end Sys2Proof.Machine
end

section
/-! SUPPORT. The commands of the mailbox, kernel waits and the clocks keep the canonical form. -/

namespace Sys2Proof.Machine
set_option Elab.async false
variable {m m0 m1 : Mach} {s v i n k w code addr old new status c r l cls f q : Nat}

/-! ## Shoser -/

theorem Mach.Canon.tryCmd {f : Fuse} {c : Cmd} {r : MbxReq} (ok : m.Canon) (keeps : ∀ fu n r, n.Canon → (c.act fu n r).mach.Canon) :
    (Mach.tryCmd f m c r).mach.Canon := .iteReply ok (.iteReply ok (.iteReply ok (.iteReply ok (keeps _ _ _ ok))))

theorem Mach.Canon.serve {f : Fuse} {c : Cmd} (ok : m.Canon) (keeps : ∀ fu n r, n.Canon → (c.act fu n r).mach.Canon) : (Mach.serve f m c).Canon := by
  unfold Mach.serve
  extract_lets n held mine host m0 m1 host1
  have settled : m0.Canon := Mach.Canon.settleMbx ok.same
  clear_value m0
  have tried : ∀ r, (Mach.tryCmd f m0 c r).mach.Canon := fun _ => settled.tryCmd keeps
  have served : m1.Canon := by
    unfold m1
    split
    · exact settled
    · next r _ =>
      have tried := tried r
      refine .ite settled ?_
      cases e : Mach.tryCmd f m0 c r with rw [e] at tried
      | wait x => exact tried
      | done x st p => exact tried.complete.popReq
      | later x => exact tried.popReq
  clear_value m1
  exact .ite ok served.same

theorem NextCanon.shoser {s : State} {c : Cmd} (ok : s.m.Canon) (keeps : ∀ fu n r, n.Canon → (c.act fu n r).mach.Canon) : NextCanon (shoser c s) :=
  .onMach ok fun _ _ h => h.serve keeps

theorem Mach.Canon.logShoser {r : MbxReq} {command : Bool} {refused : Bool} (ok : m.Canon) : (m.logShoser r s addr old new command refused).Canon :=
  ok.logChange

theorem Mach.Canon.logCmd {r : MbxReq} {refused : Bool} (ok : m.Canon) : (m.logCmd n r refused).Canon := ok.foldl fun _ _ h => h.fresh.fresh.logShoser
theorem Mach.Canon.okLogged {r : MbxReq} {payload : List Byte} (ok : m.Canon) : (m.okLogged n r payload).mach.Canon := ok.logCmd
theorem Mach.Canon.noLogged {r : MbxReq} {payload : List Byte} (ok : m.Canon) : (m.noLogged n r status payload).mach.Canon := ok.logCmd

theorem Mach.Canon.logRegs {f : Fuse} {r : MbxReq} {l : List (List Fld × Nat)} (ok1 : m.Canon) : (Mach.logRegs f m0 m r s l).Canon := by
  refine ok1.foldl fun _ _ h => ?_
  split
  · exact h
  · exact .ite h h.logShoser

theorem Mach.Canon.unstated (ok : m.Canon) : (m.unstated w).1.Canon := ok.fresh (k := 8 * w)
theorem Mach.Canon.identity {f : Fuse} (ok : m.Canon) : (Mach.identity f m).1.Canon := ok.unstated (w := 2 * (4 - f.part.stackCount))

theorem Mach.Canon.logLicence {r : MbxReq} {refused : Bool} (ok1 : m.Canon) : (m0.logLicence m n r refused).Canon :=
  ok1.foldl fun _ _ h => h.logShoser

theorem Mach.Canon.licenceWritten {f : Fuse} {r : MbxReq} {l : List LicBlob} (ok : m.Canon) : (Mach.licenceWritten f m r l).Canon :=
  .logLicence (ok.same.syncLicences.onStacks fun _ _ h => .ite h h.licencesSettle)

theorem Mach.Canon.flashDone {f : Fuse} (ok : m.Canon) : (Mach.flashDone f m).Canon := by
  unfold Mach.flashDone
  split
  · exact ok
  · extract_lets host m0 n at0 host1 m1 l m2
    have taken : m0.Canon := ok.same
    have written : m1.Canon := taken.withFlash (Mem.wf_writeBytes _ _ taken.flash)
    exact .ite written.logCmd.complete taken.licenceWritten.complete

/-! ## PlanLoad -/

theorem Mach.Canon.dropWire (ok : m.Canon) : (m.dropWire s).Canon := .bumpF (ok.same.foldl fun _ _ h => h.dropTraffic)
theorem Mach.Canon.dropWindow (ok : m.Canon) : (m.dropWindow s).Canon := .syncPinned (ok.foldl fun _ _ h => h.dropLine)

theorem Mach.Canon.loadSyncs {pl : Plan} (ok : m.Canon) : (m.loadSyncs s pl).Canon := by
  unfold Mach.loadSyncs
  extract_lets m0 m1 m2 m3
  have objects : m2.Canon := ok.resetRange.setF.foldl fun _ _ h => h.setF.setF.setF.setF.setF.setF
  have phases : m3.Canon := objects.foldl fun _ _ h => h.setF
  exact phases.foldl fun _ _ h => h.fireBinds

theorem Mach.Canon.loadRegs (ok : m.Canon) : (m.loadRegs s).Canon :=
  .foldl (ok.foldl fun _ _ h => .coreCauseSettle (h.foldl fun _ _ h' => h'.resetF)) fun _ _ h => h.clearLaunchRegs

theorem Mach.Canon.loadOn {pl : Plan} (ok : m.Canon) : (m.loadOn s pl).Canon := by
  unfold Mach.loadOn
  extract_lets p m1 m2 m3 m4 m5 m6 m7
  have texts : m2.Canon := ok.dropWire.dropKeyed.dropWindow.foldl fun _ _ h => h.performWrite
  have loaded : m4.Canon := texts.updStk.loadRegs.loadSyncs
  exact loaded.setF.setF.setF.setF.setF.setF.setF.setF

theorem Mach.Canon.wakeFor {l : List (Nat × Nat)} (ok : m.Canon) : (m.wakeFor l).Canon := ok.foldl fun _ _ h => .ite h h.requestWake

theorem Mach.Canon.planLoad {f : Fuse} {r : MbxReq} (ok : m.Canon) : (Mach.planLoad f m r).mach.Canon := by
  unfold Mach.planLoad
  extract_lets n a b0 l size rd b m1 st pl asleep texts m2 m3
  have read : m1.Canon := ok.performRead
  have loaded : m2.Canon := read.foldl fun _ _ h => h.loadOn
  have logged : m3.Canon := loaded.foldl fun _ _ h => h.logRegs
  refine .iteReply ok.noLogged (.iteReply ok (.iteReply read.noLogged (.iteReply ok.wakeFor (.iteReply ok (.okLogged ?_)))))
  exact logged.foldl fun _ _ h => h.foldl fun _ _ h => h.checkRoute

theorem Mach.Canon.fetchText {c : CoreDir} (ok : m.Canon) : (m.fetchText c).Canon := ok.performRead.performWrite

theorem Mach.Canon.startOn (ok : m.Canon) : (m.startOn s).Canon :=
  .foldl (.setF (.updStk (ok.foldl fun _ _ h => h.fetchText))) fun _ _ h => h.syncScript

theorem Mach.Canon.planStart {f : Fuse} {r : MbxReq} (ok : m.Canon) : (Mach.planStart f m r).mach.Canon := by
  unfold Mach.planStart
  extract_lets n l spans m1
  have started : m1.Canon := ok.foldl fun _ _ h => h.startOn
  exact .iteReply ok.noLogged (.iteReply ok (.okLogged (started.foldl fun _ _ h => h.logRegs)))

theorem Mach.Canon.setRoute (ok : m.Canon) : (m.setRoute s i v).Canon := ok.foldl fun _ _ h => h.setF

theorem Mach.Canon.routeLoad {f : Fuse} {r : MbxReq} (ok : m.Canon) : (Mach.routeLoad f m r).mach.Canon := by
  unfold Mach.routeLoad
  extract_lets n s same m1 m2 m3 m3' valid m4 m5 m6
  have reset : m1.Canon := .ite ok ok.resetRange.setF
  have hops : m3'.Canon := .foldl (.updLinks (reset.foldl fun _ _ h => h.setRoute)) fun _ _ h => h.chooseHop
  have told : m5.Canon := hops.setF.setF.foldl fun _ _ h => .ite h.announce h
  exact .iteReply ok.noLogged (.logRegs (.ite told told.logCmd))

/-! ## ShoserKv -/

theorem Mach.Canon.seqFailed {fork : Bool} (ok : m.Canon) : (m.seqFailed s q code fork).Canon :=
  .ite ok (.ite ok.bumpF.srcEdge.updSeq (.ite ok ok.updSeq))

theorem Mach.Canon.seqDone {r : MbxReq} (ok : m.Canon) (ok1 : m1.Canon) : (m.seqDone m1 n r q code).mach.Canon := by
  unfold Mach.seqDone
  split
  · exact ok
  · next m2 e => exact (ok1.syncCab.journalPut m2 e).logCmd

theorem Mach.Canon.pagesDone {r : MbxReq} (ok : m.Canon) (ok1 : m1.Canon) : (m.pagesDone m1 n r q code).mach.Canon := .iteReply ok (ok.seqDone ok1)

theorem Mach.Canon.setPriority {pin : Bool} {x : Machine.Seq} (ok : m.Canon) : (m.setPriority s q cls pin x).Canon :=
  .updSeq (ok.foldl fun _ _ h => h.updPage)

theorem Mach.Canon.unpin {k : Machine.Shelf} (ok : m.Canon) : (m.unpin s k).Canon :=
  .syncPinned (ok.updCache.foldl fun _ _ h => .ite h.dropLine h.updLine)

/-! ## ShoserLink -/

theorem Mach.Canon.hello {r : MbxReq} {bad : Bool} (ok : m.Canon) : (m.hello s r bad).Canon := ok.linkPush
theorem Mach.Canon.pairBegin {r : MbxReq} (ok : m.Canon) : (m.pairBegin s r).Canon := ok.setPair.updTwin.hello

theorem Mach.Canon.pairTimeout (ok : m.Canon) : (m.pairTimeout).Canon := by
  unfold Mach.pairTimeout
  split
  · exact ok
  · exact ok.pairFails

/-! ## Sync -/

theorem Mach.Canon.waitObj {k : KCtx} {eq : Bool} (ok : m.Canon) : (k.waitObj m eq).Canon := by
  unfold KCtx.waitObj
  split
  · exact ok.next
  · exact .ite ok.fault (.ite ok.releaseWait ok.updGroup.syncWaiters)

theorem Mach.Canon.stage {k : KCtx} {x : Staged} (ok : m.Canon) : (k.stage m x).Canon := ok.updCore.next

/-! ## Tick -/

theorem Mach.Canon.tickStack (ok : m.Canon) : (m.tickStack s).Canon := .ite ok.setF.setF ok.setF
theorem Mach.Canon.tick (ok : m.Canon) : (m.tick n).Canon := .ite ok (ok.same.onStacks fun _ _ h => h.tickStack)

end Sys2Proof.Machine
end

section
/-! SUPPORT. O59: every command, and so every step, keeps the canonical form. -/

namespace Sys2Proof.Machine
set_option Elab.async false


theorem nextCanon_execBrx {a : KInstr} {s : State} (ok : s.m.Canon) : NextCanon (execBrx a s) := by
  refine .kernel ok fun _ _ h => ?_
  dsimp only
  split
  · exact h.next
  · exact .ite h.diverge (.ite h.updGroup (.ite h.fault h.updGroup))

theorem nextCanon_execTrap {a : KInstr} {s : State} (ok : s.m.Canon) : NextCanon (execTrap a s) := by
  refine .kernel ok fun _ _ h => ?_
  split
  · exact h.fault
  · exact h.next

theorem nextCanon_execLd {a : KInstr} {s : State} (ok : s.m.Canon) : NextCanon (execLd a s) := by
  refine .kernel ok fun _ _ h => ?_
  dsimp only
  split
  · exact h.memFault
  · exact .ite h h.loadLanes.next

theorem nextCanon_execSt {a : KInstr} {s : State} (ok : s.m.Canon) : NextCanon (execSt a s) := by
  refine .kernel ok fun _ _ h => ?_
  dsimp only
  split
  · exact h.memFault
  · exact h.updCore.next

theorem nextCanon_execCacheDead {a : KInstr} {s : State} (ok : s.m.Canon) : NextCanon (execCacheDead a s) := by
  refine .kernel ok fun _ _ h => ?_
  dsimp only
  split
  · exact .ite h.fault h.memFault
  · exact h.updCore.next

theorem nextCanon_execKeyedOpArrival {a : CabNth} {s : State} (ok : s.m.Canon) : NextCanon (execKeyedOpArrival a s) := by
  refine .onStack ok fun _ _ h => ?_
  split
  · exact h.keyedArrive
  · exact h

theorem nextCanon_execAccessAtHome {a : HomeReq} {s : State} (ok : s.m.Canon) : NextCanon (execAccessAtHome a s) := by
  unfold execAccessAtHome
  split
  · exact .onStack ok fun _ _ h => h.storeHome
  · exact .onMach ok fun _ _ h => h.accessHome

theorem nextCanon_execLinkTrainingDone {a : TrainResult} {s : State} (ok : s.m.Canon) : NextCanon (execLinkTrainingDone a s) := by
  refine .onStack ok fun _ _ h => ?_
  split
  · exact .ite h.trainDone h
  · exact .ite h.bridgeTrained h

theorem nextCanon_execPeerSignalLoss {a : AtLink} {s : State} (ok : s.m.Canon) : NextCanon (execPeerSignalLoss a s) := by
  refine .onStack ok fun _ _ h => ?_
  dsimp only
  split
  · exact .ite h.linkDown h
  · exact .ite h.bridgeState h

theorem nextCanon_execRetrainDone {a : TrainResult} {s : State} (ok : s.m.Canon) : NextCanon (execRetrainDone a s) := by
  refine .onStack ok fun _ _ h => ?_
  split
  · exact .ite h.trainDone h
  · exact .ite h.bridgeTrained.bumpF h

theorem nextCanon_execPatternTestDone {a : PatternResult} {s : State} (ok : s.m.Canon) : NextCanon (execPatternTestDone a s) := by
  refine .onStack ok fun _ m h => ?_
  extract_lets n s l on m1 m2 m3 pay
  have counted : m1.Canon := h.foldl fun _ _ h => .ite h.bumpF h
  refine .ite h ?_
  split
  · exact counted
  · exact .srcEdge (.completeDeferred (.ite counted.setF.setF.patRelease.release counted.setF.setF.patRelease))

theorem nextCanon_execMarginScanDone {a : MarginResult} {s : State} (ok : s.m.Canon) : NextCanon (execMarginScanDone a s) := by
  refine .onStack ok fun _ m h => ?_
  dsimp only
  split
  · exact h
  · refine .srcEdge (.completeDeferred (.setF (.setF (.setF (.setF (.setF (.setF ?_)))))))
    exact .ite h.updLnk.patRelease.release h.updLnk.patRelease

theorem nextCanon_execAdcSample {a : AdcSample} {s : State} (ok : s.m.Canon) : NextCanon (execAdcSample a s) := by
  refine .onStack ok fun _ _ h => ?_
  split
  · exact h.chSample
  · exact h.railSample

theorem nextCanon_execLicInstall {s : State} (ok : s.m.Canon) : NextCanon (execLicInstall s) := by
  refine .shoser ok fun _ _ _ h => ?_
  dsimp only
  split
  · exact h.logLicence
  · exact .iteReply (.logLicence (h.onStacks fun _ _ h' => h'.bumpF)) h.defer

theorem nextCanon_execLicRemove {s : State} (ok : s.m.Canon) : NextCanon (execLicRemove s) := by
  refine .shoser ok fun _ _ _ h => ?_
  dsimp only
  split
  · exact h.logLicence
  · exact .iteReply h.logLicence h.defer

theorem nextCanon_execFwWrite {s : State} (ok : s.m.Canon) : NextCanon (execFwWrite s) := by
  refine .shoser ok fun _ _ _ h => ?_
  dsimp only
  split
  · exact h.noLogged
  · exact h.defer

theorem nextCanon_execFwActivate {s : State} (ok : s.m.Canon) : NextCanon (execFwActivate s) := by
  refine .shoser ok fun _ _ _ h => ?_
  dsimp only
  split
  · exact h.noLogged
  · split
    · exact h.noLogged
    · exact h.same.okLogged

theorem nextCanon_execPlanAbort {s : State} (ok : s.m.Canon) : NextCanon (execPlanAbort s) := by
  refine .shoser ok fun _ _ _ h => ?_
  dsimp only
  split
  · exact h.noLogged
  · exact .okLogged (h.endPlan.foldl fun _ _ h' => h'.logRegs)

theorem nextCanon_execSeqFork {s : State} (ok : s.m.Canon) : NextCanon (execSeqFork s) := by
  refine .shoser ok fun _ _ _ h => ?_
  dsimp only
  split
  · exact h.noLogged
  · refine h.pagesDone (.seqFailed ?_)
    split
    · exact h.fork
    · exact h

theorem nextCanon_execSeqFree {s : State} (ok : s.m.Canon) : NextCanon (execSeqFree s) := by
  refine .shoser ok fun _ _ _ h => ?_
  dsimp only
  split
  · exact h.noLogged
  · exact .iteReply h.updTwin.okLogged (.iteReply (h.pagesDone h.freeSeq) h.noLogged)

theorem nextCanon_execSeqTrunc {s : State} (ok : s.m.Canon) : NextCanon (execSeqTrunc s) := by
  refine .shoser ok fun _ _ _ h => ?_
  dsimp only
  split
  · exact h.noLogged
  · refine h.pagesDone (.seqFailed ?_)
    split
    · exact h.trunc
    · exact h

theorem nextCanon_execSeqPriority {s : State} (ok : s.m.Canon) : NextCanon (execSeqPriority s) := by
  refine .shoser ok fun _ _ _ h => ?_
  dsimp only
  split
  · exact h.noLogged
  · split
    · exact h.pagesDone h.setPriority
    · exact h.noLogged

theorem nextCanon_execShelfUnpin {s : State} (ok : s.m.Canon) : NextCanon (execShelfUnpin s) := by
  refine .shoser ok fun _ _ _ h => ?_
  dsimp only
  split
  · exact h.noLogged
  · split
    · exact h.noLogged
    · exact h.unpin.okLogged

theorem nextCanon_execBarSync {a : KInstr} {s : State} (ok : s.m.Canon) : NextCanon (execBarSync a s) := by
  refine .kernel ok fun _ _ h => ?_
  dsimp only
  split
  · exact h.fault
  · exact h.fenced fun _ h' => h'.updGroup.updCore

theorem nextCanon_execSignal {a : KInstr} {s : State} (ok : s.m.Canon) : NextCanon (execSignal a s) := by
  refine .kernel ok fun _ _ h => ?_
  dsimp only
  split
  · exact h.next
  · exact .ite h.fault (.ite h.fault h.stage)

theorem nextCanon_execSignalFail {a : KInstr} {s : State} (ok : s.m.Canon) : NextCanon (execSignalFail a s) := by
  refine .kernel ok fun _ _ h => ?_
  dsimp only
  split
  · exact h.next
  · exact .ite h.fault (.ite h.fault h.stage)

theorem nextCanon_execClearFail {a : KInstr} {s : State} (ok : s.m.Canon) : NextCanon (execClearFail a s) := by
  refine .kernel ok fun _ _ h => ?_
  dsimp only
  split
  · exact h.next
  · exact .ite h.fault h.stage

theorem nextCanon_execBar4Read {a : Bar4Read} {s : State} (ok : s.m.Canon) : NextCanon (execBar4Read a s) :=
  .onMach ok fun _ _ h => h.bar4Request

theorem nextCanon_execBar4Write {a : Bar4Write} {s : State} (ok : s.m.Canon) : NextCanon (execBar4Write a s) :=
  .onMach ok fun _ _ h => h.bar4Request

theorem nextCanon_execFlr {s : State} (ok : s.m.Canon) : NextCanon (execFlr s) :=
  .onMach ok fun _ _ h => h.functionReset

theorem nextCanon_execMsixUnmask {a : AtVector} {s : State} (ok : s.m.Canon) : NextCanon (execMsixUnmask a s) := by
  refine .onMach ok fun _ m h => ?_
  extract_lets v host m1 host1
  have opened : m1.Canon := .ite h h.same
  clear_value m1
  exact .ite (Mach.Canon.sendVector opened.same) opened

theorem nextCanon_execIdentify {s : State} (ok : s.m.Canon) : NextCanon (execIdentify s) :=
  .shoser ok fun _ _ _ h => h.identity

theorem nextCanon_execGetState {s : State} (ok : s.m.Canon) : NextCanon (execGetState s) :=
  .shoser ok fun _ _ _ h => h

theorem nextCanon_execGetCoreMap {s : State} (ok : s.m.Canon) : NextCanon (execGetCoreMap s) :=
  .shoser ok fun _ _ _ h => h

theorem nextCanon_execGetTime {s : State} (ok : s.m.Canon) : NextCanon (execGetTime s) :=
  .shoser ok fun _ _ _ h => h

theorem nextCanon_execLicList {s : State} (ok : s.m.Canon) : NextCanon (execLicList s) :=
  .shoser ok fun _ _ _ h => h

theorem nextCanon_execThermalRead {s : State} (ok : s.m.Canon) : NextCanon (execThermalRead s) :=
  .shoser ok fun _ _ _ h => h

theorem nextCanon_execResourceQuery {s : State} (ok : s.m.Canon) : NextCanon (execResourceQuery s) :=
  .shoser ok fun _ _ _ h => h

theorem nextCanon_execPlanStatus {s : State} (ok : s.m.Canon) : NextCanon (execPlanStatus s) :=
  .shoser ok fun _ _ _ h => h

theorem nextCanon_execSetSdid {s : State} (ok : s.m.Canon) : NextCanon (execSetSdid s) :=
  .shoser ok fun _ _ _ h => .iteReply h.logShoser h.setSdid.logRegs

theorem nextCanon_execPlanLoad {s : State} (ok : s.m.Canon) : NextCanon (execPlanLoad s) :=
  .shoser ok fun _ _ _ h => h.planLoad

theorem nextCanon_execPlanStart {s : State} (ok : s.m.Canon) : NextCanon (execPlanStart s) :=
  .shoser ok fun _ _ _ h => h.planStart

theorem nextCanon_execRouteLoad {s : State} (ok : s.m.Canon) : NextCanon (execRouteLoad s) :=
  .shoser ok fun _ _ _ h => h.routeLoad

theorem nextCanon_execSeqCreate {s : State} (ok : s.m.Canon) : NextCanon (execSeqCreate s) :=
  .shoser ok fun _ _ _ h => .iteReply h.noLogged (h.seqDone h.updStk)

theorem nextCanon_execSeqRead {s : State} (ok : s.m.Canon) : NextCanon (execSeqRead s) :=
  .shoser ok fun _ _ _ h => .iteReply h h

theorem nextCanon_execKvPoolCfg {s : State} (ok : s.m.Canon) : NextCanon (execKvPoolCfg s) :=
  .shoser ok fun _ _ _ h => .iteReply h.noLogged (.iteReply h.noLogged (.iteReply h.noLogged h.setPool.logRegs))

theorem nextCanon_execShelfPin {s : State} (ok : s.m.Canon) : NextCanon (execShelfPin s) :=
  .shoser ok fun _ _ _ h => .iteReply h.noLogged h.updCache.logCmd.defer

theorem nextCanon_execPartSet {s : State} (ok : s.m.Canon) : NextCanon (execPartSet s) :=
  .shoser ok fun _ _ _ h => .iteReply h.partStart.logRegs.defer h.setF.setF.noLogged

theorem nextCanon_execScrubRange {s : State} (ok : s.m.Canon) : NextCanon (execScrubRange s) :=
  .shoser ok fun _ _ _ h => h.updInteg.syncScrubs.defer

theorem nextCanon_execTwinPair {s : State} (ok : s.m.Canon) : NextCanon (execTwinPair s) :=
  .shoser ok fun _ _ _ h => .iteReply h.noLogged (.iteReply (.noLogged (.ite h.hello h)) h.pairBegin.logRegs.defer.pairDone)

theorem nextCanon_execTwinUnpair {s : State} (ok : s.m.Canon) : NextCanon (execTwinUnpair s) :=
  .shoser ok fun _ _ _ h => .iteReply h.noLogged (.iteReply h.noLogged (.iteReply h.noLogged h.rejoinSend.unpair.logRegs.okLogged))

theorem nextCanon_execTwinDetach {s : State} (ok : s.m.Canon) : NextCanon (execTwinDetach s) :=
  .shoser ok fun _ _ _ h => .iteReply h.noLogged (.iteReply h.noLogged (.iteReply h.noLogged (.iteReply h.noLogged h.detach.okLogged)))

theorem nextCanon_execTwinRejoin {s : State} (ok : s.m.Canon) : NextCanon (execTwinRejoin s) :=
  .shoser ok fun _ _ _ h => .iteReply h.noLogged (.iteReply h.noLogged (.iteReply h.noLogged h.updTwin.rejoinSend.logCmd.defer.handBack))

theorem nextCanon_execTwinTakeover {s : State} (ok : s.m.Canon) : NextCanon (execTwinTakeover s) :=
  .shoser ok fun _ _ _ h => .iteReply h.noLogged h.takeover.okLogged

theorem nextCanon_execTwinJournalRead {s : State} (ok : s.m.Canon) : NextCanon (execTwinJournalRead s) :=
  .shoser ok fun _ _ _ h => .iteReply h (.iteReply h h.performRead.done)

theorem nextCanon_execPowerStateDevice {s : State} (ok : s.m.Canon) : NextCanon (execPowerStateDevice s) :=
  .shoser ok fun _ _ _ h => .iteReply h (.iteReply h.noLogged (.iteReply h.stopFlush h.logCmd.complete.enterStop))

theorem nextCanon_execPowerStateCores {s : State} (ok : s.m.Canon) : NextCanon (execPowerStateCores s) :=
  .shoser ok fun _ _ _ h => .iteReply h.noLogged (.foldl (h.foldl fun _ _ h' => h'.foldl fun _ _ h'' => .ite h''.requestStop h''.requestWake) fun _ _
    h' => h'.logRegs)

theorem nextCanon_execRtcAlarm {s : State} (ok : s.m.Canon) : NextCanon (execRtcAlarm s) :=
  .shoser ok fun _ _ _ h => .foldl (h.foldl fun _ _ h' => h'.setF) fun _ _ h' => h'.logRegs

theorem nextCanon_execThermalLimits {s : State} (ok : s.m.Canon) : NextCanon (execThermalLimits s) :=
  .shoser ok fun _ _ _ h => h.setF.setF.logRegs.done

theorem nextCanon_execLinkTest {s : State} (ok : s.m.Canon) : NextCanon (execLinkTest s) :=
  .shoser ok fun _ _ _ h => .iteReply h.noLogged (.iteReply h.noLogged (.iteReply h.noLogged (.iteReply h.claimTest.noLogged
    h.claimTest.setF.setF.setF.setF.logRegs.defer)))

theorem nextCanon_execLinkMargin {s : State} (ok : s.m.Canon) : NextCanon (execLinkMargin s) :=
  .shoser ok fun _ _ _ h => .iteReply h.noLogged (.iteReply h.noLogged (.iteReply h.scanStart.noLogged h.scanStart.setF.logRegs.defer))

theorem nextCanon_execLogRead {s : State} (ok : s.m.Canon) : NextCanon (execLogRead s) :=
  .shoser ok fun _ _ _ h => h.updStk

theorem nextCanon_execEventBind {s : State} (ok : s.m.Canon) : NextCanon (execEventBind s) :=
  .shoser ok fun _ _ _ h => h.same.okLogged

theorem nextCanon_execSyncBind {s : State} (ok : s.m.Canon) : NextCanon (execSyncBind s) :=
  .shoser ok fun _ _ _ h => .iteReply h.noLogged h.updStk.fireBinds.okLogged

theorem nextCanon_execVddAonLoss {s : State} (ok : s.m.Canon) : NextCanon (execVddAonLoss s) := by
  refine .onMach ok fun _ m h => ?_
  extract_lets boot m1
  have cold : m1.Canon := h.withBoot.coldReset
  exact cold.onStacks fun _ _ h => h.updStk

theorem nextCanon_execVddAonApply {s : State} (ok : s.m.Canon) : NextCanon (execVddAonApply s) := by
  refine .onMach ok fun _ m h => .ite h ?_
  extract_lets boot m1
  have applied : m1.Canon := h.withBoot
  exact applied.onStacks fun _ _ h => h.setF

theorem nextCanon_execStageStart {a : StageEnd} {s : State} (ok : s.m.Canon) : NextCanon (execStageStart a s) := .onMach ok fun _ _ h => h.stageStart
theorem nextCanon_execWakeStep {a : WakeStep} {s : State} (ok : s.m.Canon) : NextCanon (execWakeStep a s) := .onMach ok fun _ _ h => h.wakeNext

theorem nextCanon_bar0Reg {s : State} {r : RegDef} {l : List Fld} {i : Nat} {w : RegW} (ok : s.m.Canon) :
    NextCanon (onMach s fun fu m => Mach.bar0Reg fu m r l i w) := .onMach ok fun _ _ h => h.bar0Reg

theorem nextCanon_execLdoSet {a : CoreWrite} {s : State} (ok : s.m.Canon) : NextCanon (execLdoSet a s) := by
  refine .onMach ok fun _ m h => ?_
  dsimp only
  exact h.bar0Reg

/-- Whatever the command, the next state keeps the memories in canonical form. -/
theorem nextCanon_exec (c : Instr) (s : State) (ok : s.m.Canon) : NextCanon (exec c s) := by
  cases c with
  | nop => exact .kernel ok fun _ _ h => h.next
  | bra => exact .kernel ok fun _ _ h => .ite h.next (.ite h.updGroup h.diverge)
  | brx => exact nextCanon_execBrx ok
  | exit => exact .kernel ok fun _ _ h => .ite h.updCore.syncLaunch h.updGroup
  | trap => exact nextCanon_execTrap ok
  | iadd | isub | imulLo | imulHiU | imulHiS | idivU | idivS | iremU | iremS | iminS | iminU | imaxS | imaxU | and | or | xor | shl | shrU | shrS =>
    exact .kernel ok fun _ _ h => h.int2
  | fadd | fsub | fmul | ffma | fmin | fmax | hadd2 | hmul2 | hfma2 | hmin2 | hmax2 | ex2 | lg2 | rcp | rsq | sin | cos | imad | mov | sel | pack2 |
  pack4 | s2r | ballot | shfl =>
    exact .kernel ok fun _ _ h => h.writeD
  | not | popc | clz | brev => exact .kernel ok fun _ _ h => h.int1
  | f32S32 | f32U32 | s32F32 | u32F32 | bf16F32 | f32Bf16 | f16F32 | f32F16 | e4m3F32 | e4m3Bf16 | e4m3F16 | e5m2F32 | e5m2Bf16 | f32E4m3 | f32E5m2
  | bf16E4m3 | bf16E5m2 =>
    exact .kernel ok fun _ _ h => h.cvt
  | isetp | fsetp | plop | elect | voteAny | voteAll => exact .kernel ok fun _ _ h => h.writeP
  | ld => exact nextCanon_execLd ok
  | st => exact nextCanon_execSt ok
  | atomAdd | atomMinS | atomMinU | atomMaxS | atomMaxU | atomAnd | atomOr | atomXor | atomXch | atomCas | atomFadd | atomOrd =>
    exact .kernel ok fun _ _ h => h.atomic
  | barSync => exact nextCanon_execBarSync ok
  | waitGe | waitEq => exact .kernel ok fun _ _ h => h.waitObj
  | signal => exact nextCanon_execSignal ok
  | signalFail => exact nextCanon_execSignalFail ok
  | clearFail => exact nextCanon_execClearFail ok
  | fenceCore | fenceStack | fenceSystem => exact .kernel ok fun _ _ h => h.fenced fun _ h' => h'.next
  | cacheDead => exact nextCanon_execCacheDead ok
  | mxLoadw | mxStream | mxDrain => exact .kernel ok fun _ _ h => .ite h (h.solo (fun _ _ h' => h'.mxIssue) fun _ h' => h'.mxNext)
  | mxSwap => exact .kernel ok fun _ _ h => .ite h (.mxNext (h.foldl fun _ _ h' => h'.mxIssue))
  | mxWait | attWait | kvWait => exact .kernel ok fun _ _ h => .ite h.next h.updGroup
  | mxgLoadw | mxgStream | mxgDrain => exact .kernel ok fun _ _ h => h.mxg fun _ _ _ _ h' => h'.mxIssue
  | attBias | attScore | attNorm | attPack => exact .kernel ok fun _ _ h => h.att
  | kvAppend => exact .kernel ok fun _ _ h => h.solo (fun _ _ h' => h'.kvAppend) fun _ h' => h'.next
  | kvGather => exact .kernel ok fun _ _ h => h.solo (fun _ _ h' => h'.kvGather) fun _ h' => h'.next
  | kvFork | kvFree | kvTrunc => exact .kernel ok fun _ _ h => h.solo (fun _ _ h' => h'.kvStage) fun _ h' => h'.next
  | kvHint => exact .kernel ok fun _ _ h => h.solo (fun _ _ h' => h'.send) fun _ h' => h'.next
  | scriptEntryStart => exact .onStack ok fun _ _ h => h.entryStart
  | blockDispatch => exact .onStack ok fun _ _ h => h.blockDispatch
  | scriptEntryEnd => exact .onStack ok fun _ _ h => h.entryEnd
  | loopEnd => exact .onStack ok fun _ _ h => h.loopEnd
  | commit => exact .onStack ok fun _ _ h => h.commit
  | tokenArrival => exact .onStack ok fun _ _ h => .ite h h.wordArrives
  | creditArrival => exact .onStack ok fun _ _ h => .ite h.wordArrives h
  | workUnitReplay => exact .onStack ok fun _ _ h => h.replay
  | coreAbort => exact .onStack ok fun _ _ h => h.coreAbort
  | planComplete => exact .onStack ok fun _ _ h => h.planComplete
  | kernelFault => exact .onStack ok fun _ _ h => h.kernelFault
  | syncSignalArrival => exact .onStack ok fun _ _ h => .ite h h.signalsArrive
  | syncStall => exact .onStack ok fun _ _ h => h.syncStall
  | nearCacheInvalidate => exact .onStack ok fun _ _ h => h.ncInvalidate
  | reshardStart => exact .onStack ok fun _ _ h => h.reshardStart
  | reshardDescriptorDone => exact .onStack ok fun _ _ h => h.reshardDone
  | barrierStall => exact .onStack ok fun _ _ h => h.barrierStall
  | handshakeWatchdog => exact .onStack ok fun _ _ h => h.watchdogTrip
  | atomicAtHome => exact .onStack ok fun _ _ h => h.atomPerform
  | accessAtHome => exact nextCanon_execAccessAtHome ok
  | allocatingAccess => exact .onMach ok fun _ _ h => h.allocating
  | streamingAccess => exact .onMach ok fun _ _ h => h.streaming
  | lineFillDone => exact .onStack ok fun _ _ h => h.fillDone.bar4Drain
  | writebackDone => exact .onStack ok fun _ _ h => h.writebackDone.bar4Drain
  | deadDeclaration => exact .onStack ok fun _ _ h => .ite h h.receive.declareDead
  | thrashWindow => exact .onStack ok fun _ _ h => h.closeWindow.closeWindow
  | partitionChangeDone => exact .onStack ok fun _ _ h => h.partDone
  | shelfPinDone => exact .onStack ok fun _ _ h => h.shelfPinDone
  | mxOpStart => exact .onStack ok fun _ _ h => h.mxStart
  | loadwDone => exact .onStack ok fun _ _ h => h.mxLoad
  | rowRoot => exact .onStack ok fun _ _ h => h.mxRow
  | rowRecompute => exact .onStack ok fun _ _ h => h.mxRecompute
  | streamDone => exact .onStack ok fun _ _ h => h.mxStreamDone
  | drainDone => exact .onStack ok fun _ _ h => h.mxDrain
  | attOpStart => exact .onStack ok fun _ _ h => h.attStart
  | attOpDone => exact .onStack ok fun _ _ h => h.attDone
  | keyedOpArrival => exact nextCanon_execKeyedOpArrival ok
  | appendPerform => exact .onStack ok fun _ _ h => h.journaled fun _ h' => h'.performAppend
  | forkPerform => exact .onStack ok fun _ _ h => h.journaled fun _ h' => h'.performFork
  | freePerform => exact .onStack ok fun _ _ h => h.journaled fun _ h' => h'.performFree
  | truncPerform => exact .onStack ok fun _ _ h => h.journaled fun _ h' => h'.performTrunc
  | hintPerform => exact .onStack ok fun _ _ h => h.journaled fun _ h' => h'.performHint
  | chestWriteDone => exact .onStack ok fun _ _ h => h.updCab
  | gatherDone => exact .onStack ok fun _ _ h => h.journaled fun _ h' => h'.gatherDone
  | chunkReceive => exact .onStack ok fun _ _ h => .ite h.serviceChunk h.chunkReceive
  | writeChunkReceive => exact .onStack ok fun _ _ h => .ite h.serviceChunk h.writeChunk
  | handshakeTimeout => exact .onStack ok fun _ _ h => h.handshakeTimeout
  | skipperTestStart => exact .onStack ok fun _ _ h => h.testStart
  | skipperTestEnd => exact .onStack ok fun _ _ h => h.testEnd.bar0Drain
  | spareMapDone => exact .onStack ok fun _ _ h => h.spareMapDone
  | relocationDone => exact .onStack ok fun _ _ h => h.relocationDone
  | portReset => exact .onStack ok fun _ _ h => h.portReset
  | resyncDone => exact .onStack ok fun _ _ h => h.resyncDone
  | resyncTimeout => exact .onStack ok fun _ _ h => h.resyncTimeout
  | restoration => exact .onStack ok fun _ _ h => h.restoration
  | hawkmothStep => exact .onStack ok fun _ _ h => h.hawkStep
  | scrubRangeDone => exact .onStack ok fun _ _ h => h.scrubDone
  | bureauWatchdogMiss => exact .onStack ok fun _ _ h => h.watchdogMiss
  | bureauRestartDone => exact .onStack ok fun _ _ h => h.restartDone
  | linkTrainingDone => exact nextCanon_execLinkTrainingDone ok
  | peerSignalLoss => exact nextCanon_execPeerSignalLoss ok
  | signalDetectRetry => exact .onStack ok fun _ _ h => .ite h.setF h
  | retrainDone => exact nextCanon_execRetrainDone ok
  | laneWindowEnd => exact .onStack ok fun _ _ h => h.laneWindow
  | idle => exact .onStack ok fun _ _ h => .ite (h.flit fun _ h' => .some h'.logError) (.ite h (.ite h.updLnk h.acked))
  | write => exact .onStack ok fun _ _ h => h.flit fun _ h' => h'.routed fun _ h'' => h''.writeFlit
  | writeAck => exact .onStack ok fun _ _ h => h.flit fun _ h' => h'.routed fun _ h'' => .some h''.writeAck
  | readReq => exact .onStack ok fun _ _ h => h.flit fun _ h' => h'.routed fun _ h'' => h''.readReq
  | readRsp => exact .onStack ok fun _ _ h => h.flit fun _ h' => h'.routed fun _ h'' => h''.readRsp
  | message => exact .onStack ok fun _ _ h => h.flit fun _ h' => h'.routed fun _ h'' => .ite (.none) (.some h''.takeMessage)
  | poison => exact .onStack ok fun _ _ h => h.flit fun _ h' => h'.routed fun _ h'' => .some h''.dropMark.updLinks
  | journal => exact .onStack ok fun _ _ h => h.fromTwin fun _ h' => h'.journalIn
  | heartbeat => exact .onStack ok fun _ _ h => h.fromTwin fun _ h' => .some (.ite h'.heartbeatIn h')
  | planAnnounce => exact .onStack ok fun _ _ h => h.flit fun _ h' => .some h'.updLnk
  | pairHello => exact .onStack ok fun _ _ h => h.flit fun _ h' => .some (.ite h' h'.updTwin.pairDone)
  | controlDetach | controlStop => exact .onStack ok fun _ _ h => h.fromTwin fun _ h' => .some h'.announcedEnd
  | controlConflict => exact .onStack ok fun _ _ h => h.fromTwin fun _ h' => .some h'.conflict
  | controlRejoin => exact .onStack ok fun _ _ h => h.fromTwin fun _ h' => .some h'.rejoinIn
  | heartbeatSend => exact .onStack ok fun _ _ h => h.heartbeatSend
  | heartbeatLoss => exact .onStack ok fun _ _ h => h.heartbeatLoss
  | twinInstall => exact .onStack ok fun _ _ h => h.twinInstall
  | twinInstalled => exact .onStack ok fun _ _ h => .ite h h.installedEvent
  | patternTestDone => exact nextCanon_execPatternTestDone ok
  | marginScanDone => exact nextCanon_execMarginScanDone ok
  | bar4Read => exact nextCanon_execBar4Read ok
  | bar4Write => exact nextCanon_execBar4Write ok
  | flr => exact nextCanon_execFlr ok
  | msixUnmask => exact nextCanon_execMsixUnmask ok
  | movStart => exact .onStack ok fun _ _ h => .ite h.logHost h.movStart.logHost
  | movStop => exact .onStack ok fun _ _ h => .ite h.logHost h.movStop.logHost
  | moverCopy | moverTranspose | moverZero => exact .onStack ok fun _ _ h => h.movFetch
  | moverWaitMet => exact .onStack ok fun _ _ h => .ite h.movStep3 h
  | moverCreditReady => exact .onStack ok fun _ _ h => .ite h.movData h
  | moverWritesDone => exact .onStack ok fun _ _ h => h.movDone
  | refreshDue => exact .onStack ok fun _ _ h => h.refresh
  | periodicRetrain => exact .onStack ok fun _ _ h => h
  | intcSourceEdge => exact .onStack ok fun _ _ h => .ite h.srcEdge h
  | intcClaim => exact .onStack ok fun _ _ h => h.intcClaim.respond
  | intcComplete => exact .onStack ok fun _ _ h => h.intcComplete
  | crossingResync => exact .onStack ok fun _ _ h => h.bumpF.bumpF.bumpF
  | latencyMiss => exact .onStack ok fun _ _ h => .ite h h.bumpF.setF.setF.srcEdge.event
  | mbxDoorbell => exact .onMach ok fun _ _ h => h.doorbell
  | mbxEvtTail => exact .onMach ok fun _ _ h => .ite (.ite h.bar2Write h) h.bar0Reg
  | syncSignal | syncStatus | hostStackSel | cdiePartCfg | cabPoolCfg | cabPoolBase | cabLpCfg | cabLpBase | cabClassCfg | lnkSdid | lnkCtrlRetrain
  | lnkCtrlTest | lnkPatCfg | lnkMarginStart | stopReq | thmChCfg | thmDiag | regGpio | aonRtcAlarm =>
    exact nextCanon_bar0Reg ok
  | ldoSet => exact nextCanon_execLdoSet ok
  | registerWrite => exact .onMach ok fun _ _ h => .ite h.bar2Store h.bar0Write
  | readClear => exact .onMach ok fun _ _ h => .ite h.bar2Read h.bar0Read
  | voutSettled => exact .onStack ok fun _ _ h => h.voutSettled
  | avsTargetFall => exact .onStack ok fun _ _ h => h.avsFall
  | regionAverage => exact .onStack ok fun _ _ h => h.regionAverage
  | coreWake => exact .onStack ok fun _ _ h => h.coreWake
  | wakeWaitEnd => exact .onStack ok fun _ _ h => h.wakeWaitEnd
  | coreWakeDone => exact .onStack ok fun _ _ h => h.coreWakeDone
  | pmbusAlert => exact .onStack ok fun _ _ h => h.pmbusAlert
  | wakeEvent => exact .onMach ok fun _ _ h => h.wakeEvent
  | wakeStep => exact nextCanon_execWakeStep ok
  | adcSample => exact nextCanon_execAdcSample ok
  | diodeRatioCheck => exact .onStack ok fun _ _ h => h.ratioCheck
  | hardwareTrip => exact .onStack ok fun _ _ h => h.trip
  | rtcAlarmFire => exact .onStack ok fun _ _ h => .ite h h.setF.setF.srcEdge
  | perstNAssert | pwrGoodFall => exact .onMach ok fun _ _ h => h.withBoot.coldReset
  | perstNDeassert | pwrGoodRise => exact .onMach ok fun _ _ h => .ite h.withBoot.coldStart h.withBoot
  | stageStart => exact nextCanon_execStageStart ok
  | stageLate => exact .onStack ok fun _ _ h => h.stageLate
  | bootImageBlock => exact .onStack ok fun _ _ h => h.imageBlock
  | stageMessage => exact .onStack ok fun _ _ h => h.stageMessage
  | identify => exact nextCanon_execIdentify ok
  | getState => exact nextCanon_execGetState ok
  | getCoreMap => exact nextCanon_execGetCoreMap ok
  | getTime => exact nextCanon_execGetTime ok
  | licList => exact nextCanon_execLicList ok
  | thermalRead => exact nextCanon_execThermalRead ok
  | resourceQuery => exact nextCanon_execResourceQuery ok
  | planStatus => exact nextCanon_execPlanStatus ok
  | setSdid => exact nextCanon_execSetSdid ok
  | licInstall => exact nextCanon_execLicInstall ok
  | licRemove => exact nextCanon_execLicRemove ok
  | planLoad => exact nextCanon_execPlanLoad ok
  | planStart => exact nextCanon_execPlanStart ok
  | planAbort => exact nextCanon_execPlanAbort ok
  | routeLoad => exact nextCanon_execRouteLoad ok
  | seqCreate => exact nextCanon_execSeqCreate ok
  | seqFork => exact nextCanon_execSeqFork ok
  | seqFree => exact nextCanon_execSeqFree ok
  | seqTrunc => exact nextCanon_execSeqTrunc ok
  | seqPriority => exact nextCanon_execSeqPriority ok
  | seqRead => exact nextCanon_execSeqRead ok
  | kvPoolCfg => exact nextCanon_execKvPoolCfg ok
  | shelfPin => exact nextCanon_execShelfPin ok
  | shelfUnpin => exact nextCanon_execShelfUnpin ok
  | partSet => exact nextCanon_execPartSet ok
  | scrubRange => exact nextCanon_execScrubRange ok
  | twinPair => exact nextCanon_execTwinPair ok
  | twinUnpair => exact nextCanon_execTwinUnpair ok
  | twinDetach => exact nextCanon_execTwinDetach ok
  | twinRejoin => exact nextCanon_execTwinRejoin ok
  | twinTakeover => exact nextCanon_execTwinTakeover ok
  | twinJournalRead => exact nextCanon_execTwinJournalRead ok
  | powerStateDevice => exact nextCanon_execPowerStateDevice ok
  | powerStateCores => exact nextCanon_execPowerStateCores ok
  | rtcAlarm => exact nextCanon_execRtcAlarm ok
  | thermalLimits => exact nextCanon_execThermalLimits ok
  | linkTest => exact nextCanon_execLinkTest ok
  | linkMargin => exact nextCanon_execLinkMargin ok
  | logRead => exact nextCanon_execLogRead ok
  | eventBind => exact nextCanon_execEventBind ok
  | syncBind => exact nextCanon_execSyncBind ok
  | fwWrite => exact nextCanon_execFwWrite ok
  | fwActivate => exact nextCanon_execFwActivate ok
  | pairTimeout => exact .onMach ok fun _ _ h => h.pairTimeout
  | flashWriteDone => exact .onMach ok fun _ _ h => .ite h.flashDone h
  | bureauBridgeMessage => exact .onStack ok fun _ _ h => .ite h h.srcEdge
  | vddAonLoss => exact nextCanon_execVddAonLoss ok
  | vddAonApply => exact nextCanon_execVddAonApply ok
  | i3cPrivateWrite => exact .onStack ok fun _ _ h => .ite h h.withBoot
  | boundaryScanInstruction => exact .onStack ok fun _ _ h => h.withBoot
  | bureauTimerExpiry => exact .onStack ok fun _ _ h => .ite h h.release.srcEdge
  | pcieLinkTrained => exact .onMach ok fun _ _ h => .ite h h.setF.setF.setF.srcEdge
  | requestBufferWrite => exact .onMach ok fun _ _ h => h.requestWrite

/-- A step with no command waiting is an idle one: the clocks run on. -/
theorem nextCanon_step {s : State} (ok : s.m.Canon) : NextCanon (step s) := by
  unfold step
  split
  · intro t e
    cases e
    exact ok.tick
  · exact nextCanon_exec _ _ ok

/-- Settles O59: each command's meaning is put together from operations that keep the canonical form, and an idle step changes no memory. -/
theorem memoriesStayCanonical : Obligations.MemoriesStayCanonical :=
  fun _ _ ok next => nextCanon_step ok _ next

end Sys2Proof.Machine
end

section
/-! SUPPORT. Changes one after another: what the fields set, the changes of a stack and the reports of a command leave together. -/

namespace Sys2Proof.Machine
set_option Elab.async false

/-! ## Changes of a stack -/

/-- Changes that do the same to a stack. -/
theorem Mach.updStk_congr (m : Mach) (u : Nat) (f g : Stack → Stack) (h : f (m.stk u) = g (m.stk u)) : m.updStk u f = m.updStk u g := by
  match u, h with
  | 0, h | 1, h | 2, h | 3, h => simp only [Mach.stk, Quad.get] at h; simp only [Mach.updStk, Quad.modify, h]
  | _ + 4, _ => rfl

/-- A change of a stack that leaves it as it is. -/
theorem Mach.updStk_self (m : Mach) (u : Nat) (f : Stack → Stack) (h : f (m.stk u) = m.stk u) : m.updStk u f = m := by
  refine (m.updStk_congr u f id h).trans ?_
  match u with
  | 0 | 1 | 2 | 3 | _ + 4 => rfl

theorem Mach.updVcp_self (m : Mach) (u : Nat) (f : Vcp → Vcp) (h : f (m.stk u).vcp = (m.stk u).vcp) : m.updVcp u f = m :=
  m.updStk_self u _ (by rw [h])

theorem Mach.bare_updVcp (m : Mach) (u : Nat) (f : Vcp → Vcp) : (m.updVcp u f).bare = m.bare.updVcp u f := by
  match u with
  | 0 | 1 | 2 | 3 | _ + 4 => rfl

theorem Mach.noRegs_updVcp (m : Mach) (u : Nat) (f : Vcp → Vcp) : (m.updVcp u f).noRegs = m.noRegs.updVcp u f := by
  match u with
  | 0 | 1 | 2 | 3 | _ + 4 => rfl

/-- ACTIVE and QUEUED of BUR_SKIPPER_STATUS, as the integrity state g has them. -/
def skipperFields (u : Nat) (g : Integ) : List FieldVal :=
  [(u, Reg.BUR_SKIPPER_STATUS_ACTIVE, 0, g.running.length), (u, Reg.BUR_SKIPPER_STATUS_QUEUED, 0, g.queue.length)]

theorem Mach.updInteg_eq (m : Mach) {u : Nat} (lt : u < 4) (f : Integ → Integ) :
    m.updInteg u f = (m.updStk u (fun k => { k with integ := f k.integ })).setFs (skipperFields u (f (m.stk u).integ)) := by
  have part : ((m.updStk u (fun k => { k with integ := f k.integ })).stk u).integ = f (m.stk u).integ := by rw [Mach.stk_updStk_same _ _ lt]
  simp only [Mach.updInteg, part, skipperFields, Mach.setFs, List.foldl_cons, List.foldl_nil]

/-! ## Fields set after other changes -/

/-- Fields at places of their own, set after others, are added to them. -/
theorem Holds.setFs {s : State} {m : Mach} {fs gs : List FieldVal} (holds : Holds { s with m := m } fs) (different : (placesOf (fs ++ gs)).Nodup)
    (within : ∀ e ∈ gs, e.1 < 4) : Holds { s with m := m.setFs gs } (fs ++ gs) := by
  rw [placesOf, List.map_append] at different
  obtain ⟨-, own, apart⟩ := List.nodup_append.mp different
  intro e mem
  rcases List.mem_append.mp mem with mem | mem
  · refine (Mach.getF_setFs_notListed gs m fun x mx k => ?_).trans (holds e mem)
    exact apart _ (List.mem_map_of_mem mem) _ (List.mem_map_of_mem mx) k.2.symm
  · exact Mach.getF_setFs_listed gs m own within e mem

theorem NotListed.append {fs gs : List FieldVal} {v : Nat} {f : Fld} {j : Nat} (h : NotListed (fs ++ gs) v f j) : NotListed fs v f j ∧ NotListed gs v f j :=
  ⟨fun e mem => h e (List.mem_append_left _ mem), fun e mem => h e (List.mem_append_right _ mem)⟩

/-- A field at none of the places of a list is not listed. -/
theorem NotListed.of_place {fs : List FieldVal} {f : Fld} {j : Nat} (v : Nat) (h : f.key j ∉ placesOf fs) : NotListed fs v f j :=
  fun _ mem k => h (k.2 ▸ List.mem_map_of_mem mem)

namespace Sets
variable {s : State} {m n : Mach} {fs gs : List FieldVal} {g : Mach → Mach}

theorem refl (s : State) : Sets s s [] := ⟨rfl, rfl, rfl, fun _ h => (by cases h), fun _ _ _ _ => rfl⟩

theorem andSetFs (e : Sets s { s with m := m } fs g) (different : (placesOf (fs ++ gs)).Nodup) (within : ∀ e ∈ gs, e.1 < 4) :
    Sets s { s with m := m.setFs gs } (fs ++ gs) g := by
  obtain ⟨-, -, rest, holds, regs⟩ := e
  exact ⟨rfl, rfl, (Mach.noRegs_setFs gs m).trans rest, holds.setFs different within,
    fun v f j l => (Mach.getF_setFs_notListed gs m l.append.2).trans (regs v f j l.append.1)⟩

/-- A change of what is no register comes after the others. -/
theorem andChange (e : Sets s { s with m := m } fs g) {h : Mach → Mach} (same : SameFields m n) (rest : n.noRegs = h (g s.m.noRegs)) :
    Sets s { s with m := n } fs (fun x => h (g x)) := by
  obtain ⟨-, -, -, holds, regs⟩ := e
  exact ⟨rfl, rfl, rest, fun x mem => (same _ _ _).trans (holds x mem), fun v f j l => (same _ _ _).trans (regs v f j l)⟩

/-- The order in which fields are listed says nothing. -/
theorem relist {t : State} (e : Sets s t fs g) (h : ∀ x, x ∈ gs ↔ x ∈ fs) : Sets s t gs g := by
  obtain ⟨fuse, pending, rest, holds, regs⟩ := e
  exact ⟨fuse, pending, rest, fun x mem => holds x ((h x).mp mem), fun v f j l => regs v f j fun x mem => l x ((h x).mpr mem)⟩

end Sets

namespace Ends
variable {s : State} {m n : Mach} {fs gs : List FieldVal} {g : Mach → Mach}

theorem andSetFs (e : Ends s { s with m := m } fs g) (different : (placesOf (fs ++ gs)).Nodup) (within : ∀ e ∈ gs, e.1 < 4) :
    Ends s { s with m := m.setFs gs } (fs ++ gs) g := by
  obtain ⟨-, -, rest, holds, low, regs⟩ := e
  exact ⟨rfl, rfl, (Mach.bare_setFs gs m).trans rest, holds.setFs different within, fun a l => by rw [← low a l, Mach.setFs_host],
    fun v f j p l => (Mach.getF_setFs_notListed gs m l.append.2).trans (regs v f j p l.append.1)⟩

/-- What the fields listed and the reports leave of a register. -/
theorem getF (e : Ends s { s with m := m } fs g) (v : Nat) {f : Fld} {j : Nat} (place : reportPlace (f.key j) = false) (h : f.key j ∉ placesOf fs) :
    m.getF v f j = s.m.getF v f j := by
  obtain ⟨-, -, -, -, -, regs⟩ := e
  exact regs v f j place (NotListed.of_place v h)

theorem relist {t : State} (e : Ends s t fs g) (h : ∀ x, x ∈ gs ↔ x ∈ fs) : Ends s t gs g := by
  obtain ⟨fuse, pending, rest, holds, low, regs⟩ := e
  exact ⟨fuse, pending, rest, fun x mem => holds x ((h x).mp mem), low, fun v f j p l => regs v f j p fun x mem => l x ((h x).mpr mem)⟩

end Ends

end Sys2Proof.Machine
end

section
/-! SUPPORT. Port resets from the command to the end of the reset (R301, R302). -/

namespace Sys2Proof.Machine
set_option Elab.async false

/-! ## PORT_RESET -/

/-- The fields with which a port reset begins. -/
def resetFields (s : State) (u : Nat) : List FieldVal := [up s u Reg.VCP_RESET_STATUS_RESETS, (u, Reg.VCP_RESET_STATUS_IN_RESET, 0, 1)]

/-- The coupler tests of those that run. -/
def couplerTests (g : Integ) : List SkTest := g.running.filter (fun t => t.kind = 2)

/-- The integrity state with the tests of l, which no longer run, queued again before those that wait. -/
def requeue (l : List SkTest) (g : Integ) : Integ := { g with running := g.running.filter (fun t => t.kind ≠ 2), queue := l ++ g.queue }

/-- The machine once its reset is begun and the reads on their way are lost. -/
def Mach.resetBegun (m : Mach) (u : Nat) (lost : List (Nat × Nat × List PByte)) : Mach :=
  (((m.bumpF u Reg.VCP_RESET_STATUS_RESETS).setF u Reg.VCP_RESET_STATUS_IN_RESET 1).updVcp u (fun v => { v with
    resync := m.groupsInService u, resetAt := m.now u })).arrive u lost

theorem Mach.resetBegun_stk (m : Mach) {u : Nat} (lt : u < 4) (lost : List (Nat × Nat × List PByte)) :
    ((m.resetBegun u lost).stk u).integ = (m.stk u).integ ∧ ((m.resetBegun u lost).stk u).vcp.resync = m.groupsInService u := by
  simp only [Mach.resetBegun, Mach.arrive, Mach.updVcp, Mach.bumpF, Mach.setF, Mach.stk_updStk_same _ _ lt, and_self]

theorem Mach.vcp_updInteg (m : Mach) {u : Nat} (lt : u < 4) (f : Integ → Integ) : ((m.updInteg u f).stk u).vcp = (m.stk u).vcp := by
  simp only [Mach.updInteg, Mach.setF, Mach.stk_updStk_same _ _ lt]

theorem Mach.integ_updInteg (m : Mach) {u : Nat} (lt : u < 4) (f : Integ → Integ) : ((m.updInteg u f).stk u).integ = f (m.stk u).integ := by
  simp only [Mach.updInteg, Mach.setF, Mach.stk_updStk_same _ _ lt]

/-- A reset goes on while a group is awaited. -/
theorem Mach.resetSettle_awaiting {m : Mach} {u : Nat} (n : Nat) (h : (m.stk u).vcp.resync ≠ []) : m.resetSettle n u = m := if_neg h

/-- With no write on its way, a port reset loses reads and queues coupler tests again. -/
theorem Mach.portReset_eq (m : Mach) {n u : Nat} (lt : u < 4) (reads : List (Nat × Nat)) (still : ∀ v, v < n → m.writesOnWay u v = [])
    (written : (m.stk u).vcp.unwritten = []) (busy : m.groupsInService u ≠ []) :
    m.portReset n u reads =
      (m.resetBegun u (reads.map (fun r => lostGranule r.1 (r.2 / 8 * 8))).eraseDups).updInteg u (requeue (couplerTests (m.stk u).integ)) := by
  generalize lost : (reads.map (fun r => lostGranule r.1 (r.2 / 8 * 8))).eraseDups = l
  obtain ⟨integ, resync⟩ := m.resetBegun_stk lt l
  unfold Mach.portReset
  dsimp only
  rw [lost, written, List.foldl_nil, Mach.onStacks, foldl_fixed _ _ _ fun v mem => by rw [still v (List.mem_range.mp mem), List.foldl_nil]]
  refine (Mach.resetSettle_awaiting n ?_).trans ?_
  · rw [Mach.vcp_updInteg _ lt]
    exact fun e => busy (resync.symm.trans e)
  · exact congrArg (fun g => (m.resetBegun u l).updInteg u (requeue (couplerTests g))) integ

/-- What a port reset changes of m beside its registers: groups awaited from a time on, granules lost, tests queued again. -/
def Mach.resetLeaves (u : Nat) (lost : List (Nat × Nat × List PByte)) (groups : List Nat) (since : Nat) (l : List SkTest) (m : Mach) : Mach :=
  (m.arrive u lost).updStk u (fun k => { k with vcp := { k.vcp with resync := groups, resetAt := since }, integ := requeue l k.integ })

theorem Mach.noRegs_resetBegun (m : Mach) (u : Nat) (lost : List (Nat × Nat × List PByte)) (l : List SkTest) :
    ((m.resetBegun u lost).updStk u (fun k => { k with integ := requeue l k.integ })).noRegs =
      Mach.resetLeaves u lost (m.groupsInService u) (m.now u) l m.noRegs := by
  unfold Mach.resetBegun
  generalize m.groupsInService u = groups, m.now u = time
  match u with
  | 0 | 1 | 2 | 3 | _ + 4 => rfl

theorem portReset_runs {s : State} {u : StackNo} (lt : u.val < s.fuse.part.stackCount) (reads : List (PhysId × BitVec 52)) :
    exec (.portReset ⟨u, reads⟩) s = .next { s with m := s.m.portReset s.fuse.part.stackCount u (reads.map (fun r => (r.1.val, r.2.toNat))) } := by
  have arm : exec (.portReset ⟨u, reads⟩) s = execPortReset ⟨u, reads⟩ s := by rfl
  rw [arm, execPortReset, onStack_in _ lt]

theorem portReset_lands {s : State} {u : StackNo} (lt : u.val < s.fuse.part.stackCount) (reads : List (PhysId × BitVec 52))
    (still : ∀ v, v < s.fuse.part.stackCount → s.m.writesOnWay u v = []) (written : (s.m.stk u).vcp.unwritten = []) (busy : s.m.groupsInService u ≠ []) :
    let g0 := (s.m.stk u).integ
    let back := g0.running.filter (fun t => t.kind = 2)
    Lands (.portReset ⟨u, reads⟩) s (fun t => Sets s t [up s u Reg.VCP_RESET_STATUS_RESETS, (u.val, Reg.VCP_RESET_STATUS_IN_RESET, 0, 1),
        (u.val, Reg.BUR_SKIPPER_STATUS_ACTIVE, 0, (g0.running.filter (fun t => t.kind ≠ 2)).length),
        (u.val, Reg.BUR_SKIPPER_STATUS_QUEUED, 0, (back ++ g0.queue).length)]
      (fun m => (m.arrive u (reads.map (fun r => lostGranule r.1 (r.2.toNat / 8 * 8))).eraseDups).updStk u (fun k => { k with
        vcp := { k.vcp with
          resync := s.m.groupsInService u
          resetAt := s.m.now u }
        integ := { k.integ with running := k.integ.running.filter (fun t => t.kind ≠ 2), queue := back ++ k.integ.queue } }))) := by
  intro g0 back
  let lost := (reads.map (fun r => lostGranule r.1 (r.2.toNat / 8 * 8))).eraseDups
  have places : (placesOf (resetFields s u ++ skipperFields u (requeue back g0))).Nodup := by
    show [Reg.VCP_RESET_STATUS_RESETS.key 0, Reg.VCP_RESET_STATUS_IN_RESET.key 0, Reg.BUR_SKIPPER_STATUS_ACTIVE.key 0,
      Reg.BUR_SKIPPER_STATUS_QUEUED.key 0].Nodup
    decide
  refine ⟨_, portReset_runs lt reads, ?_⟩
  rw [Mach.portReset_eq s.m u.isLt _ still written busy, List.map_map, Mach.updInteg_eq _ u.isLt, (s.m.resetBegun_stk u.isLt _).1]
  have begun : Sets s { s with m := s.m.setFs (resetFields s u) } (resetFields s u) :=
    (Sets.refl s).andSetFs (gs := resetFields s u) places.of_append_left (by simp [resetFields])
  have changed := begun.andChange (h := Mach.resetLeaves u lost (s.m.groupsInService u) (s.m.now u) back)
    (n := (s.m.resetBegun u lost).updStk u (fun k => { k with integ := requeue back k.integ }))
    (fun v f j => by rw [Mach.getF_updStk _ _ _ _ _ _ rfl, Mach.resetBegun, Mach.arrive, Mach.getF_updVcp, Mach.getF_updVcp]; rfl)
    (s.m.noRegs_resetBegun u lost back)
  exact changed.andSetFs (gs := skipperFields u (requeue back g0)) places (by simp [skipperFields])

/-! ## RESYNC_DONE and RESYNC_TIMEOUT -/

/-- With no access held, the end of a test has nothing to go on with. -/
theorem Mach.runTested_idle (m : Mach) (n u : Nat) (held : (m.stk u).integ.held = []) (window : m.host.bar4 = []) : m.runTested n u = m := by
  have same : m.updStk u (fun k => { k with integ := { k.integ with held := [] } }) = m := m.updStk_self u _ (by rw [← held])
  rw [Mach.runTested, same, held, Mach.runHeld, List.foldl_nil, Mach.bar4Drain, window, List.length_nil, Mach.bar4Run]

/-- The fields that the end of a reset sets once no group is awaited. -/
def settleFields (u : Nat) (awaited : List Nat) (took : Nat) : List FieldVal :=
  if awaited = [] then [(u, Reg.VCP_RESET_STATUS_IN_RESET, 0, 0), (u, Reg.VCP_RESET_STATUS_LAST_US, 0, took / 1000)] else []

theorem Mach.resetSettle_eq (m : Mach) (n : Nat) {u : Nat} (lt : u < 4) (held : (m.stk u).integ.held = []) (window : m.host.bar4 = []) :
    m.resetSettle n u = m.setFs (settleFields u (m.stk u).vcp.resync (m.now u - (m.stk u).vcp.resetAt)) := by
  unfold Mach.resetSettle settleFields
  split
  · refine Mach.runTested_idle _ n u ?_ window
    simp only [Mach.setF, Mach.stk_updStk_same _ _ lt, held]
  · rfl

/-- The groups of l awaited. -/
def awaiting (l : List Nat) (v : Vcp) : Vcp := { v with resync := l }

/-- The groups that stack u awaits but group i. -/
def Mach.stillAwaited (m : Mach) (u i : Nat) : List Nat := (m.stk u).vcp.resync.filter (fun j => j ≠ i)

theorem Mach.stopAwaiting (m : Mach) (u i : Nat) :
    m.updVcp u (fun v => { v with resync := v.resync.filter (· ≠ i) }) = m.updVcp u (awaiting (m.stillAwaited u i)) :=
  m.updStk_congr u _ _ rfl

theorem settlePlaces (u : Nat) (awaited : List Nat) (took : Nat) (g : Integ) : (placesOf (skipperFields u g ++ settleFields u awaited took)).Nodup := by
  unfold settleFields
  split
  · show [Reg.BUR_SKIPPER_STATUS_ACTIVE.key 0, Reg.BUR_SKIPPER_STATUS_QUEUED.key 0, Reg.VCP_RESET_STATUS_IN_RESET.key 0, Reg.VCP_RESET_STATUS_LAST_US.key 0].Nodup
    decide
  · show [Reg.BUR_SKIPPER_STATUS_ACTIVE.key 0, Reg.BUR_SKIPPER_STATUS_QUEUED.key 0].Nodup
    decide

theorem settleFields_stack {u : Nat} (awaited : List Nat) (took : Nat) (lt : u < 4) : ∀ e ∈ settleFields u awaited took, e.1 < 4 := by
  unfold settleFields
  split <;> simp [lt]

theorem resyncDone_runs {s : State} {u : StackNo} (lt : u.val < s.fuse.part.stackCount) (p : PhysId) (g : Fin 32) :
    exec (.resyncDone ⟨u, p, g⟩) s = .next { s with m := s.m.resyncDone s.fuse.part.stackCount u p g } := by
  have arm : exec (.resyncDone ⟨u, p, g⟩) s = execResyncDone ⟨u, p, g⟩ s := by rfl
  rw [arm, execResyncDone, onStack_in _ lt]

theorem resyncTimeout_runs {s : State} {u : StackNo} (lt : u.val < s.fuse.part.stackCount) (p : PhysId) (g : Fin 32) :
    exec (.resyncTimeout ⟨u, p, g⟩) s = .next { s with m := s.m.resyncTimeout s.fuse.part.stackCount u p g } := by
  have arm : exec (.resyncTimeout ⟨u, p, g⟩) s = execResyncTimeout ⟨u, p, g⟩ s := by rfl
  rw [arm, execResyncTimeout, onStack_in _ lt]

/-- The end of a reset that group i was awaited for, on machine m. -/
def Mach.settled (m : Mach) (u i : Nat) : List FieldVal :=
  settleFields u (m.stillAwaited u i) (m.now u - (m.stk u).vcp.resetAt)

theorem Mach.resyncDone_eq (m : Mach) (n : Nat) {u p g i : Nat} (lt : u < 4) (index : groupIndex p g = i) (held : (m.stk u).integ.held = [])
    (window : m.host.bar4 = []) (reset : m.getB u Reg.VCP_RESET_STATUS_IN_RESET = true) :
    m.resyncDone n u p g = (m.updVcp u (awaiting (m.stillAwaited u i))).setFs (m.settled u i) := by
  have off : (m.updVcp u (awaiting (m.stillAwaited u i))).stk u = { m.stk u with vcp := awaiting (m.stillAwaited u i) (m.stk u).vcp } :=
    Mach.stk_updStk_same _ _ lt
  rw [Mach.resyncDone, if_pos reset, index, Mach.stopAwaiting]
  refine (Mach.resetSettle_eq (m.updVcp u _) _ lt (by rw [off]; exact held) window).trans ?_
  rw [off, Mach.now, Mach.getF_updVcp]
  rfl

theorem resyncDone_sets {s : State} {u : StackNo} (lt : u.val < s.fuse.part.stackCount) (p : PhysId) (g : Fin 32) (held : (s.m.stk u).integ.held = [])
    (window : s.m.host.bar4 = []) (reset : s.m.getB u Reg.VCP_RESET_STATUS_IN_RESET = true) :
    Lands (.resyncDone ⟨u, p, g⟩) s (fun t => Sets s t (s.m.settled u (groupIndex p g))
      (fun m => m.updVcp u (awaiting (s.m.stillAwaited u (groupIndex p g))))) := by
  refine ⟨_, resyncDone_runs lt p g, ?_⟩
  rw [Mach.resyncDone_eq s.m _ u.isLt rfl held window reset]
  have changed := (Sets.refl s).andChange (h := fun m => m.updVcp u (awaiting (s.m.stillAwaited u (groupIndex p g))))
    (fun v f j => Mach.getF_updVcp s.m u v _ f j) (Mach.noRegs_updVcp s.m u _)
  exact changed.andSetFs ((settlePlaces u _ _ (s.m.stk u).integ).sublist ((List.sublist_append_right _ _).map _)) (settleFields_stack _ _ u.isLt)

/-- A test queued last. -/
def queued (t : SkTest) (g : Integ) : Integ := { g with queue := g.queue ++ [t] }

theorem Mach.detect_new {m : Mach} {u kind index : Nat} (runs : (m.stk u).integ.running.any (fun t => t.kind = kind && t.index = index) = false)
    (waits : (m.stk u).integ.queue.any (fun t => t.kind = kind && t.index = index) = false) (room : (m.stk u).integ.queue.length < 1024) :
    m.detect u kind index = m.updInteg u (queued ⟨kind, index, 0⟩) := by
  unfold Mach.detect
  dsimp only
  rw [runs, waits, if_neg (by decide), if_neg (by omega)]
  rfl

theorem skipperFields_queued (u : Nat) (t : SkTest) (g : Integ) : skipperFields u (queued t g) =
    [(u, Reg.BUR_SKIPPER_STATUS_ACTIVE, 0, g.running.length), (u, Reg.BUR_SKIPPER_STATUS_QUEUED, 0, g.queue.length + 1)] := by
  rw [skipperFields, queued, List.length_append, List.length_singleton]

/-- What RESYNC_TIMEOUT of group i leaves beside the registers. -/
def Mach.timedOut (m : Mach) (u i : Nat) (left : List Nat) : Mach :=
  m.updStk u (fun k => { k with vcp := awaiting left k.vcp, integ := queued ⟨2, i, 0⟩ k.integ })

theorem Mach.noRegs_timedOut (m : Mach) (u i : Nat) (left : List Nat) :
    ((m.updVcp u (awaiting left)).updStk u (fun k => { k with integ := queued ⟨2, i, 0⟩ k.integ })).noRegs = m.noRegs.timedOut u i left := by
  match u with
  | 0 | 1 | 2 | 3 | _ + 4 => rfl

theorem Mach.resyncTimeout_eq (m : Mach) (n : Nat) {u p g i : Nat} (lt : u < 4) (index : groupIndex p g = i) (held : (m.stk u).integ.held = [])
    (window : m.host.bar4 = []) (awaited : (m.stk u).vcp.resync.contains i = true)
    (runs : (m.stk u).integ.running.any (fun t => t.kind = 2 && t.index = i) = false)
    (waits : (m.stk u).integ.queue.any (fun t => t.kind = 2 && t.index = i) = false) (room : (m.stk u).integ.queue.length < 1024) :
    m.resyncTimeout n u p g = (((m.updVcp u (awaiting (m.stillAwaited u i))).updStk u (fun k => { k with integ := queued ⟨2, i, 0⟩ k.integ })).setFs
      (skipperFields u (queued ⟨2, i, 0⟩ (m.stk u).integ))).setFs (m.settled u i) := by
  have off : (m.updVcp u (awaiting (m.stillAwaited u i))).stk u = { m.stk u with vcp := awaiting (m.stillAwaited u i) (m.stk u).vcp } := Mach.stk_updStk_same _ _ lt
  have untouched : ∀ x ∈ placesOf (skipperFields u (queued ⟨2, i, 0⟩ (m.stk u).integ)), Reg.AON_TIMESTAMP_NS.key 0 ≠ x := by
    show ∀ x ∈ [Reg.BUR_SKIPPER_STATUS_ACTIVE.key 0, Reg.BUR_SKIPPER_STATUS_QUEUED.key 0], _
    decide
  have detected : (m.updVcp u (awaiting (m.stillAwaited u i))).detect u 2 i = (m.updVcp u (awaiting (m.stillAwaited u i))).updInteg u (queued ⟨2, i, 0⟩) :=
    Mach.detect_new (by rw [off]; exact runs) (by rw [off]; exact waits) (by rw [off]; exact room)
  have written := (m.updVcp u (awaiting (m.stillAwaited u i))).updInteg_eq lt (queued ⟨2, i, 0⟩)
  have integ := (m.updVcp u (awaiting (m.stillAwaited u i))).integ_updInteg lt (queued ⟨2, i, 0⟩)
  have vcp := (m.updVcp u (awaiting (m.stillAwaited u i))).vcp_updInteg lt (queued ⟨2, i, 0⟩)
  have time : ((m.updVcp u (awaiting (m.stillAwaited u i))).updInteg u (queued ⟨2, i, 0⟩)).now u = m.now u := by
    rw [written, off, Mach.now, Mach.getF_setFs_notListed _ _ (NotListed.of_place u fun mem => untouched _ mem rfl), Mach.getF_updStk _ _ _ _ _ _ rfl, Mach.getF_updVcp]
    rfl
  rw [off] at integ vcp written
  rw [Mach.resyncTimeout, index, if_pos awaited, Mach.stopAwaiting]
  refine Eq.trans ?_ (congrArg (fun x => x.setFs (m.settled u i)) written)
  refine (congrArg (fun x => x.resetSettle n u) detected).trans
    ((Mach.resetSettle_eq ((m.updVcp u (awaiting (m.stillAwaited u i))).updInteg u _) n lt ?_ window).trans ?_)
  · rw [integ]; exact held
  · rw [vcp, time]; rfl

theorem resyncTimeout_sets {s : State} {u : StackNo} (lt : u.val < s.fuse.part.stackCount) (p : PhysId) (g : Fin 32) (held : (s.m.stk u).integ.held = [])
    (window : s.m.host.bar4 = []) (awaited : (s.m.stk u).vcp.resync.contains (groupIndex p g) = true)
    (runs : (s.m.stk u).integ.running.any (fun t => t.kind = 2 && t.index = groupIndex p g) = false)
    (waits : (s.m.stk u).integ.queue.any (fun t => t.kind = 2 && t.index = groupIndex p g) = false) (room : (s.m.stk u).integ.queue.length < 1024) :
    Lands (.resyncTimeout ⟨u, p, g⟩) s (fun t => Sets s t (s.m.settled u (groupIndex p g) ++
        [(u.val, Reg.BUR_SKIPPER_STATUS_ACTIVE, 0, (s.m.stk u).integ.running.length),
         (u.val, Reg.BUR_SKIPPER_STATUS_QUEUED, 0, (s.m.stk u).integ.queue.length + 1)])
      (fun m => m.timedOut u (groupIndex p g) (s.m.stillAwaited u (groupIndex p g)))) := by
  refine ⟨_, resyncTimeout_runs lt p g, ?_⟩
  rw [← skipperFields_queued u ⟨2, groupIndex p g, 0⟩, Mach.resyncTimeout_eq s.m _ u.isLt rfl held window awaited runs waits room]
  generalize groupIndex p g = i
  have changed := (Sets.refl s).andChange (n := (s.m.updVcp u (awaiting (s.m.stillAwaited u i))).updStk u (fun k => { k with integ := queued ⟨2, i, 0⟩ k.integ }))
    (h := fun m => m.timedOut u i (s.m.stillAwaited u i))
    (fun v f j => (Mach.getF_updStk _ _ _ _ _ _ rfl).trans (Mach.getF_updVcp s.m u v _ f j)) (Mach.noRegs_timedOut s.m u i _)
  generalize queued ⟨2, i, 0⟩ (s.m.stk u).integ = q
  have queues := changed.andSetFs (gs := skipperFields u q) ((settlePlaces u [] 0 q).sublist ((List.sublist_append_left _ _).map _)) (by simp [skipperFields])
  refine (queues.andSetFs (settlePlaces u _ _ q) (settleFields_stack _ _ u.isLt)).relist fun x => ?_
  rw [List.mem_append, List.mem_append, List.nil_append]
  exact or_comm

end Sys2Proof.Machine
end

section
/-! SUPPORT. SPARE_MAP_DONE with one failed coupler and a spare for it: the mapping, the event and the group's return to service (R291, R292). -/

namespace Sys2Proof.Machine
set_option Elab.async false

/-! ## Where the fields of a group and of its port are held -/

theorem spareField_key {k : Nat} (lt : k < 4) (i : Nat) : (spareField k).key i = Reg.VCP_GROUP.off i * 64 + (8 + 7 * k) := by
  match k, lt with
  | 0, _ | 1, _ | 2, _ | 3, _ => rfl

theorem spareField_width {k : Nat} (lt : k < 4) : (spareField k).width = 7 := by
  match k, lt with
  | 0, _ | 1, _ | 2, _ | 3, _ => rfl

/-- Registers of groups and ports lie above those of the reset and the event, and below the logs. -/
theorem group_off (i : Nat) : Reg.VCP_GROUP.off i = 0x531_0100 + i / 32 * 0x200 + i % 32 * 8 := rfl
theorem port_off {p : Nat} (lt : p < 864) : Reg.VCP_PORT.off p = 0x531_0000 + p * 0x200 := by
  simp only [RegDef.off, Reg.VCP_PORT, Nat.mod_eq_of_lt lt, Nat.mul_zero, Nat.add_zero]

/-! ## The spare chosen -/

/-- One element more passes a filter that differs from another at it alone. -/
theorem length_filter_flip {l : List Nat} {a b : Nat → Bool} {k : Nat} (different : l.Nodup) (mem : k ∈ l) (out : a k = false) (inn : b k = true)
    (others : ∀ j ∈ l, j ≠ k → b j = a j) : (l.filter b).length = 1 + (l.filter a).length := by
  induction l with
  | nil => cases mem
  | cons x r ih =>
    obtain ⟨fresh, rest⟩ := List.nodup_cons.mp different
    rcases List.mem_cons.mp mem with rfl | later
    · have same : r.filter b = r.filter a := List.filter_congr fun j mj => others j (List.mem_cons_of_mem _ mj) fun e => fresh (e ▸ mj)
      rw [List.filter_cons_of_pos inn, List.filter_cons_of_neg (by rw [out]; decide), same, List.length_cons, Nat.add_comm]
    · have apart : x ≠ k := fun e => fresh (e ▸ later)
      have others' : ∀ j ∈ r, j ≠ k → b j = a j := fun j mj => others j (List.mem_cons_of_mem _ mj)
      rw [List.filter_cons, List.filter_cons, others x List.mem_cons_self apart]
      split
      · rw [List.length_cons, List.length_cons, ih rest later others']; rfl
      · exact ih rest later others'

theorem Mach.carries_setF (m : Mach) {u k i v : Nat} (lt : u < 4) (k4 : k < 4) (small : v < 128) {j : Nat} (j4 : j < 4) :
    (m.setF u (spareField k) v i).carries u i j = if j = k then v else m.carries u i j := by
  rw [Mach.carries]
  split
  case isTrue same =>
    rw [same, Mach.getF_setF_same _ _ _ _ lt, spareField_width k4, Nat.mod_eq_of_lt (show v < 2 ^ 7 from small)]
  case isFalse apart =>
    refine Mach.getF_setF_key _ _ _ _ _ _ _ _ ?_
    rw [spareField_key k4, spareField_key j4]
    omega

/-- One failed coupler that no spare carries needs one spare: for itself. -/
theorem Mach.needSpare_one (m : Mach) {u i c : Nat} (coupler : c < 84) (bare : ∀ j, j < 4 → m.carries u i j ≠ c) : m.needSpare u i [c] = [c] := by
  have carried : (List.range 4).any (fun k => m.carries u i k = c) = false :=
    List.any_eq_false.mpr fun k mem => by simpa using bare k (List.mem_range.mp mem)
  have sound : ∀ d, (List.range 4).any (fun k => m.carries u i k = d && [c].contains (84 + k)) = false := fun d =>
    List.any_eq_false.mpr fun k _ => by simp; omega
  have only : ∀ d, (((List.range 4).any (fun k => m.carries u i k = d && [c].contains (84 + k))) ||
      ([c].contains d && !(List.range 4).any (fun k => m.carries u i k = d))) = (d == c) := by
    intro d
    by_cases e : d = c
    · subst e; simp only [sound, carried]; simp
    · simp only [sound]; simp [e]
  rw [Mach.needSpare, List.filter_congr fun d _ => only d, List.filter_beq, List.count_eq_one_of_mem List.nodup_range (List.mem_range.mpr coupler)]
  rfl

/-- No spare's own coupler has failed: none is dropped. -/
theorem Mach.dropSpares_none (m : Mach) (u i : Nat) {c : Nat} (coupler : c < 84) : m.dropSpares u i [c] = m := by
  have none : (List.range 4).filter (fun k => [c].contains (84 + k)) = [] :=
    List.filter_eq_nil_iff.mpr fun k _ => by simp; omega
  rw [Mach.dropSpares, none]
  exact m.updVcp_self u _ (by simp)

/-- The fields that a spare k mapped to coupler c of group i sets. -/
def spareFields (m : Mach) (u i k c : Nat) : List FieldVal :=
  [(u, spareField k, i, c), (u, Reg.VCP_GROUP_SPARES_USED, i, 1 + ((List.range 4).filter (fun j => m.carries u i j ≠ 0x7F)).length)]

theorem Mach.mapSpares_one (m : Mach) {u i c k : Nat} {free : List Nat} (lt : u < 4) (coupler : c < 84) (bare : ∀ j, j < 4 → m.carries u i j ≠ c)
    (first : m.freeSpares u i [c] = k :: free) : m.mapSpares u i [c] = m.setFs (spareFields m u i k c) := by
  have chosen : k ∈ m.freeSpares u i [c] := first ▸ List.mem_cons_self
  obtain ⟨here, sound⟩ := List.mem_filter.mp chosen
  have k4 := List.mem_range.mp here
  have unused : m.carries u i k = 0x7F := by simp only [Bool.and_eq_true, decide_eq_true_eq] at sound; exact sound.1.1
  have used : ((List.range 4).filter (fun j => (m.setF u (spareField k) c i).carries u i j ≠ 0x7F)).length =
      1 + ((List.range 4).filter (fun j => m.carries u i j ≠ 0x7F)).length := by
    refine length_filter_flip List.nodup_range here (by rw [unused]; rfl) ?_ fun j mem apart => ?_
    · rw [m.carries_setF lt k4 (by omega) k4, if_pos rfl]
      exact decide_eq_true (by omega)
    · rw [m.carries_setF lt k4 (by omega) (List.mem_range.mp mem), if_neg apart]
  rw [Mach.mapSpares, m.needSpare_one coupler bare, first, m.dropSpares_none u i coupler, List.zip_cons_cons, List.zip_nil_left, List.foldl_cons, List.foldl_nil]
  dsimp only
  rw [used]
  rfl

/-! ## The event, the group's return and the summary -/

/-- VCP_LAST_EVENT of an event of a kind at a coupler, and its count. -/
def eventFields (m : Mach) (u p g coupler kind : Nat) : List FieldVal :=
  [(u, Reg.VCP_LAST_EVENT_POSITION, 0, p), (u, Reg.VCP_LAST_EVENT_GROUP, 0, g), (u, Reg.VCP_LAST_EVENT_COUPLER, 0, coupler),
   (u, Reg.VCP_LAST_EVENT_KIND, 0, kind), (u, Reg.VCP_LAST_EVENT_VALID, 0, 1),
   (u, Reg.VCP_LAST_EVENT_EVENTS, 0, satAdd Reg.VCP_LAST_EVENT_EVENTS.width (m.getF u Reg.VCP_LAST_EVENT_EVENTS) 1)]

theorem Mach.vcpEvent_eq (m : Mach) (u p g coupler kind : Nat) : m.vcpEvent u p g coupler kind = (m.setFs (eventFields m u p g coupler kind)).srcEdge u 5 := by
  have count : ∀ (a b c d e : Nat), (((((m.setF u Reg.VCP_LAST_EVENT_POSITION a).setF u Reg.VCP_LAST_EVENT_GROUP b).setF u Reg.VCP_LAST_EVENT_COUPLER c).setF
      u Reg.VCP_LAST_EVENT_KIND d).setF u Reg.VCP_LAST_EVENT_VALID e).getF u Reg.VCP_LAST_EVENT_EVENTS = m.getF u Reg.VCP_LAST_EVENT_EVENTS := by
    intro a b c d e
    rw [Mach.getF_setF_key _ _ _ _ _ _ _ _ (by decide), Mach.getF_setF_key _ _ _ _ _ _ _ _ (by decide), Mach.getF_setF_key _ _ _ _ _ _ _ _ (by decide),
      Mach.getF_setF_key _ _ _ _ _ _ _ _ (by decide), Mach.getF_setF_key _ _ _ _ _ _ _ _ (by decide)]
  rw [Mach.vcpEvent, Mach.bumpF, count]
  rfl

/-- The field that says that group g of port p is in use, with the group in it. -/
def activeField (m : Mach) (u p g : Nat) : FieldVal :=
  if g < 16 then (u, Reg.VCP_PORT_READ_ACTIVE, p, putBit (m.getF u Reg.VCP_PORT_READ_ACTIVE p) g true)
  else (u, Reg.VCP_PORT_WRITE_ACTIVE, p, putBit (m.getF u Reg.VCP_PORT_WRITE_ACTIVE p) (g - 16) true)

/-- Whether a group of port p is under test, as PORT_TESTING says it. -/
def testingField (m : Mach) (u p : Nat) : FieldVal :=
  (u, Reg.VCP_PORT_TESTING, p, ((List.range 32).any (fun j => m.getB u Reg.VCP_GROUP_TESTING (groupIndex p j))).toNat)

/-- A group that is not retired, of a port that is not, returns to service. -/
theorem Mach.groupBack_eq (m : Mach) {u p g : Nat} (group : m.getB u Reg.VCP_GROUP_RETIRED (groupIndex p g) = false)
    (port : m.getB u Reg.VCP_PORT_RETIRED p = false) (away : Reg.VCP_PORT_READ_ACTIVE.key p ≠ Reg.VCP_GROUP_TESTING.key (groupIndex p g) ∧
      Reg.VCP_PORT_WRITE_ACTIVE.key p ≠ Reg.VCP_GROUP_TESTING.key (groupIndex p g)) :
    m.groupBack u p g = (m.setFs [(u, Reg.VCP_GROUP_TESTING, groupIndex p g, 0), activeField m u p g]).syncTesting u p := by
  have active : (m.setF u Reg.VCP_GROUP_TESTING 0 (groupIndex p g)).setActive u p g true =
      m.setFs [(u, Reg.VCP_GROUP_TESTING, groupIndex p g, 0), activeField m u p g] := by
    rw [Mach.setActive, Mach.getF_setF_key _ _ _ _ _ _ _ _ away.1, Mach.getF_setF_key _ _ _ _ _ _ _ _ away.2]
    simp only [Mach.setFs, List.foldl_cons, List.foldl_nil, activeField]
    split <;> rfl
  rw [Mach.groupBack, if_neg (by rw [group, port]; decide), active]

theorem Mach.syncTesting_eq (m : Mach) (u p : Nat) : m.syncTesting u p = m.setFs [testingField m u p] := rfl

/-- VCP_SUMMARY, as the groups and the ports of m are. -/
def summaryFields (m : Mach) (u : Nat) : List FieldVal :=
  [(u, Reg.VCP_SUMMARY_SPARES_USED, 0, (List.range 27648).foldl (fun x j => x + m.getF u Reg.VCP_GROUP_SPARES_USED j) 0),
   (u, Reg.VCP_SUMMARY_GROUPS_RETIRED, 0,
     ((List.range 27648).filter (fun j => m.getB u Reg.VCP_GROUP_RETIRED j && !m.getB u Reg.VCP_PORT_RETIRED (j / 32))).length),
   (u, Reg.VCP_SUMMARY_PORTS_RETIRED, 0, ((List.range 864).filter (fun q => m.getB u Reg.VCP_PORT_RETIRED q)).length)]

theorem Mach.syncVcp_eq (m : Mach) (u : Nat) : m.syncVcp u = m.setFs (summaryFields m u) := by
  rw [Mach.syncVcp, summaryFields, Mach.setFs, List.foldl_cons, List.foldl_cons, List.foldl_cons, List.foldl_nil]

/-- The summary is no register of a group or a port. -/
theorem Mach.getF_syncVcp (m : Mach) (u v : Nat) {f : Fld} {j : Nat} (h : 0x531_0000 * 64 ≤ f.key j) : (m.syncVcp u).getF v f j = m.getF v f j := by
  rw [Mach.syncVcp_eq]
  refine Mach.getF_setFs_notListed _ m (NotListed.of_place v fun mem => ?_)
  have low : ∀ x ∈ placesOf (summaryFields m u), x < 0x531_0000 * 64 := by
    show ∀ x ∈ [Reg.VCP_SUMMARY_SPARES_USED.key 0, Reg.VCP_SUMMARY_GROUPS_RETIRED.key 0, Reg.VCP_SUMMARY_PORTS_RETIRED.key 0], _
    decide
  exact absurd (low _ mem) (Nat.not_lt.mpr h)

theorem groupKey_ge (f : Fld) (h : f.reg = Reg.VCP_GROUP ∨ f.reg = Reg.VCP_PORT) (j : Nat) : 0x531_0000 * 64 ≤ f.key j := by
  rcases h with h | h <;> simp only [Fld.key, RegDef.off, h, Reg.VCP_GROUP, Reg.VCP_PORT] <;> omega

theorem summaryFields_syncVcp (m : Mach) (u : Nat) : summaryFields (m.syncVcp u) u = summaryFields m u := by
  have spares : ∀ j, (m.syncVcp u).getF u Reg.VCP_GROUP_SPARES_USED j = m.getF u Reg.VCP_GROUP_SPARES_USED j :=
    fun j => m.getF_syncVcp u u (groupKey_ge _ (.inl rfl) j)
  have groups : ∀ j, (m.syncVcp u).getF u Reg.VCP_GROUP_RETIRED j = m.getF u Reg.VCP_GROUP_RETIRED j :=
    fun j => m.getF_syncVcp u u (groupKey_ge _ (.inl rfl) j)
  have ports : ∀ q, (m.syncVcp u).getF u Reg.VCP_PORT_RETIRED q = m.getF u Reg.VCP_PORT_RETIRED q :=
    fun q => m.getF_syncVcp u u (groupKey_ge _ (.inr rfl) q)
  simp only [summaryFields, Mach.getB, spares, groups, ports]

end Sys2Proof.Machine
end

section
/-! SUPPORT. SPARE_MAP_DONE as one run of changes: where it sets fields, what the group's return reads, and the machine at its end (R291, R292). -/

namespace Sys2Proof.Machine
set_option Elab.async false

theorem groupIndex_off {p n : Nat} (n32 : n < 32) : Reg.VCP_GROUP.off (groupIndex p n) = 0x531_0100 + p * 0x200 + n * 8 := by
  simp only [group_off, groupIndex]
  omega

/-- The fields that SPARE_MAP_DONE sets are all at places of their own. -/
theorem spareMapPlaces {p n k : Nat} (m : Mach) (u c : Nat) (p864 : p < 864) (n32 : n < 32) (k4 : k < 4) (m1 m2 m3 m4 : Mach) : let i := groupIndex p n
    (placesOf (spareFields m u i k c ++ eventFields m1 u p n c 5 ++ [(u, Reg.VCP_GROUP_TESTING, i, 0), activeField m2 u p n] ++ [testingField m3 u p] ++
      summaryFields m4 u)).Nodup := by
  intro i
  have group : Reg.VCP_GROUP.off i = 0x531_0100 + p * 0x200 + n * 8 := groupIndex_off n32
  have port := port_off p864
  obtain ⟨lo, low, active⟩ : ∃ lo, lo < 32 ∧ (activeField m2 u p n).2.1.key (activeField m2 u p n).2.2.1 = Reg.VCP_PORT.off p * 64 + lo := by
    unfold activeField
    split
    exacts [⟨0, by decide, rfl⟩, ⟨16, by decide, rfl⟩]
  show [(spareField k).key i, Reg.VCP_GROUP.off i * 64 + 0, Reg.VCP_LAST_EVENT_POSITION.key 0, Reg.VCP_LAST_EVENT_GROUP.key 0, Reg.VCP_LAST_EVENT_COUPLER.key 0,
    Reg.VCP_LAST_EVENT_KIND.key 0, Reg.VCP_LAST_EVENT_VALID.key 0, Reg.VCP_LAST_EVENT_EVENTS.key 0, Reg.VCP_GROUP.off i * 64 + 4,
    (activeField m2 u p n).2.1.key (activeField m2 u p n).2.2.1, Reg.VCP_PORT.off p * 64 + 34, Reg.VCP_SUMMARY_SPARES_USED.key 0,
    Reg.VCP_SUMMARY_GROUPS_RETIRED.key 0, Reg.VCP_SUMMARY_PORTS_RETIRED.key 0].Nodup
  rw [spareField_key k4, active, group, port]
  clear_value i
  simp only [Fld.key, RegDef.off, Reg.VCP_LAST_EVENT_POSITION, Reg.VCP_LAST_EVENT_GROUP, Reg.VCP_LAST_EVENT_COUPLER, Reg.VCP_LAST_EVENT_KIND, Reg.VCP_LAST_EVENT_VALID,
    Reg.VCP_LAST_EVENT_EVENTS, Reg.VCP_LAST_EVENT, Reg.VCP_SUMMARY_SPARES_USED, Reg.VCP_SUMMARY_GROUPS_RETIRED, Reg.VCP_SUMMARY_PORTS_RETIRED, Reg.VCP_SUMMARY,
    List.nodup_cons, List.mem_cons, List.not_mem_nil, or_false, not_or, not_false_eq_true, List.nodup_nil, and_true]
  omega

theorem noReport_coupling {fs : List FieldVal} (h : ∀ x ∈ placesOf fs, 0x530_0000 * 64 ≤ x ∧ x < 0x540_0000 * 64) : NoReport fs := fun x mem => by
  have := h x mem
  rw [reportPlace_eq_false]
  omega

/-- The mapping of a group's spares no longer waits. -/
def mapped (i : Nat) (v : Vcp) : Vcp := { v with mapping := v.mapping.filter (fun x => x.1 ≠ i) }

theorem Mach.carries_updVcp (m : Mach) (u i k : Nat) (f : Vcp → Vcp) : (m.updVcp u f).carries u i k = m.carries u i k := Mach.getF_updVcp _ _ _ _ _ _

theorem Mach.freeSpares_mapped (m : Mach) {u : Nat} (lt : u < 4) (i : Nat) (failed : List Nat) :
    (m.updVcp u (mapped i)).freeSpares u i failed = m.freeSpares u i failed := by
  have bad : ((m.updVcp u (mapped i)).stk u).vcp.bad = (m.stk u).vcp.bad := by rw [Mach.updVcp, Mach.stk_updStk_same _ _ lt]; rfl
  simp only [Mach.freeSpares, Mach.carries_updVcp, bad]

/-- The machine once the mapping of group i no longer waits and its spare is set. -/
def Mach.spareSet (m : Mach) (u i k c : Nat) : Mach := (m.updVcp u (mapped i)).setFs (spareFields m u i k c)

theorem Mach.spareMapDone_eq (m : Mach) {u p n c k : Nat} {free : List Nat} (lt : u < 4) (coupler : c < 84)
    (waits : (m.stk u).vcp.mapping.find? (fun e => e.1 = groupIndex p n) = some (groupIndex p n, [c])) (reset : m.getB u Reg.VCP_RESET_STATUS_IN_RESET = false)
    (bare : ∀ j, j < 4 → m.carries u (groupIndex p n) j ≠ c) (first : m.freeSpares u (groupIndex p n) [c] = k :: free) :
    m.spareMapDone u p n [] =
      (((((m.spareSet u (groupIndex p n) k c).bureauChange (m.updVcp u (mapped (groupIndex p n))) u Reg.VCP_GROUP_fields (groupIndex p n)).vcpEvent u p n c 5).groupBack
        u p n).syncVcp u) := by
  have here := m.freeSpares_mapped lt (groupIndex p n) [c]
  have alone : ∀ j, j < 4 → (m.updVcp u (mapped (groupIndex p n))).carries u (groupIndex p n) j ≠ c := fun j j4 => by rw [Mach.carries_updVcp]; exact bare j j4
  have need := (m.updVcp u (mapped (groupIndex p n))).needSpare_one coupler alone
  have map := (m.updVcp u (mapped (groupIndex p n))).mapSpares_one lt coupler alone (here.trans first)
  have enough : (m.updVcp u (mapped (groupIndex p n))).spareable u (groupIndex p n) [c] = true := by
    rw [Mach.spareable, need, here, first]
    exact decide_eq_true (by simp)
  have fields : spareFields (m.updVcp u (mapped (groupIndex p n))) u (groupIndex p n) k c = spareFields m u (groupIndex p n) k c := by
    simp only [spareFields, Mach.carries_updVcp]
  rw [fields] at map
  rw [Mach.spareMapDone, waits]
  dsimp only
  rw [if_neg (by rw [reset]; decide), List.filter_nil, List.append_nil]
  have folded : (fun v : Vcp => { v with mapping := v.mapping.filter (fun x => x.1 ≠ groupIndex p n) }) = mapped (groupIndex p n) := rfl
  rw [folded, if_pos enough, need, map, List.foldl_cons, List.foldl_nil]
  rfl

/-- Fields listed first are at places of their own when all are. -/
theorem placesOf_left {fs gs : List FieldVal} (h : (placesOf (fs ++ gs)).Nodup) : (placesOf fs).Nodup := h.sublist ((List.sublist_append_left _ _).map _)

/-- A field of one part of such a list is not in the other. -/
theorem placesOf_apart {fs gs : List FieldVal} (h : (placesOf (fs ++ gs)).Nodup) {x : Nat} (mem : x ∈ placesOf gs) : x ∉ placesOf fs := fun mf => by
  rw [placesOf, List.map_append] at h
  exact (List.nodup_append.mp h).2.2 x mf x mem rfl

theorem spareMapDone_runs {s : State} {u : StackNo} (lt : u.val < s.fuse.part.stackCount) (p : PhysId) (n : Fin 32) :
    exec (.spareMapDone ⟨u, p, n, []⟩) s = .next { s with m := s.m.spareMapDone u p n [] } := by
  have arm : exec (.spareMapDone ⟨u, p, n, []⟩) s = execSpareMapDone ⟨u, p, n, []⟩ s := by rfl
  rw [arm, execSpareMapDone, onStack_in _ lt]
  rfl

/-- Where the mapping and its event set fields. -/
theorem spareEvent_places {p n k : Nat} (m m1 : Mach) (u c : Nat) (k4 : k < 4) :
    ∀ x ∈ placesOf (spareFields m u (groupIndex p n) k c ++ eventFields m1 u p n c 5),
      x = Reg.VCP_GROUP.off (groupIndex p n) * 64 + (8 + 7 * k) ∨ x = Reg.VCP_GROUP.off (groupIndex p n) * 64 ∨ 0x530_0000 * 64 ≤ x ∧ x < 0x531_0000 * 64 := by
  show ∀ x ∈ [(spareField k).key (groupIndex p n), Reg.VCP_GROUP.off (groupIndex p n) * 64 + 0, Reg.VCP_LAST_EVENT_POSITION.key 0, Reg.VCP_LAST_EVENT_GROUP.key 0,
    Reg.VCP_LAST_EVENT_COUPLER.key 0, Reg.VCP_LAST_EVENT_KIND.key 0, Reg.VCP_LAST_EVENT_VALID.key 0, Reg.VCP_LAST_EVENT_EVENTS.key 0], _
  rw [spareField_key k4]
  have low : ∀ y ∈ [Reg.VCP_LAST_EVENT_POSITION.key 0, Reg.VCP_LAST_EVENT_GROUP.key 0, Reg.VCP_LAST_EVENT_COUPLER.key 0, Reg.VCP_LAST_EVENT_KIND.key 0,
    Reg.VCP_LAST_EVENT_VALID.key 0, Reg.VCP_LAST_EVENT_EVENTS.key 0], 0x530_0000 * 64 ≤ y ∧ y < 0x531_0000 * 64 := by decide
  intro x mem
  rcases List.mem_cons.mp mem with rfl | mem
  · exact .inl rfl
  rcases List.mem_cons.mp mem with rfl | mem
  · exact .inr (.inl rfl)
  · exact .inr (.inr (low x mem))

/-- The mapping off the list, the spare set and told to the change log, and the event. -/
theorem spareEvent_ends (s : State) {u p n k : Nat} (c : Nat) (lt : u < 4) (p864 : p < 864) (n32 : n < 32) (k4 : k < 4) :
    Ends s { s with m := ((s.m.spareSet u (groupIndex p n) k c).bureauChange (s.m.updVcp u (mapped (groupIndex p n))) u Reg.VCP_GROUP_fields
        (groupIndex p n)).vcpEvent u p n c 5 }
      (spareFields s.m u (groupIndex p n) k c ++ eventFields s.m u p n c 5) (fun m => m.updVcp u (mapped (groupIndex p n))) := by
  have off : Reg.VCP_GROUP.off (groupIndex p n) = 0x531_0100 + p * 0x200 + n * 8 := groupIndex_off n32
  have noReport : NoReport (spareFields s.m u (groupIndex p n) k c ++ eventFields s.m u p n c 5) :=
    noReport_coupling fun x mem => by rcases spareEvent_places s.m s.m u c k4 x mem with h | h | h <;> omega
  have different := placesOf_left (placesOf_left (placesOf_left (spareMapPlaces s.m u c p864 n32 k4 s.m s.m s.m s.m)))
  have mapping : Ends s { s with m := s.m.updVcp u (mapped (groupIndex p n)) } [] (fun m => m.updVcp u (mapped (groupIndex p n))) :=
    ⟨rfl, rfl, Mach.bare_updVcp _ _ _, fun _ h => (by cases h), fun _ _ => rfl, fun _ _ _ _ _ => Mach.getF_updVcp _ _ _ _ _ _⟩
  have spare : Ends s { s with m := s.m.spareSet u (groupIndex p n) k c } (spareFields s.m u (groupIndex p n) k c) (fun m => m.updVcp u (mapped (groupIndex p n))) :=
    mapping.andSetFs (placesOf_left different) (by simp [spareFields, lt])
  generalize hb : (s.m.spareSet u (groupIndex p n) k c).bureauChange (s.m.updVcp u (mapped (groupIndex p n))) u Reg.VCP_GROUP_fields (groupIndex p n) = b
  have logged : Ends s { s with m := b } (spareFields s.m u (groupIndex p n) k c) (fun m => m.updVcp u (mapped (groupIndex p n))) :=
    spare.reports (hb ▸ Reports.logBureau _ _ _ _ _) fun x mem => noReport x (by rw [placesOf, List.map_append]; exact List.mem_append_left _ mem)
  have counted : eventFields b u p n c 5 = eventFields s.m u p n c 5 := by
    rw [eventFields, logged.getF u (by decide) fun mem => ?_]
    · rfl
    · exact placesOf_apart different (by simp [placesOf, eventFields]) mem
  rw [Mach.vcpEvent_eq, counted]
  exact (logged.andSetFs different (by simp [eventFields, lt])).reports (Reports.srcEdge _ _ _) noReport

/-- The group returned to service, with its port's TESTING and the summary as they then are. -/
theorem spareMapDone_ends (s : State) {u p n k : Nat} (c : Nat) (lt : u < 4) (p864 : p < 864) (n32 : n < 32) (k4 : k < 4) {b : Mach} {g : Mach → Mach}
    (spared : Ends s { s with m := b } (spareFields s.m u (groupIndex p n) k c ++ eventFields s.m u p n c 5) g)
    (group : s.m.getB u Reg.VCP_GROUP_RETIRED (groupIndex p n) = false) (port : s.m.getB u Reg.VCP_PORT_RETIRED p = false) :
    let t := (b.groupBack u p n).syncVcp u
    Ends s { s with m := t } (spareFields s.m u (groupIndex p n) k c ++ eventFields s.m u p n c 5 ++
      [(u, Reg.VCP_GROUP_TESTING, groupIndex p n, 0), activeField s.m u p n] ++ [testingField t u p] ++ summaryFields t u) g := by
  intro t
  have off : Reg.VCP_GROUP.off (groupIndex p n) = 0x531_0100 + p * 0x200 + n * 8 := groupIndex_off n32
  have portOff := port_off p864
  have same : ∀ (f : Fld) (j : Nat), (f.key j = Reg.VCP_GROUP.off (groupIndex p n) * 64 + 3 ∨ f.key j / 64 = Reg.VCP_PORT.off p) →
      b.getF u f j = s.m.getF u f j := by
    intro f j h
    refine spared.getF u (by rw [reportPlace_eq_false]; omega) fun mem => ?_
    have := spareEvent_places s.m s.m u c k4 _ mem
    omega
  have active : activeField b u p n = activeField s.m u p n := by
    rw [activeField, activeField, same Reg.VCP_PORT_READ_ACTIVE p (.inr (Fld.key_div _ p (by decide))),
      same Reg.VCP_PORT_WRITE_ACTIVE p (.inr (Fld.key_div _ p (by decide)))]
  have away : Reg.VCP_PORT_READ_ACTIVE.key p ≠ Reg.VCP_GROUP_TESTING.key (groupIndex p n) ∧
      Reg.VCP_PORT_WRITE_ACTIVE.key p ≠ Reg.VCP_GROUP_TESTING.key (groupIndex p n) := by
    show Reg.VCP_PORT.off p * 64 + 0 ≠ Reg.VCP_GROUP.off (groupIndex p n) * 64 + 4 ∧ Reg.VCP_PORT.off p * 64 + 16 ≠ Reg.VCP_GROUP.off (groupIndex p n) * 64 + 4
    omega
  have back : b.groupBack u p n = (b.setFs [(u, Reg.VCP_GROUP_TESTING, groupIndex p n, 0), activeField s.m u p n]).syncTesting u p := by
    rw [← active]
    refine Mach.groupBack_eq b ?_ ?_ away
    · rw [Mach.getB, same Reg.VCP_GROUP_RETIRED _ (.inl rfl)]; exact group
    · rw [Mach.getB, same Reg.VCP_PORT_RETIRED _ (.inr (Fld.key_div _ p (by decide)))]; exact port
  generalize ha : b.setFs [(u, Reg.VCP_GROUP_TESTING, groupIndex p n, 0), activeField s.m u p n] = a at back
  have tests : ∀ j, t.getF u Reg.VCP_GROUP_TESTING j = a.getF u Reg.VCP_GROUP_TESTING j := by
    intro j
    refine ((b.groupBack u p n).getF_syncVcp u u (groupKey_ge _ (.inl rfl) j)).trans ?_
    rw [back, Mach.syncTesting]
    refine Mach.getF_setF_key _ _ _ _ _ _ _ _ ?_
    show Reg.VCP_GROUP.off j * 64 + 4 ≠ Reg.VCP_PORT.off p * 64 + 34
    omega
  have testing : testingField t u p = testingField a u p := by simp only [testingField, Mach.getB, tests]
  have summary : summaryFields t u = summaryFields (b.groupBack u p n) u := summaryFields_syncVcp _ u
  have within : (activeField s.m u p n).1 < 4 := by unfold activeField; split <;> exact lt
  have different := spareMapPlaces s.m u c p864 n32 k4 s.m s.m a (b.groupBack u p n)
  have returned := spared.andSetFs (gs := [(u, Reg.VCP_GROUP_TESTING, groupIndex p n, 0), activeField s.m u p n]) (placesOf_left (placesOf_left different))
    (by simp [lt, within])
  rw [testing, summary]
  show Ends s { s with m := (b.groupBack u p n).syncVcp u } _ g
  rw [Mach.syncVcp_eq]
  refine Ends.andSetFs ?_ different (by simp [summaryFields, lt])
  rw [back, Mach.syncTesting_eq]
  exact (ha ▸ returned).andSetFs (placesOf_left different) (by simp [testingField, lt])

theorem spareMapDone_lands {s : State} {u : StackNo} (lt : u.val < s.fuse.part.stackCount) (p : PhysId) (n : Fin 32) {c k : Nat} {free : List Nat}
    (waits : (s.m.stk u).vcp.mapping.find? (fun e => e.1 = groupIndex p n) = some (groupIndex p n, [c]))
    (reset : s.m.getB u Reg.VCP_RESET_STATUS_IN_RESET = false) (coupler : c < 84) (bare : ∀ j, j < 4 → s.m.carries u (groupIndex p n) j ≠ c)
    (first : s.m.freeSpares u (groupIndex p n) [c] = k :: free) (group : s.m.getB u Reg.VCP_GROUP_RETIRED (groupIndex p n) = false)
    (port : s.m.getB u Reg.VCP_PORT_RETIRED p = false) :
    Lands (.spareMapDone ⟨u, p, n, []⟩) s (fun t => Ends s t (spareFields s.m u (groupIndex p n) k c ++
      [(u.val, Reg.VCP_GROUP_TESTING, groupIndex p n, 0), testingField t.m u p, activeField s.m u p n] ++ summaryFields t.m u ++ eventFields s.m u p n c 5)
      (fun m => m.updVcp u (mapped (groupIndex p n)))) := by
  have k4 : k < 4 := List.mem_range.mp (List.mem_filter.mp (first ▸ List.mem_cons_self : k ∈ s.m.freeSpares u (groupIndex p n) [c])).1
  refine ⟨_, spareMapDone_runs lt p n, ?_⟩
  rw [Mach.spareMapDone_eq s.m u.isLt coupler waits reset bare first]
  refine (spareMapDone_ends s c u.isLt p.isLt n.isLt k4 (spareEvent_ends s c u.isLt p.isLt n.isLt k4) group port).relist fun x => ?_
  simp only [List.mem_append, List.mem_cons, List.not_mem_nil, or_false]
  tauto

end Sys2Proof.Machine
end

section
/-! SUPPORT. RELOCATION_DONE of an index with no plan running and no access held: its chrysalis core executes it from then on (R25, R75). -/

namespace Sys2Proof.Machine
set_option Elab.async false

/-! ## The fields of the move -/

/-- BUR_LOGICAL_MAP of index L, the identity of core c that now executes it for home h, and the commits that go with it. -/
def moveFields (u L h c commits : Nat) : List FieldVal :=
  [(u, Reg.BUR_LOGICAL_MAP_HOME, L, h), (u, Reg.BUR_LOGICAL_MAP_EXEC, L, c), (u, Reg.BUR_LOGICAL_MAP_SPARED, L, (decide (h ≠ c)).toNat),
   (u, Reg.CORE_IDENT_ROLE, c, 2), (u, Reg.CORE_IDENT_LOGICAL, c, L), (u, Reg.CORE_IDENT_HOME, c, h), (u, Reg.CORE_IDENT_MAP_VALID, c, 1),
   (u, Reg.CORE_COMMIT_COUNT_COMMITS, c, commits)]

theorem mapOff {L : Nat} (lt : L < 832) : Reg.BUR_LOGICAL_MAP.off L = 0x520_1000 + L * 8 := by
  simp only [RegDef.off, Reg.BUR_LOGICAL_MAP, Nat.mod_eq_of_lt lt, Nat.mul_zero, Nat.add_zero]
theorem identOff {c : Nat} (lt : c < 864) : Reg.CORE_IDENT.off c = c * 0x1_0000 := by
  simp only [RegDef.off, Reg.CORE_IDENT, Nat.mod_eq_of_lt lt, Nat.mul_zero, Nat.zero_add]
theorem commitOff {c : Nat} (lt : c < 864) : Reg.CORE_COMMIT_COUNT.off c = 0x108 + c * 0x1_0000 := by
  simp only [RegDef.off, Reg.CORE_COMMIT_COUNT, Nat.mod_eq_of_lt lt, Nat.mul_zero, Nat.add_zero]

/-- Places that a move's reports, its summary and the state of a script change. -/
def afterMove (p : Nat) : Bool := reportPlace p || decide (p / 64 % 0x1_0000 = 0x100)

theorem moveFields_places (u h commits : Nat) {L c : Nat} (l : L < 832) (c864 : c < 864) :
    (placesOf (moveFields u L h c commits)).Nodup ∧ ∀ x ∈ placesOf (moveFields u L h c commits), afterMove x = false := by
  have map := mapOff l
  have ident := identOff c864
  have commit := commitOff c864
  have places : placesOf (moveFields u L h c commits) = [Reg.BUR_LOGICAL_MAP.off L * 64 + 0, Reg.BUR_LOGICAL_MAP.off L * 64 + 16, Reg.BUR_LOGICAL_MAP.off L * 64 + 31,
    Reg.CORE_IDENT.off c * 64 + 10, Reg.CORE_IDENT.off c * 64 + 16, Reg.CORE_IDENT.off c * 64 + 32, Reg.CORE_IDENT.off c * 64 + 63,
    Reg.CORE_COMMIT_COUNT.off c * 64 + 0] := rfl
  rw [places, map, ident, commit]
  constructor
  · simp only [List.nodup_cons, List.mem_cons, List.not_mem_nil, or_false, not_or, not_false_eq_true, List.nodup_nil, and_true]
    omega
  · intro x mem
    simp only [List.mem_cons, List.not_mem_nil, or_false] at mem
    rw [afterMove, Bool.or_eq_false_iff, reportPlace_eq_false, decide_eq_false_iff_not]
    omega

theorem afterMove_script (f : Fld) (h : f.reg = Reg.CORE_SCRIPT_STATE ∨ f.reg = Reg.BUR_CORE_SUMMARY) (lo : f.lo < 64) (i : Nat) : afterMove (f.key i) = true := by
  have place : f.key i / 64 % 0x1_0000 = 0x100 := by
    rw [f.key_div i lo]
    rcases h with h | h <;> simp only [RegDef.off, h, Reg.CORE_SCRIPT_STATE, Reg.BUR_CORE_SUMMARY] <;> omega
  simp [afterMove, place]

theorem afterMove_of_report (p : Nat) (h : reportPlace p = true) : afterMove p = true := by simp [afterMove, h]

/-! ## The steps of the move -/

theorem Mach.moved_eq (m : Mach) (u L h c commits : Nat) :
    ((m.setLogical u L h c).setIdent u c 2 L h).setF u Reg.CORE_COMMIT_COUNT_COMMITS commits c = m.setFs (moveFields u L h c commits) := rfl

theorem Frame.syncMap (m : Mach) (u : Nat) : Frame afterMove m (m.syncMap u) :=
  ((Frame.setF m u Reg.BUR_CORE_SUMMARY_CHRYS_FREE_W _ 0 (afterMove_script _ (.inr rfl) (by decide) 0)).trans
    (Frame.setF _ u Reg.BUR_CORE_SUMMARY_CHRYS_FREE_E _ 0 (afterMove_script _ (.inr rfl) (by decide) 0))).trans
    (Frame.setF _ u Reg.BUR_CORE_SUMMARY_RELOCATING _ 0 (afterMove_script _ (.inr rfl) (by decide) 0))

theorem Frame.syncScript (m : Mach) (u L : Nat) : Frame afterMove m (m.syncScript u L) :=
  ((Frame.setF m u Reg.CORE_SCRIPT_STATE_SCRIPT_INDEX _ _ (afterMove_script _ (.inl rfl) (by decide) _)).trans
    (Frame.setF _ u Reg.CORE_SCRIPT_STATE_WAITING_TOKEN _ _ (afterMove_script _ (.inl rfl) (by decide) _))).trans
    (Frame.setF _ u Reg.CORE_SCRIPT_STATE_WAITING_CREDIT _ _ (afterMove_script _ (.inl rfl) (by decide) _))

/-- With no access held, none is released. -/
theorem Mach.releaseSlot_idle (m : Mach) (n u h : Nat) (held : (m.stk u).map.held = []) : m.releaseSlot n u h = m := by
  rw [Mach.releaseSlot]
  dsimp only
  rw [held, List.filter_nil, List.foldl_nil]
  refine m.updStk_self u _ ?_
  rw [held, List.filter_nil, ← held]

theorem Mach.bar4Drain_idle (m : Mach) (n : Nat) (window : m.host.bar4 = []) : m.bar4Drain n = m := by
  rw [Mach.bar4Drain, window, List.length_nil, Mach.bar4Run]

def mapView : View CoreMap := ⟨Stack.map, fun _ _ => rfl, fun _ _ => rfl, fun _ _ => rfl, fun _ _ => rfl⟩

def coresView : View (SMap Core) := ⟨Stack.cores, fun _ _ => rfl, fun _ _ => rfl, fun _ _ => rfl, fun _ _ => rfl⟩

theorem Mach.core_of_cores {m n : Mach} (h : Steady [] coresView m n) (v M : Nat) : n.core v M = m.core v M := by
  rw [Mach.core, Mach.core, show (n.stk v).cores = (m.stk v).cores from h.part v]

/-- Home h no longer has an index on its way. -/
def arrived (h : Nat) (x : CoreMap) : CoreMap := { x with relocating := x.relocating.filter (fun r => r.1 ≠ h) }

/-- The machine with the fields of the move of index L to core c set, and told to the change log. -/
def Mach.indexLogged (m : Mach) (u L h c : Nat) : Mach :=
  (m.setFs (moveFields u L h c (m.getF u Reg.CORE_COMMIT_COUNT_COMMITS (m.physOf u L)))).bureauChange m u Reg.BUR_LOGICAL_MAP_fields L

/-- The machine with index L of home h executed by core c, as map and summary say it. -/
def Mach.indexMoved (m : Mach) (u L h c : Nat) : Mach :=
  ((m.indexLogged u L h c).updStk u (fun k => { k with map := arrived h k.map })).syncMap u

/-- The unit of a core that has moved: its near cache is empty, and a unit aborted on the way waits for its replay. -/
def unitMoved (k : Core) : Core := { k with near := {}, halt := if k.halt = .moving then .aborted else k.halt }

theorem Mach.moveIndex_eq (m : Mach) (n : Nat) {u L h c : Nat} (first : (List.range 832).find? (fun K => m.getF u Reg.BUR_LOGICAL_MAP_HOME K = h) = some L)
    (idle : m.planRunning u = false) :
    m.moveIndex n u h c = (((m.indexMoved u L h c).updCore u L unitMoved).syncScript u L).releaseSlot n u h := by
  unfold Mach.moveIndex
  rw [first]
  dsimp only
  rw [if_neg (by rw [idle]; exact fun e => absurd e.1 (by decide)), Mach.moved_eq]
  rfl

theorem Steady.setFs {β : Type} {z : List (Nat × Nat)} {V : View β} (fs : List FieldVal) (m : Mach) (h : ∀ e ∈ fs, clearOf z e.2.1 = true) : Steady z V m (m.setFs fs) :=
  Steady.foldl _ fs (fun m e mem => Steady.setF m e.1 e.2.1 e.2.2.2 e.2.2.1 (h e mem)) m

theorem moveFields_flat (u L h c commits : Nat) : ∀ e ∈ moveFields u L h c commits, clearOf [] e.2.1 = true := by
  intro e mem
  have known : e.2.1 ∈ [Reg.BUR_LOGICAL_MAP_HOME, Reg.BUR_LOGICAL_MAP_EXEC, Reg.BUR_LOGICAL_MAP_SPARED, Reg.CORE_IDENT_ROLE, Reg.CORE_IDENT_LOGICAL,
    Reg.CORE_IDENT_HOME, Reg.CORE_IDENT_MAP_VALID, Reg.CORE_COMMIT_COUNT_COMMITS] := List.mem_map_of_mem (f := fun e : FieldVal => e.2.1) mem
  have flat : ∀ f ∈ [Reg.BUR_LOGICAL_MAP_HOME, Reg.BUR_LOGICAL_MAP_EXEC, Reg.BUR_LOGICAL_MAP_SPARED, Reg.CORE_IDENT_ROLE, Reg.CORE_IDENT_LOGICAL,
    Reg.CORE_IDENT_HOME, Reg.CORE_IDENT_MAP_VALID, Reg.CORE_COMMIT_COUNT_COMMITS], clearOf [] f = true := by decide
  exact flat _ known

section
variable {β : Type} {V : View β}

theorem Steady.indexLogged (m : Mach) (u L h c : Nat) : Steady [] V m (m.indexLogged u L h c) :=
  (Steady.setFs _ m (moveFields_flat u L h c _)).trans (Steady.of_reports (fun _ _ => rfl) (Reports.logBureau _ _ _ _ _))

theorem Steady.syncMap (m : Mach) (u : Nat) : Steady [] V m (m.syncMap u) :=
  ((Steady.setF m u Reg.BUR_CORE_SUMMARY_CHRYS_FREE_W _ 0 (by decide)).trans (Steady.setF _ u Reg.BUR_CORE_SUMMARY_CHRYS_FREE_E _ 0 (by decide))).trans
    (Steady.setF _ u Reg.BUR_CORE_SUMMARY_RELOCATING _ 0 (by decide))

theorem Steady.scriptState (m : Mach) (u L : Nat) : Steady [] V m (m.syncScript u L) :=
  ((Steady.setF m u Reg.CORE_SCRIPT_STATE_SCRIPT_INDEX _ _ (by decide)).trans
    (Steady.setF _ u Reg.CORE_SCRIPT_STATE_WAITING_TOKEN _ _ (by decide))).trans (Steady.setF _ u Reg.CORE_SCRIPT_STATE_WAITING_CREDIT _ _ (by decide))

end

theorem Mach.indexMoved_map (m : Mach) {u : Nat} (L h c : Nat) (lt : u < 4) : ((m.indexMoved u L h c).stk u).map = arrived h (m.stk u).map := by
  have logged : ((m.indexLogged u L h c).stk u).map = (m.stk u).map := (Steady.indexLogged (V := mapView) m u L h c).part u
  refine ((Steady.syncMap (V := mapView) _ u).part u).trans ?_
  rw [Mach.stk_updStk_same _ _ lt]
  exact congrArg (arrived h) logged

theorem Mach.indexMoved_core (m : Mach) (u L h c v M : Nat) : (m.indexMoved u L h c).core v M = m.core v M :=
  Mach.core_of_cores (((Steady.indexLogged m u L h c).trans (Steady.updStk _ u _ rfl rfl)).trans (Steady.syncMap _ u)) v M

theorem Mach.indexMoved_frame (m : Mach) (u L h c : Nat) :
    Frame afterMove (m.setFs (moveFields u L h c (m.getF u Reg.CORE_COMMIT_COUNT_COMMITS (m.physOf u L)))) (m.indexMoved u L h c) :=
  ((Frame.of_reports afterMove_of_report (Reports.logBureau _ _ _ _ _)).trans (Frame.updStk _ _ _ rfl)).trans (Frame.syncMap _ _)

/-- RELOCATING says whether an index of the stack is on its way. -/
theorem Mach.syncMap_relocating (m : Mach) {u : Nat} (lt : u < 4) :
    (m.syncMap u).getF u Reg.BUR_CORE_SUMMARY_RELOCATING = (decide (((m.syncMap u).stk u).map.relocating ≠ [])).toNat % 2 ^ Reg.BUR_CORE_SUMMARY_RELOCATING.width := by
  rw [show ((m.syncMap u).stk u).map = (m.stk u).map from (Steady.syncMap (V := mapView) m u).part u]
  exact Mach.getF_setF_same _ _ _ _ lt

theorem Mach.getF_syncScript (m : Mach) (u L v : Nat) {f : Fld} {j : Nat} (h : 0x360_0000 * 64 ≤ f.key j) : (m.syncScript u L).getF v f j = m.getF v f j := by
  have away : ∀ (g : Fld) (i : Nat), g.reg = Reg.CORE_SCRIPT_STATE → g.lo < 64 → f.key j ≠ g.key i := by
    intro g i r lo e
    have place := key_place lo (by rw [r]; rfl) i
    rw [r] at place
    have copy := Nat.mod_lt i (show 0 < Reg.CORE_SCRIPT_STATE.inner by decide)
    simp only [Reg.CORE_SCRIPT_STATE] at place copy
    omega
  rw [Mach.syncScript]
  rw [Mach.getF_setF_key _ _ _ _ _ _ _ _ (away _ _ rfl (by decide)), Mach.getF_setF_key _ _ _ _ _ _ _ _ (away _ _ rfl (by decide)),
    Mach.getF_setF_key _ _ _ _ _ _ _ _ (away _ _ rfl (by decide))]

theorem relocationDone_runs {s : State} {u : StackNo} (lt : u.val < s.fuse.part.stackCount) (p : PhysId) :
    exec (.relocationDone ⟨u, p⟩) s = .next { s with m := s.m.relocationDone s.fuse.part.stackCount u p } := by
  have arm : exec (.relocationDone ⟨u, p⟩) s = execRelocationDone ⟨u, p⟩ s := by rfl
  rw [arm, execRelocationDone, onStack_in _ lt]

/-- The machine at the end of the move. -/
def Mach.moveEnded (m : Mach) (u L h c : Nat) : Mach := ((m.indexMoved u L h c).updCore u L unitMoved).syncScript u L

theorem Mach.moveEnded_core (m : Mach) {u : Nat} (L h c : Nat) (lt : u < 4) :
    (m.moveEnded u L h c).core u L = unitMoved (m.core u L) ∧ ∀ v M, v ≠ u ∨ M ≠ L → (m.moveEnded u L h c).core v M = m.core v M := by
  have kept : ∀ v M, (m.moveEnded u L h c).core v M = ((m.indexMoved u L h c).updCore u L unitMoved).core v M := Mach.core_of_cores (Steady.scriptState _ u L)
  exact ⟨by rw [kept, Mach.core_updCore_same _ _ _ lt, Mach.indexMoved_core], fun v M h => by rw [kept, Mach.core_updCore_ne _ _ h, Mach.indexMoved_core]⟩

theorem Mach.moveEnded_map (m : Mach) {u : Nat} (L h c : Nat) (lt : u < 4) : ((m.moveEnded u L h c).stk u).map = arrived h (m.stk u).map :=
  (((Steady.updStk (V := mapView) _ u _ rfl rfl).trans (Steady.scriptState _ u L)).part u).trans (m.indexMoved_map L h c lt)

theorem Mach.moveEnded_frame (m : Mach) (u L h c : Nat) :
    Frame afterMove (m.setFs (moveFields u L h c (m.getF u Reg.CORE_COMMIT_COUNT_COMMITS (m.physOf u L)))) (m.moveEnded u L h c) :=
  ((m.indexMoved_frame u L h c).trans (Frame.updCore _ _ _ _)).trans (Frame.syncScript _ _ _)

theorem Mach.moveEnded_relocating (m : Mach) {u : Nat} (L h c : Nat) (lt : u < 4) :
    (m.moveEnded u L h c).getF u Reg.BUR_CORE_SUMMARY_RELOCATING =
      (decide (((m.moveEnded u L h c).stk u).map.relocating ≠ [])).toNat % 2 ^ Reg.BUR_CORE_SUMMARY_RELOCATING.width := by
  rw [m.moveEnded_map L h c lt, ← m.indexMoved_map L h c lt, Mach.moveEnded, Mach.getF_syncScript _ _ _ _ (by decide), Mach.getF_updCore]
  exact Mach.syncMap_relocating _ lt

theorem Mach.moveEnded_fields (m : Mach) {u L c : Nat} (h : Nat) (lt : u < 4) (l : L < 832) (c864 : c < 864) :
    ∀ e ∈ moveFields u L h c (m.getF u Reg.CORE_COMMIT_COUNT_COMMITS (m.physOf u L)), (m.moveEnded u L h c).getF e.1 e.2.1 e.2.2.1 = e.2.2.2 % 2 ^ e.2.1.width := by
  intro e mem
  obtain ⟨different, apart⟩ := moveFields_places u h (m.getF u Reg.CORE_COMMIT_COUNT_COMMITS (m.physOf u L)) l c864
  rw [(m.moveEnded_frame u L h c).regs _ _ _ (apart _ (List.mem_map_of_mem (f := fun e : FieldVal => e.2.1.key e.2.2.1) mem))]
  exact Mach.getF_setFs_listed _ m different (by simp [moveFields, lt]) e mem

theorem Mach.indexLogged_bar4 (m : Mach) (u L h c : Nat) : (m.indexLogged u L h c).host.bar4 = m.host.bar4 := by
  have logged : (m.indexLogged u L h c).bare.host.bar4 = _ := congrArg (fun k => k.host.bar4) (Reports.logBureau _ _ _ _ _).bare
  have fields : (m.setFs (moveFields u L h c (m.getF u Reg.CORE_COMMIT_COUNT_COMMITS (m.physOf u L)))).host.bar4 = m.host.bar4 := by rw [Mach.setFs_host]
  exact logged.trans fields

theorem Mach.relocationDone_eq (m : Mach) (n : Nat) {u h c L : Nat} (lt : u < 4) (onWay : (m.stk u).map.relocating.find? (fun r => r.1 = h) = some (h, c))
    (c864 : c < 864) (runs : m.inRun u c = true) (first : (List.range 832).find? (fun K => m.getF u Reg.BUR_LOGICAL_MAP_HOME K = h) = some L)
    (idle : m.planRunning u = false) (held : (m.stk u).map.held = []) (window : m.host.bar4 = []) : m.relocationDone n u h = m.moveEnded u L h c := by
  have map := m.moveEnded_map L h c lt
  have released : (m.moveEnded u L h c).releaseSlot n u h = m.moveEnded u L h c := Mach.releaseSlot_idle _ n u h (by rw [map]; exact held)
  unfold Mach.relocationDone
  rw [onWay]
  dsimp only
  rw [if_neg (by omega), if_pos runs, m.moveIndex_eq n first idle]
  refine (congrArg (fun x => x.bar4Drain n) released).trans (Mach.bar4Drain_idle _ n ?_)
  exact (m.indexLogged_bar4 u L h c).trans window

theorem find_home {m : Mach} {u h : Nat} {L : Fin 832} (home : m.getF u Reg.BUR_LOGICAL_MAP_HOME L = h)
    (before : ∀ K : Fin 832, K < L → m.getF u Reg.BUR_LOGICAL_MAP_HOME K ≠ h) :
    (List.range 832).find? (fun K => m.getF u Reg.BUR_LOGICAL_MAP_HOME K = h) = some L.val := by
  rw [List.find?_range_eq_some]
  refine ⟨by simp [home], List.mem_range.mpr L.isLt, fun K lt => ?_⟩
  simpa using before ⟨K, by omega⟩ lt

theorem relocationDone_lands {s : State} {u : StackNo} (lt : u.val < s.fuse.part.stackCount) (p : PhysId) {c : Nat} {L : Fin 832}
    (onWay : (s.m.stk u).map.relocating.find? (fun r => r.1 = p.val) = some (p.val, c)) (c864 : c < 864) (runs : s.m.inRun u c = true)
    (home : s.m.getF u Reg.BUR_LOGICAL_MAP_HOME L = p) (before : ∀ K : Fin 832, K < L → s.m.getF u Reg.BUR_LOGICAL_MAP_HOME K ≠ p)
    (idle : s.m.planRunning u = false) (held : (s.m.stk u).map.held = []) (window : s.m.host.bar4 = []) :
    Lands (.relocationDone ⟨u, p⟩) s (fun t => t.fuse = s.fuse ∧ t.pending = s.pending ∧ t.m.mem = s.m.mem ∧ t.m.tier = s.m.tier ∧
      Holds t (moveFields u L p c (s.m.getF u Reg.CORE_COMMIT_COUNT_COMMITS (s.m.physOf u L)) ++
        [(u.val, Reg.BUR_CORE_SUMMARY_RELOCATING, 0, (decide ((t.m.stk u).map.relocating ≠ [])).toNat)]) ∧
      (t.m.stk u).map = arrived p (s.m.stk u).map ∧ t.m.core u L = unitMoved (s.m.core u L) ∧ SameCores s t u L) := by
  obtain ⟨mem, tier, -⟩ := (s.m.moveEnded_frame u L p c).stores
  obtain ⟨unit, others⟩ := s.m.moveEnded_core L p c u.isLt
  refine ⟨_, relocationDone_runs lt p, ?_⟩
  rw [Mach.relocationDone_eq s.m _ u.isLt onWay c864 runs (find_home home before) idle held window]
  refine ⟨rfl, rfl, mem.trans (Mach.setFs_stores _ _).1, tier.trans (Mach.setFs_stores _ _).2.1, ?_, s.m.moveEnded_map L p c u.isLt, unit, others⟩
  intro e me
  rcases List.mem_append.mp me with me | me
  · exact s.m.moveEnded_fields p u.isLt L.isLt c864 e me
  · rw [List.mem_singleton.mp me]
    exact s.m.moveEnded_relocating L p c u.isLt

/-- Settles O24: each command's operation is written as fields set, one change of the stack and reports; the clauses are read off it. -/
theorem sparesPortResetsAndRelocation : Obligations.SparesPortResetsAndRelocation := by
  unfold Obligations.SparesPortResetsAndRelocation
  intro s u p lt
  refine ⟨?_, ?_, ?_, ?_⟩
  · intro n c k free waits reset coupler i bare first group port
    exact spareMapDone_lands lt p n waits reset coupler bare first group port
  · intro reads still written busy
    exact portReset_lands lt reads still written busy
  · intro held window n i left ends
    exact ⟨resyncDone_sets lt p n held window, resyncTimeout_sets lt p n held window⟩
  · intro c L onWay c864 runs home before idle held window _ _
    exact relocationDone_lands lt p onWay c864 runs home before idle held window

end Sys2Proof.Machine
end

section
/-! SUPPORT. O14 holds; O28 and O29 fail, each at a state written out. -/

namespace Sys2Proof.Machine

/-- Settles O14: the machine's test and the signed difference are both the 48-bit residue of c − t compared with 2^47. -/
theorem satisfiesIsSignedDifference : Obligations.SatisfiesIsSignedDifference := by
  unfold Obligations.SatisfiesIsSignedDifference satisfies toSigned ofSigned
  intro c t hc ht
  refine ⟨?_, decide_eq_true (by omega), ?_⟩
  · simp only [decide_eq_true_eq]
    split <;> omega
  · simp only [decide_eq_false_iff_not]
    omega

/-! ## A count of dropped signals out of its range -/

/-- A part whose SYNC_DROPPED.DROPPED holds 2^32: a value that the 32-bit field cannot be given by a step, but that a state as plain data can hold. -/
def droppedBeyond : State :=
  { m := { stackSet := ⟨{ csr := [(Reg.SYNC_DROPPED_DROPPED.key 0, 2 ^ 32)] }, {}, {}, {}⟩
           boot := { start := none } } }

/-- Refutes O28: an arrival of no signals at object 0 leaves SYNC_DROPPED.DROPPED at 2^32, though the statement has it saturate at 2^32 - 1. -/
theorem not_signalsStallsAndPhases : ¬ Obligations.SignalsStallsAndPhases := by
  intro h
  obtain ⟨arrival, -⟩ := h droppedBeyond 0 (by decide)
  obtain ⟨-, below, -⟩ := arrival 0xFFFF_0000#32 [] 0 (by decide +kernel) (by decide +kernel) (by decide +kernel)
  obtain ⟨t, runs, -, -, -, holds, -⟩ := below (by decide +kernel) (fun other => absurd rfl other)
  have stays : t.m.getF 0 Reg.SYNC_DROPPED_DROPPED 0 = 2 ^ 32 := by
    injection runs with e; rw [← e]; decide +kernel
  have said := holds _ (List.mem_singleton_self _)
  exact absurd (stays.symm.trans said) (by decide +kernel)

/-! ## An atomic across the end of region 3 -/

/-- An ATOM.ADD of 4 bytes that begins 2 bytes below the tier of stack 0. -/
def acrossRegions : AInstr := { op := .add, wide := false, mask := 1, dst := 0, size := 8, reqs := [⟨2 ^ 48 - 2, [(0, 1, 0)], none⟩] }

/-- A part whose core 0 waits for that atomic, while the first byte of the tier of stack 0 is 1. -/
def atomicAcross : State :=
  { m := { stackSet := ⟨{ cores := [(0, { groups := [(0, { block := 0, index := 0, pc := 0 })], atoms := [(0, acrossRegions)] })] }, {}, {}, {}⟩
           tier := { data := [(2 ^ 48, 1)] }
           boot := { start := none } } }

/-- Refutes O29: the bytes of the atomic that lie in the tier are read from the tier, though the statement has their old value from the memory. -/
theorem not_barrierStallsWatchdogsAndAtomicsAtHome : ¬ Obligations.BarrierStallsWatchdogsAndAtomicsAtHome := by
  intro h
  obtain ⟨-, -, home⟩ := h atomicAcross 0 0 (by decide)
  obtain ⟨t, runs, -, -, -, -, -, bytes, -⟩ := home 0 acrossRegions { block := 0, index := 0, pc := 0 } ⟨2 ^ 48 - 2, [(0, 1, 0)], none⟩ []
    (by decide +kernel) (by decide +kernel) rfl rfl rfl (by decide +kernel) (by decide +kernel) (by decide +kernel) (by decide +kernel) (by decide)
    (by decide +kernel) (by decide +kernel) (by decide +kernel)
  have written : t.m.mem.byte (2 ^ 48) = 1 := by
    injection runs with e; rw [← e]; decide +kernel
  exact absurd (written.symm.trans (bytes (2 ^ 48))) (by decide +kernel)

end Sys2Proof.Machine
end


section
/-! SUPPORT. What an instruction leaves that changes its own core alone, and one whose group then waits on an object (R64, R67). -/

namespace Sys2Proof.Machine
set_option Elab.async false

/-! ## A machine of which one core has changed -/

/-- Of the machine m only the core of L on stack s has changed, to d. -/
def OneCore (m n : Mach) (s L : Nat) (d : Core) : Prop :=
  n.noCores = m.noCores ∧ (∀ v M, v ≠ s ∨ M ≠ L → n.core v M = m.core v M) ∧ n.core s L = d ∧ ∀ v f j, n.getF v f j = m.getF v f j

theorem OneCore.updCore (m : Mach) {s : Nat} (L : Nat) (f : Core → Core) (h : s < 4) : OneCore m (m.updCore s L f) s L (f (m.core s L)) :=
  ⟨m.noCores_updCore s L f, fun _ _ ne => m.core_updCore_ne f ne, m.core_updCore_same L f h, fun v g j => m.getF_updCore s L v f g j⟩

/-- The step is counted after a change of the instruction's own core. -/
theorem OneCore.becomes {k : KCtx} {s : State} {m : Mach} {d : Core} (one : OneCore s.m m k.s k.L d) (h : k.s < 4) :
    Becomes k s { s with m := m.stepped k.s k.L } d := by
  obtain ⟨outside, others, own, regs⟩ := one
  refine ⟨⟨rfl, rfl, (m.noCores_stepped _ _).trans outside⟩, fun v M ne => (m.core_stepped_ne ne).trans (others v M ne), ?_,
    fun e mem => (by cases mem), fun v f j _ => (m.getF_stepped _ _ v f j).trans (regs v f j)⟩
  exact ⟨_, by rw [← own]; exact m.core_stepped_same k.L h⟩

/-- A change of the instruction's own core, after others. -/
theorem Becomes.after (k : KCtx) (s : State) (m : Mach) (f : Core → Core) (h : k.s < 4) :
    Becomes k { s with m := m } { s with m := (m.updCore k.s k.L f).stepped k.s k.L } (f (m.core k.s k.L)) :=
  (OneCore.updCore m k.L f h).becomes (s := { s with m := m }) h

theorem Issues.stack_lt {a : KInstr} {s : State} {cls op : Nat} {k : KCtx} {ord : Option Bool} (h : Issues a s cls op k ord) : k.s < 4 :=
  (kernel_issues (fun _ m => m) h).2.2.2.2

/-- What the issue of an instruction answers. -/
theorem Issues.runs {a : KInstr} {s : State} {cls op : Nat} {k : KCtx} {ord : Option Bool} (h : Issues a s cls op k ord) (body : KCtx → Mach → Mach) :
    kernel a s cls op body ord = .next { s with m := (body k s.m).stepped k.s k.L } := (kernel_issues body h).1

/-! ## The group of an instruction -/

/-- A change of the group is a change of its core. -/
theorem KCtx.updGroup_eq (k : KCtx) (m : Mach) (f : Group → Group) : m.updGroup k.s k.L k.slot f = m.updCore k.s k.L (fun c => k.groupOf c f) := by
  unfold Mach.updGroup KCtx.groupOf
  rfl

theorem KCtx.next_eq (k : KCtx) (m : Mach) : k.next m = m.updCore k.s k.L k.goesOn := k.updGroup_eq m _

theorem KCtx.groupOf_some {k : KCtx} {c : Core} {g : Group} (f : Group → Group) (h : SMap.find c.groups k.slot = some g) :
    k.groupOf c f = { c with groups := SMap.put c.groups k.slot (f g) } := by
  unfold KCtx.groupOf
  rw [h]

@[simp] theorem KCtx.groupOf_launch (k : KCtx) (c : Core) (f : Group → Group) : (k.groupOf c f).launch = c.launch := by
  unfold KCtx.groupOf
  split <;> rfl

/-! ## A group that waits on an object -/

theorem SMap.map_put {α β : Type} (f : Nat × α → β) (l : SMap α) (k : Nat) {v w : α} (h : f (k, v) = f (k, w)) :
    (SMap.put l k v).map f = (SMap.put l k w).map f := by
  induction l with
  | nil => simp [SMap.put, h]
  | cons e r ih =>
    obtain ⟨j, x⟩ := e
    simp only [SMap.put]
    split
    · simp [h]
    · split <;> simp [h, ih]

/-- The cores of a stack, as what counts the waiters of an object looks at them. -/
def Core.waiting (c : Core) : SMap Group × SMap AInstr × Nat × Bool × CoreHalt := (c.groups, c.atoms, c.phase, c.ended, c.halt)

theorem Core.waitsOn_congr {c d : Core} (h : c.waiting = d.waiting) (o : Nat) : c.waitsOn o = d.waitsOn o := by
  simp only [Core.waiting, Prod.mk.injEq] at h
  obtain ⟨-, atoms, -⟩ := h
  funext slot g
  unfold Core.waitsOn
  rw [atoms]

/-- Machines of the same plan, with the same fields that say which phase runs, and with the same cores as their waiters go, have the same waiters. -/
theorem Mach.waiters_congr {m n : Mach} {s o : Nat} (cores : (m.stk s).cores.map (fun e => (e.1, e.2.waiting)) = (n.stk s).cores.map (fun e => (e.1, e.2.waiting)))
    (plan : m.plan s = n.plan s) (phase : m.getF s Reg.BUR_PLAN_STATE_PHASE = n.getF s Reg.BUR_PLAN_STATE_PHASE)
    (state : m.getF s Reg.BUR_PLAN_STATE_STATE = n.getF s Reg.BUR_PLAN_STATE_STATE) (count : m.count s o = n.count s o) :
    m.waitersOf s o = n.waitersOf s o ∧ m.coresWaiting s o = n.coresWaiting s o := by
  have lists : ∀ (l l' : SMap Core), l.map (fun e => (e.1, e.2.waiting)) = l'.map (fun e => (e.1, e.2.waiting)) →
      (l.flatMap (fun e => e.2.groups.filterMap (fun g => if e.2.waitsOn o g.1 g.2 then some (e.1, g.1, g.2) else none))) =
        (l'.flatMap (fun e => e.2.groups.filterMap (fun g => if e.2.waitsOn o g.1 g.2 then some (e.1, g.1, g.2) else none))) ∧
      ∀ ph, (l.filter (fun e => decide (ph < e.2.phase) && !e.2.ended && decide (e.2.halt = .none))).length =
        (l'.filter (fun e => decide (ph < e.2.phase) && !e.2.ended && decide (e.2.halt = .none))).length := by
    intro l
    induction l with
    | nil => intro l' h; cases l' with
      | nil => exact ⟨rfl, fun _ => rfl⟩
      | cons _ _ => cases h
    | cons e r ih =>
      intro l' h
      cases l' with
      | nil => cases h
      | cons e' r' =>
        simp only [List.map_cons, List.cons.injEq, Prod.mk.injEq] at h
        obtain ⟨⟨index, unit⟩, rest⟩ := h
        obtain ⟨same, less⟩ := ih r' rest
        have waits := Core.waitsOn_congr unit o
        simp only [Core.waiting, Prod.mk.injEq] at unit
        obtain ⟨groups, -, phase, ended, halt⟩ := unit
        refine ⟨by simp only [List.flatMap_cons, same, index, waits, groups], fun ph => ?_⟩
        simp only [List.filter_cons, phase, ended, halt]
        split
        · simp only [List.length_cons, less ph]
        · exact less ph
  obtain ⟨who, how⟩ := lists _ _ cores
  refine ⟨who, ?_⟩
  unfold Mach.count at count
  unfold Mach.coresWaiting Mach.planRunning
  simp only [phase, state, plan, count, how]

/-- WAITERS of object o, and the run of its stall time, kept in step. -/
theorem Mach.syncWaiters_eq (m : Mach) (s o : Nat) : ∃ q, m.syncWaiters s o =
    (m.updPlan s (fun p => { p with stallDone := q })).setF s Reg.SYNC_STATUS_WAITERS (min ((m.waitersOf s o).length + m.coresWaiting s o) 255) o := by
  unfold Mach.syncWaiters
  dsimp only
  split
  · refine ⟨(m.stk s).plan.stallDone.filter (· ≠ o), ?_⟩
    simp only [Mach.updPlan, Mach.setF]
    match s with
    | 0 | 1 | 2 | 3 | _ + 4 => rfl
  · refine ⟨(m.stk s).plan.stallDone, ?_⟩
    match s with
    | 0 | 1 | 2 | 3 | _ + 4 => rfl

theorem Mach.noCores_setF (m : Mach) (s : Nat) (f : Fld) (v j : Nat) : (m.setF s f v j).noCores = m.noCores := by
  match s with
  | 0 | 1 | 2 | 3 | _ + 4 => rfl

theorem Mach.core_setF (m : Mach) (s : Nat) (f : Fld) (v j u L : Nat) : (m.setF s f v j).core u L = m.core u L := by
  unfold Mach.core
  rw [show ((m.setF s f v j).stk u).cores = (m.stk u).cores from ?_]
  by_cases e : u = s
  · subst e
    match u with
    | 0 | 1 | 2 | 3 | _ + 4 => rfl
  · rw [Mach.setF, Mach.stk_updStk_ne _ _ e]

theorem Mach.core_updPlan (m : Mach) (s : Nat) (f : PlanSt → PlanSt) (u L : Nat) : (m.updPlan s f).core u L = m.core u L := by
  unfold Mach.core
  rw [show ((m.updPlan s f).stk u).cores = (m.stk u).cores from ?_]
  by_cases e : u = s
  · subst e
    match u with
    | 0 | 1 | 2 | 3 | _ + 4 => rfl
  · rw [Mach.updPlan, Mach.stk_updStk_ne _ _ e]

theorem Mach.updCore_updPlan (m : Mach) (s L : Nat) (f : Core → Core) (g : PlanSt → PlanSt) :
    (m.updCore s L f).updPlan s g = (m.updPlan s g).updCore s L f := by
  match s with
  | 0 | 1 | 2 | 3 | _ + 4 => rfl

/-- The count of steps of a core that is listed says nothing of its waiters. -/
theorem Mach.waiting_stepped {m : Mach} {s L : Nat} {l : SMap Core} {c : Core} (h : s < 4) (listed : (m.stk s).cores = SMap.put l L c) :
    ((m.stepped s L).stk s).cores.map (fun e => (e.1, e.2.waiting)) = (m.stk s).cores.map (fun e => (e.1, e.2.waiting)) := by
  have after : ((m.stepped s L).stk s).cores = SMap.put (m.stk s).cores L { m.core s L with steps := (m.core s L).steps + 1 + (m.fresh 16).1 } := by
    rw [Mach.stepped, Mach.updCore, Mach.stk_updStk_same _ _ h]; rfl
  have own : m.core s L = c := by rw [Mach.core, listed, SMap.getD_put_same]
  rw [after, own, listed, SMap.put_put]
  exact SMap.map_put _ _ _ rfl

/-- Fields at different bits of their registers are held apart. -/
theorem key_ne {f g : Fld} {i j : Nat} (h : f.lo % 64 ≠ g.lo % 64) : f.key i ≠ g.key j := by
  unfold Fld.key
  omega

/-- A group of an instruction waits on object o: its core changed by f, the count of the object's waiters and the run of its stall time. -/
theorem Becomes.waits {k : KCtx} (s : State) (f : Core → Core) (o : Nat) (h : k.s < 4) : ∃ q, ∀ t : State,
    t = { s with m := ((s.m.updCore k.s k.L f).syncWaiters k.s o).stepped k.s k.L } →
    Becomes k { s with m := s.m.updPlan k.s (fun p => { p with stallDone := q }) } t (f (s.m.core k.s k.L))
      [(k.s, Reg.SYNC_STATUS_WAITERS, o, min ((t.m.waitersOf k.s o).length + t.m.coresWaiting k.s o) 255)] := by
  obtain ⟨q, kept⟩ := (s.m.updCore k.s k.L f).syncWaiters_eq k.s o
  refine ⟨q, ?_⟩
  rintro t rfl
  have listed : (((s.m.updCore k.s k.L f).syncWaiters k.s o).stk k.s).cores = SMap.put (s.m.stk k.s).cores k.L (f (s.m.core k.s k.L)) := by
    rw [kept]
    generalize k.s = v at h
    match v, h with
    | 0, _ | 1, _ | 2, _ | 3, _ => rfl
  have field : ∀ {x : Fld} {j : Nat}, x.key j ≠ Reg.SYNC_STATUS_WAITERS.key o → ∀ v,
      (((s.m.updCore k.s k.L f).syncWaiters k.s o).stepped k.s k.L).getF v x j = s.m.getF v x j := by
    intro x j apart v
    rw [Mach.getF_stepped, kept, Mach.getF_setF_key _ _ _ _ _ _ _ _ apart, Mach.getF_updPlan, Mach.getF_updCore]
  have others : ∀ v M, (((s.m.updCore k.s k.L f).syncWaiters k.s o).core v M) = (s.m.updCore k.s k.L f).core v M := by
    intro v M
    rw [kept, Mach.core_setF, Mach.core_updPlan]
  have cores : (((s.m.updCore k.s k.L f).syncWaiters k.s o).stk k.s).cores = ((s.m.updCore k.s k.L f).stk k.s).cores := by
    rw [listed, Mach.updCore, Mach.stk_updStk_same _ _ h]; rfl
  have same := Mach.waiters_congr (m := ((s.m.updCore k.s k.L f).syncWaiters k.s o).stepped k.s k.L) (n := s.m.updCore k.s k.L f) (s := k.s) (o := o)
    (by rw [Mach.waiting_stepped h listed, cores])
    (by
      rw [kept]
      generalize k.s = v at h
      match v, h with
      | 0, _ | 1, _ | 2, _ | 3, _ => rfl)
    (by rw [field (key_ne (by decide)), Mach.getF_updCore]) (by rw [field (key_ne (by decide)), Mach.getF_updCore])
    ((field (key_ne (by decide)) k.s).trans (Mach.getF_updCore ..).symm)
  rw [← same.1, ← same.2] at kept
  refine ⟨⟨rfl, rfl, ?_⟩, ?_, ⟨_, (Mach.core_stepped_same _ _ h).trans (by rw [others, Mach.core_updCore_same _ _ _ h])⟩, ?_, ?_⟩
  · rw [Mach.noCores_stepped, kept, Mach.noCores_setF, Mach.updCore_updPlan, Mach.noCores_updCore]
  · intro v M ne
    exact (Mach.core_stepped_ne _ ne).trans ((others v M).trans ((Mach.core_updCore_ne _ _ ne).trans (Mach.core_updPlan ..).symm))
  · intro e mem
    rw [List.mem_singleton.mp mem, Mach.getF_stepped]
    exact (congrArg (fun m => m.getF k.s Reg.SYNC_STATUS_WAITERS o) kept).trans (Mach.getF_setF_same _ _ _ _ h)
  · intro v x j apart
    rw [Mach.getF_updPlan, Mach.getF_stepped, kept]
    have sets := Mach.getF_setFs_notListed [(k.s, Reg.SYNC_STATUS_WAITERS, o, _)] ((s.m.updCore k.s k.L f).updPlan k.s (fun p => { p with stallDone := q })) apart
    exact sets.trans ((Mach.getF_updPlan ..).trans (Mach.getF_updCore ..))

end Sys2Proof.Machine
end


section
/-! SUPPORT. O13: barriers of a block, waits on objects and staged signals (R63, R69, R100, R141, R142). -/

namespace Sys2Proof.Machine
set_option Elab.async false

/-! ## What a change of the program counter leaves of a group -/

theorem Group.settle_keeps (n : Nat) (g : Group) :
    (g.settle n).wait = g.wait ∧ (g.settle n).block = g.block ∧ (g.settle n).index = g.index := by
  induction n generalizing g with
  | zero => exact ⟨rfl, rfl, rfl⟩
  | succ n ih =>
    simp only [Group.settle]
    split
    · exact ⟨rfl, rfl, rfl⟩
    · split
      · split
        · exact ih _
        · exact ih _
      · exact ⟨rfl, rfl, rfl⟩

@[simp] theorem Group.goto_wait (g : Group) (pc : Nat) : (g.goto pc).wait = g.wait := (Group.settle_keeps _ _).1
@[simp] theorem Group.goto_block (g : Group) (pc : Nat) : (g.goto pc).block = g.block := (Group.settle_keeps _ _).2.1

/-! ## Barriers of a block slot that settle -/

/-- A barrier that is looked at: released when it is complete. -/
def Core.settleOne (j : Nat) (c : Core) (n : Nat) : Core := if c.barrierDone j n then c.barrierRelease j n else c

theorem Core.barriersSettle_eq (c : Core) (j : Nat) : c.barriersSettle j = (List.range 4).foldl (Core.settleOne j) c := rfl

theorem SMap.find_map {α : Type} (l : SMap α) (f : Nat × α → Nat × α) (key : ∀ e, (f e).1 = e.1) (k : Nat) :
    SMap.find (l.map f) k = (SMap.find l k).map (fun v => (f (k, v)).2) := by
  induction l with
  | nil => rfl
  | cons e r ih =>
    obtain ⟨j, v⟩ := e
    have head : f (j, v) = (j, (f (j, v)).2) := Prod.ext (key (j, v)) rfl
    rw [List.map_cons, head]
    simp only [SMap.find]
    by_cases here : j = k
    · subst here; simp
    · simp [here, ih]

/-- A group after the release of barrier n of block slot j. -/
theorem Core.find_barrierRelease (c : Core) (j n slot : Nat) : SMap.find (c.barrierRelease j n).groups slot =
    (SMap.find c.groups slot).map (fun g => if c.launch.blockSlot g.block = j ∧ g.wait = .barrier n then { g with wait := .none } else g) := by
  unfold Core.barrierRelease
  dsimp only
  rw [SMap.find_map _ _ (fun e => by split <;> rfl)]
  congr 1
  funext g
  split <;> rfl

/-- The release of a barrier leaves which groups of a block slot live. -/
theorem Core.liveGroups_barrierRelease (c : Core) (j n i : Nat) : (c.barrierRelease j n).liveGroups i = c.liveGroups i := by
  unfold Core.liveGroups
  refine List.filter_congr fun gi _ => ?_
  rw [Core.find_barrierRelease, Option.isSome_map]
  rfl

theorem Core.arrivedAt_barrierRelease (c : Core) {j n i : Nat} (_ : n < 4) (_ : i < 4) (h : i ≠ n) :
    (c.barrierRelease j n).launch.arrivedAt j i = c.launch.arrivedAt j i := by
  unfold Launch.arrivedAt SMap.getD Core.barrierRelease
  dsimp only
  rw [SMap.find_erase_ne _ (by omega)]

/-- What the core keeps of barrier n of block slot j and of the group in a slot while other barriers settle. -/
def Core.AtBarrier (c d : Core) (j n slot : Nat) : Prop :=
  d.liveGroups j = c.liveGroups j ∧ d.launch.arrivedAt j n = c.launch.arrivedAt j n ∧ SMap.find d.groups slot = SMap.find c.groups slot ∧
    ∀ b, d.launch.blockSlot b = c.launch.blockSlot b

theorem Core.AtBarrier.refl (c : Core) (j n slot : Nat) : Core.AtBarrier c c j n slot := ⟨rfl, rfl, rfl, fun _ => rfl⟩

theorem Core.AtBarrier.trans {c d e : Core} {j n slot : Nat} (h : Core.AtBarrier c d j n slot) (i : Core.AtBarrier d e j n slot) :
    Core.AtBarrier c e j n slot := by
  obtain ⟨live, arrived, group, slots⟩ := h
  obtain ⟨live', arrived', group', slots'⟩ := i
  exact ⟨live'.trans live, arrived'.trans arrived, group'.trans group, fun b => (slots' b).trans (slots b)⟩

/-- Another barrier settles. -/
theorem Core.AtBarrier.settleOne (c : Core) {j n i slot : Nat} {g : Group} (n4 : n < 4) (i4 : i < 4) (other : i ≠ n)
    (group : SMap.find c.groups slot = some g) (apart : g.wait ≠ .barrier i) : Core.AtBarrier c (Core.settleOne j c i) j n slot := by
  unfold Core.settleOne
  split
  · refine ⟨c.liveGroups_barrierRelease j i j, c.arrivedAt_barrierRelease i4 n4 (Ne.symm other), ?_, fun _ => rfl⟩
    rw [Core.find_barrierRelease, group, Option.map_some, if_neg (fun h => apart h.2)]
  · exact .refl c j n slot

/-- Other barriers settle, one after another. -/
theorem Core.AtBarrier.settle (l : List Nat) (c : Core) {j n slot : Nat} {g : Group} (n4 : n < 4) (l4 : ∀ i ∈ l, i < 4 ∧ i ≠ n)
    (group : SMap.find c.groups slot = some g) (apart : ∀ i ∈ l, g.wait ≠ .barrier i) : Core.AtBarrier c (l.foldl (Core.settleOne j) c) j n slot := by
  induction l generalizing c with
  | nil => exact .refl c j n slot
  | cons i r ih =>
    obtain ⟨i4, other⟩ := l4 i List.mem_cons_self
    have first := Core.AtBarrier.settleOne c (j := j) n4 i4 other group (apart i List.mem_cons_self)
    have found : SMap.find (Core.settleOne j c i).groups slot = some g := first.2.2.1.trans group
    exact first.trans (ih _ (fun x m => l4 x (List.mem_cons_of_mem _ m)) found fun x m => apart x (List.mem_cons_of_mem _ m))

/-- The barriers before and after barrier n. -/
theorem range4_split {n : Nat} (n4 : n < 4) : ∃ before after, List.range 4 = before ++ n :: after ∧ (∀ i ∈ before, i < 4 ∧ i ≠ n) ∧ ∀ i ∈ after, i < 4 ∧ i ≠ n := by
  match n, n4 with
  | 0, _ => exact ⟨[], [1, 2, 3], rfl, by decide, by decide⟩
  | 1, _ => exact ⟨[0], [2, 3], rfl, by decide, by decide⟩
  | 2, _ => exact ⟨[0, 1], [3], rfl, by decide, by decide⟩
  | 3, _ => exact ⟨[0, 1, 2], [], rfl, by decide, by decide⟩

theorem Core.barrierDone_congr {c d : Core} {j n slot : Nat} (h : Core.AtBarrier c d j n slot) : d.barrierDone j n = c.barrierDone j n := by
  obtain ⟨live, arrived, -, -⟩ := h
  unfold Core.barrierDone
  rw [live, arrived]

/-- A group that waits at barrier n of its block slot j, once the barriers of the block slot have settled: it goes on when barrier n was complete. -/
theorem Core.find_barriersSettle (c : Core) {j n slot : Nat} {g : Group} (n4 : n < 4) (group : SMap.find c.groups slot = some g)
    (waits : g.wait = .barrier n) (block : c.launch.blockSlot g.block = j) :
    SMap.find (c.barriersSettle j).groups slot = some (if c.barrierDone j n then { g with wait := .none } else g) := by
  obtain ⟨before, after, split4, lt, lt'⟩ := range4_split n4
  rw [Core.barriersSettle_eq, split4, List.foldl_append, List.foldl_cons]
  have first := Core.AtBarrier.settle before c (j := j) n4 lt group fun i m => by rw [waits]; simpa using (lt i m).2.symm
  have complete := Core.barrierDone_congr first
  obtain ⟨-, -, found, slots⟩ := first
  have now : SMap.find (Core.settleOne j (before.foldl (Core.settleOne j) c) n).groups slot =
      some (if c.barrierDone j n then { g with wait := .none } else g) := by
    show SMap.find (if (before.foldl (Core.settleOne j) c).barrierDone j n then _ else _ : Core).groups slot = _
    rw [complete]
    split
    · rw [Core.find_barrierRelease, found, group, Option.map_some, if_pos ⟨(slots _).trans block, waits⟩]
    · exact found.trans group
  obtain ⟨-, -, last, -⟩ := Core.AtBarrier.settle after _ (j := j) n4 lt' now fun i m => by
    split
    · simp
    · rw [waits]; simpa using (lt' i m).2.symm
  exact last.trans now

/-! ## BAR.SYNC -/

/-- The core d of k once its group has arrived at barrier n of its block, before the barriers settle (R100). -/
def KCtx.arrives (k : KCtx) (d : Core) (n : Nat) : Core :=
  { (k.groupOf d (fun g => { g with wait := .barrier n }.goto (g.pc + k.size))) with launch := { d.launch with
      arrived := SMap.put d.launch.arrived (d.launch.blockSlot k.g.block * 4 + n) (putBit (d.launch.arrivedAt (d.launch.blockSlot k.g.block) n) k.g.index true)
      stalled := d.launch.stalled.filter (· ≠ d.launch.blockSlot k.g.block * 4 + n) } }

theorem KCtx.arrives_groups {k : KCtx} {d : Core} (n : Nat) (group : SMap.find d.groups k.slot = some k.g) :
    (k.arrives d n).groups = SMap.put d.groups k.slot ({ k.g with wait := .barrier n }.goto (k.g.pc + k.size)) := by
  unfold KCtx.arrives
  rw [KCtx.groupOf_some _ group]

theorem KCtx.liveGroups_arrives {k : KCtx} {d : Core} (n j : Nat) (group : SMap.find d.groups k.slot = some k.g) :
    (k.arrives d n).liveGroups j = d.liveGroups j := by
  unfold Core.liveGroups
  refine List.filter_congr fun gi _ => ?_
  rw [KCtx.arrives_groups n group, SMap.find_put, show (k.arrives d n).launch.slotOf j gi = d.launch.slotOf j gi from rfl]
  split
  · next same => rw [same, group]; rfl
  · rfl

/-- Who has arrived at the barrier then. -/
theorem KCtx.bit_arrives (k : KCtx) (d : Core) (n gi : Nat) :
    bit ((k.arrives d n).launch.arrivedAt (d.launch.blockSlot k.g.block) n) gi =
      if gi = k.g.index then true else bit (d.launch.arrivedAt (d.launch.blockSlot k.g.block) n) gi := by
  rw [show (k.arrives d n).launch.arrivedAt (d.launch.blockSlot k.g.block) n = _ from SMap.getD_put_same _ _ _ _, bit_putBit]

/-- The barrier is complete when every other live group of the block has arrived at it. -/
theorem KCtx.barrierDone_arrives {k : KCtx} {d : Core} (n : Nat) (group : SMap.find d.groups k.slot = some k.g) :
    (k.arrives d n).barrierDone (d.launch.blockSlot k.g.block) n = true ↔
      ∀ gi ∈ d.liveGroups (d.launch.blockSlot k.g.block), gi ≠ k.g.index → bit (d.launch.arrivedAt (d.launch.blockSlot k.g.block) n) gi = true := by
  have own := k.bit_arrives d n k.g.index
  rw [if_pos rfl] at own
  have some : (k.arrives d n).launch.arrivedAt (d.launch.blockSlot k.g.block) n ≠ 0 := by
    intro none
    rw [none] at own
    simp [bit] at own
  unfold Core.barrierDone
  rw [KCtx.liveGroups_arrives n _ group, Bool.and_eq_true, List.all_eq_true, decide_eq_true_eq, and_iff_right some]
  refine forall₂_congr fun gi _ => ?_
  rw [k.bit_arrives]
  split <;> simp [*]

/-- The group of BAR.SYNC once the barriers of its block have settled. -/
theorem KCtx.find_arrives {k : KCtx} {d : Core} {n : Nat} (n4 : n < 4) (group : SMap.find d.groups k.slot = some k.g) :
    SMap.find ((k.arrives d n).barriersSettle (d.launch.blockSlot k.g.block)).groups k.slot =
      some (if (k.arrives d n).barrierDone (d.launch.blockSlot k.g.block) n then
        { ({ k.g with wait := .barrier n }.goto (k.g.pc + k.size)) with wait := .none } else { k.g with wait := .barrier n }.goto (k.g.pc + k.size)) := by
  refine Core.find_barriersSettle _ n4 ?_ ?_ ?_
  · rw [KCtx.arrives_groups n group, SMap.find_put_same]
  · exact Group.goto_wait _ _
  · exact congrArg d.launch.blockSlot (Group.goto_block _ _)

/-- The group waits while another live group of the block has not arrived, and goes on when all have. -/
theorem KCtx.arrived_waits {k : KCtx} {d d' e : Core} {n : Nat} (n4 : n < 4) (group : SMap.find d.groups k.slot = some k.g) (same : d' = d)
    (now : ∃ x, e = { ((k.arrives d' n).barriersSettle (d'.launch.blockSlot k.g.block)) with steps := x }) :
    ((∃ gi ∈ d.liveGroups (d.launch.blockSlot k.g.block), gi ≠ k.g.index ∧ bit (d.launch.arrivedAt (d.launch.blockSlot k.g.block) n) gi = false) →
      SMap.find e.groups k.slot = some ({ k.g with wait := .barrier n }.goto (k.g.pc + k.size))) ∧
    ((∀ gi ∈ d.liveGroups (d.launch.blockSlot k.g.block), gi ≠ k.g.index → bit (d.launch.arrivedAt (d.launch.blockSlot k.g.block) n) gi = true) →
      SMap.find e.groups k.slot = some { ({ k.g with wait := .barrier n }.goto (k.g.pc + k.size)) with wait := .none }) := by
  subst same
  obtain ⟨x, rfl⟩ := now
  have settled := KCtx.find_arrives n4 group
  have complete := KCtx.barrierDone_arrives n group
  refine ⟨fun ⟨gi, live, other, absent⟩ => settled.trans ?_, fun others => settled.trans ?_⟩
  · rw [if_neg]
    intro full
    have here := complete.mp full gi live other
    rw [absent] at here
    cases here
  · rw [if_pos (complete.mpr others)]

/-- No store of the group is on its way: there is none to perform. -/
theorem KCtx.drained_none {k : KCtx} {m : Mach} (none : ∀ p ∈ (m.core k.s k.L).stores, p.slot ≠ k.slot) : k.drained m = (m, true) := by
  unfold KCtx.drained
  simp only [Mach.drain]
  rw [List.find?_eq_none.mpr fun p mem => by simpa using none p mem]

/-- Barriers are numbered 0 to 3 (Table KF-12). -/
theorem Issues.barrier {a : KInstr} {s : State} {k : KCtx} (h : Issues a s 11 0x00 k) : Iw.imm12 k.w < 4 := by
  have legal := h.legal
  obtain ⟨cls, op⟩ := h.word
  unfold encOf at legal
  rw [cls] at legal
  simp only [encSync, op, if_true, Bool.and_eq_true, decide_eq_true_eq] at legal
  omega

/-- What a fence does once the group's stores are performed. -/
theorem KCtx.fenced_drained {k : KCtx} {m : Mach} (drained : (k.drained m).2 = true) (f : Mach → Mach) : k.fenced m f = f (k.drained m).1 := by
  show (if (k.drained m).2 then f (k.drained m).1 else (k.drained m).1) = _
  rw [drained, if_pos rfl]

/-- A group of block b arrives, as number i of it, at barrier n (R100). -/
def Core.arrive (c : Core) (b i n : Nat) : Core :=
  { c with launch := { c.launch with
      arrived := SMap.put c.launch.arrived (c.launch.blockSlot b * 4 + n) (putBit (c.launch.arrivedAt (c.launch.blockSlot b) n) i true)
      stalled := c.launch.stalled.filter (· ≠ c.launch.blockSlot b * 4 + n) } }

theorem KCtx.arrives_eq (k : KCtx) (d : Core) (n : Nat) :
    k.arrives d n = (k.groupOf d (fun g => { g with wait := .barrier n }.goto (g.pc + k.size))).arrive k.g.block k.g.index n := by
  unfold KCtx.arrives Core.arrive
  rw [KCtx.groupOf_launch]

/-- BAR.SYNC at barrier n, once the group's stores are performed. -/
def KCtx.arrival (k : KCtx) (n : Nat) (m : Mach) : Mach :=
  (m.updGroup k.s k.L k.slot (fun g => { g with wait := .barrier n }.goto (g.pc + k.size))).updCore k.s k.L (fun c =>
    (c.arrive k.g.block k.g.index n).barriersSettle (c.launch.blockSlot k.g.block))

/-- The arrival of the group and the barriers that settle are one change of its core. -/
theorem KCtx.arrival_eq (k : KCtx) (m : Mach) (n : Nat) (h : k.s < 4) :
    k.arrival n m = m.updCore k.s k.L (fun d => (k.arrives d n).barriersSettle (d.launch.blockSlot k.g.block)) := by
  rw [KCtx.arrival, KCtx.updGroup_eq, Mach.updCore_updCore _ _ _ _ h]
  refine congrArg (m.updCore k.s k.L) (funext fun d => ?_)
  rw [KCtx.groupOf_launch, KCtx.arrives_eq]

theorem barSync_lands {a : KInstr} {s : State} {k : KCtx} (h : Issues a s 11 0x00 k) (all : k.mask = 0xFFFF_FFFF - k.g.exited)
    (drained : (k.drained s.m).2 = true) :
    exec (.barSync a) s = .next { s with m := ((k.drained s.m).1.updCore k.s k.L
      (fun d => (k.arrives d (Iw.imm12 k.w)).barriersSettle (d.launch.blockSlot k.g.block))).stepped k.s k.L } := by
  have noLane : lowestBit (0xFFFF_FFFF - k.g.exited - k.mask) 32 = none := by rw [all, Nat.sub_self]; rfl
  have issued := h.runs (fun k m =>
    match lowestBit (0xFFFF_FFFF - k.g.exited - k.mask) 32 with
    | some l => k.fault m 7 l 0
    | none => k.fenced m (k.arrival (Iw.imm12 k.w)))
  simp only [noLane, KCtx.fenced_drained drained, KCtx.arrival_eq k _ _ h.stack_lt] at issued
  exact issued

theorem barSync_holds {a : KInstr} {s : State} {k : KCtx} (h : Issues a s 11 0x00 k) (all : k.mask = 0xFFFF_FFFF - k.g.exited)
    (drained : (k.drained s.m).2 = true) :
    let c := s.m.core k.s k.L
    let n := Iw.imm12 k.w
    let j := c.launch.blockSlot k.g.block
    let d := (k.drained s.m).1.core k.s k.L
    Lands (.barSync a) s (fun t =>
      Becomes k { s with m := (k.drained s.m).1 } t ((k.arrives d n).barriersSettle (d.launch.blockSlot k.g.block)) ∧
      ((∀ p ∈ c.stores, p.slot ≠ k.slot) →
        ((∃ gi ∈ c.liveGroups j, gi ≠ k.g.index ∧ bit (c.launch.arrivedAt j n) gi = false) →
          SMap.find (t.m.core k.s k.L).groups k.slot = some ({ k.g with wait := .barrier n }.goto (k.g.pc + k.size))) ∧
        ((∀ gi ∈ c.liveGroups j, gi ≠ k.g.index → bit (c.launch.arrivedAt j n) gi = true) →
          SMap.find (t.m.core k.s k.L).groups k.slot = some { ({ k.g with wait := .barrier n }.goto (k.g.pc + k.size)) with wait := .none }))) := by
  intro c n j d
  have becomes := Becomes.after k s (k.drained s.m).1 (fun d => (k.arrives d n).barriersSettle (d.launch.blockSlot k.g.block)) h.stack_lt
  refine ⟨_, barSync_lands h all drained, becomes, fun none => ?_⟩
  obtain ⟨-, -, own, -⟩ := becomes
  exact KCtx.arrived_waits h.barrier h.group (by rw [KCtx.drained_none none]) own

/-! ## Waits on objects -/

theorem waitObj_holds {a : KInstr} {s : State} {k : KCtx} {c : Instr} {op : Nat} {eq : Bool} (h : Issues a s 11 op k)
    (runs : exec c s = kernel a s 11 op (fun k m => k.waitObj m eq)) :
    (k.lowest = none → Moves c s k (k.g.goto (k.g.pc + k.size))) ∧
    (∀ l, k.lowest = some l →
      let h := k.a s.m l
      let t0 := k.get s.m l (Iw.srcB k.w) 2 % 2 ^ 48
      let o := handleObj h
      handleBad h = false → handleSdid h = s.m.sdid k.s → 64 ≤ o →
      ((if eq then s.m.count k.s o = t0 else satisfies (s.m.count k.s o) t0 = true) → Lands c s (fun t => Becomes k s t
        (k.groupOf (k.lanes.foldl (fun c l => c.setReg k.slot l (bits k.w 17 5) { val := BitVec.ofNat 32 (s.m.getF k.s Reg.SYNC_STATUS_FAIL_CODE o) })
            (s.m.core k.s k.L))
          (fun g => ({ g with wait := .none }.setPred (Iw.pd k.w) k.mask (fun _ => s.m.getB k.s Reg.SYNC_STATUS_FAILED o)).goto (g.pc + 8))))) ∧
      (¬(if eq then s.m.count k.s o = t0 else satisfies (s.m.count k.s o) t0 = true) → Lands c s (fun t => ∃ q,
        Becomes k { s with m := s.m.updPlan k.s (fun p => { p with stallDone := q }) } t
          (k.groupOf (s.m.core k.s k.L) (fun g => { g with wait := .obj o t0 eq (Iw.pd k.w) (bits k.w 17 5) k.mask }))
          [(k.s, Reg.SYNC_STATUS_WAITERS, o, min ((t.m.waitersOf k.s o).length + t.m.coresWaiting k.s o) 255)]))) := by
  have l4 := h.stack_lt
  have issued := h.runs (fun k m => k.waitObj m eq)
  refine ⟨fun none => ⟨_, runs.trans issued, ?_⟩, fun l low => ?_⟩
  · unfold KCtx.waitObj
    rw [none]
    exact moved_spec _ l4 h.group
  · intro hd t0 o good own above
    have legal : ¬(handleBad hd = true ∨ handleSdid hd ≠ s.m.sdid k.s ∨ o < 64) := by
      rw [good, own]
      simpa using above
    have body : k.waitObj s.m eq = if (if eq then s.m.count k.s o = t0 else satisfies (s.m.count k.s o) t0 = true) then
        s.m.releaseWait k.s k.L k.slot o (Iw.pd k.w) (bits k.w 17 5) k.mask
      else (s.m.updGroup k.s k.L k.slot (fun g => { g with wait := .obj o t0 eq (Iw.pd k.w) (bits k.w 17 5) k.mask })).syncWaiters k.s o := by
      unfold KCtx.waitObj
      rw [low]
      dsimp only
      rw [if_neg legal]
    rw [body] at issued
    refine ⟨fun goes => ⟨_, runs.trans issued, ?_⟩, fun waits => ?_⟩
    · rw [if_pos goes]
      unfold Mach.releaseWait
      dsimp only
      rw [KCtx.updGroup_eq, Mach.updCore_updCore _ _ _ _ l4]
      exact Becomes.after k s s.m _ l4
    · rw [if_neg waits, KCtx.updGroup_eq] at issued
      obtain ⟨q, becomes⟩ := Becomes.waits s (fun c => k.groupOf c (fun g => { g with wait := .obj o t0 eq (Iw.pd k.w) (bits k.w 17 5) k.mask })) o l4
      exact ⟨_, runs.trans issued, q, becomes _ rfl⟩

/-! ## Staged operations -/

/-- An operation is staged, last. -/
theorem KCtx.stage_becomes {k : KCtx} (s : State) (x : Staged) (h : k.s < 4) :
    Becomes k s { s with m := (k.stage s.m x).stepped k.s k.L } (k.goesOn { s.m.core k.s k.L with staged := (s.m.core k.s k.L).staged ++ [x] }) := by
  unfold KCtx.stage
  rw [KCtx.next_eq, Mach.updCore_updCore _ _ _ _ h]
  exact Becomes.after k s s.m _ h

theorem stage_lands {a : KInstr} {s : State} {k : KCtx} {c : Instr} {op : Nat} {body : KCtx → Mach → Mach} {x : Staged} (h : Issues a s 11 op k)
    (runs : exec c s = kernel a s 11 op body) (stages : body k s.m = k.stage s.m x) :
    Lands c s (fun t => Becomes k s t (k.goesOn { s.m.core k.s k.L with staged := (s.m.core k.s k.L).staged ++ [x] })) := by
  have l4 := h.stack_lt
  have issued := h.runs body
  rw [stages] at issued
  exact ⟨_, runs.trans issued, KCtx.stage_becomes s x l4⟩

/-- No lane acts: the group goes on. -/
theorem next_lands {a : KInstr} {s : State} {k : KCtx} {c : Instr} {op : Nat} {body : KCtx → Mach → Mach} (h : Issues a s 11 op k)
    (runs : exec c s = kernel a s 11 op body) (goes : body k s.m = k.next s.m) : Moves c s k (k.g.goto (k.g.pc + k.size)) := by
  have l4 := h.stack_lt
  have issued := h.runs body
  rw [goes] at issued
  exact ⟨_, runs.trans issued, moved_spec _ l4 h.group⟩

/-- Settles O13: BAR.SYNC by what barriers keep while others settle, waits and staged signals as changes of one core. -/
theorem barriersWaitsAndStagedSignals : Obligations.BarriersWaitsAndStagedSignals := by
  unfold Obligations.BarriersWaitsAndStagedSignals
  intro a s k
  refine ⟨fun h all _ drained => barSync_holds h all drained, ?_, ?_, ?_⟩
  · simp only [List.forall_mem_cons, List.not_mem_nil, false_implies, implies_true, and_true]
    exact ⟨fun h => waitObj_holds (eq := false) h rfl, fun h => waitObj_holds (eq := true) h rfl⟩
  · simp only [List.forall_mem_cons, List.not_mem_nil, false_implies, implies_true, and_true]
    exact ⟨fun h none => next_lands h rfl (by rw [none]), fun h none => next_lands h rfl (by rw [none]), fun h none => next_lands h rfl (by rw [none])⟩
  · intro l low good
    refine ⟨fun h positive most => ?_, fun h positive most some code => ?_, fun h own above => ?_⟩
    · refine stage_lands h rfl ?_
      rw [low]
      dsimp only
      rw [if_neg (by omega), if_neg (by simp [good])]
    · refine stage_lands h rfl ?_
      rw [low]
      dsimp only
      rw [if_neg (by omega), if_neg (by simp [good])]
    · refine stage_lands h rfl ?_
      rw [low]
      dsimp only
      rw [if_neg]
      simp [good, own, above]

end Sys2Proof.Machine
end


section
/-! SUPPORT. O12: an atomic instruction forms its requests, one per location, and waits for them or ends (R70, R113 to R116, R140). -/

namespace Sys2Proof.Machine
set_option Elab.async false

/-! ## One request per location -/

theorem requestsOf_addr (fuel : Nat) (l : List (Nat × Nat × Nat × Nat)) : ∀ x ∈ requestsOf fuel l, ∃ e ∈ l, e.2.1 = x.1 := by
  induction fuel generalizing l with
  | zero => intro x mem; cases mem
  | succ fuel ih =>
    cases l with
    | nil => intro x mem; cases mem
    | cons e r =>
      intro x mem
      simp only [requestsOf] at mem
      rcases List.mem_cons.mp mem with rfl | mem
      · exact ⟨e, List.mem_cons_self, rfl⟩
      · obtain ⟨f, here, addr⟩ := ih _ x mem
        exact ⟨f, List.mem_of_mem_filter here, addr⟩

theorem requestsOf_nodup (fuel : Nat) (l : List (Nat × Nat × Nat × Nat)) : ((requestsOf fuel l).map (·.1)).Nodup := by
  induction fuel generalizing l with
  | zero => exact List.nodup_nil
  | succ fuel ih =>
    cases l with
    | nil => exact List.nodup_nil
    | cons e r =>
      simp only [requestsOf, List.map_cons, List.nodup_cons]
      refine ⟨fun mem => ?_, ih _⟩
      obtain ⟨x, here, addr⟩ := List.mem_map.mp mem
      obtain ⟨f, left, same⟩ := requestsOf_addr fuel _ x here
      have apart := List.of_mem_filter left
      simp [same, addr] at apart

/-- The requests sent are those formed, numbered or not. -/
theorem KCtx.atomReqs_addr (k : KCtx) (m : Mach) (ord : Bool) : ((k.atomReqs m ord).2.map (·.addr)).Nodup := by
  have fold : ∀ (l : List (Nat × List (Nat × Nat × Nat))) (t : Nat × List AReq),
      (l.foldl (fun (t : Nat × List AReq) e =>
        if m.inBuf k.s 3 e.1 (4 * k.atomRegs) (some (coreWord k.s k.L)) then (t.1, t.2 ++ [⟨e.1, e.2, none⟩])
        else (t.1 + 1, t.2 ++ [⟨e.1, e.2, some t.1⟩])) t).2.map (·.addr) = t.2.map (·.addr) ++ l.map (·.1) := by
    intro l
    induction l with
    | nil => intro t; simp
    | cons e r ih =>
      intro t
      rw [List.foldl_cons, ih]
      split <;> simp
  unfold KCtx.atomReqs
  dsimp only
  rw [fold]
  exact requestsOf_nodup _ _

/-- The requests that the instruction waits for lie at different locations. -/
theorem KCtx.atomInstr_nodup (k : KCtx) (m : Mach) (ord : Bool) : ((k.atomInstr m ord).reqs.map (·.addr)).Nodup :=
  (k.atomReqs_addr m ord).sublist (List.filter_sublist.map _)

/-! ## Registers written, groups apart -/

theorem Core.setOperand_groups (c : Core) (q : SMap Group) (slot l r n v : Nat) :
    ({ c with groups := q } : Core).setOperand slot l r n v = { c.setOperand slot l r n v with groups := q } := by
  unfold Core.setOperand
  induction List.range n generalizing c with
  | nil => rfl
  | cons i t ih =>
    have one : ∀ w, ({ c with groups := q } : Core).setReg slot l (r + i) w = { c.setReg slot l (r + i) w with groups := q } := by
      intro w
      unfold Core.setReg
      split <;> rfl
    rw [List.foldl_cons, List.foldl_cons, one, ih]

theorem Core.setOperands_groups (got : List (Nat × Nat)) (c : Core) (q : SMap Group) (slot r n : Nat) :
    got.foldl (fun d e => d.setOperand slot e.1 r n e.2) { c with groups := q } =
      { got.foldl (fun d e => d.setOperand slot e.1 r n e.2) c with groups := q } := by
  induction got generalizing c with
  | nil => rfl
  | cons e t ih => rw [List.foldl_cons, List.foldl_cons, Core.setOperand_groups, ih]

theorem Core.setOperands_same (got : List (Nat × Nat)) (c : Core) (slot r n : Nat) :
    (got.foldl (fun d e => d.setOperand slot e.1 r n e.2) c).groups = c.groups := by
  induction got generalizing c with
  | nil => rfl
  | cons e t ih =>
    rw [List.foldl_cons, ih]
    obtain ⟨q, only⟩ := c.setOperand_only slot e.1 r n e.2
    rw [only]

/-! ## The instruction -/

/-- The core of k with its count of journalled atomics, in the unit's list and in the group. -/
def KCtx.atomCounted (k : KCtx) (count : Nat) (c : Core) : Core :=
  k.groupOf { c with atomNs := SMap.put c.atomNs (k.g.block * 32 + k.g.index) count } (fun g => { g with atomN := count })

/-- The core once the instruction waits for its requests. -/
def KCtx.atomWaits (k : KCtx) (count : Nat) (a : AInstr) (come : Bool) (c : Core) : Core :=
  let d := k.atomCounted count c
  k.groupOf { d with atoms := SMap.put d.atoms k.slot a } (fun g => { g with wait := .atomic, ordered := come })

/-- The core once an instruction without requests has ended. -/
def KCtx.atomEnds (k : KCtx) (count : Nat) (a : AInstr) (c : Core) : Core :=
  let d := k.atomCounted count c
  k.groupOf (a.got.foldl (fun d e => d.setOperand k.slot e.1 a.dst k.atomRegs e.2) { d with atoms := SMap.erase d.atoms k.slot })
    (fun g => { g with wait := .none, ordered := false }.goto (g.pc + k.size))

theorem KCtx.atomCounted_eq {k : KCtx} {c : Core} (count : Nat) (group : SMap.find c.groups k.slot = some k.g) :
    k.atomCounted count c = { c with atomNs := SMap.put c.atomNs (k.g.block * 32 + k.g.index) count
                                     groups := SMap.put c.groups k.slot { k.g with atomN := count } } :=
  KCtx.groupOf_some _ group

theorem KCtx.atomWaits_eq {k : KCtx} {c : Core} (count : Nat) (a : AInstr) (come : Bool) (group : SMap.find c.groups k.slot = some k.g) :
    k.atomWaits count a come c = { c with
      atomNs := SMap.put c.atomNs (k.g.block * 32 + k.g.index) count
      atoms := SMap.put c.atoms k.slot a
      groups := SMap.put c.groups k.slot { k.g with wait := .atomic, ordered := come, atomN := count } } := by
  unfold KCtx.atomWaits
  dsimp only
  rw [KCtx.atomCounted_eq count group, KCtx.groupOf_some (g := { k.g with atomN := count }) _ (SMap.find_put_same _ _ _), SMap.put_put]

theorem KCtx.atomEnds_eq {k : KCtx} {c : Core} (count : Nat) (a : AInstr) (group : SMap.find c.groups k.slot = some k.g) :
    k.atomEnds count a c =
      k.groupOf (a.got.foldl (fun d e => d.setOperand k.slot e.1 a.dst k.atomRegs e.2)
          { c with atomNs := SMap.put c.atomNs (k.g.block * 32 + k.g.index) count, atoms := SMap.erase c.atoms k.slot })
        (fun _ => { k.g with wait := .none, ordered := false, atomN := count }.goto (k.g.pc + k.size)) := by
  have written := Core.setOperands_groups a.got
    { c with atomNs := SMap.put c.atomNs (k.g.block * 32 + k.g.index) count, atoms := SMap.erase c.atoms k.slot }
    (SMap.put c.groups k.slot { k.g with atomN := count }) k.slot a.dst k.atomRegs
  unfold KCtx.atomEnds
  dsimp only
  rw [KCtx.atomCounted_eq count group]
  dsimp only at written ⊢
  rw [written, KCtx.groupOf_some (g := { k.g with atomN := count }) _ (SMap.find_put_same _ _ _),
    KCtx.groupOf_some (g := k.g) _ (by rw [Core.setOperands_same]; exact group), SMap.put_put, Core.setOperands_same]

/-- The two updates that count the journalled atomics are one change of the core. -/
theorem KCtx.atomCounts_eq (k : KCtx) (m : Mach) (count : Nat) (h : k.s < 4) :
    (m.updCore k.s k.L (fun c => { c with atomNs := SMap.put c.atomNs (k.g.block * 32 + k.g.index) count })).updGroup k.s k.L k.slot
      (fun g => { g with atomN := count }) = m.updCore k.s k.L (k.atomCounted count) := by
  rw [KCtx.updGroup_eq, Mach.updCore_updCore _ _ _ _ h]
  rfl

theorem KCtx.atomWaits_upd (k : KCtx) (m : Mach) (count : Nat) (a : AInstr) (come : Bool) (h : k.s < 4) :
    ((m.updCore k.s k.L (k.atomCounted count)).updCore k.s k.L (fun c => { c with atoms := SMap.put c.atoms k.slot a })).updGroup k.s k.L k.slot
      (fun g => { g with wait := .atomic, ordered := come }) = m.updCore k.s k.L (k.atomWaits count a come) := by
  rw [KCtx.updGroup_eq, Mach.updCore_updCore _ _ _ _ h, Mach.updCore_updCore _ _ _ _ h]
  rfl

theorem KCtx.atomEnds_upd (k : KCtx) (m : Mach) (count : Nat) (a : AInstr) (dead : a.dead = []) (wide : a.wide = k.atomWide) (size : a.size = k.size)
    (h : k.s < 4) : (m.updCore k.s k.L (k.atomCounted count)).atomFinish k.s k.L k.slot a = m.updCore k.s k.L (k.atomEnds count a) := by
  unfold Mach.atomFinish
  dsimp only
  rw [KCtx.updGroup_eq, Mach.updCore_updCore _ _ _ _ h, Mach.updCore_updCore _ _ _ _ h, dead, wide, size]
  rfl

/-- What an atomic instruction without a fault does: a change of its core, and of the count of the waiters of its object. -/
theorem KCtx.atomic_eq {k : KCtx} {m : Mach} {n : Nat} {ord : Bool} (legal : k.atomFault m n ord = none) (h : k.s < 4) :
    k.atomic m n ord =
      if (k.atomInstr m ord).reqs = [] then m.updCore k.s k.L (k.atomEnds (k.atomReqs m ord).1 (k.atomInstr m ord))
      else if ord then (m.updCore k.s k.L (k.atomWaits (k.atomReqs m ord).1 (k.atomInstr m ord)
        (ord && decide (m.count k.s (handleObj (k.atomHandle m)) = k.x % 2 ^ 48)))).syncWaiters k.s (handleObj (k.atomHandle m))
      else m.updCore k.s k.L (k.atomWaits (k.atomReqs m ord).1 (k.atomInstr m ord) (ord && decide (m.count k.s (handleObj (k.atomHandle m)) = k.x % 2 ^ 48))) := by
  unfold KCtx.atomic
  rw [legal]
  dsimp only
  rw [KCtx.atomCounts_eq _ _ _ h, KCtx.atomEnds_upd k m _ _ rfl rfl rfl h, KCtx.atomWaits_upd k m _ _ _ h]

section
variable {a : KInstr} {s : State} {k : KCtx} {c : Instr} {op : Nat} {ord : Bool}

/-- An instruction that waits for its requests, and one that has ended. -/
theorem atomic_waits (h : Issues a s 10 op k (some false)) (legal : k.atomFault s.m s.fuse.part.stackCount false = none)
    (runs : exec c s = kernel a s 10 op (fun k m => k.atomic m s.fuse.part.stackCount false) (some false)) (some : (k.atomInstr s.m false).reqs ≠ []) :
    Lands c s (fun t => Becomes k s t (k.atomWaits (k.atomReqs s.m false).1 (k.atomInstr s.m false) false (s.m.core k.s k.L))) := by
  have issued := h.runs (fun k m => k.atomic m s.fuse.part.stackCount false)
  rw [KCtx.atomic_eq legal h.stack_lt, if_neg some, if_neg (by decide)] at issued
  exact ⟨_, runs.trans issued, Becomes.after k s s.m _ h.stack_lt⟩

theorem atomic_ends (h : Issues a s 10 op k (some ord)) (legal : k.atomFault s.m s.fuse.part.stackCount ord = none)
    (runs : exec c s = kernel a s 10 op (fun k m => k.atomic m s.fuse.part.stackCount ord) (some ord)) (none : (k.atomInstr s.m ord).reqs = []) :
    Lands c s (fun t => Becomes k s t (k.atomEnds (k.atomReqs s.m ord).1 (k.atomInstr s.m ord) (s.m.core k.s k.L))) := by
  have issued := h.runs (fun k m => k.atomic m s.fuse.part.stackCount ord)
  rw [KCtx.atomic_eq legal h.stack_lt, if_pos none] at issued
  exact ⟨_, runs.trans issued, Becomes.after k s s.m _ h.stack_lt⟩

/-- An ordered one waits for its ticket too. -/
theorem ordered_waits (h : Issues a s 10 op k (some true)) (legal : k.atomFault s.m s.fuse.part.stackCount true = none)
    (runs : exec c s = kernel a s 10 op (fun k m => k.atomic m s.fuse.part.stackCount true) (some true)) (some : (k.atomInstr s.m true).reqs ≠ []) :
    Lands c s (fun t => ∃ q, Becomes k { s with m := s.m.updPlan k.s (fun p => { p with stallDone := q }) } t
      (k.atomWaits (k.atomReqs s.m true).1 (k.atomInstr s.m true) (decide (s.m.count k.s (handleObj (k.atomHandle s.m)) = k.x % 2 ^ 48)) (s.m.core k.s k.L))
      [(k.s, Reg.SYNC_STATUS_WAITERS, handleObj (k.atomHandle s.m),
        min ((t.m.waitersOf k.s (handleObj (k.atomHandle s.m))).length + t.m.coresWaiting k.s (handleObj (k.atomHandle s.m))) 255)]) := by
  have issued := h.runs (fun k m => k.atomic m s.fuse.part.stackCount true)
  rw [KCtx.atomic_eq legal h.stack_lt, if_neg some, if_pos rfl, Bool.true_and] at issued
  obtain ⟨q, becomes⟩ := Becomes.waits s (k.atomWaits (k.atomReqs s.m true).1 (k.atomInstr s.m true)
    (decide (s.m.count k.s (handleObj (k.atomHandle s.m)) = k.x % 2 ^ 48))) (handleObj (k.atomHandle s.m)) h.stack_lt
  exact ⟨_, runs.trans issued, q, becomes _ rfl⟩

end

/-- The word that issues is that of the plain form. -/
theorem Issues.plainWord {a : KInstr} {s : State} {cls op : Nat} {k : KCtx} (h : Issues a s cls op k (some false)) : Iw.op k.w = op := by
  obtain ⟨-, -, -, -, -, -, -, -, is, reserved, -⟩ := h
  simp only [isInstr, reserved, Bool.false_or, Bool.and_eq_true, decide_eq_true_eq] at is
  exact is.2.1

/-- A plain atomic operation of number op (Table KF-11). -/
theorem atomic_holds {a : KInstr} {s : State} {k : KCtx} {c : Instr} {op : Nat} {kind : AOp}
    (runs : exec c s = kernel a s 10 op (fun k m => k.atomic m s.fuse.part.stackCount false) (some false)) (named : AOp.ofOp op = kind)
    (h : Issues a s 10 op k (some false)) (legal : k.atomFault s.m s.fuse.part.stackCount false = none) :
    let d := s.m.core k.s k.L
    let i := k.atomInstr s.m false
    let count := (k.atomReqs s.m false).1
    let counted := { d with atomNs := SMap.put d.atomNs (k.g.block * 32 + k.g.index) count }
    i.op = kind ∧ i.mask = k.mask ∧ i.dst = Iw.dst k.w ∧ i.ord = none ∧ (i.reqs.map (·.addr)).Nodup ∧
    (i.reqs ≠ [] → Lands c s (fun t => Becomes k s t { counted with
      atoms := SMap.put d.atoms k.slot i, groups := SMap.put d.groups k.slot { k.g with wait := .atomic, ordered := false, atomN := count } })) ∧
    (i.reqs = [] → Lands c s (fun t => Becomes k s t
      (k.groupOf (i.got.foldl (fun d e => d.setOperand k.slot e.1 (Iw.dst k.w) k.atomRegs e.2) { counted with atoms := SMap.erase d.atoms k.slot })
        (fun _ => { k.g with wait := .none, ordered := false, atomN := count }.goto (k.g.pc + k.size))))) := by
  refine ⟨(congrArg AOp.ofOp h.plainWord).trans named, rfl, rfl, rfl, k.atomInstr_nodup s.m false, fun some => ?_, fun none => ?_⟩
  · have lands := atomic_waits h legal runs some
    rw [KCtx.atomWaits_eq _ _ _ h.group] at lands
    exact lands
  · have lands := atomic_ends h legal runs none
    rw [KCtx.atomEnds_eq _ _ h.group] at lands
    exact lands

/-- Settles O12: an atomic instruction changes its core in one way when it waits and in another when it has nothing to wait for. -/
theorem atomicsSendTheirRequests : Obligations.AtomicsSendTheirRequests := by
  unfold Obligations.AtomicsSendTheirRequests
  intro a s k
  refine ⟨?_, fun h legal => ⟨rfl, rfl, rfl, k.atomInstr_nodup s.m true, fun some => ?_, fun none => ?_⟩⟩
  · simp only [List.forall_mem_cons, List.not_mem_nil, false_implies, implies_true, and_true]
    exact ⟨atomic_holds rfl rfl, atomic_holds rfl rfl, atomic_holds rfl rfl, atomic_holds rfl rfl, atomic_holds rfl rfl, atomic_holds rfl rfl,
      atomic_holds rfl rfl, atomic_holds rfl rfl, atomic_holds rfl rfl, atomic_holds rfl rfl, atomic_holds rfl rfl⟩
  · have lands := ordered_waits (c := .atomOrd a) h legal rfl some
    rw [KCtx.atomWaits_eq _ _ _ h.group] at lands
    exact lands
  · have lands := atomic_ends (c := .atomOrd a) h legal rfl none
    rw [KCtx.atomEnds_eq _ _ h.group] at lands
    exact lands

end Sys2Proof.Machine
end


section
/-! SUPPORT. The registers of one core's block (region 0x8 offsets below 864 · 0x10000): what an operation that keeps them in step leaves. -/

namespace Sys2Proof.Machine
set_option Elab.async false

/-! ## Registers of a core's block -/

/-- A field of the block of each of the 864 physical positions. -/
def blockFld (f : Fld) : Bool :=
  decide (f.lo < 64) && decide (f.reg.base < 0x1_0000) && decide (f.reg.outer = 0) && decide (f.reg.inner = 864) && decide (f.reg.stride = 0x1_0000)

/-- Its copy at p lies in the block of p. -/
theorem blockFld_key {f : Fld} (h : blockFld f = true) (p : Nat) : f.key p / 64 / 0x1_0000 = p % 864 := by
  simp only [blockFld, Bool.and_eq_true, decide_eq_true_eq] at h
  obtain ⟨⟨⟨⟨lo, base⟩, outer⟩, inner⟩, stride⟩ := h
  rw [key_place lo outer, inner, stride]
  omega

/-- A field whose copies all lie above the blocks of cores. -/
theorem not_block_key {f : Fld} (lo : f.lo < 64) (above : 0x360_0000 ≤ f.reg.base) (i p : Nat) : f.key i / 64 / 0x1_0000 ≠ p % 864 := by
  rw [f.key_div i lo, RegDef.off]
  have := Nat.mod_lt p (by decide : 864 > 0)
  omega

/-- Of the machine m only registers of the block of p, on stack u, have changed. -/
def OwnRegs (u p : Nat) (m n : Mach) : Prop := ∃ fs : List (Fld × Nat), (∀ e ∈ fs, blockFld e.1 = true) ∧ n = m.setFs (fs.map (fun e => (u, e.1, p, e.2)))

namespace OwnRegs
variable {u p : Nat} {m n : Mach}

theorem refl (u p : Nat) (m : Mach) : OwnRegs u p m m := ⟨[], fun _ h => (by cases h), rfl⟩

theorem trans {o : Mach} (h : OwnRegs u p m n) (g : OwnRegs u p n o) : OwnRegs u p m o := by
  obtain ⟨fs, own, rfl⟩ := h
  obtain ⟨gs, own', rfl⟩ := g
  refine ⟨fs ++ gs, fun e mem => (List.mem_append.mp mem).elim (own e) (own' e), ?_⟩
  rw [List.map_append, Mach.setFs, Mach.setFs, Mach.setFs, List.foldl_append]

theorem setF (u p : Nat) (m : Mach) (f : Fld) (v : Nat) (h : blockFld f = true) : OwnRegs u p m (m.setF u f v p) :=
  ⟨[(f, v)], fun e mem => by rw [List.mem_singleton.mp mem]; exact h, rfl⟩

/-- A field outside the block. -/
theorem getF (h : OwnRegs u p m n) {v : Nat} {f : Fld} {j : Nat} (apart : ¬(v = u ∧ f.key j / 64 / 0x1_0000 = p % 864)) : n.getF v f j = m.getF v f j := by
  obtain ⟨fs, own, rfl⟩ := h
  refine Mach.getF_setFs_notListed _ m fun e mem same => apart ?_
  obtain ⟨x, mx, rfl⟩ := List.mem_map.mp mem
  exact ⟨same.1.symm, by rw [← same.2]; exact blockFld_key (own x mx) p⟩

/-- A field above the blocks of cores. -/
theorem getF_above (h : OwnRegs u p m n) (v : Nat) {f : Fld} (j : Nat) (lo : f.lo < 64) (above : 0x360_0000 ≤ f.reg.base) : n.getF v f j = m.getF v f j :=
  h.getF fun same => not_block_key lo above j p same.2

theorem noRegs (h : OwnRegs u p m n) : n.noRegs = m.noRegs := by
  obtain ⟨fs, -, rfl⟩ := h
  exact Mach.noRegs_setFs _ m

theorem core (h : OwnRegs u p m n) (v M : Nat) : n.core v M = m.core v M := by
  obtain ⟨fs, -, rfl⟩ := h
  generalize fs.map (fun e => (u, e.1, p, e.2)) = l
  induction l generalizing m with
  | nil => rfl
  | cons e r ih => rw [Mach.setFs_cons, ih, Mach.core_setF]

theorem physOf (h : OwnRegs u p m n) (v L : Nat) : n.physOf v L = m.physOf v L := h.getF_above v L (by decide) (by decide)

theorem mem (h : OwnRegs u p m n) : n.mem = m.mem := (congrArg Mach.mem h.noRegs :)

end OwnRegs

/-- A command at core L has changed the machine by g beside registers of the block of the core. -/
theorem Works.of_own {s : State} {u L : Nat} {m n : Mach} {g : Mach → Mach} (same : SameFields s.m m) (own : OwnRegs u (s.m.physOf u L) m n)
    (rest : m.noRegs = g s.m.noRegs) : Works s { s with m := n } u L [] g :=
  ⟨rfl, rfl, own.noRegs.trans rest, fun _ h => (by cases h), fun v f j apart _ => (own.getF apart).trans (same v f j)⟩

/-- The same of a command that leaves the values listed. -/
theorem Works.holds {s t : State} {u L : Nat} {fs : List FieldVal} {g : Mach → Mach} (w : Works s t u L [] g) (h : Holds t fs) : Works s t u L fs g := by
  obtain ⟨fuse, pending, rest, -, regs⟩ := w
  exact ⟨fuse, pending, rest, h, fun v f j apart _ => regs v f j apart fun _ mem => by cases mem⟩

/-! ## Registers kept in step with a core -/

theorem OwnRegs.syncLaunch (m : Mach) (u L : Nat) : OwnRegs u (m.physOf u L) m (m.syncLaunch u L) := by
  refine ⟨[(Reg.CORE_LAUNCH_BLOCK_NEXT, _), (Reg.CORE_LAUNCH_BLOCKS_RESIDENT, _), (Reg.CORE_LAUNCH_GROUPS_RESIDENT, _), (Reg.CORE_LAUNCH_K, _),
    (Reg.CORE_LAUNCH_ACTIVE, _), (Reg.CORE_LAUNCH_DUAL, _)], ?_, rfl⟩
  simp only [List.forall_mem_cons, List.not_mem_nil, false_implies, implies_true, and_true]
  decide

theorem OwnRegs.syncMx (m : Mach) (u L : Nat) : OwnRegs u (m.physOf u L) m (m.syncMx u L) := by
  refine ⟨[(Reg.CORE_MX_STATUS_ACTIVE_FMT, _), (Reg.CORE_MX_STATUS_SHADOW_FMT, _), (Reg.CORE_MX_STATUS_LOADING, _), (Reg.CORE_MX_STATUS_STREAMING, _),
    (Reg.CORE_MX_STATUS_DRAINING, _), (Reg.CORE_MX_STATUS_RECHECK, _), (Reg.CORE_MX_STATUS_QUEUED, _)], ?_, rfl⟩
  simp only [List.forall_mem_cons, List.not_mem_nil, false_implies, implies_true, and_true]
  decide

theorem OwnRegs.syncAtt (m : Mach) (u L : Nat) : OwnRegs u (m.physOf u L) m (m.syncAtt u L) := by
  refine ⟨[(Reg.CORE_ATT_STATUS_BIAS_LOADED, _), (Reg.CORE_ATT_STATUS_PACK_VALID, _), (Reg.CORE_ATT_STATUS_PACK_COUNT, _), (Reg.CORE_ATT_STATUS_BUSY, _),
    (Reg.CORE_ATT_STATUS_QUEUED, _)], ?_, rfl⟩
  simp only [List.forall_mem_cons, List.not_mem_nil, false_implies, implies_true, and_true]
  decide

theorem OwnRegs.syncScript (m : Mach) (u L : Nat) : OwnRegs u (m.physOf u L) m (m.syncScript u L) := by
  refine ⟨[(Reg.CORE_SCRIPT_STATE_SCRIPT_INDEX, _), (Reg.CORE_SCRIPT_STATE_WAITING_TOKEN, _), (Reg.CORE_SCRIPT_STATE_WAITING_CREDIT, _)], ?_, rfl⟩
  simp only [List.forall_mem_cons, List.not_mem_nil, false_implies, implies_true, and_true]
  decide

/-- One operation after another that keeps the registers of the same core's block in step. -/
theorem OwnRegs.andThen {u L : Nat} {m n : Mach} (h : OwnRegs u (m.physOf u L) m n) (f : Mach → Mach) (g : ∀ m, OwnRegs u (m.physOf u L) m (f m)) :
    OwnRegs u (m.physOf u L) m (f n) := h.trans (h.physOf u L ▸ g n)

/-- BLOCK_NEXT and ACTIVE of CORE_LAUNCH as the core has them. -/
theorem Mach.getF_syncLaunch (m : Mach) {u : Nat} (L : Nat) (h : u < 4) {p : Nat} (place : m.physOf u L = p) {c : Core} (core : m.core u L = c) :
    (m.syncLaunch u L).getF u Reg.CORE_LAUNCH_BLOCK_NEXT p = c.launch.next % 2 ^ Reg.CORE_LAUNCH_BLOCK_NEXT.width ∧
    (m.syncLaunch u L).getF u Reg.CORE_LAUNCH_ACTIVE p = c.launch.active.toNat % 2 ^ Reg.CORE_LAUNCH_ACTIVE.width := by
  subst place core
  have apart : ∀ {f g : Fld}, f.lo % 64 ≠ g.lo % 64 → ∀ (n : Mach) (v : Nat), (n.setF u g v (m.physOf u L)).getF u f (m.physOf u L) = n.getF u f (m.physOf u L) :=
    fun h n v => Mach.getF_setF_key _ _ _ _ _ _ _ _ (key_ne h)
  unfold Mach.syncLaunch
  dsimp only
  constructor
  · rw [apart (by decide), apart (by decide), apart (by decide), apart (by decide), apart (by decide), Mach.getF_setF_same _ _ _ _ h]
  · rw [apart (by decide), Mach.getF_setF_same _ _ _ _ h]

/-- Fields of other registers are as before CORE_SCRIPT_STATE is kept in step. -/
theorem Mach.getF_syncScript_lo (m : Mach) (u L : Nat) {f : Fld} (p : Nat) (h : f.lo < 64 ∧ f.lo ∉ [0, 32, 33]) :
    (m.syncScript u L).getF u f p = m.getF u f p := by
  obtain ⟨lo, apart⟩ := h
  simp only [List.mem_cons, List.not_mem_nil, or_false, not_or] at apart
  obtain ⟨a, b, c⟩ := apart
  have other : ∀ {g : Fld} (n : Mach) (v q : Nat), f.lo % 64 ≠ g.lo % 64 → (n.setF u g v q).getF u f p = n.getF u f p :=
    fun n v q h => Mach.getF_setF_key _ _ _ _ _ _ _ _ (key_ne h)
  unfold Mach.syncScript
  dsimp only
  rw [other _ _ _ (show f.lo % 64 ≠ Reg.CORE_SCRIPT_STATE_WAITING_CREDIT.lo % 64 by simp only [Reg.CORE_SCRIPT_STATE_WAITING_CREDIT]; omega),
    other _ _ _ (show f.lo % 64 ≠ Reg.CORE_SCRIPT_STATE_WAITING_TOKEN.lo % 64 by simp only [Reg.CORE_SCRIPT_STATE_WAITING_TOKEN]; omega),
    other _ _ _ (show f.lo % 64 ≠ Reg.CORE_SCRIPT_STATE_SCRIPT_INDEX.lo % 64 by simp only [Reg.CORE_SCRIPT_STATE_SCRIPT_INDEX]; omega)]

end Sys2Proof.Machine
end


section
/-! SUPPORT. O25: a script entry from its start over the dispatch of its blocks to its end, and the end of a loop (R52, R54, R90 to R93). -/

namespace Sys2Proof.Machine
set_option Elab.async false

/-! ## Channels and groups of a core -/

/-- The entry of a key changed, from a default where there is none. -/
def SMap.change {α : Type} (d : α) (f : α → α) (q : SMap α) (k : Nat) : SMap α := SMap.put q k (f (SMap.getD q k d))

/-- Entries changed one after another, each once. -/
theorem SMap.getD_changes {α : Type} (d : α) (f : α → α) {l : List Nat} (once : l.Nodup) (q : SMap α) (i : Nat) :
    SMap.getD (l.foldl (SMap.change d f) q) i d = if i ∈ l then f (SMap.getD q i d) else SMap.getD q i d := by
  induction l generalizing q with
  | nil => rfl
  | cons x r ih =>
    obtain ⟨fresh, rest⟩ := List.nodup_cons.mp once
    rw [List.foldl_cons, ih rest]
    by_cases e : i = x
    · subst e; rw [if_neg fresh, if_pos List.mem_cons_self, SMap.change, SMap.getD_put_same]
    · rw [SMap.change, SMap.getD_put_ne _ _ _ e]
      simp only [List.mem_cons, e, false_or]

theorem Core.updIns (l : List Nat) (c : Core) (f : InChan → InChan) :
    l.foldl (fun c i => c.updIn i f) c = { c with ins := l.foldl (SMap.change {} f) c.ins } := by
  induction l generalizing c with
  | nil => rfl
  | cons x r ih => rw [List.foldl_cons, ih]; rfl

theorem Core.updOuts (l : List Nat) (c : Core) (f : OutChan → OutChan) :
    l.foldl (fun c i => c.updOut i f) c = { c with outs := l.foldl (SMap.change {} f) c.outs } := by
  induction l generalizing c with
  | nil => rfl
  | cons x r ih => rw [List.foldl_cons, ih]; rfl

theorem setBits_nodup (n w : Nat) : (setBits n w).Nodup := List.nodup_range.filter _

theorem mem_setBits {n w i : Nat} : i ∈ setBits n w ↔ i < w ∧ bit n i = true := by simp [setBits]

/-- Entries put at different places of a map. -/
theorem SMap.find_puts {α : Type} (key : Nat → Nat) (val : Nat → α) (n : Nat) (once : ∀ i k, i < n → k < n → key i = key k → i = k) (l : SMap α) :
    (∀ x, (∀ i, i < n → x ≠ key i) → SMap.find (((List.range n).map (fun i => (key i, val i))).foldl (fun g e => SMap.put g e.1 e.2) l) x = SMap.find l x) ∧
    ∀ i, i < n → SMap.find (((List.range n).map (fun i => (key i, val i))).foldl (fun g e => SMap.put g e.1 e.2) l) (key i) = some (val i) := by
  induction n with
  | zero => exact ⟨fun _ _ => rfl, fun i h => absurd h (Nat.not_lt_zero i)⟩
  | succ n ih =>
    obtain ⟨others, own⟩ := ih fun i k hi hk => once i k (by omega) (by omega)
    simp only [List.range_succ, List.map_append, List.map_cons, List.map_nil, List.foldl_append, List.foldl_cons, List.foldl_nil, SMap.find_put]
    refine ⟨fun x apart => ?_, fun i h => ?_⟩
    · rw [if_neg (apart n (by omega))]
      exact others x fun i h => apart i (by omega)
    · by_cases e : i = n
      · subst e; rw [if_pos rfl]
      · rw [if_neg fun k => e (once i n h (by omega) k)]
        exact own i (by omega)

/-- Groups of a block lie in different group slots. -/
theorem Launch.slotOf_inj (l : Launch) (j i k : Nat) (h : l.slotOf j i = l.slotOf j k) : i = k := by
  have pos : 0 < l.d := by unfold Launch.d; split <;> omega
  have := Nat.eq_of_mul_eq_mul_left pos h
  omega

/-! ## The machine around a core -/

/-- A change of a core, seen without the registers. -/
theorem Mach.noRegs_updCore (m : Mach) (u L : Nat) (f : Core → Core) : (m.updCore u L f).noRegs = m.noRegs.updCore u L (fun _ => f (m.core u L)) := by
  match u with
  | 0 | 1 | 2 | 3 | _ + 4 => rfl

/-- A command that changes its core by f and then keeps registers of its block in step. -/
theorem updCore_works {s : State} {u L : Nat} (f : Core → Core) {n : Mach} (lt : u < 4)
    (own : OwnRegs u ((s.m.updCore u L f).physOf u L) (s.m.updCore u L f) n) :
    Works s { s with m := n } u L [] (fun m => m.updCore u L (fun _ => n.core u L)) ∧ n.core u L = f (s.m.core u L) := by
  have core : n.core u L = f (s.m.core u L) := (own.core u L).trans (s.m.core_updCore_same L f lt)
  have place : (s.m.updCore u L f).physOf u L = s.m.physOf u L := Mach.getF_updCore ..
  rw [place] at own
  refine ⟨Works.of_own (fun v g j => Mach.getF_updCore ..) own ?_, core⟩
  rw [core]
  exact s.m.noRegs_updCore u L f

section
variable {s : State} {u : StackNo} {L : Fin 832}

/-! ## Dispatch of a block (R92) -/

/-- The groups of a block in the block slot that is its own. -/
def Core.newGroups (c : Core) : List (Nat × Group) :=
  (List.range c.launch.groups).map (fun gi => (c.launch.slotOf (c.launch.blockSlot c.launch.next) gi,
    { block := c.launch.next, index := gi, pc := c.launch.code, atomN := SMap.getD c.atomNs (c.launch.next * 32 + gi) 0 }))

/-- A core once the next block of its launch is in its block slot. -/
def Core.dispatched (c : Core) : Core := { c with
  groups := c.newGroups.foldl (fun g e => SMap.put g e.1 e.2) c.groups
  launch := { c.launch with next := c.launch.next + 1, slots := SMap.put c.launch.slots (c.launch.blockSlot c.launch.next) c.launch.next } }

/-- A change of a core that looks at the core as it is. -/
theorem Mach.updCore_congr (m : Mach) (u L : Nat) {f g : Core → Core} (h : f (m.core u L) = g (m.core u L)) : m.updCore u L f = m.updCore u L g :=
  m.updStk_congr u _ _ (by rw [show f (SMap.getD (m.stk u).cores L {}) = g (SMap.getD (m.stk u).cores L {}) from h])

theorem blockDispatch_runs (lt : u.val < s.fuse.part.stackCount) (goes : s.m.coreGoes u L = true) (active : (s.m.core u L).launch.active = true)
    (more : (s.m.core u L).launch.next < (s.m.core u L).launch.blocks)
    (free : SMap.find (s.m.core u L).launch.slots ((s.m.core u L).launch.blockSlot (s.m.core u L).launch.next) = none) :
    exec (.blockDispatch ⟨u, L⟩) s = .next { s with m := (s.m.updCore u L Core.dispatched).syncLaunch u L } := by
  refine (onStack_in _ lt).trans ?_
  unfold Mach.blockDispatch
  dsimp only
  rw [goes, active, free, if_neg (by simpa using more)]
  refine congrArg (fun m => Host.Outcome.next { s with m := m.syncLaunch u L }) (s.m.updCore_congr u L ?_)
  rfl

theorem blockDispatch_holds (lt : u.val < s.fuse.part.stackCount) (goes : s.m.coreGoes u L = true) (active : (s.m.core u L).launch.active = true) :
    let c := s.m.core u L
    let j := c.launch.blockSlot c.launch.next
    c.launch.next < c.launch.blocks → SMap.find c.launch.slots j = none →
    Lands (.blockDispatch ⟨u, L⟩) s (fun t =>
      Works s t u L [(u.val, Reg.CORE_LAUNCH_BLOCK_NEXT, s.m.physOf u L, c.launch.next + 1)] (fun m => m.updCore u L (fun _ => t.m.core u L)) ∧
      (let d := t.m.core u L
       d = { c with groups := d.groups, launch := { c.launch with next := c.launch.next + 1, slots := SMap.put c.launch.slots j c.launch.next } } ∧
       (∀ x, (∀ gi, gi < c.launch.groups → x ≠ c.launch.slotOf j gi) → SMap.find d.groups x = SMap.find c.groups x) ∧
       ∀ gi, gi < c.launch.groups → SMap.find d.groups (c.launch.slotOf j gi) = some {
         block := c.launch.next, index := gi, pc := c.launch.code, atomN := SMap.getD c.atomNs (c.launch.next * 32 + gi) 0 })) := by
  intro c j more free
  have l4 : u.val < 4 := u.isLt
  obtain ⟨works, core⟩ := updCore_works Core.dispatched l4 (OwnRegs.syncLaunch (s.m.updCore u L Core.dispatched) u L)
  obtain ⟨others, own⟩ := SMap.find_puts (c.launch.slotOf j)
    (fun gi => ({ block := c.launch.next, index := gi, pc := c.launch.code, atomN := SMap.getD c.atomNs (c.launch.next * 32 + gi) 0 } : Group))
    c.launch.groups (fun i k _ _ => c.launch.slotOf_inj j i k) c.groups
  refine ⟨_, blockDispatch_runs lt goes active more free, works.holds fun e mem => ?_, ?_⟩
  · rw [List.mem_singleton.mp mem]
    exact (Mach.getF_syncLaunch (s.m.updCore u L Core.dispatched) L l4 (Mach.getF_updCore ..) (Mach.core_updCore_same _ _ _ l4)).1
  · dsimp only
    rw [core]
    refine ⟨?_, ?_, ?_⟩
    · rfl
    · exact others
    · exact own

/-! ## End of an entry and of a loop (R52, R54, R55, R165) -/

/-- Where the script goes on after an entry, and how often its loop has run. -/
theorem Core.afterEntry_eq (c : Core) (i : Nat) (e : SEntry) :
    let n := SMap.getD c.loops i 0 + 1
    ∃ q, c.afterEntry i e = { c with script := if e.loopBack && (e.count == 0xFFFF_FFFF || decide (n < e.count)) then e.target else i + 1, loops := q } ∧
      SMap.getD q i 0 = (if e.loopBack = true ∧ e.count ≠ 0xFFFF_FFFF then (if n < e.count then n else 0) else SMap.getD c.loops i 0) ∧
      ∀ x, x ≠ i → SMap.getD q x 0 = SMap.getD c.loops x 0 := by
  intro n
  unfold Core.afterEntry
  by_cases back : e.loopBack = true
  · by_cases always : e.count = 0xFFFF_FFFF
    · refine ⟨c.loops, by simp [back, always], by simp [always], fun _ _ => rfl⟩
    · by_cases again : n < e.count
      · refine ⟨SMap.put c.loops i n, by simp [back, always, again, n], by simp [back, always, again], fun x ne => SMap.getD_put_ne _ _ _ ne⟩
      · refine ⟨SMap.erase c.loops i, by simp [back, always, again, n], by simp [back, always, again, SMap.getD], fun x ne => ?_⟩
        rw [SMap.getD, SMap.find_erase_ne _ ne]; rfl
  · refine ⟨c.loops, by simp [back], by simp [back], fun _ _ => rfl⟩

/-- A core once its entry has ended. -/
def Core.entryEnded (c : Core) : Core := { c.afterEntry c.script c.entry with
  running := false, launch := { c.launch with active := false }, groups := [], committing := if c.entry.commit then some c.entry.commitId else none }

theorem scriptEntryEnd_runs (lt : u.val < s.fuse.part.stackCount) (goes : s.m.coreGoes u L = true) (active : (s.m.core u L).launch.active = true)
    (done : (s.m.core u L).launchDone = true) :
    exec (.scriptEntryEnd ⟨u, L⟩) s = .next { s with m := ((s.m.updCore u L Core.entryEnded).syncLaunch u L).syncScript u L } := by
  refine (onStack_in _ lt).trans ?_
  unfold Mach.entryEnd
  dsimp only
  rw [goes, active, done, if_neg (by simp)]
  rfl

theorem scriptEntryEnd_holds (lt : u.val < s.fuse.part.stackCount) (goes : s.m.coreGoes u L = true) (active : (s.m.core u L).launch.active = true)
    (done : (s.m.core u L).launchDone = true) :
    let c := s.m.core u L
    Lands (.scriptEntryEnd ⟨u, L⟩) s (fun t =>
      Works s t u L [(u.val, Reg.CORE_LAUNCH_ACTIVE, s.m.physOf u L, 0)] (fun m => m.updCore u L (fun _ => t.m.core u L)) ∧
      (let d := t.m.core u L
       let i := c.script
       let n := SMap.getD c.loops i 0 + 1
       let back : Bool := c.entry.loopBack && (c.entry.count == 0xFFFF_FFFF || decide (n < c.entry.count))
       d = { c with running := false, launch := { c.launch with active := false }, groups := []
                    committing := if c.entry.commit then some c.entry.commitId else none
                    script := if back then c.entry.target else i + 1, loops := d.loops } ∧
       SMap.getD d.loops i 0 = (if c.entry.loopBack = true ∧ c.entry.count ≠ 0xFFFF_FFFF then (if n < c.entry.count then n else 0) else SMap.getD c.loops i 0) ∧
       ∀ x, x ≠ i → SMap.getD d.loops x 0 = SMap.getD c.loops x 0)) := by
  intro c
  have l4 : u.val < 4 := u.isLt
  have launch := OwnRegs.syncLaunch (s.m.updCore u L Core.entryEnded) u L
  obtain ⟨works, core⟩ := updCore_works Core.entryEnded l4 (launch.andThen _ fun m => OwnRegs.syncScript m u L)
  refine ⟨_, scriptEntryEnd_runs lt goes active done, works.holds fun e mem => ?_, ?_⟩
  · rw [List.mem_singleton.mp mem]
    exact (Mach.getF_syncScript_lo _ u L (f := Reg.CORE_LAUNCH_ACTIVE) _ (by decide)).trans
      (Mach.getF_syncLaunch (s.m.updCore u L Core.entryEnded) L l4 (Mach.getF_updCore ..) (Mach.core_updCore_same _ _ _ l4)).2
  · obtain ⟨q, after, own, others⟩ := c.afterEntry_eq c.script c.entry
    dsimp only
    rw [core]
    have ended : Core.entryEnded c = { c with
        running := false, launch := { c.launch with active := false }, groups := []
        committing := if c.entry.commit then some c.entry.commitId else none
        script := if c.entry.loopBack && (c.entry.count == 0xFFFF_FFFF || decide (SMap.getD c.loops c.script 0 + 1 < c.entry.count)) then c.entry.target
          else c.script + 1
        loops := q } := by
      unfold Core.entryEnded
      rw [after]
    rw [ended]
    refine ⟨?_, ?_, ?_⟩
    · rfl
    · exact own
    · exact others

/-- A core once a loop has ended at its end token: the loop's LOOP_BACK entry is j, its channel ch. -/
def Core.loopEnded (j ch id outs : Nat) (c : Core) : Core := { c.updIn ch (fun x => { x with cur := x.cur + 1 }) with
  script := j + 1, entry := {}, loopEnd := some outs, committing := some id, loops := c.loops.filter (fun e => e.1 < c.script || j < e.1) }

/-- The output channels of the entries of the loop that starts at entry i and ends at entry j, as a mask. -/
def Mach.loopOuts (m : Mach) (u L i j : Nat) : Nat := (List.range (j + 1 - i)).foldl (fun x d => x ||| (m.entryAt u L (i + d)).outMask) 0

section
variable {j ch : Nat}

theorem Mach.loopEnd_eq {m : Mach} {u L : Nat} (before : m.beforeEntry u L = true) (free : m.accessHeld true (m.entryAddr u L (m.core u L).script) 32 = false)
    (ends : m.endingLoop u L (m.core u L).script = some j) (low : lowestBit (m.entryAt u L (m.core u L).script).inMask 64 = some ch)
    (clean : m.poisonAt (m.entryAddr u L (m.core u L).script) (32 * (j + 1 - (m.core u L).script)) = []) :
    m.loopEnd u L = (m.updCore u L (Core.loopEnded j ch (m.entryAt u L j).commitId (m.loopOuts u L (m.core u L).script j))).syncScript u L := by
  unfold Mach.loopEnd
  simp only [before, free, ends, low, clean, Bool.not_true, Bool.false_eq_true, or_self, if_false, ne_eq, not_true_eq_false]
  refine congrArg (fun n => n.syncScript u L) (m.updCore_congr u L ?_)
  unfold Core.loopEnded Mach.loopOuts
  rfl

theorem loopEnd_runs (lt : u.val < s.fuse.part.stackCount) (before : s.m.beforeEntry u L = true)
    (free : s.m.accessHeld true (s.m.entryAddr u L (s.m.core u L).script) 32 = false)
    (ends : s.m.endingLoop u L (s.m.core u L).script = some j) (low : lowestBit (s.m.entryAt u L (s.m.core u L).script).inMask 64 = some ch)
    (clean : s.m.poisonAt (s.m.entryAddr u L (s.m.core u L).script) (32 * (j + 1 - (s.m.core u L).script)) = []) :
    exec (.loopEnd ⟨u, L⟩) s = .next { s with m := (s.m.updCore u L (Core.loopEnded j ch (s.m.entryAt u L j).commitId
      (s.m.loopOuts u L (s.m.core u L).script j))).syncScript u L } :=
  (onStack_in _ lt).trans (congrArg (fun m => Host.Outcome.next { s with m := m }) (Mach.loopEnd_eq before free ends low clean))

theorem Core.loopEnded_ins (j ch id outs : Nat) (c : Core) (i : Nat) : SMap.getD (c.loopEnded j ch id outs).ins i {} =
    if i = ch then { SMap.getD c.ins i {} with cur := (SMap.getD c.ins i {}).cur + 1 } else SMap.getD c.ins i {} := by
  have one := SMap.getD_changes {} (fun x : InChan => { x with cur := x.cur + 1 }) (List.nodup_singleton ch) c.ins i
  simp only [List.foldl_cons, List.foldl_nil, List.mem_singleton] at one
  exact one

theorem loopEnd_holds (lt : u.val < s.fuse.part.stackCount) (before : s.m.beforeEntry u L = true)
    (free : s.m.accessHeld true (s.m.entryAddr u L (s.m.core u L).script) 32 = false)
    (ends : s.m.endingLoop u L (s.m.core u L).script = some j) (low : lowestBit (s.m.entryAt u L (s.m.core u L).script).inMask 64 = some ch)
    (clean : s.m.poisonAt (s.m.entryAddr u L (s.m.core u L).script) (32 * (j + 1 - (s.m.core u L).script)) = []) :
    let c := s.m.core u L
    Lands (.loopEnd ⟨u, L⟩) s (fun t => Works s t u L [] (fun m => m.updCore u L (fun _ => t.m.core u L)) ∧
      (let d := t.m.core u L
       d = { c with script := j + 1, entry := {}, loopEnd := d.loopEnd, committing := some (s.m.entryAt u L j).commitId
                    loops := c.loops.filter (fun x => x.1 < c.script || j < x.1), ins := d.ins } ∧
       d.loopEnd = some ((List.range (j + 1 - c.script)).foldl (fun x i => x ||| (s.m.entryAt u L (c.script + i)).outMask) 0) ∧
       ∀ i, SMap.getD d.ins i {} = if i = ch then { SMap.getD c.ins i {} with cur := (SMap.getD c.ins i {}).cur + 1 } else SMap.getD c.ins i {})) := by
  intro c
  obtain ⟨works, core⟩ := updCore_works (Core.loopEnded j ch (s.m.entryAt u L j).commitId (s.m.loopOuts u L c.script j)) u.isLt
    (OwnRegs.syncScript (s.m.updCore u L _) u L)
  refine ⟨_, loopEnd_runs lt before free ends low clean, works, ?_⟩
  dsimp only
  rw [core]
  refine ⟨?_, ?_, fun i => ?_⟩
  · rfl
  · rfl
  · exact Core.loopEnded_ins ..

end

/-! ## Start of an entry (R52, R90, R93) -/

/-- The tokens and credits of an entry taken, and its launch started. -/
def Core.entryStarted (e : SEntry) (r : LRecord) (c : Core) : Core := { c with
  running := true, entry := e, launch := r.launch, groups := []
  ins := (setBits e.inMask 64).foldl (SMap.change {} fun x => { x with cur := x.cur + 1 }) c.ins
  outs := (setBits e.outMask 64).foldl (SMap.change {} fun x => { x with cur := x.cur + 1 }) c.outs
  mx := { nextId := c.mx.nextId, numerical := c.mx.numerical, tested := c.mx.tested }, att := { nextId := c.att.nextId } }

theorem Core.entryStarted_ins (e : SEntry) (r : LRecord) (c : Core) (i : Nat) : SMap.getD (c.entryStarted e r).ins i {} =
    if i < 64 ∧ bit e.inMask i = true then { SMap.getD c.ins i {} with cur := (SMap.getD c.ins i {}).cur + 1 } else SMap.getD c.ins i {} := by
  refine (SMap.getD_changes {} (fun x : InChan => { x with cur := x.cur + 1 }) (setBits_nodup e.inMask 64) c.ins i).trans ?_
  simp only [mem_setBits]

theorem Core.entryStarted_outs (e : SEntry) (r : LRecord) (c : Core) (i : Nat) : SMap.getD (c.entryStarted e r).outs i {} =
    if i < 64 ∧ bit e.outMask i = true then { SMap.getD c.outs i {} with cur := (SMap.getD c.outs i {}).cur + 1 } else SMap.getD c.outs i {} := by
  refine (SMap.getD_changes {} (fun x : OutChan => { x with cur := x.cur + 1 }) (setBits_nodup e.outMask 64) c.outs i).trans ?_
  simp only [mem_setBits]

theorem takeTokens_started (m : Mach) (e : SEntry) (r : LRecord) : (m.takeTokens u L e).updCore u L (fun c => { c with
    running := true, entry := e, launch := r.launch, groups := []
    mx := { nextId := c.mx.nextId, numerical := c.mx.numerical, tested := c.mx.tested }, att := { nextId := c.att.nextId } }) =
    m.updCore u L (Core.entryStarted e r) := by
  unfold Mach.takeTokens
  rw [Mach.updCore_updCore _ _ _ _ u.isLt]
  refine congrArg (m.updCore u L) (funext fun c => ?_)
  rw [Core.updIns, Core.updOuts]
  rfl

theorem flatMap_leBytes_length (l : List Nat) : (l.flatMap (leBytes 8)).length = 8 * l.length := by
  induction l with
  | nil => rfl
  | cons x r ih => simp only [List.flatMap_cons, List.length_append, ih, List.length_cons]; simp [leBytes]; omega

/-- The argument list lies in the core's local memory (R90). -/
theorem argList_fits {e : SEntry} {b : List Byte} {dual : Bool} (legal : (LRecord.of b).fault b (popCount e.inMask 64 + popCount e.outMask 64) dual = none) :
    (LRecord.of b).args + ((s.m.argList u L e).flatMap (leBytes 8)).length ≤ 0x8_0000 := by
  have count : (s.m.argList u L e).length = popCount e.inMask 64 + popCount e.outMask 64 := by
    simp only [Mach.argList, List.length_append, List.length_map, popCount]
  unfold LRecord.fault at legal
  split at legal
  · cases legal
  · next ok =>
    simp only [LRecord.formatOk, Bool.not_eq_true', Bool.and_eq_true, decide_eq_true_eq, Bool.not_eq_false] at ok
    rw [flatMap_leBytes_length, count]
    omega

/-- Offsets of the local memory of a home lie in region 0x1 (R515). -/
theorem daRegion_localAddr {v h o : Nat} (home : h < 864) (within : o < 0x10_0000) : daRegion (localAddr v h o) = 1 := by
  unfold daRegion localAddr devAddr
  omega

/-- The argument list written to local memory. -/
def Mach.argsWritten (m : Mach) (u L : Nat) (e : SEntry) (r : LRecord) : Mach :=
  { m with mem := m.mem.writeBytes (localAddr u (m.homeOfIndex u L) r.args) ((m.argList u L e).flatMap (leBytes 8)) }

theorem launchStart_eq {e : SEntry} {r : LRecord} (home : s.m.homeOfIndex u L < 864)
    (fits : r.args + ((s.m.argList u L e).flatMap (leBytes 8)).length ≤ 0x8_0000) :
    s.m.launchStart u L e r = (((((s.m.argsWritten u L e r).updCore u L (Core.entryStarted e r)).syncLaunch u L).syncMx u L).syncAtt u L).syncScript u L := by
  have written := s.m.performWrite_clean true (localAddr u (s.m.homeOfIndex u L) r.args) ((s.m.argList u L e).flatMap (leBytes 8))
    (by rw [daRegion_localAddr home (by omega)]; decide) (fun i h => by
      unfold Mach.rowFailed
      rw [show localAddr u (s.m.homeOfIndex u L) r.args + i = localAddr u (s.m.homeOfIndex u L) (r.args + i) by unfold localAddr devAddr; omega,
        daRegion_localAddr home (by omega)]
      rfl)
  unfold Mach.launchStart
  simp only [written, takeTokens_started]
  rfl

theorem Mach.entryStart_eq {m : Mach} {u L : Nat} (before : m.beforeEntry u L = true) (free : m.accessHeld true (m.entryAddr u L (m.core u L).script) 32 = false)
    (clean : m.poisonAt (m.entryAddr u L (m.core u L).script) 32 = []) (ends : m.endingLoop u L (m.core u L).script = none)
    (tokens : m.tokensHere u L (m.entryAt u L (m.core u L).script) = true) (credits : m.creditsHere u L (m.entryAt u L (m.core u L).script) = true)
    (pure : m.poisonAt (localAddr u (m.homeOfIndex u L) (m.entryAt u L (m.core u L).script).entry) 32 = [])
    (legal : (LRecord.of (PByte.vals (m.homeBytes (localAddr u (m.homeOfIndex u L) (m.entryAt u L (m.core u L).script).entry) 32))).fault
      (PByte.vals (m.homeBytes (localAddr u (m.homeOfIndex u L) (m.entryAt u L (m.core u L).script).entry) 32))
      (popCount (m.entryAt u L (m.core u L).script).inMask 64 + popCount (m.entryAt u L (m.core u L).script).outMask 64) (bit (m.plan u).features 4) = none) :
    m.entryStart u L = m.launchStart u L (m.entryAt u L (m.core u L).script)
      (LRecord.of (PByte.vals (m.homeBytes (localAddr u (m.homeOfIndex u L) (m.entryAt u L (m.core u L).script).entry) 32))) := by
  unfold Mach.entryStart
  simp only [before, free, clean, ends, tokens, credits, pure, legal, Bool.not_true, Bool.false_eq_true, or_self, if_false, ne_eq, not_true_eq_false,
    Option.isSome_none]

/-- What the start of an entry leaves of the machine and of its core. -/
theorem started_works {e : SEntry} {r : LRecord} (home : s.m.homeOfIndex u L < 864) (wf : s.m.mem.wf = true)
    (fits : r.args + ((s.m.argList u L e).flatMap (leBytes 8)).length ≤ 0x8_0000) {n : Mach} (starts : n = s.m.launchStart u L e r) :
    Works s { s with m := n } u L [] (fun m => { m.updCore u L (fun _ => n.core u L) with mem := n.mem }) ∧ n.core u L = (s.m.core u L).entryStarted e r ∧
    ∀ a, n.mem.byte a = if localAddr u (s.m.homeOfIndex u L) r.args ≤ a ∧
        a < localAddr u (s.m.homeOfIndex u L) r.args + ((s.m.argList u L e).flatMap (leBytes 8)).length then
      ((s.m.argList u L e).flatMap (leBytes 8)).getD (a - localAddr u (s.m.homeOfIndex u L) r.args) 0 else s.m.mem.byte a := by
  rw [launchStart_eq home fits] at starts
  have launch := OwnRegs.syncLaunch ((s.m.argsWritten u L e r).updCore u L (Core.entryStarted e r)) u L
  have own := ((launch.andThen _ fun m => OwnRegs.syncMx m u L).andThen _ fun m => OwnRegs.syncAtt m u L).andThen _ fun m => OwnRegs.syncScript m u L
  rw [← starts] at own
  have place : ((s.m.argsWritten u L e r).updCore u L (Core.entryStarted e r)).physOf u L = s.m.physOf u L := Mach.getF_updCore ..
  have core : n.core u L = (s.m.core u L).entryStarted e r := (own.core u L).trans (Mach.core_updCore_same _ _ _ u.isLt)
  have mem : n.mem = (s.m.argsWritten u L e r).mem := own.mem
  rw [place] at own
  have same : SameFields s.m ((s.m.argsWritten u L e r).updCore u L (Core.entryStarted e r)) := fun v g j => Mach.getF_updCore ..
  refine ⟨Works.of_own same own ?_, core, fun a => ?_⟩
  · rw [core, mem, Mach.noRegs_updCore]
    rfl
  · rw [mem]
    exact Mem.byte_writeBytes _ _ _ _ wf

end

/-- Settles O25: each command is one change of the core and registers kept in step; the argument list is written before the first of them. -/
theorem scriptEntriesBlocksAndLoops : Obligations.ScriptEntriesBlocksAndLoops := by
  unfold Obligations.ScriptEntriesBlocksAndLoops
  intro s u L lt
  refine ⟨fun before free clean => ⟨fun ends tokens credits pure legal home wf => ?_, fun j ch ends low clean => loopEnd_holds lt before free ends low clean⟩,
    fun goes active => ⟨fun more slot => blockDispatch_holds lt goes active more slot, fun done => scriptEntryEnd_holds lt goes active done⟩⟩
  obtain ⟨works, core, bytes⟩ := started_works home wf (argList_fits legal) (Mach.entryStart_eq before free clean ends tokens credits pure legal)
  refine ⟨_, onStack_in _ lt, works, ?_, bytes⟩
  dsimp only
  rw [core]
  refine ⟨rfl, fun i => ?_, fun i => ?_⟩
  · exact Core.entryStarted_ins ..
  · exact Core.entryStarted_outs ..

end Sys2Proof.Machine
end


section
/-! SUPPORT. O35: the bytes of a flit hold the flit and the header that its receiver reads (R341, Table LK-4). -/

namespace Sys2Proof.Machine
set_option Elab.async false

/-! ## Numbers as bytes -/

@[simp] theorem leBytes_length (n v : Nat) : (leBytes n v).length = n := by
  induction n generalizing v with
  | zero => rfl
  | succ n ih => rw [leBytes, List.length_cons, ih]

theorem ofLeBytes_leBytes (n v : Nat) : ofLeBytes (leBytes n v) = v % 256 ^ n := by
  induction n generalizing v with
  | zero => rw [Nat.pow_zero, Nat.mod_one]; rfl
  | succ n ih =>
    rw [leBytes, ofLeBytes, ih, BitVec.toNat_ofNat, show 256 ^ (n + 1) = 256 * 256 ^ n from Nat.pow_succ']
    exact Nat.mod_mul.symm

/-! ## The header -/

theorem bit_eq_bits (n k : Nat) : bit n k = (bits n k 1 == 1) := rfl

section
variable {f : Flit} {seq ack : Nat} {nak : Bool}

/-- The fields of a header, where Table LK-4 has them. -/
theorem header_fields (typ : f.typ < 16) (len : f.len < 1024) (route : f.route < 2 ^ 14) (addr : f.addr < 2 ^ 52) (seqs : seq < 4096) (acks : ack < 4096) :
    let h := f.header seq ack nak
    h < 256 ^ 14 ∧ bits h 0 4 = f.typ ∧ bits h 4 12 = seq ∧ bits h 16 12 = ack ∧ bits h 28 10 = f.len ∧ bits h 38 1 = f.first.toNat ∧
    bits h 39 1 = f.last.toNat ∧ bits h 40 1 = f.packed.toNat ∧ bits h 41 1 = nak.toNat ∧ bits h 42 14 = f.route ∧ bits h 56 52 = f.addr := by
  have b0 := f.first.toNat_lt
  have b1 := f.last.toNat_lt
  have b2 := f.packed.toNat_lt
  have b3 := nak.toNat_lt
  simp only [Flit.header, Nat.mod_eq_of_lt typ, Nat.mod_eq_of_lt len, Nat.mod_eq_of_lt route, Nat.mod_eq_of_lt addr, Nat.mod_eq_of_lt seqs,
    Nat.mod_eq_of_lt acks]
  generalize f.first.toNat = a0 at *
  generalize f.last.toNat = a1 at *
  generalize f.packed.toNat = a2 at *
  generalize nak.toNat = a3 at *
  generalize f.typ = a4 at *
  generalize f.len = a5 at *
  generalize f.route = a6 at *
  generalize f.addr = a7 at *
  unfold bits
  refine ⟨?_, ?_, ?_, ?_, ?_, ?_, ?_, ?_, ?_, ?_, ?_⟩ <;> omega

theorem bit_of_bits {n k : Nat} {b : Bool} (h : bits n k 1 = b.toNat) : bit n k = b := by
  rw [bit_eq_bits, h]
  cases b <;> rfl

/-- The bytes before the CRC. -/
def Flit.body (f : Flit) (seq ack : Nat) (nak : Bool) : List Byte := leBytes 14 (f.header seq ack nak) ++ f.payload

theorem Flit.wire_eq (whole : f.payload.length = 256) : f.wire seq ack nak = f.body seq ack nak ++ leBytes 4 (crc32 (f.body seq ack nak)).toNat := by
  have all : leBytes 14 (f.header seq ack nak) ++ f.payload.take 256 ++ leBytes (256 - f.payload.length) 0 = f.body seq ack nak := by
    rw [List.take_of_length_le (Nat.le_of_eq whole), whole]
    exact List.append_nil _
  unfold Flit.wire
  rw [all]

theorem Flit.body_length (whole : f.payload.length = 256) : (f.body seq ack nak).length = 270 := by
  rw [Flit.body, List.length_append, leBytes_length, whole]

theorem wireHead_wire (whole : f.payload.length = 256) (fits : f.header seq ack nak < 256 ^ 14) : wireHead (f.wire seq ack nak) = f.header seq ack nak := by
  rw [wireHead, Flit.wire_eq whole, Flit.body, List.append_assoc, List.take_append_of_le_length (by simp), List.take_of_length_le (by simp),
    ofLeBytes_leBytes, Nat.mod_eq_of_lt fits]

theorem payload_wire (whole : f.payload.length = 256) : ((f.wire seq ack nak).drop 14).take 256 = f.payload := by
  rw [Flit.wire_eq whole, Flit.body, List.append_assoc, List.drop_left' (leBytes_length _ _), List.take_append_of_le_length (by omega),
    List.take_of_length_le (by omega)]

theorem wireOk_wire (whole : f.payload.length = 256) : wireOk (f.wire seq ack nak) = true := by
  have long := Flit.body_length (seq := seq) (ack := ack) (nak := nak) whole
  unfold wireOk
  rw [Flit.wire_eq whole, List.take_left' long, List.drop_left' long, ofLeBytes_leBytes, List.length_append, long, leBytes_length,
    show (256 : Nat) ^ 4 = 2 ^ 32 by decide, Nat.mod_eq_of_lt (crc32 _).isLt]
  simp

/-- What a flit is sent as holds the flit and the header that its receiver reads. -/
theorem wire_read {f : Flit} (seq ack : Fin 4096) (nak : Bool) (u : StackNo) (n : Fin 24) (typ : f.typ < 16) (len : f.len < 1024) (route : f.route < 2 ^ 14)
    (addr : f.addr < 2 ^ 52) (whole : f.payload.length = 256) :
    wireFlit (f.wire seq ack nak) = f ∧ wireIn u n (f.wire seq ack nak) = { stack := u, link := n, seq := seq, ack := ack, nak := nak, crcOk := true } := by
  obtain ⟨fits, htyp, hseq, hack, hlen, first, last, packed, hnak, hroute, haddr⟩ := header_fields (nak := nak) typ len route addr seq.isLt ack.isLt
  have head := wireHead_wire whole fits
  constructor
  · simp only [wireFlit, head, htyp, hlen, hroute, haddr, bit_of_bits first, bit_of_bits last, bit_of_bits packed, payload_wire whole]
  · simp only [wireIn, head, hseq, hack, bit_of_bits hnak, wireOk_wire whole, Fin.ofNat_val_eq_self]

end

end Sys2Proof.Machine
end


section
/-! SUPPORT. O35: what the arrival of a flit changes before its own effect: sequence numbers, the replay buffer, and its route (R345, R351, R352). -/

namespace Sys2Proof.Machine
set_option Elab.async false

/-! ## Links changed, and nothing else -/

/-- Of the machine m only the link state of stack u has changed. -/
def OwnLinks (u : Nat) (m n : Mach) : Prop := n = m.updLinks u (fun _ => (n.stk u).link)

theorem Mach.link_updLinks (m : Mach) {u : Nat} (f : LinkSt → LinkSt) (h : u < 4) : ((m.updLinks u f).stk u).link = f (m.stk u).link := by
  rw [Mach.updLinks, Mach.stk_updStk_same _ _ h]

theorem Mach.updStk_updStk (m : Mach) (u : Nat) (f g : Stack → Stack) : (m.updStk u f).updStk u g = m.updStk u (fun k => g (f k)) := by
  match u with
  | 0 | 1 | 2 | 3 | _ + 4 => rfl

theorem Mach.updLinks_updLinks (m : Mach) (u : Nat) (f g : LinkSt → LinkSt) : (m.updLinks u f).updLinks u g = m.updLinks u (fun k => g (f k)) :=
  m.updStk_updStk u _ _

namespace OwnLinks
variable {u : Nat} {m n : Mach}

theorem updLinks (m : Mach) (f : LinkSt → LinkSt) (h : u < 4) : OwnLinks u m (m.updLinks u f) := by
  unfold OwnLinks
  rw [Mach.link_updLinks _ _ h]
  exact m.updStk_congr u _ _ rfl

theorem refl (m : Mach) (h : u < 4) : OwnLinks u m m := by
  have same := updLinks m id h
  rwa [show m.updLinks u id = m from m.updStk_self u _ rfl] at same

theorem trans {o : Mach} (h : OwnLinks u m n) (g : OwnLinks u n o) : OwnLinks u m o := by
  unfold OwnLinks at h g
  rw [h, Mach.updLinks_updLinks] at g
  exact g

theorem updLnk (m : Mach) (k : Nat) (f : Link → Link) (h : u < 4) : OwnLinks u m (m.updLnk u k f) := updLinks m _ h

theorem pump (m : Mach) (k : Nat) (h : u < 4) : OwnLinks u m (m.pump u k) := by
  unfold Mach.pump
  split
  · refine trans ?_ (updLnk _ k _ h)
    unfold Mach.closeDead
    split
    · split
      · exact refl m h
      · exact updLnk m k _ h
    · exact refl m h
  · exact refl m h

theorem linkPush (m : Mach) (k : Nat) (fs : List OutFlit) (h : u < 4) : OwnLinks u m (m.linkPush u k fs) := (updLnk m k _ h).trans (pump _ k h)

theorem getF (own : OwnLinks u m n) (v : Nat) (f : Fld) (j : Nat) : n.getF v f j = m.getF v f j := by
  rw [own]
  exact Mach.getF_updLinks ..

theorem noRegs (own : OwnLinks u m n) : n.noRegs = m.noRegs.updLinks u (fun _ => (n.stk u).link) := by
  refine (congrArg Mach.noRegs own).trans ?_
  match u with
  | 0 | 1 | 2 | 3 | _ + 4 => rfl

/-- A command that changes links alone. -/
theorem sets {s : State} (own : OwnLinks u s.m n) : Sets s { s with m := n } [] (fun m => m.updLinks u (fun _ => (n.stk u).link)) :=
  ⟨rfl, rfl, own.noRegs, fun _ h => (by cases h), fun v f j _ => own.getF v f j⟩

end OwnLinks

theorem Mach.noRegs_updLinks (m : Mach) (u : Nat) (f : LinkSt → LinkSt) : (m.updLinks u f).noRegs = m.noRegs.updLinks u f := by
  match u with
  | 0 | 1 | 2 | 3 | _ + 4 => rfl

theorem Mach.bare_updLinks (m : Mach) (u : Nat) (f : LinkSt → LinkSt) : (m.updLinks u f).bare = m.bare.updLinks u f := by
  match u with
  | 0 | 1 | 2 | 3 | _ + 4 => rfl

/-- A command that changes the link state of a stack by f. -/
theorem Sets.updLinks (s : State) (u : Nat) (f : LinkSt → LinkSt) : Sets s { s with m := s.m.updLinks u f } [] (fun m => m.updLinks u f) :=
  ⟨rfl, rfl, s.m.noRegs_updLinks u f, fun _ h => (by cases h), fun v g j _ => Mach.getF_updLinks ..⟩

theorem Ends.updLinks (s : State) (u : Nat) (f : LinkSt → LinkSt) : Ends s { s with m := s.m.updLinks u f } [] (fun m => m.updLinks u f) :=
  ⟨rfl, rfl, s.m.bare_updLinks u f, fun _ h => (by cases h), fun _ _ => rfl, fun v g j _ _ => Mach.getF_updLinks ..⟩

/-! ## A flit that arrives (R345, R346) -/

/-- The machine once the flit is accepted: the next sequence number is expected, and no NAK is due. -/
def Mach.accepted (m : Mach) (u n : Nat) : Mach := m.updLnk u n (fun l => { l with recvSeq := (l.recvSeq + 1) % 4096, nak := false })

section
variable {m : Mach} {h : FlitHead} {k : Mach → Option Mach}

theorem Mach.flit_failed (up : m.linkUp h.stack h.link = true) (bad : h.crcOk = false) :
    m.flit h k = m.updLnk h.stack h.link (fun l => { l with nak := true, window := true }) := by
  unfold Mach.flit
  simp only [up, bad, Bool.not_true, Bool.not_false, Bool.false_eq_true, if_false, if_true]

/-- Nothing waits for an acknowledgement. -/
theorem Mach.acked_none {u n a : Nat} {b : Bool} (none : (m.lnk u n).unacked = []) : m.acked u n a b = m := by
  unfold Mach.acked
  rw [none]

theorem Mach.flit_unexpected (up : m.linkUp h.stack h.link = true) (good : h.crcOk = true) (none : (m.lnk h.stack h.link).unacked = [])
    (other : h.seq.val ≠ (m.lnk h.stack h.link).recvSeq) : m.flit h k = m.updLnk h.stack h.link (fun l => { l with nak := true }) := by
  unfold Mach.flit
  simp only [up, good, Mach.acked_none none, if_pos other, Bool.not_true, Bool.false_eq_true, if_false]

theorem Mach.flit_expected (up : m.linkUp h.stack h.link = true) (good : h.crcOk = true) (none : (m.lnk h.stack h.link).unacked = [])
    (next : h.seq.val = (m.lnk h.stack h.link).recvSeq) : m.flit h k = (k (m.accepted h.stack h.link)).getD m := by
  unfold Mach.flit
  simp only [up, good, Mach.acked_none none, next, Bool.not_true, Bool.false_eq_true, if_false, ne_eq, not_true_eq_false]
  unfold Mach.accepted
  split
  · next e => rw [e]; rfl
  · next e => rw [e]; rfl

end

/-- Instruction i is a flit with header h that has some effect once it is accepted. -/
def IsFlit (i : Instr) (s : State) (h : FlitHead) : Prop := ∃ k : Fuse → Mach → Option Mach, exec i s = onStack s h.stack (fun fu m => m.flit h (k fu))

theorem isFlit {i : Instr} {s : State} {h : FlitHead} {f : FlitIn} {b : HeartbeatIn} {c : ControlIn} (hf : f.head = h) (hb : b.head = h) (hc : c.head = h)
    (mem : i ∈ [Instr.write f, .writeAck f, .readReq f, .readRsp f, .message f, .poison f, .journal f, .heartbeat b, .planAnnounce c, .pairHello c,
      .controlDetach c, .controlStop c, .controlConflict c, .controlRejoin c]) : IsFlit i s h := by
  subst hf
  have all : ∀ i ∈ [Instr.write f, .writeAck f, .readReq f, .readRsp f, .message f, .poison f, .journal f], IsFlit i s f.head := by
    simp only [List.forall_mem_cons, List.not_mem_nil, false_implies, implies_true, and_true]
    exact ⟨⟨_, rfl⟩, ⟨_, rfl⟩, ⟨_, rfl⟩, ⟨_, rfl⟩, ⟨_, rfl⟩, ⟨_, rfl⟩, ⟨_, rfl⟩⟩
  have beat : IsFlit (.heartbeat b) s f.head := hb ▸ ⟨_, rfl⟩
  have control : ∀ i ∈ [Instr.planAnnounce c, .pairHello c, .controlDetach c, .controlStop c, .controlConflict c, .controlRejoin c], IsFlit i s f.head := by
    rw [← hc]
    simp only [List.forall_mem_cons, List.not_mem_nil, false_implies, implies_true, and_true]
    exact ⟨⟨_, rfl⟩, ⟨_, rfl⟩, ⟨_, rfl⟩, ⟨_, rfl⟩, ⟨_, rfl⟩, ⟨_, rfl⟩⟩
  rcases List.mem_append.mp (show i ∈ [Instr.write f, .writeAck f, .readReq f, .readRsp f, .message f, .poison f, .journal f] ++ ([Instr.heartbeat b] ++
    [Instr.planAnnounce c, .pairHello c, .controlDetach c, .controlStop c, .controlConflict c, .controlRejoin c]) from mem) with mem | mem
  · exact all i mem
  · rcases List.mem_append.mp mem with mem | mem
    · rw [List.mem_singleton.mp mem]; exact beat
    · exact control i mem

section
variable {s : State} {h : FlitHead} {i : Instr}

theorem IsFlit.failed (is : IsFlit i s h) (lt : h.stack.val < s.fuse.part.stackCount) (up : s.m.linkUp h.stack h.link = true) (bad : h.crcOk = false) :
    Lands i s (fun t => Sets s t [] (fun m => m.updLnk h.stack h.link (fun l => { l with nak := true, window := true }))) := by
  obtain ⟨k, runs⟩ := is
  rw [onStack_in _ lt, Mach.flit_failed up bad] at runs
  exact ⟨_, runs, Sets.updLinks s _ _⟩

theorem IsFlit.unexpected (is : IsFlit i s h) (lt : h.stack.val < s.fuse.part.stackCount) (up : s.m.linkUp h.stack h.link = true) (good : h.crcOk = true)
    (none : (s.m.lnk h.stack h.link).unacked = []) (other : h.seq.val ≠ (s.m.lnk h.stack h.link).recvSeq) :
    Lands i s (fun t => Sets s t [] (fun m => m.updLnk h.stack h.link (fun l => { l with nak := true }))) := by
  obtain ⟨k, runs⟩ := is
  rw [onStack_in _ lt, Mach.flit_unexpected up good none other] at runs
  exact ⟨_, runs, Sets.updLinks s _ _⟩

/-! ## IDLE and flits of a reserved type -/

theorem idle_failed (lt : h.stack.val < s.fuse.part.stackCount) (up : s.m.linkUp h.stack h.link = true) (bad : h.crcOk = false) (ty : Fin 16) :
    Lands (.idle ⟨h, ty⟩) s (fun t => Sets s t [] (fun m => m.updLnk h.stack h.link (fun l => { l with nak := true, window := true }))) := by
  refine ⟨_, onStack_in _ lt, ?_⟩
  dsimp only
  split
  · rw [Mach.flit_failed up bad]
    exact Sets.updLinks s _ _
  · rw [if_neg (by simp [up]), if_pos (by simp [bad])]
    exact Sets.updLinks s _ _

/-- A flit of a reserved type is accepted, dropped and logged. -/
theorem idle_reserved (lt : h.stack.val < s.fuse.part.stackCount) (up : s.m.linkUp h.stack h.link = true) (good : h.crcOk = true)
    (none : (s.m.lnk h.stack h.link).unacked = []) (next : h.seq.val = (s.m.lnk h.stack h.link).recvSeq) {ty : Fin 16} (reserved : ty ≠ 0) :
    Lands (.idle ⟨h, ty⟩) s (fun t =>
      Ends s t [] (fun m => m.updLnk h.stack h.link (fun l => { l with recvSeq := (l.recvSeq + 1) % 4096, nak := false })) ∧
      ∃ e r, (t.m.stk h.stack).bureau.errLog = e :: r ∧ e.code = 0x0101) := by
  have runs : exec (.idle ⟨h, ty⟩) s = .next { s with m := (s.m.accepted h.stack h.link).logError h.stack 0x0101 3 h.link 0 [ty] } := by
    refine (onStack_in _ lt).trans ?_
    rw [if_pos reserved, Mach.flit_expected up good none next]
    rfl
  refine ⟨_, runs, (Ends.updLinks s _ _).reports (Reports.logError _ _ _ _ _ _ _) (fun _ mem => by cases mem), ?_⟩
  obtain ⟨l, newest⟩ := (s.m.accepted h.stack h.link).logError_newest 0x0101 3 h.link 0 [ty.val] h.stack.isLt
  exact ⟨_, l, newest, rfl⟩

end

/-! ## Changes of one link -/

theorem Mach.updLnk_updLnk (m : Mach) (u n : Nat) (f g : Link → Link) : (m.updLnk u n f).updLnk u n g = m.updLnk u n (fun l => g (f l)) := by
  unfold Mach.updLnk
  rw [Mach.updLinks_updLinks]
  refine congrArg (m.updLinks u) (funext fun k => ?_)
  simp only [SMap.getD_put_same, SMap.put_put]

/-- Changes that do the same to a link. -/
theorem Mach.updLnk_congr (m : Mach) (u n : Nat) {f g : Link → Link} (h : f (m.lnk u n) = g (m.lnk u n)) : m.updLnk u n f = m.updLnk u n g :=
  m.updStk_congr u _ _ (by
    dsimp only
    rw [show f (SMap.getD (m.stk u).link.links n {}) = g (SMap.getD (m.stk u).link.links n {}) from h])

theorem Mach.lnk_updLnk (m : Mach) {u : Nat} (n : Nat) (f : Link → Link) (h : u < 4) : (m.updLnk u n f).lnk u n = f (m.lnk u n) := by
  unfold Mach.lnk Mach.updLnk
  rw [Mach.link_updLinks _ _ h, SMap.getD_put_same]

@[simp] theorem Mach.getF_updLnk (m : Mach) (u n v : Nat) (f : Link → Link) (g : Fld) (j : Nat) : (m.updLnk u n f).getF v g j = m.getF v g j :=
  Mach.getF_updLinks ..

/-- A link with nothing to send sends nothing (R345). -/
theorem Link.pump_idle (b : Bool) (k : Nat) (l : Link) (queue : l.queue = []) (opened : l.opened = none) : l.pump b k = l := by
  cases k with
  | zero => rfl
  | succ k =>
    have nothing : l.take b = none := by
      unfold Link.take Link.nextRoute
      rw [queue, opened]
      cases b <;> rfl
    unfold Link.pump
    rw [nothing]
    split <;> rfl

theorem Mach.pump_idle (m : Mach) {u : Nat} (n : Nat) (f : Link → Link) (h : u < 4) (queue : (f (m.lnk u n)).queue = [])
    (opened : (f (m.lnk u n)).opened = none) : (m.updLnk u n f).pump u n = m.updLnk u n f := by
  have still : (m.updLnk u n f).closeDead u n = m.updLnk u n f := by
    unfold Mach.closeDead
    rw [Mach.lnk_updLnk _ _ _ h, opened]
  unfold Mach.pump
  rw [still]
  split
  · rw [Mach.updLnk_updLnk]
    exact m.updLnk_congr u n (Link.pump_idle _ _ _ queue opened)
  · rfl

/-- An acknowledgement without NAK, on a link with nothing to send (R345). -/
theorem Mach.acked_eq {m : Mach} {u n : Nat} (a : Nat) (h : u < 4) {q : Nat} {f : OutFlit} {r : List (Nat × OutFlit)}
    (sent : (m.lnk u n).unacked = (q, f) :: r) (queue : (m.lnk u n).queue = []) (opened : (m.lnk u n).opened = none) :
    let d := (a + 1 + 4096 - q) % 4096
    let k := if d ≤ (m.lnk u n).unacked.length then d else 0
    m.acked u n a false = m.updLnk u n (fun l => { l with
      unacked := l.unacked.drop k, replays := if 0 < k then 0 else l.replays
      marks := (l.unacked.take k).foldl (fun x e => if e.2.flit.typ = 6 then SMap.put x e.2.src e.2 else SMap.erase x e.2.src) l.marks }) := by
  intro d k
  unfold Mach.acked
  rw [sent]
  simp only [Bool.false_eq_true, false_and, if_false]
  rw [Mach.pump_idle m n _ h queue opened]
  refine m.updLnk_congr u n ?_
  simp only [k, d, sent]

section
variable {s : State} {h : FlitHead}

theorem idle_acked (lt : h.stack.val < s.fuse.part.stackCount) (up : s.m.linkUp h.stack h.link = true) (good : h.crcOk = true) (plain : h.nak = false)
    (queue : (s.m.lnk h.stack h.link).queue = []) (opened : (s.m.lnk h.stack h.link).opened = none) {q : Nat} {f : OutFlit} {r : List (Nat × OutFlit)}
    (sent : (s.m.lnk h.stack h.link).unacked = (q, f) :: r) :
    let l := s.m.lnk h.stack h.link
    let d := (h.ack.val + 1 + 4096 - q) % 4096
    let k := if d ≤ l.unacked.length then d else 0
    Lands (.idle ⟨h, 0⟩) s (fun t => Sets s t [] (fun m => m.updLnk h.stack h.link (fun l => { l with
      unacked := l.unacked.drop k, replays := if 0 < k then 0 else l.replays
      marks := (l.unacked.take k).foldl (fun x e => if e.2.flit.typ = 6 then SMap.put x e.2.src e.2 else SMap.erase x e.2.src) l.marks }))) := by
  refine ⟨_, onStack_in _ lt, ?_⟩
  dsimp only
  rw [if_neg (by decide), if_neg (by simp [up]), if_neg (by simp [good]), plain, Mach.acked_eq h.ack h.stack.isLt sent queue opened]
  exact Sets.updLinks s _ _

/-- PLAN_ANNOUNCE (R352). -/
theorem planAnnounce_accepted (lt : h.stack.val < s.fuse.part.stackCount) (up : s.m.linkUp h.stack h.link = true) (good : h.crcOk = true)
    (none : (s.m.lnk h.stack h.link).unacked = []) (next : h.seq.val = (s.m.lnk h.stack h.link).recvSeq) (x : Dword) :
    Lands (.planAnnounce ⟨h, x⟩) s (fun t => Sets s t [] (fun m => m.updLnk h.stack h.link (fun l =>
      { l with recvSeq := (l.recvSeq + 1) % 4096, nak := false, announced := some x.toNat }))) := by
  refine ⟨_, onStack_in _ lt, ?_⟩
  rw [Mach.flit_expected up good none next]
  dsimp only [Option.getD_some]
  rw [Mach.accepted, Mach.updLnk_updLnk]
  exact Sets.updLinks s _ _

end

/-! ## Flits of a route (R351, R352) -/

/-- The instruction that a flit of a route is, with its type and whether its link's plan is looked at (R352), does `deliver` at a LOCAL hop. -/
def IsRouted (i : Instr) (f : FlitIn) (typ : Nat) (guarded : Bool) (deliver : Fuse → Mach → Option Mach) : Prop :=
  ∀ s, exec i s = onStack s f.head.stack (fun fu m => m.flit f.head (fun m => m.routed f typ guarded (deliver fu)))

theorem isRouted (f : FlitIn) {i : Instr} {typ : Nat} {guarded : Bool} (mem : (i, typ, guarded) ∈ [(Instr.write f, 1, true), (.writeAck f, 2, false), (.readReq f, 3, true),
    (.readRsp f, 4, false), (.message f, 5, true), (.poison f, 6, false)]) : ∃ deliver, IsRouted i f typ guarded deliver := by
  have all : ∀ e ∈ [(Instr.write f, 1, true), (.writeAck f, 2, false), (.readReq f, 3, true), (.readRsp f, 4, false), (.message f, 5, true), (.poison f, 6, false)],
      ∃ deliver, IsRouted e.1 f e.2.1 e.2.2 deliver := by
    simp only [List.forall_mem_cons, List.not_mem_nil, false_implies, implies_true, and_true]
    exact ⟨⟨_, fun _ => rfl⟩, ⟨_, fun _ => rfl⟩, ⟨_, fun _ => rfl⟩, ⟨_, fun _ => rfl⟩, ⟨_, fun _ => rfl⟩, ⟨_, fun _ => rfl⟩⟩
  exact all _ mem

theorem Mach.announcedOk_accepted (m : Mach) {u : Nat} (n : Nat) (h : u < 4) : (m.accepted u n).announcedOk u n = m.announcedOk u n := by
  unfold Mach.announcedOk Mach.planOn Mach.accepted
  simp only [Mach.getF_updLnk, Mach.lnk_updLnk _ _ _ h]

/-- The machine once the flit is accepted and the mark of its route is dropped. -/
def Mach.unmarked (m : Mach) (u n r : Nat) : Mach := (m.accepted u n).updLinks u (fun k => { k with poison := k.poison.filter (fun p => p.label ≠ r) })

@[simp] theorem Mach.getF_unmarked (m : Mach) (u n r v : Nat) (g : Fld) (j : Nat) : (m.unmarked u n r).getF v g j = m.getF v g j := by
  rw [Mach.unmarked, Mach.getF_updLinks, Mach.accepted, Mach.getF_updLnk]

/-- A counter of stack u counts after the mark of the route is dropped. -/
theorem Mach.bumpF_unmarked (m : Mach) (u n r : Nat) (g : Fld) (j k : Nat) :
    ((m.accepted u n).dropMark u r).bumpF u g j k = (m.unmarked u n r).setFs [(u, g, j, satAdd g.width (m.getF u g j) k)] := by
  rw [← Mach.getF_unmarked m u n r]
  rfl

theorem Ends.unmarked (s : State) (u n r : Nat) : Ends s { s with m := s.m.unmarked u n r } [] (fun m => m.unmarked u n r) := by
  refine ⟨rfl, rfl, ?_, fun _ h => (by cases h), fun _ _ => rfl, fun v g j _ _ => Mach.getF_unmarked ..⟩
  unfold Mach.unmarked Mach.accepted Mach.updLnk
  rw [Mach.bare_updLinks, Mach.bare_updLinks]

theorem Sets.unmarked (s : State) (u n r : Nat) : Sets s { s with m := s.m.unmarked u n r } [] (fun m => m.unmarked u n r) := by
  refine ⟨rfl, rfl, ?_, fun _ h => (by cases h), fun v g j _ => Mach.getF_unmarked ..⟩
  unfold Mach.unmarked Mach.accepted Mach.updLnk
  rw [Mach.noRegs_updLinks, Mach.noRegs_updLinks]

section
variable {s : State} {f : FlitIn} {i : Instr} {typ : Nat} {guarded : Bool} {deliver : Fuse → Mach → Option Mach}

/-- What the flits of a route on this link need to be accepted. -/
structure Arrives (s : State) (f : FlitIn) : Prop where
  lt   : f.head.stack.val < s.fuse.part.stackCount
  up   : s.m.linkUp f.head.stack f.head.link = true
  good : f.head.crcOk = true
  none : (s.m.lnk f.head.stack f.head.link).unacked = []
  next : f.head.seq.val = (s.m.lnk f.head.stack f.head.link).recvSeq

theorem IsRouted.runs (is : IsRouted i f typ guarded deliver) (a : Arrives s f) : exec i s =
    .next { s with m := ((s.m.accepted f.head.stack f.head.link).routed f typ guarded (deliver s.fuse)).getD s.m } := by
  refine (is s).trans ((onStack_in _ a.lt).trans ?_)
  rw [Mach.flit_expected a.up a.good a.none a.next]

/-- A flit whose link has not announced the stack's own plan is dropped and logged. -/
theorem IsRouted.foreign (is : IsRouted i f typ guarded deliver) (a : Arrives s f) (looked : guarded = true)
    (other : s.m.announcedOk f.head.stack f.head.link = false) : Lands i s (fun t =>
      Ends s t [(f.head.stack.val, Reg.SYNC_DROPPED_DROPPED, 0, satAdd 32 (s.m.getF f.head.stack Reg.SYNC_DROPPED_DROPPED) (if typ = 5 then messageSignals f.payload else 0))]
        (fun m => m.unmarked f.head.stack f.head.link f.route) ∧
      ∃ e r, (t.m.stk f.head.stack).bureau.errLog = e :: r ∧ e.code = 0x0101) := by
  have drops (m : Mach) (same : m.announcedOk f.head.stack f.head.link = false) : m.routed f typ guarded (deliver s.fuse) =
      some (((m.dropMark f.head.stack f.route).bumpF f.head.stack Reg.SYNC_DROPPED_DROPPED 0 (if typ = 5 then messageSignals f.payload else 0)).logError
        f.head.stack 0x0101 3 f.head.link 0) := by
    unfold Mach.routed
    simp only [looked, same, Bool.not_false, and_self, if_true]
  have runs := is.runs a
  rw [drops _ ((s.m.announcedOk_accepted _ f.head.stack.isLt).trans other), Option.getD_some] at runs
  refine ⟨_, runs, ?_, ?_⟩
  · have counts := (Ends.unmarked s f.head.stack f.head.link f.route).andSetFs (gs := [(f.head.stack.val, Reg.SYNC_DROPPED_DROPPED, 0,
      satAdd 32 (s.m.getF f.head.stack Reg.SYNC_DROPPED_DROPPED) (if typ = 5 then messageSignals f.payload else 0))])
      (List.nodup_singleton _) (fun e mem => by rw [List.mem_singleton.mp mem]; exact f.head.stack.isLt)
    refine Ends.reports (m := (s.m.unmarked f.head.stack f.head.link f.route).setFs _) counts ?_ (fun p mem => ?_)
    · rw [Mach.bumpF_unmarked]
      exact Reports.logError _ _ _ _ _ _ _
    · rw [List.mem_singleton.mp mem]
      exact (by decide : reportPlace (Reg.SYNC_DROPPED_DROPPED.key 0) = false)
  · obtain ⟨l, newest⟩ := Mach.logError_newest _ 0x0101 3 f.head.link 0 [] f.head.stack.isLt
    exact ⟨_, l, newest, rfl⟩

/-- A flit whose label is not VALID is counted (R351). -/
theorem IsRouted.unrouted (is : IsRouted i f typ guarded deliver) (a : Arrives s f)
    (ours : guarded = true → s.m.announcedOk f.head.stack f.head.link = true) (invalid : s.m.getB f.head.stack Reg.LNK_ROUTE_VALID f.route = false) :
    Lands i s (fun t => Sets s t [up s f.head.stack Reg.LNK_ROUTE_STATUS_UNROUTED] (fun m => m.unmarked f.head.stack f.head.link f.route)) := by
  have runs := is.runs a
  have body : (s.m.accepted f.head.stack f.head.link).routed f typ guarded (deliver s.fuse) =
      some ((s.m.unmarked f.head.stack f.head.link f.route).setFs [up s f.head.stack Reg.LNK_ROUTE_STATUS_UNROUTED]) := by
    unfold Mach.routed
    rw [if_neg (by
      rw [Mach.announcedOk_accepted _ _ f.head.stack.isLt]
      rintro ⟨looked, other⟩
      simp [ours looked] at other), if_pos (by
      unfold Mach.getB Mach.accepted
      rw [Mach.getF_updLnk]
      simpa [Mach.getB] using invalid), Mach.bumpF_unmarked]
  rw [body, Option.getD_some] at runs
  exact ⟨_, runs, (Sets.unmarked s _ _ _).andSetFs (List.nodup_singleton _) fun e mem => by rw [List.mem_singleton.mp mem]; exact f.head.stack.isLt⟩

/-- What a flit of the stack's own plan, with a VALID label, does. -/
theorem Mach.routed_valid (ours : guarded = true → s.m.announcedOk f.head.stack f.head.link = true)
    (valid : s.m.getB f.head.stack Reg.LNK_ROUTE_VALID f.route = true) (k : Mach → Option Mach) :
    (s.m.accepted f.head.stack f.head.link).routed f typ guarded k =
      if s.m.getF f.head.stack Reg.LNK_ROUTE_HOP f.route = 0x1F then k (s.m.accepted f.head.stack f.head.link)
      else some ((s.m.accepted f.head.stack f.head.link).routeSend f.head.stack f.route
        [{ typ := typ, first := f.first, last := f.last, packed := f.packed, len := f.len, addr := f.addr.toNat, payload := f.payload }] (some f.head.link)) := by
  unfold Mach.routed
  have fields (g : Fld) (j : Nat) : (s.m.accepted f.head.stack f.head.link).getF f.head.stack g j = s.m.getF f.head.stack g j := Mach.getF_updLnk ..
  rw [if_neg (by
    rw [Mach.announcedOk_accepted _ _ f.head.stack.isLt]
    rintro ⟨looked, other⟩
    simp [ours looked] at other), if_neg (by
    unfold Mach.getB
    rw [fields]
    simpa [Mach.getB] using valid), fields]

/-- A hop that is not LOCAL forwards the flit. -/
theorem IsRouted.forwarded (is : IsRouted i f typ guarded deliver) (a : Arrives s f)
    (ours : guarded = true → s.m.announcedOk f.head.stack f.head.link = true) (valid : s.m.getB f.head.stack Reg.LNK_ROUTE_VALID f.route = true)
    (onward : s.m.getF f.head.stack Reg.LNK_ROUTE_HOP f.route ≠ 0x1F) :
    Lands i s (fun t => Sets s t [] (fun m => m.updLinks f.head.stack (fun _ => (t.m.stk f.head.stack).link)) ∧
      (t.m.stk f.head.stack).link = (((s.m.accepted f.head.stack f.head.link).routeSend f.head.stack f.route
        [{ typ := typ, first := f.first, last := f.last, packed := f.packed, len := f.len, addr := f.addr.toNat, payload := f.payload }] (some f.head.link.val)).stk
          f.head.stack).link) := by
  have runs := is.runs a
  rw [Mach.routed_valid ours valid, if_neg onward, Option.getD_some] at runs
  exact ⟨_, runs, ((OwnLinks.updLnk s.m _ _ f.head.stack.isLt).trans (OwnLinks.linkPush _ _ _ f.head.stack.isLt)).sets, rfl⟩

/-- A LOCAL hop delivers the flit. -/
theorem IsRouted.delivered (is : IsRouted i f typ guarded deliver) (a : Arrives s f)
    (ours : guarded = true → s.m.announcedOk f.head.stack f.head.link = true) (valid : s.m.getB f.head.stack Reg.LNK_ROUTE_VALID f.route = true)
    (here : s.m.getF f.head.stack Reg.LNK_ROUTE_HOP f.route = 0x1F) {m : Mach} (does : deliver s.fuse (s.m.accepted f.head.stack f.head.link) = some m) :
    exec i s = .next { s with m := m } := by
  have runs := is.runs a
  rwa [Mach.routed_valid ours valid, if_pos here, does, Option.getD_some] at runs

end

end Sys2Proof.Machine
end


section
/-! SUPPORT. O35: what a flit does at a LOCAL hop: POISON, WRITE_ACK, READ_REQ, WRITE, READ_RSP and MESSAGE (R342 to R344, R351, R356). -/

namespace Sys2Proof.Machine
set_option Elab.async false

/-! ## What an access looks at -/

/-- The machines m and n hold, refuse and place accesses alike: registers, tests, core maps, caches and read-only pages are the same. -/
structure SameHomes (m n : Mach) : Prop where
  regs  : SameFields m n
  integ : ∀ v, (n.stk v).integ = (m.stk v).integ
  map   : ∀ v, (n.stk v).map = (m.stk v).map
  cache : ∀ v, (n.stk v).cache = (m.stk v).cache
  pages : ∀ v, (n.stk v).roPages = (m.stk v).roPages

namespace SameHomes
variable {m n : Mach}

theorem home (h : SameHomes m n) (v L : Nat) : n.home v L = m.home v L := by
  unfold Mach.home Mach.cacheCount
  rw [h.regs, h.regs]

theorem rowTesting (h : SameHomes m n) (a : Nat) : n.rowTesting a = m.rowTesting a := by
  unfold Mach.rowTesting Mach.rowOf Mach.execCore
  simp only [h.regs _ _ _, h.integ]

theorem rowFailed (h : SameHomes m n) (a : Nat) : n.rowFailed a = m.rowFailed a := by
  unfold Mach.rowFailed
  rw [h.integ]

theorem noWay (h : SameHomes m n) (v L : Nat) : n.noWay v L = m.noWay v L := by
  have lines (x : Home) : n.setLines v x = m.setLines v x := by
    unfold Mach.setLines
    simp only [h.cache, h.home]
  unfold Mach.noWay Mach.freeWay Mach.victim Mach.lineBusy
  simp only [lines, h.home, h.cache, h.rowTesting]

theorem accessHeld (h : SameHomes m n) (b : Bool) (a k : Nat) (w : Bool) : n.accessHeld b a k w = m.accessHeld b a k w := by
  unfold Mach.accessHeld Mach.getB Mach.lineBusy Mach.cline Mach.isDead
  simp only [h.regs _ _ _, h.map, h.cache, h.home, h.rowTesting, h.noWay]

theorem place (h : SameHomes m n) (k a : Nat) : n.place k a = m.place k a := by
  unfold Mach.place Mach.cacheCount Mach.slotMapped Mach.tierBytes
  simp only [h.regs _ _ _, h.map]

theorem writeDeny (h : SameHomes m n) (ag : Agent) (p : Place) (a : Nat) : n.writeDeny ag p a = m.writeDeny ag p a := by
  unfold Mach.writeDeny Mach.readOnly Mach.planRunning
  simp only [h.regs _ _ _, h.pages]

/-- Changes of links leave all of that. -/
theorem updLinks (m : Mach) (u : Nat) (f : LinkSt → LinkSt) : SameHomes m (m.updLinks u f) := by
  have part {α : Type} (g : Stack → α) (same : ∀ k l, g { k with link := l } = g k) (v : Nat) : g ((m.updLinks u f).stk v) = g (m.stk v) := by
    by_cases e : v = u
    · subst e
      by_cases l : v < 4
      · rw [Mach.updLinks, Mach.stk_updStk_same _ _ l, same]
      · rw [Mach.updLinks, Mach.stk_updStk_beyond _ _ l]
    · rw [Mach.updLinks, Mach.stk_updStk_ne _ _ e]
  exact ⟨fun v f j => Mach.getF_updLinks .., part Stack.integ fun _ _ => rfl, part Stack.map fun _ _ => rfl, part Stack.cache fun _ _ => rfl,
    part Stack.roPages fun _ _ => rfl⟩

theorem accepted (m : Mach) (u n : Nat) : SameHomes m (m.accepted u n) := by
  unfold Mach.accepted Mach.updLnk
  exact updLinks m u _

end SameHomes

/-- The link state of the stack of an accepted flit. -/
theorem Mach.accepted_links (m : Mach) {u : Nat} (n : Nat) (h : u < 4) : ((m.accepted u n).stk u).link =
    { (m.stk u).link with links := SMap.put (m.stk u).link.links n { m.lnk u n with recvSeq := ((m.lnk u n).recvSeq + 1) % 4096, nak := false } } := by
  rw [Mach.accepted, Mach.updLnk, Mach.link_updLinks _ _ h]
  rfl

theorem Mach.updLinks_congr (m : Mach) (u : Nat) {f g : LinkSt → LinkSt} (h : f (m.stk u).link = g (m.stk u).link) : m.updLinks u f = m.updLinks u g :=
  m.updStk_congr u _ _ (by rw [h])

section
variable {s : State} {f : FlitIn}

/-- The link state changed after the flit is accepted. -/
theorem Sets.acceptedLinks (s : State) (u n : Nat) (g : LinkSt → LinkSt) :
    Sets s { s with m := (s.m.accepted u n).updLinks u g } [] (fun m => (m.accepted u n).updLinks u g) := by
  refine ⟨rfl, rfl, ?_, fun _ h => (by cases h), fun v x j _ => (Mach.getF_updLinks ..).trans (Mach.getF_updLnk ..)⟩
  unfold Mach.accepted Mach.updLnk
  rw [Mach.noRegs_updLinks, Mach.noRegs_updLinks]

/-! ## POISON and WRITE_ACK -/

theorem poison_holds (a : Arrives s f) (valid : s.m.getB f.head.stack Reg.LNK_ROUTE_VALID f.route = true)
    (here : s.m.getF f.head.stack Reg.LNK_ROUTE_HOP f.route = 0x1F) :
    Lands (.poison f) s (fun t => Sets s t [] (fun m => (m.unmarked f.head.stack f.head.link f.route).updLinks f.head.stack (fun k => { k with
      poison := k.poison ++ [⟨f.route, fieldAt f.payload 0 4, fieldAt f.payload 4 16⟩] }))) := by
  refine ⟨_, IsRouted.delivered (typ := 6) (guarded := false) (deliver := fun _ m => some ((m.dropMark f.head.stack f.route).updLinks f.head.stack (fun k => { k with
      poison := k.poison ++ [⟨f.route, fieldAt f.payload 0 4, fieldAt f.payload 4 16⟩] }))) (fun _ => rfl) a (fun h => by cases h) valid here rfl, ?_⟩
  refine ⟨rfl, rfl, ?_, fun _ h => (by cases h), fun v x j _ => (Mach.getF_updLinks ..).trans (Mach.getF_unmarked ..)⟩
  unfold Mach.unmarked Mach.dropMark Mach.accepted Mach.updLnk
  rw [Mach.noRegs_updLinks, Mach.noRegs_updLinks, Mach.noRegs_updLinks]

theorem Mach.routeLink_accepted (m : Mach) {u : Nat} (n r : Nat) (h : u < 4) : (m.accepted u n).routeLink u r = m.routeLink u r := by
  unfold Mach.routeLink
  rw [m.accepted_links n h]
  simp only [(SameHomes.accepted m u n).regs _ _ _]

/-- The oldest transfer, with the tag and over the link, is the one acknowledged. -/
theorem writeAck_eq (m : Mach) {u n tag : Nat} {x : Xfer} {y : List Xfer} (open_ : (m.stk u).link.xfers = x :: y) (write : x.read = false)
    (same : x.tag = tag) (byLink : m.routeLink u x.route = n) : m.writeAck u n tag = m.updLinks u (fun k => { k with xfers := y }) := by
  have found : (m.stk u).link.xfers.find? (fun x => (!x.read && decide (x.tag = tag)) && decide (m.routeLink u x.route = n)) = some x := by
    rw [open_, List.find?_cons_of_pos (by simp [write, same, byLink])]
  unfold Mach.writeAck
  dsimp only
  rw [found]
  refine m.updLinks_congr u ?_
  rw [open_]
  simp only [List.erase_cons_head]

theorem writeAck_holds (a : Arrives s f) (valid : s.m.getB f.head.stack Reg.LNK_ROUTE_VALID f.route = true)
    (here : s.m.getF f.head.stack Reg.LNK_ROUTE_HOP f.route = 0x1F) {x : Xfer} {y : List Xfer} (open_ : (s.m.stk f.head.stack).link.xfers = x :: y)
    (write : x.read = false) (same : x.tag = f.addr.toNat % 2 ^ 16) (byLink : s.m.routeLink f.head.stack x.route = f.head.link.val) :
    Lands (.writeAck f) s (fun t => Sets s t [] (fun m => (m.accepted f.head.stack f.head.link).updLinks f.head.stack (fun k => { k with xfers := y }))) := by
  have u4 := f.head.stack.isLt
  refine ⟨_, IsRouted.delivered (typ := 2) (guarded := false) (deliver := fun _ m => some (m.writeAck f.head.stack f.head.link (f.addr.toNat % 2 ^ 16)))
    (fun _ => rfl) a (fun h => by cases h) valid here rfl, ?_⟩
  rw [writeAck_eq _ (by rw [s.m.accepted_links _ u4]; exact open_) write same ((s.m.routeLink_accepted _ _ u4).trans byLink)]
  exact Sets.acceptedLinks s _ _ _

/-! ## READ_REQ -/

/-- A read of quiet bytes detects nothing. -/
theorem Mach.detectHome_quiet {m : Mach} {a n : Nat} (quiet : m.Quiet a n) : m.detectHome a n = m := by
  obtain ⟨region, -, each⟩ := quiet
  have none : m.failsAt a n = [] := by
    unfold Mach.failsAt
    rw [if_neg (by rcases region with r | r <;> rw [r] <;> decide)]
    unfold Mach.failsIn
    rw [List.map_eq_nil_iff, List.filter_eq_nil_iff]
    intro i mem
    rw [(each i (List.mem_range.mp mem)).2]
    simp
  unfold Mach.detectHome
  rw [none]
  rfl

/-- Clean bytes of SRAM as a read at their homes delivers them. -/
theorem Mach.homeBytes_clean {m : Mach} {a n : Nat} (clean : m.Clean a n) : m.homeBytes a n = PByte.clean (m.bytesAt a n) := by
  obtain ⟨⟨region, within, each⟩, kinds⟩ := clean
  unfold Mach.homeBytes PByte.clean Mach.bytesAt
  rw [List.map_map]
  refine List.map_congr_left fun i mem => ?_
  have lt := List.mem_range.mp mem
  have here : daRegion (a + i) = 1 ∨ daRegion (a + i) = 2 := by rw [(each i lt).1]; exact region
  rw [Nat.mod_eq_of_lt (by omega)]
  unfold Mach.homeByte Mach.sramByte Mach.rowFailed Mem.readByte
  rw [if_neg (by rcases here with r | r <;> rw [r] <;> decide), kinds i lt]
  rcases here with r | r <;> rw [r] <;> rfl

theorem Mach.performRead_clean {m : Mach} {a n : Nat} (alloc : Bool) (clean : m.Clean a n) : m.performRead alloc a n = (m, PByte.clean (m.bytesAt a n)) := by
  unfold Mach.performRead
  rw [if_neg (by rcases clean.1.1 with r | r <;> rw [r] <;> decide)]
  dsimp only
  rw [Mach.detectHome_quiet clean.1, Mach.homeBytes_clean clean]

theorem readReq_holds (a : Arrives s f) (ours : s.m.announcedOk f.head.stack f.head.link = true)
    (valid : s.m.getB f.head.stack Reg.LNK_ROUTE_VALID f.route = true) (here : s.m.getF f.head.stack Reg.LNK_ROUTE_HOP f.route = 0x1F) :
    let src := fieldAt f.payload 0 8
    let len := fieldAt f.payload 8 4
    s.m.accessHeld false src len = false → readDeny (.mover 63) (s.m.place s.fuse.part.stackCount src) = none → s.m.Clean src len →
    let bs := convertBytes (s.m.getF f.head.stack Reg.LNK_ROUTE_CONVERT f.route) (PByte.clean (s.m.bytesAt src len))
    Lands (.readReq f) s (fun t => Sets s t [] (fun m => m.updLinks f.head.stack (fun _ => (t.m.stk f.head.stack).link)) ∧
      (t.m.stk f.head.stack).link = (((s.m.accepted f.head.stack f.head.link).sendBack f.head.stack f.route
        (plainFlits (bs.length / 256 + 1) 4 (fieldAt f.payload 12 4 * 2 ^ 16) bs true true)).stk f.head.stack).link) := by
  intro src len free allowed clean bs
  have homes := SameHomes.accepted s.m f.head.stack f.head.link
  have does : (s.m.accepted f.head.stack f.head.link).readReq s.fuse.part.stackCount f = some ((s.m.accepted f.head.stack f.head.link).sendBack f.head.stack f.route
      (plainFlits (bs.length / 256 + 1) 4 (fieldAt f.payload 12 4 * 2 ^ 16) bs true true)) := by
    unfold Mach.readReq
    dsimp only
    rw [homes.accessHeld, homes.place, free, if_neg (by decide), allowed]
    dsimp only
    rw [Mach.performRead_clean (m := s.m.accepted f.head.stack f.head.link) false clean, homes.regs]
    rfl
  refine ⟨_, IsRouted.delivered (typ := 3) (guarded := true) (deliver := fun fu m => m.readReq fu.part.stackCount f) (fun _ => rfl) a (fun _ => ours) valid here does,
    ((OwnLinks.updLnk s.m _ _ f.head.stack.isLt).trans (OwnLinks.linkPush _ _ _ f.head.stack.isLt)).sets, rfl⟩

/-! ## What a link keeps of the flits put on it (R345) -/

/-- The flits that a link still has: those that wait and those not acknowledged. -/
def Link.flits (l : Link) : List OutFlit := l.queue ++ l.unacked.map (·.2)

theorem Link.take_mem {l : Link} {b : Bool} {g : OutFlit} {r : List OutFlit} (h : l.take b = some (g, r)) : g ∈ l.queue ∧ r = l.queue.erase g := by
  have first {p : OutFlit → Bool} {g' : OutFlit} (found : l.queue.find? p = some g') (e : (g', l.queue.erase g') = (g, r)) :
      g ∈ l.queue ∧ r = l.queue.erase g := by
    obtain ⟨rfl, rfl⟩ := Prod.mk.inj e
    exact ⟨List.mem_of_find?_eq_some found, rfl⟩
  unfold Link.take at h
  split at h
  · next g' found => exact first found (Option.some.inj h)
  · split at h
    · cases h
    · split at h
      · cases h
      · next r' _ =>
        obtain ⟨g', found, e⟩ := Option.map_eq_some_iff.mp h
        exact first found e

theorem Link.afterSend_flits (l : Link) (g : OutFlit) : (l.afterSend g).flits = l.flits := by
  unfold Link.afterSend
  split <;> rfl

theorem Link.pump_flits (b : Bool) (k : Nat) (l : Link) {e : OutFlit} (mem : e ∈ l.flits) : e ∈ (l.pump b k).flits := by
  induction k generalizing l with
  | zero => exact mem
  | succ k ih =>
    unfold Link.pump
    split
    · exact mem
    · split
      · exact mem
      · next g r taken =>
        obtain ⟨here, rest⟩ := Link.take_mem taken
        refine ih _ ?_
        rw [Link.afterSend_flits]
        simp only [Link.flits, rest, List.map_append, List.map_cons, List.map_nil, List.mem_append, List.mem_singleton] at mem ⊢
        rcases mem with mem | mem
        · by_cases same : e = g
          · exact .inr (.inr same)
          · exact .inl ((List.mem_erase_of_ne same).mpr mem)
        · exact .inr (.inl mem)

theorem Mach.pump_flits (m : Mach) {u : Nat} (k : Nat) (h : u < 4) {e : OutFlit} (mem : e ∈ (m.lnk u k).flits) : e ∈ ((m.pump u k).lnk u k).flits := by
  have closed : ((m.closeDead u k).lnk u k).flits = (m.lnk u k).flits := by
    unfold Mach.closeDead
    split
    · split
      · rfl
      · rw [Mach.lnk_updLnk _ _ _ h]; rfl
    · rfl
  unfold Mach.pump
  split
  · rw [Mach.lnk_updLnk _ _ _ h]
    exact Link.pump_flits _ _ _ (closed ▸ mem)
  · exact mem

/-- A flit put on a link waits on it or is not acknowledged. -/
theorem Mach.linkPush_flits (m : Mach) {u : Nat} (k : Nat) (h : u < 4) {fs : List OutFlit} {e : OutFlit} (mem : e ∈ fs) :
    e ∈ ((m.linkPush u k fs).lnk u k).flits := by
  refine Mach.pump_flits _ k h ?_
  rw [Mach.lnk_updLnk _ _ _ h]
  exact List.mem_append_left _ (List.mem_append_right _ mem)

/-- A flit sent on the return path is on the link of ALT (R351). -/
theorem Mach.sendBack_flits (m : Mach) {u : Nat} (r : Nat) (h : u < 4) {k : Nat} (alt : m.getF u Reg.LNK_ROUTE_ALT r = k) {fs : List Flit} {g : Flit}
    (mem : g ∈ fs) : (⟨r, { g with route := m.getF u Reg.LNK_ROUTE_LABEL r }, none⟩ : OutFlit) ∈ ((m.sendBack u r fs).lnk u k).flits := by
  subst alt
  exact m.linkPush_flits _ h (List.mem_map_of_mem mem)

/-! ## WRITE (R343) -/

/-- The bytes of a flit whose route has no mark. -/
theorem Mach.marked_none {m : Mach} {u r : Nat} (none : (m.stk u).link.poison.find? (fun p => p.label = r) = none) (bs : List Byte) :
    m.marked u r bs = (m, PByte.clean bs) := by
  unfold Mach.marked
  rw [none]

theorem PByte.clean_length (bs : List Byte) : (PByte.clean bs).length = bs.length := List.length_map _

/-- Bytes from a link that nothing refuses. -/
theorem Mach.linkWrite_allowed {m : Mach} {k a : Nat} {bs : List Byte} (allowed : m.writeDeny (.mover 63) (m.place k a) a = none) (sram : daRegion a ≠ 4)
    (rows : ∀ i, i < bs.length → m.rowFailed (a + i) = false) : m.linkWrite k a (PByte.clean bs) = { m with mem := m.mem.writeBytes a bs } := by
  unfold Mach.linkWrite
  rw [allowed]
  exact m.performWrite_clean false a bs sram rows

/-- What WRITE needs at its address a of the machine m, for n bytes. -/
structure Writable (m : Mach) (k u r a n : Nat) : Prop where
  unmarked : (m.stk u).link.poison.find? (fun p => p.label = r) = none
  free     : m.accessHeld false a n = false
  allowed  : m.writeDeny (.mover 63) (m.place k a) a = none
  sram     : daRegion a ≠ 4
  rows     : ∀ i, i < n → m.rowFailed (a + i) = false

theorem Writable.accepted {m : Mach} {k u r a n : Nat} (w : Writable m k u r a n) (l : Nat) (h : u < 4) : Writable (m.accepted u l) k u r a n := by
  have homes := SameHomes.accepted m u l
  refine ⟨?_, (homes.accessHeld _ _ _ _).trans w.free, ?_, w.sram, fun i lt => (homes.rowFailed _).trans (w.rows i lt)⟩
  · rw [m.accepted_links l h]; exact w.unmarked
  · rw [homes.place, homes.writeDeny]; exact w.allowed

/-- What a flit does that writes data at a on the machine m once it is accepted: its links change, and the memory there. -/
def WroteFlit (u : Nat) (m n : Mach) (a : Nat) (data : List Byte) : Prop := OwnLinks u { m with mem := m.mem.writeBytes a data } n

theorem WroteFlit.holds {u l a : Nat} {n : Mach} {data : List Byte} (w : WroteFlit u (s.m.accepted u l) n a data) (h : u < 4) (wf : s.m.mem.wf = true) :
    Sets s { s with m := n } [] (fun m => { m.updLinks u (fun _ => (n.stk u).link) with mem := n.mem }) ∧
    ∀ b, n.mem.byte b = if a ≤ b ∧ b < a + data.length then data.getD (b - a) 0 else s.m.mem.byte b := by
  have mem : n.mem = s.m.mem.writeBytes a data := (congrArg Mach.mem w).trans rfl
  have own : OwnLinks u { s.m with mem := s.m.mem.writeBytes a data } n := by
    refine OwnLinks.trans (n := ({ s.m with mem := s.m.mem.writeBytes a data } : Mach).accepted u l) (OwnLinks.updLnk _ _ _ h) ?_
    rwa [show ({ s.m with mem := s.m.mem.writeBytes a data } : Mach).accepted u l = { s.m.accepted u l with mem := (s.m.accepted u l).mem.writeBytes a data } from rfl]
  refine ⟨⟨rfl, rfl, ?_, fun _ h => (by cases h), fun v f j _ => own.getF v f j⟩, fun b => ?_⟩
  · rw [mem]; exact own.noRegs
  · rw [mem]; exact Mem.byte_writeBytes _ _ _ _ wf

theorem writeFlit_eq {m : Mach} {k : Nat} (h : f.head.stack.val < 4) (w : Writable m k f.head.stack f.route f.addr.toNat (flitBytes f).length) :
    ∃ n, m.writeFlit k f = some n ∧ WroteFlit f.head.stack m n f.addr.toNat (flitBytes f) ∧
      (f.last = true → ∃ e, e ∈ (n.lnk f.head.stack (m.getF f.head.stack Reg.LNK_ROUTE_ALT f.route)).flits ∧ e.src = f.route.val ∧ e.flit.typ = 2 ∧
        (f.first = true → e.flit.addr = f.addr.toNat % 2 ^ 16)) := by
  have written := Mach.linkWrite_allowed (bs := flitBytes f) w.allowed w.sram w.rows
  unfold Mach.writeFlit
  simp only [Mach.marked_none w.unmarked, PByte.clean_length, w.free, written, Bool.false_eq_true, if_false]
  have links (g : LinkSt → LinkSt) := OwnLinks.updLinks (u := f.head.stack.val) { m with mem := m.mem.writeBytes f.addr.toNat (flitBytes f) } g h
  by_cases last : f.last = true
  · rw [if_pos last]
    refine ⟨_, rfl, (links _).trans (OwnLinks.linkPush _ _ _ h), fun _ => ?_⟩
    refine ⟨_, Mach.sendBack_flits _ f.route h ?_ List.mem_cons_self, rfl, rfl, fun first => ?_⟩
    · exact Mach.getF_updLinks ..
    · dsimp only
      split
      · rw [if_pos first]
      · rfl
  · rw [if_neg last]
    exact ⟨_, rfl, links _, fun h => absurd h last⟩

theorem write_holds (a : Arrives s f) (ours : s.m.announcedOk f.head.stack f.head.link = true)
    (valid : s.m.getB f.head.stack Reg.LNK_ROUTE_VALID f.route = true) (here : s.m.getF f.head.stack Reg.LNK_ROUTE_HOP f.route = 0x1F)
    (w : Writable s.m s.fuse.part.stackCount f.head.stack f.route f.addr.toNat (flitBytes f).length) (wf : s.m.mem.wf = true) :
    let u := f.head.stack
    let data := flitBytes f
    Lands (.write f) s (fun t => Sets s t [] (fun m => { m.updLinks u (fun _ => (t.m.stk u).link) with mem := t.m.mem }) ∧
      (∀ b, t.m.mem.byte b = if f.addr.toNat ≤ b ∧ b < f.addr.toNat + data.length then data.getD (b - f.addr.toNat) 0 else s.m.mem.byte b) ∧
      (f.last = true → ∃ e, e ∈ (t.m.lnk u (s.m.getF u Reg.LNK_ROUTE_ALT f.route)).queue ++ (t.m.lnk u (s.m.getF u Reg.LNK_ROUTE_ALT f.route)).unacked.map (·.2) ∧
        e.src = f.route.val ∧ e.flit.typ = 2 ∧ (f.first = true → e.flit.addr = f.addr.toNat % 2 ^ 16))) := by
  intro u data
  obtain ⟨n, does, wrote, answers⟩ := writeFlit_eq u.isLt (w.accepted f.head.link u.isLt)
  obtain ⟨sets, bytes⟩ := wrote.holds u.isLt wf
  rw [(SameHomes.accepted s.m u f.head.link).regs] at answers
  exact ⟨_, IsRouted.delivered (typ := 1) (guarded := true) (deliver := fun fu m => m.writeFlit fu.part.stackCount f) (fun _ => rfl) a (fun _ => ours) valid here does,
    sets, bytes, answers⟩

/-! ## READ_RSP (R343) -/

theorem readRsp_eq {m : Mach} {k : Nat} (h : f.head.stack.val < 4) {x : Xfer} {y : List Xfer} (open_ : (m.stk f.head.stack).link.xfers = x :: y)
    (read : x.read = true) (same : x.tag = f.addr.toNat / 2 ^ 16) (fits : (flitBytes f).length ≤ x.len - f.addr.toNat % 2 ^ 16)
    (w : Writable m k f.head.stack f.route (x.dst + f.addr.toNat % 2 ^ 16) (flitBytes f).length) :
    ∃ n, m.readRsp k f = some n ∧ WroteFlit f.head.stack m n (x.dst + f.addr.toNat % 2 ^ 16) (flitBytes f) ∧
      (x.left ≤ (flitBytes f).length → (n.stk f.head.stack).link.xfers = y) := by
  have written := Mach.linkWrite_allowed (bs := flitBytes f) w.allowed w.sram w.rows
  have found : (m.stk f.head.stack).link.xfers.find? (fun x => x.read && decide (x.tag = f.addr.toNat / 2 ^ 16)) = some x := by
    rw [open_, List.find?_cons_of_pos (by simp [read, same])]
  have whole : (PByte.clean (flitBytes f)).take (x.len - f.addr.toNat % 2 ^ 16) = PByte.clean (flitBytes f) :=
    List.take_of_length_le (by rw [PByte.clean_length]; exact fits)
  unfold Mach.readRsp
  simp only [found, Mach.marked_none w.unmarked, whole, PByte.clean_length, w.free, written, Bool.false_eq_true, if_false]
  refine ⟨_, rfl, OwnLinks.updLinks (u := f.head.stack.val) { m with mem := m.mem.writeBytes _ (flitBytes f) } _ h, fun all => ?_⟩
  rw [Mach.link_updLinks _ _ h, if_pos (by omega)]
  show (m.stk f.head.stack).link.xfers.erase x = y
  rw [open_, List.erase_cons_head]

theorem readRsp_holds (a : Arrives s f) (valid : s.m.getB f.head.stack Reg.LNK_ROUTE_VALID f.route = true)
    (here : s.m.getF f.head.stack Reg.LNK_ROUTE_HOP f.route = 0x1F) {x : Xfer} {y : List Xfer} (open_ : (s.m.stk f.head.stack).link.xfers = x :: y)
    (read : x.read = true) (same : x.tag = f.addr.toNat / 2 ^ 16) (fits : (flitBytes f).length ≤ x.len - f.addr.toNat % 2 ^ 16)
    (w : Writable s.m s.fuse.part.stackCount f.head.stack f.route (x.dst + f.addr.toNat % 2 ^ 16) (flitBytes f).length) (wf : s.m.mem.wf = true) :
    let u := f.head.stack
    let data := flitBytes f
    let ad := x.dst + f.addr.toNat % 2 ^ 16
    Lands (.readRsp f) s (fun t => Sets s t [] (fun m => { m.updLinks u (fun _ => (t.m.stk u).link) with mem := t.m.mem }) ∧
      (∀ b, t.m.mem.byte b = if ad ≤ b ∧ b < ad + data.length then data.getD (b - ad) 0 else s.m.mem.byte b) ∧
      (x.left ≤ data.length → (t.m.stk u).link.xfers = y)) := by
  intro u data ad
  obtain ⟨n, does, wrote, ends⟩ := readRsp_eq u.isLt (by rw [s.m.accepted_links _ u.isLt]; exact open_) read same fits (w.accepted f.head.link u.isLt)
  obtain ⟨sets, bytes⟩ := wrote.holds u.isLt wf
  exact ⟨_, IsRouted.delivered (typ := 4) (guarded := false) (deliver := fun fu m => m.readRsp fu.part.stackCount f) (fun _ => rfl) a (fun h => by cases h) valid here does,
    sets, bytes, ends⟩

/-! ## MESSAGE (R342) -/

/-- Traffic of a stack to itself crosses no bridge. -/
theorem Mach.cut_self (m : Mach) (n u : Nat) : m.cut n u u = false := by
  unfold Mach.cut bridgePath bridgeStacks
  rw [if_pos rfl]
  rfl

end

end Sys2Proof.Machine
end


section
/-! SUPPORT. O35: MESSAGE at a LOCAL hop delivers its signal (R62, R342). -/

namespace Sys2Proof.Machine
set_option Elab.async false

/-- A change of phase shows in the state words of the cores' scripts alone: memories and every register from 0x360_0000 on are as before. -/
theorem Mach.afterPhase_keeps (m m0 : Mach) (u : Nat) : SameStores m (m.afterPhase m0 u) ∧
    ∀ v f j, 0x360_0000 * 64 ≤ f.key j → (m.afterPhase m0 u).getF v f j = m.getF v f j := by
  have all (l : List (Nat × Core)) (n : Mach) : SameStores n (l.foldl (fun m e => m.syncScript u e.1) n) ∧
      ∀ v f j, 0x360_0000 * 64 ≤ f.key j → (l.foldl (fun m e => m.syncScript u e.1) n).getF v f j = n.getF v f j := by
    induction l generalizing n with
    | nil => exact ⟨⟨rfl, rfl, rfl⟩, fun _ _ _ _ => rfl⟩
    | cons e r ih =>
      obtain ⟨⟨sram, tier, host⟩, regs⟩ := ih (n.syncScript u e.1)
      obtain ⟨sram', tier', host'⟩ := (Frame.syncScript n u e.1).stores
      exact ⟨⟨sram.trans sram', tier.trans tier', host.trans host'⟩, fun v f j high => (regs v f j high).trans (Mach.getF_syncScript _ _ _ _ high)⟩
  unfold Mach.afterPhase
  split
  · exact ⟨⟨rfl, rfl, rfl⟩, fun _ _ _ _ => rfl⟩
  · exact all _ _

/-- One signal taken by an object of the stack from 64 on. -/
theorem Mach.takeSignals_own (m : Mach) {u h : Nat} (k f : Nat) (lt : u < 4) (legal : handleBad h = false) (here : handleSdid h = m.sdid u)
    (host : 64 ≤ handleObj h) : let n := m.takeSignals u h [(k, f)]
    SameStores m n ∧ n.count u (handleObj h) = (m.count u (handleObj h) + k) % 2 ^ 48 ∧
    ∀ x, x < 8192 → x ≠ handleObj h → n.count u x = m.count u x := by
  have does : m.takeSignals u h [(k, f)] = (m.applySignals u (handleObj h) [(k, f)]).afterPhase m u := by
    unfold Mach.takeSignals
    rw [if_neg (List.cons_ne_nil _ _), if_neg (by simp [legal, here])]
  obtain ⟨⟨sram, tier, mem⟩, count, -, others⟩ := Mach.applySignals_spec m k f lt host (Nat.mod_lt _ (by decide))
  obtain ⟨⟨sram', tier', mem'⟩, regs⟩ := (m.applySignals u (handleObj h) [(k, f)]).afterPhase_keeps m u
  have counts (x : Nat) : ((m.applySignals u (handleObj h) [(k, f)]).afterPhase m u).count u x = (m.applySignals u (handleObj h) [(k, f)]).count u x :=
    regs u Reg.SYNC_COUNT_COUNT x (by rw [count_key]; omega)
  dsimp only
  rw [does, counts]
  exact ⟨⟨sram'.trans sram, tier'.trans tier, mem'.trans mem⟩, count, fun x lx ne => (counts x).trans (others x lx ne)⟩

/-- A stack that a SDID names has it. -/
theorem Mach.sdid_of_stackOf {m : Mach} {d u : Nat} (h : m.stackOf d = some u) : m.sdid u = d := by
  simpa using List.find?_some h

/-- The one entry of a message of 16 bytes, a signal to an object of the stack itself, is taken at once. -/
theorem Mach.takeMessage_signal {m : Mach} {k u n : Nat} {e : List Byte} (len : e.length = 16) (kind : fieldAt e 8 1 = 2)
    (here : m.stackOf (handleSdid (bits (fieldAt e 0 8) 0 32)) = some u) (plan : (m.lnk u n).announced = m.planTag u) :
    m.messageHeld u e = false ∧ m.takeMessage k u n e = m.takeSignals u (bits (fieldAt e 0 8) 0 32) [(bits (fieldAt e 0 8) 32 16, 0)] := by
  have one : (List.range (min 16 (e.length / 16))) = [0] := by rw [len]; decide
  have whole : (e.drop (16 * 0)).take 16 = e := List.take_of_length_le (by simp [len])
  constructor
  · simp only [Mach.messageHeld, one, List.any_cons, List.any_nil, whole, kind]
    rfl
  · simp only [Mach.takeMessage, one, List.foldl_cons, List.foldl_nil, whole, Mach.takeEntry, kind, here, Option.getD_some, Mach.cut_self, plan,
      Bool.false_eq_true, if_false, if_true]

theorem message_holds {s : State} {f : FlitIn} (a : Arrives s f) (valid : s.m.getB f.head.stack Reg.LNK_ROUTE_VALID f.route = true)
    (local_ : s.m.getF f.head.stack Reg.LNK_ROUTE_HOP f.route = 0x1F) (ours : s.m.announcedOk f.head.stack f.head.link = true) :
    let u := f.head.stack
    let e := f.payload.take f.len
    let w := fieldAt e 0 8
    let o := handleObj (bits w 0 32)
    e.length = 16 → fieldAt e 8 1 = 2 → handleBad (bits w 0 32) = false → s.m.stackOf (handleSdid (bits w 0 32)) = some u.val → 64 ≤ o →
    Lands (.message f) s (fun t => t.fuse = s.fuse ∧ t.pending = s.pending ∧ t.m.mem = s.m.mem ∧ t.m.tier = s.m.tier ∧
      (bits w 32 16 ≠ 0 → t.m.count u o = (s.m.count u o + bits w 32 16) % 2 ^ 48) ∧
      (∀ x, x < 8192 → x ≠ o → t.m.count u x = s.m.count u x)) := by
  intro u e w o len kind legal here host
  have regs := (SameHomes.accepted s.m u f.head.link).regs
  have tag : ((s.m.accepted u f.head.link).lnk u f.head.link).announced = (s.m.accepted u f.head.link).planTag u := by
    obtain ⟨on, same⟩ := Bool.and_eq_true_iff.mp ours
    rw [Mach.accepted, Mach.lnk_updLnk _ _ _ u.isLt]
    refine (of_decide_eq_true same).trans ?_
    have onStill : (s.m.accepted u f.head.link).planOn u = true := by
      unfold Mach.planOn at on ⊢
      simpa only [regs _ _ _] using on
    unfold Mach.planTag
    rw [show (s.m.updLnk u f.head.link _) = s.m.accepted u f.head.link from rfl, if_pos onStill, regs]
  have hereStill : (s.m.accepted u f.head.link).stackOf (handleSdid (bits w 0 32)) = some u.val := by
    unfold Mach.stackOf Mach.sdid at here ⊢
    simpa only [regs _ _ _] using here
  obtain ⟨held, does⟩ := Mach.takeMessage_signal (k := s.fuse.part.stackCount) len kind hereStill tag
  obtain ⟨⟨sram, tier, -⟩, count, others⟩ := Mach.takeSignals_own (s.m.accepted u f.head.link) (bits w 32 16) 0 u.isLt legal
    (Mach.sdid_of_stackOf hereStill).symm host
  have runs := IsRouted.delivered (i := .message f) (typ := 5) (guarded := true) (deliver := fun fu m =>
    if m.messageHeld u e then none else some (m.takeMessage fu.part.stackCount u f.head.link e)) (fun _ => rfl) a (fun _ => ours) valid local_
    (m := (s.m.accepted u f.head.link).takeSignals u (bits w 0 32) [(bits w 32 16, 0)])
    (by rw [held, ← does]; rfl)
  have counts (x : Nat) : (s.m.accepted u f.head.link).count u x = s.m.count u x := regs _ _ _
  exact ⟨_, runs, rfl, rfl, sram, tier, fun _ => count.trans (by rw [counts]), fun x lx ne => (others x lx ne).trans (counts x)⟩

/-- Settles O35: the frame of a flit's header and CRC is read back as sent; the checks of sequence and route come before the flit's own effect, which at a
LOCAL hop is told kind by kind. -/
theorem flitsInSequenceAndRouted : Obligations.FlitsInSequenceAndRouted := by
  unfold Obligations.FlitsInSequenceAndRouted
  intro s h lt
  refine ⟨fun f seq ack nak typ len route addr whole => wire_read seq ack nak h.stack h.link typ len route addr whole, fun up =>
    ⟨fun i f b c hf hb hc mem => ?_, fun ty => ⟨fun bad => idle_failed lt up bad ty, fun good none next other => idle_reserved lt up good none next other⟩,
      fun good plain queue opened q f r first => idle_acked lt up good plain queue opened first,
      fun good none next => ⟨fun x => planAnnounce_accepted lt up good none next x, fun f hf => ?_⟩⟩⟩
  · have is := isFlit (s := s) hf hb hc mem
    exact ⟨fun bad => is.failed lt up bad, fun good none other => is.unexpected lt up good none other⟩
  subst hf
  have a : Arrives s f := ⟨lt, up, good, none, next⟩
  refine ⟨fun i typ g mem => ?_, fun valid here => ?_⟩
  · obtain ⟨deliver, is⟩ := isRouted f mem
    exact ⟨fun looked other => is.foreign a looked other,
      fun ours => ⟨fun invalid => is.unrouted a ours invalid, fun valid elsewhere => is.forwarded a ours valid elsewhere⟩⟩
  · refine ⟨fun ours unmarked free allowed at_ rows => ?_, fun x y open_ write same byLink => writeAck_holds a valid here open_ write same byLink,
      fun ours free allowed clean => readReq_holds a ours valid here free allowed clean,
      fun x y open_ read same fits unmarked free allowed sram wf rows => ?_, poison_holds a valid here, fun ours => message_holds a valid here ours⟩
    · exact write_holds a ours valid here ⟨unmarked, free, allowed, at_.1, rows⟩ at_.2
    · exact readRsp_holds a valid here open_ read same fits ⟨unmarked, free, allowed, sram, rows⟩ wf

end Sys2Proof.Machine
end


section
/-! SUPPORT. O27: what the end of a plan leaves: cores and their plan, memory outside the cells of dead lines, and what homes are found by (R76, R279). -/

namespace Sys2Proof.Machine
set_option Elab.async false

/-! ## Whole lines written -/

namespace Mem

/-- The byte at b and its check are as before. -/
def SameAt (b : Nat) (m n : Mem) : Prop := n.byte b = m.byte b ∧ n.syndrome b = m.syndrome b

theorem SameAt.trans {b : Nat} {m n p : Mem} (h : SameAt b m n) (g : SameAt b n p) : SameAt b m p := ⟨g.1.trans h.1, g.2.trans h.2⟩

theorem SameAt.foldl {α : Type} {b : Nat} (f : Mem → α → Mem) (l : List α) (h : ∀ m x, x ∈ l → SameAt b m (f m x)) (m : Mem) : SameAt b m (l.foldl f m) := by
  induction l generalizing m with
  | nil => exact ⟨rfl, rfl⟩
  | cons x r ih => exact (h m x List.mem_cons_self).trans (ih (fun n y my => h n y (List.mem_cons_of_mem _ my)) _)

theorem SameAt.put (m : Mem) {a b : Nat} (d : Byte) (y : Nat) (h : b ≠ a) : SameAt b m (m.put a d y) :=
  ⟨Cells.get_set_ne _ _ h, by unfold Mem.syndrome Mem.put; rw [Cells.get_set_ne _ _ h]⟩

theorem SameAt.poisonGranule (m : Mem) {g b : Nat} (k : Nat) (h : b < 8 * g ∨ 8 * g + 8 ≤ b) : SameAt b m (m.poisonGranule (8 * g) k) := by
  refine SameAt.foldl _ _ (fun m x mem => SameAt.put m _ _ ?_) m
  obtain ⟨i, lt, rfl⟩ := List.mem_map.mp mem
  rw [List.mem_range] at lt
  omega

/-- Whole granules written change nothing outside themselves. -/
theorem SameAt.write (m : Mem) {a b : Nat} {bs : List PByte} (aligned : a % 8 = 0) (whole : bs.length % 8 = 0) (some : 0 < bs.length)
    (h : b < a ∨ a + bs.length ≤ b) : SameAt b m (m.write a bs) := by
  have clean : SameAt b m ((bs.zipIdx).foldl (fun m e => if e.1.poison = 0 then m.putByte (a + e.2) e.1.val else m) m) := by
    refine SameAt.foldl _ _ (fun m e mem => ?_) m
    have := List.mem_zipIdx mem
    split
    · exact SameAt.put m _ _ (by omega)
    · exact ⟨rfl, rfl⟩
  unfold Mem.write
  dsimp only
  split
  · exact clean
  · refine clean.trans (SameAt.foldl _ _ (fun m i mem => ?_) _)
    rw [List.mem_range] at mem
    split
    · exact ⟨rfl, rfl⟩
    · exact SameAt.poisonGranule m _ (by omega)

end Mem

/-! ## Changes that keep cores, caches and plans -/

/-- The cores of a stack, its caches and its plan. -/
def Stack.calm (k : Stack) : SMap Core × CacheSt × Plan := (k.cores, k.cache, k.plan.plan)

/-- Every register field inside zone z is as before, and so are memories, cores, caches and plans. -/
structure Calm (z : List (Nat × Nat)) (m n : Mach) : Prop where
  frame : Frame (outside z) m n
  part  : ∀ k, (n.stk k).calm = (m.stk k).calm

namespace Calm
variable {z : List (Nat × Nat)} {m n p : Mach}

theorem refl (m : Mach) : Calm z m m := ⟨Frame.refl m, fun _ => rfl⟩

theorem trans (h : Calm z m n) (g : Calm z n p) : Calm z m p := ⟨h.frame.trans g.frame, fun k => (g.part k).trans (h.part k)⟩

/-- `trans` with the last operation named first. -/
theorem after (g : Calm z n p) (h : Calm z m n) : Calm z m p := h.trans g

theorem ite (c : Prop) [Decidable c] (h : Calm z m n) (g : Calm z m p) : Calm z m (if c then n else p) := by split <;> assumption

theorem foldl {α : Type} (f : Mach → α → Mach) (l : List α) (h : ∀ m x, Calm z m (f m x)) (m : Mach) : Calm z m (l.foldl f m) := by
  induction l generalizing m with
  | nil => exact refl m
  | cons x r ih => exact (h m x).trans (ih _)

theorem updStk (m : Mach) (s : Nat) (f : Stack → Stack) (c : (f (m.stk s)).csr = (m.stk s).csr) (h : (f (m.stk s)).calm = (m.stk s).calm) :
    Calm z m (m.updStk s f) := by
  refine ⟨Frame.updStk _ _ _ c, fun k => ?_⟩
  by_cases e : k = s
  · subst e
    by_cases l : k < 4
    · rw [Mach.stk_updStk_same _ _ l, h]
    · rw [Mach.stk_updStk_beyond _ _ l]
  · rw [Mach.stk_updStk_ne _ _ e]

/-- A field set at a place outside the zone. -/
theorem setPlace (m : Mach) (s : Nat) (f : Fld) (v i : Nat) (h : outside z (f.key i) = true) : Calm z m (m.setF s f v i) := by
  refine ⟨Frame.setF _ _ _ _ _ h, fun k => ?_⟩
  by_cases e : k = s
  · subst e
    by_cases l : k < 4
    · rw [Mach.setF, Mach.stk_updStk_same _ _ l]; rfl
    · rw [Mach.setF, Mach.stk_updStk_beyond _ _ l]
  · rw [Mach.setF, Mach.stk_updStk_ne _ _ e]

theorem setF (m : Mach) (s : Nat) (f : Fld) (v i : Nat) (h : clearOf z f = true) : Calm z m (m.setF s f v i) := setPlace _ _ _ _ _ (outside_key h i)

theorem of_reports (h : ∀ p, reportPlace p = true → outside z p = true) (r : Reports m n) : Calm z m n :=
  ⟨Frame.of_reports h r, fun k => (congrArg Stack.calm (r.stk_eq k) :)⟩

theorem mono {w : List (Nat × Nat)} (h : ∀ p, outside w p = true → outside z p = true) (c : Calm w m n) : Calm z m n :=
  ⟨⟨c.frame.regs.mono h, c.frame.stores⟩, c.part⟩

/-- A field whose copies lie in the zone reads as before. -/
theorem getF (c : Calm z m n) (v : Nat) (f : Fld) (j : Nat) (i : insideOf z f = true) : n.getF v f j = m.getF v f j :=
  c.frame.regs v f j (by rw [outside, inZone_key i]; rfl)

theorem cores (c : Calm z m n) (k : Nat) : (n.stk k).cores = (m.stk k).cores := congrArg Prod.fst (c.part k)
theorem cache (c : Calm z m n) (k : Nat) : (n.stk k).cache = (m.stk k).cache := congrArg (fun x => x.2.1) (c.part k)
theorem plan (c : Calm z m n) (k : Nat) : (n.stk k).plan.plan = (m.stk k).plan.plan := congrArg (fun x => x.2.2) (c.part k)

end Calm

/-- The shares of the caches. -/
def cacheZone : List (Nat × Nat) := [(0x400_0008, 0x400_0010), (0x410_0008, 0x410_0010)]

/-- The same with the state and the id of the plan. -/
def endZone : List (Nat × Nat) := (0x520_0200, 0x520_0210) :: cacheZone

/-- The same with the movers' registers. -/
def restZone : List (Nat × Nat) := (0x4A0_0000, 0x4B0_0000) :: endZone

theorem outside_restZone (p : Nat) (h : reportPlace p = true) : outside restZone p = true := by
  simp only [reportPlace, Bool.or_eq_true, Bool.and_eq_true, decide_eq_true_eq, beq_iff_eq] at h
  simp only [outside, inZone, restZone, endZone, cacheZone, Bool.not_eq_true', List.any_eq_false, Bool.and_eq_true, decide_eq_true_eq, List.mem_cons, List.not_mem_nil, or_false]
  rintro e (rfl | rfl | rfl | rfl) ⟨above, below⟩ <;> dsimp only at above below <;> omega

theorem outside_endZone (p : Nat) (h : outside restZone p = true) : outside endZone p = true := by
  simp only [outside, inZone, restZone, Bool.not_eq_true', List.any_cons, Bool.or_eq_false_iff] at h ⊢
  exact h.2

theorem outside_cacheZone (p : Nat) (h : outside endZone p = true) : outside cacheZone p = true := by
  simp only [outside, inZone, endZone, Bool.not_eq_true', List.any_cons, Bool.or_eq_false_iff] at h ⊢
  exact h.2

namespace Calm
variable {m n : Mach}

theorem shares (c : Calm endZone m n) : Calm cacheZone m n := c.mono outside_cacheZone

theorem rest (c : Calm restZone m n) : Calm endZone m n := c.mono outside_endZone

theorem reports (r : Reports m n) : Calm restZone m n := of_reports outside_restZone r

/-! ## Channels that stop -/

theorem stopChain (m : Mach) (s c status : Nat) (last : Bool) : Calm endZone m (m.stopChain s c status last) := by
  unfold Mach.stopChain Mach.release
  dsimp only
  exact after (reports (Reports.srcEdge _ _ _)).rest (after (setF _ _ _ _ _ (by decide)) (after (setF _ _ _ _ _ (by decide)) (after (setF _ _ _ _ _ (by decide))
    (after (updStk _ _ _ rfl rfl) (after (setF _ _ _ _ _ (by decide)) (setF _ _ _ _ _ (by decide)))))))

theorem abortChain (m : Mach) (s c : Nat) : Calm endZone m (m.abortChain s c) :=
  ite _ (after (stopChain _ _ _ _ _) (after (reports (Reports.logError _ _ _ _ _ _ _)).rest (setF m s Reg.MOV_CH_CTRL_ERROR 1 c (by decide)))) (refl m)

/-! ## Links and Cabinets that a licence leaves -/

theorem linkBegin (m : Mach) (s n : Nat) : Calm restZone m (m.linkBegin s n) := ite _ (setF _ _ _ _ _ (by decide)) (refl m)

theorem linkDisable (m : Mach) (s n : Nat) : Calm restZone m (m.linkDisable s n) := by
  unfold Mach.linkDisable
  have off := (setF (z := restZone) m s Reg.LNK_STATUS_STATE 0 n (by decide)).trans
    (updStk _ s (fun k => { k with link := { k.link with links := k.link.links.filter (fun e => e.1 ≠ n) } }) rfl rfl)
  have down := off.trans (setF _ s Reg.LNK_STATUS_DOWN_EVENT 1 n (by decide))
  exact ite _ (down.trans (reports ((Reports.srcEdge _ _ _).trans (Reports.event _ _ _ _ _)))) off

theorem linksSettle (m : Mach) (s l : Nat) : Calm restZone m (m.linksSettle s l) :=
  foldl _ _ (fun m n => ite _ (linkBegin m s n) (ite _ (linkDisable m s n) (refl m))) m

theorem licencesSettle (m : Mach) (s l : Nat) : Calm restZone m (m.licencesSettle s l) := by
  unfold Mach.licencesSettle Mach.onStacks
  have settled := linksSettle m s l
  refine ite _ settled (after (foldl _ _ (fun n c => ?_) _) settled)
  exact ite _ ((setF n s Reg.CAB_LP_CFG_CHEST_SLOTS 0 c (by decide)).trans (setF _ s Reg.CAB_LP_CFG_CHEST_EN 0 c (by decide))) (refl n)

theorem dropKeyed (m : Mach) (s : Nat) : Calm restZone m (m.dropKeyed s) := by
  unfold Mach.dropKeyed Mach.onStacks
  dsimp only
  refine after (foldl _ _ (fun n c => (setF n s Reg.CAB_ORDER_QUEUED 0 c (by decide)).trans (setF _ s Reg.CAB_ORDER_INTAKE_WAIT 0 c (by decide))) _) ?_
  exact after (updStk _ _ _ rfl rfl) ⟨⟨fun _ _ _ _ => rfl, rfl, rfl, rfl⟩, fun _ => rfl⟩

end Calm

/-! ## Dead lines -/

/-- Byte a lies in no cell of a resident line that is dead on a stack of v. -/
def Apart (v : Nat → Prop) (m : Mach) (a : Nat) : Prop :=
  ∀ k, k < 4 → v k → ∀ x ∈ (m.stk k).cache.dead, ∀ l, m.cline k x = some l → ¬(cellAddr k (m.home k x) l.way ≤ a ∧ a < cellAddr k (m.home k x) l.way + 128)

/-- What the end of the plans on the written of v leaves: the tier, host memory, cores, plans, and every byte apart from their dead lines. -/
structure Spared (v : Nat → Prop) (m n : Mach) : Prop where
  tier  : n.tier = m.tier
  host  : n.hostMem = m.hostMem
  cores : ∀ k, (n.stk k).cores = (m.stk k).cores
  plan  : ∀ k, (n.stk k).plan.plan = (m.stk k).plan.plan
  cells : ∀ a, Apart v m a → Mem.SameAt a m.mem n.mem ∧ Apart v n a

namespace Spared
variable {v : Nat → Prop} {m n p : Mach}

theorem refl (m : Mach) : Spared v m m := ⟨rfl, rfl, fun _ => rfl, fun _ => rfl, fun _ h => ⟨⟨rfl, rfl⟩, h⟩⟩

theorem trans (h : Spared v m n) (g : Spared v n p) : Spared v m p := by
  refine ⟨g.tier.trans h.tier, g.host.trans h.host, fun k => (g.cores k).trans (h.cores k), fun k => (g.plan k).trans (h.plan k), fun a apart => ?_⟩
  obtain ⟨same, still⟩ := h.cells a apart
  obtain ⟨same', rest⟩ := g.cells a still
  exact ⟨same.trans same', rest⟩

theorem of_calm (c : Calm cacheZone m n) : Spared v m n := by
  obtain ⟨mem, tier, host⟩ := c.frame.stores
  refine ⟨tier, host, c.cores, c.plan, fun a apart => ⟨?_, ?_⟩⟩
  · rw [mem]; exact ⟨rfl, rfl⟩
  · have home (k x : Nat) : n.home k x = m.home k x := by
      unfold Mach.home Mach.cacheCount
      rw [c.frame.regs _ _ 0 (by decide), c.frame.regs _ _ 1 (by decide)]
    unfold Apart Mach.cline at apart ⊢
    simpa only [c.cache, home] using apart

end Spared

/-- A dead line reads its backing memory again. -/
def Mach.reviveLine (s : Nat) (m : Mach) (L : Nat) : Mach :=
  match m.cline s L with
  | some c => (m.sramWrite (cellAddr s (m.home s L) c.way) (m.backing s L)).updLine s L (fun c => { c with dirty := false })
  | none => m

theorem Mach.backing_length (m : Mach) (s L : Nat) : (m.backing s L).length = 128 := by
  unfold Mach.backing
  split
  · simp [PByte.clean]
  · simp [Mem.read]

theorem cellAddr_aligned (s : Nat) (h : Home) (w : Nat) : cellAddr s h w % 8 = 0 := by
  unfold cellAddr devAddr
  omega

/-- Memory written at a line's cells keeps every byte apart from them. -/
theorem Mach.sramWrite_line (m : Mach) (s L : Nat) (h : Home) (way : Nat) {a : Nat} (away : ¬(cellAddr s h way ≤ a ∧ a < cellAddr s h way + 128)) :
    Mem.SameAt a m.mem (m.sramWrite (cellAddr s h way) (m.backing s L)).mem := by
  unfold Mach.sramWrite
  split
  · exact ⟨rfl, rfl⟩
  · have length := m.backing_length s L
    exact Mem.SameAt.write _ (cellAddr_aligned s h way) (by rw [length]) (by rw [length]; decide) (by rw [length]; omega)

theorem Mach.sramWrite_rest (m : Mach) (a : Nat) (bs : List PByte) :
    (m.sramWrite a bs).stackSet = m.stackSet ∧ (m.sramWrite a bs).tier = m.tier ∧ (m.sramWrite a bs).hostMem = m.hostMem := by
  unfold Mach.sramWrite
  split <;> exact ⟨rfl, rfl, rfl⟩

/-- The lines of a stack with L made clean. -/
def cleaned (L : Nat) (l : List CLine) : List CLine := l.map (fun c => if c.line = L then { c with dirty := false } else c)

/-- A line made clean keeps its way. -/
theorem cleaned_way {L x : Nat} {l : List CLine} {d : CLine} (is : (cleaned L l).find? (fun c => c.line = x) = some d) :
    ∃ c, l.find? (fun c => c.line = x) = some c ∧ c.way = d.way := by
  rw [cleaned, List.find?_map] at is
  obtain ⟨c, found, rfl⟩ := Option.map_eq_some_iff.mp is
  refine ⟨c, ?_, by split <;> rfl⟩
  rw [← found]
  refine congrArg (fun p => List.find? p l) (funext fun c => ?_)
  simp only [Function.comp]
  split <;> rfl

/-- A line made clean changes the cache of its stack alone. -/
theorem Mach.updLine_cleaned (m : Mach) {s : Nat} (L : Nat) (lt : s < 4) (k : Nat) : (m.updLine s L (fun c => { c with dirty := false })).stk k =
    if k = s then { m.stk k with cache := { (m.stk k).cache with lines := cleaned L (m.stk k).cache.lines } } else m.stk k := by
  split
  · next e => subst e; rw [Mach.updLine, Mach.updCache, Mach.stk_updStk_same _ _ lt]; rfl
  · next e => rw [Mach.updLine, Mach.updCache, Mach.stk_updStk_ne _ _ e]

/-- A line made clean keeps which bytes are apart from dead lines. -/
theorem Mach.updLine_spared (v : Nat → Prop) (m : Mach) {s : Nat} (L : Nat) (lt : s < 4) : Spared v m (m.updLine s L (fun c => { c with dirty := false })) ∧
    ∀ k, ((m.updLine s L (fun c => { c with dirty := false })).stk k).cache.dead = (m.stk k).cache.dead := by
  have stk := m.updLine_cleaned L lt
  have dead (k : Nat) : ((m.updLine s L (fun c => { c with dirty := false })).stk k).cache.dead = (m.stk k).cache.dead := by rw [stk]; split <;> rfl
  refine ⟨⟨rfl, rfl, fun k => by rw [stk]; split <;> rfl, fun k => by rw [stk]; split <;> rfl, fun a apart => ⟨⟨rfl, rfl⟩, ?_⟩⟩, dead⟩
  intro k k4 vk x xm l is
  rw [dead] at xm
  have home : (m.updLine s L (fun c => { c with dirty := false })).home k x = m.home k x := by
    have regs (f : Fld) (j : Nat) : (m.updLine s L (fun c => { c with dirty := false })).getF k f j = m.getF k f j := Mach.getF_updStk _ _ _ _ _ _ rfl
    unfold Mach.home Mach.cacheCount
    rw [regs, regs]
  have same : ∃ c, m.cline k x = some c ∧ c.way = l.way := by
    unfold Mach.cline at is ⊢
    rw [stk] at is
    split at is
    · exact cleaned_way is
    · exact ⟨l, is, rfl⟩
  obtain ⟨c, found, way⟩ := same
  rw [home, ← way]
  exact apart k k4 vk x xm c found

/-- A change of memory alone, apart from the dead lines. -/
theorem Spared.of_mem {v : Nat → Prop} {m n : Mach} (written : n.stackSet = m.stackSet ∧ n.tier = m.tier ∧ n.hostMem = m.hostMem)
    (same : ∀ a, Apart v m a → Mem.SameAt a m.mem n.mem) : Spared v m n := by
  obtain ⟨set, tier, host⟩ := written
  have stk (k : Nat) : n.stk k = m.stk k := by rw [Mach.stk, Mach.stk, set]
  refine ⟨tier, host, fun k => by rw [stk], fun k => by rw [stk], fun a apart => ⟨same a apart, ?_⟩⟩
  unfold Apart Mach.cline Mach.home Mach.cacheCount Mach.getF at apart ⊢
  simpa only [stk] using apart

/-- A line written and made clean: its cells apart, memory is as before, and every line keeps its way. -/
theorem Mach.reviveLine_spared {v : Nat → Prop} (m : Mach) {s L : Nat} (lt : s < 4) (ends : v s) (dead : L ∈ (m.stk s).cache.dead) :
    Spared v m (m.reviveLine s L) ∧ ∀ k, ((m.reviveLine s L).stk k).cache.dead = (m.stk k).cache.dead := by
  unfold Mach.reviveLine
  cases found : m.cline s L with
  | none => exact ⟨Spared.refl m, fun _ => rfl⟩
  | some c =>
    have written := m.sramWrite_rest (cellAddr s (m.home s L) c.way) (m.backing s L)
    obtain ⟨spared, kept⟩ := (m.sramWrite (cellAddr s (m.home s L) c.way) (m.backing s L)).updLine_spared v L lt
    refine ⟨(Spared.of_mem written fun a apart => m.sramWrite_line s L _ _ (apart s lt ends L dead c found)).trans spared, fun k => (kept k).trans ?_⟩
    rw [Mach.stk, Mach.stk, written.1]

end Sys2Proof.Machine
end


section
/-! SUPPORT. O27: the dead tables emptied, and the plan ended on one stack and on all (R76, R77, R279, R398). -/

namespace Sys2Proof.Machine
set_option Elab.async false

/-! ## The dead tables -/

/-- Each line of a list that is dead reads its backing memory again. -/
theorem Mach.reviveLines_spared {v : Nat → Prop} {s : Nat} (lt : s < 4) (ends : v s) (l : List Nat) (m : Mach) (dead : ∀ L ∈ l, L ∈ (m.stk s).cache.dead) :
    Spared v m (l.foldl (Mach.reviveLine s) m) ∧ ∀ k, ((l.foldl (Mach.reviveLine s) m).stk k).cache.dead = (m.stk k).cache.dead := by
  induction l generalizing m with
  | nil => exact ⟨Spared.refl m, fun _ => rfl⟩
  | cons L r ih =>
    obtain ⟨first, kept⟩ := m.reviveLine_spared lt ends (dead L List.mem_cons_self)
    obtain ⟨rest, kept'⟩ := ih (m.reviveLine s L) fun x mem => by rw [kept]; exact dead x (List.mem_cons_of_mem _ mem)
    exact ⟨first.trans rest, fun k => (kept' k).trans (kept k)⟩

theorem Mach.reviveLine_regs (m : Mach) (s L v : Nat) (f : Fld) (j : Nat) : (m.reviveLine s L).getF v f j = m.getF v f j := by
  unfold Mach.reviveLine
  split
  · refine (Mach.getF_updStk _ _ _ _ _ _ rfl).trans ?_
    rw [Mach.getF, Mach.stk, (m.sramWrite_rest _ _).1]
    rfl
  · rfl

/-- The tables of stack s with no line in them. -/
def Mach.noDead (m : Mach) (s : Nat) : Mach :=
  ((m.updCache s (fun k => { k with dead := [] })).setF s Reg.CDIE_DEAD_STATUS_ENTRIES 0 0).setF s Reg.CDIE_DEAD_STATUS_ENTRIES 0 1

theorem Mach.clearDead_eq (m : Mach) (s : Nat) : m.clearDead s = ((m.stk s).cache.dead.foldl (Mach.reviveLine s) m).noDead s := rfl

/-- What a part of a stack that is no register reads after fields are set. -/
theorem Mach.part_setF {α : Type} (g : Stack → α) (same : ∀ k c, g { k with csr := c } = g k) (m : Mach) (s : Nat) (f : Fld) (v i k : Nat) :
    g ((m.setF s f v i).stk k) = g (m.stk k) := by
  by_cases e : k = s
  · subst e
    by_cases l : k < 4
    · rw [Mach.setF, Mach.stk_updStk_same _ _ l, same]
    · rw [Mach.setF, Mach.stk_updStk_beyond _ _ l]
  · rw [Mach.setF, Mach.stk_updStk_ne _ _ e]

theorem Mach.noDead_stack {α : Type} (g : Stack → α) (same : ∀ k c, g { k with csr := c } = g k) (m : Mach) {s : Nat} (lt : s < 4) (k : Nat) :
    g ((m.noDead s).stk k) = if k = s then g { m.stk k with cache := { (m.stk k).cache with dead := [] } } else g (m.stk k) := by
  unfold Mach.noDead
  rw [Mach.part_setF g same, Mach.part_setF g same]
  split
  · next e => subst e; rw [Mach.updCache, Mach.stk_updStk_same _ _ lt]
  · next e => rw [Mach.updCache, Mach.stk_updStk_ne _ _ e]

theorem Mach.noDead_regs (m : Mach) (s : Nat) : RegsKept (outside restZone) m (m.noDead s) :=
  ((RegsKept.updStk m s _ rfl).trans (RegsKept.setF _ s _ _ 0 (by decide))).trans (RegsKept.setF _ s _ _ 1 (by decide))

theorem Mach.noDead_spared (v : Nat → Prop) (m : Mach) {s : Nat} (lt : s < 4) : Spared v m (m.noDead s) := by
  have dead := m.noDead_stack (fun k => k.cache.dead) (fun _ _ => rfl) lt
  have lines (k : Nat) : ((m.noDead s).stk k).cache.lines = (m.stk k).cache.lines :=
    (m.noDead_stack (fun k => k.cache.lines) (fun _ _ => rfl) lt k).trans (ite_self _)
  refine ⟨rfl, rfl, fun k => (m.noDead_stack Stack.cores (fun _ _ => rfl) lt k).trans (ite_self _),
    fun k => (m.noDead_stack (fun k => k.plan.plan) (fun _ _ => rfl) lt k).trans (ite_self _), fun a apart => ⟨⟨rfl, rfl⟩, fun k k4 vk x xm l is => ?_⟩⟩
  have home : (m.noDead s).home k x = m.home k x := by
    unfold Mach.home Mach.cacheCount
    rw [m.noDead_regs s k _ 0 (by decide), m.noDead_regs s k _ 1 (by decide)]
  rw [Mach.cline, lines] at is
  rw [home]
  by_cases e : k = s
  · rw [dead, if_pos e] at xm
    cases xm
  · rw [dead, if_neg e] at xm
    exact apart k k4 vk x xm l is

/-- The dead tables of a stack emptied: no line of it is dead, and the other stacks' are. -/
theorem Mach.clearDead_spared {v : Nat → Prop} (m : Mach) {s : Nat} (lt : s < 4) (ends : v s) : Spared v m (m.clearDead s) ∧
    ∀ k, ((m.clearDead s).stk k).cache.dead = if k = s then [] else (m.stk k).cache.dead := by
  rw [Mach.clearDead_eq]
  obtain ⟨spared, kept⟩ := Mach.reviveLines_spared lt ends (m.stk s).cache.dead m fun _ h => h
  refine ⟨spared.trans (Mach.noDead_spared v _ lt), fun k => ?_⟩
  rw [Mach.noDead_stack (fun k => k.cache.dead) (fun _ _ => rfl) _ lt]
  split
  · rfl
  · exact kept k

theorem Mach.clearDead_regs (m : Mach) (s : Nat) : RegsKept (outside restZone) m (m.clearDead s) := by
  rw [Mach.clearDead_eq]
  exact (RegsKept.foldl _ _ (fun m L _ v f j _ => m.reviveLine_regs s L v f j) m).trans (Mach.noDead_regs _ s)

/-! ## The plan ended on one stack -/

/-- Channel c, when it is bound, stops and is unbound. -/
def Mach.unbind (s : Nat) (m : Mach) (c : Nat) : Mach :=
  if m.getB s Reg.MOV_CH_CTRL_BOUND c then (m.abortChain s c).setF s Reg.MOV_CH_CTRL_BOUND 0 c else m

/-- What follows the emptying of the dead tables: pages to turn writable, the SDID unlocked, removed licences in effect. -/
def Mach.unlocked (m : Mach) (s l : Nat) : Mach :=
  ((m.updStk s (fun k => { k with plan := { k.plan with turning := k.plan.turning ++ k.roPages.filter (fun p => !k.plan.turning.contains p) } })).setF s
    Reg.LNK_SDID_LOCKED 0).licencesSettle s l

theorem Mach.planEnded_eq (m : Mach) (s : Nat) : m.planEnded s = (((List.range 64).foldl (Mach.unbind s) m).clearDead s).unlocked s (m.stk s).plan.features := rfl

theorem Mach.unbind_calm (m : Mach) (s c : Nat) : Calm endZone m (m.unbind s c) :=
  Calm.ite _ ((Calm.abortChain m s c).trans (Calm.setF _ _ _ _ _ (by decide))) (Calm.refl m)

theorem Mach.unlocked_calm (m : Mach) (s l : Nat) : Calm restZone m (m.unlocked s l) :=
  (Calm.after (Calm.setF _ s Reg.LNK_SDID_LOCKED 0 0 (by decide)) (Calm.updStk _ _ _ rfl rfl)).trans (Calm.licencesSettle _ _ _)

theorem Mach.planEnded_spared {v : Nat → Prop} (m : Mach) {s : Nat} (lt : s < 4) (ends : v s) : Spared v m (m.planEnded s) ∧
    ∀ k, ((m.planEnded s).stk k).cache.dead = if k = s then [] else (m.stk k).cache.dead := by
  rw [Mach.planEnded_eq]
  have unbound := Calm.foldl (Mach.unbind s) (List.range 64) (fun m c => m.unbind_calm s c) m
  obtain ⟨spared, dead⟩ := ((List.range 64).foldl (Mach.unbind s) m).clearDead_spared lt ends
  have settled := (((List.range 64).foldl (Mach.unbind s) m).clearDead s).unlocked_calm s (m.stk s).plan.features
  refine ⟨((Spared.of_calm unbound.shares).trans spared).trans (Spared.of_calm settled.rest.shares), fun k => ?_⟩
  rw [settled.cache, dead, unbound.cache]

theorem Mach.planEnded_regs (m : Mach) (s : Nat) : RegsKept (outside endZone) m (m.planEnded s) := by
  rw [Mach.planEnded_eq]
  exact ((Calm.foldl (Mach.unbind s) _ (fun m c => m.unbind_calm s c) m).frame.regs.trans ((Mach.clearDead_regs _ s).mono outside_endZone)).trans
    (Mach.unlocked_calm _ s _).rest.frame.regs

/-! ## Channels unbound (R77) -/

theorem Mach.abortChain_bound (m : Mach) (s c j : Nat) : (m.abortChain s c).getF s Reg.MOV_CH_CTRL_BOUND j = m.getF s Reg.MOV_CH_CTRL_BOUND j := by
  have ctrl : reportPlace (Reg.MOV_CH_CTRL_BOUND.key j) = false := by
    rw [reportPlace_eq_false, Fld.key_div _ _ (by decide)]
    simp only [RegDef.off, Reg.MOV_CH_CTRL_BOUND, Reg.MOV_CH_CTRL]
    omega
  have other (n : Mach) (f : Fld) (v i : Nat) (h : f.lo % 64 ≠ 2) : (n.setF s f v i).getF s Reg.MOV_CH_CTRL_BOUND j = n.getF s Reg.MOV_CH_CTRL_BOUND j :=
    Mach.getF_setF_key _ _ _ _ _ _ _ _ (key_ne (Ne.symm h))
  unfold Mach.abortChain
  split
  · unfold Mach.stopChain Mach.release
    dsimp only
    rw [(Reports.srcEdge _ _ _).regs _ _ _ ctrl, other _ _ _ _ (by decide), other _ _ _ _ (by decide), other _ _ _ _ (by decide),
      Mach.updMov, Mach.getF_updStk _ _ _ _ _ _ rfl, other _ _ _ _ (by decide), other _ _ _ _ (by decide), (Reports.logError _ _ _ _ _ _ _).regs _ _ _ ctrl,
      other _ _ _ _ (by decide)]
  · rfl

/-- A channel that is unbound stays so while others are. -/
theorem Mach.unbind_bound (m : Mach) {s : Nat} (lt : s < 4) (c j : Nat) (h : j = c ∨ m.getB s Reg.MOV_CH_CTRL_BOUND j = false) :
    (m.unbind s c).getB s Reg.MOV_CH_CTRL_BOUND j = false := by
  unfold Mach.unbind
  split
  · next bound =>
    by_cases e : Reg.MOV_CH_CTRL_BOUND.key j = Reg.MOV_CH_CTRL_BOUND.key c
    · have same (n : Mach) : n.getF s Reg.MOV_CH_CTRL_BOUND j = n.getF s Reg.MOV_CH_CTRL_BOUND c := by unfold Mach.getF; rw [e]; rfl
      rw [Mach.getB, same, Mach.getF_setF_same _ _ _ _ lt]
      rfl
    · rw [Mach.getB, Mach.getF_setF_key _ _ _ _ _ _ _ _ e, Mach.abortChain_bound]
      exact h.resolve_left fun same => e (same ▸ rfl)
  · next free => exact h.elim (fun same => same ▸ Bool.eq_false_iff.mpr free) id

theorem Mach.unbind_all {s : Nat} (lt : s < 4) (l : List Nat) (m : Mach) (j : Nat) (h : j ∈ l ∨ m.getB s Reg.MOV_CH_CTRL_BOUND j = false) :
    (l.foldl (Mach.unbind s) m).getB s Reg.MOV_CH_CTRL_BOUND j = false := by
  induction l generalizing m with
  | nil => exact h.resolve_left List.not_mem_nil
  | cons c r ih =>
    refine ih _ ?_
    rcases h with mem | free
    · rcases List.mem_cons.mp mem with same | later
      · exact .inr (m.unbind_bound lt c j (.inl same))
      · exact .inl later
    · exact .inr (m.unbind_bound lt c j (.inr free))

theorem Mach.planEnded_unbound (m : Mach) {s c : Nat} (lt : s < 4) (c64 : c < 64) : (m.planEnded s).getB s Reg.MOV_CH_CTRL_BOUND c = false := by
  have freed := Mach.unbind_all lt (List.range 64) m c (.inl (List.mem_range.mpr c64))
  have place : outside restZone (Reg.MOV_CH_CTRL_BOUND.key c) = false := by rw [outside, inZone_key (by decide)]; rfl
  rw [Mach.planEnded_eq, Mach.getB, (Mach.unlocked_calm _ s _).frame.regs _ _ _ place, Mach.clearDead_regs _ _ _ _ _ place]
  exact freed

end Sys2Proof.Machine
end


section
/-! SUPPORT. O27: CORE_ABORT, KERNEL_FAULT and PLAN_COMPLETE (R76, R77, R148, R150). -/

namespace Sys2Proof.Machine
set_option Elab.async false

/-! ## The plan ended on every stack -/

theorem Mach.endOne_calmly (code : Nat) (m : Mach) (k : Nat) : Calm cacheZone m ((m.setF k Reg.BUR_PLAN_STATE_STATE 4).updPlan k (fun p => { p with endStatus := code })) :=
  (Calm.setF _ _ _ _ _ (by decide)).trans (Calm.updStk _ _ _ rfl rfl)

theorem Mach.endOne_spared {v : Nat → Prop} (code : Nat) (m : Mach) {k : Nat} (lt : k < 4) (ends : m.planOn k = true → v k) : Spared v m (m.endOne code k) ∧
    ∀ j, ((m.endOne code k).stk j).cache.dead = if j = k ∧ m.planOn k = true then [] else (m.stk j).cache.dead := by
  unfold Mach.endOne
  cases on : m.planOn k with
  | false => exact ⟨Spared.refl m, fun j => by simp⟩
  | true =>
    have set := m.endOne_calmly code k
    obtain ⟨spared, dead⟩ := ((m.setF k Reg.BUR_PLAN_STATE_STATE 4).updPlan k (fun p => { p with endStatus := code })).planEnded_spared lt (ends on)
    have dropped := Calm.dropKeyed (((m.setF k Reg.BUR_PLAN_STATE_STATE 4).updPlan k (fun p => { p with endStatus := code })).planEnded k) k
    refine ⟨((Spared.of_calm set).trans spared).trans (Spared.of_calm dropped.rest.shares), fun j => ?_⟩
    simp only [if_true, and_true]
    rw [dropped.cache, dead, set.cache]

/-- Plans end on the stacks of a list one after the other. -/
theorem Mach.endOnes_spared {v : Nat → Prop} (code : Nat) (l : List Nat) (m : Mach) (different : l.Nodup) (within : ∀ k ∈ l, k < 4)
    (ends : ∀ k ∈ l, m.planOn k = true → v k) : let n := l.foldl (Mach.endOne code) m
    Spared v m n ∧ (∀ k, (m.stk k).cache.dead = [] → (n.stk k).cache.dead = []) ∧ (∀ k ∈ l, m.planOn k = true → (n.stk k).cache.dead = []) ∧
    ∀ k, m.planOn k = false → n.getF k Reg.BUR_PLAN_STATE_STATE = m.getF k Reg.BUR_PLAN_STATE_STATE := by
  induction l generalizing m with
  | nil => exact ⟨Spared.refl m, fun _ h => h, fun _ h => (by cases h), fun _ _ => rfl⟩
  | cons j r ih =>
    obtain ⟨fresh, distinct⟩ := List.nodup_cons.mp different
    obtain ⟨spared, dead⟩ := m.endOne_spared code (within j List.mem_cons_self) (ends j List.mem_cons_self)
    have state (k : Nat) (h : k ≠ j ∨ m.planOn k = false) : (m.endOne code j).getF k Reg.BUR_PLAN_STATE_STATE = m.getF k Reg.BUR_PLAN_STATE_STATE := by
      by_cases e : k = j
      · subst e; rw [Mach.endOne, if_neg (by simp [h.resolve_left (fun ne => ne rfl)])]
      · exact (m.endOne_other code e).1
    have on (k : Nat) (h : k ≠ j ∨ m.planOn k = false) : (m.endOne code j).planOn k = m.planOn k := by unfold Mach.planOn; rw [state k h]
    have apart {k : Nat} (mem : k ∈ r) : k ≠ j := fun same => fresh (same ▸ mem)
    obtain ⟨rest, stays, gone, off⟩ := ih (m.endOne code j) distinct (fun k mem => within k (List.mem_cons_of_mem _ mem))
      fun k mem => by rw [on k (.inl (apart mem))]; exact ends k (List.mem_cons_of_mem _ mem)
    refine ⟨spared.trans rest, fun k none => stays k ?_, fun k mem was => ?_, fun k none => ?_⟩
    · rw [dead]; split
      · rfl
      · exact none
    · rcases List.mem_cons.mp mem with rfl | later
      · exact stays k (by rw [dead, if_pos ⟨rfl, was⟩])
      · exact gone k later (by rw [on k (.inl (apart later))]; exact was)
    · exact (off k (by rw [on k (.inr none)]; exact none)).trans (state k (.inr none))

/-- The plan of every stack on which one is on ends: what is spared, the dead tables, and the states. -/
theorem Mach.endPlan_spared (m : Mach) (u code : Nat) (some : (List.range 4).any m.planOn = true) : let n := m.endPlan u code
    Spared (fun k => m.planOn k = true) m n ∧ (∀ k, k < 4 → m.planOn k = true → (n.stk k).plan.endStatus = code ∧ (n.stk k).cache.dead = []) ∧
    ∀ k, k < 4 → n.getF k Reg.BUR_PLAN_STATE_STATE = if m.planOn k then 4 else m.getF k Reg.BUR_PLAN_STATE_STATE := by
  obtain ⟨j, mem, on⟩ := List.any_eq_true.mp some
  obtain ⟨spared, -, dead, off⟩ := Mach.endOnes_spared (v := fun k => m.planOn k = true) code (List.range 4) m List.nodup_range (fun _ => List.mem_range.mp) fun _ _ h => h
  have told : Reports ((List.range 4).foldl (Mach.endOne code) m) (m.endPlan u code) := by
    rw [Mach.endPlan_eq (List.mem_range.mp mem) on]
    exact Reports.event _ _ _ _ _
  have calm := Calm.reports told
  refine ⟨spared.trans (Spared.of_calm calm.rest.shares), fun k lt on => ⟨(m.endPlan_ends u code lt on).2, ?_⟩, fun k lt => ?_⟩
  · rw [calm.cache, dead k (List.mem_range.mpr lt) on]
  · cases h : m.planOn k with
    | true => exact (m.endPlan_ends u code lt h).1
    | false => exact (calm.getF k _ _ (by decide)).trans (off k h)

/-! ## Events told -/

theorem Mach.stk_withHost (m : Mach) (x : HostSt) (u : Nat) : ({ m with host := x } : Mach).stk u = m.stk u := rfl

theorem Mach.ringWrite_bureau (m : Mach) (e : Event) (u : Nat) : ((m.ringWrite e).stk u).bureau = (m.stk u).bureau := by
  unfold Mach.ringWrite Mach.sendVector
  extract_lets n m1
  rw [Mach.stk_withHost, Mach.part_setF Stack.bureau (fun _ _ => rfl), Mach.stk_withHost]

/-- After its entry in the error log an event changes the ring alone. -/
theorem Mach.event_bureau (m : Mach) (u code : Nat) (args : List Nat) (st : Nat) :
    ((m.event u code args st).stk u).bureau = ((m.logError u st 0 0 0 (code :: args)).stk u).bureau := by
  unfold Mach.event Mach.eventAs
  extract_lets e n
  show _ = (n.stk u).bureau
  generalize n = n
  split
  · exact n.ringWrite_bureau e u
  · split
    · rw [Mach.part_setF Stack.bureau (fun _ _ => rfl), Mach.stk_withHost]
    · rw [Mach.bumpF, Mach.part_setF Stack.bureau (fun _ _ => rfl), Mach.part_setF Stack.bureau (fun _ _ => rfl), Mach.stk_withHost]

theorem Mach.event_newest (m : Mach) {u : Nat} (code : Nat) (args : List Nat) (st : Nat) (h : u < 4) :
    ∃ e r, ((m.event u code args st).stk u).bureau.errLog = e :: r ∧ e.detail = code :: args ∧ e.stack = u := by
  obtain ⟨l, newest⟩ := m.logError_newest st 0 0 0 (code :: args) h
  exact ⟨_, l, (congrArg Bureau.errLog (m.event_bureau u code args st)).trans newest, rfl, rfl⟩

/-! ## CORE_ABORT -/

/-- The unit of a core discarded, with the core left in state h. -/
def Core.discarded (c : Core) (h : CoreHalt) : Core :=
  { c with
    script := c.rcd.script, phase := c.rcd.phase, running := false, committing := none, loopEnd := none, halt := h, loops := c.rcd.loops
    ins := c.ins.map (fun e => (e.1, { e.2 with cur := 0 }))
    outs := c.outs.map (fun e => (e.1, { e.2 with cur := 0 }))
    staged := [], groups := [], launch := {}, entry := {}, refetched := false, stores := [], atoms := [], atomNs := [], late := none
    ended := c.rcd.ended
    mx := { nextId := c.mx.nextId }, att := { nextId := c.att.nextId }, kv := { nextId := c.kv.nextId } }

/-- Registers, and what is neither core, cache nor plan, may have changed. -/
abbrev Registers (m n : Mach) : Prop := Calm [] m n

theorem Calm.resetF (m : Mach) (s : Nat) (f : Fld) (i : Nat) : Registers m (m.resetF s f i) := by
  refine ⟨⟨fun v g j out => (by cases out), rfl, rfl, rfl⟩, fun k => ?_⟩
  unfold Mach.resetF
  by_cases e : k = s
  · subst e
    by_cases l : k < 4
    · rw [Mach.stk_updStk_same _ _ l]; rfl
    · rw [Mach.stk_updStk_beyond _ _ l]
  · rw [Mach.stk_updStk_ne _ _ e]

theorem Calm.set (m : Mach) (s : Nat) (f : Fld) (v i : Nat) : Registers m (m.setF s f v i) := Calm.setPlace _ _ _ _ _ rfl

theorem Calm.syncWaiters (m : Mach) (s o : Nat) : Registers m (m.syncWaiters s o) :=
  Calm.ite _ ((Calm.set _ _ _ _ _).trans (Calm.updStk _ _ _ rfl rfl)) (Calm.set _ _ _ _ _)

theorem Calm.clearLaunchRegs (m : Mach) (s L : Nat) : Registers m (m.clearLaunchRegs s L) :=
  (((Calm.set _ _ _ _ _).trans (Calm.set _ _ _ _ _)).trans (Calm.set _ _ _ _ _)).trans (Calm.foldl _ _ (fun m f => Calm.resetF m s f _) _)

theorem Calm.syncScript (m : Mach) (s L : Nat) : Registers m (m.syncScript s L) :=
  ((Calm.set _ _ _ _ _).trans (Calm.set _ _ _ _ _)).trans (Calm.set _ _ _ _ _)

theorem Mach.discardUnit_registers (m : Mach) (s L : Nat) (h : CoreHalt) : Registers (m.updCore s L (fun c => c.discarded h)) (m.discardUnit s L h) :=
  Calm.foldl _ _ (fun m o => Calm.syncWaiters m s o) _

theorem Core.discarded_ins (c : Core) (h : CoreHalt) (i : Nat) : SMap.getD (c.discarded h).ins i {} = { SMap.getD c.ins i {} with cur := 0 } := by
  have found : SMap.find (c.discarded h).ins i = (SMap.find c.ins i).map (fun x => { x with cur := 0 }) :=
    SMap.find_map c.ins (fun e => (e.1, { e.2 with cur := 0 })) (fun _ => rfl) i
  unfold SMap.getD
  rw [found]
  cases SMap.find c.ins i <;> rfl

theorem Core.discarded_outs (c : Core) (h : CoreHalt) (i : Nat) : SMap.getD (c.discarded h).outs i {} = { SMap.getD c.outs i {} with cur := 0 } := by
  have found : SMap.find (c.discarded h).outs i = (SMap.find c.outs i).map (fun x => { x with cur := 0 }) :=
    SMap.find_map c.outs (fun e => (e.1, { e.2 with cur := 0 })) (fun _ => rfl) i
  unfold SMap.getD
  rw [found]
  cases SMap.find c.outs i <;> rfl

theorem Calm.core {z : List (Nat × Nat)} {m n : Mach} (c : Calm z m n) (v M : Nat) : n.core v M = m.core v M := by rw [Mach.core, c.cores, Mach.core]

/-- A core changed, and then registers alone. -/
theorem sameBut_core {s : State} {n : Mach} {u L : Nat} {f : Core → Core} (lt : u < 4) (r : Registers (s.m.updCore u L f) n) :
    SameBut s { s with m := n } u L ∧ n.core u L = f (s.m.core u L) := by
  obtain ⟨mem, tier, host⟩ := r.frame.stores
  exact ⟨⟨rfl, rfl, fun v M ne => (r.core v M).trans (s.m.core_updCore_ne f ne), mem, tier, host⟩, (r.core u L).trans (s.m.core_updCore_same L f lt)⟩

theorem coreAbort_lands {s : State} {u : StackNo} (lt : u.val < s.fuse.part.stackCount) (L : Fin 832) (aborted : s.m.getF u Reg.BUR_PLAN_STATE_STATE = 4)
    (runs : (s.m.core u L).halt ≠ .stopped) (well : (s.m.core u L).halt ≠ .fault) :
    Lands (.coreAbort ⟨u, L⟩) s (fun t => SameBut s t u L ∧ t.m.core u L = (s.m.core u L).discarded .stopped) := by
  refine ⟨_, onStack_in _ lt, ?_⟩
  have does : s.m.coreAbort u L = ((s.m.discardUnit u L .stopped).clearLaunchRegs u L).syncScript u L := if_pos ⟨aborted, runs, well⟩
  rw [does]
  exact sameBut_core u.isLt (((s.m.discardUnit_registers u L .stopped).trans (Calm.clearLaunchRegs _ _ _)).trans (Calm.syncScript _ _ _))

/-! ## KERNEL_FAULT -/

/-- Where the shares and the tables of the caches are as before, a byte is apart from dead lines as before. -/
theorem Apart.congr {v w : Nat → Prop} {m n : Mach} {a : Nat} (h : Apart v m a) (fewer : ∀ k, k < 4 → w k → v k) (cache : ∀ k, (n.stk k).cache = (m.stk k).cache)
    (shares : ∀ k i, n.getF k Reg.CDIE_PART_STATUS_CACHE_NOW i = m.getF k Reg.CDIE_PART_STATUS_CACHE_NOW i) : Apart w n a := by
  intro k k4 wk x mem l is
  have home : n.home k x = m.home k x := by
    unfold Mach.home Mach.cacheCount
    rw [shares, shares]
  rw [Mach.cline, cache] at is
  rw [cache] at mem
  rw [home]
  exact h k k4 (fewer k k4 wk) x mem l is

/-- A fault's core stopped, and the fault logged. -/
def Mach.faultLogged (m : Mach) (s L : Nat) : Mach :=
  (m.updCore s L (fun c => { c with halt := .stopped, late := none })).logError s 0x0021 1 (m.physOf s L) (m.getF s Reg.CORE_FAULT_ADDR_ADDR (m.physOf s L))
    [m.getF s Reg.CORE_FAULT_INFO_CAUSE (m.physOf s L), m.getF s Reg.CORE_FAULT_PC_PC (m.physOf s L)]

theorem Mach.kernelFault_eq {m : Mach} {s L : Nat} (faulted : (m.core s L).halt = .fault) (on : (List.range 4).any (m.faultLogged s L).planOn = true) :
    m.kernelFault s L = ((m.faultLogged s L).endPlan s 0x0021).event s 0x0003 [L, m.getF s Reg.CORE_FAULT_INFO_CAUSE (m.physOf s L),
      m.getF s Reg.CORE_FAULT_PC_PC (m.physOf s L), m.getF s Reg.CORE_FAULT_ADDR_ADDR (m.physOf s L)] := by
  unfold Mach.kernelFault
  exact (if_neg (not_not.mpr faulted)).trans (if_pos on)

theorem Mach.faultLogged_reports (m : Mach) (s L : Nat) :
    Reports (m.updCore s L (fun c => { c with halt := .stopped, late := none })) (m.faultLogged s L) := Reports.logError _ _ _ _ _ _ _

theorem Mach.cache_updCore (m : Mach) (s L : Nat) (f : Core → Core) (k : Nat) : ((m.updCore s L f).stk k).cache = (m.stk k).cache := by
  by_cases e : k = s
  · subst e
    by_cases l : k < 4
    · rw [Mach.updCore, Mach.stk_updStk_same _ _ l]
    · rw [Mach.updCore, Mach.stk_updStk_beyond _ _ l]
  · rw [Mach.updCore, Mach.stk_updStk_ne _ _ e]

end Sys2Proof.Machine
end


section
/-! SUPPORT. O27: the fault that ends the plan, and its completion. -/

namespace Sys2Proof.Machine
set_option Elab.async false

theorem Mach.faultLogged_regs (m : Mach) (s L : Nat) {v j : Nat} {f : Fld} (h : reportPlace (f.key j) = false) : (m.faultLogged s L).getF v f j = m.getF v f j :=
  ((m.faultLogged_reports s L).regs v f j h).trans (m.getF_updCore s L v _ f j)

theorem Mach.faultLogged_planOn (m : Mach) (s L k : Nat) : (m.faultLogged s L).planOn k = m.planOn k := by
  unfold Mach.planOn
  rw [m.faultLogged_regs s L (by decide)]

theorem kernelFault_lands {s : State} {u : StackNo} (lt : u.val < s.fuse.part.stackCount) (L : Fin 832) (faulted : (s.m.core u L).halt = .fault)
    (on : (List.range 4).any s.m.planOn = true) : Lands (.kernelFault ⟨u, L⟩) s (fun t => t.fuse = s.fuse ∧ t.pending = s.pending ∧
      (t.m.tier = s.m.tier ∧ t.m.hostMem = s.m.hostMem ∧ ∀ a, Apart (fun k => s.m.planOn k = true) s.m a → Mem.SameAt a s.m.mem t.m.mem) ∧ SameCores s t u L ∧
      t.m.core u L = { s.m.core u L with halt := .stopped, late := none } ∧
      (∀ k, k < 4 → t.m.getF k Reg.BUR_PLAN_STATE_STATE = if s.m.planOn k then 4 else s.m.getF k Reg.BUR_PLAN_STATE_STATE) ∧
      (∀ k, k < 4 → s.m.planOn k = true → (t.m.stk k).plan.endStatus = 0x0021 ∧ (t.m.stk k).cache.dead = []) ∧
      Told t u 0x0003 [L.val, s.m.getF u Reg.CORE_FAULT_INFO_CAUSE (s.m.physOf u L), s.m.getF u Reg.CORE_FAULT_PC_PC (s.m.physOf u L),
        s.m.getF u Reg.CORE_FAULT_ADDR_ADDR (s.m.physOf u L)]) := by
  refine ⟨_, onStack_in _ lt, rfl, rfl, ?_⟩
  have planOn := s.m.faultLogged_planOn u L
  have still : (List.range 4).any (s.m.faultLogged u L).planOn = true := by rwa [show (s.m.faultLogged u L).planOn = s.m.planOn from funext planOn]
  dsimp only
  rw [Mach.kernelFault_eq faulted still]
  have logged := Calm.reports (s.m.faultLogged_reports u L)
  obtain ⟨mem, tier, host⟩ := logged.frame.stores
  obtain ⟨spared, ends, state⟩ := (s.m.faultLogged u L).endPlan_spared u 0x0021 still
  have told := Reports.event ((s.m.faultLogged u L).endPlan u 0x0021) u 0x0003 [L.val, s.m.getF u Reg.CORE_FAULT_INFO_CAUSE (s.m.physOf u L),
    s.m.getF u Reg.CORE_FAULT_PC_PC (s.m.physOf u L), s.m.getF u Reg.CORE_FAULT_ADDR_ADDR (s.m.physOf u L)] 0
  have calm := Calm.reports told
  obtain ⟨mem', tier', host'⟩ := calm.frame.stores
  have core (v M : Nat) := (calm.core v M).trans ((show _ = (s.m.faultLogged u L).core v M by rw [Mach.core, spared.cores, Mach.core]).trans (logged.core v M))
  refine ⟨⟨(tier'.trans spared.tier).trans tier, (host'.trans spared.host).trans host, fun a apart => ?_⟩, fun v M ne => (core v M).trans (s.m.core_updCore_ne _ ne),
    (core u L).trans (s.m.core_updCore_same L _ u.isLt), fun k k4 => ?_, fun k k4 was => ?_, Mach.event_newest _ _ _ _ u.isLt⟩
  · have same := (spared.cells a (apart.congr (fun k _ h => (planOn k).symm.trans h) (fun k => (logged.cache k).trans (s.m.cache_updCore u L _ k))
      fun k i => s.m.faultLogged_regs u L (by
        rw [reportPlace_eq_false, Fld.key_div _ _ (by decide)]
        simp only [RegDef.off, Reg.CDIE_PART_STATUS_CACHE_NOW, Reg.CDIE_PART_STATUS]
        omega))).1
    rw [mem] at same
    rw [mem']
    exact same
  · rw [calm.getF _ _ _ (by decide), state k k4, planOn, s.m.faultLogged_regs u L (by decide)]
  · obtain ⟨status, dead⟩ := ends k k4 ((planOn k).trans was)
    refine ⟨?_, (congrArg CacheSt.dead (calm.cache k)).trans dead⟩
    have view : Steady planZone endView _ _ := Steady.reports told
    exact (view.part k).trans status

/-! ## PLAN_COMPLETE -/

/-- The plan of stack u COMPLETE, and what ends with it. -/
def Mach.planCompleted (m : Mach) (u : Nat) : Mach := (m.setF u Reg.BUR_PLAN_STATE_STATE 3).planEnded u

/-- The completion is told once every stack of the plan is COMPLETE. -/
def Mach.tellComplete (m : Mach) (u : Nat) : Mach :=
  if (m.plan u).stackSet.all (fun k => m.getF k Reg.BUR_PLAN_STATE_STATE = 3) then m.event u 0x0001 [m.getF u Reg.BUR_PLAN_ID_PLAN_ID] else m

theorem Mach.planComplete_eq {m : Mach} {u : Nat} (runs : m.planRunning u = true) (done : m.planDone u = true) : m.planComplete u = (m.planCompleted u).tellComplete u := by
  unfold Mach.planComplete
  rw [if_neg (by simp [runs, done])]
  rfl

theorem Mach.tellComplete_reports (m : Mach) (u : Nat) : Reports m (m.tellComplete u) := by
  unfold Mach.tellComplete
  split
  · exact Reports.event _ _ _ _ _
  · exact Reports.refl m

theorem planComplete_lands {s : State} {u : StackNo} (lt : u.val < s.fuse.part.stackCount) (runs : s.m.planRunning u = true) (done : s.m.planDone u = true) :
    Lands (.planComplete ⟨u⟩) s (fun t => t.fuse = s.fuse ∧ t.pending = s.pending ∧
      (t.m.tier = s.m.tier ∧ t.m.hostMem = s.m.hostMem ∧ ∀ a, Apart (fun k => k = u.val) s.m a → Mem.SameAt a s.m.mem t.m.mem) ∧
      (∀ v L, t.m.core v L = s.m.core v L) ∧
      t.m.getF u Reg.BUR_PLAN_STATE_STATE = 3 ∧ (∀ k, k < 4 → k ≠ u.val → t.m.getF k Reg.BUR_PLAN_STATE_STATE = s.m.getF k Reg.BUR_PLAN_STATE_STATE) ∧
      (∀ c, c < 64 → t.m.getB u Reg.MOV_CH_CTRL_BOUND c = false) ∧ (t.m.stk u).cache.dead = [] ∧ (t.m.stk u).plan.plan = s.m.plan u ∧
      ((s.m.plan u).stackSet.all (fun k => k = u.val || s.m.getF k Reg.BUR_PLAN_STATE_STATE == 3) = true →
        Told t u 0x0001 [s.m.getF u Reg.BUR_PLAN_ID_PLAN_ID])) := by
  refine ⟨_, onStack_in _ lt, rfl, rfl, ?_⟩
  dsimp only
  rw [Mach.planComplete_eq runs done]
  have set : Calm cacheZone s.m (s.m.setF u Reg.BUR_PLAN_STATE_STATE 3) := Calm.setF _ _ _ _ _ (by decide)
  obtain ⟨spared, dead⟩ := Mach.planEnded_spared (v := fun k => k = u.val) (s.m.setF u Reg.BUR_PLAN_STATE_STATE 3) u.isLt rfl
  have ended := (Spared.of_calm set).trans spared
  have told := Calm.reports ((s.m.planCompleted u).tellComplete_reports u)
  have whole := ended.trans (Spared.of_calm told.rest.shares)
  have regs (k : Nat) (f : Fld) (h : insideOf endZone f = true) : (s.m.planCompleted u).getF k f = (s.m.setF u Reg.BUR_PLAN_STATE_STATE 3).getF k f :=
    Mach.planEnded_regs _ _ _ _ _ (by rw [outside, inZone_key h]; rfl)
  have here : (s.m.planCompleted u).getF u Reg.BUR_PLAN_STATE_STATE = 3 := by rw [regs _ _ (by decide), Mach.getF_setF_same _ _ _ _ u.isLt]; rfl
  have others (k : Nat) (ne : k ≠ u.val) : (s.m.planCompleted u).getF k Reg.BUR_PLAN_STATE_STATE = s.m.getF k Reg.BUR_PLAN_STATE_STATE := by
    rw [regs _ _ (by decide), Mach.getF_setF_stack _ _ _ _ _ _ ne]
  refine ⟨⟨whole.tier, whole.host, fun a apart => (whole.cells a apart).1⟩, fun v L => by rw [Mach.core, whole.cores, Mach.core],
    (told.getF _ _ _ (by decide)).trans here, fun k _ ne => (told.getF _ _ _ (by decide)).trans (others k ne), fun c c64 => ?_, ?_, whole.plan u, fun all => ?_⟩
  · rw [Mach.getB, told.getF _ _ _ (by decide)]
    exact Mach.planEnded_unbound _ u.isLt c64
  · rw [told.cache]
    exact (dead u).trans (if_pos rfl)
  · have allStill : ((s.m.planCompleted u).plan u).stackSet.all (fun k => (s.m.planCompleted u).getF k Reg.BUR_PLAN_STATE_STATE = 3) = true := by
      have plan : (s.m.planCompleted u).plan u = s.m.plan u := ended.plan u
      rw [plan, List.all_eq_true]
      intro k mem
      have one := List.all_eq_true.mp all k mem
      by_cases e : k = u.val
      · rw [e]; exact decide_eq_true here
      · rw [others k e]
        simpa [e] using one
    have id : (s.m.planCompleted u).getF u Reg.BUR_PLAN_ID_PLAN_ID = s.m.getF u Reg.BUR_PLAN_ID_PLAN_ID := by
      rw [regs _ _ (by decide), Mach.getF_setF_key _ _ _ _ _ _ _ _ (by decide)]
    rw [Mach.tellComplete, if_pos allStill, id]
    exact Mach.event_newest _ _ _ _ u.isLt

/-- Settles O27: a core's unit is discarded and registers alone change after it; the end of a plan spares every byte apart from the cells of dead lines, and
what is told comes last. -/
theorem abortsFaultsAndCompletion : Obligations.AbortsFaultsAndCompletion := by
  unfold Obligations.AbortsFaultsAndCompletion
  intro s u lt kept
  refine ⟨fun L => ⟨fun aborted runs well => ?_, fun faulted on => ?_⟩, fun runs done => ?_⟩
  · obtain ⟨t, does, same, core⟩ := coreAbort_lands lt L aborted runs well
    refine ⟨t, does, same, ?_⟩
    rw [core]
    exact ⟨rfl, rfl, rfl, rfl, rfl, rfl, rfl, rfl, rfl, rfl, rfl, rfl, rfl, rfl, rfl, Core.discarded_ins _ _, Core.discarded_outs _ _⟩
  · obtain ⟨t, does, fuse, pending, ⟨tier, host, cells⟩, rest⟩ := kernelFault_lands lt L faulted on
    exact ⟨t, does, ⟨fuse, pending, tier, host, cells⟩, rest⟩
  · obtain ⟨t, does, fuse, pending, ⟨tier, host, cells⟩, rest⟩ := planComplete_lands lt runs done
    exact ⟨t, does, ⟨fuse, pending, tier, host, cells⟩, rest⟩

end Sys2Proof.Machine
end


section
/-! SUPPORT. O26: accesses at their homes, traffic sent, and signals taken leave the cores' commit counts and their units (R59, R69, R71). -/

namespace Sys2Proof.Machine
set_option Elab.async false

/-! ## What is left aside -/

/-- CORE_COMMIT_COUNT of every core, and what π takes of every core, are as before. -/
structure Aside (π : Core → Core) (m n : Mach) : Prop where
  commits : ∀ v j, n.getF v Reg.CORE_COMMIT_COUNT_COMMITS j = m.getF v Reg.CORE_COMMIT_COUNT_COMMITS j
  cores   : ∀ v M, π (n.core v M) = π (m.core v M)

theorem commits_key (j : Nat) : Reg.CORE_COMMIT_COUNT_COMMITS.key j < 0x360_0000 * 64 ∧ Reg.CORE_COMMIT_COUNT_COMMITS.key j / 64 % 0x1_0000 = 0x108 := by
  rw [Fld.key_div _ _ (by decide)]
  simp only [Fld.key, RegDef.off, Reg.CORE_COMMIT_COUNT_COMMITS, Reg.CORE_COMMIT_COUNT]
  omega

theorem report_ne_commits (j : Nat) : reportPlace (Reg.CORE_COMMIT_COUNT_COMMITS.key j) = false := by
  have := (commits_key j).1
  rw [reportPlace_eq_false]
  omega

namespace Aside
variable {π : Core → Core} {m n p : Mach}

theorem refl (m : Mach) : Aside π m m := ⟨fun _ _ => rfl, fun _ _ => rfl⟩

theorem trans (h : Aside π m n) (g : Aside π n p) : Aside π m p := ⟨fun v j => (g.commits v j).trans (h.commits v j), fun v M => (g.cores v M).trans (h.cores v M)⟩

/-- `trans` with the last operation named first. -/
theorem after (g : Aside π n p) (h : Aside π m n) : Aside π m p := h.trans g

theorem ite (c : Prop) [Decidable c] (h : Aside π m n) (g : Aside π m p) : Aside π m (if c then n else p) := by split <;> assumption

theorem foldl {α : Type} (f : Mach → α → Mach) (l : List α) (h : ∀ m x, Aside π m (f m x)) (m : Mach) : Aside π m (l.foldl f m) := by
  induction l generalizing m with
  | nil => exact refl m
  | cons x r ih => exact (h m x).trans (ih _)

theorem of_stacks (h : ∀ k, (n.stk k).csr = (m.stk k).csr ∧ (n.stk k).cores = (m.stk k).cores) : Aside π m n :=
  ⟨fun v j => by rw [Mach.getF, (h v).1, Mach.getF], fun v M => by rw [Mach.core, (h v).2, Mach.core]⟩

/-- A change of a stack that is none of its registers and none of its cores. -/
theorem updStk (m : Mach) (s : Nat) (f : Stack → Stack) (c : (f (m.stk s)).csr = (m.stk s).csr) (h : (f (m.stk s)).cores = (m.stk s).cores) :
    Aside π m (m.updStk s f) := by
  refine of_stacks fun k => ?_
  by_cases e : k = s
  · subst e
    by_cases l : k < 4
    · rw [Mach.stk_updStk_same _ _ l]; exact ⟨c, h⟩
    · rw [Mach.stk_updStk_beyond _ _ l]; exact ⟨rfl, rfl⟩
  · rw [Mach.stk_updStk_ne _ _ e]; exact ⟨rfl, rfl⟩

/-- What is no stack may change. -/
theorem of_stackSet (h : n.stackSet = m.stackSet) : Aside π m n := of_stacks fun k => by rw [Mach.stk, h]; exact ⟨rfl, rfl⟩

theorem of_regs (h : ∀ v j, n.getF v Reg.CORE_COMMIT_COUNT_COMMITS j = m.getF v Reg.CORE_COMMIT_COUNT_COMMITS j) (cores : ∀ k, (n.stk k).cores = (m.stk k).cores) :
    Aside π m n := ⟨h, fun v M => by rw [Mach.core, cores, Mach.core]⟩

/-- A field set at another place. -/
theorem setPlace (m : Mach) (s : Nat) (f : Fld) (v i : Nat) (h : ∀ j, Reg.CORE_COMMIT_COUNT_COMMITS.key j ≠ f.key i) : Aside π m (m.setF s f v i) :=
  of_regs (fun _ j => Mach.getF_setF_key _ _ _ _ _ _ _ _ (h j)) fun k => Mach.part_setF Stack.cores (fun _ _ => rfl) _ _ _ _ _ k

/-- A field set of a register that is no core's. -/
theorem setF (m : Mach) (s : Nat) (f : Fld) (v i : Nat) (h : 0x360_0000 ≤ f.reg.base) : Aside π m (m.setF s f v i) := by
  refine setPlace _ _ _ _ _ fun j same => ?_
  have low := (commits_key j).1
  rw [same] at low
  unfold Fld.key RegDef.off at low
  omega

theorem bumpF (m : Mach) (s : Nat) (f : Fld) (i n : Nat) (h : 0x360_0000 ≤ f.reg.base) : Aside π m (m.bumpF s f i n) := setF _ _ _ _ _ h

theorem reports (r : Reports m n) : Aside π m n :=
  of_regs (fun v j => r.regs v _ j (report_ne_commits j)) fun k => (congrArg Stack.cores (r.stk_eq k) :)

theorem updCache (m : Mach) (s : Nat) (f : CacheSt → CacheSt) : Aside π m (m.updCache s f) := updStk _ _ _ rfl rfl

theorem updPlan (m : Mach) (s : Nat) (f : PlanSt → PlanSt) : Aside π m (m.updPlan s f) := updStk _ _ _ rfl rfl

/-! ## Accesses -/

theorem counterWrapped (m : Mach) (s : Nat) (ovf : Fld) (i src : Nat) (h : 0x360_0000 ≤ ovf.reg.base) : Aside π m (m.counterWrapped s ovf i src) :=
  (setF _ _ _ _ _ h).trans (reports ((Reports.srcEdge _ _ _).trans (Reports.event _ _ _ _ _)))

theorem count48 (m : Mach) (s : Nat) (f ovf : Fld) (i src n : Nat) (h : 0x360_0000 ≤ f.reg.base) (o : 0x360_0000 ≤ ovf.reg.base) :
    Aside π m (m.count48 s f ovf i src n) :=
  ite _ ((setF _ _ _ _ _ h).trans (counterWrapped _ _ _ _ _ o)) (setF _ _ _ _ _ h)

theorem updInteg (m : Mach) (s : Nat) (f : Integ → Integ) : Aside π m (m.updInteg s f) :=
  ((updStk m s _ rfl rfl).trans (setF _ s Reg.BUR_SKIPPER_STATUS_ACTIVE _ 0 (by decide))).trans (setF _ s Reg.BUR_SKIPPER_STATUS_QUEUED _ 0 (by decide))

theorem detect (m : Mach) (s kind index : Nat) : Aside π m (m.detect s kind index) := ite _ (updInteg _ _ _) (ite _ (bumpF _ _ _ _ _ (by decide)) (updInteg _ _ _))

theorem detectSorted (m : Mach) (s : Nat) (l : List (Nat × Nat)) : Aside π m (m.detectSorted s l) := foldl _ _ (fun _ _ => detect _ _ _ _) m

theorem detectRead (m : Mach) (a n : Nat) : Aside π m (m.detectRead a n) := detectSorted _ _ _

theorem setTier (m : Mach) (t : Mem) : Aside π m { m with tier := t } := of_stackSet rfl

theorem sramWrite (m : Mach) (a : Nat) (bs : List PByte) : Aside π m (m.sramWrite a bs) := of_stackSet (m.sramWrite_rest a bs).1

theorem syncPoisonDir (m : Mach) (s : Nat) : Aside π m (m.syncPoisonDir s) :=
  (setF m s Reg.LPD_POISON_DIR_ENTRIES _ 0 (by decide)).trans (setF _ s Reg.LPD_POISON_DIR_HELD _ 0 (by decide))

theorem dirFull (m : Mach) (s : Nat) : Aside π m (m.dirFull s) :=
  (setF m s Reg.LPD_POISON_DIR_FULL 1 0 (by decide)).trans (reports ((Reports.srcEdge _ _ _).trans (Reports.event _ _ _ _ _)))

theorem writeback (m : Mach) (s : Nat) (c : CLine) : Aside π m (m.writeback s c) := by
  unfold Mach.writeback
  dsimp only
  split
  · exact refl m
  · split
    · exact after (syncPoisonDir _ _) (after (dirFull _ _) (after (updCache _ _ _) (detectRead m _ _)))
    · exact after (syncPoisonDir _ _) (after (updCache _ _ _) ((detectRead m (cellAddr s (m.home s c.line) c.way) 128).trans (setTier _ _)))

theorem makeRoom (k : Nat) (m : Mach) (s : Nat) (h : Home) : Aside π m (Mach.makeRoom k m s h) := by
  induction k generalizing m with
  | zero => exact refl m
  | succ k ih =>
    unfold Mach.makeRoom
    dsimp only
    split
    · exact refl m
    · split
      · exact refl m
      · split
        · exact refl m
        · split
          · split
            · exact after (ih _) (writeback _ _ _)
            · exact after (updCache _ _ _) (writeback _ _ _)
          · exact writeback _ _ _

theorem install (m : Mach) (s L : Nat) (bs : List PByte) (dirty pinned : Bool) : Aside π m (m.install s L bs dirty pinned) := by
  unfold Mach.install
  dsimp only
  split
  · exact makeRoom _ _ _ _
  · exact after (updCache _ _ _) (after (sramWrite _ _ _) (makeRoom _ _ _ _))

theorem countLookup (m : Mach) (s L : Nat) (hit : Bool) : Aside π m (m.countLookup s L hit) := by
  unfold Mach.countLookup
  dsimp only
  have looked := count48 (π := π) m s Reg.CDIE_LOOKUPS_LOOKUPS Reg.CDIE_LOOKUPS_OVF (m.home s L).half (10 + (m.home s L).half) 1 (by decide) (by decide)
  exact after (updCache _ _ _) (looked.trans (ite _ (count48 _ s Reg.CDIE_HITS_HITS Reg.CDIE_HITS_OVF _ _ _ (by decide) (by decide)) (refl _)))

theorem countAccess (m : Mach) (s L : Nat) (hit : Bool) : Aside π m (m.countAccess s L hit) := by
  unfold Mach.countAccess
  split
  · exact ite _ (refl m) (countLookup _ _ _ _)
  · exact countLookup _ _ _ _

theorem lookup (m : Mach) (s L : Nat) : Aside π m (m.lookup s L) := by
  unfold Mach.lookup
  split
  · exact (countAccess _ _ _ _).trans (updCache _ _ _)
  · exact (countAccess _ _ _ _).trans (install _ _ _ _ _ _)

theorem readLine (m : Mach) (alloc : Bool) (la : Nat) : Aside π m (m.readLine alloc la) :=
  ite _ ((ite _ (countAccess _ _ _ _) (refl m)).trans (bumpF _ _ _ _ _ (by decide))) (ite _ (lookup _ _ _) (refl m))

theorem performRead (m : Mach) (alloc : Bool) (a n : Nat) : Aside π m (m.performRead alloc a n).1 :=
  (ite _ (foldl _ _ (fun _ _ => readLine _ _ _) m) (refl m)).trans (detectSorted _ _ _)

theorem through (m : Mach) (o : Nat) (bs : List PByte) : Aside π m (m.through o bs) := ite _ (of_stackSet rfl) (refl m)

theorem writeLine (m : Mach) (alloc : Bool) (a : Nat) (bs : List PByte) : Aside π m (m.writeLine alloc a bs) := by
  unfold Mach.writeLine
  dsimp only
  split
  · split
    · refine after (through _ _ _) (after (updCache _ _ _) (after (sramWrite _ _ _) ?_))
      have revived := ite (alloc = true) (countAccess (π := π) m (daStack a) (daOff a / 128) false) (refl m)
      split
      · exact after (sramWrite _ _ _) (after (setF _ _ _ _ _ (by decide)) (after (updCache _ _ _) revived))
      · exact after (install _ _ _ _ _ _) (after (setF _ _ _ _ _ (by decide)) (after (updCache _ _ _) revived))
    · exact refl m
  · have looked := ite (alloc = true) (lookup (π := π) m (daStack a) (daOff a / 128)) (refl m)
    split
    · exact after (through _ _ _) (after (updCache _ _ _) (after (sramWrite _ _ _) looked))
    · exact ite _ (after (through _ _ _) looked) (after (syncPoisonDir _ _) (looked.trans (of_stackSet rfl)))

theorem performWrite (m : Mach) (alloc : Bool) (a : Nat) (bs : List PByte) : Aside π m (m.performWrite alloc a bs) :=
  ite _ (foldl _ _ (fun _ _ => writeLine _ _ _ _) m) (foldl _ _ (fun _ _ => sramWrite _ _ _) m)

/-! ## Traffic -/

theorem updLinks (m : Mach) (s : Nat) (f : LinkSt → LinkSt) : Aside π m (m.updLinks s f) := updStk _ _ _ rfl rfl

theorem pump (m : Mach) (s n : Nat) : Aside π m (m.pump s n) := by
  refine ite _ (after (updLinks _ _ _) ?_) (refl m)
  unfold Mach.closeDead
  split
  · exact ite _ (refl m) (updLinks _ _ _)
  · exact refl m

theorem linkPush (m : Mach) (s n : Nat) (fs : List OutFlit) : Aside π m (m.linkPush s n fs) := (updLinks m s _).trans (pump _ _ _)

theorem sendEntry (m : Mach) (s r word kind : Nat) : Aside π m (m.sendEntry s r word kind) := linkPush _ _ _ _

theorem send (m : Mach) (x : Msg) : Aside π m (m.send x) := of_stackSet rfl

theorem sendSignal (m : Mach) (s h n f : Nat) : Aside π m (m.sendSignal s h n f) := by
  unfold Mach.sendSignal
  split
  · exact send _ _
  · split
    · exact sendEntry _ _ _ _ _
    · exact refl m

theorem sendWord (m : Mach) (s route dstStack core word : Nat) : Aside π m (m.sendWord s route dstStack core word) := ite _ (send _ _) (sendEntry _ _ _ _ _)

theorem sendWrite (m : Mach) (s r addr : Nat) (bs : List PByte) (compress : Bool) (owner : XferFor) : Aside π m (m.sendWrite s r addr bs compress owner) :=
  (updLinks m s _).trans (linkPush _ _ _ _)

theorem farSlot (m : Mach) (s stack buffer depth n : Nat) : Aside π m (m.farSlot s stack buffer depth n).1 := by
  unfold Mach.farSlot
  split
  · exact refl m
  · exact of_stackSet rfl

theorem pushSlot (m : Mach) (k s : Nat) (r : Route) (n : Nat) : Aside π m (m.pushSlot k s r n) := by
  unfold Mach.pushSlot
  dsimp only
  split
  · exact refl m
  · split
    · exact refl m
    · next b found =>
      have read := performRead (π := π) m false (b.slotAddr r.depth n) b.slotSize
      split
      · split
        · exact read
        · split
          · exact read.trans (performWrite _ _ _ _)
          · exact read
      · exact (read.trans (farSlot _ _ _ _ _ _)).trans (sendWrite _ _ _ _ _ _ _)

theorem sendToken (m : Mach) (k s : Nat) (r : Route) (n : Nat) (fin : Bool) : Aside π m (m.sendToken k s r n fin) :=
  (ite _ (refl m) (pushSlot _ _ _ _ _)).trans (sendWord _ _ _ _ _ _)

theorem sendOut (m : Mach) (k s L : Nat) (x : OutTok) : Aside π m (m.sendOut k s L x) := by
  unfold Mach.sendOut
  split <;> split
  · exact sendWord _ _ _ _ _ _
  · exact refl m
  · exact sendToken _ _ _ _ _ _
  · exact refl m

/-! ## Signals taken -/

theorem syncWaiters (m : Mach) (s o : Nat) : Aside π m (m.syncWaiters s o) :=
  ite _ ((setF _ _ _ _ _ (by decide)).trans (updPlan _ _ _)) (setF _ _ _ _ _ (by decide))

theorem signalRun (k : Nat) (m : Mach) (s h n f : Nat) : Aside π m (Mach.signalRun k m s h n f) := by
  induction k generalizing m n with
  | zero => exact refl m
  | succ k ih => exact ite _ (refl m) ((sendSignal m s h _ f).trans (ih _ _))

theorem forward (m : Mach) (s o c n : Nat) : Aside π m (m.forward s o c n) := by
  have goes : ∀ (m : Mach) (t k a f : Nat), Aside π m (if t = 0xFFFF_FFFF then m else Mach.signalRun k m s t a f) :=
    fun m t k a f => ite _ (refl m) (signalRun _ _ _ _ _ _)
  exact (goes m _ _ _ _).trans (goes _ _ _ _ _)

theorem fireBinds (m : Mach) (s o : Nat) : Aside π m (m.fireBinds s o) :=
  (updStk m s _ rfl rfl).trans (reports (Reports.foldl _ (fun m (b : SyncBind) => (Reports.srcEdge m s 7).trans (Reports.sendVector _ b.vector)) _ _))

theorem releaseReached (m : Mach) (s o : Nat) : Aside π m (m.releaseReached s o) := by
  unfold Mach.releaseReached
  dsimp only
  split
  · exact ite _ (updPlan _ _ _) (refl m)
  · exact refl m

theorem phaseSettle (m : Mach) (s : Nat) : Aside π m (m.phaseSettle s) := by
  unfold Mach.phaseSettle
  dsimp only
  split
  · exact ite _ (((setF m s Reg.BUR_PLAN_STATE_PHASE _ 0 (by decide)).trans (updPlan _ _ _)).trans (updStk _ _ _ rfl rfl)) (refl m)
  · exact refl m

theorem syncScript (m : Mach) (s L : Nat) : Aside π m (m.syncScript s L) := by
  have script (n : Mach) (f : Fld) (v i : Nat) (reg : f.reg = Reg.CORE_SCRIPT_STATE) (lo : f.lo < 64) : Aside π n (n.setF s f v i) := by
    refine setPlace _ _ _ _ _ fun j same => ?_
    have place := (commits_key j).2
    rw [same, Fld.key_div _ _ lo, reg] at place
    simp only [RegDef.off, Reg.CORE_SCRIPT_STATE] at place
    omega
  exact ((script m Reg.CORE_SCRIPT_STATE_SCRIPT_INDEX _ _ rfl (by decide)).trans (script _ Reg.CORE_SCRIPT_STATE_WAITING_TOKEN _ _ rfl (by decide))).trans
    (script _ Reg.CORE_SCRIPT_STATE_WAITING_CREDIT _ _ rfl (by decide))

end Aside

end Sys2Proof.Machine
end


section
/-! SUPPORT. O26: COMMIT (R69, R71). -/

namespace Sys2Proof.Machine
set_option Elab.async false

/-! ## Signals taken by waiting groups -/

/-- A core but for its groups and its registers. -/
def Core.lasting (c : Core) : Core := { c with groups := [], regs := [] }

theorem Core.of_lasting {c d : Core} (h : d.lasting = c.lasting) : d = { c with groups := d.groups, regs := d.regs } :=
  (congrArg (fun x => ({ x with groups := d.groups, regs := d.regs } : Core)) h :)

theorem Core.lasting_setReg (c : Core) (slot l r : Nat) (v : RegV) : (c.setReg slot l r v).lasting = c.lasting := by
  unfold Core.setReg
  split <;> rfl

theorem Core.lasting_setRegs (slot r : Nat) (v : RegV) (l : List Nat) (c : Core) : (l.foldl (fun c l => c.setReg slot l r v) c).lasting = c.lasting := by
  induction l generalizing c with
  | nil => rfl
  | cons x rest ih => exact (ih _).trans (c.lasting_setReg slot x r v)

namespace Aside
variable {π : Core → Core} {m n : Mach}

theorem updCore (m : Mach) (s L : Nat) (f : Core → Core) (h : ∀ c, π (f c) = π c) : Aside π m (m.updCore s L f) := by
  refine ⟨fun v j => m.getF_updCore s L v f _ j, fun v M => ?_⟩
  by_cases e : v = s ∧ M = L
  · obtain ⟨rfl, rfl⟩ := e
    by_cases l : v < 4
    · rw [m.core_updCore_same M f l, h]
    · rw [Mach.core, Mach.updCore, Mach.stk_updStk_beyond _ _ l, Mach.core]
  · rw [m.core_updCore_ne f (by omega)]

theorem updGroup (m : Mach) (s L slot : Nat) (f : Group → Group) : Aside Core.lasting m (m.updGroup s L slot f) :=
  updCore _ _ _ _ fun c => by split <;> rfl

theorem releaseWait (m : Mach) (s L slot o pd rd mask : Nat) : Aside Core.lasting m (m.releaseWait s L slot o pd rd mask) :=
  (updCore m s L _ fun c => Core.lasting_setRegs _ _ _ _ c).trans (updGroup _ _ _ _ _)

theorem releaseOne (m : Mach) (s o : Nat) (e : Nat × Nat × Group) : Aside Core.lasting m (m.releaseOne s o e) := by
  unfold Mach.releaseOne
  split
  · exact ite _ (releaseWait _ _ _ _ _ _ _ _) (refl m)
  · split
    · exact ite _ (updGroup _ _ _ _ _) (refl m)
    · exact refl m
  · exact refl m

theorem releaseWaiters (m : Mach) (s o : Nat) : Aside Core.lasting m (m.releaseWaiters s o) := (foldl _ _ (fun m e => releaseOne m s o e) m).trans (syncWaiters _ _ _)

theorem applySignals (m : Mach) (s o : Nat) (l : List (Nat × Nat)) : Aside Core.lasting m (m.applySignals s o l) := by
  unfold Mach.applySignals
  extract_lets c n fs m1 old code m2 m3
  refine ite _ (bumpF _ _ _ _ _ (by decide)) ?_
  have set : Aside Core.lasting m m2 :=
    after (ite _ (refl m1) ((setF m1 _ _ _ _ (by decide)).trans (setF _ _ _ _ _ (by decide)))) (setF m s Reg.SYNC_COUNT_COUNT _ o (by decide))
  refine ite _ set (set.trans ?_)
  exact ((((updPlan m2 s _).trans (forward m3 s o c n)).trans (releaseWaiters _ s o)).trans (fireBinds _ s o)).trans ((releaseReached _ s o).trans (phaseSettle _ s))

theorem afterPhase (m m0 : Mach) (s : Nat) : Aside π m (m.afterPhase m0 s) := by
  unfold Mach.afterPhase
  split
  · exact refl m
  · exact foldl _ _ (fun m (e : Nat × Core) => syncScript m s e.1) m

theorem takeSignals (m : Mach) (s h : Nat) (l : List (Nat × Nat)) : Aside Core.lasting m (m.takeSignals s h l) := by
  unfold Mach.takeSignals
  split
  · exact refl m
  · split
    · exact bumpF _ _ _ _ _ (by decide)
    · exact after (afterPhase _ m s) (applySignals m s _ l)

theorem clearFail (m : Mach) (s h : Nat) : Aside Core.lasting m (m.clearFail s h) := by
  unfold Mach.clearFail
  dsimp only
  refine after (setF _ _ _ _ _ (by decide)) (after (setF _ _ _ _ _ (by decide)) (ite _ (refl m) ?_))
  exact after (takeSignals _ s h _) (of_stackSet rfl)

/-! ## Staged operations -/

theorem performKeyed (m : Mach) (s c : Nat) (o : KOp) : Aside π m (m.performStaged s (.keyed c o)) :=
  ite _ ((performRead m true o.stage o.stageLen).trans (send _ _)) (send _ _)

theorem performStaged (m : Mach) (s : Nat) (x : Staged) (h : ∀ g, x ≠ .clearFail g) : Aside π m (m.performStaged s x) := by
  cases x with
  | signal g n f => exact (sendSignal m s g n f :)
  | clearFail g => exact absurd rfl (h g)
  | dead a => exact (send m (.dead a) :)
  | keyed c o => exact performKeyed _ _ _ _

theorem performStaged_lasting (m : Mach) (s : Nat) (x : Staged) : Aside Core.lasting m (m.performStaged s x) := by
  cases x with
  | signal g n f => exact (sendSignal m s g n f :)
  | clearFail g => exact clearFail _ _ _
  | dead a => exact (send m (.dead a) :)
  | keyed c o => exact performKeyed _ _ _ _

/-- Staged operations performed, each of a kind that leaves what π takes. -/
theorem performAll (s : Nat) (l : List Staged) (h : ∀ x ∈ l, ∀ m, Aside π m (m.performStaged s x)) (m : Mach) : Aside π m (l.foldl (fun m x => m.performStaged s x) m) := by
  induction l generalizing m with
  | nil => exact refl m
  | cons x r ih => exact (h x List.mem_cons_self m).trans (ih (fun y my => h y (List.mem_cons_of_mem _ my)) _)

theorem syncJournal (m : Mach) (s L : Nat) : Aside π m (m.syncJournal s L) := by
  have atomics (n : Mach) (f : Fld) (v i : Nat) (reg : f.reg = Reg.CORE_ATOMIC_STATUS) (lo : f.lo < 64) : Aside π n (n.setF s f v i) := by
    refine setPlace _ _ _ _ _ fun j same => ?_
    have place := (commits_key j).2
    rw [same, Fld.key_div _ _ lo, reg] at place
    simp only [RegDef.off, Reg.CORE_ATOMIC_STATUS] at place
    omega
  exact (atomics m Reg.CORE_ATOMIC_STATUS_JOURNAL_USED _ _ rfl (by decide)).trans (atomics _ Reg.CORE_ATOMIC_STATUS_JOURNAL_PEAK _ _ rfl (by decide))

theorem signalGather (m : Mach) (s k : Nat) : Aside π m (m.signalGather s k) := by
  unfold Mach.signalGather
  split
  · exact sendSignal _ _ _ _ _
  · exact refl m

theorem swapStates (m : Mach) (s L : Nat) : Aside π m (m.swapStates s L) := foldl _ _ (fun _ _ => updPlan _ _ _) m

end Aside

/-! ## Channels after a commit -/

theorem InChan.committed (c : Core) (i : Nat) : let x := SMap.getD c.ins i {}
    let y := SMap.getD (c.ins.map (fun e => (e.1, e.2.commit))) i {}
    y.base = x.base + x.cur ∧ y.cur = 0 ∧ y.accepted = x.accepted - x.cur := by
  unfold SMap.getD
  rw [SMap.find_map c.ins (fun e => (e.1, e.2.commit)) (fun _ => rfl)]
  cases SMap.find c.ins i <;> exact ⟨rfl, rfl, rfl⟩

/-- Output channels with the empty ones of a list added. -/
def withOuts (l : List Nat) (outs : SMap OutChan) : SMap OutChan := l.foldl (fun o ch => if (SMap.find o ch).isSome then o else SMap.put o ch {}) outs

theorem find_withOuts (l : List Nat) (outs : SMap OutChan) (i : Nat) :
    SMap.find (withOuts l outs) i = if (SMap.find outs i).isSome then SMap.find outs i else if i ∈ l then some {} else none := by
  induction l generalizing outs with
  | nil => cases h : SMap.find outs i <;> simp [withOuts, h]
  | cons ch r ih =>
    have step : withOuts (ch :: r) outs = withOuts r (if (SMap.find outs ch).isSome then outs else SMap.put outs ch {}) := rfl
    rw [step, ih]
    by_cases e : i = ch
    · subst e
      cases h : SMap.find outs i <;> simp [h]
    · have other : SMap.find (if (SMap.find outs ch).isSome then outs else SMap.put outs ch {}) i = SMap.find outs i := by
        split
        · rfl
        · exact SMap.find_put_ne _ _ e
      rw [other]
      simp [e]

theorem OutChan.committed (ends : Nat) (outs : SMap OutChan) (i : Nat) : let x := SMap.getD outs i {}
    let y := SMap.getD ((withOuts (setBits ends 64) outs).map (fun e => (e.1, e.2.commit (bit ends e.1)))) i {}
    y.sent = x.sent + x.cur + (bit ends i && (decide (i < 64) || (SMap.find outs i).isSome)).toNat ∧ y.cur = 0 ∧ y.oldest = x.oldest := by
  unfold SMap.getD
  rw [SMap.find_map (withOuts (setBits ends 64) outs) (fun e => (e.1, e.2.commit (bit ends e.1))) (fun _ => rfl), find_withOuts]
  cases h : SMap.find outs i with
  | some o => simp [OutChan.commit]
  | none =>
    by_cases mem : i ∈ setBits ends 64
    · obtain ⟨lt, set⟩ := mem_setBits.mp mem
      simp [mem, lt, set, OutChan.commit]
    · have none : (bit ends i && decide (i < 64)) = false := by
        rw [mem_setBits] at mem
        by_cases lt : i < 64 <;> simp_all
      simp [mem, none]

/-! ## COMMIT -/

/-- The machine once the control record has taken effect. -/
def Mach.recorded (m : Mach) (s L id : Nat) : Mach :=
  (m.swapStates s L).updCore s L (fun c => c.recordCommit id ((m.core s L).loopEnd.getD 0) (m.outboxOf s L ((m.core s L).loopEnd.getD 0)) (m.entries s L))

theorem Mach.recorded_commits (m : Mach) (s L id v j : Nat) :
    (m.recorded s L id).getF v Reg.CORE_COMMIT_COUNT_COMMITS j = m.getF v Reg.CORE_COMMIT_COUNT_COMMITS j :=
  (Mach.getF_updCore _ _ _ _ _ _ _).trans ((Aside.swapStates (π := fun c => c) m s L).commits v j)

theorem Mach.core_swapStates (m : Mach) (s L v M : Nat) : (m.swapStates s L).core v M = m.core v M := (Aside.swapStates (π := fun c => c) m s L).cores v M

theorem Mach.recorded_core (m : Mach) {s : Nat} (L id : Nat) (lt : s < 4) : (m.recorded s L id).core s L =
    (m.core s L).recordCommit id ((m.core s L).loopEnd.getD 0) (m.outboxOf s L ((m.core s L).loopEnd.getD 0)) (m.entries s L) := by
  rw [Mach.recorded, Mach.core_updCore_same _ _ _ lt, m.core_swapStates]

/-- What a commit leaves: the count, and of every core what π takes. -/
theorem Mach.commitUnit_aside {π : Core → Core} (m : Mach) (k : Nat) {s : Nat} (L id : Nat) (lt : s < 4)
    (staged : ∀ x ∈ (m.core s L).staged, ∀ n, Aside π n (n.performStaged s x)) :
    (∀ v M, π ((m.commitUnit k s L id).core v M) = π ((m.recorded s L id).core v M)) ∧
    (m.commitUnit k s L id).getF s Reg.CORE_COMMIT_COUNT_COMMITS (m.physOf s L) =
      satAdd 64 (m.getF s Reg.CORE_COMMIT_COUNT_COMMITS (m.physOf s L)) 1 % 2 ^ 64 := by
  unfold Mach.commitUnit
  extract_lets c p ends box m1 m2 m3 m4 m6 m7
  have performed : Aside π m2 m6 := ((Aside.syncJournal m2 s L).trans (Aside.foldl _ box (fun m x => Aside.sendOut m k s L x) m3)).trans (Aside.performAll s c.staged staged m4)
  have published : Aside π m2 m7 :=
    Aside.ite _ (performed.trans ((Aside.signalGather m6 s _).trans (Aside.foldl _ _ (fun m o => Aside.syncWaiters m s o) _))) performed
  have same : m.recorded s L id = m2 := rfl
  rw [← same] at published
  have script := Aside.syncScript (π := π) (m7.bumpF s Reg.CORE_COMMIT_COUNT_COMMITS p) s L
  have counted (v : Nat) : ((m7.bumpF s Reg.CORE_COMMIT_COUNT_COMMITS p).stk v).cores = (m7.stk v).cores :=
    Mach.part_setF Stack.cores (fun _ _ => rfl) _ _ _ _ _ v
  refine ⟨fun v M => (script.cores v M).trans ((congrArg π ?_).trans (published.cores v M)), ?_⟩
  · rw [Mach.core, counted, Mach.core]
  · rw [script.commits, Mach.bumpF, Mach.getF_setF_same _ _ _ _ lt, published.commits, m.recorded_commits]
    rfl

theorem Mach.commit_eq {m : Mach} {k s L id : Nat} (due : (m.core s L).committing = some id) (running : m.planRunning s = true) (well : (m.core s L).halt = .none)
    (exact_ : (m.core s L).mx.numerical = false) (noStores : (m.core s L).stores = [])
    (credits : (setBits ((m.core s L).loopEnd.getD 0) 64).all (fun ch => m.creditHere s L ch) = true) : m.commit k s L = m.commitUnit k s L id := by
  have drained : m.drainAll s L = (m, true) := by
    unfold Mach.drainAll
    rw [noStores]
    rfl
  unfold Mach.commit
  simp only [due, running, well, exact_, credits, drained, Bool.not_true, Bool.false_eq_true, ne_eq, not_true_eq_false, false_and, or_self, if_false, if_true]

end Sys2Proof.Machine
end


section
/-! SUPPORT. O26: COMMIT as its statement tells it, and the arrivals of tokens and credits (R57, R58, R71, R73). -/

namespace Sys2Proof.Machine
set_option Elab.async false

theorem commit_lands {s : State} {u : StackNo} (lt : u.val < s.fuse.part.stackCount) (L : Fin 832) {id : Nat} (due : (s.m.core u L).committing = some id)
    (running : s.m.planRunning u = true) (well : (s.m.core u L).halt = .none) (exact_ : (s.m.core u L).mx.numerical = false) (noStores : (s.m.core u L).stores = [])
    (credits : (setBits ((s.m.core u L).loopEnd.getD 0) 64).all (fun ch => s.m.creditHere u L ch) = true) :
    let c := s.m.core u L
    Lands (.commit ⟨u, L⟩) s (fun t => t.fuse = s.fuse ∧ t.pending = s.pending ∧ ((∀ x ∈ c.staged, ∀ h, x ≠ .clearFail h) → SameCores s t u L) ∧
      Holds t [(u.val, Reg.CORE_COMMIT_COUNT_COMMITS, s.m.physOf u L, satAdd 64 (s.m.getF u Reg.CORE_COMMIT_COUNT_COMMITS (s.m.physOf u L)) 1)] ∧
      ∃ g r, t.m.core u L = { c.recordCommit id (c.loopEnd.getD 0) (s.m.outboxOf u L (c.loopEnd.getD 0)) (s.m.entries u L) with groups := g, regs := r }) := by
  refine ⟨_, onStack_in _ lt, rfl, rfl, fun plain v M ne => ?_, fun e mem => ?_, ?_⟩
  · dsimp only
    rw [Mach.commit_eq due running well exact_ noStores credits]
    obtain ⟨cores, -⟩ := s.m.commitUnit_aside (π := fun c => c) s.fuse.part.stackCount L id u.isLt fun x mem n => Aside.performStaged n u x (plain x mem)
    exact (cores v M).trans (((s.m.swapStates u L).core_updCore_ne _ ne).trans (s.m.core_swapStates u L v M))
  · obtain rfl := List.mem_singleton.mp mem
    dsimp only
    rw [Mach.commit_eq due running well exact_ noStores credits]
    exact (s.m.commitUnit_aside s.fuse.part.stackCount L id u.isLt fun x _ n => Aside.performStaged_lasting n u x).2
  · dsimp only
    rw [Mach.commit_eq due running well exact_ noStores credits]
    obtain ⟨cores, -⟩ := s.m.commitUnit_aside s.fuse.part.stackCount L id u.isLt fun x _ n => Aside.performStaged_lasting n u x
    have own := cores u L
    rw [s.m.recorded_core L id u.isLt] at own
    exact ⟨_, _, Core.of_lasting own⟩

/-! ## Messages taken -/

/-- Of the messages that `is` knows only x is on its way, or none: taking the first takes x away, with its PLAN_ID. -/
theorem Mach.takeMsg_eq {m : Mach} {u : Nat} {is : Msg → Option (Option Nat)} {x : Msg} (known : is x = some (m.planTag u))
    (only : ∀ y ∈ m.wire, (is y).isSome = true → y = x) : m.takeMsg u is = ({ m with wire := m.wire.erase x }, m.planTag u) := by
  unfold Mach.takeMsg
  cases found : m.wire.find? (fun y => (is y).isSome) with
  | some y =>
    obtain rfl := only y (List.mem_of_find?_eq_some found) (List.find?_some (p := fun y => (is y).isSome) found)
    simp only [known, Option.getD_some]
    rfl
  | none =>
    have absent : x ∉ m.wire := fun mem => by simpa [known] using List.find?_eq_none.mp found x mem
    rw [List.erase_of_not_mem absent]

/-- The messages that an arrival at index L of stack u looks for. -/
def isWord (sdid u L w : Nat) (x : Msg) : Option (Option Nat) :=
  match x with
  | .token p d k c v => if d = sdid ∧ k = u ∧ c = L ∧ v = w then some p else none
  | _ => none

theorem isWord_some {sdid u L w : Nat} {x : Msg} {p : Option Nat} : isWord sdid u L w x = some p ↔ x = .token p sdid u L w := by
  cases x with
  | token p' d k c v =>
    simp only [isWord, Msg.token.injEq]
    constructor
    · intro h
      split at h
      · next same => obtain ⟨rfl, rfl, rfl, rfl⟩ := same; exact ⟨Option.some.inj h, rfl, rfl, rfl, rfl⟩
      · cases h
    · rintro ⟨rfl, rfl, rfl, rfl, rfl⟩
      simp
  | _ => simp [isWord]

theorem Mach.wordArrives_eq {m : Mach} {k u L sdid w : Nat} (reached : ((m.stackOf sdid).any (fun v => m.cut k v u)) = false) (free : m.inboxHeld u L = false) :
    m.wordArrives k u L sdid w = (m.takeMsg u (isWord sdid u L w)).1.takeWord (m.takeMsg u (isWord sdid u L w)).2 u L sdid w := by
  unfold Mach.wordArrives
  rw [if_neg (by simp [reached, free])]
  rfl

/-- The word on its way carries the PLAN_ID of the plan of its stack, which is on: it is taken. -/
theorem Mach.wordArrives_ours {m : Mach} {k u L sdid w : Nat} (reached : ((m.stackOf sdid).any (fun v => m.cut k v u)) = false) (free : m.inboxHeld u L = false)
    (on : m.planOn u = true) (only : ∀ p, .token p sdid u L w ∈ m.wire → p = m.planTag u) : m.wordArrives k u L sdid w =
      let n := { m with wire := m.wire.erase (.token (m.planTag u) sdid u L w) }
      if bits w 0 4 = 2 then n.takeCredit u L sdid w else n.takeToken u L sdid w := by
  rw [Mach.wordArrives_eq reached free, Mach.takeMsg_eq (isWord_some.mpr rfl) fun y mem known => ?_]
  · unfold Mach.takeWord
    have tag : ({ m with wire := m.wire.erase (.token (m.planTag u) sdid u L w) } : Mach).planTag u = m.planTag u := rfl
    have some : m.planTag u ≠ none := by unfold Mach.planTag; rw [if_pos on]; exact Option.some_ne_none _
    dsimp only
    rw [if_neg (by rw [tag]; simp [some])]
  · obtain ⟨p, is⟩ := Option.isSome_iff_exists.mp known
    obtain rfl := isWord_some.mp is
    rw [only p mem]

/-- The word on its way carries the PLAN_ID of no plan that is on: it is dropped and logged. -/
theorem Mach.wordArrives_foreign {m : Mach} {k u L sdid w : Nat} {pl : Option Nat} (reached : ((m.stackOf sdid).any (fun v => m.cut k v u)) = false)
    (free : m.inboxHeld u L = false) (only : ∀ p, .token p sdid u L w ∈ m.wire → p = pl) (mem : .token pl sdid u L w ∈ m.wire)
    (foreign : pl = none ∨ pl ≠ m.planTag u) : m.wordArrives k u L sdid w = ({ m with wire := m.wire.erase (.token pl sdid u L w) } : Mach).dropTraffic u := by
  have known : isWord sdid u L w (.token pl sdid u L w) = some pl := isWord_some.mpr rfl
  have found : m.takeMsg u (isWord sdid u L w) = ({ m with wire := m.wire.erase (.token pl sdid u L w) }, pl) := by
    unfold Mach.takeMsg
    cases found : m.wire.find? (fun y => (isWord sdid u L w y).isSome) with
    | some y =>
      obtain ⟨p, is⟩ := Option.isSome_iff_exists.mp (List.find?_some (p := fun y => (isWord sdid u L w y).isSome) found)
      obtain rfl := isWord_some.mp is
      obtain rfl := only p (List.mem_of_find?_eq_some found)
      simp only [known, Option.getD_some]
      rfl
    | none => exact absurd (List.find?_eq_none.mp found _ mem) (by simp [known])
  rw [Mach.wordArrives_eq reached free, found]
  unfold Mach.takeWord
  exact if_pos foreign

theorem foreign_lands {s : State} {u : StackNo} (lt : u.val < s.fuse.part.stackCount) (q : Fin 1024) (sdid : Half) (w : Dword) (pl : Option Nat)
    (only : ∀ pl', .token pl' sdid.toNat u q w.toNat ∈ s.m.wire → pl' = pl) (mem : .token pl sdid.toNat u q w.toNat ∈ s.m.wire)
    (foreign : pl = none ∨ pl ≠ s.m.planTag u) (reached : (s.m.stackOf sdid.toNat).any (fun v => s.m.cut s.fuse.part.stackCount v u) = false)
    (free : s.m.inboxHeld u q = false) :
    Lands (if bits w.toNat 0 4 = 2 then .creditArrival ⟨u, q, sdid, w⟩ else .tokenArrival ⟨u, q, sdid, w⟩) s (fun t =>
      Ends s t [] (fun m => { m with wire := m.wire.erase (.token pl sdid.toNat u q w.toNat) }) ∧ ∃ e l, (t.m.stk u).bureau.errLog = e :: l ∧ e.code = 0x0101) := by
  have does := Mach.wordArrives_foreign (k := s.fuse.part.stackCount) reached free only mem foreign
  have runs : exec (if bits w.toNat 0 4 = 2 then .creditArrival ⟨u, q, sdid, w⟩ else .tokenArrival ⟨u, q, sdid, w⟩) s =
      .next { s with m := ({ s.m with wire := s.m.wire.erase (.token pl sdid.toNat u q w.toNat) } : Mach).dropTraffic u } := by
    rw [← does]
    split
    · next credit => exact (onStack_in _ lt).trans (by simp only [credit, if_true])
    · next other => exact (onStack_in _ lt).trans (by simp only [other, if_false])
  refine ⟨_, runs, ?_, ?_⟩
  · have report := Reports.logError ({ s.m with wire := s.m.wire.erase (.token pl sdid.toNat u q w.toNat) } : Mach) u 0x0101 0 0 0 []
    exact ⟨rfl, rfl, report.bare, fun _ h => (by cases h), report.low, fun v f j out _ => report.regs v f j out⟩
  · obtain ⟨l, newest⟩ := Mach.logError_newest ({ s.m with wire := s.m.wire.erase (.token pl sdid.toNat u q w.toNat) } : Mach) 0x0101 0 0 0 [] u.isLt
    exact ⟨_, l, newest, rfl⟩

end Sys2Proof.Machine
end


section
/-! SUPPORT. O26: the token and the credit that are due, duplicates, and the replay of a unit (R57, R58, R72, R73, R316). -/

namespace Sys2Proof.Machine
set_option Elab.async false

/-! ## Arrivals classed -/

/-- A word of count n, its sequence and slot those of n, is classed by how far n lies from the expected count. -/
theorem arrivalOf_count {base n known window depth : Nat} (from_ : base ≤ n) (near : n - base < 2 ^ 19) :
    arrivalOf (n % 2 ^ 20) (n % depth) base known window depth true =
      if n - base < known then .duplicate else if n - base < window then .accept else .fault := by
  have d : (n % 2 ^ 20 + 2 ^ 20 - base % 2 ^ 20) % 2 ^ 20 = n - base := by omega
  have slot : (((base : Int) + ((n - base : Nat) : Int)) % (depth : Int)).toNat = n % depth := by
    rw [show (base : Int) + ((n - base : Nat) : Int) = (n : Int) by omega, ← Int.natCast_mod, Int.toNat_natCast]
  have below : ¬ 2 ^ 19 ≤ n - base := Nat.not_le.mpr near
  unfold arrivalOf
  simp only [d, near, if_true, slot, Bool.not_true, Bool.false_eq_true, ne_eq, not_true_eq_false, or_self, if_false, ge_iff_le, below]

/-- The count that the sequence of a word of count n gives. -/
theorem count_of_seq {base n : Nat} (from_ : base ≤ n) (near : n - base < 2 ^ 19) : base + (n % 2 ^ 20 + 2 ^ 20 - base % 2 ^ 20) % 2 ^ 20 = n := by omega

theorem Route.typ_data (r : Route) : r.typ = 1 ∨ r.typ = 3 := by
  unfold Route.typ
  split
  · exact .inr rfl
  · exact .inl rfl

/-- A word of an input channel with the fields of its route. -/
structure Due (m : Mach) (u L sdid w : Nat) (r : Route) (n : Nat) : Prop where
  route  : m.inRoute u L (bits w 16 6) = some r
  typ    : bits w 0 4 = r.typ
  src    : bits w 4 10 = r.src
  stack  : bits w 14 2 = r.srcStack
  sdid   : sdid = r.srcSdid
  buffer : bits w 42 14 = r.buffer ∨ bits w 42 14 = 0x3FFF
  seq    : bits w 22 20 = n % 2 ^ 20
  slot   : bits w 56 8 = n % r.depth

/-- A token that is due goes as its count says. -/
theorem Due.takeToken {m : Mach} {u L sdid w : Nat} {r : Route} {n : Nat} (due : Due m u L sdid w r n) (from_ : (m.inChan u L (bits w 16 6)).base + (m.inChan u L (bits w 16 6)).cur ≤ n)
    (near : n - ((m.inChan u L (bits w 16 6)).base + (m.inChan u L (bits w 16 6)).cur) < 2 ^ 19)
    (within : n - ((m.inChan u L (bits w 16 6)).base + (m.inChan u L (bits w 16 6)).cur) < r.depth) : m.takeToken u L sdid w =
      if n - ((m.inChan u L (bits w 16 6)).base + (m.inChan u L (bits w 16 6)).cur) < (m.inChan u L (bits w 16 6)).accepted - (m.inChan u L (bits w 16 6)).cur ∨
        (m.inChan u L (bits w 16 6)).waiting.any (fun x => x.1 = n) = true then m.duplicate u L
      else (m.updCore u L (fun c => c.updIn (bits w 16 6) (fun i => i.take n (bits w 42 14 = 0x3FFF)))).syncScript u L := by
  obtain ⟨route, typ, src, stack, peer, buffer, seq, slot⟩ := due
  have data : ¬(bits w 0 4 ≠ 1 ∧ bits w 0 4 ≠ 3) := by
    rw [typ]
    rcases r.typ_data with h | h <;> simp [h]
  have fields : (bits w 4 10 = r.src && bits w 14 2 = r.srcStack && sdid = r.srcSdid && (bits w 42 14 = r.buffer || bits w 42 14 = 0x3FFF) && bits w 0 4 = r.typ) = true := by
    simp [src, stack, peer, typ, buffer]
  unfold Mach.takeToken
  simp only [if_neg data, route, seq, slot, fields, arrivalOf_count from_ near, within, if_true, count_of_seq from_ near]
  by_cases known : n - ((m.inChan u L (bits w 16 6)).base + (m.inChan u L (bits w 16 6)).cur) < (m.inChan u L (bits w 16 6)).accepted - (m.inChan u L (bits w 16 6)).cur
  · simp only [known, if_true, true_or]
  · by_cases held : (m.inChan u L (bits w 16 6)).waiting.any (fun x => x.1 = n) = true
    · simp only [known, held, if_false, if_true, or_true]
    · simp only [known, held, if_false, Bool.false_eq_true, or_self]

/-- The token of count n accepted, an end token as such. -/
def InChan.accepting (n : Nat) (fin : Bool) (i : InChan) : InChan := { i with accepted := i.accepted + 1, ends := if fin then i.ends ++ [n] else i.ends }

/-- The next token is accepted at once when none is held. -/
theorem InChan.take_next {i : InChan} (none : i.waiting = []) (fin : Bool) : i.take (i.base + i.accepted) fin = i.accepting (i.base + i.accepted) fin := by
  unfold InChan.take
  rw [none]
  obtain ⟨base, accepted, cur, ends, waiting, faulted⟩ := i
  obtain rfl : waiting = [] := none
  cases fin <;> simp [InChan.absorb, InChan.accepting]

/-! ## Messages on their way changed -/

theorem Mach.noRegs_updCore_same (m : Mach) (u L : Nat) (f : Core → Core) : (m.updCore u L f).noRegs = m.noRegs.updCore u L f := by
  match u with
  | 0 | 1 | 2 | 3 | _ + 4 => rfl

theorem Mach.updStk_withWire (m : Mach) (l : List Msg) (u : Nat) (f : Stack → Stack) : ({ m with wire := l } : Mach).updStk u f = { m.updStk u f with wire := l } := by
  match u with
  | 0 | 1 | 2 | 3 | _ + 4 => rfl

/-- The machine without a message. -/
def Mach.without (m : Mach) (x : Msg) : Mach := { m with wire := m.wire.erase x }

/-- A core changed by f once a message has been taken, and its registers kept in step. -/
theorem Works.without_then {s : State} {u L : Nat} (f : Core → Core) (x : Msg) {n : Mach}
    (own : OwnRegs u (((s.m.without x).updCore u L f).physOf u L) ((s.m.without x).updCore u L f) n) :
    Works s { s with m := n } u L [] (fun m => { m.updCore u L f with wire := m.wire.erase x }) := by
  have place : ((s.m.without x).updCore u L f).physOf u L = s.m.physOf u L := Mach.getF_updCore ..
  rw [place] at own
  refine Works.of_own (m := (s.m.without x).updCore u L f) (fun v g j => Mach.getF_updCore ..) own ?_
  rw [Mach.noRegs_updCore_same]
  exact s.m.noRegs.updStk_withWire (s.m.noRegs.wire.erase x) u _

/-! ## TOKEN_ARRIVAL -/

section
variable {s : State} {u : StackNo} {L : Fin 832} {sdid : Half} {w : Dword} {r : Route} {n : Nat}

/-- A token that has come to core L is taken. -/
theorem tokenArrival_runs (lt : u.val < s.fuse.part.stackCount) (on : s.m.planOn u = true) (due : Due s.m u L sdid.toNat w.toNat r n)
    (reached : (s.m.stackOf sdid.toNat).any (fun v => s.m.cut s.fuse.part.stackCount v u) = false) (free : s.m.inboxHeld u L = false)
    (only : ∀ p, .token p sdid.toNat u L w.toNat ∈ s.m.wire → p = s.m.planTag u) :
    exec (.tokenArrival ⟨u, ⟨L.val, by omega⟩, sdid, w⟩) s =
      .next { s with m := (s.m.without (.token (s.m.planTag u) sdid.toNat u L w.toNat)).takeToken u L sdid.toNat w.toNat } := by
  have noCredit : bits w.toNat 0 4 ≠ 2 := by
    rw [due.typ]
    rcases r.typ_data with h | h <;> simp [h]
  refine (onStack_in _ lt).trans ?_
  dsimp only
  rw [if_neg noCredit, Mach.wordArrives_ours reached free on only]
  dsimp only
  rw [if_neg noCredit]
  rfl

theorem token_accepted (lt : u.val < s.fuse.part.stackCount) (on : s.m.planOn u = true) (due : Due s.m u L sdid.toNat w.toNat r n)
    (reached : (s.m.stackOf sdid.toNat).any (fun v => s.m.cut s.fuse.part.stackCount v u) = false) (free : s.m.inboxHeld u L = false)
    (only : ∀ p, .token p sdid.toNat u L w.toNat ∈ s.m.wire → p = s.m.planTag u) (depth : r.depth ≤ 255)
    (order : (s.m.inChan u L (bits w.toNat 16 6)).cur ≤ (s.m.inChan u L (bits w.toNat 16 6)).accepted)
    (room : (s.m.inChan u L (bits w.toNat 16 6)).accepted - (s.m.inChan u L (bits w.toNat 16 6)).cur < r.depth)
    (next : n = (s.m.inChan u L (bits w.toNat 16 6)).base + (s.m.inChan u L (bits w.toNat 16 6)).accepted) (none : (s.m.inChan u L (bits w.toNat 16 6)).waiting = []) :
    let fin : Bool := bits w.toNat 42 14 == 0x3FFF
    Lands (.tokenArrival ⟨u, ⟨L.val, by omega⟩, sdid, w⟩) s (fun t => Works s t u L [] (fun m =>
      { m.updCore u L (fun k => k.updIn (bits w.toNat 16 6) (fun x => { x with accepted := x.accepted + 1, ends := if fin then x.ends ++ [n] else x.ends })) with
        wire := m.wire.erase (.token (s.m.planTag u) sdid.toNat u L w.toNat) })) := by
  intro fin
  refine ⟨_, tokenArrival_runs lt on due reached free only, ?_⟩
  have dueStill : Due (s.m.without (.token (s.m.planTag u) sdid.toNat u L w.toNat)) u L sdid.toNat w.toNat r n :=
    ⟨due.route, due.typ, due.src, due.stack, due.sdid, due.buffer, due.seq, due.slot⟩
  have chan : (s.m.without (.token (s.m.planTag u) sdid.toNat u L w.toNat)).inChan u L (bits w.toNat 16 6) = s.m.inChan u L (bits w.toNat 16 6) := rfl
  have takes := dueStill.takeToken (by rw [chan]; omega) (by rw [chan]; omega) (by rw [chan]; omega)
  rw [chan, if_neg (by rw [none]; simp only [List.any_nil, Bool.false_eq_true, or_false]; omega)] at takes
  have same : (s.m.without (.token (s.m.planTag u) sdid.toNat u L w.toNat)).updCore u L (fun c => c.updIn (bits w.toNat 16 6) (fun i => i.take n (bits w.toNat 42 14 = 0x3FFF))) =
      (s.m.without (.token (s.m.planTag u) sdid.toNat u L w.toNat)).updCore u L (fun k => k.updIn (bits w.toNat 16 6) (InChan.accepting n fin)) := by
    have one := InChan.take_next none fin
    rw [← next] at one
    exact Mach.updCore_congr _ u L (congrArg (fun i => ({ s.m.core u L with ins := SMap.put (s.m.core u L).ins (bits w.toNat 16 6) i } : Core)) one)
  rw [takes, same]
  exact Works.without_then (fun k => k.updIn (bits w.toNat 16 6) (InChan.accepting n fin)) _ (OwnRegs.syncScript _ u L)

theorem token_duplicate (lt : u.val < s.fuse.part.stackCount) (on : s.m.planOn u = true) (due : Due s.m u L sdid.toNat w.toNat r n)
    (reached : (s.m.stackOf sdid.toNat).any (fun v => s.m.cut s.fuse.part.stackCount v u) = false) (free : s.m.inboxHeld u L = false)
    (only : ∀ p, .token p sdid.toNat u L w.toNat ∈ s.m.wire → p = s.m.planTag u) (depth : r.depth ≤ 255)
    (room : (s.m.inChan u L (bits w.toNat 16 6)).accepted - (s.m.inChan u L (bits w.toNat 16 6)).cur < r.depth)
    (from_ : (s.m.inChan u L (bits w.toNat 16 6)).base + (s.m.inChan u L (bits w.toNat 16 6)).cur ≤ n)
    (before : n < (s.m.inChan u L (bits w.toNat 16 6)).base + (s.m.inChan u L (bits w.toNat 16 6)).accepted) :
    Lands (.tokenArrival ⟨u, ⟨L.val, by omega⟩, sdid, w⟩) s (fun t => Sets s t [up s u Reg.CORE_SCRIPT_STATE_DUPLICATES (s.m.physOf u L)]
      (fun m => { m with wire := m.wire.erase (.token (s.m.planTag u) sdid.toNat u L w.toNat) })) := by
  refine ⟨_, tokenArrival_runs lt on due reached free only, ?_⟩
  have dueStill : Due (s.m.without (.token (s.m.planTag u) sdid.toNat u L w.toNat)) u L sdid.toNat w.toNat r n :=
    ⟨due.route, due.typ, due.src, due.stack, due.sdid, due.buffer, due.seq, due.slot⟩
  have chan : (s.m.without (.token (s.m.planTag u) sdid.toNat u L w.toNat)).inChan u L (bits w.toNat 16 6) = s.m.inChan u L (bits w.toNat 16 6) := rfl
  have takes := dueStill.takeToken (by rw [chan]; omega) (by rw [chan]; omega) (by rw [chan]; omega)
  rw [chan, if_pos (.inl (by omega))] at takes
  rw [takes, Mach.duplicate, if_pos L.isLt]
  have one : Holds { s with m := (s.m.without (.token (s.m.planTag u) sdid.toNat u L w.toNat)).bumpF u Reg.CORE_SCRIPT_STATE_DUPLICATES (s.m.physOf u L) }
      [up s u Reg.CORE_SCRIPT_STATE_DUPLICATES (s.m.physOf u L)] := by
    intro e mem
    obtain rfl := List.mem_singleton.mp mem
    exact Mach.getF_setF_same _ _ _ _ u.isLt
  refine ⟨rfl, rfl, Mach.noRegs_setF .., one, fun v f j apart => ?_⟩
  have away := apart _ List.mem_cons_self
  by_cases e : v = u
  · subst e
    exact Mach.getF_setF_key _ _ _ _ _ _ _ _ fun same => away ⟨rfl, same.symm⟩
  · exact Mach.getF_setF_stack _ _ _ _ _ _ e

end

end Sys2Proof.Machine
end


section
/-! SUPPORT. O26: CREDIT_ARRIVAL and WORK_UNIT_REPLAY (R58, R73, R316, R401). -/

namespace Sys2Proof.Machine
set_option Elab.async false

/-! ## CREDIT_ARRIVAL -/

/-- The oldest credit freed. -/
def OutChan.freeing (o : OutChan) : OutChan := { o with oldest := o.oldest + 1 }

/-- The oldest credit is accepted at once when none is held. -/
theorem OutChan.take_oldest {o : OutChan} (none : o.waiting = []) : o.take o.oldest = o.freeing := by
  unfold OutChan.take
  rw [none]
  obtain ⟨sent, cur, oldest, waiting, faulted⟩ := o
  obtain rfl : waiting = [] := none
  simp [OutChan.absorb, OutChan.freeing]

/-- A change of a producer's channel counts by what it makes of the channel. -/
theorem Mach.updProd_congr (m : Mach) (u L ch : Nat) {f g : OutChan → OutChan} (h : f (m.prodChan u L ch) = g (m.prodChan u L ch)) :
    m.updProd u L ch f = m.updProd u L ch g := by
  unfold Mach.updProd
  unfold Mach.prodChan at h
  split
  · next core =>
    rw [if_pos core] at h
    exact m.updCore_congr u L (congrArg (fun o => ({ m.core u L with outs := SMap.put (m.core u L).outs ch o } : Core)) h)
  · next mover =>
    rw [if_neg mover] at h
    refine m.updStk_congr u _ _ ?_
    dsimp only
    rw [show f (SMap.getD (SMap.getD (m.stk u).movers (L - 0x3C0) {}).outs ch {}) = g (SMap.getD (SMap.getD (m.stk u).movers (L - 0x3C0) {}).outs ch {}) from h]

theorem Mach.getF_updProd (m : Mach) (u L ch : Nat) (f : OutChan → OutChan) (v : Nat) (g : Fld) (j : Nat) : (m.updProd u L ch f).getF v g j = m.getF v g j := by
  unfold Mach.updProd
  split
  · exact Mach.getF_updCore ..
  · exact Mach.getF_updStk _ _ _ _ _ _ rfl

theorem Mach.noRegs_updProd (m : Mach) (u L ch : Nat) (f : OutChan → OutChan) : (m.updProd u L ch f).noRegs = m.noRegs.updProd u L ch f := by
  unfold Mach.updProd
  split
  · exact m.noRegs_updCore_same u L _
  · match u with
    | 0 | 1 | 2 | 3 | _ + 4 => rfl

theorem Mach.updProd_without (m : Mach) (x : Msg) (u L ch : Nat) (f : OutChan → OutChan) :
    (m.without x).updProd u L ch f = { m.updProd u L ch f with wire := m.wire.erase x } := by
  unfold Mach.updProd Mach.without
  split
  · exact m.updStk_withWire _ u _
  · exact m.updStk_withWire _ u _

/-- A credit of a route that frees the oldest of its channel. -/
structure Frees (m : Mach) (u L sdid w : Nat) (r : Route) : Prop where
  route  : m.outRoute u L (bits w 16 6) = some r
  dst    : bits w 4 10 = r.dst
  stack  : bits w 14 2 = r.dstStack
  sdid   : sdid = m.consumerSdid u r
  buffer : bits w 42 14 = r.buffer ∨ bits w 42 14 = 0x3FFF
  seq    : bits w 22 20 = (m.prodChan u L (bits w 16 6)).oldest % 2 ^ 20
  slot   : bits w 56 8 = (m.prodChan u L (bits w 16 6)).oldest % r.depth
  sent   : (m.prodChan u L (bits w 16 6)).oldest < (m.prodChan u L (bits w 16 6)).sent
  none   : (m.prodChan u L (bits w 16 6)).waiting = []

/-- A producer's channel frees its oldest credit; the script of a core shows what it waits for. -/
def Mach.freed (m : Mach) (u L ch : Nat) : Mach :=
  if L < 832 then (m.updProd u L ch OutChan.freeing).syncScript u L else m.updProd u L ch OutChan.freeing

theorem Frees.takeCredit {m : Mach} {u L sdid w : Nat} {r : Route} (frees : Frees m u L sdid w r) : m.takeCredit u L sdid w = m.freed u L (bits w 16 6) := by
  obtain ⟨route, dst, stack, peer, buffer, seq, slot, sent, none⟩ := frees
  have fields : (bits w 4 10 = r.dst && bits w 14 2 = r.dstStack && sdid = m.consumerSdid u r && (bits w 42 14 = r.buffer || bits w 42 14 = 0x3FFF)) = true := by
    simp [dst, stack, peer, buffer]
  have near : (m.prodChan u L (bits w 16 6)).oldest - (m.prodChan u L (bits w 16 6)).oldest < 2 ^ 19 := by omega
  have known : ¬ (m.prodChan u L (bits w 16 6)).oldest - (m.prodChan u L (bits w 16 6)).oldest < 0 := Nat.not_lt_zero _
  have window : (m.prodChan u L (bits w 16 6)).oldest - (m.prodChan u L (bits w 16 6)).oldest < (m.prodChan u L (bits w 16 6)).sent - (m.prodChan u L (bits w 16 6)).oldest := by omega
  have takes : m.updProd u L (bits w 16 6) (fun o => o.take (m.prodChan u L (bits w 16 6)).oldest) = m.updProd u L (bits w 16 6) OutChan.freeing :=
    m.updProd_congr u L _ (OutChan.take_oldest none)
  have held : (m.prodChan u L (bits w 16 6)).waiting.contains (m.prodChan u L (bits w 16 6)).oldest = false := by rw [none]; rfl
  unfold Mach.takeCredit
  simp only [route, seq, slot, fields, arrivalOf_count (Nat.le_refl _) near, if_neg known, if_pos window, count_of_seq (Nat.le_refl _) near, held, takes,
    Bool.false_eq_true, if_false]
  rfl

theorem Frees.without {m : Mach} {u L sdid w : Nat} {r : Route} (f : Frees m u L sdid w r) (x : Msg) : Frees (m.without x) u L sdid w r :=
  ⟨f.route, f.dst, f.stack, f.sdid, f.buffer, f.seq, f.slot, f.sent, f.none⟩

theorem credit_accepted {s : State} {u : StackNo} (lt : u.val < s.fuse.part.stackCount) {q : Fin 1024} {sdid : Half} {w : Dword} {r : Route}
    (on : s.m.planOn u = true) (credit : bits w.toNat 0 4 = 2) (frees : Frees s.m u q sdid.toNat w.toNat r)
    (reached : (s.m.stackOf sdid.toNat).any (fun v => s.m.cut s.fuse.part.stackCount v u) = false) (free : s.m.inboxHeld u q = false)
    (only : ∀ pl, .token pl sdid.toNat u q w.toNat ∈ s.m.wire → pl = s.m.planTag u) :
    Lands (.creditArrival ⟨u, q, sdid, w⟩) s (fun t => Works s t u q [] (fun m =>
      { m.updProd u q (bits w.toNat 16 6) (fun x => { x with oldest := x.oldest + 1 }) with
        wire := m.wire.erase (.token (s.m.planTag u) sdid.toNat u q w.toNat) })) := by
  have runs : exec (.creditArrival ⟨u, q, sdid, w⟩) s =
      .next { s with m := (s.m.without (.token (s.m.planTag u) sdid.toNat u q w.toNat)).freed u q (bits w.toNat 16 6) } := by
    rw [← (frees.without _).takeCredit]
    refine (onStack_in _ lt).trans ?_
    dsimp only
    rw [if_pos credit, Mach.wordArrives_ours reached free on only]
    dsimp only
    rw [if_pos credit]
    rfl
  refine ⟨_, runs, ?_⟩
  have rest : ((s.m.without (.token (s.m.planTag u) sdid.toNat u q w.toNat)).updProd u q (bits w.toNat 16 6) OutChan.freeing).noRegs =
      { s.m.noRegs.updProd u q (bits w.toNat 16 6) OutChan.freeing with wire := s.m.noRegs.wire.erase (.token (s.m.planTag u) sdid.toNat u q w.toNat) } := by
    rw [Mach.noRegs_updProd]
    exact s.m.noRegs.updProd_without _ _ _ _ _
  refine Works.of_own (m := (s.m.without (.token (s.m.planTag u) sdid.toNat u q w.toNat)).updProd u q (bits w.toNat 16 6) OutChan.freeing)
    (fun v g j => Mach.getF_updProd _ u q _ _ v g j) ?_ rest
  unfold Mach.freed
  split
  · have own := OwnRegs.syncScript ((s.m.without (.token (s.m.planTag u) sdid.toNat u q w.toNat)).updProd u q (bits w.toNat 16 6) OutChan.freeing) u q
    rwa [show ((s.m.without (.token (s.m.planTag u) sdid.toNat u q w.toNat)).updProd u q (bits w.toNat 16 6) OutChan.freeing).physOf u q = s.m.physOf u q from
      Mach.getF_updProd ..] at own
  · exact OwnRegs.refl _ _ _

/-! ## WORK_UNIT_REPLAY -/

/-- A core whose unit runs again. -/
def Core.replayed (c : Core) : Core := { c with halt := .none, refetched := false }

/-- The replay of the unit of a core, counted. -/
def Mach.replayed (m : Mach) (u L : Nat) : Mach :=
  (((m.updCore u L Core.replayed).bumpF u Reg.CORE_SCRIPT_STATE_REPLAYS (m.physOf u L)).bumpF u Reg.BUR_RECOVERY_COUNT_REPLAYS).syncScript u L

theorem Mach.link_updCore (m : Mach) (u L : Nat) (f : Core → Core) : ((m.updCore u L f).stk u).link = (m.stk u).link := by
  match u with
  | 0 | 1 | 2 | 3 | _ + 4 => rfl

theorem Mach.replay_eq {m : Mach} (k : Nat) {u L : Nat} (lt : u < 4) (running : m.planRunning u = true) (aborted : (m.core u L).halt = .aborted)
    (early : (m.core u L).aborts < 3 ∨ ((m.stk u).integ.consumed.any (fun x => x.core = L) = false ∧
      ((m.stk u).integ.queue ++ (m.stk u).integ.running).any (m.behind u L) = false))
    (untested : (m.stk u).integ.running.any (fun t => (t.kind = 4 || t.kind = 5 || t.kind = 6) && t.index % 2 ^ 10 = m.physOf u L) = false)
    (clean : m.poisonedSlots u L = []) (fetched : (m.stk u).link.xfers.any (fun x => x.owner = .refetch L) = false) : m.replay k u L = m.replayed u L := by
  have waits : ((decide ((m.core u L).aborts ≥ 3) && ((m.stk u).integ.consumed.any (fun x => x.core = L) ||
      ((m.stk u).integ.queue ++ (m.stk u).integ.running).any (m.behind u L))) ||
      (m.stk u).integ.running.any (fun t => (t.kind = 4 || t.kind = 5 || t.kind = 6) && t.index % 2 ^ 10 = m.physOf u L)) = false := by
    rw [untested, Bool.or_false]
    rcases early with few | ⟨consumed, behind⟩
    · rw [show decide ((m.core u L).aborts ≥ 3) = false from decide_eq_false (by omega), Bool.false_and]
    · rw [consumed, behind, Bool.or_false, Bool.and_false]
  have asked : (if (m.core u L).refetched then m else ((m.poisonedSlots u L).foldl (fun m e => m.refetchSlot k u L e) m).updCore u L (fun c => { c with refetched := true })) =
      m ∨ (if (m.core u L).refetched then m else ((m.poisonedSlots u L).foldl (fun m e => m.refetchSlot k u L e) m).updCore u L (fun c => { c with refetched := true })) =
      m.updCore u L (fun c => { c with refetched := true }) := by
    rw [clean]
    split
    · exact .inl rfl
    · exact .inr rfl
  unfold Mach.replay
  simp only [running, aborted, waits, Bool.not_true, Bool.false_eq_true, ne_eq, not_true_eq_false, or_self, if_false]
  rcases asked with same | same
  · rw [same, fetched]
    rfl
  · rw [same, Mach.link_updCore, fetched]
    simp only [Bool.false_eq_true, if_false]
    rw [Mach.updCore_updCore _ _ _ _ lt]
    rfl

theorem replay_lands {s : State} {u : StackNo} (lt : u.val < s.fuse.part.stackCount) (L : Fin 832) (does : s.m.replay s.fuse.part.stackCount u L = s.m.replayed u L) :
    Lands (.workUnitReplay ⟨u, L⟩) s (fun t => Works s t u L [up s u Reg.BUR_RECOVERY_COUNT_REPLAYS,
        (u.val, Reg.CORE_SCRIPT_STATE_REPLAYS, s.m.physOf u L, satAdd 8 (s.m.getF u Reg.CORE_SCRIPT_STATE_REPLAYS (s.m.physOf u L)) 1)]
      (fun m => m.updCore u L (fun k => { k with halt := .none, refetched := false }))) := by
  have runs : exec (.workUnitReplay ⟨u, L⟩) s = .next { s with m := s.m.replayed u L } := by
    rw [← does]
    exact onStack_in _ lt
  have core (f : Fld) (j : Nat) : (s.m.updCore u L Core.replayed).getF u f j = s.m.getF u f j := Mach.getF_updCore ..
  have place : (((s.m.updCore u L Core.replayed).bumpF u Reg.CORE_SCRIPT_STATE_REPLAYS (s.m.physOf u L)).bumpF u Reg.BUR_RECOVERY_COUNT_REPLAYS).physOf u L = s.m.physOf u L :=
    (Mach.getF_setF_key _ _ _ _ _ _ _ _ (key_ne (by decide))).trans ((OwnRegs.setF u (s.m.physOf u L) _ Reg.CORE_SCRIPT_STATE_REPLAYS _ (by decide)).physOf u L |>.trans (core _ _))
  have script := OwnRegs.syncScript (((s.m.updCore u L Core.replayed).bumpF u Reg.CORE_SCRIPT_STATE_REPLAYS (s.m.physOf u L)).bumpF u Reg.BUR_RECOVERY_COUNT_REPLAYS) u L
  rw [place] at script
  refine ⟨_, runs, rfl, rfl, ?_, fun e mem => ?_, fun v f j apart listed => ?_⟩
  · refine script.noRegs.trans ?_
    rw [Mach.bumpF, Mach.noRegs_setF, Mach.bumpF, Mach.noRegs_setF]
    exact s.m.noRegs_updCore_same u L _
  · simp only [List.mem_cons, List.not_mem_nil, or_false] at mem
    rcases mem with rfl | rfl
    · refine (script.getF_above u 0 (f := Reg.BUR_RECOVERY_COUNT_REPLAYS) (by decide) (by decide)).trans ((Mach.getF_setF_same _ _ _ _ u.isLt).trans ?_)
      rw [Mach.bumpF, Mach.getF_setF_key _ _ _ _ _ _ _ _ (key_ne (by decide)), core]
    · refine (Mach.getF_syncScript_lo _ u L (f := Reg.CORE_SCRIPT_STATE_REPLAYS) _ (by decide)).trans ?_
      rw [Mach.bumpF, Mach.getF_setF_key _ _ _ _ _ _ _ _ (key_ne (by decide)), Mach.bumpF, Mach.getF_setF_same _ _ _ _ u.isLt, core]
      rfl
  · refine (script.getF apart).trans ?_
    have counted : ((((s.m.updCore u L Core.replayed).bumpF u Reg.CORE_SCRIPT_STATE_REPLAYS (s.m.physOf u L)).bumpF u Reg.BUR_RECOVERY_COUNT_REPLAYS)).getF v f j =
        ((s.m.updCore u L Core.replayed).bumpF u Reg.CORE_SCRIPT_STATE_REPLAYS (s.m.physOf u L)).getF v f j := by
      have away := listed _ List.mem_cons_self
      by_cases e : v = u
      · subst e
        exact Mach.getF_setF_key _ _ _ _ _ _ _ _ fun same => away ⟨rfl, same.symm⟩
      · exact Mach.getF_setF_stack _ _ _ _ _ _ e
    exact counted.trans (((OwnRegs.setF u (s.m.physOf u L) _ Reg.CORE_SCRIPT_STATE_REPLAYS _ (by decide)).getF apart).trans (Mach.getF_updCore ..))

/-- Settles O26: what is published after the control record leaves the units of cores and the counts of commits; a word that is due is classed by its count. -/
theorem commitTokensAndCredits : Obligations.CommitTokensAndCredits := by
  unfold Obligations.CommitTokensAndCredits
  intro s u L lt c p
  refine ⟨fun id due running well exact_ noStores credits => ?_, fun sdid w r n on => ?_, fun q sdid w pl only mem foreign reached free =>
    foreign_lands lt q sdid w pl only mem foreign reached free, fun q sdid w r on credit _ => ?_, fun running aborted early untested clean fetched =>
    replay_lands lt L (Mach.replay_eq _ u.isLt running aborted early untested clean fetched)⟩
  · obtain ⟨t, does, fuse, pending, others, count, groups, regs, core⟩ := commit_lands lt L due running well exact_ noStores credits
    refine ⟨t, does, fuse, pending, others, count, ?_⟩
    rw [core]
    exact ⟨rfl, rfl, rfl, rfl, rfl, rfl, rfl, rfl, rfl, rfl, rfl, rfl, rfl, rfl, rfl, rfl, InChan.committed c, OutChan.committed _ _⟩
  · intro ch fin i route typ src stack peer buffer seq slot _ depth order room is word reached free only
    have due : Due s.m u L sdid.toNat w.toNat r n := ⟨route, typ, src, stack, peer, buffer, seq, slot⟩
    have ours (pl : Option Nat) (mem : .token pl sdid.toNat u L w.toNat ∈ s.m.wire) : pl = s.m.planTag u := by
      have same := only _ mem (by simp [is])
      exact (Msg.token.inj same).1
    exact ⟨fun next none => token_accepted lt on due reached free ours depth order room next none,
      fun from_ before => token_duplicate lt on due reached free ours depth room from_ before⟩
  · intro ch o route dst stack peer buffer seq slot _ sent none reached free only
    exact credit_accepted lt on credit ⟨route, dst, stack, peer, buffer, seq, slot, sent, none⟩ reached free only

end Sys2Proof.Machine
end


section
/-! SUPPORT. O18: a store on its way and an access of any unit, performed at the home of its bytes in SRAM or refused (R104, R105, R268, R280, R380). -/

namespace Sys2Proof.Machine
set_option Elab.async false

/-! ## Stores of a core performed -/

/-- A change of a core leaves which rows have failed. -/
@[simp] theorem Mach.rowFailed_updCore (m : Mach) (u L : Nat) (f : Core → Core) (a : Nat) : (m.updCore u L f).rowFailed a = m.rowFailed a := by
  have same : ((m.updCore u L f).stk (daStack a)).integ = (m.stk (daStack a)).integ := by
    match u, daStack a with
    | 0, 0 | 0, 1 | 0, 2 | 0, 3 | 0, _ + 4 | 1, 0 | 1, 1 | 1, 2 | 1, 3 | 1, _ + 4 | 2, 0 | 2, 1 | 2, 2 | 2, 3 | 2, _ + 4
    | 3, 0 | 3, 1 | 3, 2 | 3, 3 | 3, _ + 4 | _ + 4, _ => rfl
  unfold Mach.rowFailed
  rw [same]

/-- Committed bytes kept, as a change of the core alone. -/
theorem Mach.keepCommitted_cases (m : Mach) (u L a n : Nat) :
    m.keepCommitted u L a n = m ∨
    ∃ sh : Core → SMap PByte, m.keepCommitted u L a n = m.updCore u L (fun c => { c with shadow := sh c }) := by
  unfold Mach.keepCommitted
  split
  · exact .inr ⟨_, rfl⟩
  · exact .inl rfl

/-- A change of the core after committed bytes are kept. -/
theorem Mach.updCore_keepCommitted (m : Mach) {u : Nat} (L a n : Nat) (f : Core → Core) (lt : u < 4) :
    (m.keepCommitted u L a n).updCore u L f = m.updCore u L (fun c => f { c with shadow := ((m.keepCommitted u L a n).core u L).shadow }) := by
  rcases m.keepCommitted_cases u L a n with same | ⟨sh, kept⟩
  · rw [same]
    exact m.updCore_congr u L rfl
  · rw [kept, Mach.updCore_updCore _ _ _ _ lt, Mach.core_updCore_same _ _ _ lt]
    exact m.updCore_congr u L rfl

/-- Memory written, and then a core changed. -/
theorem Mach.updCore_withMem (m : Mach) (x : Mem) (u L : Nat) (f : Core → Core) : ({ m with mem := x } : Mach).updCore u L f = { m.updCore u L f with mem := x } := rfl

/-- A store to SRAM whose rows have not failed writes its bytes, the committed ones kept before (R104, Table TG-5). -/
theorem Mach.performStore_sram {m : Mach} {u L : Nat} {p : PStore} (sram : daRegion p.addr ≤ 2)
    (rows : ∀ i, i < p.data.length → m.rowFailed (p.addr + i) = false) :
    m.performStore u L p = { m.keepCommitted u L p.addr p.data.length with mem := m.mem.writeBytes p.addr p.data } := by
  have kept : (m.keepCommitted u L p.addr p.data.length).mem = m.mem ∧
      ∀ a, (m.keepCommitted u L p.addr p.data.length).rowFailed a = m.rowFailed a := by
    rcases m.keepCommitted_cases u L p.addr p.data.length with same | ⟨sh, kept⟩
    · rw [same]; exact ⟨rfl, fun _ => rfl⟩
    · rw [kept]; exact ⟨rfl, m.rowFailed_updCore u L _⟩
  unfold Mach.performStore
  rw [Mach.performWrite_clean _ _ _ _ (by omega) fun i h => (kept.2 _).trans (rows i h), kept.1]

/-- Every byte of the range is as written, with correct check bits; every other one is as before. -/
def WroteAt (x y : Mem) (a : Nat) (d : List Byte) : Prop :=
  ∀ b, y.byte b = (if a ≤ b ∧ b < a + d.length then d.getD (b - a) 0 else x.byte b) ∧
    y.syndrome b = if a ≤ b ∧ b < a + d.length then 0 else x.syndrome b

theorem WroteAt.writeBytes {x : Mem} (wf : x.wf = true) (a : Nat) (d : List Byte) : WroteAt x (x.writeBytes a d) a d :=
  fun b => ⟨x.byte_writeBytes a b d wf, x.syndrome_writeBytes a b d wf⟩

/-- A change of the machine outside its registers. -/
theorem Sets.of_rest {s : State} {n : Mach} {g : Mach → Mach} (rest : n.noRegs = g s.m.noRegs) (regs : SameFields s.m n) : Sets s { s with m := n } [] g :=
  Sets.of_setFs rest regs List.nodup_nil fun _ h => by cases h

/-- The core with its nth store performed, its shadow given. -/
def Core.storeDone (n : Nat) (shadow : SMap PByte) (c : Core) : Core := { c with stores := listErase c.stores n, shadow := shadow }

theorem store_lands {s : State} (wf : s.m.mem.wf = true) {u : StackNo} (lt : u.val < s.fuse.part.stackCount) (L : Fin 832) (n : Nat) {p : PStore}
    (nth : (s.m.core u L).stores[n]? = some p) (sram : daRegion p.addr ≤ 2) (free : s.m.storeHeld u L p = false)
    (first : ((s.m.core u L).stores.take n).any (fun q => q.slot = p.slot && rangesMeet (q.addr, q.data.length) (p.addr, p.data.length)) = false)
    (rows : ∀ i, i < p.data.length → s.m.rowFailed (p.addr + i) = false) :
    Lands (.accessAtHome (.store u L n)) s (fun t =>
      Sets s t [] (fun m => { m.updCore u L (fun c => { c with
        stores := listErase c.stores n, shadow := ((s.m.keepCommitted u L p.addr p.data.length).core u L).shadow }) with mem := t.m.mem }) ∧
      WroteAt s.m.mem t.m.mem p.addr p.data) := by
  have does : s.m.storeHome u L n = { s.m.updCore u L (Core.storeDone n ((s.m.keepCommitted u L p.addr p.data.length).core u L).shadow) with
      mem := s.m.mem.writeBytes p.addr p.data } := by
    unfold Mach.storeHome
    dsimp only
    rw [nth]
    dsimp only
    rw [if_neg (by rw [free, first]; decide), Mach.performStore_sram sram rows, Mach.updCore_withMem, Mach.updCore_keepCommitted _ _ _ _ _ u.isLt]
    rfl
  refine ⟨_, onStack_in _ lt, ?_⟩
  rw [does]
  refine ⟨Sets.of_rest ?_ fun v f j => Mach.getF_updCore s.m u L v _ f j, WroteAt.writeBytes wf _ _⟩
  exact congrArg (fun m : Mach => { m with mem := s.m.mem.writeBytes p.addr p.data }) (s.m.noRegs_updCore_same u L _)

/-! ## Accesses of units -/

/-- What the home does with an access is all that the command does. -/
theorem access_next {s : State} {a : MemAcc} {n : Mach} (does : s.m.accessHome s.fuse.part.stackCount (accessOf a true) = n) :
    exec (.accessAtHome (.access a)) s = .next { s with m := n } := by
  rw [← does]
  rfl

/-- An access that Table RG-2 allows and nothing holds is performed. -/
theorem access_runs {s : State} {a : MemAcc} (allowed : s.m.accessDeny s.fuse.part.stackCount (accessOf a true) = none)
    (free : s.m.holds (accessOf a true) = false) : exec (.accessAtHome (.access a)) s = .next { s with m := s.m.doAccess (accessOf a true) } := by
  refine access_next ?_
  unfold Mach.accessHome
  rw [allowed]
  dsimp only
  rw [free, if_neg (by decide)]

theorem write_lands {s : State} (wf : s.m.mem.wf = true) {a : MemAcc} (allowed : s.m.accessDeny s.fuse.part.stackCount (accessOf a true) = none)
    (sram : daRegion (accessOf a true).addr ≤ 2) (free : s.m.holds (accessOf a true) = false) {d : List Byte} (data : a.data = some d)
    (rows : ∀ i, i < d.length → s.m.rowFailed ((accessOf a true).addr + i) = false) :
    Lands (.accessAtHome (.access a)) s (fun t => Sets s t [] (fun m => { m with mem := t.m.mem }) ∧
      WroteAt s.m.mem t.m.mem (accessOf a true).addr d) := by
  have does : s.m.doAccess (accessOf a true) = { s.m with mem := s.m.mem.writeBytes (accessOf a true).addr d } := by
    unfold Mach.doAccess
    rw [show (accessOf a true).wr = some (PByte.clean d) by unfold accessOf; rw [data]; rfl]
    exact s.m.performWrite_clean _ _ d (by omega) rows
  refine ⟨_, access_runs allowed free, ?_⟩
  rw [does]
  exact ⟨Sets.of_rest rfl fun _ _ _ => rfl, WroteAt.writeBytes wf _ _⟩

/-- A read of SRAM cells none of whose granules fails detects nothing (R309). -/
theorem Mach.detectHome_passes {m : Mach} {a n : Nat} (sram : daRegion a ≠ 4) (pass : ∀ i, i < n → m.mem.detects (a + i) = false) : m.detectHome a n = m := by
  have none : m.failsAt a n = [] := by
    unfold Mach.failsAt Mach.failsIn
    rw [if_neg sram, List.map_eq_nil_iff, List.filter_eq_nil_iff]
    intro i mem
    simp [pass i (List.mem_range.mp mem)]
  unfold Mach.detectHome
  rw [none]
  rfl

/-- A read of SRAM cells none of whose granules fails changes nothing, and delivers the cells. -/
theorem Mach.performRead_sram {m : Mach} {a n : Nat} (alloc : Bool) (sram : daRegion a ≠ 4) (all : ∀ i, i < n → daRegion ((a + i) % 2 ^ 52) ≠ 4)
    (pass : ∀ i, i < n → m.mem.detects (a + i) = false) : m.performRead alloc a n = (m, (List.range n).map (fun i => m.sramByte ((a + i) % 2 ^ 52))) := by
  have bytes : m.homeBytes a n = (List.range n).map (fun i => m.sramByte ((a + i) % 2 ^ 52)) := by
    refine List.map_congr_left fun i mem => ?_
    unfold Mach.homeByte
    rw [if_neg (all i (List.mem_range.mp mem))]
  unfold Mach.performRead
  rw [if_neg sram]
  dsimp only
  rw [Mach.detectHome_passes sram pass, bytes]

/-- Less than 4 KiB from an address of regions 0x0 to 0x2 reach no byte of region 0x4. -/
theorem daRegion_near {a i : Nat} (sram : daRegion a ≤ 2) (near : i < 4096) : daRegion ((a + i) % 2 ^ 52) ≠ 4 := by
  unfold daRegion at sram ⊢
  omega

theorem read_lands {s : State} {a : MemAcc} (allowed : s.m.accessDeny s.fuse.part.stackCount (accessOf a true) = none)
    (sram : daRegion (accessOf a true).addr ≤ 2) (free : s.m.holds (accessOf a true) = false) (read : a.data = none)
    (pass : ∀ i, i < (accessOf a true).len → s.m.mem.detects ((accessOf a true).addr + i) = false) :
    let x := accessOf a true
    let v := s.m.reservedView x.addr ((List.range x.len).map (fun i => s.m.sramByte ((x.addr + i) % 2 ^ 52)))
    Lands (.accessAtHome (.access a)) s (fun t =>
      t = { s with m := { v.1 with host := { v.1.host with response := v.2, ep := v.2.any (·.poison ≠ 0) } } }) := by
  intro x v
  have short : x.len < 4096 := by
    show (match a.data with | some d => d.length | none => a.len.val) < 4096
    rw [read]
    exact a.len.isLt
  have cells := s.m.performRead_sram (n := x.len) x.alloc (fun r => by rw [r] at sram; omega)
    (fun i h => daRegion_near sram (by omega)) pass
  refine ⟨_, access_runs allowed free, ?_⟩
  unfold Mach.doAccess
  rw [show (accessOf a true).wr = none by unfold accessOf; rw [read]; rfl]
  dsimp only
  rw [cells]

/-! ## Refusals (R30, R268) -/

/-- A counter raised is a field set. -/
theorem Mach.bumpF_eq_setFs (m : Mach) (s : Nat) (f : Fld) (i n : Nat) : m.bumpF s f i n = m.setFs [(s, f, i, satAdd f.width (m.getF s f i) n)] := rfl

/-- What a refusal reports beside the error log: a count of it. -/
theorem Mach.refuse_eq (m : Mach) (k a : Nat) (d : Deny) : ∃ fs : List FieldVal,
    m.refuse k a d = (m.setFs fs).logError (if daStack a < k then daStack a else 0) 0x0106 0 0 a := by
  unfold Mach.refuse
  dsimp only
  split
  case h_7 => exact ⟨[], rfl⟩
  all_goals exact ⟨_, congrArg (fun n : Mach => n.logError _ 0x0106 0 0 a) (Mach.bumpF_eq_setFs ..)⟩

/-- A refused access changes no memory, and its entry is the newest of the error log. -/
theorem Mach.refuse_logs (m : Mach) (k a : Nat) (d : Deny) : SameStores m (m.refuse k a d) ∧
    ∃ e r, ((m.refuse k a d).stk (if daStack a < k then daStack a else 0)).bureau.errLog = e :: r ∧ e.code = 0x0106 ∧ e.addr = a := by
  obtain ⟨fs, is⟩ := m.refuse_eq k a d
  have lt : (if daStack a < k then daStack a else 0) < 4 := by unfold daStack; split <;> omega
  obtain ⟨l, newest⟩ := (m.setFs fs).logError_newest 0x0106 0 0 a [] lt
  rw [is]
  obtain ⟨mem, tier, host⟩ := (Reports.logError (m.setFs fs) (if daStack a < k then daStack a else 0) 0x0106 0 0 a []).stores
  obtain ⟨mem', tier', host'⟩ := m.setFs_stores fs
  exact ⟨⟨mem.trans mem', tier.trans tier', host.trans host'⟩, _, l, newest, rfl, rfl⟩

/-- The answer to a refused access changes what the host receives, and that alone. -/
theorem Mach.answerRefused_cases (m : Mach) (x : Access) : ∃ h, m.answerRefused x = { m with host := h } ∧
    (x.wr = none → x.agent = .host → h.response = (List.range x.len).map (fun _ => ⟨0xFF, 0⟩)) := by
  unfold Mach.answerRefused
  split
  · exact ⟨_, rfl, fun _ _ => rfl⟩
  · next other => exact ⟨m.host, rfl, fun read host => absurd host (other read)⟩

theorem refused_lands {s : State} {a : MemAcc} {d : Deny} (denied : s.m.accessDeny s.fuse.part.stackCount (accessOf a true) = some d) :
    let x := accessOf a true
    Lands (.accessAtHome (.access a)) s (fun t =>
      t.m.mem = s.m.mem ∧ t.m.tier = s.m.tier ∧ t.m.hostMem = s.m.hostMem ∧ t.fuse = s.fuse ∧ t.pending = s.pending ∧
      (∃ e r, (t.m.stk (if daStack x.addr < s.fuse.part.stackCount then daStack x.addr else 0)).bureau.errLog = e :: r ∧ e.code = 0x0106 ∧ e.addr = x.addr) ∧
      (x.wr = none → x.agent = .host → t.m.host.response = (List.range x.len).map (fun _ => ⟨0xFF, 0⟩))) := by
  intro x
  have does : s.m.accessHome s.fuse.part.stackCount x = (s.m.refuse s.fuse.part.stackCount x.addr d).answerRefused x := by
    unfold Mach.accessHome
    rw [denied]
  obtain ⟨⟨mem, tier, host⟩, entered⟩ := s.m.refuse_logs s.fuse.part.stackCount x.addr d
  obtain ⟨h, answers, ones⟩ := (s.m.refuse s.fuse.part.stackCount x.addr d).answerRefused_cases x
  exact ⟨_, access_next (does.trans answers), mem, tier, host, rfl, rfl, entered, ones⟩

/-- Settles O18: clean bytes are written as they are, a read of cells that pass delivers them, and a refusal only counts, logs and answers. -/
theorem requestsPerformedAtHome : Obligations.RequestsPerformedAtHome := by
  unfold Obligations.RequestsPerformedAtHome
  intro s wf
  refine ⟨fun u L n p lt nth sram free first rows => store_lands wf lt L n nth sram free first rows, fun a => ?_, fun a d denied => refused_lands denied⟩
  intro x allowed sram free
  exact ⟨fun d data rows => write_lands wf allowed sram free data rows, fun read pass => read_lands allowed sram free read pass⟩

end Sys2Proof.Machine
end


section
/-! SUPPORT. O10: what NOP, BRA, BRX and EXIT leave of their group and core (R94 to R97, R100, R144). -/

namespace Sys2Proof.Machine
set_option Elab.async false

/-! ## Instructions that change their group alone -/

section
variable {a : KInstr} {s : State} {k : KCtx} {c : Instr} {cls op : Nat} {body : KCtx → Mach → Mach}

/-- An instruction whose effect is f on its group. -/
theorem Issues.moves (h : Issues a s cls op k) (runs : exec c s = kernel a s cls op body) (f : Group → Group)
    (does : body k s.m = s.m.updGroup k.s k.L k.slot f) : Moves c s k (f k.g) := by
  have issued := h.runs body
  rw [does] at issued
  exact ⟨_, runs.trans issued, moved_spec f h.stack_lt h.group⟩

/-- The group goes on after the instruction. -/
theorem Issues.goes (h : Issues a s cls op k) (runs : exec c s = kernel a s cls op body) (does : body k s.m = k.next s.m) :
    Moves c s k (k.g.goto (k.g.pc + k.size)) :=
  h.moves runs (fun g => g.goto (g.pc + k.size)) does

end

/-- A divergence entry pushed where there is room: the first lanes go on (R95). -/
theorem KCtx.diverge_room {k : KCtx} (m : Mach) (first reconv : Nat) (rest : List (Nat × Nat)) (room : k.g.div.length < 32) :
    k.diverge m first reconv rest = m.updGroup k.s k.L k.slot (fun g => { g with active := first, div := ⟨reconv, rest, 0⟩ :: g.div }.goto (g.pc + k.size)) :=
  if_neg (by omega)

theorem bra_moves {a : KInstr} {s : State} {k : KCtx} (h : Issues a s 0 0x01 k) :
    let target := if Iw.ext k.w then branchTarget k.g.pc 32 (k.x % 2 ^ 32) else branchTarget k.g.pc 12 (Iw.imm12 k.w)
    let reconv := k.g.pc + 8 * (if Iw.ext k.w then k.x / 2 ^ 32 else bits k.w 22 16)
    (k.mask = 0 → Moves (.bra a) s k (k.g.goto (k.g.pc + k.size))) ∧
    (k.mask ≠ 0 → k.mask = k.g.active → Moves (.bra a) s k (k.g.goto target)) ∧
    (k.mask ≠ 0 → k.mask < k.g.active → k.g.div.length < 32 →
      Moves (.bra a) s k ({ k.g with active := k.g.active - k.mask, div := ⟨reconv, [(k.mask, target)], 0⟩ :: k.g.div }.goto (k.g.pc + k.size))) := by
  intro target reconv
  refine ⟨fun none => h.goes rfl (if_pos none), fun some all => h.moves (c := .bra a) rfl (fun g => g.goto target) ?_, fun some fewer room => ?_⟩
  · exact (if_neg some).trans (if_pos (by omega))
  · refine h.moves (c := .bra a) rfl (fun g => { g with active := k.g.active - k.mask, div := ⟨reconv, [(k.mask, target)], 0⟩ :: g.div }.goto (g.pc + k.size)) ?_
    exact ((if_neg some).trans (if_neg (by omega))).trans (k.diverge_room _ _ _ _ room)

theorem brx_moves {a : KInstr} {s : State} {k : KCtx} (h : Issues a s 0 0x02 k) :
    let jump := (k.lanes.map (fun l => (l, k.a s.m l))).filter (fun e => e.2 ≠ k.g.pc + k.size)
    let fall := k.g.active - ofBits (jump.map (·.1))
    let reconv := k.g.pc + 8 * (k.x / 2 ^ 32)
    (pathsOf jump = [] → Moves (.brx a) s k (k.g.goto (k.g.pc + k.size))) ∧
    (∀ p ps, pathsOf jump = p :: ps → fall ≠ 0 → k.g.div.length < 32 →
      Moves (.brx a) s k ({ k.g with active := fall, div := ⟨reconv, p :: ps, 0⟩ :: k.g.div }.goto (k.g.pc + k.size))) ∧
    (∀ p, pathsOf jump = [p] → fall = 0 → Moves (.brx a) s k (k.g.goto p.2)) ∧
    (∀ p q ps, pathsOf jump = p :: q :: ps → fall = 0 → k.g.div.length < 32 →
      Moves (.brx a) s k ({ k.g with active := p.1, div := ⟨reconv, q :: ps, 0⟩ :: k.g.div }.goto p.2)) := by
  intro jump fall reconv
  refine ⟨fun none => h.goes rfl ?_, fun p ps paths some room => ?_, fun p one none => h.moves (c := .brx a) rfl (fun g => g.goto p.2) ?_, fun p q ps paths none room => ?_⟩
  · dsimp only
    rw [none]
  · refine h.moves (c := .brx a) rfl (fun g => { g with active := fall, div := ⟨reconv, p :: ps, 0⟩ :: g.div }.goto (g.pc + k.size)) ?_
    dsimp only
    rw [paths]
    exact (if_pos some).trans (k.diverge_room _ _ _ _ room)
  · dsimp only
    rw [one]
    exact (if_neg (not_not.mpr none)).trans (if_pos rfl)
  · refine h.moves (c := .brx a) rfl (fun g => { g with active := p.1, div := ⟨reconv, q :: ps, 0⟩ :: g.div }.goto p.2) ?_
    dsimp only
    rw [paths]
    exact (if_neg (not_not.mpr none)).trans ((if_neg (by simp)).trans (if_neg (by omega)))

/-! ## A core changed, with registers of its block -/

theorem Mach.noCores_setFs (fs : List FieldVal) (m : Mach) : (m.setFs fs).noCores = m.noCores := by
  induction fs generalizing m with
  | nil => rfl
  | cons e r ih => rw [Mach.setFs_cons, ih, Mach.noCores_setF]

theorem Mach.core_setFs (fs : List FieldVal) (m : Mach) (v M : Nat) : (m.setFs fs).core v M = m.core v M := by
  induction fs generalizing m with
  | nil => rfl
  | cons e r ih => rw [Mach.setFs_cons, ih, Mach.core_setF]

/-- Fields of the block of p lie at different places when they are different bits of it. -/
theorem placesOf_block {p : Nat} {fs : List FieldVal} (own : ∀ e ∈ fs, blockFld e.2.1 = true ∧ e.2.2.1 = p)
    (different : (fs.map (fun e => e.2.1.reg.base * 64 + e.2.1.lo)).Nodup) : (placesOf fs).Nodup := by
  have shifted : placesOf fs = (fs.map (fun e => e.2.1.reg.base * 64 + e.2.1.lo)).map (· + p % 864 * 0x1_0000 * 64) := by
    rw [List.map_map]
    refine List.map_congr_left fun e mem => ?_
    obtain ⟨block, at_⟩ := own e mem
    simp only [blockFld, Bool.and_eq_true, decide_eq_true_eq] at block
    obtain ⟨⟨⟨⟨-, -⟩, outer⟩, inner⟩, stride⟩ := block
    simp only [Fld.key, RegDef.off, outer, inner, stride, at_, Function.comp]
    omega
  rw [shifted]
  exact different.map fun x y h => Nat.add_right_cancel h

/-- The instruction's own core changed by f, and then fields set. -/
theorem Becomes.withFields {k : KCtx} (s : State) (f : Core → Core) {fs : List FieldVal} (h : k.s < 4) (different : (placesOf fs).Nodup)
    (within : ∀ e ∈ fs, e.1 < 4) :
    Becomes k s { s with m := ((s.m.updCore k.s k.L f).setFs fs).stepped k.s k.L } (f (s.m.core k.s k.L)) fs := by
  refine ⟨⟨rfl, rfl, ?_⟩, fun v M ne => ?_, ?_, fun e mem => ?_, fun v g j l => ?_⟩
  · rw [Mach.noCores_stepped, Mach.noCores_setFs, Mach.noCores_updCore]
  · exact (Mach.core_stepped_ne _ ne).trans ((Mach.core_setFs fs _ v M).trans (Mach.core_updCore_ne _ _ ne))
  · have own : ((s.m.updCore k.s k.L f).setFs fs).core k.s k.L = f (s.m.core k.s k.L) := by rw [Mach.core_setFs, Mach.core_updCore_same _ _ _ h]
    exact ⟨_, by rw [← own]; exact Mach.core_stepped_same _ k.L h⟩
  · exact (Mach.getF_stepped ..).trans (Mach.getF_setFs_listed fs _ different within e mem)
  · exact (Mach.getF_stepped ..).trans ((Mach.getF_setFs_notListed fs _ l).trans (Mach.getF_updCore ..))

/-! ## EXIT (R94, R100) -/

/-- A slot without a group has none once the barriers of a block slot have settled. -/
theorem Core.find_barriersSettle_none (c : Core) (j : Nat) {slot : Nat} (none : SMap.find c.groups slot = .none) :
    SMap.find (c.barriersSettle j).groups slot = .none := by
  rw [Core.barriersSettle_eq]
  induction List.range 4 generalizing c with
  | nil => exact none
  | cons n r ih =>
    refine ih _ ?_
    unfold Core.settleOne
    split
    · rw [Core.find_barrierRelease, none]; rfl
    · exact none

/-- A group that exits has left its slot. -/
theorem Core.find_groupExit (c : Core) (slot : Nat) (g : Group) : SMap.find (c.groupExit slot g).groups slot = none := by
  unfold Core.groupExit
  dsimp only
  split
  · exact SMap.find_erase_same _ _
  · exact Core.find_barriersSettle_none _ _ (SMap.find_erase_same _ _)

/-- CORE_LAUNCH is kept in step by setting its six fields. -/
theorem Mach.syncLaunch_eq (m : Mach) (u L : Nat) : m.syncLaunch u L = m.setFs (launchFields u (m.physOf u L) (m.core u L)) := rfl

theorem launchFields_different (u p : Nat) (c : Core) : (placesOf (launchFields u p c)).Nodup := by
  refine placesOf_block (p := p) ?_ ?_
  · simp only [launchFields, List.forall_mem_cons, List.not_mem_nil, false_implies, implies_true, and_true]
    decide
  · simp only [launchFields, List.map]
    decide

theorem launchFields_within {u : Nat} (lt : u < 4) (p : Nat) (c : Core) : ∀ e ∈ launchFields u p c, e.1 < 4 := by
  simp only [launchFields, List.forall_mem_cons, List.not_mem_nil, false_implies, implies_true, and_true]
  exact ⟨lt, lt, lt, lt, lt, lt⟩

/-- The effect of EXIT. -/
def KCtx.exits (k : KCtx) (m : Mach) : Mach :=
  let g := { k.g with active := k.g.active - k.mask, exited := k.g.exited ||| k.mask, div := k.g.div.map (fun (e : DivE) => e.without k.mask) }
  if g.exited = 0xFFFF_FFFF then (m.updCore k.s k.L (fun c => c.groupExit k.slot k.g)).syncLaunch k.s k.L
  else m.updGroup k.s k.L k.slot (fun _ => g.goto (k.g.pc + k.size))

theorem KCtx.exits_some {k : KCtx} (m : Mach) (some : k.g.exited ||| k.mask ≠ 0xFFFF_FFFF) :
    k.exits m = m.updGroup k.s k.L k.slot (fun _ => Group.goto
      { k.g with active := k.g.active - k.mask, exited := k.g.exited ||| k.mask, div := k.g.div.map (fun (e : DivE) => e.without k.mask) }
      (k.g.pc + k.size)) :=
  if_neg some

theorem exec_exit (a : KInstr) (s : State) : exec (.exit a) s = kernel a s 0 0x03 KCtx.exits := rfl

/-- The group has exited: its core without it, CORE_LAUNCH in step. -/
theorem exit_lands {a : KInstr} {s : State} {k : KCtx} (h : Issues a s 0 0x03 k) (all : k.g.exited ||| k.mask = 0xFFFF_FFFF) :
    let c := s.m.core k.s k.L
    Lands (.exit a) s (fun t => Becomes k s t (c.groupExit k.slot k.g) (launchFields k.s (s.m.physOf k.s k.L) (c.groupExit k.slot k.g)) ∧
      SMap.find (t.m.core k.s k.L).groups k.slot = none) := by
  intro c
  have issued := (exec_exit a s).trans (h.runs KCtx.exits)
  unfold KCtx.exits at issued
  dsimp only at issued
  rw [if_pos all, Mach.syncLaunch_eq, Mach.core_updCore_same _ _ _ h.stack_lt, show (s.m.updCore k.s k.L _).physOf k.s k.L = s.m.physOf k.s k.L from Mach.getF_updCore ..]
    at issued
  have becomes := Becomes.withFields s (fun c => c.groupExit k.slot k.g) h.stack_lt (launchFields_different k.s (s.m.physOf k.s k.L) (c.groupExit k.slot k.g))
    (launchFields_within h.stack_lt _ _)
  refine ⟨_, issued, becomes, ?_⟩
  obtain ⟨-, -, ⟨n, own⟩, -⟩ := becomes
  rw [own]
  exact Core.find_groupExit _ _ _

end Sys2Proof.Machine
end


section
/-! SUPPORT. O10: TRAP takes its fault (R144, R147, R148, R150). -/

namespace Sys2Proof.Machine
set_option Elab.async false

/-! ## What a fault leaves beside its own registers and its core -/

/-- A place outside the fault registers of the blocks of cores (region 0x8 offsets 0x300 to 0x31F of a block). -/
def faultless (p : Nat) : Bool := decide (0x360_0000 ≤ p / 64) || decide (p / 64 % 0x1_0000 < 0x300) || decide (0x320 ≤ p / 64 % 0x1_0000)

theorem faultless_above {f : Fld} (lo : f.lo < 64) (above : 0x360_0000 ≤ f.reg.base) (i : Nat) : faultless (f.key i) = true := by
  have place : 0x360_0000 ≤ f.key i / 64 := by rw [f.key_div i lo, RegDef.off]; omega
  simp [faultless, place]

/-- Where field f of a block lies in it. -/
theorem blockFld_place {f : Fld} (h : blockFld f = true) (p : Nat) : f.key p / 64 < 0x360_0000 ∧ f.key p / 64 % 0x1_0000 = f.reg.base := by
  simp only [blockFld, Bool.and_eq_true, decide_eq_true_eq] at h
  obtain ⟨⟨⟨⟨lo, base⟩, outer⟩, inner⟩, stride⟩ := h
  rw [key_place lo outer, inner, stride]
  omega

/-- A field of a block that is none of its fault registers. -/
def apartFld (f : Fld) : Bool := blockFld f && (decide (f.reg.base < 0x300) || decide (0x320 ≤ f.reg.base))

theorem faultless_apart {f : Fld} (h : apartFld f = true) (p : Nat) : faultless (f.key p) = true := by
  simp only [apartFld, Bool.and_eq_true, Bool.or_eq_true, decide_eq_true_eq] at h
  have place := (blockFld_place h.1 p).2
  simp only [faultless, place, Bool.or_eq_true, decide_eq_true_eq]
  omega

/-- A field of the fault registers of a block. -/
def faultFld (f : Fld) : Bool := blockFld f && (decide (0x300 ≤ f.reg.base) && decide (f.reg.base < 0x320))

theorem faultFld_place {f : Fld} (h : faultFld f = true) (p : Nat) : faultless (f.key p) = false := by
  simp only [faultFld, Bool.and_eq_true, decide_eq_true_eq] at h
  obtain ⟨block, above, below⟩ := h
  obtain ⟨low, place⟩ := blockFld_place block p
  simp only [faultless, place, Bool.or_eq_false_iff, decide_eq_false_iff_not]
  omega

theorem SameMemory.trans {m n p : Mach} (h : SameMemory m n) (g : SameMemory n p) : SameMemory m p := by
  obtain ⟨mem, tier, hostMem, host, boot⟩ := h
  obtain ⟨mem', tier', hostMem', host', boot'⟩ := g
  exact ⟨mem'.trans mem, tier'.trans tier, hostMem'.trans hostMem, host'.trans host, boot'.trans boot⟩

theorem Mach.updCore_memory (m : Mach) (s L : Nat) (f : Core → Core) : SameMemory m (m.updCore s L f) := ⟨rfl, rfl, rfl, rfl, rfl⟩

/-- The fault registers, the cores and everything that is no stack are as before. -/
structure FaultKept (m n : Mach) : Prop where
  regs   : RegsKept faultless m n
  memory : SameMemory m n
  cores  : ∀ v, (n.stk v).cores = (m.stk v).cores

namespace FaultKept
variable {m n p : Mach}

theorem refl (m : Mach) : FaultKept m m := ⟨RegsKept.refl m, ⟨rfl, rfl, rfl, rfl, rfl⟩, fun _ => rfl⟩

theorem trans (h : FaultKept m n) (g : FaultKept n p) : FaultKept m p := by
  obtain ⟨regs, memory, cores⟩ := h
  obtain ⟨regs', memory', cores'⟩ := g
  exact ⟨regs.trans regs', memory.trans memory', fun v => (cores' v).trans (cores v)⟩

theorem ite (c : Prop) [Decidable c] (h : FaultKept m n) (g : FaultKept m p) : FaultKept m (if c then n else p) := by split <;> assumption

theorem foldl {α : Type} (f : Mach → α → Mach) (l : List α) (h : ∀ m x, x ∈ l → FaultKept m (f m x)) (m : Mach) : FaultKept m (l.foldl f m) := by
  induction l generalizing m with
  | nil => exact refl m
  | cons x r ih => exact (h m x List.mem_cons_self).trans (ih (fun n y my => h n y (List.mem_cons_of_mem _ my)) _)

/-- A change of a stack that is none of its cores. -/
theorem of_updStk (m : Mach) (s : Nat) (f : Stack → Stack) (regs : RegsKept faultless m (m.updStk s f)) (h : (f (m.stk s)).cores = (m.stk s).cores) :
    FaultKept m (m.updStk s f) := by
  refine ⟨regs, ⟨rfl, rfl, rfl, rfl, rfl⟩, fun v => ?_⟩
  by_cases e : v = s
  · subst e
    by_cases l : v < 4
    · rw [Mach.stk_updStk_same _ _ l, h]
    · rw [Mach.stk_updStk_beyond _ _ l]
  · rw [Mach.stk_updStk_ne _ _ e]

theorem updStk (m : Mach) (s : Nat) (f : Stack → Stack) (csr : (f (m.stk s)).csr = (m.stk s).csr) (h : (f (m.stk s)).cores = (m.stk s).cores) :
    FaultKept m (m.updStk s f) := of_updStk m s f (RegsKept.updStk m s f csr) h

theorem setF (m : Mach) (s : Nat) (f : Fld) (v i : Nat) (h : faultless (f.key i) = true) : FaultKept m (m.setF s f v i) :=
  of_updStk m s _ (RegsKept.setF m s f v i h) rfl

/-- A field set above the blocks of cores. -/
theorem setAbove (m : Mach) (s : Nat) (f : Fld) (v i : Nat) (h : f.lo < 64 ∧ 0x360_0000 ≤ f.reg.base) : FaultKept m (m.setF s f v i) :=
  setF m s f v i (faultless_above h.1 h.2 i)

theorem resetF (m : Mach) (s : Nat) (f : Fld) (i : Nat) (h : apartFld f = true) : FaultKept m (m.resetF s f i) := by
  refine of_updStk m s _ (fun v g j kept => ?_) rfl
  have ne : g.key j ≠ f.key i := fun e => by rw [e, faultless_apart h] at kept; cases kept
  by_cases e : v = s
  · subst e
    by_cases l : v < 4
    · rw [Mach.getF, Mach.stk_updStk_same _ _ l]
      unfold SMap.getD
      rw [SMap.find_erase_ne _ ne]
      rfl
    · rw [Mach.getF, Mach.stk_updStk_beyond _ _ l, Mach.getF]
  · rw [Mach.getF, Mach.stk_updStk_ne _ _ e, Mach.getF]

theorem syncWaiters (m : Mach) (s o : Nat) : FaultKept m (m.syncWaiters s o) :=
  ite _ ((setAbove m s _ _ _ (by decide)).trans (updStk _ _ _ rfl rfl)) (setAbove m s _ _ _ (by decide))

theorem clearLaunchRegs (m : Mach) (s L : Nat) : FaultKept m (m.clearLaunchRegs s L) := by
  refine (((setF m s Reg.CORE_LAUNCH_ACTIVE 0 _ ?_).trans (setF _ s Reg.CORE_LAUNCH_BLOCKS_RESIDENT 0 _ ?_)).trans
    (setF _ s Reg.CORE_LAUNCH_GROUPS_RESIDENT 0 _ ?_)).trans (foldl _ _ (fun m f mem => resetF m s f _ ?_) _)
  case refine_4 => exact (by decide : ∀ f ∈ Reg.CORE_MX_STATUS_fields ++ Reg.CORE_ATT_STATUS_fields.take 5, apartFld f = true) f mem
  all_goals exact faultless_apart (by decide) _

theorem srcEdgeNow (m : Mach) (s x : Nat) : FaultKept m (m.srcEdgeNow s x) := ite _ (setAbove m s _ _ _ (by decide)) (setAbove m s _ _ _ (by decide))

theorem srcEdge (m : Mach) (s x : Nat) : FaultKept m (m.srcEdge s x) :=
  ite _ (refl m) (ite _ (ite _ (setAbove m s _ _ _ (by decide)) (updStk _ _ _ rfl rfl)) (srcEdgeNow m s x))

theorem coreCause (m : Mach) (s p : Nat) : FaultKept m (m.coreCause s p) := (setAbove m s _ _ _ (by decide)).trans (srcEdge _ _ _)

theorem core (h : FaultKept m n) (v M : Nat) : n.core v M = m.core v M := by rw [Mach.core, h.cores, Mach.core]

end FaultKept

/-! ## A fault recorded -/

/-- What the first fault of a core writes to its fault registers (R148). -/
def faultValues (m : Mach) (s L slot block lane cause pc addr word code : Nat) : List FieldVal :=
  let p := m.physOf s L
  [(s, Reg.CORE_FAULT_INFO_CAUSE, p, cause), (s, Reg.CORE_FAULT_INFO_GROUP_SLOT, p, slot), (s, Reg.CORE_FAULT_INFO_BLOCK, p, block),
   (s, Reg.CORE_FAULT_INFO_LANE, p, lane), (s, Reg.CORE_FAULT_INFO_VALID, p, 1), (s, Reg.CORE_FAULT_INFO_CODE, p, code),
   (s, Reg.CORE_FAULT_PC_PC, p, pc), (s, Reg.CORE_FAULT_PC_SCRIPT_INDEX, p, (m.core s L).script), (s, Reg.CORE_FAULT_ADDR_ADDR, p, addr),
   (s, Reg.CORE_FAULT_WORD_WORD, p, word)]

theorem Mach.setFs_faultValues (m : Mach) (s L slot block lane cause pc addr word code : Nat) :
    m.setFs (faultValues m s L slot block lane cause pc addr word code) =
      (((((((((m.setF s Reg.CORE_FAULT_INFO_CAUSE cause (m.physOf s L)).setF s Reg.CORE_FAULT_INFO_GROUP_SLOT slot (m.physOf s L)).setF s
        Reg.CORE_FAULT_INFO_BLOCK block (m.physOf s L)).setF s Reg.CORE_FAULT_INFO_LANE lane (m.physOf s L)).setF s Reg.CORE_FAULT_INFO_VALID 1
        (m.physOf s L)).setF s Reg.CORE_FAULT_INFO_CODE code (m.physOf s L)).setF s Reg.CORE_FAULT_PC_PC pc (m.physOf s L)).setF s
        Reg.CORE_FAULT_PC_SCRIPT_INDEX (m.core s L).script (m.physOf s L)).setF s Reg.CORE_FAULT_ADDR_ADDR addr (m.physOf s L)).setF s
        Reg.CORE_FAULT_WORD_WORD word (m.physOf s L) := rfl

/-- One more field set after others. -/
theorem Mach.setFs_snoc (m : Mach) (fs : List FieldVal) (s : Nat) (f : Fld) (v i : Nat) : m.setFs (fs ++ [(s, f, i, v)]) = (m.setFs fs).setF s f v i := by
  rw [Mach.setFs, List.foldl_append]
  rfl

/-- A fault sets fields, the values of the first fault when there has been none, and then its unit is discarded. -/
theorem Mach.recordFault_eq (m : Mach) (s L slot block lane cause pc addr word code : Nat) : ∃ fs late,
    m.recordFault s L slot block lane cause pc addr word code =
      ((((m.setFs fs).discardUnit s L .fault).clearLaunchRegs s L).updCore s L (fun k => { k with late := some late })).coreCause s (m.physOf s L) ∧
    (m.getB s Reg.CORE_FAULT_INFO_VALID (m.physOf s L) = false → fs = faultValues m s L slot block lane cause pc addr word code) := by
  unfold Mach.recordFault
  dsimp only
  rw [← Mach.setFs_faultValues]
  cases first : m.getB s Reg.CORE_FAULT_INFO_VALID (m.physOf s L) with
  | false =>
    simp only [Bool.false_and, Bool.false_eq_true, if_false]
    exact ⟨_, _, rfl, fun _ => rfl⟩
  | true =>
    simp only [if_true, Bool.true_and]
    split
    · exact ⟨[(s, Reg.CORE_FAULT_INFO_MULTIPLE, m.physOf s L, 1)], _, rfl, fun h => by cases h⟩
    · rw [← Mach.setFs_snoc]
      exact ⟨_, _, rfl, fun h => by cases h⟩

theorem Mach.discardUnit_kept (m : Mach) (s L : Nat) (h : CoreHalt) : FaultKept (m.updCore s L (fun c => c.discarded h)) (m.discardUnit s L h) :=
  FaultKept.foldl _ _ (fun m o _ => FaultKept.syncWaiters m s o) _

theorem Mach.setFs_memory (fs : List FieldVal) (m : Mach) : SameMemory m (m.setFs fs) := by
  induction fs generalizing m with
  | nil => exact ⟨rfl, rfl, rfl, rfl, rfl⟩
  | cons e r ih => exact ih _

theorem faultValues_different (m : Mach) (s L slot block lane cause pc addr word code : Nat) :
    (placesOf (faultValues m s L slot block lane cause pc addr word code)).Nodup := by
  refine placesOf_block (p := m.physOf s L) ?_ ?_
  · simp only [faultValues, List.forall_mem_cons, List.not_mem_nil, false_implies, implies_true, and_true]
    decide
  · simp only [faultValues, List.map]
    decide

theorem faultValues_own (m : Mach) (s L slot block lane cause pc addr word code : Nat) :
    ∀ e ∈ faultValues m s L slot block lane cause pc addr word code, e.1 = s ∧ faultFld e.2.1 = true := by
  simp only [faultValues, List.forall_mem_cons, List.not_mem_nil, false_implies, implies_true, and_true]
  decide

/-- A fault leaves the memories and the other cores; its own core is discarded, and its registers hold the fault if they held none. -/
theorem Mach.recordFault_leaves (m : Mach) {s : Nat} (L slot block lane cause pc addr word code : Nat) (lt : s < 4) :
    let n := m.recordFault s L slot block lane cause pc addr word code
    SameMemory m n ∧ (∀ v M, v ≠ s ∨ M ≠ L → n.core v M = m.core v M) ∧
    (∃ late, n.core s L = { (m.core s L).discarded .fault with late := some late }) ∧
    (m.getB s Reg.CORE_FAULT_INFO_VALID (m.physOf s L) = false →
      ∀ e ∈ faultValues m s L slot block lane cause pc addr word code, n.getF e.1 e.2.1 e.2.2.1 = e.2.2.2 % 2 ^ e.2.1.width) := by
  obtain ⟨fs, late, is, first⟩ := m.recordFault_eq s L slot block lane cause pc addr word code
  have discards := ((m.setFs fs).discardUnit_kept s L .fault).trans (FaultKept.clearLaunchRegs _ s L)
  have tells := FaultKept.coreCause ((((m.setFs fs).discardUnit s L .fault).clearLaunchRegs s L).updCore s L (fun k => { k with late := some late })) s (m.physOf s L)
  rw [is]
  refine ⟨?_, fun v M ne => ?_, ⟨late, ?_⟩, fun none e mem => ?_⟩
  · exact (m.setFs_memory fs).trans (SameMemory.trans (Mach.updCore_memory ..)
      (discards.memory.trans (SameMemory.trans (Mach.updCore_memory ..) tells.memory)))
  · rw [tells.core, Mach.core_updCore_ne _ _ ne, discards.core, Mach.core_updCore_ne _ _ ne, Mach.core_setFs]
  · rw [tells.core, Mach.core_updCore_same _ _ _ lt, discards.core, Mach.core_updCore_same _ _ _ lt, Mach.core_setFs]
  · have own := faultValues_own m s L slot block lane cause pc addr word code
    have different := faultValues_different m s L slot block lane cause pc addr word code
    rw [← first none] at own different mem
    have place := faultFld_place (own e mem).2 e.2.2.1
    rw [tells.regs _ _ _ place, Mach.getF_updCore, discards.regs _ _ _ place, Mach.getF_updCore]
    exact Mach.getF_setFs_listed fs m different (fun x mx => by rw [(own x mx).1]; exact lt) e mem

theorem Core.discarded_leaves (c : Core) (h : CoreHalt) : (c.discarded h).halt = h ∧ (c.discarded h).running = false ∧ (c.discarded h).groups = [] ∧
    (c.discarded h).stores = [] ∧ (c.discarded h).staged = [] ∧ (c.discarded h).regs = c.regs := ⟨rfl, rfl, rfl, rfl, rfl, rfl⟩

/-! ## TRAP -/

theorem trap_faults {a : KInstr} {s : State} {k : KCtx} (h : Issues a s 0 0x04 k) {l : Nat} (low : k.lowest = some l)
    (noStores : ∀ p ∈ (s.m.core k.s k.L).stores, p.slot ≠ k.slot) : Lands (.trap a) s (fun t =>
      t.fuse = s.fuse ∧ t.pending = s.pending ∧ SameMemory s.m t.m ∧ SameCores s t k.s k.L ∧
      (let d := t.m.core k.s k.L
       d.halt = .fault ∧ d.running = false ∧ d.groups = [] ∧ d.stores = [] ∧ d.staged = [] ∧ d.regs = (s.m.core k.s k.L).regs) ∧
      (s.m.getB k.s Reg.CORE_FAULT_INFO_VALID (s.m.physOf k.s k.L) = false →
        Holds t (k.faultFields s.m (s.m.physOf k.s k.L) 0x12 l (Iw.imm12 k.w)))) := by
  have lt := h.stack_lt
  have issued := h.runs (fun k m => match k.lowest with | some l => k.fault m 0x12 l 0 (Iw.imm12 k.w) | none => k.next m)
  have faults : k.fault s.m 0x12 l 0 (Iw.imm12 k.w) = s.m.recordFault k.s k.L k.slot k.g.block l 0x12 k.g.pc 0 k.w (Iw.imm12 k.w) := by
    have drained := KCtx.drained_none noStores
    unfold KCtx.fault
    rw [KCtx.fenced_drained (by rw [drained]), drained]
    rfl
  simp only [low, faults] at issued
  obtain ⟨memory, others, ⟨late, own⟩, told⟩ := s.m.recordFault_leaves k.L k.slot k.g.block l 0x12 k.g.pc 0 k.w (Iw.imm12 k.w) lt
  refine ⟨_, issued, rfl, rfl, memory, fun v M ne => (Mach.core_stepped_ne _ ne).trans (others v M ne), ?_, fun first e mem => ?_⟩
  · dsimp only
    rw [Mach.core_stepped_same _ _ lt, own]
    exact Core.discarded_leaves _ _
  · exact (Mach.getF_stepped ..).trans (told first e mem)

/-- Settles O10: branches and exits are changes of one group or core; the fault of TRAP spares memory, other cores and its own registers. -/
theorem controlFlowOfAGroup : Obligations.ControlFlowOfAGroup := by
  unfold Obligations.ControlFlowOfAGroup
  intro a s k
  refine ⟨fun h => h.goes rfl rfl, bra_moves, brx_moves, fun h => ⟨fun some => ?_, exit_lands h⟩, fun h => ⟨fun none => h.goes rfl (by rw [none]), ?_⟩⟩
  · exact h.moves (exec_exit a s) (fun _ => _) (k.exits_some s.m some)
  · exact fun l low noStores => trap_faults h low noStores

end Sys2Proof.Machine
end


section
/-! SUPPORT. O11: stores on their way, loads at the home, CACHE.DEAD and the fences (R104, R105, R107, R108, R138, R139, R143). -/

namespace Sys2Proof.Machine
set_option Elab.async false

/-! ## Instructions after which the group goes on -/

section
variable {a : KInstr} {s : State} {k : KCtx} {c : Instr} {cls op : Nat} {body : KCtx → Mach → Mach}

/-- An instruction that brings the machine to m, and then the group goes on. -/
theorem Issues.goesAfter (h : Issues a s cls op k) (runs : exec c s = kernel a s cls op body) {m : Mach} (does : body k s.m = k.next m) :
    Lands c s (fun t => Becomes k { s with m := m } t (k.goesOn (m.core k.s k.L))) := by
  have issued := h.runs body
  rw [does, KCtx.next_eq] at issued
  exact ⟨_, runs.trans issued, Becomes.after k s m k.goesOn h.stack_lt⟩

/-- An instruction that changes its core by f, and then the group goes on. -/
theorem Issues.goesWith (h : Issues a s cls op k) (runs : exec c s = kernel a s cls op body) (f : Core → Core)
    (does : body k s.m = k.next (s.m.updCore k.s k.L f)) : Lands c s (fun t => Becomes k s t (k.goesOn (f (s.m.core k.s k.L)))) := by
  have issued := h.runs body
  rw [does, KCtx.next_eq, Mach.updCore_updCore _ _ _ _ h.stack_lt] at issued
  exact ⟨_, runs.trans issued, Becomes.after k s s.m (fun c => k.goesOn (f c)) h.stack_lt⟩

end

/-! ## FENCE -/

/-- A fence lets its group go on once the group's stores are performed (R108). -/
theorem fence_lands {a : KInstr} {s : State} {k : KCtx} {c : Instr} {op : Nat} (h : Issues a s 11 op k)
    (runs : exec c s = kernel a s 11 op (fun k m => k.fenced m k.next)) :
    ((∀ p ∈ (s.m.core k.s k.L).stores, p.slot ≠ k.slot) → Moves c s k (k.g.goto (k.g.pc + k.size))) ∧
    ((k.drained s.m).2 = true → Lands c s (fun t => Becomes k { s with m := (k.drained s.m).1 } t (k.goesOn ((k.drained s.m).1.core k.s k.L)))) := by
  refine ⟨fun noStores => h.goes runs ?_, fun drained => h.goesAfter runs (KCtx.fenced_drained drained k.next)⟩
  have none := KCtx.drained_none noStores
  exact (KCtx.fenced_drained (by rw [none]) k.next).trans (by rw [none])

/-! ## CACHE.DEAD -/

/-- Declarations of lines of region 0x4 that may be read and are not read-only meet no fault, and are staged (R143). -/
theorem cacheDead_lands {a : KInstr} {s : State} {k : KCtx} (h : Issues a s 12 0x00 k) :
    let c := s.m.core k.s k.L
    let fs := k.lanes.map (fun l => (l, k.form s.m l (memOffset k.w k.x false false)))
    (∀ e ∈ fs, ∃ A, e.2 = .ok A ∧ A % 128 = 0 ∧ daRegion A = 4 ∧ readDeny (.kernel k.L) (s.m.place s.fuse.part.stackCount A) = none ∧ s.m.readOnly A = false) →
    Lands (.cacheDead a) s (fun t => Becomes k s t (k.goesOn { c with staged := c.staged ++ (fs.map (fun e => e.2.addr)).eraseDups.map Staged.dead })) := by
  intro c fs lines
  refine h.goesWith (c := .cacheDead a) rfl (fun c => { c with staged := c.staged ++ (fs.map (fun e => e.2.addr)).eraseDups.map Staged.dead }) ?_
  dsimp only
  rw [List.flatMap_eq_nil_iff.mpr fun e mem => ?allowed]
  case allowed =>
    obtain ⟨A, formed, aligned, region, allowed, writable⟩ := lines e mem
    simp [formed, Formed.addr, aligned, region, allowed, writable]
  rfl

/-! ## ST -/

theorem st_lands {a : KInstr} {s : State} {k : KCtx} (h : Issues a s 9 0x01 k) :
    let n := s.fuse.part.stackCount
    let c := s.m.core k.s k.L
    let fs := k.lanes.map (fun l => (l, k.form s.m l (memOffset k.w k.x false false)))
    let size := 2 ^ bits k.w 42 3
    firstFault (fs.flatMap (fun e => k.accessFaults s.m n 8 size (some false) e.1 e.2)) = none →
    Lands (.st a) s (fun t => Becomes k s t (k.goesOn { c with
      stores := c.stores ++ (fs.filter (fun e => !s.m.cut n k.s (daStack e.2.addr))).map
        (fun e => ⟨k.slot, e.2.addr, leBytes size (k.get s.m e.1 (Iw.srcB k.w) (widthRegs (bits k.w 42 3)))⟩) })) := by
  intro n c fs size noFault
  refine h.goesWith (c := .st a) rfl (fun c => { c with
    stores := c.stores ++ (fs.filter (fun e => !s.m.cut n k.s (daStack e.2.addr))).map
      (fun e => ⟨k.slot, e.2.addr, leBytes size (k.get s.m e.1 (Iw.srcB k.w) (widthRegs (bits k.w 42 3)))⟩) }) ?_
  unfold widthBytes
  dsimp only
  rw [noFault]

end Sys2Proof.Machine
end


section
/-! SUPPORT. O11: a load of clean bytes of the core's own SRAM changes its destination alone (R104, R107, R138). -/

namespace Sys2Proof.Machine
set_option Elab.async false

/-! ## What a change of a core leaves of the machine that loads see -/

theorem SMap.findSome?_put {α β : Type} (f : Nat × α → Option β) (l : SMap α) (k : Nat) (v : α) (skips : ∀ x, f (k, x) = none) :
    (SMap.put l k v).findSome? f = l.findSome? f := by
  induction l with
  | nil => simp [SMap.put, skips]
  | cons e r ih =>
    obtain ⟨j, x⟩ := e
    unfold SMap.put
    split
    · next same => subst same; simp [skips]
    · split
      · simp [skips]
      · rw [List.findSome?_cons, List.findSome?_cons, ih]

/-- A core's own change leaves the committed bytes that it sees of others. -/
theorem Mach.committedByte_updCore (m : Mach) (u L : Nat) (f : Core → Core) (a : Nat) (b : PByte) :
    (m.updCore u L f).committedByte u L a b = m.committedByte u L a b := by
  have cores (t : Nat) : ((m.updCore u L f).stk t).cores.findSome? (fun e => if t = u ∧ e.1 = L then none else SMap.find e.2.shadow a) =
      (m.stk t).cores.findSome? (fun e => if t = u ∧ e.1 = L then none else SMap.find e.2.shadow a) := by
    by_cases same : t = u
    · subst same
      by_cases lt : t < 4
      · unfold Mach.updCore
        rw [Mach.stk_updStk_same _ _ lt]
        exact SMap.findSome?_put _ _ _ _ fun x => if_pos ⟨rfl, rfl⟩
      · unfold Mach.updCore
        rw [Mach.stk_updStk_beyond _ _ lt]
    · unfold Mach.updCore
      rw [Mach.stk_updStk_ne _ _ same]
  unfold Mach.committedByte
  simp only [cores]

theorem Mach.vcp_updCore (m : Mach) (u L v : Nat) (f : Core → Core) : ((m.updCore u L f).stk v).vcp = (m.stk v).vcp := by
  unfold Mach.updCore
  by_cases same : v = u
  · subst same
    by_cases lt : v < 4
    · rw [Mach.stk_updStk_same _ _ lt]
    · rw [Mach.stk_updStk_beyond _ _ lt]
  · rw [Mach.stk_updStk_ne _ _ same]

theorem Mach.physOf_updCore (m : Mach) (u L v M : Nat) (f : Core → Core) : (m.updCore u L f).physOf v M = m.physOf v M := m.getF_updCore u L v f _ _

/-! ## A load of clean bytes -/

/-- The bytes of a load of k lie quiet in its own stack, come clean, and are delivered as their home holds them. -/
structure KCtx.Plain (k : KCtx) (m : Mach) (size a : Nat) : Prop where
  own     : daStack a = k.s
  quiet   : m.Quiet a size
  clean   : ∀ i, i < size → (k.sees m (a + i)).poison = 0
  crossed : ∀ x ∈ (m.stk k.s).vcp.crossed, x.1 = m.physOf k.s k.L → x.2.1 + 8 ≤ a ∨ a + size ≤ x.2.1

/-- A byte of local or accumulator memory at its home is that of its cell. -/
theorem Mach.homeByte_quiet {m : Mach} {a n i : Nat} (quiet : m.Quiet a n) (lt : i < n) : m.homeByte (a + i) = m.mem.readByte (a + i) := by
  obtain ⟨region, -, each⟩ := quiet
  have here : daRegion (a + i) = 1 ∨ daRegion (a + i) = 2 := by rw [(each i lt).1]; exact region
  unfold Mach.homeByte Mach.sramByte Mach.rowFailed
  rcases here with r | r <;> rw [r] <;> rfl

theorem Mach.performRead_quiet {m : Mach} {a n : Nat} (alloc : Bool) (quiet : m.Quiet a n) :
    m.performRead alloc a n = (m, (List.range n).map (fun i => m.homeByte (a + i))) := by
  have sram : daRegion a ≠ 4 := by rcases quiet.1 with r | r <;> rw [r] <;> decide
  have bytes : m.homeBytes a n = (List.range n).map (fun i => m.homeByte (a + i)) := by
    refine List.map_congr_left fun i mem => ?_
    have lt := List.mem_range.mp mem
    obtain ⟨-, within, -⟩ := quiet
    rw [Nat.mod_eq_of_lt (by omega)]
  unfold Mach.performRead
  rw [if_neg sram]
  dsimp only
  rw [Mach.detectHome_quiet quiet, bytes]

namespace KCtx.Plain
variable {k : KCtx} {m : Mach} {size a : Nat}

/-- Nothing that crossed the core's port otherwise than its home holds it meets the bytes. -/
theorem throughPort (h : k.Plain m size a) (bs : List PByte) (length : bs.length = size) : m.throughPort k.s k.L a bs = (m, bs) := by
  unfold Mach.throughPort
  refine if_neg ?_
  rw [List.any_eq_true]
  rintro ⟨x, mem, meets⟩
  have apart := h.crossed x mem
  simp only [Bool.and_eq_true, decide_eq_true_eq, length] at meets
  obtain ⟨⟨mine, below⟩, above⟩ := meets
  have := apart mine
  omega

/-- The core reads the bytes at their home, and nothing else happens. -/
theorem coreRead (h : k.Plain m size a) : m.coreRead k.s k.L a size = (m, (List.range size).map (fun i => m.homeByte (a + i))) := by
  have far : m.nearOn k.s k.L a = false := by
    unfold Mach.nearOn
    rcases h.quiet.1 with r | r <;> rw [r] <;> simp
  unfold Mach.coreRead
  rw [far]
  dsimp only
  rw [Mach.performRead_quiet true h.quiet]
  exact h.throughPort _ (by simp)

theorem loadBytes (h : k.Plain m size a) : k.loadBytes m a size = (m, (List.range size).map (fun i => k.sees m (a + i))) := by
  unfold KCtx.loadBytes
  rw [h.coreRead]
  refine Prod.ext rfl (List.ext_getElem (by simp) fun i _ _ => ?_)
  simp [KCtx.sees]

/-- What a load of the bytes sees does not depend on the registers of its core. -/
theorem sees_regs (h : k.Plain m size a) {f : Core → Core} (lt : k.s < 4) (only : Core.regsOnly (m.core k.s k.L) (f (m.core k.s k.L))) {i : Nat} (within : i < size) :
    k.sees (m.updCore k.s k.L f) (a + i) = k.sees m (a + i) := by
  obtain ⟨regs, is⟩ := only
  have home : (m.updCore k.s k.L f).homeByte (a + i) = m.homeByte (a + i) := by
    rw [Mach.homeByte_quiet h.quiet within]
    exact Mach.homeByte_quiet (m := m.updCore k.s k.L f) h.quiet within
  have stored (slot b : Nat) : ((m.updCore k.s k.L f).core k.s k.L).storedAt slot b = (m.core k.s k.L).storedAt slot b := by
    rw [Mach.core_updCore_same _ _ _ lt, is]
    rfl
  unfold KCtx.sees Mach.overlay
  simp only [stored, home, Mach.committedByte_updCore]

theorem regs (h : k.Plain m size a) {f : Core → Core} (lt : k.s < 4) (only : Core.regsOnly (m.core k.s k.L) (f (m.core k.s k.L))) :
    k.Plain (m.updCore k.s k.L f) size a where
  own := h.own
  quiet := h.quiet
  clean := fun i within => by rw [h.sees_regs lt only within]; exact h.clean i within
  crossed := by rw [Mach.vcp_updCore, Mach.physOf_updCore]; exact h.crossed

theorem loaded_regs (h : k.Plain m size a) {f : Core → Core} (lt : k.s < 4) (only : Core.regsOnly (m.core k.s k.L) (f (m.core k.s k.L))) :
    k.loaded (m.updCore k.s k.L f) size a = k.loaded m size a := by
  have same : (List.range size).map (fun i => k.sees (m.updCore k.s k.L f) (a + i)) = (List.range size).map (fun i => k.sees m (a + i)) :=
    List.map_congr_left fun i mem => h.sees_regs lt only (List.mem_range.mp mem)
  unfold KCtx.loaded
  rw [same]

end KCtx.Plain

/-! ## The register that clean bytes give -/

theorem PByte.joined_clean {bs : List PByte} (clean : ∀ b ∈ bs, b.poison = 0) : PByte.joined bs = 0 := by
  unfold PByte.joined
  induction bs with
  | nil => rfl
  | cons b r ih =>
    rw [List.foldl_cons, clean b List.mem_cons_self]
    exact ih fun x mem => clean x (List.mem_cons_of_mem _ mem)

theorem regOfBytes_clean (a : Nat) {bs : List PByte} (v : Nat) (clean : ∀ b ∈ bs, b.poison = 0) : regOfBytes a bs v = { val := BitVec.ofNat 32 v } := by
  unfold regOfBytes
  dsimp only
  rw [PByte.joined_clean clean, if_pos rfl]

/-- Bits lo to lo + 31 of a value, as a register. -/
theorem ofNat_bits (v lo : Nat) : BitVec.ofNat 32 (bits v lo 32) = BitVec.ofNat 32 (v / 2 ^ lo) := by
  apply BitVec.eq_of_toNat_eq
  simp [bits]

/-- A load of clean bytes writes them to its lane's destination, least significant first, a narrow one extended as asked. -/
theorem KCtx.loadLane_plain {k : KCtx} {m : Mach} {size a : Nat} (h : k.Plain m size a) (lane : Nat) :
    k.loadLane m size lane a = m.updCore k.s k.L (fun c => c.setOperand k.slot lane (Iw.dst k.w) (max 1 (size / 4)) (k.loaded m size a)) := by
  have clean : ∀ b ∈ (List.range size).map (fun i => k.sees m (a + i)), b.poison = 0 := by
    intro b mem
    obtain ⟨i, within, rfl⟩ := List.mem_map.mp mem
    exact h.clean i (List.mem_range.mp within)
  unfold KCtx.loadLane
  rw [h.loadBytes]
  refine congrArg (m.updCore k.s k.L) (funext fun c => ?_)
  dsimp only
  unfold Core.setOperand KCtx.loaded
  by_cases narrow : size < 4
  · rw [if_pos narrow, regOfBytes_clean a _ clean, show max 1 (size / 4) = 1 by omega]
    simp [narrow, List.range_succ]
  · have part (i : Nat) (b : PByte) (mem : b ∈ (((List.range size).map (fun i => k.sees m (a + i))).drop (4 * i)).take 4) : b.poison = 0 :=
      clean b (List.mem_of_mem_drop (List.mem_of_mem_take mem))
    rw [if_neg narrow, show max 1 (size / 4) = size / 4 by omega, if_neg (fun both => narrow both.1)]
    simp only [fun i v => regOfBytes_clean (a + 4 * i) v (part i), ofNat_bits]

/-! ## The lanes of a load -/

/-- The loads of lanes that read clean bytes write their destinations, and no more. -/
theorem KCtx.loadLanes_plain {k : KCtx} (n size : Nat) (l : List (Nat × Nat)) (m : Mach) (lt : k.s < 4) (plain : ∀ e ∈ l, k.Plain m size e.2) (g : Core → Core) :
    (k.loadLanes m n size l).updCore k.s k.L g = m.updCore k.s k.L (fun c =>
      g (l.foldl (fun c e => c.setOperand k.slot e.1 (Iw.dst k.w) (max 1 (size / 4)) (k.loaded m size e.2)) c)) := by
  induction l generalizing m with
  | nil => rfl
  | cons e r ih =>
    have here := plain e List.mem_cons_self
    have only := Core.setOperand_only (m.core k.s k.L) k.slot e.1 (Iw.dst k.w) (max 1 (size / 4)) (k.loaded m size e.2)
    have step : k.loadLanes m n size (e :: r) =
        k.loadLanes (m.updCore k.s k.L (fun c => c.setOperand k.slot e.1 (Iw.dst k.w) (max 1 (size / 4)) (k.loaded m size e.2))) n size r := by
      unfold KCtx.loadLanes
      rw [List.foldl_cons, here.own, Mach.cut_self, if_neg (by decide), KCtx.loadLane_plain here]
    have rest := fun x mem => plain x (List.mem_cons_of_mem e mem)
    rw [step, ih _ fun x mem => (rest x mem).regs lt only, Mach.updCore_updCore _ _ _ _ lt]
    refine congrArg (m.updCore k.s k.L) (funext fun c => congrArg g ?_)
    rw [List.foldl_cons]
    exact List.foldl_ext _ _ _ fun d x mem => by rw [(rest x mem).loaded_regs lt only]

/-- The registers of a load are those of its width, and fit (Table KF-11). -/
theorem Issues.load_fits {a : KInstr} {s : State} {k : KCtx} (h : Issues a s 9 0x00 k) : Iw.dst k.w + max 1 (2 ^ bits k.w 42 3 / 4) ≤ 256 := by
  have legal := h.legal
  obtain ⟨cls, op⟩ := h.word
  have enc : encOf k.w k.x = encMem k.w k.x := by unfold encOf; rw [cls]; rfl
  have dsts : (encMem k.w k.x).dsts = [(Iw.dst k.w, widthRegs (bits k.w 42 3))] := by unfold encMem; rw [op]; rfl
  have width : bits k.w 42 3 ≤ 4 := by
    rw [enc] at legal
    simp only [encMem, op, if_true, Bool.and_eq_true, decide_eq_true_eq] at legal
    exact legal.1.2
  have regs : max 1 (2 ^ bits k.w 42 3 / 4) = widthRegs (bits k.w 42 3) ∧
      (widthRegs (bits k.w 42 3) = 1 ∨ widthRegs (bits k.w 42 3) = 2 ∨ widthRegs (bits k.w 42 3) = 4) := by
    generalize bits k.w 42 3 = c at width
    interval_cases c <;> decide
  rw [regs.1]
  exact h.dst_fits (by rw [enc, dsts]; exact List.mem_singleton.mpr rfl) regs.2

/-- Lanes that read clean bytes write their destinations, and the group goes on. -/
theorem KCtx.next_loadLanes_plain {k : KCtx} {m : Mach} (n size : Nat) {fs : List (Nat × Formed)} {form : Nat → Formed} (is : fs = k.lanes.map (fun l => (l, form l)))
    (lt : k.s < 4) (plain : ∀ e ∈ fs, k.Plain m size e.2.addr) :
    k.next (k.loadLanes m n size (fs.map (fun e => (e.1, e.2.addr)))) = k.writeD m (max 1 (size / 4)) (fun l => k.loaded m size (form l).addr) := by
  have each : ∀ e ∈ fs.map (fun e => (e.1, e.2.addr)), k.Plain m size e.2 := by
    intro e mem
    obtain ⟨x, at_, rfl⟩ := List.mem_map.mp mem
    exact plain x at_
  unfold KCtx.writeD
  rw [KCtx.next_eq, KCtx.next_eq, KCtx.loadLanes_plain n size _ m lt each, Mach.updCore_updCore _ _ _ _ lt, is, List.map_map]
  simp only [List.foldl_map, Function.comp]

theorem ld_lands {a : KInstr} {s : State} {k : KCtx} (h : Issues a s 9 0x00 k) :
    let n := s.fuse.part.stackCount
    let fs := k.lanes.map (fun l => (l, k.form s.m l (memOffset k.w k.x false false)))
    let size := 2 ^ bits k.w 42 3
    firstFault (fs.flatMap (fun e => k.accessFaults s.m n 8 size none e.1 e.2)) = none →
    fs.any (fun e => s.m.coreReadHeld k.s k.L e.2.addr size) = false →
    (let m1 := k.loadLanes s.m n size (fs.map (fun e => (e.1, e.2.addr)))
     Lands (.ld a) s (fun t => Becomes k { s with m := m1 } t (k.goesOn (m1.core k.s k.L)))) ∧
    ((∀ e ∈ fs, daStack e.2.addr = k.s ∧ s.m.Quiet e.2.addr size ∧ (∀ i, i < size → (k.sees s.m (e.2.addr + i)).poison = 0) ∧
        ∀ x ∈ (s.m.stk k.s).vcp.crossed, x.1 = s.m.physOf k.s k.L → x.2.1 + 8 ≤ e.2.addr ∨ e.2.addr + size ≤ x.2.1) →
      Writes (.ld a) s k (max 1 (size / 4)) (fun l => k.loaded s.m size (k.form s.m l (memOffset k.w k.x false false)).addr)) := by
  intro n fs size noFault free
  have runs : exec (.ld a) s = .next { s with m := (k.next (k.loadLanes s.m n size (fs.map (fun e => (e.1, e.2.addr))))).stepped k.s k.L } := by
    show execLd a s = _
    unfold execLd
    rw [h.runs]
    unfold widthBytes
    dsimp only
    rw [noFault]
    dsimp only
    rw [free, if_neg (by decide)]
  refine ⟨⟨_, runs, ?_⟩, fun reads => ?_⟩
  · rw [KCtx.next_eq]
    exact Becomes.after k s _ k.goesOn h.stack_lt
  · have plain : ∀ e ∈ fs, k.Plain s.m size e.2.addr := fun e mem => by
      obtain ⟨own, quiet, clean, crossed⟩ := reads e mem
      exact ⟨own, quiet, clean, crossed⟩
    rw [KCtx.next_loadLanes_plain n size rfl h.stack_lt plain] at runs
    exact ⟨_, runs, writeD_spec _ _ h.stack_lt h.group h.load_fits⟩

/-- Settles O11: stores, declarations and fences change their core alone; loads of clean bytes leave the machine for the next lane as it was but for registers. -/
theorem loadsStoresAndFences : Obligations.LoadsStoresAndFences := by
  unfold Obligations.LoadsStoresAndFences
  intro a s k n c fs size
  refine ⟨st_lands, ld_lands, cacheDead_lands, ?_⟩
  simp only [List.forall_mem_cons, List.not_mem_nil, false_implies, implies_true, and_true]
  exact ⟨fun h => fence_lands h rfl, fun h => fence_lands h rfl, fun h => fence_lands h rfl⟩

end Sys2Proof.Machine
end
